-- ==== Sys2Proof/Word.lean ====
section
/-! DEFINITION. Word.lean: the widths of the GN-9640's words (R8, R10, R12), and nothing more. -/

namespace Sys2Proof

abbrev Byte := BitVec 8
abbrev W16 := BitVec 16
abbrev W32 := BitVec 32
/-- Counters of the keeper and of the timer banks (R347, R450). -/
abbrev W48 := BitVec 48
abbrev W64 := BitVec 64

/-- A string of bytes, byte 0 first (R8). -/
abbrev Bytes := List Byte

/-- Host port 0 or 1 (R44). -/
abbrev HPort := Fin 2
/-- Device port 0-95 (R28). -/
abbrev DPort := Fin 96
/-- Tenant number: bit 11 the host port, bits [10:0] the VF number less 1 (R49). -/
abbrev Tenant := BitVec 12
/-- Queue number within a tenant (R106). -/
abbrev QNum := Fin 8
/-- Subchannel number, 0-262,143 (R92, R112). -/
abbrev SC := BitVec 18
/-- Cage 0-11 (R28). -/
abbrev CageNum := Fin 12
/-- Numbered power domain 0-61 (R427). -/
abbrev Dom := Fin 62
/-- Channel die 1-4, held as 0-3 (R24). -/
abbrev Die := Fin 4
/-- Block mover 0-15 (R240). -/
abbrev MoverNum := Fin 16
/-- Hild-14 pair: Lamp pair k of channel die d is 10(d - 1) + k, the Tender is 40 (R290). -/
abbrev PairNum := Fin 41
/-- Event unit: 0 the hub's, d the one of channel die d (R325). -/
abbrev EvUnit := Fin 5
/-- Timer bank: 0 the hub's, d the one of channel die d (R346). -/
abbrev BankNum := Fin 5
/-- Timer channel of a bank (R346). -/
abbrev ChanNum := Fin 16
/-- Host mailbox of a PF (R339). -/
abbrev MbxNum := Fin 16
/-- Exchange tag of a port (R268). -/
abbrev Tag := BitVec 12
/-- General register of a Hild-14 core (R305). -/
abbrev Reg := BitVec 4

end Sys2Proof
end

