-- ==== Sys2Proof/Syntax.lean ====
section
/-! DEFINITION. Syntax.lean: the commands of the GN-9640, one constructor per row of spec/opcode_table.json, and the kinds of
value they carry. A command says WHICH happening comes about; where the happening brings data from outside (bytes a read
returns, a received frame, a measured temperature), the command carries that data. -/

namespace Sys2Proof

/-- A PCIe function of the module: the PF of a host port, or a VF, which is a tenant (R48, R49). -/
inductive Fn where
  | pf (p : HPort)
  | vf (t : Tenant)
deriving DecidableEq, Repr

/-- How a DMA read of the device ended at the host (R65): data, Unsupported Request or Completer Abort, or a poisoned
completion or completion timeout. -/
inductive Dma where
  | ok (data : Bytes)
  | refused
  | failed
deriving DecidableEq, Repr

/-- What the ECC of a word or granule says at a read (R215, R218): nothing, a corrected error, an uncorrectable error, each
with the row and the bit within the row that the fault-log entry names (R425), or poison status (R216). -/
inductive Ecc where
  | good
  | corrected (row : BitVec 24) (bit : BitVec 16)
  | uncorrectable (row : BitVec 24) (bit : BitVec 16)
  | poison
deriving DecidableEq, Repr

/-- What one HBM controller is asked for in a window (R226): the requests that come, in order, each the granule it is for and whether it is the
scrubber's, and whether bulk requests are waiting. -/
structure CtrlLoad where
  reqs : List (BitVec 30 × Bool)
  bulkWaits : Bool
deriving DecidableEq, Repr

/-- What the controllers of the two stacks are asked for in a window (R226). -/
structure WindowLoad where
  c0 : CtrlLoad
  c1 : CtrlLoad
deriving DecidableEq, Repr

/-- An aligned read of a register window (R56, R59): its first byte and the byte enables from there on. -/
structure WindowRead where
  off : Nat
  lanes : List Bool
deriving DecidableEq, Repr

/-- A frame that checks 1 to 3 discard (R263, R271): its wire cost, and whether its header is good and of the control class, so that it uses a
control credit. -/
structure Discarded where
  wireCost : Nat
  ctrl : Bool
deriving DecidableEq, Repr

/-- The DMA reads that the device keeps outstanding (R46, R65), by what they read. -/
inductive ReadKey where
  | entry (t : Tenant) (q : QNum)
  | group (sc : SC) (addr : W64)
  | segments (sc : SC)
  | columnMap (sc : SC)
  | output (sc : SC)
  | readback (sc : SC)
  | orderSlot (p : HPort)
  | lightList (p : HPort)
  | image (p : HPort)
  | faultLog (p : HPort)
deriving DecidableEq, Repr

/-- The link power states of a host port (R45, R73). -/
inductive L1State where
  | l0
  | l1
  | l11
deriving DecidableEq, Repr

/-- Link rates of R44, in units of 0.5 GT/s: 2.5, 5, 8, 16, 32 and 64 GT/s. -/
inductive LinkRate where
  | g2_5 | g5 | g8 | g16 | g32 | g64
deriving DecidableEq, Repr

/-- Link widths of R44. -/
inductive LinkWidth where
  | x1 | x2 | x4 | x8 | x16
deriving DecidableEq, Repr

/-- Writes of a function's configuration space that have no row of their own (R45-R50, R71-R76). -/
inductive CfgWrite where
  | memorySpaceEnable (v : Bool)
  | numVfs (n : Nat)
  | maxPayload (bytes : Nat)
  | maxReadRequest (bytes : Nat)
  | pmeEnable (v : Bool)
  | pmeStatusClear
  | msixEnableClear
  | functionMaskSet
  | aspm (l1 l11 : Bool)
  | completionTimeout (ticks : Nat)
  | vfBusMasterEnable (v : Bool)
  | bar (n : Fin 6) (v : W32)
  | vfBar (n : Fin 6) (v : W32)
  | ariCapable (v : Bool)
  | ecrc (generate check : Bool)
  | aerStatusClear (v : W32)
  | aerMask (v : W32)
deriving DecidableEq, Repr

/-- The target of a host write: the function's memory window, at a byte offset that is a multiple of 4, one lane a byte (none
where the byte enable is clear), or its configuration space (R56, R59). -/
inductive WriteTarget where
  | mem (fn : Fn) (off : Nat) (lanes : List (Option Byte))
  | cfg (fn : Fn) (w : CfgWrite)
deriving DecidableEq, Repr

/-- A Sector Link frame: the header of R253 field by field, the payload, and PCRC of the trailer (R254). -/
structure Frame where
  typ : BitVec 4
  ver : BitVec 4
  flags : Byte
  tag : Tag
  gen : BitVec 4
  cuaddr : Byte
  sub : Byte
  devaddr : W16
  len : BitVec 12
  seq : W16
  offset : W32
  /-- BODY, header bytes 0x10-0x1B. -/
  body : Bytes
  hcrc : W32
  payload : Bytes
  pcrc : W32
deriving DecidableEq, Repr

/-- The causes of a pair failure (R295), as KIND 0x03 of the fault log numbers them (R425). -/
inductive PairCause where
  | divergence | ecc | doubleTrap | watchdog
deriving DecidableEq, Repr

/-- The units that the rotating tests take (R481). -/
inductive RotUnit where
  | lampPair (c : PairNum)
  | mover (m : MoverNum)
  | columnizer (d : Die) (e : Fin 8)
  | portPair (n : Fin 48)
deriving DecidableEq, Repr

/-- What a self-test ran on: a domain (R463, R477), or one unit out of service (R417, R481). -/
inductive TestSubject where
  | domain (n : Dom)
  | unit (u : RotUnit)
deriving DecidableEq, Repr

/-- How a flash operation of STAGE-FIRMWARE ended (R397): the image read and its verification, or the write and its reading
back. -/
inductive FlashResult where
  | imageRead (r : Dma)
  | written (readBackGood : Bool)
deriving DecidableEq, Repr

/-- The commands (spec/opcode_table.json). The rule each stands under is the row's own. -/
inductive Instr where
  /-- VF_FLR (R51): A Function Level Reset of a VF stops fetching, drains for up to 2 ms, discards the tenant's entries without completions, journals a withdrawal and deletes its queues. -/
  | vfFlr (t : Tenant)
  /-- FLR_DRAIN_EXPIRY (R51): The 2 ms FLR drain ends and every transfer of the function still in flight is ended. -/
  | flrDrainExpiry (t : Tenant)
  /-- PF_FLR (R52): A Function Level Reset of the PF applies the VF FLR to every VF of the host port and resets the PF's order queue. -/
  | pfFlr (p : HPort)
  /-- PERST_ASSERT (R52): PERST# of a host port is asserted: its functions are reset as a PF FLR, and no further DMA request is issued on the port. -/
  | perstAssert (p : HPort)
  /-- PERST_RELEASE (R456): PERST# is released and the port answers configuration requests with Request Retry Status, then Successful Completion. -/
  | perstRelease (p : HPort)
  /-- REGISTER_WRITE (R56): A host write to a register without a row of its own is stored, or it is ignored, dropped and logged by the access rules. -/
  | registerWrite (w : WriteTarget)
  /-- MISALIGNED_READ (R56): A misaligned register read gets Completer Abort and clears no RC field. -/
  | misalignedRead (fn : Fn) (off : Nat) (lanes : List Bool)
  /-- HIF_ACCERR_READ (R61): A read of the PF access-error counter returns the count and clears it. -/
  | hifAccerrRead (p : HPort) (r : WindowRead)
  /-- VF_ACCERR_READ (R61): A read of a VF access-error counter returns the bytes read and clears them. -/
  | vfAccerrRead (t : Tenant) (r : WindowRead)
  /-- DMWR_MBX_SEND (R62): A DMWr to MBX_SEND commits the message when the mailbox has room, and otherwise returns Completer Abort. -/
  | dmwrMbxSend (fn : Fn) (off : Nat) (payload : List W32)
  /-- MBX_SEND (R64): A posted write to MBX_SEND commits the message, or it is dropped and logged when the mailbox is full. -/
  | mbxSend (p : HPort) (j : MbxNum) (header : W32)
  /-- MBX_TAKE (R342): A write of 1 releases the oldest message from the Tender and raises the empty event. -/
  | mbxTake (p : HPort) (j : MbxNum) (value : W32)
  /-- MSIX_UNMASK (R68): When a vector mask or Function Mask is cleared, each pending vector is sent once and its pending bit is cleared. -/
  | msixUnmask (fn : Fn) (which : Option (Fin 64))
  /-- MSIX_ENABLE_SET (R71): Setting MSI-X Enable sends every pending vector that is not masked. -/
  | msixEnableSet (fn : Fn)
  /-- ENTER_D3HOT (R77): A function enters D3hot: its memory requests stop and its vectors are held pending. -/
  | enterD3hot (fn : Fn)
  /-- RETURN_TO_D0 (R76): A function returns to D0: held vectors, held work and held journal records proceed. -/
  | returnToD0 (fn : Fn)
  /-- L1_ENTRY (R73): After 10 µs of idle transmit, the link enters L1 or L1.1 when these are enabled. -/
  | l1Entry (p : HPort)
  /-- BUS_MASTER_ENABLE_SET (R207): When the PF has Bus Master Enable set and is in D0, the journal records held in staging are written to their rings in order. -/
  | busMasterEnableSet (p : HPort)
  /-- VF_ENABLE_CLEAR (R96): Clearing VF Enable keeps bindings but stops starts from being taken. -/
  | vfEnableClear (p : HPort)
  /-- COMPLETION_TIMEOUT (R46): A DMA read whose completion has not arrived within the completion timeout fails, with the outcome of R65. -/
  | completionTimeout (p : HPort) (key : ReadKey)
  /-- SQ_DOORBELL (R114): A submission-queue tail doorbell is checked and advances the tail, or it is discarded and logged. -/
  | sqDoorbell (t : Tenant) (q : QNum) (value : W32)
  /-- CQ_DOORBELL (R114): A completion-queue head doorbell is checked and frees slots, or it is discarded and logged. -/
  | cqDoorbell (t : Tenant) (q : QNum) (value : W32)
  /-- BUOY_PUSH (R116): A 64-byte push into the right buoy slot during the buoy phase is taken as the entry at the tail, or it is discarded and logged. -/
  | buoyPush (t : Tenant) (q : QNum) (slot : Fin 4) (entry : Bytes)
  /-- QUEUE_ARBITRATION (R122): Every 16 CLK_F cycles the queue engine grants the eligible queue of lowest class, round-robin by tenant and queue, and issues its entry read. -/
  | queueArbitration
  /-- ENTRY_FETCH_COMPLETE (R120): A submission-entry read returns, and each entry is classed by its MARK, then checked and handed on, kept, or discarded; `es`: what the copy of each entry shows when it is read from queue spill (R218). -/
  | entryFetchComplete (t : Tenant) (q : QNum) (r : Dma) (es : List Ecc)
  /-- MARK_REREAD (R120): An entry before the tail whose MARK was not owned is read again every 160 ticks. -/
  | markReread (t : Tenant) (q : QNum)
  /-- MARK_WAIT_TIMEOUT (R120): An entry still not owned 1 ms after its first read completes with MALFORMED-ENTRY, DETAIL 0x0008. -/
  | markWaitTimeout (t : Tenant) (q : QNum)
  /-- START_BEGIN (R125): The head start of an idle subchannel begins running, chooses its path by load and takes a context slot. -/
  | startBegin (sc : SC) (e : Ecc)
  /-- PATH_WAIT_END (R182): A start waiting for a training path chooses its path once one becomes usable, or ends when none counts as training any more. -/
  | pathWaitEnd (sc : SC)
  /-- PATH_WAIT_TIMEOUT (R182): After 1 s with no permitted path usable, the waiting start ends with IDENTITY-MISMATCH or PATH-LOST. -/
  | pathWaitTimeout (sc : SC)
  /-- START_SLOT_GRANTED (R492): A start waiting for a context slot or exchange tag on its port takes the freed one, in order of waiting. -/
  | startSlotGranted (p : DPort)
  /-- READ_STEP (R142): A read-class device step is checked and its command is sent, opening an input exchange. -/
  | readStep (sc : SC) (e : Ecc)
  /-- WRITE_STEP (R142): A write-class device step is checked and its command is sent, opening an output exchange. -/
  | writeStep (sc : SC) (e : Ecc)
  /-- SENSE_STEP (R142): A sense-class device step is checked and its command is sent, moving input as a read does. -/
  | senseStep (sc : SC) (e : Ecc)
  /-- CONTROL_STEP (R142): A control-class device step is checked and its command is sent, with parameter bytes or none. -/
  | controlStep (sc : SC) (e : Ecc)
  /-- CONTINUATION_STEP (R149): A data-chained continuation step is checked when the transfer reaches it and gives the next part of the transfer. -/
  | continuationStep (sc : SC) (e : Ecc)
  /-- TEST (R153): TEST compares S with its operand and branches when (S AND MASK) equals MATCH. -/
  | test (sc : SC) (e : Ecc)
  /-- GO (R154): GO moves the flow to the step at a signed offset. -/
  | go (sc : SC) (e : Ecc)
  /-- WAIT_TOKEN (R171): WAIT-TOKEN takes a unit from the token, or it joins the token's waiters when the value is 0. -/
  | waitToken (sc : SC) (e : Ecc)
  /-- POST_TOKEN (R172): POST-TOKEN gives a unit to the head waiter or to the token's value, once the program's last read-back has returned. -/
  | postToken (sc : SC) (e : Ecc)
  /-- MARK_TIME (R160): MARK-TIME writes the timebase to host memory, and with SEND it also sends a TIME frame. -/
  | markTime (sc : SC) (e : Ecc)
  /-- NOP (R160): NOP applies CHAIN, HOLD and POST and does nothing else. -/
  | nop (sc : SC) (e : Ecc)
  /-- HOLD_STEP_REACHED (R165): At a step with HOLD, the program finishes the step before it, discards its copies and waits for its read-back. -/
  | holdStepReached (sc : SC)
  /-- HOLD_REPORT_SLOT_FREED (R165): A hold report that waited for a free slot that is not reserved is posted when one frees. -/
  | holdReportSlotFreed (sc : SC)
  /-- WAITER_RESUME (R171): A program whose token wait is satisfied runs again on its path, or chooses again. -/
  | waiterResume (sc : SC)
  /-- STEP_GROUP_READ_COMPLETE (R161): A step-group read returns into the step cache, or it fails with the outcome of R164. -/
  | stepGroupReadComplete (sc : SC) (addr : W64) (r : Dma)
  /-- SEGMENT_LIST_READ_COMPLETE (R156): A segment-list entry read returns and is checked against COUNT. -/
  | segmentListReadComplete (sc : SC) (r : Dma)
  /-- COLUMN_MAP_READ_COMPLETE (R234): A column-map read returns and is checked before the COLUMN chain's command is sent. -/
  | columnMapReadComplete (sc : SC) (r : Dma)
  /-- OUTPUT_READ_COMPLETE (R186): Output data read from host memory lands in staging ahead of the unit's request. -/
  | outputReadComplete (sc : SC) (r : Dma)
  /-- BUSY_RETRY_TIMER (R193): 1 ms after a busy answer, the command is sent again with a new tag. -/
  | busyRetryTimer (sc : SC)
  /-- QUIET_TIMEOUT (R197): After a tenant has been quiet for 100 ms, the fog-bound detector ends waiters with FOG-BOUND. -/
  | quietTimeout (t : Tenant)
  /-- READBACK_COMPLETE (R200): The read-back returns and is compared; the accounts are balanced, the journal record is written, the completion is written and the vector is generated. -/
  | readbackComplete (sc : SC) (r : Dma) (hashMisses : Nat)
  /-- COMPLETION_WRITE_SLOT_FREED (R138): An aborted completion that waited for a completion slot is written when a slot frees. -/
  | completionWriteSlotFreed (t : Tenant) (q : QNum)
  /-- JOURNAL_AREA_ROOM (R493): A record that waited for room in the held-journal area is written once room frees. -/
  | journalAreaRoom (p : HPort)
  /-- MODERATION_EXPIRY (R135): INTERVAL ticks after the first unsignalled completion, the completion queue's vector is generated. -/
  | moderationExpiry (t : Tenant) (q : QNum)
  /-- MOVER_DESCRIPTOR_BEGIN (R242): A mover begins the next descriptor allowed by its rate limiter, in round-robin order of channel. -/
  | moverDescriptorBegin (m : MoverNum) (e : Ecc)
  /-- MOVER_DESCRIPTOR_COMPLETE (R247): A descriptor completes; on the last host write of a program, the last address and the egress digest go to the completion writer. -/
  | moverDescriptorComplete (m : MoverNum)
  /-- COLUMNIZER_ENGINE_GRANTED (R231): A COLUMN head step that waited for a columnizer engine claims the freed engine and sends its command. -/
  | columnizerEngineGranted (d : Die)
  /-- SCRUB_GRANULE (R219): The patrol scrubber reads a granule, writes it back corrected, or poisons it. -/
  | scrubGranule (g : BitVec 30) (e : Ecc)
  /-- SRAM_PATROL (R484): The patrol reads and corrects every ECC-protected on-die word once in each 8 h. -/
  | sramPatrol (site : W32) (e : Ecc)
  /-- SMALL_BUDGET_WINDOW (R226): Each 4,096-cycle window resets the small-request budget and counts whether it held a request. -/
  | smallBudgetWindow (w : WindowLoad)
  /-- IMBALANCE_WINDOW (R227): Each 65,536-cycle window updates SMC_IMBAL and SMC_IMBALPK. -/
  | imbalanceWindow (counts : List Nat)
  /-- CAGE_WAVE_START (R464): At its wave slot, a cage's port-pair domains and the cage's power are switched on and its module reset is released. -/
  | cageWaveStart (c : CageNum)
  /-- MODULE_READY (R259): The cage module reaches the ready state after high power is requested, and the transmitters of named lanes are switched on. -/
  | moduleReady (c : CageNum)
  /-- CAGE_READY_TIMEOUT (R259): A module not ready 300 ms after its check leaves the cage's ports fenced as not ready. -/
  | cageReadyTimeout (c : CageNum)
  /-- CAGE_RECHECK (R259): Every 5 s a not-ready cage is checked again. -/
  | cageRecheck (c : CageNum)
  /-- MODULE_INSERTED (R285): A module inserted in a cage starts bring-up at step 2 for that cage, or it is reported once when the cage is unused. -/
  | moduleInserted (c : CageNum)
  /-- MODULE_REMOVED (R285): A module removed retrains the cage's eight ports and fences them as absent. -/
  | moduleRemoved (c : CageNum)
  /-- CAGE_INTL (R285): A module alarm or warning adds a fault-log entry against the cage. -/
  | cageIntl (c : CageNum) (reading : W16)
  /-- CMIS_MONITOR_POLL (R284): Once per second the module temperature and receive powers are read. -/
  | cmisMonitorPoll (c : CageNum) (temp : W16) (rx : List W16)
  /-- CAGE_SWITCH_TRIP (R513): The cage's 3.3 V switch trips at 3 A for 1 ms, switching the cage off and fencing its ports. -/
  | cageSwitchTrip (c : CageNum)
  /-- BLOCK_LOCK (R258): Clause 49 block lock is acquired and HELLO sending begins. -/
  | blockLock (p : DPort)
  /-- BLOCK_LOCK_LOSS (R260): Loss of block lock or hi_ber makes the port retrain. -/
  | blockLockLoss (p : DPort)
  /-- HELLO_INTERVAL (R258): Every 100 µs until the far end's HELLO is received, HELLO is sent again. -/
  | helloInterval (p : DPort)
  /-- HELLO_REFUSED_RETRY (R258): 5 s after a refused HELLO, the port sends HELLO again. -/
  | helloRefusedRetry (p : DPort)
  /-- ECHO_IDLE_TIMER (R260): After 100 µs with nothing sent, ECHO is sent. -/
  | echoIdleTimer (p : DPort)
  /-- RECEIVE_SILENCE (R260): After 1 ms with no frame received, the port retrains. -/
  | receiveSilence (p : DPort)
  /-- CREDIT_RETURN_TIMER (R263): 160 ticks after the first waiting credit, a CREDIT frame is sent. -/
  | creditReturnTimer (p : DPort)
  /-- TRANSMIT_FRAME_BOUNDARY (R283): At each frame boundary the transmitter picks the next frame in the order of preference. -/
  | transmitFrameBoundary (p : DPort) (e : Ecc)
  /-- HELLO (R258): A received HELLO is checked and sets the credits, and while UP it forces a retrain. -/
  | hello (p : DPort) (f : Frame)
  /-- ECHO (R260): A received ECHO restarts the silence timer. -/
  | echo (p : DPort) (f : Frame)
  /-- CREDIT (R262): A received CREDIT frame updates the cumulative data and control credits. -/
  | credit (p : DPort) (f : Frame)
  /-- DATA (R270): A received DATA frame is checked, then staged, discarded with RESEND, or cut at a REFUSE point. -/
  | data (p : DPort) (f : Frame)
  /-- DATA_REQ (R269): A received DATA-REQ queues DATA frames of staged output, or it triggers an over-run ABORT. -/
  | dataReq (p : DPort) (f : Frame)
  /-- STATUS (R269): A received STATUS closes the exchange and loads S, or with BUSY it schedules the command again. -/
  | status (p : DPort) (f : Frame)
  /-- ABORT_ACK (R274): A received ABORT-ACK, or any late frame of an aborted exchange, returns its tag from quarantine. -/
  | abortAck (p : DPort) (f : Frame)
  /-- RESEND (R270): A received RESEND makes the device send again from the named frame, or ABORT at the fourth naming. -/
  | resend (p : DPort) (f : Frame)
  /-- WORKING (R273): A received WORKING restarts the exchange's inactivity and missing-data timers. -/
  | working (p : DPort) (f : Frame)
  /-- FREE (R277): A received FREE releases the starts waiting on a busy answer from that device address. -/
  | free (p : DPort) (f : Frame)
  /-- ABSENT_PATH_RETRY (R101): Every 5 s an absent path is sent a new identify exchange. -/
  | absentPathRetry (p : DPort) (addr : Byte)
  /-- COMMAND_TIMEOUT (R273): 5 ms without acceptance sends ABORT reason 3 and retries the exchange. -/
  | commandTimeout (p : DPort) (tag : Tag)
  /-- INACTIVITY_TIMEOUT (R273): 1 s of silence after acceptance sends ABORT reason 3 and ends the program with LINK-TIMEOUT. -/
  | inactivityTimeout (p : DPort) (tag : Tag)
  /-- MISSING_DATA_TIMEOUT (R273): 1 ms with no frame on an input exchange without STATUS sends RESEND for the next expected SEQ. -/
  | missingDataTimeout (p : DPort) (tag : Tag)
  /-- ABORT_TIMEOUT (R273): 1 ms with no answer to ABORT sends it again, and after three repeats the tag is retired. -/
  | abortTimeout (p : DPort) (tag : Tag)
  /-- DOMAIN_DRAIN_EXPIRY (R431): At the end of a port-pair domain's 2 ms drain, ABORT reason 6 ends the remaining exchanges with ABORTED-DOMAIN-WITHDRAWN. -/
  | domainDrainExpiry (n : Dom)
  /-- DOMAIN_SWITCH_COMPLETE (R430): A domain finishes switching, fires hub source 196 + n, and its order's reply is written. -/
  | domainSwitchComplete (n : Dom)
  /-- SYS_NOP (R311): The Hild-14 NOP does nothing. -/
  | sysNop (c : PairNum)
  /-- RETT (R311): RETT restores PC and FL from TRAPPC and TRAPFL and clears INTRAP. -/
  | rett (c : PairNum)
  /-- TRAP (R311): SYS TRAP enters vector 0x000C with CAUSE 0x08. -/
  | trap (c : PairNum) (n : BitVec 5)
  /-- EI (R311): EI sets FL.IE. -/
  | ei (c : PairNum)
  /-- DI (R311): DI clears FL.IE. -/
  | di (c : PairNum)
  /-- WAITE (R311): WAITE waits until the pair's event input is asserted. -/
  | waite (c : PairNum)
  /-- SYNC (R311): SYNC waits until every IOW and mailbox commit of the pair has been accepted. -/
  | sync (c : PairNum)
  /-- PFX (R310): PFX shifts 9 bits into the prefix register. -/
  | pfx (c : PairNum) (imm9 : BitVec 9)
  /-- MOVI (R309): MOVI loads a prefixed signed immediate. -/
  | movi (c : PairNum) (ra : Reg) (imm5 : BitVec 5)
  /-- ADDI (R309): ADDI adds a prefixed signed immediate. -/
  | addi (c : PairNum) (ra : Reg) (imm5 : BitVec 5)
  /-- ADD (R309): ADD adds rb to ra. -/
  | add (c : PairNum) (ra rb : Reg)
  /-- SUB (R309): SUB subtracts rb from ra. -/
  | sub (c : PairNum) (ra rb : Reg)
  /-- AND (R309): AND takes the bitwise AND. -/
  | and (c : PairNum) (ra rb : Reg)
  /-- OR (R309): OR takes the bitwise OR. -/
  | or (c : PairNum) (ra rb : Reg)
  /-- XOR (R309): XOR takes the bitwise XOR. -/
  | xor (c : PairNum) (ra rb : Reg)
  /-- ANDN (R309): ANDN takes ra AND NOT rb. -/
  | andn (c : PairNum) (ra rb : Reg)
  /-- SHL (R309): SHL shifts left by rb[4:0]. -/
  | shl (c : PairNum) (ra rb : Reg)
  /-- SHR (R309): SHR shifts logically right by rb[4:0]. -/
  | shr (c : PairNum) (ra rb : Reg)
  /-- SAR (R309): SAR shifts arithmetically right by rb[4:0]. -/
  | sar (c : PairNum) (ra rb : Reg)
  /-- ROR (R309): ROR rotates right by rb[4:0]. -/
  | ror (c : PairNum) (ra rb : Reg)
  /-- SHLI (R309): SHLI shifts left by a constant. -/
  | shli (c : PairNum) (ra : Reg) (n : BitVec 5)
  /-- SHRI (R309): SHRI shifts logically right by a constant. -/
  | shri (c : PairNum) (ra : Reg) (n : BitVec 5)
  /-- CMP (R307): CMP sets Z, N, C and V from ra minus rb. -/
  | cmp (c : PairNum) (ra rb : Reg)
  /-- TST (R307): TST sets Z and N from ra AND rb and clears C and V. -/
  | tst (c : PairNum) (ra rb : Reg)
  /-- CMPI (R307): CMPI sets the flags from ra minus a prefixed immediate. -/
  | cmpi (c : PairNum) (ra : Reg) (imm5 : BitVec 5)
  /-- MOV (R309): MOV copies rb to ra. -/
  | mov (c : PairNum) (ra rb : Reg)
  /-- NEG (R309): NEG writes 0 minus rb to ra. -/
  | neg (c : PairNum) (ra rb : Reg)
  /-- PARW (R318): PARW writes the parity of rb. -/
  | parw (c : PairNum) (ra rb : Reg)
  /-- BREV (R318): BREV writes rb bit-reversed. -/
  | brev (c : PairNum) (ra rb : Reg)
  /-- MUL (R314): MUL starts an unsigned 64-bit multiply into MH:ML. -/
  | mul (c : PairNum) (ra rb : Reg)
  /-- MULS (R314): MULS starts a signed 64-bit multiply into MH:ML. -/
  | muls (c : PairNum) (ra rb : Reg)
  /-- MUL_PRODUCT_WRITE (R314): At the end of cycle c + 2, the product is written into MH:ML. -/
  | mulProductWrite (c : PairNum)
  /-- LDW (R309): LDW loads a word, or traps when misaligned. -/
  | ldw (c : PairNum) (ra rb : Reg)
  /-- LDB (R309): LDB loads a zero-extended byte. -/
  | ldb (c : PairNum) (ra rb : Reg)
  /-- LDH (R309): LDH loads a zero-extended halfword. -/
  | ldh (c : PairNum) (ra rb : Reg)
  /-- STW (R309): STW stores a word. -/
  | stw (c : PairNum) (ra rb : Reg)
  /-- STB (R304): STB stores a byte by read-merge-write of its word. -/
  | stb (c : PairNum) (ra rb : Reg)
  /-- STH (R304): STH stores a halfword by read-merge-write of its word. -/
  | sth (c : PairNum) (ra rb : Reg)
  /-- RDS (R306): RDS reads a special register, latching TBHI or CYCHI, clearing ECCST, or setting EARLY on an early MH or ML read. -/
  | rds (c : PairNum) (ra : Reg) (n : BitVec 5)
  /-- WRS (R306): WRS writes a special register, or traps on a read-only one. -/
  | wrs (c : PairNum) (ra : Reg) (n : BitVec 5)
  /-- B (R312): B branches by a signed offset when its condition holds. -/
  | b (c : PairNum) (cond : BitVec 3) (off6 : BitVec 6)
  /-- CALL (R309): CALL writes the return address into G15 and branches. -/
  | call (c : PairNum) (off9 : BitVec 9)
  /-- JALR (R309): JALR writes the return address into ra and jumps to rb. -/
  | jalr (c : PairNum) (ra rb : Reg)
  /-- CRCB (R317): CRCB takes one byte through the CRC state. -/
  | crcb (c : PairNum) (ra rb : Reg)
  /-- CRCW (R317): CRCW takes four bytes through the CRC state. -/
  | crcw (c : PairNum) (ra rb : Reg)
  /-- EVT_CLAIM (R332): CLAIM takes the eligible source of highest priority and lowest number, or returns 0x3FF. -/
  | evtClaim (c : PairNum) (ra : Reg)
  /-- EVT_DONE (R332): DONE clears the active bit of a source. -/
  | evtDone (c : PairNum) (ra : Reg)
  /-- MSEND (R311): MSEND commits a 68-byte message to a mailbox, or it is a bus error when the mailbox is full. -/
  | msend (c : PairNum) (ra : Reg)
  /-- MRECV (R311): MRECV takes the oldest message of a mailbox. -/
  | mrecv (c : PairNum) (ra : Reg)
  /-- MSTAT (R340): MSTAT returns a mailbox's status. -/
  | mstat (c : PairNum) (ra : Reg)
  /-- IOR (R309): IOR reads an IO word, clearing an RC target. -/
  | ior (c : PairNum) (ra rb : Reg)
  /-- IOW (R309): IOW posts a write of an IO word. -/
  | iow (c : PairNum) (ra rb : Reg)
  /-- EVENT_ENTRY (R320): With IE set and INTRAP clear, an asserted event input enters vector 0x0010 at an allowed boundary. -/
  | eventEntry (c : PairNum)
  /-- WATCHDOG_EXPIRY (R323): The watchdog reaching 0 enters vector 0x0014, and a second expiry is a pair failure. -/
  | watchdogExpiry (c : PairNum)
  /-- LOCKSTEP_SIGNATURE (R294): Every 1,024 cycles both cores' signatures are formed and compared; `stages`: what the first core's pipeline stages hold, `checker`: the checker's signature. -/
  | lockstepSignature (c : PairNum) (stages : List Nat) (checker : W64)
  /-- PAIR_FAILURE (R296): A pair failure is detected, the pair is stopped, a fault is logged, and takeover or restart follows. -/
  | pairFailure (c : PairNum) (cause : PairCause)
  /-- PAIR_SELFTEST_COMPLETE (R300): A failed pair's self-test finishes, and the pair is reloaded as a spare or retired. -/
  | pairSelftestComplete (c : PairNum) (pass : Bool)
  /-- TENDER_RESTART (R302): A failed Tender is reset and reloaded and rebuilds its state from staging. -/
  | tenderRestart (pass : Bool)
  /-- TENDER_RESTART_COMPLETE (R377): The restarted Tender answers its interrupted orders with RESTARTED and takes orders again. -/
  | tenderRestartComplete
  /-- SOURCE_FIRE (R331): An event source fires, setting its pending bit and asserting the event input of its pair when eligible. -/
  | sourceFire (u : EvUnit) (n : BitVec 10)
  /-- EXTERNAL_LINE_EDGE (R334): A filtered external line changes level, and the change fires its source according to EDGE. -/
  | externalLineEdge (n : BitVec 10) (level : Bool)
  /-- SET_PENDING (R330): EVU_CMD OP 0 sets a source pending. -/
  | setPending (u : EvUnit) (n : BitVec 10)
  /-- CLEAR_PENDING (R330): EVU_CMD OP 1 clears a source's pending bit. -/
  | clearPending (u : EvUnit) (n : BitVec 10)
  /-- MASK (R330): EVU_CMD OP 2 masks a source. -/
  | mask (u : EvUnit) (n : BitVec 10)
  /-- UNMASK (R330): EVU_CMD OP 3 unmasks a source. -/
  | unmask (u : EvUnit) (n : BitVec 10)
  /-- MASK_AND_CLEAR_PENDING (R330): EVU_CMD OP 4 masks a source and clears it pending in one cycle. -/
  | maskAndClearPending (u : EvUnit) (n : BitVec 10)
  /-- EVU_TGT_WRITE (R335): A write to EVU_TGT retargets a source from the next cycle. -/
  | evuTgtWrite (u : EvUnit) (n : BitVec 10) (value : W32)
  /-- TMR_CNT_COMMIT (R350): A TMR_CNTHI write commits the staged 48-bit counter value. -/
  | tmrCntCommit (k : BankNum) (ch : ChanNum) (value : W32)
  /-- TMR_CMP_COMMIT (R351): A TMR_CMPHI write commits the compare and tests whether it has already been passed. -/
  | tmrCmpCommit (k : BankNum) (ch : ChanNum) (value : W32)
  /-- TMR_IVL_COMMIT (R350): A TMR_IVLHI write commits the interval. -/
  | tmrIvlCommit (k : BankNum) (ch : ChanNum) (value : W32)
  /-- TMR_DIV_WRITE (R348): A TMR_DIV write sets the prescaler and clears its accumulator. -/
  | tmrDivWrite (k : BankNum) (ch : ChanNum) (value : W32)
  /-- TIMER_MATCH (R356): The counter reaching the compare sets MATCH, pulses or toggles, fires the event, grants a mover start and auto-adds. -/
  | timerMatch (k : BankNum) (ch : ChanNum)
  /-- TIMER_CATCHUP (R352): At the fourth edge after a passed match, the compare is advanced by whole intervals and TMR_MISS rises. -/
  | timerCatchup (k : BankNum) (ch : ChanNum)
  /-- TIMER_CAPTURE (R354): On every (CPSC + 1)-th chosen input edge, the counter is copied into TMR_CAP. -/
  | timerCapture (k : BankNum) (ch : ChanNum)
  /-- TIMER_SLAVE_RESET (R355): A slave seeing its master's TRGO rise sets its counter to 0. -/
  | timerSlaveReset (k : BankNum) (ch : ChanNum)
  /-- OQ_DB (R368): The order doorbell is checked and advances the order-ring tail. -/
  | oqDb (p : HPort) (value : W32)
  /-- OQ_ENABLE (R368): Setting OQ_CTL.EN sets both rings to index 0, pass 0. -/
  | oqEnable (p : HPort) (value : W32)
  /-- OQ_DISABLE (R368): Clearing OQ_CTL.EN drops the outstanding orders without replies. -/
  | oqDisable (p : HPort) (value : W32)
  /-- ORDER_FETCH_COMPLETE (R368): An order-slot read returns and is classed by its MARK. -/
  | orderFetchComplete (p : HPort) (r : Dma)
  /-- ORDER_MARK_REREAD (R368): An order slot not owned is read again every 160 ticks, and after 1 ms it is answered BAD-ORDER. -/
  | orderMarkReread (p : HPort)
  /-- IDENTIFY (R378): IDENTIFY returns the part, releases, images, serial number and counts. -/
  | identify (p : HPort)
  /-- LOAD_LIGHT_LIST (R379): LOAD-LIGHT-LIST reads, validates and applies a Light List in replace or amend mode. -/
  | loadLightList (p : HPort)
  /-- LIGHT_LIST_READ_COMPLETE (R94): The read of the whole list ends, and the list is validated in order of REASON. -/
  | lightListReadComplete (p : HPort) (got : Bytes) (whole : Bool)
  /-- BIND_TENANT (R380): BIND-TENANT binds a VF with its DMA windows, PASID, journal ring and column maps, and writes a bind record. -/
  | bindTenant (p : HPort)
  /-- UNBIND_TENANT_GENTLE (R97): A gentle unbind removes an idle tenant's queues and binding, or it is refused when entries are outstanding. -/
  | unbindTenantGentle (p : HPort)
  /-- UNBIND_TENANT_FORCE (R97): A force unbind drains for up to 2 ms, aborts every entry and removes the binding. -/
  | unbindTenantForce (p : HPort)
  /-- CREATE_QUEUE_SQ (R382): CREATE-QUEUE with KIND 0 makes a submission queue. -/
  | createQueueSq (p : HPort)
  /-- CREATE_QUEUE_CQ (R382): CREATE-QUEUE with KIND 1 makes a completion queue. -/
  | createQueueCq (p : HPort)
  /-- RESET_QUEUE (R137): RESET-QUEUE stops a submission queue and completes its entries with ABORTED-QUEUE-RESET. -/
  | resetQueue (p : HPort)
  /-- SET_QUEUE_PRIORITY (R124): SET-QUEUE-PRIORITY changes a queue's class. -/
  | setQueuePriority (p : HPort)
  /-- RELEASE_HOLD (R167): RELEASE-HOLD begins a new execution at the hold step, passing HOLD once when asked. -/
  | releaseHold (p : HPort)
  /-- PORT_ENABLE (R386): PORT-ENABLE lifts the identity, PORT-FENCE and balance fences, retrains the port and identifies it. -/
  | portEnable (p : HPort)
  /-- PORT_FENCE (R387): PORT-FENCE fences a port and aborts its open exchanges. -/
  | portFence (p : HPort)
  /-- PATH_GROUP_EDIT (R100): PATH-GROUP-EDIT replaces a group's path list and identifies its new paths. -/
  | pathGroupEdit (p : HPort)
  /-- DOMAIN_POWER_ON (R430): DOMAIN-POWER switches a domain on with its dependencies, or it is refused. -/
  | domainPowerOn (p : HPort)
  /-- DOMAIN_POWER_OFF (R431): DOMAIN-POWER withdraws a domain, drains it and switches it off, or it is refused. -/
  | domainPowerOff (p : HPort)
  /-- ENTER_SLEEP_DOZE (R390): ENTER-SLEEP MODE 2 asks the keeper for Doze. -/
  | enterSleepDoze (p : HPort)
  /-- ENTER_SLEEP_HOLD (R390): ENTER-SLEEP MODE 3 asks the keeper for Hold. -/
  | enterSleepHold (p : HPort)
  /-- SLEEP_COMMIT_EDGE (R441): At the commit keeper edge, the enabled wake sources decide between DONE and WAKE-PENDING, and the entry begins. -/
  | sleepCommitEdge (wakeLow sense0Low : Bool)
  /-- TIMEBASE_FREEZE (R442): At keeper edge k1, the timebase stops and T1 and k1 are recorded. -/
  | timebaseFreeze
  /-- SET_SUPPLY_POLICY (R391): SET-SUPPLY-POLICY sets PLIMIT and SHED. -/
  | setSupplyPolicy (p : HPort)
  /-- POWER_LIMIT_THROTTLE (R391): Input power above PLIMIT for 100 ms holds ports to half rate, released after 60 s 10 W below. -/
  | powerLimitThrottle (power : W16)
  /-- START_SELF_TEST (R392): START-SELF-TEST withdraws, tests and restores the named domains. -/
  | startSelfTest (p : HPort)
  /-- SELF_TEST_COMPLETE (R478): A test finishes, its signature is compared, and mismatched units are acted on. -/
  | selfTestComplete (subject : TestSubject) (mbist : Bool) (sigs : List (W32 × W64))
  /-- ROTATING_TEST_START (R481): The Tender frees an in-service unit and starts its rotating test. -/
  | rotatingTestStart (u : RotUnit)
  /-- READ_SIGNATURE (R393): READ-SIGNATURE returns the last signature of a domain and kind. -/
  | readSignature (p : HPort)
  /-- SET_FAULT_WINDOW (R394): SET-FAULT-WINDOW sets T and W for a site or for all sites. -/
  | setFaultWindow (p : HPort)
  /-- READ_FAULT_LOG (R395): READ-FAULT-LOG copies the counters, clearing the RC ones, and the fault-log entries into a host buffer. -/
  | readFaultLog (p : HPort) (readback : Dma)
  /-- RETIRE_SITE (R396): RETIRE-SITE spares or retires a site at once. -/
  | retireSite (p : HPort)
  /-- STAGE_FIRMWARE (R397): STAGE-FIRMWARE writes and verifies an image into the flash slot that is not running. -/
  | stageFirmware (p : HPort)
  /-- FLASH_OPERATION_COMPLETE (R397): A flash operation finishes and the staging proceeds. -/
  | flashOperationComplete (r : FlashResult)
  /-- ACTIVATE_FIRMWARE_HITLESS (R469): ACTIVATE-FIRMWARE MODE 0 rolls every Lamp pair and the Tender to the other image without stopping work. -/
  | activateFirmwareHitless (p : HPort)
  /-- ACTIVATE_FIRMWARE_AT_RESET (R468): ACTIVATE-FIRMWARE MODE 1 names the other image in RUN for the next full reset. -/
  | activateFirmwareAtReset (p : HPort)
  /-- SET_TIME (R399): SET-TIME sets every timebase copy, and clears BRIDGED, FRAC and BRIDGES. -/
  | setTime (p : HPort)
  /-- READ_TIME_BRIDGE (R400): READ-TIME-BRIDGE returns the record of the last bridge. -/
  | readTimeBridge (p : HPort)
  /-- TOKEN_CREATE (R401): TOKEN-CREATE makes a token with a rank, an owner and a value. -/
  | tokenCreate (p : HPort)
  /-- TOKEN_DESTROY (R402): TOKEN-DESTROY removes a token that is not in use. -/
  | tokenDestroy (p : HPort)
  /-- TOKEN_READ (R403): TOKEN-READ returns a token's state. -/
  | tokenRead (p : HPort)
  /-- NOP_ECHO (R404): NOP-ECHO returns its parameters unchanged. -/
  | nopEcho (p : HPort)
  /-- BALANCE_ROUND (R413): Every 100 µs all account counters are latched and compared, and broken instances are fenced. -/
  | balanceRound (agree : Bool)
  /-- FOG_SIGNAL (R435): The input falls below 34.5 V: the fog signal is raised, fetching stops, vectors are sent, and work is aborted with ABORTED-POWER-WARN. -/
  | fogSignal (supply : BitVec 12)
  /-- FOG_CLEAR (R436): After 100 ms above the rising threshold, the fog signal clears, vectors are sent and shed cages are powered. -/
  | fogClear (supply : BitVec 12)
  /-- MODULE_RESET (R455): A module reset holds and unpowers every domain, clearing staging, bindings and queues. -/
  | moduleReset (supply : BitVec 12)
  /-- KEEPER_RESET (R454): The input falls below the keeper threshold, losing the keeper counter and the retention file. -/
  | keeperReset
  /-- OVER_VOLTAGE (R434): The input rises above 75.5 V and a fault-log entry is added once per excursion. -/
  | overVoltage (supply : BitVec 12)
  /-- ROOT_PLL_LOCK_LOSS (R38): Loss of root PLL lock is recorded and holds the module in reset. -/
  | rootPllLockLoss
  /-- POWER_GOOD (R460): The input stays above the rising module reset threshold for 10 µs and bring-up starts. -/
  | powerGood (supply : BitVec 12)
  /-- RAIL_RETRY (R461): A failed rail or PLL bring-up is tried again after 1 s, up to three times. -/
  | railRetry (good : Bool)
  /-- HUB_CORE_RELEASE (R457): The hub core leaves reset and the fixed account instances are created. -/
  | hubCoreRelease (mbistPass : Bool)
  /-- CARRIER_LINK_TRAINED (R461): A carrier link to a channel die trains and the die's timebase copy is aligned. -/
  | carrierLinkTrained (d : Die) (dieAnswers : Bool)
  /-- TENDER_BOOT (R467): The boot ROM checks the manifest, loads the Tender section and starts the Tender. -/
  | tenderBoot
  /-- BOOT_TIMER_EXPIRY (R467): No boot complete 100 ms after power-good marks the image invalid and boots the other image. -/
  | bootTimerExpiry
  /-- HBM_TRAINED (R460): HBM3 training, post-package repair and the granule fill finish, and staging enters service. -/
  | hbmTrained (trained : Bool)
  /-- MODULE_READY_FOR_ORDERS (R462): The module is ready and the waiting orders are begun. -/
  | moduleReadyForOrders
  /-- IDLE_ENTRY (R439): After 100 µs with no work, the module enters Idle. -/
  | idleEntry
  /-- WAKE_FROM_DOZE (R444): An enabled wake source in Doze latches the cause and enables the root PLL. -/
  | wakeFromDoze (source : Fin 5)
  /-- WAKE_FROM_HOLD (R446): An enabled wake source in Hold starts bring-up from power-good with a bridged timebase. -/
  | wakeFromHold (source : Fin 5)
  /-- PLL_LOCK (R444): The root PLL locks during a wake. -/
  | pllLock
  /-- TIMEBASE_BRIDGE (R451): At keeper edge k2 the timebase is loaded with the bridged value and BRIDGED is set. -/
  | timebaseBridge
  /-- WAKE_DRIVE_TIMEOUT (R445): WAKE# is released after 1 s if no link has reached L0. -/
  | wakeDriveTimeout
  /-- INLET_WARN_CROSSED (R103): The inlet rising above INLET_WARN adds a fault-log entry and generates PF vector 4. -/
  | inletWarnCrossed (sensorA sensorB : W16)
  /-- INLET_THROTTLE (R103): The inlet above INLET_MAX for 1 s holds every port to half rate. -/
  | inletThrottle (sensorA sensorB : W16)
  /-- INLET_THROTTLE_RELEASE (R103): The inlet below INLET_WARN for 60 s releases the half-rate hold. -/
  | inletThrottleRelease (sensorA sensorB : W16)
  /-- INLET_SENSOR_DISAGREE (R508): The inlet sensors disagreeing by more than 5 °C for 10 s adds a fault-log entry. -/
  | inletSensorDisagree (sensorA sensorB : W16)
  /-- DIE_OVER_TEMPERATURE (R509): A die held above 105 °C or 115 °C for 1 s throttles, withdraws its ports or enters the safe state. -/
  | dieOverTemperature (die : Fin 5) (temp : W16)
  /-- DIE_TEMPERATURE_RELEASE (R509): A die held below 95 °C for 60 s releases its throttle or powers its domains again. -/
  | dieTemperatureRelease (die : Fin 5) (temp : W16)
  /-- SMBUS_RESET_ARM (R459): Writing 0x5A to command 0xE0 arms a module reset request. -/
  | smbusResetArm (pecGood : Bool)
  /-- SMBUS_RESET_CONFIRM (R459): Writing 0xA5 to command 0xE0 within 1 s makes the keeper perform a module reset. -/
  | smbusResetConfirm (pecGood : Bool)
  /-- SMBUS_RESET_ARM_TIMEOUT (R459): An armed reset request lapses after 1 s without confirmation. -/
  | smbusResetArmTimeout
  /-- SMBUS_READ_MODE (R505): SMBus command 0x01 returns the mode, fog, safe-state and Light List flags. -/
  | smbusReadMode
  /-- SMBUS_READ_VOLTAGE (R505): SMBus command 0x02 returns the input voltage. -/
  | smbusReadVoltage
  /-- SMBUS_READ_POWER (R505): SMBus command 0x03 returns the input power. -/
  | smbusReadPower
  /-- SMBUS_READ_INLET (R505): SMBus command 0x04 returns the inlet temperature. -/
  | smbusReadInlet
  /-- SMBUS_READ_DIE_TEMP (R505): SMBus command 0x05 returns the hottest die temperature. -/
  | smbusReadDieTemp
  /-- SMBUS_READ_BEACON (R505): SMBus command 0x06 returns HIF_BEACON[15:0]. -/
  | smbusReadBeacon
  /-- BYPASS (R486): The TAP instruction BYPASS selects the bypass register. -/
  | bypass
  /-- IDCODE (R486): The TAP instruction IDCODE returns each die's IDCODE. -/
  | idcode
  /-- SAMPLE_PRELOAD (R486): The TAP instruction SAMPLE/PRELOAD captures the pins, leaving the module in service. -/
  | samplePreload
  /-- EXTEST (R488): The TAP instruction EXTEST takes the pins from the module's logic and powers the scan domains. -/
  | extest
  /-- CLAMP (R488): The TAP instruction CLAMP holds the pins, taking them from the module's logic. -/
  | clamp
  /-- HIGHZ (R488): The TAP instruction HIGHZ floats the pins, taking them from the module's logic. -/
  | highz
  /-- EXTEST_PULSE (R486): The IEEE 1149.6 instruction EXTEST_PULSE tests AC-coupled lanes. -/
  | extestPulse
  /-- EXTEST_TRAIN (R486): The IEEE 1149.6 instruction EXTEST_TRAIN tests AC-coupled lanes with pulse trains. -/
  | extestTrain
  /-- TEST_LOGIC_RESET (R488): Entering Test-Logic-Reset after a pin-taking instruction makes the keeper perform a module reset. -/
  | testLogicReset
  /-- HOST_LINK_DOWN (R47): A host port's link goes down without PERST#, and its functions cease to exist for the device while the other port goes on. -/
  | hostLinkDown (p : HPort)
  /-- HOST_LINK_UP (R445): A host-port link trains to L0, which sets PEER on the other port and releases a driven WAKE#. -/
  | hostLinkUp (p : HPort) (rate : LinkRate) (width : LinkWidth)
  /-- BUS_MASTER_ENABLE_CLEAR (R207): Clearing the PF's Bus Master Enable makes journal records be held in staging and pauses the port's mover transfers. -/
  | busMasterEnableClear (p : HPort)
  /-- VF_ENABLE_SET (R50): Setting VF Enable brings the VFs into existence, so bound tenants take starts again and BIND-TENANT is allowed. -/
  | vfEnableSet (p : HPort)
  /-- FRAME_DISCARDED (R271): A received frame that is cut short, fails HCRC or carries a reserved or forbidden type is discarded, counted in SLP_FRMERR, and uses a credit when its wire cost exceeds 64 bytes. -/
  | frameDiscarded (p : DPort) (f : Discarded)
  /-- MODULE_IN_LOW_POWER_MODE (R259): The cage module answers in low-power mode, and its identifier, media type and maximum power are read and checked before high power is requested. -/
  | moduleInLowPowerMode (c : CageNum) (ident media power : Byte)
  /-- CARRIER_LINK_FAULT (R326): A carrier link fault raises the die alarm and is handled as a lasting fault at the link. -/
  | carrierLinkFault (d : Die)
  /-- RESERVED_ENCODING (R313): A Hild-14 reserved instruction word traps to vector 0x0004 with CAUSE 0x01, or is a double trap while INTRAP is set. -/
  | reservedEncoding (c : PairNum) (word : BitVec 14)
  /-- RESERVED_CONTROL_OPERATION (R143): A step with a reserved control code 0xF6-0xFF ends its program with STEP-CHECK, check 1. -/
  | reservedControlOperation (sc : SC) (e : Ecc)
  /-- RESERVED_ORDER_OPCODE (R373): An order with a reserved opcode is answered BAD-ORDER with detail 0x001. -/
  | reservedOrderOpcode (p : HPort)
  /-- PORT_ENABLE_TIMEOUT (R386): 1 s after PORT-ENABLE began, its reply is written with the current SLP_STATE if the port has neither come UP nor been fenced again. -/
  | portEnableTimeout (p : HPort)
  /-- UNBIND_DRAIN_EXPIRY (R97): The 2 ms drain of a force UNBIND-TENANT ends, and the transfers still in flight are ended with ABORTED-QUEUE-RESET. -/
  | unbindDrainExpiry (t : Tenant)
  /-- ROTATING_TEST_PUT_OFF (R481): A block mover that still holds a busy channel 1 s after being freed for its rotating test has the test put off and returns to work. -/
  | rotatingTestPutOff (u : RotUnit)
  /-- SMBUS_RESET_CANCEL (R459): A write to SMBus command 0xE0 of any byte other than the expected one cancels a reset request in progress. -/
  | smbusResetCancel (value : Byte) (pecGood : Bool)
deriving DecidableEq, Repr

end Sys2Proof
end

