-- ==== Sys2Proof/Decode.lean ====
section
/-! DEFINITION. Decode.lean: the command a word spells. No row of spec/opcode_table.json gives bits: a command is a happening at the
block's edge, not an encoded word. The words the block itself decodes (device steps, submission entries, orders, frames, Hild-14
instructions) are read in Machine/. -/

namespace Sys2Proof

/-- The command that a word of `nbits` bits spells: none, for the table gives no row a word. -/
def decodeTableWord (_nbits _w : Nat) : Option Instr := none

end Sys2Proof
end

