-- ==== Sys2Proof/Machine/Bits.lean ====
section
/-! DEFINITION. Machine/Bits.lean: reading and writing little-endian fields of byte strings (R8), and bit helpers. -/

namespace Sys2Proof.Machine

open Sys2Proof

/-- The value of a little-endian byte string (R8). -/
def ule : Bytes → Nat
  | [] => 0
  | b :: r => b.toNat + 256 * ule r

/-- The `n` little-endian bytes of a value (R8). -/
def le : Nat → Nat → Bytes
  | 0, _ => []
  | n + 1, v => BitVec.ofNat 8 v :: le n (v / 256)

/-- Bytes `off` to `off + n - 1`, as many as there are. -/
def bslice (b : Bytes) (off n : Nat) : Bytes := (b.drop off).take n

/-- The byte at `off`, zero beyond the end. -/
def byteAt (b : Bytes) (off : Nat) : Byte := b.getD off 0

/-- The fields of 2, 4, 6 and 8 bytes at an offset. -/
def u16 (b : Bytes) (off : Nat) : W16 := BitVec.ofNat 16 (ule (bslice b off 2))
def u32 (b : Bytes) (off : Nat) : W32 := BitVec.ofNat 32 (ule (bslice b off 4))
def u48 (b : Bytes) (off : Nat) : W48 := BitVec.ofNat 48 (ule (bslice b off 6))
def u64 (b : Bytes) (off : Nat) : W64 := BitVec.ofNat 64 (ule (bslice b off 8))

/-- A byte string of `n` zeros. -/
def zeros (n : Nat) : Bytes := List.replicate n 0

/-- Every byte is zero. -/
def allZero (b : Bytes) : Bool := b.all (· == 0)

/-- Bytes cut or filled with zeros to `n`. -/
def padTo (n : Nat) (b : Bytes) : Bytes := (b ++ zeros n).take n

/-- `b` with `v` over the bytes from `off`. -/
def setBytes (b : Bytes) (off : Nat) (v : Bytes) : Bytes := b.take off ++ v ++ b.drop (off + v.length)

/-- Bits [hi:lo] of a word, as a number. -/
def fieldOf {w : Nat} (x : BitVec w) (hi lo : Nat) : Nat := x.toNat / 2 ^ lo % 2 ^ (hi + 1 - lo)

/-- The word whose bit n is `f n`. -/
def ofBits (w : Nat) (f : Nat → Bool) : BitVec w :=
  BitVec.ofNat w ((List.range w).foldl (fun a n => if f n then a + 2 ^ n else a) 0)

/-- Byte lane `i` of a 32-bit word, and the word with it replaced. -/
def laneOf (x : W32) (i : Nat) : Byte := BitVec.ofNat 8 (x.toNat / 2 ^ (8 * i))
def setLane (x : W32) (i : Nat) (b : Byte) : W32 :=
  (x &&& ~~~(BitVec.ofNat 32 (0xFF * 2 ^ (8 * i)))) ||| BitVec.ofNat 32 (b.toNat * 2 ^ (8 * i))

/-- A count that stops at all ones (R497). -/
def satInc {w : Nat} (x : BitVec w) : BitVec w := if x = BitVec.allOnes w then x else x + 1
def satAdd {w : Nat} (x : BitVec w) (n : Nat) : BitVec w := BitVec.ofNat w (min (x.toNat + n) (2 ^ w - 1))

/-- A bit as a number. -/
def bnat (b : Bool) : Nat := if b then 1 else 0

end Sys2Proof.Machine
end

