-- ==== Sys2Proof/Config.lean ====
section
/-! DEFINITION. Config.lean: what the module, its silicon stepping or a firmware release fixes once (constants of the spec),
and the values the spec leaves open (opaque constants: no proof can see what they are). -/

namespace Sys2Proof.Config

/-! ### Identity (R48, R498, R499, R517) -/

/-- HIF_ID at stepping B1: PART 0x9640, STEPL 2, STEPN 1 (R53, R517). -/
def hifId : W32 := 0x00129640
/-- Vendor ID and Subsystem Vendor ID of every function (R499). -/
def vendorId : W16 := 0x1F6C
/-- Device ID of a PF (R48). -/
def pfDeviceId : W16 := 0x9640
/-- Device ID of a VF (R48). -/
def vfDeviceId : W16 := 0x9641
/-- Class code of every function (R48). -/
def classCode : BitVec 24 := 0xFF0000
/-- TotalVFs and InitialVFs of a host port (R48). -/
def totalVfs : Nat := 2048
/-- First VF Offset (R48). -/
def firstVfOffset : Nat := 1
/-- VF Stride (R48). -/
def vfStride : Nat := 1

/-- The cooling variant of this module: which of the two was ordered (R1, R498). -/
opaque coolingIsAir : Bool
/-- The module's cooling variant as COOLING of the Light List writes it: 1 liquid, 2 air (R84, R498). -/
def cooling : Byte := if coolingIsAir then 2 else 1
/-- Subsystem ID (R498): 0x0001 liquid, 0x0002 air. -/
def subsystemId : W16 := if coolingIsAir then 2 else 1
/-- The highest INLET_MAX accepted, 0.1 °C units: 50.0 °C liquid, 40.0 °C air (R94 reason 5, R507). -/
def inletLimit : Nat := if coolingIsAir then 400 else 500
/-- The module serial number (R500): unique to the module. -/
opaque serialNumber : W64
/-- Firmware release of the image that the module was shipped with (R53: per image). -/
opaque shippedRelease : W32
/-- KPR_ID (R447: per stepping, no value given). -/
opaque kprId : W32
/-- IDCODE of the dies in the chain, keeper, hub, channel dies 1-4 (R486: as the BSDL files describe). -/
opaque idcode : Nat → W32
/-- The IO address space that a pair reaches: what stands at an IO address is part of each firmware release (R309). -/
opaque ioMap : Nat → W32 → Nat
/-- The golden signature of a kind of unit or domain, LBIST or MBIST, in the manifest of a release (R474). -/
opaque golden : W32 → Nat → Bool → W64
/-- Whether an image carries the Omoitra signature over its manifest, and its sections their digests (R466, R397). -/
opaque imageVerifies : Bytes → Bool
/-- The release that an image's manifest states (R466). -/
opaque imageRelease : Bytes → W32
/-- The releases from which an image may roll under MODE 0 (R466, R469). -/
opaque imageRollFrom : W32 → List W32
/-- The program words of a release's Lamp section (false) or Tender section (true) (R303, R466). -/
opaque imageWords : W32 → Bool → List (Nat × BitVec 14)
/-- The permutation that maps the 64 granules of a 4 KiB staging block onto the 64 pseudo-channels, by the key and the block number (R225). -/
opaque interleave : W64 → Nat → Equiv.Perm (Fin 64)
/-- The bank within its pseudo-channel of a granule, by the key, the block number and the granule's place in the block (R225). -/
opaque interleaveBank : W64 → Nat → Nat → BitVec 11
/-- The check code over a granule's 64 bytes and bits [63:48] of its metadata word (R215). -/
opaque granuleCheck : List Byte → BitVec 16 → BitVec 48
/-- The levels that others drive on pins under boundary scan: by the draw of a free value, and the cell (R486, R487). -/
opaque scanPin : Nat → Nat → Bool
/-- The transmit equaliser setting that firmware gives a lane for a media type that its cage module reports (R250). -/
opaque equaliser : Byte → Nat
/-- The FEC codewords corrected and not correctable on a port in a CLK_P period: what the lane brings, a free value (R251, R289; log 137). -/
opaque fecCodewords : Nat → Nat → Nat × Nat
/-- The signature that a Hild-14 core forms over its registers and pipeline (R294). -/
opaque coreSignature : List Nat → W64
/-- Whether a memory macro of a Hild-14 pair belongs to its program memory: MACRO numbers rise with the address in the unit (R25), and the spec does
not say which memory comes first. -/
opaque programMacro : Nat → Bool
/-- The granules of an HBM3 row, which the interleave hash decides (R225, R422). -/
opaque rowGranules : W32 → BitVec 24 → List Nat
/-- A free 32-bit value: the n-th value that the spec leaves open. -/
opaque freeWord : Nat → W32

/-! ### Design levels, sites (R21-R25) -/

/-- LEVEL of a site code (R21). -/
inductive Level where
  | cell | macroUnit | unit | cluster | die | carrier | module
deriving DecidableEq, Repr

/-- The encoding of a design level (R21). -/
def Level.code : Level → Nat
  | .cell => 1 | .macroUnit => 2 | .unit => 3 | .cluster => 4 | .die => 5 | .carrier => 6 | .module => 7

/-! ### Clocks (R10, R33, R35): frequencies in Hz -/

def rootPllHz : Nat := 3125000000
def clkDHz : Nat := rootPllHz / 2
def clkFHz : Nat := rootPllHz / 4
def clkLHz : Nat := rootPllHz / 8
def clkPHz : Nat := rootPllHz / 20
def keeperHz : Nat := 32768
/-- The line rate of a port: CLK_P times 165 (R35). -/
def lineRateBd : Nat := clkPHz * 165

/-! ### Intervals in ticks of 6.4 ns (R10) -/

def ticksPerSecond : Nat := 156250000
/-- The input voltages between which R434's tolerances leave the keeper's comparators: at most, to be below the falling fog threshold, and at least, to be
above the rising one (35.0 V); the same for the module reset threshold (30.5 V); in units of 25 mV. -/
def fogVolts : Nat := 1400
def resetVolts : Nat := 1220
/-- Ticks between the rounds of the Trial Balance Unit (R413). -/
def roundTicks : Nat := 15625
/-- 2 ms: the drains of R51, R97 and R431. -/
def drainTicks : Nat := 312500
/-- 160 ticks: MARK re-read (R120, R368) and credit return (R263). -/
def rereadTicks : Nat := 160
/-- 1 ms: MARK wait (R120), busy retry (R193), receive silence (R260), missing data and abort timers (R273). -/
def msTicks : Nat := 156250
/-- 100 µs: HELLO and ECHO interval (R258, R260), Idle (R439), balance round (R413). -/
def us100Ticks : Nat := 15625
/-- 5 ms: the command timer (R273). -/
def commandTicks : Nat := 781250
/-- 1 s: inactivity timer (R273), path wait (R182). -/
def secondTicks : Nat := 156250000
/-- 30 s: the busy limit (R193). -/
def busyLimitTicks : Nat := 4687500000
/-- 100 ms: the quiet time (R197), the fog clear (R436). -/
def ms100Ticks : Nat := 15625000
/-- 5 s: HELLO refused (R258), absent path (R101), cage recheck (R259). -/
def fiveSecTicks : Nat := 781250000
/-- 300 ms: a module's time to become ready (R259). -/
def cageReadyTicks : Nat := 46875000
/-- 60 s: the release of a half-rate hold (R103, R391, R509). -/
def minuteTicks : Nat := 9375000000
/-- 10 µs: ASPM idle (R73). -/
def l1IdleTicks : Nat := 1563
/-- 50 ms: the completion timeout's default (R46). -/
def ctoTicks : Nat := 7812500
/-- 10 s: disagreement of the inlet sensors (R508). -/
def tenSecTicks : Nat := 1562500000
/-- 10 ms: the time unpowered after an SMBus reset request (R459). -/
def ms10Ticks : Nat := 1562500

/-! ### Sizes (R489-R493) -/

def ctxSlots : Nat := 4096
def tagsPerPort : Nat := 4096
def quarantineLimit : Nat := 1024
def stagingBuffers : Nat := 16777216
def reservedBuffers : Nat := 1024
def lookaheadStop : Nat := 2097152
def lookaheadResume : Nat := 4194304
def spillStall : Nat := 917504
def spillResume : Nat := 524288
def spillCapacity : Nat := 1048576
def onDieItems : Nat := 512
def heldCapacity : Nat := 16777216
def heldStop : Nat := 14680064
def heldResume : Nat := 8388608
def groupsPerExecution : Nat := 64
def controlStepLimit : Nat := 65536
def segmentLimit : Nat := 64
def lookaheadBytes : Nat := 1048576
def lookaheadSteps : Nat := 8
def faultLogEntries : Nat := 4096
def windowSites : Nat := 2048
def retirementSites : Nat := 1024
def mailboxDepth : Nat := 4
def descriptorsPerChannel : Nat := 16
def channelsPerMover : Nat := 32
def dataCreditLimit : Nat := 2048
def ctrlCreditLimit : Nat := 256

/-! ### Throughput and power figures (R39, R42): stated figures of the parts -/

/-- Payload of a port per direction, MB/s (R39). -/
def portPayloadMBs : Nat := 3000
/-- Fabric slices, and bytes a slice moves per CLK_F cycle (R26). -/
def fabricSlices : Nat := 16
def sliceBytes : Nat := 64
/-- The first fabric slice of channel die d, 1-4 (R27). -/
def dieFirstSlice (d : Nat) : Nat := 4 * (d - 1)
/-- Input power, maximum, W (R42, R43). -/
def maxInputW : Nat := 330
/-- Power of a cage, W (R42, R43). -/
def cageMaxW : Nat := 8
/-- Most power added by running tests at once, W (R477). -/
def testDrawW : Nat := 20
/-- Staging memory's least throughput, GB/s, and its peak (R41). -/
def stagingFloorGBs : Nat := 200
def stagingPeakGBs : Nat := 1600
/-- Starts and completions of the device per second (R40). -/
def startsPerSecond : Nat := 60000000

/-! ### Operating conditions (R504, R507, R510, R512): the conditions under which R405 holds -/

/-- J1 input within which every rule of the manual is met, V (R507). -/
def inputMinV : Nat := 36
def inputMaxV : Nat := 75
/-- Upper inlet limit at full rate, 0.1 °C (R507). -/
def inletFullRate : Nat := if coolingIsAir then 350 else 450
/-- Hottest junction temperature allowed, 0.1 °C, and the other levels of R509. -/
def dieMaxT : Nat := 1050
def dieWithdrawT : Nat := 1150
def dieReleaseT : Nat := 950

/-! ### PCIe features (R44-R46, R48, R53, R55, R73, R75) -/

/-- Interrupt Pin: INTx is not supported (R45). -/
def interruptPin : Byte := 0
/-- Device Serial Number capability: the module serial number (R45, R500). -/
def deviceSerial : W64 := serialNumber
/-- Power Management capability of every function: D1, D2 and D3hot, PME from D0 and from D3hot, No_Soft_Reset (R75). -/
def pmD1 : Bool := false
def pmD2 : Bool := false
def pmD3hot : Bool := true
def pmeFromD0 : Bool := true
def pmeFromD3hot : Bool := true
def noSoftReset : Bool := true
/-- ASPM as advertised: no L0s, L1 with its exit latency from 4 µs to less than 8 µs, L1.1, no L1.2, no LTR (R45, R73). -/
def aspmL0s : Bool := false
def aspmL1 : Bool := true
def l1ExitUs : Nat × Nat := (4, 8)
def aspmL11 : Bool := true
def aspmL12 : Bool := false
def ltr : Bool := false
/-- A 64-bit, non-prefetchable memory BAR, in bits [3:0] of its lower register (R53, R55), and the sizes of the windows behind the BARs. -/
def barType : W64 := 4
def pfBarBytes : Nat := 16777216
def vfBarBytes : Nat := 65536
/-- Completion Timeout Ranges B and C, together 10 ms to 4 s (R46; the bounds PRESUMED, PCIe, log 114). -/
def ctoMin : Nat := 1562500
def ctoMax : Nat := 625000000

def linkRates : List LinkRate := [.g2_5, .g5, .g8, .g16, .g32, .g64]
def linkWidths : List LinkWidth := [.x1, .x2, .x4, .x8, .x16]
/-- Greatest Max_Payload_Size and Max_Read_Request_Size (R46). -/
def mpsMax : Nat := 512
def mrrsMax : Nat := 4096
/-- Non-posted requests outstanding per host port (R46). -/
def readsMax : Nat := 4096

end Sys2Proof.Config
end

