-- ==== Sys2Proof/Machine/Table.lean ====
section
/-! DEFINITION. Machine/Table.lean: sparse maps from an index to a record, and bytes, as lists with rising indices. -/

namespace Sys2Proof.Machine

/-- A sparse map: (index, record) pairs, indices strictly rising. An index not listed holds its record's reset value. -/
abbrev Table (α : Type) := List (Nat × α)

/-- The record at index `k`, when listed. -/
def tfind {α : Type} : Table α → Nat → Option α
  | [], _ => none
  | (a, v) :: t, k => if a = k then some v else tfind t k

/-- The record at index `k`, and `d` when none is listed. -/
def tget {α : Type} (d : α) (t : Table α) (k : Nat) : α := (tfind t k).getD d

/-- The map with record `v` at index `k`. -/
def tset {α : Type} : Table α → Nat → α → Table α
  | [], k, v => [(k, v)]
  | (a, w) :: t, k, v =>
    if a = k then (k, v) :: t else if k < a then (k, v) :: (a, w) :: t else (a, w) :: tset t k v

/-- The map with nothing listed at index `k`. -/
def tdel {α : Type} : Table α → Nat → Table α
  | [], _ => []
  | (a, w) :: t, k => if a = k then tdel t k else (a, w) :: tdel t k

/-- The map with `f` applied to the record at index `k` (to `d` when none is listed). -/
def tmod {α : Type} (d : α) (t : Table α) (k : Nat) (f : α → α) : Table α := tset t k (f (tget d t k))

/-- `f` applied to the record at index `k`, when one is listed. -/
def tupd {α : Type} (t : Table α) (k : Nat) (f : α → α) : Table α :=
  match tfind t k with
  | some v => tset t k (f v)
  | none => t

/-- Every index above `lo` and strictly rising. -/
def tAbove {α : Type} (lo : Nat) : Table α → Bool
  | [] => true
  | (a, _) :: t => lo < a && tAbove a t

/-- The canonical form of a map: indices strictly rising. -/
def tWf {α : Type} : Table α → Bool
  | [] => true
  | (a, _) :: t => tAbove a t

/-- Byte-addressed RAM: (address, byte) pairs, addresses strictly rising, none listed that holds `0x00`, which is what an
unlisted address reads as (DESIGN CHOICE, log 9). -/
abbrev Memory := Table Byte

/-- The byte at address `a`. -/
def Memory.read (m : Memory) (a : Nat) : Byte := tget 0 m a

/-- The memory with byte `b` at address `a`, in canonical form. -/
def Memory.write (m : Memory) (a : Nat) (b : Byte) : Memory := if b = 0 then tdel m a else tset m a b

/-- The canonical form of a memory: addresses strictly rising, no listed byte equal to what an unlisted address reads as. -/
def Memory.wf (m : Memory) : Bool := tWf m && m.all (fun c => c.2 != 0)

end Sys2Proof.Machine
end

