-- ==== Sys2Proof/Machine/State.lean ====
section
/-! DEFINITION. Machine/State.lean: everything the spec gives the GN-9640, as plain data, and its reset. A field's default is its
value at reset; where the spec gives none the field's comment names the log entry. -/

namespace Sys2Proof.Machine

open Sys2Proof

/-! ## Reasons to stop -/

/-- The block's own faults. -/
inductive Fault where
  /-- Raised by no command: every break of a rule has an outcome of the spec's own. Safe, as it never comes. -/
  | none
deriving DecidableEq, Repr

/-- Commands without a meaning. -/
inductive Refusal where
  /-- Raised by an arm of exec for a command that has no meaning yet. Safe: the machine stops. -/
  | notModelled (mnemonic : String)
deriving DecidableEq, Repr

/-! ## What the block sends (the model's own record, log 1) -/

/-- What a DMA read of the device is for. -/
abbrev Purpose := ReadKey

/-- One thing sent by the block to the world outside it. -/
inductive Out where
  /-- A posted write on a host port: PASID if used, address, bytes; at most one TLP (R46, R246). -/
  | hostWrite (p : HPort) (pasid : Option (BitVec 20)) (addr : W64) (bytes : Bytes)
  /-- A memory read on a host port. -/
  | hostRead (p : HPort) (pasid : Option (BitVec 20)) (addr : W64) (len : Nat) (key : ReadKey)
  /-- An MSI-X message of a function's vector (R68). -/
  | msix (fn : Fn) (vector : Nat) (addr : W64) (data : W32)
  /-- PM_PME of a function (R76). -/
  | pme (fn : Fn)
  /-- The data of a register read (R56). -/
  | readReturn (fn : Fn) (bytes : Bytes)
  /-- A completion without data: Successful, Completer Abort, Unsupported Request (R56, R60, R62). -/
  | success (fn : Fn)
  | completerAbort (fn : Fn)
  | unsupported (fn : Fn)
  /-- Request Retry Status to configuration requests (R456). -/
  | retryStatus (p : HPort)
  /-- A Sector Link frame on a device port, sent as the packet that `wirePacket` lays out (R252). -/
  | frame (p : DPort) (f : Frame)
  /-- PWR_WARN_OUT#, SMB_ALERT#, WAKE# driven low or released (R435, R445, R505). -/
  | pwrWarn (low : Bool)
  | smbAlert (low : Bool)
  | wake (low : Bool)
  /-- An SMBus read's word, and a byte (R505). -/
  | smbusWord (v : W16)
  | smbusByte (v : Byte)
  | smbusNak
  /-- What a TAP instruction shifts out: IDCODE of the chain (R486). -/
  | tapIdcode (codes : List W32)
  /-- The boundary-scan cells as captured, in the order of `scanCells` (R486, R487). -/
  | tapSampled (cells : List Bool)
  /-- The module's high-power request, or its being held in low power (R259, R284). -/
  | cageHighPower (c : CageNum)
  | cageLowPower (c : CageNum)
  /-- A posted IO write of a pair to an IO address that names no unit of this model (R309). -/
  | io (c : PairNum) (addr value : W32)
deriving DecidableEq, Repr

/-! ## Time and the keeper -/

structure Clk where
  /-- CLK_P periods elapsed since reset (model's own, log 2). -/
  now : Nat := 0
  /-- Free values drawn so far (model's own, log 3). -/
  free : Nat := 0
  /-- The hub's copy of the timebase (R36, R449). -/
  hub : W64 := 0
  /-- The copies of channel dies 1-4 (R36). -/
  dies : Table W64 := []
  /-- The timebase counts (R449, R458). -/
  running : Bool := false
  /-- HIF_STATUS.BRIDGED (R54, R452). -/
  bridged : Bool := false
deriving DecidableEq, Repr

/-- The retention file of the keeper by field (R448), bytes 0x00-0x4B; its CHECK is computed when it is written. -/
structure Retention where
  magic : W32 := 0
  mode : Byte := 0
  wake : Byte := 0
  rstCause : Byte := 0
  flags : Byte := 0
  t1 : W64 := 0
  t2 : W64 := 0
  k1 : W48 := 0
  kb : W48 := 0
  frac : W32 := 0
  bridges : W32 := 0
  wakeMask : W32 := 0
  wakeAt : W48 := 0
  fogAt : W48 := 0
  fogs : W32 := 0
  /-- CHECK, bytes 0x7C-0x7F. -/
  check : W32 := 0
  /-- The firmware working area, bytes 0x80-0xFF. -/
  work : Memory := []
deriving DecidableEq, Repr

structure Keeper where
  counter : W48 := 0
  /-- Part of a keeper tick elapsed, in units of 1/32,768 tick (R451). -/
  acc : Nat := 0
  /-- KPR_CNTHI as latched (R447). -/
  cntHi : W16 := 0
  /-- KPR_SUPPLY: input voltage in 25 mV units, FOG, OVER (R447). -/
  supply : BitVec 12 := 0
  fog : Bool := false
  overV : Bool := false
  /-- When the input was last seen below the rising fog threshold, or the fog signal was raised (R436). -/
  lowAt : Nat := 0
  /-- KPR_WAKEMASK, KPR_WAKEATLO as staged, WAKEAT, KPR_WAKECAUSE (R440, R447). -/
  wakeMask : W32 := 0
  wakeAtLo : W32 := 0
  wakeAt : W48 := 0
  wakeCause : W32 := 0
  /-- KPR_SLEEP as accepted: 0 none, 2 Doze, 3 Hold (R441). -/
  sleepReq : BitVec 2 := 0
  /-- KPR_DECIDE (R447). -/
  decide : BitVec 2 := 0
  /-- PERST# rising edges latched since the sleep order began (R441). -/
  perstEdge : BitVec 2 := 0
  /-- A wake from Doze or Hold has begun (R444, R446). -/
  waking : Bool := false
  /-- The module drives WAKE# low, until (R445). -/
  wakeUntil : Option Nat := none
  /-- Attempts of rail or PLL bring-up (R461), and when the next is due. -/
  railTries : Nat := 0
  railAt : Option Nat := none
  /-- Expiry of the boot timer (R467). -/
  bootAt : Option Nat := none
  /-- The root PLL is locked (R38, R444). -/
  pllLocked : Bool := false
  /-- RSTCAUSE that the keeper writes at the next power-good (R454, R460). -/
  rstCause : Byte := 1
  ret : Retention := {}
deriving DecidableEq, Repr

/-! ## Power -/

/-- The modes of R438, and `off`: held in reset without power (R434). -/
inductive Mode where
  | off | run | idle | doze | hold
deriving DecidableEq, Repr

/-- One numbered power domain (R427). -/
structure Domain where
  on : Bool := false
  /-- Asked to go on or off, switching not finished (R430): the state wanted. -/
  switching : Option Bool := none
  /-- End of the drain of a withdrawal (R431, R432). -/
  drainUntil : Option Nat := none
  /-- Ports not usable since the request (R431). -/
  withdrawn : Bool := false
  /-- Programs or transfers ended by the withdrawal (R389). -/
  ended : Nat := 0
  /-- Withdrawn by a die over temperature (R509), or being tested (R477): returns without an order. -/
  hot : Bool := false
  testing : Bool := false
deriving DecidableEq, Repr

structure Power where
  mode : Mode := .off
  domains : Table Domain := []
  /-- PLIMIT in W and SHED (R391); reset 0: log 4. -/
  plimit : W16 := 0
  shed : Bool := false
  /-- Input power measured last, W, and since when above PLIMIT, or 10 W below (R391). -/
  input : W16 := 0
  overSince : Option Nat := none
  underSince : Option Nat := none
  throttle : Bool := false
  /-- Cages shed at the fog signal, due again at the clear (R436). -/
  shedCages : List Nat := []
  /-- Since when the module has had no work (R439). -/
  quietAt : Nat := 0
deriving DecidableEq, Repr

/-- Inlet and die temperatures, 0.1 °C (R103, R508, R509). -/
structure Thermal where
  inletA : W16 := 0
  inletB : W16 := 0
  warned : Bool := false
  overSince : Option Nat := none
  underSince : Option Nat := none
  disagreeSince : Option Nat := none
  disagreed : Bool := false
  throttle : Bool := false
  /-- Hottest temperature of die d (0 the hub), since when above or below, half rate, withdrawn (R509). -/
  dieTemp : Table W16 := []
  dieHotSince : Table Nat := []
  dieCoolSince : Table Nat := []
  dieThrottle : Table Bool := []
  dieWithdrawn : Table Bool := []
deriving DecidableEq, Repr

/-! ## Host ports and functions -/

/-- One MSI-X table entry; mask bit 1 at reset (PRESUMED, log 6). -/
structure MsixEntry where
  addr : W64 := 0
  data : W32 := 0
  masked : Bool := true
deriving DecidableEq, Repr

/-- The state of one PCIe function (R53, R55, R66-R77). -/
structure FnState where
  /-- BAR0 and BAR1 of a PF as one 64-bit address (R53); those of a VF stand in its port's SR-IOV capability. -/
  bar : W64 := 0
  /-- AER: uncorrectable errors found, and their mask (R45; bits of the PCIe Base Specification, PRESUMED, log 114). -/
  aerStatus : W32 := 0
  aerMask : W32 := 0
  /-- ECRC generation and checking as enabled (R45). -/
  ecrcGen : Bool := false
  ecrcCheck : Bool := false
  mse : Bool := false
  bme : Bool := false
  d3 : Bool := false
  pmeEn : Bool := false
  pmeStatus : Bool := false
  msixEn : Bool := false
  fmask : Bool := false
  /-- HIF_ACCERR or VF_ACCERR (R61). -/
  accerr : W32 := 0
  msix : Table MsixEntry := []
  /-- The pending bit array (R53, R55). -/
  pba : W64 := 0
deriving DecidableEq, Repr

/-- A DMA read outstanding, the moment it times out, and the tags it holds (R46). -/
structure ReadReq where
  key : ReadKey
  deadline : Nat
  tags : Nat := 1
deriving DecidableEq, Repr

/-- A DMA read that waits for a free tag (R46). -/
structure ReadWait where
  key : ReadKey
  pasid : Option (BitVec 20)
  /-- First address and length of each range of the read. -/
  ranges : List (W64 × Nat)
deriving DecidableEq, Repr

/-- The causes of a fence (R281, R519), by SLP_STATE.CAUSE. -/
inductive FenceCause where
  | identity | order | cageAbsent | cageType | cagePower | balance | domain | helloRefused | noPair
deriving DecidableEq, Repr

/-- How far an order that has been begun has come. -/
inductive Stage where
  | none
  /-- The reply is settled and the PF cannot be written: its time, STATUS and RESULT. -/
  | reply (time : W64) (status : W16) (result : Bytes)
  | listRead (addr : W64) (len : Nat)
  | unbindDrain (t : Tenant)
  | resetDrain (t : Tenant) (q : QNum)
  /-- PORT-ENABLE: until when, and the fences that it left (R386). -/
  | portUp (d : DPort) (deadline : Nat) (left : List FenceCause)
  | portFence (d : DPort) (ended : Nat)
  | groupEdit (pg : Nat)
  | domainSwitch (n : Dom)
  | sleep (mode : BitVec 2)
  | selfTest
  | stageRead (addr : W64) (len : Nat)
  | stageWrite (image : Bytes)
  /-- ACTIVATE-FIRMWARE MODE 0: the pairs have been rolled, and the Tender restarts into the new image (R469 step 6). -/
  | activate
deriving DecidableEq, Repr

/-- An address window: first and last byte (R95, R380). -/
structure Window where
  base : W64
  limit : W64
deriving DecidableEq, Repr

/-- The binding of a tenant (R95, R380). -/
structure Binding where
  pasid : Option (BitVec 20)
  windows : List Window
  jbase : W64
  jdepth : Nat
  nmaps : Nat
  cmbase : W64
deriving DecidableEq, Repr

/-- What an order brings about once its status reply has been posted: the cage waves of a list, the first one or a later one (R79, R464); a binding (R95). -/
inductive AfterReply where
  | none
  | waves (first : Bool) (due : List CageNum)
  | bind (t : Tenant) (x : Binding)
deriving DecidableEq, Repr

/-- The order being carried out for a ring (R375). -/
structure Active where
  opc : Byte
  packet : Bytes
  index : Nat
  stage : Stage
  /-- Its effect stands recorded (R377). -/
  effected : Bool := false
  /-- The ring was reset or disabled meanwhile: no reply is written (R52, R368). -/
  orphan : Bool := false
  /-- The Tender has restarted since: it is answered RESTARTED once its effect is whole (R377). -/
  restarted : Bool := false
  after : AfterReply := .none
deriving DecidableEq, Repr

/-- What the read of an order slot gave: a packet with an owned MARK, or the STATUS that the slot is answered with, and what was read. -/
inductive OrderSlot where
  | packet (b : Bytes)
  | failed (status : W16) (b : Bytes)
deriving DecidableEq, Repr

/-- An order ring and its reply ring (R366-R368). Indices count on from EN; the slot is the index modulo the ring's size. -/
structure OrderRing where
  obase : W64 := 0
  rbase : W64 := 0
  en : Bool := false
  dlog : BitVec 4 := 0
  tail : Nat := 0
  fetch : Nat := 0
  head : Nat := 0
  slots : Table OrderSlot := []
  reading : Option (Nat × Nat) := none
  /-- First read and next re-read of a slot found not owned (R368). -/
  markWait : Option (Nat × Nat) := none
  /-- What the last read of that slot gave. -/
  unowned : Bytes := []
  waitPrior : Bool := false
  active : Option Active := none
deriving DecidableEq, Repr

/-- One host port (R44-R77). -/
structure HostPort where
  /-- PERST# asserted; reset asserted: log 5. -/
  perst : Bool := true
  link : Bool := false
  l1 : L1State := .l0
  /-- Rate and width as last trained; what they are before any link has trained the spec does not say (DESIGN CHOICE, log 116). -/
  rate : LinkRate := .g2_5
  width : LinkWidth := .x1
  aspmL1 : Bool := false
  aspmL11 : Bool := false
  /-- Max_Payload_Size, Max_Read_Request_Size in bytes: PCIe's defaults (PRESUMED, log 6). -/
  mps : Nat := 128
  mrrs : Nat := 512
  cto : Nat := Config.ctoTicks
  numVfs : Nat := 0
  vfEn : Bool := false
  /-- VF BAR0 and VF BAR1 of the SR-IOV capability, and ARI Capable Hierarchy (R45, R55). -/
  vfBar : W64 := 0
  ari : Bool := false
  /-- Since when nothing has been sent (R73). -/
  txIdle : Nat := 0
  reads : List ReadReq := []
  /-- Reads that wait for a tag, oldest first. -/
  readQ : List ReadWait := []
  /-- Journal records held in staging, oldest first, each with its tenant and its ring address (R207). -/
  held : List (Tenant × W64 × Bytes) := []
  /-- The queue engine hands on no entry of this port (R493). -/
  heldStop : Bool := false
  /-- Records that have left the hold: the place of the next one in the port's area (R493). -/
  heldPos : Nat := 0
  oq : OrderRing := {}
  /-- MBX_TXBUF of the 16 host mailboxes (R339). -/
  txbuf : Table Memory := []
  pf : FnState := {}
deriving DecidableEq, Repr

/-! ## Tenants and queues -/

structure TenantSt where
  binding : Option Binding := none
  /-- The audit journal's next record number, the last HASH, and RESTART due (R204, R206). -/
  jseq : W64 := 0
  prev : Bytes := List.replicate 32 0
  restart : Bool := true
  /-- Since when the tenant is quiet (R196). -/
  quiet : Option Nat := none
  /-- Discarded doorbells counted since the fog signal (R140). -/
  fogNoted : Bool := false
  /-- Fetching stopped by an unbind (R97) or an FLR (R51). -/
  stopped : Bool := false
  /-- End of the drain of an FLR, and the moment the FLR was received (R51, R205). -/
  flrDrain : Option Nat := none
  flrAt : W64 := 0
  /-- The reset of the PF came while the VF might make requests: its transfers go on making them during the drain (R518). -/
  flrMaster : Bool := false
  /-- Entries discarded by the FLR so far (R51). -/
  flrCount : Nat := 0
  /-- End of the drain of a force unbind, and entries aborted (R97). -/
  unbindDrain : Option Nat := none
  aborted : Nat := 0
deriving DecidableEq, Repr

/-- What a completion entry says before it is written (R128): everything but PHASE, BRIDGED, SEQ, GEN and TIMESTAMP. -/
structure Cpl where
  sq : QNum
  /-- Ring index. -/
  entry : Nat
  sc : SC
  code : Byte
  detail : W16
  count : W16
  digest : W64 := 0
  batch : Bool := false
  skipped : Bool := false
  /-- The step offset, which COUNT holds for every code but OK-RESIDUAL (R208). -/
  offset : W16 := count
deriving DecidableEq, Repr

/-- A completion waiting for a slot (R138): what it says, REF and STEPADDR of its record, outstanding entries it ends; the slots reserved for it, one of
which it will use (R130). -/
structure WaitingCpl where
  cpl : Cpl
  ref : W64
  step : W64
  ends : Nat
  slots : Nat := 0
deriving DecidableEq, Repr

/-- A batch of a submission queue (R132-R134). -/
structure Batch where
  id : Nat
  /-- Entries so far; the last one has been placed or refused. -/
  count : Nat := 0
  closed : Bool := false
  /-- Ring index, subchannel and REF of the entry that closed it (R133). -/
  endEntry : Nat := 0
  endSc : SC := 0
  endRef : W64 := 0
  /-- Entries ended; those that posted their own completion. -/
  ended : Nat := 0
  own : Nat := 0
  /-- What the completion of each folded member would say, with REF and STEPADDR, by position in the batch (R133, R134). -/
  folded : Table (Cpl × W64 × W64) := []
deriving DecidableEq, Repr

/-- A submission queue (R107-R139). Indices count on from CREATE-QUEUE; slot and pass follow from them (R109). -/
structure Sq where
  base : W64
  depth : Nat
  cq : QNum
  cls : BitVec 3
  tail : Nat := 0
  fetch : Nat := 0
  /-- Outstanding entries (R111). -/
  outst : Nat := 0
  /-- Copies held by index: pushed entries, copies beyond the tail, entries read and not handed on (R116, R120, R123). -/
  copies : Table Bytes := []
  /-- What the ECC will say when a kept copy is read from queue spill (R215, R218): nothing for a copy that is not listed. -/
  copyEcc : Table Ecc := []
  pushed : List Nat := []
  /-- The entry read in flight: first index and entries asked for (R119). -/
  reading : Option (Nat × Nat) := none
  /-- First read and next re-read of an entry found not owned (R120). -/
  markWait : Option (Nat × Nat) := none
  /-- What the last read of that entry gave. -/
  unowned : Bytes := []
  /-- Pushes still accepted in the buoy phase (R115). -/
  buoy : Nat := 4
  batches : List Batch := []
  nextBatch : Nat := 0
  /-- Stopped by a DMA error (R65). -/
  dmaStop : Bool := false
  resetting : Bool := false
  fenced : Bool := false
  aborted : Nat := 0
deriving DecidableEq, Repr


/-- A completion queue (R107, R128-R136). -/
structure Cq where
  base : W64
  depth : Nat
  interval : Nat
  threshold : Nat
  tail : Nat := 0
  head : Nat := 0
  seq : W32 := 0
  gen : Byte := 0
  reserved : Nat := 0
  /-- Completions written and not signalled, and the end of the interval (R135). -/
  unsignalled : Nat := 0
  expiry : Option Nat := none
  waiting : List WaitingCpl := []
  fenced : Bool := false
deriving DecidableEq, Repr

/-- Arbitration of the queue engine (R122-R124). -/
structure Arbiter where
  /-- Tenant served last in each class; queue served last for (class, tenant). -/
  lastTenant : Table Nat := []
  lastQueue : Table Nat := []
  /-- The queue that holds the grant: 8 × tenant + queue. -/
  grant : Option Nat := none
deriving DecidableEq, Repr

structure Queues where
  tenants : Table TenantSt := []
  sqs : Table Sq := []
  cqs : Table Cq := []
  arb : Arbiter := {}
deriving DecidableEq, Repr

/-! ## The Light List -/

/-- A cage entry (R87). -/
structure CageEntry where
  state : Byte := 0
  ident : Byte := 0
  media : Byte := 0
  pmax : Byte := 0
  fec : Byte := 0
deriving DecidableEq, Repr

/-- A control-unit entry (R88). -/
structure CuEntry where
  cls : Byte
  matchMode : Byte
  identity : Bytes
deriving DecidableEq, Repr

/-- A path: port and control-unit address (R90). -/
structure Path where
  port : DPort
  addr : Byte
deriving DecidableEq, Repr

/-- A path group (R90). -/
structure PathGroup where
  cu : Nat
  paths : List Path
deriving DecidableEq, Repr

/-- What is known of a (port, address) that the list names (R101-R103). -/
structure PathSt where
  /-- Identified and matching. -/
  good : Bool := false
  absent : Bool := false
  /-- An identify exchange is in progress; retries made for it; answer bytes. -/
  probing : Bool := false
  retries : Nat := 0
  answer : Bytes := []
  retryAt : Option Nat := none
  fwrev : W32 := 0
deriving DecidableEq, Repr

structure LightList where
  loaded : Bool := false
  hashkey : Option W64 := none
  inletWarn : W16 := 0
  inletMax : W16 := 0
  cages : Table CageEntry := []
  cus : Table CuEntry := []
  groups : Table PathGroup := []
  /-- Index port × 256 + address. -/
  paths : Table PathSt := []
  /-- Cages waiting for power with their slot's time (R464), and the time of the last slot scheduled. -/
  waves : List (CageNum × Nat) := []
  lastSlot : Option Nat := none
deriving DecidableEq, Repr

/-! ## Programs -/

/-- A start that has been handed on (R112, R125). -/
structure Start where
  tenant : Tenant
  sq : QNum
  /-- Index of the entry, counted on from CREATE-QUEUE; its ring index. -/
  index : Nat
  entry : Nat
  program : W64
  ref : W64
  mask : Byte
  /-- The batch it belongs to and its position in it. -/
  batch : Option (Nat × Nat) := none
  /-- The read of its first step group has been issued; the copy (R184). -/
  preAsked : Bool := false
  pre : Option Bytes := none
deriving DecidableEq, Repr

/-- Where a program stands (R179). -/
inductive Phase where
  /-- Waits for a path to become usable until the deadline (R182). -/
  | pathWait (deadline : Nat)
  /-- Waits for a context slot or tag on its port since (R180, R492). -/
  | slotWait (since : Nat)
  | running
  /-- Has reached a HOLD step; its hold report is not yet written (R165). -/
  | holding
  | held
  /-- Waits on a token since (R171). -/
  | waiting (since : Nat)
  /-- Its wait is satisfied and it has not run again (R171). -/
  | satisfied
  | closing
deriving DecidableEq, Repr

/-- How a program ends (R208, R209): code, DETAIL[15:8], step, residual. -/
structure Ending where
  code : Byte
  reason : Byte := 0
  step : Option W64 := none
  residual : Nat := 0
deriving DecidableEq, Repr

/-- A PROGRESS report waiting for its read-back (R159, R165): step, hold report, DIGEST, S, and the host writes it must see read back. -/
structure Report where
  step : W64
  hold : Bool
  digest : W64
  s : Byte
  need : Nat
deriving DecidableEq, Repr

/-- The epoch of a buffer: 15 bits (R215, R221). -/
abbrev Epoch := BitVec 15

/-- Staged bytes: the buffer they lie in, its epoch, their offset from the first byte of what the buffer holds, the bytes (R221-R223). -/
structure Piece where
  buf : Nat
  epoch : Epoch
  off : Nat := 0
  bytes : Bytes
deriving DecidableEq, Repr

/-- Bytes of a staging buffer that a reader reads, without the bytes (R241: BUF, EPOCH, BUFOFF, LEN). -/
structure Run where
  buf : Nat
  epoch : Epoch
  off : Nat
  len : Nat
deriving DecidableEq, Repr

/-- The write side of a host range or of a column stream: next host address, bytes left in the range (none: an open column stream),
further ranges, pieces landed and not yet taken, CRC-32C so far and bytes issued (R236, R239, R246). -/
structure Stream where
  next : Nat := 0
  left : Option Nat := some 0
  rest : List (Nat × Nat) := []
  pend : List Piece := []
  crc : W32 := 0xFFFFFFFF
  sent : Bytes := []
deriving DecidableEq, Repr


/-- One column of a column map (R233). -/
structure Column where
  start : Nat
  width : Nat
  offset : W64
deriving DecidableEq, Repr

/-- A column map as read (R233). -/
structure ColumnMap where
  reclen : Nat
  crcoff : W64
  columns : List Column
deriving DecidableEq, Repr

/-- The columnizer's state for a chain (R235-R239): map, base, engine, record bytes taken, one stream a column, ingress digest. -/
structure ColState where
  map : ColumnMap
  base : Nat
  engine : Nat
  pos : Nat := 0
  streams : List Stream := []
  ingress : W64 := 0
deriving DecidableEq, Repr

/-- One step's part of a data chain (R149): the step, COUNT, SKIP, its host ranges. -/
structure Part where
  step : W64
  count : Nat
  skip : Bool
  segs : List (Nat × Nat)
  /-- Tells this part from others of the same step: reads made for one are of no use to another (R188). -/
  passage : Nat := 0
deriving DecidableEq, Repr

/-- A mover channel descriptor (R241). The bytes of a staging write stand in the granules its `run` names; `bytes` is what they
held when it was queued (log 20). -/
structure Desc where
  /-- 1 host read into staging; 2 staging write to host. -/
  kind : BitVec 8
  /-- The last descriptor of the data chain: the digests are compared after it (R229). -/
  last : Bool := false
  column : Bool := false
  tenant : Tenant
  /-- PASID, where PASV is set. -/
  pasid : Option (BitVec 20) := none
  addr : Nat
  len : Nat
  bytes : Bytes := []
  /-- BUF, EPOCH, BUFOFF; none for bytes that the device makes itself, and for a host read until it takes its buffer (R222). -/
  run : Option Run := none
  /-- COL and ENG, with `column`. -/
  col : Nat := 0
  eng : Nat := 0
  sc : SC
  /-- The transfer: queue and entry index of the start. -/
  xfer : Nat × Nat
  /-- The bytes enter the egress digest (R202, R229). -/
  digest : Bool := true
  /-- A host write of bytes from several buffers takes a descriptor for each (R241, R246): the bytes of the write that the descriptors before this
  one have brought, and whether another of the same write follows. -/
  head : Bytes := []
  more : Bool := false
  /-- The last write of a CRC block, by the die and engine it frees (R231). -/
  frees : Option (Nat × Nat) := none
  /-- Output: the step, the offset in its part, and the flow's passage that the read is for (R186, R188); made for the step being served (R186). -/
  step : W64 := 0
  offset : Nat := 0
  passage : Nat := 0
  need : Bool := false
deriving DecidableEq, Repr

/-- A data chain, or a device step, in progress (R149, R150). -/
structure Chain where
  op : Byte
  input : Bool
  output : Bool
  parts : List Part
  /-- The last step of the chain has been read and checked. -/
  whole : Bool
  /-- GUARD and CHAIN of the chain's last step so far, POST on any of its steps (R147, R149). -/
  guard : Bool
  chain : Bool
  post : Bool
  /-- Address of the chain's last step so far. -/
  last : W64
  col : Option ColState := none
  colAux : W32 := 0
  /-- Exchange on the port, once its command has been queued. -/
  tag : Option Tag := none
  /-- Input: bytes routed to parts; staged pieces not yet routed; the write side. -/
  taken : Nat := 0
  unrouted : List Piece := []
  stream : Stream := {}
  /-- Output: bytes asked of the host; reads that failed ahead of need, by offset in the chain; staged pieces by offset; bytes the unit has asked for,
  bytes queued, bytes sent at least once. -/
  nextRead : Nat := 0
  redo : List (Nat × Desc) := []
  staged : Table Piece := []
  wanted : Nat := 0
  queued : Nat := 0
  sent : Nat := 0
  /-- Output: the bytes read from the host, by offset, for the ingress digest; the egress digest over the bytes sent (R229). -/
  landed : Table Bytes := []
  egress : W64 := 0
  /-- The command has been sent at least once (R237). -/
  cmdSent : Bool := false
  /-- The unit ran over the last count (R150). -/
  overRun : Bool := false
  /-- The ending status, while it waits for the chain's next step to be checked (R150). -/
  status : Option Byte := none
deriving DecidableEq, Repr

/-- A busy answer being waited out (R193). -/
structure Busy where
  first : Nat
  retryAt : Nat
  waiting : Bool
  since : Nat
deriving DecidableEq, Repr

/-- A segment list being read (R156): the step, the address of the next entry, the segments so far. -/
structure SegRead where
  step : W64
  addr : Nat
  got : List (Nat × Nat) := []
  /-- The read of the next entry is in flight. -/
  asked : Bool := false
  /-- The list is complete; or the entry needed next lies beyond its window. -/
  done : Bool := false
  beyond : Bool := false
deriving DecidableEq, Repr

/-- A guarded step whose unusual status the TEST at the flow decides (R152): last step of the chain, its CHAIN is the TEST's; POST asked;
residual, short step and its position in the chain (R150). -/
structure Guarded where
  last : W64
  post : Bool
  residual : Nat
  short : W64
  pos : Nat
deriving DecidableEq, Repr

/-- Output read ahead for a step that the flow has not reached (R186): its part, the host ranges of the input steps before it (R187), the bytes asked for,
the pieces that have landed, by offset. -/
structure Ahead where
  part : Part
  before : List (Nat × Nat) := []
  asked : Nat := 0
  staged : Table Piece := []
  landed : Table Bytes := []
  redo : List (Nat × Desc) := []
deriving DecidableEq, Repr

/-- A read-back outstanding (R200): the host writes issued before it, its DW with the bytes written in it, whether it was issued after the program's
ending (R32, R199). -/
structure ReadBack where
  writes : Nat
  addr : Nat
  dw : List (Option Byte)
  final : Bool
deriving DecidableEq, Repr

/-- A program of a subchannel (R179). -/
structure Prog where
  start : Start
  phase : Phase := .running
  /-- The status byte S (R151). -/
  s : Byte := 0
  /-- The rank level L; none is below rank 0 (R173). -/
  level : Option Nat := none
  flow : W64
  /-- The flow has reached a step (R208: "0x8000 when no step was reached"). -/
  reached : Bool := false
  controls : Nat := 0
  /-- Step groups read, by address / 64; reads in flight, each with whether the flow had arrived when it was issued (R161-R164). -/
  groups : Table Bytes := []
  asked : Table Bool := []
  /-- The groups in the order of their places in the step-cache slice (R183). -/
  slots : List Nat := []
  /-- PATH slot and path chosen, retries made for the exchange, paths tried (R181, R191, R208). -/
  path : Option Path := none
  retries : Nat := 0
  tried : List Path := []
  /-- The last failure of the exchange was a timeout (R191). -/
  timedOut : Bool := false
  chain : Option Chain := none
  guarded : Option Guarded := none
  /-- The residual of the last device status, which S keeps with LENGTH (R148, R151). -/
  residue : Option Guarded := none
  /-- Output read ahead of the flow, in order of steps; how often such output has been discarded (R186, R188). -/
  ahead : List Ahead := []
  passage : Nat := 0
  seg : Option SegRead := none
  /-- The column map read for the step at an address (R234); its read is in flight. -/
  map : Option (W64 × Bytes) := none
  mapAsked : Bool := false
  /-- Waits for an exchange tag since (R492). -/
  tagWait : Option Nat := none
  /-- DIGEST over the bytes delivered (R202); the two digests of R229 over plain input; the ingress digests at the ends of data chains whose last
  writes are not yet issued. -/
  digest : W64 := 0
  ingress : W64 := 0
  egress : W64 := 0
  compare : List W64 := []
  /-- Host writes queued, issued, and known to be read back; the pages they touch with the number of the write (R187, R200). -/
  queuedW : Nat := 0
  issuedW : Nat := 0
  provenW : Nat := 0
  pages : List (Nat × Nat) := []
  /-- The last DW written, with the bytes written in it (R200). -/
  lastDw : Option (Nat × List (Option Byte)) := none
  /-- The read-back outstanding (R200); the one after the ending has returned (R32, R199). -/
  rb : Option ReadBack := none
  rbFinal : Bool := false
  /-- A descriptor of a host write met data that cannot be trusted: the write's other descriptors are not carried out (R218). -/
  spoilt : Bool := false
  /-- Tokens named in executed steps; a wait has been satisfied (R173, R402). -/
  named : List Nat := []
  waited : Bool := false
  /-- The number of its wait among those begun (R197). -/
  waitNo : Nat := 0
  /-- A POST-TOKEN that waits for the read-back (R172). -/
  postWait : Bool := false
  reports : List Report := []
  /-- HOLD is passed once at this step (R167). -/
  pass : Option W64 := none
  /-- First busy answer to the command; the retry's moment; when it began to wait (R193). -/
  busy : Option Busy := none
  /-- Ends at the next step boundary (R159). -/
  stop : Option Ending := none
  ending : Option Ending := none
  /-- No completion is written (R51). -/
  silent : Bool := false
  /-- A PROGRESS report was dropped (R130). -/
  skipped : Bool := false
deriving DecidableEq, Repr

/-- A subchannel record (R92, R179). -/
structure Sub where
  named : Bool := false
  tenant : Tenant := 0
  enable : Bool := false
  group : Nat := 0
  devaddr : W16 := 0
  /-- FWREV of the unit as reported (R89). -/
  fwrev : W32 := 0
  /-- Refuses starts until the next list that names it (R218). -/
  spoiled : Bool := false
  starts : List Start := []
  prog : Option Prog := none
  /-- Programs closing, oldest first (R210). -/
  closing : List Prog := []
deriving DecidableEq, Repr

/-- A token (R170). Waiters in the order they began to wait. -/
structure Token where
  rank : Nat
  owner : Tenant
  value : Nat
  waiters : List Nat := []
  fenced : Bool := false
deriving DecidableEq, Repr

structure Progs where
  subs : Table Sub := []
  /-- Waits begun since reset: they give the order in which waiters began (R197). -/
  waits : Nat := 0
  tokens : Table Token := []
deriving DecidableEq, Repr

/-! ## Device ports and cages -/

/-- Whose exchange it is: a program's, or an identify of an address (R268, R278). -/
inductive Owner where
  | prog (sc : SC)
  | ident (addr : Byte)
deriving DecidableEq, Repr

/-- An open exchange (R268-R273). -/
structure Exch where
  owner : Owner
  gen : BitVec 4
  cuaddr : Byte
  devaddr : W16
  input : Bool
  output : Bool
  /-- COMMAND has been sent. -/
  sent : Bool := false
  accepted : Bool := false
  /-- Next expected SEQ, bytes received, REFUSE point (R270, R276). -/
  rxSeq : Nat := 0
  rxBytes : Nat := 0
  refuse : Option Nat := none
  gap : Bool := false
  /-- RESENDs that named a frame, by the device and by the unit (R270). -/
  named : Table Nat := []
  unitNamed : Table Nat := []
  /-- Next SEQ to send, and the DATA frames sent, kept until the unit's credit count covers them, each with its number in order of sending (R265). -/
  txSeq : Nat := 0
  /-- DATA frames sent at least once. -/
  txSent : Nat := 0
  kept : List (Nat × Frame × List Run) := []
  cmdAt : Option Nat := none
  inactAt : Option Nat := none
  missAt : Option Nat := none
deriving DecidableEq, Repr

/-- An aborted exchange whose ABORT stands unanswered (R274). -/
structure Quar where
  gen : BitVec 4
  cuaddr : Byte
  devaddr : W16
  reason : Byte
  tries : Nat
  /-- When the abort timer expires; none while the ABORT waits to be sent, and once the tag is retired. -/
  expires : Option Nat
  /-- The ABORT has been sent at least once; the tag is retired, or waits for the next HELLO. -/
  sent : Bool := false
  retired : Bool := false
deriving DecidableEq, Repr

/-- A frame waiting to be sent, with the buffers it carries (R282). -/
structure TxItem where
  frame : Frame
  /-- The exchange, none for TIME. -/
  tag : Option Tag
  srcs : List Run := []
deriving DecidableEq, Repr

/-- A buffer of a port's FIFO spill (R221, R282): its number, its epoch, the items it has taken and those that have left it, 32 at most. -/
structure SpillBuf where
  buf : Nat
  epoch : Epoch
  taken : Nat
  left : Nat
deriving DecidableEq, Repr

structure Port where
  /-- SLP_STATE.LINK (R289). -/
  link : BitVec 4 := 0
  fec : Bool := false
  fences : List FenceCause := []
  retired : Bool := false
  throttle : Bool := false
  exmax : Nat := 0
  txOn : Bool := false
  locked : Bool := false
  /-- The far end's HELLO has been accepted since block lock (R258). -/
  helloSeen : Bool := false
  /-- A HELLO of the device is due (R258), and when the refused one is sent again. -/
  helloDue : Bool := false
  helloAt : Option Nat := none
  refusedAt : Option Nat := none
  /-- Addresses still to be identified before UP (R259). -/
  idLeft : List Byte := []
  /-- DINIT of the unit's HELLO; credits granted by the unit and by the device since HELLO (DCUM, CCUM), and used, by class (R262). -/
  dinit : W32 := 0
  dcumRx : W32 := 0
  ccumRx : W32 := 0
  dUsed : W32 := 0
  cUsed : W32 := 0
  dcumTx : W32 := 0
  ccumTx : W32 := 0
  dRecv : W32 := 0
  cRecv : W32 := 0
  /-- Credits waiting to be returned, and since when (R263). -/
  dWait : Nat := 0
  cWait : Nat := 0
  waitSince : Option Nat := none
  /-- Tags: those never used start at `fresh`, the others stand in the order they were freed (R268). -/
  fresh : Nat := 0
  freed : List Nat := []
  /-- GEN that each tag last carried; unlisted 15 (R268). -/
  gens : Table (BitVec 4) := []
  exch : Table Exch := []
  quar : Table Quar := []
  /-- Frames to send (R283): RESENDs; ABORT, REFUSE, TIME; control class; data class. -/
  resends : List TxItem := []
  controls : List TxItem := []
  ctrlQ : List TxItem := []
  dataQ : List TxItem := []
  echoDue : Bool := false
  creditDue : Bool := false
  /-- The class sent last, for the alternation of R283. -/
  lastCtrl : Bool := false
  lastTx : Nat := 0
  lastRx : Nat := 0
  lastDataTx : Nat := 0
  lastGrant : Nat := 0
  stale : W32 := 0
  frmerr : W32 := 0
  pcrc : W32 := 0
  resendTx : W16 := 0
  resendRx : W16 := 0
  unnamed : W32 := 0
  retrains : W32 := 0
  fecCorr : W32 := 0
  fecUnc : W32 := 0
  stall : Bool := false
  stallCnt : W32 := 0
  /-- The lane's transmit equaliser, as firmware set it from the module's media type (R250). -/
  equaliser : Option Nat := none
  /-- A retrain waits for the frames that reached the port in the same cycle (R275). -/
  retrainDue : Bool := false
  /-- Exchanges closed by a STATUS that reached the port in the cycle of a local request to end them (R275): tag and GEN; the STATUS is still to be
  processed. -/
  early : List (Nat × BitVec 4) := []
  /-- Frames of exchanges that a STATUS has closed, kept until the unit's credit count covers them (R265). -/
  owed : List (Nat × List Run) := []
  /-- Buffers of the port's spill region in use, oldest first; those never used start at `spillFresh`, freed ones in order, epochs (R221, R282). -/
  spillBufs : List SpillBuf := []
  spillFresh : Nat := 0
  spillFreed : List Nat := []
  spillEpochs : Table Epoch := []
deriving DecidableEq, Repr

/-- A cage (R259, R284, R285, R513). -/
structure Cage where
  powered : Bool := false
  present : Bool := true
  /-- Read and found in order in low-power mode; high power requested, until when it must be ready; ready. -/
  checked : Bool := false
  readyBy : Option Nat := none
  ready : Bool := false
  recheckAt : Option Nat := none
  /-- A check failed: left in low power (R103). -/
  failed : Bool := false
  tripped : Bool := false
  /-- When the switch tripped (R513). -/
  tripAt : Option Nat := none
  /-- Out of service as a lasting site (R422). -/
  retired : Bool := false
  /-- The module that stands in the cage while the list calls it unused has been reported (R103); at reset none is to be reported (log 29). -/
  reported : Bool := true
  temp : W16 := 0
  rx : List W16 := []
deriving DecidableEq, Repr

structure Ports where
  ports : Table Port := []
  cages : Table Cage := []
deriving DecidableEq, Repr

/-! ## Data path -/

/-- A staging granule as stored (R215); CHECK follows from the rest. -/
structure Granule where
  bytes : Bytes := List.replicate 64 0xA5
  epoch : Epoch := 0
  poison : Bool := true
deriving DecidableEq, Repr


/-- A mover channel (R240-R243, R357). -/
structure Channel where
  queue : List Desc := []
  share : Nat := 2
  notBefore : Nat := 0
  paced : Bool := false
  grants : Nat := 0
deriving DecidableEq, Repr

structure MoverSt where
  channels : Table Channel := []
  /-- The channel and descriptor that run, and whether a read's data has landed (R242, R247). -/
  running : Option (Nat × Desc × Bool) := none
  lastCh : Nat := 31
  fenced : Bool := false
  retired : Bool := false
  /-- Takes no new channel work, for a rotating test until (R481). -/
  freeing : Option Nat := none
  testing : Bool := false
deriving DecidableEq, Repr

/-- The columnizer pool of a channel die (R231): holder of each engine, waiting heads in order, engines out of service. -/
structure ColPool where
  holders : Table Nat := []
  waiting : List Nat := []
  retired : List Nat := []
  testing : List Nat := []
  /-- Engines whose chain has ended and whose CRC block is not yet written (R231). -/
  closing : List Nat := []
deriving DecidableEq, Repr

structure DataPath where
  inService : Bool := false
  /-- SMC_FREEBUF (R227): free buffers in data staging, less those withheld (R422). -/
  freeBuf : Nat := 16777216
  withheld : List Nat := []
  ceCnt : W32 := 0
  ueCnt : W32 := 0
  poisRd : W32 := 0
  imbal : W32 := 0
  imbalPk : W32 := 0
  smallHeld : W32 := 0
  scrubPass : W32 := 0
  granules : Table Granule := []
  /-- Buffers: never given out from `fresh` on; freed ones in order; epoch of each (unlisted 0); held buffers. -/
  fresh : Nat := 0
  freed : List Nat := []
  epochs : Table Epoch := []
  /-- The granule that what a buffer holds starts at (R223). -/
  starts : Table Nat := []
  /-- Start offset in granules of the next allocation (R223). -/
  spread : Nat := 0
  /-- Readers that still need a buffer (R224); the port whose input a buffer holds (R222). -/
  refs : Table Nat := []
  owners : Table Nat := []
  /-- Receive buffers in use by port (R222). -/
  portUse : Table Nat := []
  /-- New lookahead grants are refused (R186). -/
  lookStop : Bool := false
  /-- Granules the scrubber has read in this pass, in rising order (R219). -/
  scrubbed : List Nat := []
  /-- Small requests that wait for the next window's budget, by controller, in order (R226). -/
  smallQ : Table (List Nat) := []
  movers : Table MoverSt := []
  /-- Descriptors that wait for a channel or a slot, in order of request (R240). -/
  waitDescs : List Desc := []
  pools : Table ColPool := []
deriving DecidableEq, Repr

/-! ## Hild-14 pairs, event units, timers, mailboxes -/

structure Pair where
  g : Table W32 := []
  pc : BitVec 15 := 0
  /-- The prefix register and the number of PFX before the next instruction (R310). -/
  pr : BitVec 27 := 0
  prn : Nat := 0
  fl : W32 := 0
  mh : W32 := 0
  ml : W32 := 0
  cs : W32 := 0
  cp : W32 := 0
  cm : W32 := 0
  trapw : BitVec 14 := 0
  trappc : BitVec 15 := 0
  trapfl : W32 := 0
  cause : W16 := 0
  trappr : W32 := 0
  /-- Cycles since the pair's reset, and CYCHI as latched (R306). -/
  cyc : W64 := 0
  cychi : W32 := 0
  /-- TBHI as latched; reset 0: log 8. -/
  tbhi : W32 := 0
  evcur : BitVec 10 := 0
  eccd : W16 := 0
  eccp : W16 := 0
  /-- Watchdog: count in units of 256 cycles, cycles into the unit, a nonzero value has been written, expiries since, one held (R320, R323). -/
  wdog : BitVec 24 := 0
  wdogSub : Nat := 0
  wdogOn : Bool := false
  wdogDue : Bool := false
  wdogHits : Nat := 0
  /-- Products in flight: the cycle at whose end each is written, and the product (R314). -/
  products : List (Nat × W64) := []
  /-- The register loaded by the instruction before (R324). -/
  loaded : Option (BitVec 4) := none
  /-- Waiting in WAITE (R311). -/
  waiting : Bool := false
  /-- Data memory, 64 KiB; reset 0: log 9 (R304). -/
  dmem : Memory := []
  /-- Program memory as loaded; an unlisted word is 0x3FFF (R303). -/
  pmem : Table (BitVec 14) := []
  /-- Loaded and running; the release loaded; the slot served (none: spare or stopped) (R29, R293). -/
  running : Bool := false
  release : W32 := 0
  slot : Option Nat := none
  retired : Bool := false
  testing : Bool := false
  failures : Nat := 0
  /-- The cycle at which the signatures of R294 were formed last. -/
  sigAt : Nat := 0
deriving DecidableEq, Repr

/-- The units that take the outside actions of the Lamp firmware (R298). -/
inductive ActUnit where
  | sequencer | link | mover | token | writer
deriving DecidableEq, Repr

/-- The last outside action written in a slot's exception log: the number of its exception, its own number, the unit it goes to (R298). -/
structure ExcLog where
  exception : Nat := 0
  action : Nat := 0
  toUnit : ActUnit := .sequencer
deriving DecidableEq, Repr

structure Cores where
  pairs : Table Pair := []
  /-- The exception log of slot 8 × (die - 1) + k (R297, R298). -/
  logs : Table ExcLog := []
  /-- The exception and action numbers of the last action that a unit took from a slot, by 8 × slot + unit (R298). -/
  taken : Table (Nat × Nat) := []
  /-- The Tender takes orders and messages (R302, R340). -/
  tenderUp : Bool := false
  /-- The Tender is not restarted again (R302). -/
  tenderDead : Bool := false
deriving DecidableEq, Repr

/-- One event unit (R325-R336). A set of source numbers lists its members, each with `true`. -/
structure Evu where
  pend : Table Bool := []
  /-- Mask bits; unlisted implemented sources are masked (R328). -/
  unmasked : Table Bool := []
  act : Table Bool := []
  /-- Pair that claimed an active source (R299). -/
  holder : Table Nat := []
  tgt : Table W32 := []
  spur : W32 := 0
  err : W32 := 0
  /-- External lines: the filtered level, once it has been sampled (R334). -/
  level : Table Bool := []
  /-- External lines: samples in a row that have shown the other level (R334). -/
  shown : Table Nat := []
deriving DecidableEq, Repr

structure Chan where
  cnt : W48 := 0
  cmp : W48 := 0
  ivl : W48 := 0
  /-- LO halves written and not yet committed (R350). -/
  cntLo : Option W32 := none
  cmpLo : Option W32 := none
  ivlLo : Option W32 := none
  cap : W48 := 0
  capseq : W32 := 0
  ctl : W32 := 0
  div : W32 := 0x00010000
  acc : W32 := 0
  capctl : W32 := 0
  act : W32 := 0
  /-- TMR_STAT bits [3:0]; GATED is computed (R362). -/
  stat : BitVec 4 := 0
  miss : W32 := 0
  /-- A passed value was committed: the match of R351 fires at the next edge. -/
  passed : Bool := false
  /-- A match is due at this edge: the counter has become equal to the compare (R349); a passed value fires (R351). -/
  equal : Bool := false
  late : Bool := false
  /-- Catch-up in progress: edges left, value to write, intervals skipped (R352). -/
  catchup : Option (Nat × W48 × W32) := none
  /-- Edges left in which no match fires (R352). -/
  edges : W32 := 0
  /-- Counted edges of the input since the last capture (R354). -/
  capCount : Nat := 0
  capDue : Bool := false
  /-- TRGO pulse of this edge, and the master's TRGO as seen one edge late (R355). -/
  pulse : Bool := false
  seen : Bool := false
  resetDue : Bool := false
  /-- Input filter (R353): whether it has taken its first sample, its value, and the samples that show the other. -/
  inKnown : Bool := false
  inLevel : Bool := false
  inRaw : Bool := false
  inSeen : Nat := 0
deriving DecidableEq, Repr

structure TBank where
  err : W32 := 0
  chans : Table Chan := []
deriving DecidableEq, Repr

/-- A mailbox: messages toward the Tender and from it, oldest first, each a header and 64 payload bytes (R337, R338). -/
structure Mbx where
  toT : List (W32 × Bytes) := []
  fromT : List (W32 × Bytes) := []
deriving DecidableEq, Repr

/-! ## Orders -/

structure Orders where
  /-- The ring taken last when both hold orders (R375). -/
  last : Option HPort := none
  /-- A sleep order is being carried out: the queue engine takes no work, and the doorbells kept meanwhile (R441). -/
  sleeping : Bool := false
  bells : List (Tenant × Nat) := []
deriving DecidableEq, Repr

/-! ## Integrity -/

/-- One instance of an account (R413): debit-side and credit-side counters. -/
structure Acct where
  debit : W48 := 0
  credit : W48 := 0
deriving DecidableEq, Repr

/-- A fault-log entry (R424); SEQ is its index. -/
structure FaultEntry where
  seq : W32
  kind : Byte
  cls : Byte
  wcount : W16
  site : W32
  who : W32
  detail : W64
  time : W64
deriving DecidableEq, Repr

/-- Windowed counting at a site (R421): its own T and W in seconds, times of its last events, newest first, lasting. -/
structure SiteWin where
  own : Option (Nat × Nat) := none
  times : List W48 := []
  lasting : Bool := false
deriving DecidableEq, Repr

structure Faults where
  log : List FaultEntry := []
  next : W32 := 0
  /-- Entries overwritten since the last READ-FAULT-LOG (R395). -/
  lost : W32 := 0
  /-- T and W of a site without its own (R394). -/
  dflt : Nat × Nat := (4, 60)
  windows : Table SiteWin := []
  /-- The retirement record: sites and their ACTION (R422). -/
  record : List (W32 × Byte) := []
  /-- Spare rows in use by macro site (R422). -/
  spares : Table Nat := []
  /-- Safe state: its cause, in the order of R411 from 1. -/
  safe : Option Nat := none
  /-- Accounts by account × 2^24 + instance (R413, R414). -/
  accts : Table Acct := []
  /-- Number of the period of 15,625 ticks that the last round began (R413). -/
  round : Nat := 0
  /-- Lasting sites whose action (R422) is not yet done, each with the row of its last event. -/
  acts : List (W32 × BitVec 24) := []
deriving DecidableEq, Repr

/-! ## Firmware, start-up, test -/

/-- One image slot of the flash (R466). -/
structure ImageSlot where
  valid : Bool := false
  release : W32 := 0
deriving DecidableEq, Repr

/-- A self-test in progress or stopped (R477, R479). -/
structure TestRun where
  dom : Nat
  mbist : Bool
  /-- Both kinds asked: MBIST follows. -/
  both : Bool := false
  started : Bool := false
  /-- The domain was on before (R477). -/
  wasOn : Bool := true
deriving DecidableEq, Repr

/-- A signature held (R480). -/
structure Held where
  misr : W64
  time : W64
  release : W32
deriving DecidableEq, Repr

structure Firmware where
  /-- Images A and B, as shipped: A valid (log 10). -/
  imgA : ImageSlot := ⟨true, Config.shippedRelease⟩
  imgB : ImageSlot := {}
  /-- RUN of the boot control block: true is B (R466). -/
  run : Bool := false
  /-- The image running (R54 IMAGE), and its release; recovery (R467). -/
  image : Bool := false
  release : W32 := 0
  recovery : Bool := false
  /-- The Tender has been started in this bring-up (R467). -/
  booted : Bool := false
  /-- Stages of bring-up (R460, R461). -/
  rails : Bool := false
  hub : Bool := false
  links : Table Bool := []
  dark : List Nat := []
  hbm : Bool := false
  ready : Bool := false
  /-- Boot-time faults to be logged once staging is in service (R467, R463). -/
  bootFaults : List FaultEntry := []
  /-- Signatures by 2 × domain + kind (R480). -/
  sigs : Table Held := []
  tests : List TestRun := []
  /-- FAILED of the ordered test (R392). -/
  failedDoms : W64 := 0
  /-- Second run of a rotating test (R483), by unit. -/
  again : List RotUnit := []
  rotating : List RotUnit := []
deriving DecidableEq, Repr

/-- SMBus and test access port (R459, R486-R488). -/
structure Side where
  armed : Option Nat := none
  /-- The TAP instruction: 0 BYPASS, 1 IDCODE, 2 SAMPLE/PRELOAD, 3 EXTEST, 4 CLAMP, 5 HIGHZ, 6 EXTEST_PULSE, 7 EXTEST_TRAIN; at reset
  IDCODE (PRESUMED, log 11). -/
  tap : Nat := 1
  /-- The pins have been taken from the module's logic (R488). -/
  pinsTaken : Bool := false
  /-- What the boundary-scan cells captured last, in the order of `scanCells` (R486, R487); none since reset. -/
  cells : List Bool := []
  /-- HIF_BEACON (R53). -/
  beacon : W32 := 0
  /-- The pins of the external lines of R327, by their source, as others drive them, where not at the level of `pinRest` (log 19). -/
  pins : Table Bool := []
deriving DecidableEq, Repr

/-! ## The whole -/

structure State where
  /-- Commands waiting, first in first out. -/
  pending : List Instr := []
  out : List Out := []
  clk : Clk := {}
  keeper : Keeper := {}
  power : Power := {}
  therm : Thermal := {}
  hosts : Table HostPort := []
  vfs : Table FnState := []
  queues : Queues := {}
  list : LightList := {}
  prog : Progs := {}
  ports : Ports := {}
  data : DataPath := {}
  cores : Cores := {}
  evus : Table Evu := []
  banks : Table TBank := []
  boxes : Table Mbx := []
  orders : Orders := {}
  faults : Faults := {}
  fw : Firmware := {}
  side : Side := {}
deriving DecidableEq, Repr

/-- The module right after a keeper reset, its input at 0 V (R454, R455): every field at its reset value. -/
def State.reset : State := {}

end Sys2Proof.Machine
end

