-- ==== Sys2Proof/Machine/Access.lean ====
section
/-! DEFINITION. Machine/Access.lean: reading and changing one record of the state. -/

namespace Sys2Proof.Machine

open Sys2Proof

/-! ### One part of the state changed -/

def State.onOut (s : State) (f : List Out → List Out) : State := { s with out := f s.out }
def State.onClk (s : State) (f : Clk → Clk) : State := { s with clk := f s.clk }
def State.onKeeper (s : State) (f : Keeper → Keeper) : State := { s with keeper := f s.keeper }
def State.onPower (s : State) (f : Power → Power) : State := { s with power := f s.power }
def State.onTherm (s : State) (f : Thermal → Thermal) : State := { s with therm := f s.therm }
def State.onHosts (s : State) (f : Table HostPort → Table HostPort) : State := { s with hosts := f s.hosts }
def State.onVfs (s : State) (f : Table FnState → Table FnState) : State := { s with vfs := f s.vfs }
def State.onQueues (s : State) (f : Queues → Queues) : State := { s with queues := f s.queues }
def State.onList (s : State) (f : LightList → LightList) : State := { s with list := f s.list }
def State.onProg (s : State) (f : Progs → Progs) : State := { s with prog := f s.prog }
def State.onPorts (s : State) (f : Ports → Ports) : State := { s with ports := f s.ports }
def State.onData (s : State) (f : DataPath → DataPath) : State := { s with data := f s.data }
def State.onCores (s : State) (f : Cores → Cores) : State := { s with cores := f s.cores }
def State.onEvus (s : State) (f : Table Evu → Table Evu) : State := { s with evus := f s.evus }
def State.onBanks (s : State) (f : Table TBank → Table TBank) : State := { s with banks := f s.banks }
def State.onBoxes (s : State) (f : Table Mbx → Table Mbx) : State := { s with boxes := f s.boxes }
def State.onOrders (s : State) (f : Orders → Orders) : State := { s with orders := f s.orders }
def State.onFaults (s : State) (f : Faults → Faults) : State := { s with faults := f s.faults }
def State.onFw (s : State) (f : Firmware → Firmware) : State := { s with fw := f s.fw }
def State.onSide (s : State) (f : Side → Side) : State := { s with side := f s.side }

/-! ### Host ports and functions -/

def State.host (s : State) (p : HPort) : HostPort := tget {} s.hosts p.val
def State.modHost (s : State) (p : HPort) (f : HostPort → HostPort) : State := s.onHosts (fun t => tmod {} t p.val f)
/-- The host port of a tenant (R49). -/
def hostOf (t : Tenant) : HPort := if t.getLsbD 11 then 1 else 0
/-- VF number minus 1 (R49). -/
def vfNum (t : Tenant) : Nat := t.toNat % 2048
/-- The tenant of host port p's VF of number n + 1 (R49). -/
def tenantOf (p : HPort) (n : Nat) : Tenant := BitVec.ofNat 12 (2048 * p.val + n % 2048)
/-- The host port of a function. -/
def fnHost : Fn → HPort
  | .pf p => p
  | .vf t => hostOf t
def State.fn (s : State) : Fn → FnState
  | .pf p => (s.host p).pf
  | .vf t => tget {} s.vfs t.toNat
def State.modFn (s : State) (fn : Fn) (f : FnState → FnState) : State :=
  match fn with
  | .pf p => s.modHost p (fun h => { h with pf := f h.pf })
  | .vf t => s.onVfs (fun v => tmod {} v t.toNat f)
/-- A host port's functions exist: not in Fundamental Reset, link up (R47). -/
def HostPort.alive (h : HostPort) : Bool := !h.perst && h.link
/-- NumVFs covers the VF and VF Enable is set (R50). -/
def State.vfOn (s : State) (t : Tenant) : Bool := (s.host (hostOf t)).vfEn && vfNum t < (s.host (hostOf t)).numVfs
/-- A function exists for the device (R47, R50); in recovery a host port has its PF only (R467). -/
def State.fnLive (s : State) : Fn → Bool
  | .pf p => (s.host p).alive
  | .vf t => (s.host (hostOf t)).alive && s.vfOn t && !s.fw.recovery

/-! ### Tenants, queues -/

def State.tenant (s : State) (t : Tenant) : TenantSt := tget {} s.queues.tenants t.toNat
def State.modTenant (s : State) (t : Tenant) (f : TenantSt → TenantSt) : State :=
  s.onQueues (fun q => { q with tenants := tmod {} q.tenants t.toNat f })
/-- The index of a tenant's queue: 8 × tenant + number (R414). -/
def qIndex (t : Tenant) (q : QNum) : Nat := 8 * t.toNat + q.val
def State.sq? (s : State) (t : Tenant) (q : QNum) : Option Sq := tfind s.queues.sqs (qIndex t q)
def State.cq? (s : State) (t : Tenant) (q : QNum) : Option Cq := tfind s.queues.cqs (qIndex t q)
def State.modSq (s : State) (t : Tenant) (q : QNum) (f : Sq → Sq) : State :=
  s.onQueues (fun k => { k with sqs := tupd k.sqs (qIndex t q) f })
def State.modCq (s : State) (t : Tenant) (q : QNum) (f : Cq → Cq) : State :=
  s.onQueues (fun k => { k with cqs := tupd k.cqs (qIndex t q) f })

/-! ### Subchannels, programs, tokens -/

def State.sub (s : State) (sc : SC) : Sub := tget {} s.prog.subs sc.toNat
def State.modSub (s : State) (sc : SC) (f : Sub → Sub) : State :=
  s.onProg (fun p => { p with subs := tmod {} p.subs sc.toNat f })
def State.prog? (s : State) (sc : SC) : Option Prog := (s.sub sc).prog
def State.modProg (s : State) (sc : SC) (f : Prog → Prog) : State :=
  s.modSub sc (fun b => { b with prog := b.prog.map f })
def State.token? (s : State) (n : Nat) : Option Token := tfind s.prog.tokens n
def State.modToken (s : State) (n : Nat) (f : Token → Token) : State :=
  s.onProg (fun p => { p with tokens := tupd p.tokens n f })

/-! ### Ports, cages, data path -/

def State.port (s : State) (d : DPort) : Port := tget {} s.ports.ports d.val
def State.modPort (s : State) (d : DPort) (f : Port → Port) : State :=
  s.onPorts (fun p => { p with ports := tmod {} p.ports d.val f })
def State.cage (s : State) (c : CageNum) : Cage := tget {} s.ports.cages c.val
def State.modCage (s : State) (c : CageNum) (f : Cage → Cage) : State :=
  s.onPorts (fun p => { p with cages := tmod {} p.cages c.val f })
def State.modExch (s : State) (d : DPort) (g : Tag) (f : Exch → Exch) : State :=
  s.modPort d (fun p => { p with exch := tupd p.exch g.toNat f })
def State.mover (s : State) (m : MoverNum) : MoverSt := tget {} s.data.movers m.val
def State.modMover (s : State) (m : MoverNum) (f : MoverSt → MoverSt) : State :=
  s.onData (fun d => { d with movers := tmod {} d.movers m.val f })
def State.pool (s : State) (d : Die) : ColPool := tget {} s.data.pools d.val
def State.modPool (s : State) (d : Die) (f : ColPool → ColPool) : State :=
  s.onData (fun x => { x with pools := tmod {} x.pools d.val f })

/-! ### Pairs, event units, timers, mailboxes -/

def State.pair (s : State) (c : PairNum) : Pair := tget {} s.cores.pairs c.val
def State.modPair (s : State) (c : PairNum) (f : Pair → Pair) : State :=
  s.onCores (fun k => { k with pairs := tmod {} k.pairs c.val f })
def State.evu (s : State) (u : EvUnit) : Evu := tget {} s.evus u.val
def State.modEvu (s : State) (u : EvUnit) (f : Evu → Evu) : State := s.onEvus (fun t => tmod {} t u.val f)
def State.bank (s : State) (k : BankNum) : TBank := tget {} s.banks k.val
def State.modBank (s : State) (k : BankNum) (f : TBank → TBank) : State := s.onBanks (fun t => tmod {} t k.val f)
def State.chan (s : State) (k : BankNum) (c : ChanNum) : Chan := tget {} (s.bank k).chans c.val
def State.modChan (s : State) (k : BankNum) (c : ChanNum) (f : Chan → Chan) : State :=
  s.modBank k (fun b => { b with chans := tmod {} b.chans c.val f })
def State.mbx (s : State) (m : Nat) : Mbx := tget {} s.boxes m
def State.modMbx (s : State) (m : Nat) (f : Mbx → Mbx) : State := s.onBoxes (fun t => tmod {} t m f)
def State.domain (s : State) (n : Dom) : Domain := tget {} s.power.domains n.val
def State.modDomain (s : State) (n : Dom) (f : Domain → Domain) : State :=
  s.onPower (fun p => { p with domains := tmod {} p.domains n.val f })

/-! ### Placement (R24, R28, R29) -/

/-- The channel die of a port, held as 0-3 (R28). -/
def portDie (d : DPort) : Die := ⟨d.val / 24, by omega⟩
def portCage (d : DPort) : CageNum := ⟨d.val / 8, by omega⟩
/-- The port-pair domain of a port (R28). -/
def portPP (d : DPort) : Nat := d.val / 2
/-- The Lamp slot that serves a port: 8 × die + k (R29). -/
def portSlot (d : DPort) : Nat := 8 * (d.val / 24) + d.val % 24 / 3

end Sys2Proof.Machine
end

