-- ==== Sys2Proof/Machine/Crc.lean ====
section
/-! DEFINITION. Machine/Crc.lean: the CRCs of the part: CRC-32C of frames and columns (R230), the CRC-64 digest (R228), and the
steps of the core's CRC unit (R316, R317). -/

namespace Sys2Proof.Machine

open Sys2Proof

/-- One bit through a reflected CRC register: shift right, and add the polynomial when the bit shifted out is 1. -/
def crcBit {w : Nat} (poly : BitVec w) (c : BitVec w) : BitVec w := if c.getLsbD 0 then (c >>> 1) ^^^ poly else c >>> 1

/-- One byte through a reflected CRC register. -/
def crcByte {w : Nat} (poly : BitVec w) (c : BitVec w) (b : Byte) : BitVec w :=
  let d := c ^^^ b.setWidth w
  crcBit poly (crcBit poly (crcBit poly (crcBit poly (crcBit poly (crcBit poly (crcBit poly (crcBit poly d)))))))

/-- A byte string through a reflected CRC register. -/
def crcBytes {w : Nat} (poly : BitVec w) (c : BitVec w) (b : Bytes) : BitVec w := b.foldl (crcByte poly) c

/-- CRC-32C over a byte string (R230): reflected, initial value and final XOR all ones. -/
def crc32c (b : Bytes) : W32 := ~~~(crcBytes (0x82F63B78 : W32) 0xFFFFFFFF b)

/-- One bit through a CRC register that takes the most significant bit first. -/
def crcBitM {w : Nat} (poly : BitVec w) (c : BitVec w) : BitVec w := if c.msb then (c <<< 1) ^^^ poly else c <<< 1

/-- One byte through the digest of R228: most significant bit first, no reflection. -/
def digestByte (c : W64) (b : Byte) : W64 :=
  let d := c ^^^ (b.setWidth 64 <<< 56)
  let p : W64 := 0x42F0E1EBA9EA3693
  crcBitM p (crcBitM p (crcBitM p (crcBitM p (crcBitM p (crcBitM p (crcBitM p (crcBitM p d)))))))

/-- The digest continued over a byte string (R228): initial value 0, final XOR 0. -/
def digest (c : W64) (b : Bytes) : W64 := b.foldl digestByte c

end Sys2Proof.Machine
end

