-- ==== Sys2Proof/Machine/Sha256.lean ====
section
/-! DEFINITION. Machine/Sha256.lean: SHA-256 of FIPS 180-4, which chains the audit journal (R204). Its constants are computed from what that standard
says they are: the first 32 bits of the fractional parts of roots of primes. -/

namespace Sys2Proof.Machine

open Sys2Proof

/-! ### Constants -/

/-- The `b` low bits of the largest number, at least `r`, whose `k`-th power is not above `n`, found from the top bit down. -/
def rootFrom (k n : Nat) : Nat → Nat → Nat
  | 0, r => r
  | b + 1, r => rootFrom k n b (if (r + 2 ^ b) ^ k ≤ n then r + 2 ^ b else r)

/-- The first 32 bits of the fractional part of the `k`-th root of a number below 2^12. -/
def rootFraction (k p : Nat) : W32 := BitVec.ofNat 32 (rootFrom k (p * 2 ^ (32 * k)) 44 0)

/-- The first 64 primes. -/
def shaPrimes : List Nat := (List.range 312).filter (fun n => 2 ≤ n && ((List.range 18).drop 2).all (fun d => n = d || n % d != 0))

/-- Round constants (4.2.2), and the initial hash value (5.3.3). -/
def shaConstants : List W32 := shaPrimes.map (rootFraction 3)
def shaInitial : List W32 := (shaPrimes.take 8).map (rootFraction 2)

/-! ### Compression -/

/-- Rotations of a word by several amounts, added bit by bit. -/
def rotations (x : W32) (by1 : List Nat) : W32 := by1.foldl (fun acc n => acc ^^^ x.rotateRight n) 0

/-- The message schedule (6.2.2 step 1), its newest word first: each word is made from those 2, 7, 15 and 16 places before it. -/
def extendSchedule : Nat → List W32 → List W32
  | 0, w => w
  | n + 1, w =>
    let back := fun (i : Nat) => w.getD (i - 1) 0
    let fresh := [back 16, rotations (back 15) [7, 18] ^^^ (back 15 >>> 3), back 7, rotations (back 2) [17, 19] ^^^ (back 2 >>> 10)].sum
    extendSchedule n (fresh :: w)

/-- One round (6.2.2 step 3) on the eight working variables, with the sum of its constant and its schedule word. `f` is taken where `e` has a one and `g`
elsewhere; the majority of `a`, `b` and `c` is what two of them share. -/
def compressRound (vars : List W32) (kw : W32) : List W32 :=
  match vars with
  | [a, b, c, d, e, f, g, h] =>
    let choice := g ^^^ (e &&& (f ^^^ g))
    let majority := (a &&& (b ||| c)) ||| (b &&& c)
    let t := [h, rotations e [6, 11, 25], choice, kw].sum
    [t + rotations a [2, 13, 22] + majority, a, b, c, d + t, e, f, g]
  | other => other

/-- The hash value after one 64-byte block, read as big-endian words. -/
def hashBlock (hash : List W32) (block : Bytes) : List W32 :=
  let first := (List.range 16).map (fun i => BitVec.ofNat 32 (ule (bslice block (4 * i) 4).reverse))
  let schedule := (extendSchedule 48 first.reverse).reverse
  List.zipWith (· + ·) hash ((List.zipWith (· + ·) shaConstants schedule).foldl compressRound hash)

/-! ### Message -/

/-- A message padded to whole blocks (5.1.1): a one bit, zeros, and the length in bits, big-endian. -/
def padMessage (m : Bytes) : Bytes :=
  let body := m ++ [0x80]
  body ++ zeros ((120 - body.length % 64) % 64) ++ (le 8 (8 * m.length)).reverse

/-- SHA-256. -/
def sha256 (m : Bytes) : Bytes :=
  let p := padMessage m
  let hash := (List.range (p.length / 64)).foldl (fun h i => hashBlock h (bslice p (64 * i) 64)) shaInitial
  hash.flatMap (fun w => (le 4 w.toNat).reverse)

end Sys2Proof.Machine
end

