-- ==== Sys2Proof/Machine/Ops.lean ====
section
/-! DEFINITION. Machine/Ops.lean: the operations every family shares: what the module sends, vectors, the fault log, the books of
the Trial Balance Unit, the audit journal, event sources, address windows. -/

namespace Sys2Proof.Machine

open Sys2Proof

/-! ### Sending -/

/-- One thing sent. -/
def State.emit (s : State) (o : Out) : State := s.onOut (fun l => o :: l)

/-- The host link leaves L1 because the device has something to send, and its transmit side is busy now (R73, R74). -/
def State.exitL1 (s : State) (p : HPort) : State := s.modHost p (fun h => { h with l1 := .l0, txIdle := s.clk.now })

/-- A posted write on a host port. -/
def State.sendWrite (s : State) (p : HPort) (pasid : Option (BitVec 20)) (addr : W64) (b : Bytes) : State :=
  (s.exitL1 p).emit (.hostWrite p pasid addr b)

/-- A completion of a request that a function received: the transmit side is busy with it (R73). -/
def State.complete (s : State) (fn : Fn) (o : Out) : State := (s.exitL1 (fnHost fn)).emit o

/-- An uncorrectable error of a function is noted in its AER status, by its bit (R45; PRESUMED, log 114). -/
def State.aerNote (s : State) (fn : Fn) (bit : Nat) : State :=
  if s.fnLive fn then s.modFn fn (fun f => { f with aerStatus := f.aerStatus ||| (1#32 <<< bit) }) else s

/-- Unsupported Request and Completer Abort as completions (R56, R60, R63). -/
def State.sayUnsupported (s : State) (fn : Fn) : State := (s.aerNote fn 20).complete fn (.unsupported fn)
def State.sayAbort (s : State) (fn : Fn) : State := (s.aerNote fn 15).complete fn (.completerAbort fn)

/-! ### DMA reads (R46, R245) -/

/-- A read is rounded outward to 64-byte boundaries (R245); the read-back is of one DW (R200). -/
def readRange (key : ReadKey) (addr len : Nat) : Nat × Nat :=
  match key with
  | .readback _ => (addr, len)
  | _ => (addr / 64 * 64, (addr + len + 63) / 64 * 64 - addr / 64 * 64)

/-- A read cut at every 4 KiB boundary and at Max_Read_Request_Size (R46, R245). -/
def readCuts (mrrs : Nat) : Nat → Nat → Nat → List (Nat × Nat)
  | 0, _, _ => []
  | f + 1, a, n =>
    let k := min (min n mrrs) (4096 - a % 4096)
    if n = 0 then [] else (a, k) :: readCuts mrrs f (a + k) (n - k)

/-- Tags of a host port that no read holds (R46). -/
def HostPort.tagsFree (h : HostPort) : Nat := Config.readsMax - h.reads.foldl (fun a r => a + r.tags) 0

/-- The requests of a read of some ranges (R46, R245). -/
def State.readTlps (s : State) (p : HPort) (key : ReadKey) (ranges : List (W64 × Nat)) : List (Nat × Nat) :=
  ranges.flatMap (fun x =>
    let r := readRange key x.1.toNat x.2
    readCuts (s.host p).mrrs (r.2 / 64 + 2) r.1 r.2)

/-- A read is issued, and kept until its completion or its timeout (R46). One of more requests than there are free tags holds those there are, and its
later requests follow its earlier ones (DEDUCED, log 117). -/
def State.issueRead (s : State) (p : HPort) (pasid : Option (BitVec 20)) (ranges : List (W64 × Nat)) (key : ReadKey) : State :=
  let l := s.readTlps p key ranges
  ((s.exitL1 p).modHost p (fun h => { h with reads := h.reads ++ [⟨key, s.clk.now + h.cto, min l.length h.tagsFree⟩] })).onOut
    (fun o => (l.map (fun x => Out.hostRead p pasid (BitVec.ofNat 64 x.1) x.2 key)).reverse ++ o)

/-- A read of some ranges on a host port: issued, or left waiting for a tag (R46). -/
def State.sendReads (s : State) (p : HPort) (pasid : Option (BitVec 20)) (ranges : List (W64 × Nat)) (key : ReadKey) : State :=
  if 0 < (s.host p).tagsFree then s.issueRead p pasid ranges key
  else s.modHost p (fun h => { h with readQ := h.readQ ++ [⟨key, pasid, ranges⟩] })

/-- A read of one range. -/
def State.sendRead (s : State) (p : HPort) (pasid : Option (BitVec 20)) (addr : W64) (len : Nat) (key : ReadKey) : State :=
  s.sendReads p pasid [(addr, len)] key

/-- A DMA read of a key is outstanding; it is outstanding or waits for a tag. -/
def State.readOpen (s : State) (p : HPort) (key : ReadKey) : Bool := (s.host p).reads.any (fun r => r.key == key)
def State.readAsked (s : State) (p : HPort) (key : ReadKey) : Bool := s.readOpen p key || (s.host p).readQ.any (fun r => r.key == key)

/-- The function for which a read is made. -/
def State.keyFn (s : State) (p : HPort) (key : ReadKey) : Fn :=
  let ofSub := fun (sc : SC) => Fn.vf (s.sub sc).tenant
  match key with
  | .entry t _ => .vf t
  | .group sc _ => ofSub sc
  | .segments sc => ofSub sc
  | .columnMap sc => ofSub sc
  | .output sc => ofSub sc
  | .readback sc => ofSub sc
  | .orderSlot _ => .pf p
  | .lightList _ => .pf p
  | .image _ => .pf p
  | .faultLog _ => .pf p

/-- The device may make memory requests for a VF: it exists and is in D0 (R47, R77), and its own and its PF's Bus Master Enable are set
(R244; the VF's PRESUMED, log 13); or its PF is being reset, and its transfers drain (R518). -/
def State.vfMaster (s : State) (t : Tenant) : Bool :=
  (s.fnLive (.vf t) && !(s.fn (.vf t)).d3 && (s.fn (.vf t)).bme && (s.fn (.pf (hostOf t))).bme) ||
    ((s.tenant t).flrDrain.isSome && (s.tenant t).flrMaster && (s.host (hostOf t)).alive)

/-- The device may make memory requests for a PF (R77, R207). -/
def State.pfMaster (s : State) (p : HPort) : Bool := (s.host p).alive && !(s.host p).pf.d3 && (s.host p).pf.bme

def State.fnMaster (s : State) : Fn → Bool
  | .pf p => s.pfMaster p
  | .vf t => s.vfMaster t

/-- Reads that waited for a tag are issued, in order, as far as there are tags and their functions may make requests. -/
def State.issueWaiting : Nat → State → HPort → State
  | 0, s, _ => s
  | f + 1, s, p =>
    let ready := fun (r : ReadWait) => s.fnMaster (s.keyFn p r.key)
    match (s.host p).readQ.find? ready with
    | none => s
    | some r =>
      if 0 < (s.host p).tagsFree then
        State.issueWaiting f ((s.modHost p (fun h => { h with readQ := h.readQ.eraseP ready })).issueRead p r.pasid r.ranges r.key) p
      else s

def State.kickReads (s : State) (p : HPort) : State := State.issueWaiting (s.host p).readQ.length s p

/-- The oldest outstanding read of a key is taken off, and its tags go to the reads that wait. -/
def State.endRead (s : State) (p : HPort) (key : ReadKey) : State :=
  (s.modHost p (fun h => { h with reads := h.reads.eraseP (fun r => r.key == key) })).kickReads p

/-- Reads of a port whose keys are given up, outstanding or waiting (R51, R52, R137). -/
def State.dropKeys (s : State) (p : HPort) (f : ReadKey → Bool) : State :=
  s.modHost p (fun h => { h with reads := h.reads.filter (fun r => !f r.key), readQ := h.readQ.filter (fun r => !f r.key) })

/-- A free value: the n-th value the spec leaves open (log 3). -/
def State.freeVal (s : State) : W32 := Config.freeWord s.clk.free
def State.useFree (s : State) : State := s.onClk (fun c => { c with free := c.free + 1 })

/-- The module does something other than idle: Run, and the quiet of R439 begins anew. -/
def State.work (s : State) : State :=
  s.onPower (fun p => { p with mode := if p.mode = .idle then .run else p.mode, quietAt := s.clk.now })

/-- The fog signal is raised (R435); the safe state holds (R411). -/
def State.foggy (s : State) : Bool := s.keeper.fog
def State.safe (s : State) : Bool := s.faults.safe.isSome

/-! ### MSI-X (R66-R72, R76) -/

/-- Vectors of a function (R66, R67). -/
def fnVectors : Fn → Nat
  | .pf _ => 64
  | .vf _ => 16

/-- The message of vector `v` of a function. -/
def State.sendVector (s : State) (fn : Fn) (v : Nat) : State :=
  let e := tget {} (s.fn fn).msix v
  (s.exitL1 (fnHost fn)).emit (.msix fn v e.addr e.data)

/-- Whether a function may send messages at all: it exists, is in D0, has MSI-X Enable set and Function Mask clear (R68, R71, R76), and
has Bus Master Enable set (PRESUMED, log 13). -/
def State.mayVector (s : State) (fn : Fn) : Bool :=
  let f := s.fn fn
  s.fnLive fn && !f.d3 && f.msixEn && !f.fmask && f.bme

/-- Vector `v` of a function is generated (R68, R71, R76). -/
def State.vector (s : State) (fn : Fn) (v : Nat) : State :=
  let f := s.fn fn
  if !s.fnLive fn || f.pba.getLsbD v then s
  else if s.mayVector fn && !(tget {} f.msix v).masked then s.sendVector fn v
  else
    let s := s.modFn fn (fun f => { f with pba := f.pba ||| (1#64 <<< v) })
    if f.d3 && f.pmeEn then ((s.exitL1 (fnHost fn)).modFn fn (fun f => { f with pmeStatus := true })).emit (.pme fn) else s

/-- Vector `v` is sent when it is pending and nothing masks it, and its pending bit cleared (R68, R71, R76). -/
def State.flushVector (s : State) (fn : Fn) (v : Nat) : State :=
  let f := s.fn fn
  if f.pba.getLsbD v && s.mayVector fn && !(tget {} f.msix v).masked then
    (s.modFn fn (fun f => { f with pba := f.pba &&& ~~~(1#64 <<< v) })).sendVector fn v
  else s

/-- Every pending vector that nothing masks is sent once. -/
def State.flushVectors (s : State) (fn : Fn) : State := (List.range (fnVectors fn)).foldl (fun s v => s.flushVector fn v) s

/-- A vector of both PFs: the spec names no host port for it (DESIGN CHOICE, log 14). -/
def State.pfVector (s : State) (v : Nat) : State := (s.vector (.pf 0) v).vector (.pf 1) v

/-- The tenants whose VF is enabled on a host port. -/
def State.vfsOn (s : State) (p : HPort) : List Tenant :=
  if (s.host p).vfEn then (List.range (min (s.host p).numVfs 2048)).map (tenantOf p) else []

/-- A vector of every enabled VF. -/
def State.vfVectors (s : State) (v : Nat) : State :=
  (s.vfsOn 0 ++ s.vfsOn 1).foldl (fun s t => s.vector (.vf t) v) s

/-! ### Sites and who (R21-R25, R424) -/

/-- A site code (R22). -/
def siteCode (level die cluster unit macroNo : Nat) : W32 :=
  BitVec.ofNat 32 (level * 2 ^ 29 + die * 2 ^ 26 + cluster * 2 ^ 20 + unit * 2 ^ 12 + macroNo)
/-- A site placed at unit level (R23). -/
def unitSite (die cluster unit : Nat) : W32 := siteCode 3 die cluster unit 0xFFF
def portSite (d : DPort) : W32 := unitSite (1 + d.val / 24) 0 (d.val % 24)
def seqSite (d : DPort) : W32 := unitSite (1 + d.val / 24) 0 (32 + d.val % 24)
def cageSite (c : CageNum) : W32 := unitSite 7 2 c.val
/-- The function table of a host port (R24): where a register access is placed (DEDUCED, log 15). -/
def fnSite (p : HPort) : W32 := unitSite 0 p.val 2
def pairSite (c : PairNum) : W32 := if c.val < 40 then unitSite (1 + c.val / 10) 0 (64 + c.val % 10) else unitSite 0 4 51
def moverSite (m : MoverNum) : W32 := unitSite 0 4 (32 + m.val)
def engineSite (d : Die) (e : Fin 8) : W32 := unitSite (1 + d.val) 1 e.val
def queueSite : W32 := unitSite 0 4 16
def writerSite : W32 := unitSite 0 4 48
def tbuSite : W32 := unitSite 0 4 49
def tokenSite : W32 := unitSite 0 4 50
def keeperSite : W32 := unitSite 5 0 0
def retainSite : W32 := unitSite 5 0 2
def inletSite : W32 := unitSite 7 4 0
def dieSite (d : Nat) : W32 := siteCode 5 d 0x3F 0xFF 0xFFF
def linkSite (d : Die) : W32 := unitSite 6 2 d.val
def hbmSite : W32 := unitSite 0 2 0
/-- The event unit and the timer bank of the hub or of a channel die (R325, R346), and the keeper's wake logic (R24). -/
def evuSite (u : EvUnit) : W32 := if u = 0 then unitSite 0 4 53 else unitSite u.val 0 81
def bankSite (k : BankNum) : W32 := if k = 0 then unitSite 0 4 52 else unitSite k.val 0 80
def wakeSite : W32 := unitSite 5 0 3

/-- WHO of an entry (R424). -/
def whoNone : W32 := 0
def whoVf (t : Tenant) : W32 := 0x2000 ||| t.setWidth 32
def whoPf (p : HPort) : W32 := 0x3000 ||| BitVec.ofNat 32 p.val
def whoFn : Fn → W32
  | .pf p => whoPf p
  | .vf t => whoVf t

/-! ### Event sources (R325-R331) -/

/-- Sources that are implemented and not reserved (R325-R327). -/
def sourceReal (u : EvUnit) (n : Nat) : Bool :=
  if u = 0 then 1 ≤ n && n ≤ 261
  else n == 256 || (n < 256 && 1 ≤ n % 32 && n % 32 ≤ 27)

/-- A numbered domain is on. -/
def State.domOn (s : State) (n : Nat) : Bool := (tget ({} : Domain) s.power.domains n).on

/-- An event unit has power: a channel die's while either of its Lamp cluster domains is on (R428). -/
def State.evuOn (s : State) (u : EvUnit) : Bool := u == 0 || s.domOn (46 + 2 * u.val) || s.domOn (47 + 2 * u.val)

/-- A source fires: its pending bit is set (R331). -/
def State.fire (s : State) (u : EvUnit) (n : Nat) : State :=
  if sourceReal u n && s.evuOn u then (s.modEvu u (fun e => { e with pend := tset e.pend n true })).work else s

/-- Source e of a port in its channel-die unit (R326). -/
def State.firePort (s : State) (d : DPort) (e : Nat) : State :=
  s.fire ⟨1 + d.val / 24, by omega⟩ (32 * (d.val % 24 / 3) + 1 + 7 * (d.val % 24 % 3) + e)

/-- A source of the Lamp slot `k` of every channel die. -/
def State.fireSlots (s : State) (n : Nat) : State :=
  [1, 2, 3, 4].foldl (fun s (u : EvUnit) => (List.range 8).foldl (fun s k => s.fire u (32 * k + n)) s) s

/-! ### The fault log (R420-R425, R520) -/

/-- Whether an entry counts in its site's window (R420, R425). -/
def faultCounted (kind : Byte) (detail : W64) : Bool :=
  (1 ≤ kind.toNat && kind.toNat ≤ 4) || (kind == 5 && (detail.setWidth 8 == (1 : Byte) || detail.setWidth 8 == (2 : Byte) || detail.setWidth 8 == (6 : Byte)))

/-- CLASS of an entry whose event does not make its site lasting (R520). -/
def faultClass (kind : Byte) (detail : W64) : Byte :=
  match kind.toNat with
  | 1 => 0
  | 2 => 2
  | 3 => 2
  | 4 => 2
  | 5 => if faultCounted kind detail then 2 else 4
  | 0x0A => 1
  | 0x0B => 1
  | 0x0C => 2
  | _ => 4

/-- The log with one more entry: when full, the oldest entry of CLASS 0 or 4 makes room, or else the oldest (R423). -/
def logPut (l : List FaultEntry) (e : FaultEntry) : List FaultEntry :=
  if l.length < Config.faultLogEntries then l ++ [e]
  else if l.any (fun x => x.cls == 0 || x.cls == 4) then l.eraseP (fun x => x.cls == 0 || x.cls == 4) ++ [e]
  else l.drop 1 ++ [e]

/-- An entry added, with PF vector 4 (R423). Before staging memory is in service the Tender keeps it (R467). -/
def State.logEntry (s : State) (kind cls : Byte) (wcount : W16) (site who : W32) (detail : W64) : State :=
  if !s.data.inService then
    s.onFw (fun f => { f with bootFaults := f.bootFaults ++ [⟨0, kind, cls, wcount, site, who, detail, s.clk.hub⟩] })
  else
    let full := Config.faultLogEntries ≤ s.faults.log.length
    let s := s.onFaults (fun f => { f with
      log := logPut f.log ⟨f.next, kind, cls, wcount, site, who, detail, s.clk.hub⟩
      next := f.next + 1
      lost := if full then satInc f.lost else f.lost })
    s.pfVector 4

/-- The retirement record holds as many sites as it can (R422). -/
def State.recordFull (s : State) : Bool := Config.retirementSites ≤ s.faults.record.length

/-- T and W of a site (R394). -/
def State.windowOf (s : State) (site : W32) : Nat × Nat := ((tget {} s.faults.windows site.toNat).own).getD s.faults.dflt

/-- The keeper times of a site's events that count with one at time `k` (R421). -/
def windowTimes (tw : Nat × Nat) (k : W48) (old : List W48) : List W48 :=
  (k :: old.filter (fun x => (k - x).toNat < tw.2 * 32768)).take tw.1

/-- The site that makes room in a full table: of those not lasting, the one whose newest event is the oldest (R421). -/
def evictSite (k : W48) (w : Table SiteWin) : Option Nat :=
  ((w.filter (fun x => !x.2.lasting && !x.2.times.isEmpty)).foldl
    (fun (best : Option (Nat × Nat)) x =>
      let age := (k - x.2.times.headD 0).toNat
      match best with
      | some b => if b.2 < age then some (x.1, age) else some b
      | none => some (x.1, age)) none).map (·.1)

/-- One event counted at a site (R421): the state, WCOUNT, and whether this event makes the site lasting. -/
def State.countEvent (s : State) (site : W32) : State × Nat × Bool :=
  let k := s.keeper.counter
  let tw := s.windowOf site
  let w := tget {} s.faults.windows site.toNat
  let times := windowTimes tw k w.times
  let lasting := decide (tw.1 ≤ times.length) && !w.lasting
  let held := (s.faults.windows.filter (fun x => !x.2.times.isEmpty)).length
  let room := if w.times.isEmpty && decide (Config.windowSites ≤ held) then evictSite k s.faults.windows else none
  let tbl := match room with
    | some v => tmod {} s.faults.windows v (fun x => { x with times := [] })
    | none => s.faults.windows
  (s.onFaults (fun f => { f with windows := tset tbl site.toNat { w with times := times, lasting := w.lasting || lasting } }),
    times.length, lasting)

/-- A fault report of a hub or carrier unit is queued (R327). -/
def State.fireReport (s : State) (site : W32) : State :=
  if fieldOf site 28 26 = 0 || fieldOf site 28 26 = 6 then s.fire 0 169 else s

/-- A fault logged: counted at its site where R420 counts it, with the CLASS of R520; a site that becomes lasting is put down for its
action (R421, R422). -/
def State.logFault (s0 : State) (kind : Byte) (site who : W32) (detail : W64) : State :=
  let s := s0.fireReport site
  if faultCounted kind detail then
    if s.faults.acts.any (fun a => a.1 == site) then s
    else
      let (s1, n, lasting) := s.countEvent site
      let cls := if lasting then (if s.recordFull then 3 else 1) else faultClass kind detail
      let s2 := s1.logEntry kind cls (BitVec.ofNat 16 n) site who detail
      if lasting then s2.onFaults (fun f => { f with acts := f.acts ++ [(site, detail.setWidth 24)] }) else s2
  else s.logEntry kind (faultClass kind detail) 0 site who detail

/-- Events that R420 counts and no KIND names: a journal hash disagreement, a rebuild. -/
def State.countOnly (s : State) (site : W32) : State :=
  let (s1, _, lasting) := s.countEvent site
  if lasting then s1.onFaults (fun f => { f with acts := f.acts ++ [(site, 0)] }) else s1

/-- The forms of a register-access entry (R425). -/
inductive AccForm where
  | partialWrite | misalignedRead | misalignedWrite | reservedBit | reservedOffset | buoy | doorbell | mailbox | other
deriving DecidableEq, Repr

def AccForm.code : AccForm → Nat
  | .partialWrite => 1 | .misalignedRead => 2 | .misalignedWrite => 3 | .reservedBit => 4 | .reservedOffset => 5
  | .buoy => 6 | .doorbell => 7 | .mailbox => 8 | .other => 9

/-- A "logged" event of a register access (R61). -/
def State.accessError (s : State) (fn : Fn) (off : Nat) (form : AccForm) : State :=
  (s.modFn fn (fun f => { f with accerr := satInc f.accerr })).logFault 7 (fnSite (fnHost fn)) (whoFn fn)
    (BitVec.ofNat 64 (off % 2 ^ 32 + form.code * 2 ^ 32))

/-- Reserved bits written nonzero, or a write to a reserved offset (every bit of `rsv` set), of a register that a pair reaches, are logged (R14); no
function makes such an access: the entry stands at the unit's site, WHO not valid (DEDUCED, log 115). -/
def State.ioReserved (s : State) (site : W32) (off : Nat) (rsv v : W32) : State :=
  let form : AccForm := if rsv = BitVec.allOnes 32 then .reservedOffset else .reservedBit
  if rsv ≠ BitVec.allOnes 32 && v &&& rsv = 0 then s
  else s.logFault 7 site whoNone (BitVec.ofNat 64 (off % 2 ^ 32 + form.code * 2 ^ 32))

/-! ### Actions of the Lamp firmware (R291, R297, R298, R315) -/

/-- The pair that serves a slot. -/
def State.servingPair (s : State) (k : Nat) : Option PairNum :=
  (List.finRange 41).find? (fun c => (s.pair c).running && (s.pair c).slot == some k)

/-- COREID [6:0] of a pair: die and pair (R293). -/
def coreNumber (c : PairNum) : Nat := if c.val < 40 then 1 + c.val / 10 + 8 * (c.val % 10) else 0

/-- A pair's firmware tests FL.EARLY: when it is set, an entry of KIND 0x09 is written against the pair's site and the flag is cleared (R315). -/
def State.findEarly (s : State) (c : PairNum) : State :=
  if (s.pair c).fl.getLsbD 4 then
    (s.modPair c (fun p => { p with fl := p.fl &&& ~~~(0x10 : W32) })).logFault 9 (pairSite c) whoNone (BitVec.ofNat 64 (coreNumber c))
  else s

def ActUnit.code : ActUnit → Nat
  | .sequencer => 0 | .link => 1 | .mover => 2 | .token => 3 | .writer => 4

/-- An exception of slot `k` is numbered, and its first outside action is written in the slot's log before it is made (R298). -/
def State.logAction (s : State) (k : Nat) (u : ActUnit) : State :=
  s.onCores (fun c => { c with logs := tmod {} c.logs k (fun l => ⟨l.exception + 1, 1, u⟩) })

/-- The action that the slot's log names is given to its unit, which discards it when its numbers are those of the last one it took (R298). -/
def State.takeAction (s : State) (k : Nat) : State :=
  let l := tget {} s.cores.logs k
  let key := 8 * k + l.toUnit.code
  if tfind s.cores.taken key == some (l.exception, l.action) then s
  else s.onCores (fun c => { c with taken := tset c.taken key (l.exception, l.action) })

/-- One exception of slot `k` is served: its action is logged and taken, and the pair tests EARLY afterwards (R298, R315). -/
def State.lampAction (s0 : State) (k : Nat) (u : ActUnit) : State :=
  let s := (s0.logAction k u).takeAction k
  match s.servingPair k with
  | some c => s.findEarly c
  | none => s

/-! ### The books (R413, R414, R418) -/

/-- Key of an account's instance. -/
def acctKey (a i : Nat) : Nat := a * 2 ^ 24 + i

/-- `n` units move in an instance: both counters change in one edge (R413). -/
def State.book (s : State) (a i : Nat) (n : Int) : State :=
  let mv := fun (x : Acct) => (⟨x.debit + BitVec.ofInt 48 n, x.credit + BitVec.ofInt 48 n⟩ : Acct)
  s.onFaults (fun f => { f with accts := tmod {} f.accts (acctKey a i) mv })

def State.acct (s : State) (a i : Nat) : Acct := tget {} s.faults.accts (acctKey a i)

/-- An instance's counters agree. -/
def State.balanced (s : State) (a i : Nat) : Bool := (s.acct a i).debit == (s.acct a i).credit

/-- An instance is zeroed: only when it balances; else the break stands for the next round to find (R415). -/
def State.zeroAcct (s : State) (a i : Nat) : State :=
  if s.balanced a i then s.onFaults (fun f => { f with accts := tset f.accts (acctKey a i) {} }) else s

/-- An instance is removed, likewise (R415). -/
def State.dropAcct (s : State) (a i : Nat) : State :=
  if s.balanced a i then s.onFaults (fun f => { f with accts := tdel f.accts (acctKey a i) }) else s

/-! ### Host addresses (R95, R177) -/

/-- A range of `n > 0` bytes lies wholly within the window (R95, R177). -/
def inWindow (a : Nat) (n : Nat) (w : Window) : Bool := w.base.toNat ≤ a && a + n - 1 ≤ w.limit.toNat

/-- A range lies wholly within one of the tenant's windows (R177). -/
def State.inWindows (s : State) (t : Tenant) (a n : Nat) : Bool :=
  match (s.tenant t).binding with
  | some b => b.windows.any (inWindow a n)
  | none => false

def State.pasidOf (s : State) (t : Tenant) : Option (BitVec 20) := (s.tenant t).binding.bind (·.pasid)

/-! ### The audit journal (R203-R207) -/

/-- Bytes 0x00-0x5F of a record (R204). -/
def recordHead (typ : Nat) (restart : Bool) (t : Tenant) (jseq : W64) (body : Bytes) (ref step : W64) (prev : Bytes) : Bytes :=
  [BitVec.ofNat 8 typ, BitVec.ofNat 8 (bnat restart)] ++ le 2 t.toNat ++ zeros 4 ++ le 8 jseq.toNat ++ padTo 32 body ++
    le 8 ref.toNat ++ le 8 step.toNat ++ padTo 32 prev

/-- The ring address of a record (R203). -/
def recordAddr (b : Binding) (jseq : W64) : W64 := b.jbase + BitVec.ofNat 64 (128 * (jseq.toNat % b.jdepth))

/-- A record is chained and written to the tenant's ring, or held in staging while the PF cannot be written or earlier records are
held (R204, R206, R207). -/
def State.journal (s : State) (t : Tenant) (typ : Nat) (body : Bytes) (ref step : W64) : State :=
  match (s.tenant t).binding with
  | none => s
  | some b =>
    if s.safe then s
    else
      let x := s.tenant t
      let head := recordHead typ x.restart t x.jseq body ref step x.prev
      let hash := sha256 head
      let addr := recordAddr b x.jseq
      let s := s.modTenant t (fun x => { x with jseq := x.jseq + 1, prev := hash, restart := false })
      let p := hostOf t
      if s.pfMaster p && (s.host p).held.isEmpty then s.sendWrite p none addr (head ++ hash)
      else s.modHost p (fun h => { h with
        held := h.held ++ [(t, addr, head ++ hash)]
        heldStop := h.heldStop || decide (Config.heldStop ≤ h.held.length + 1) })

/-- The held area of the tenant's host port has room for a record, or none needs to be held (R493). -/
def State.journalRoom (s : State) (t : Tenant) : Bool :=
  (s.pfMaster (hostOf t) && (s.host (hostOf t)).held.isEmpty) || (s.host (hostOf t)).held.length < Config.heldCapacity

end Sys2Proof.Machine
end

