-- ==== Sys2Proof/Machine/Events.lean ====
section
/-! DEFINITION. Machine/Events.lean: the event units (R325-R336): eligibility, claim and completion, single-source commands, lines. -/

namespace Sys2Proof.Machine

open Sys2Proof

/-! ### Registers of a source (R328, R329) -/

/-- A source has an external line (R327). -/
def sourceExternal (u : EvUnit) (n : Nat) : Bool :=
  u == 0 && ((145 ≤ n && n ≤ 160) || n == 167 || (172 ≤ n && n ≤ 195))

/-- EVU_TGT at reset (R329). -/
def tgtReset (u : EvUnit) (n : Nat) : W32 :=
  if !sourceReal u n then 0
  else if u = 0 || n = 256 then 0x400 else BitVec.ofNat 32 (0x400 + n / 32)

/-- The bits of EVU_TGT that can be written (R329). -/
def tgtMask (u : EvUnit) (n : Nat) : W32 :=
  if !sourceReal u n then 0
  else (if u = 0 then 0x700 else 0x70F) ||| (if sourceExternal u n then 0x00FF3000 else 0)

def Evu.target (e : Evu) (u : EvUnit) (n : Nat) : W32 := tget (tgtReset u n) e.tgt n
/-- PAIR, PRIO and EDGE of a source. -/
def Evu.pairOf (e : Evu) (u : EvUnit) (n : Nat) : Nat := fieldOf (e.target u n) 3 0
def Evu.prio (e : Evu) (u : EvUnit) (n : Nat) : Nat := fieldOf (e.target u n) 10 8
def Evu.edge (e : Evu) (u : EvUnit) (n : Nat) : Nat := fieldOf (e.target u n) 13 12

/-- Pending, masked, active. -/
def Evu.isPend (e : Evu) (n : Nat) : Bool := tget false e.pend n
def Evu.isMasked (e : Evu) (n : Nat) : Bool := !tget false e.unmasked n
def Evu.isAct (e : Evu) (n : Nat) : Bool := tget false e.act n

/-- Bit `n` of a set of sources. -/
def setBit (t : Table Bool) (n : Nat) (v : Bool) : Table Bool := if v then tset t n true else tdel t n

/-- A source is eligible (R331): pending, not masked, not active, its PAIR a pair that exists. -/
def Evu.eligible (e : Evu) (u : EvUnit) (n : Nat) : Bool :=
  e.isPend n && !e.isMasked n && !e.isAct n && (if u = 0 then e.pairOf u n == 0 else e.pairOf u n < 10)

/-- The event unit of a pair, and its PAIR number there (R325). -/
def pairUnit (c : PairNum) : EvUnit := if h : c.val < 40 then ⟨1 + c.val / 10, by omega⟩ else 0
def pairIndex (c : PairNum) : Nat := if c.val < 40 then c.val % 10 else 0

/-- The sources eligible for a pair, lowest number first. -/
def Evu.eligibleFor (e : Evu) (u : EvUnit) (k : Nat) : List Nat :=
  (e.pend.map (fun (x : Nat × Bool) => x.1)).filter (fun n => e.eligible u n && e.pairOf u n == k)

/-- The pair's event input is asserted (R331). -/
def State.eventInput (s : State) (c : PairNum) : Bool :=
  !((s.evu (pairUnit c)).eligibleFor (pairUnit c) (pairIndex c)).isEmpty

/-- The source that a claim picks: lowest PRIO, then lowest number (R332). -/
def Evu.pick (e : Evu) (u : EvUnit) (k : Nat) : Option Nat :=
  ((e.eligibleFor u k).foldl (fun (b : Option Nat) n =>
    match b with
    | some m => if e.prio u n < e.prio u m then some n else b
    | none => some n) none)

/-- A level-low source whose line is low and that is not active is pending (R334). -/
def State.relevel (s : State) (u : EvUnit) (n : Nat) : State :=
  let e := s.evu u
  if sourceExternal u n && e.edge u n == 3 && !e.isAct n && tfind e.level n == some false then
    s.modEvu u (fun e => { e with pend := setBit e.pend n true })
  else s

/-- CLAIM by a pair: the number returned (R332). -/
def State.claim (s : State) (c : PairNum) : State × BitVec 10 :=
  let u := pairUnit c
  match (s.evu u).pick u (pairIndex c) with
  | none => (s.modEvu u (fun e => { e with spur := satInc e.spur }), 0x3FF)
  | some n =>
    (s.modEvu u (fun e => { e with pend := setBit e.pend n false, act := setBit e.act n true, holder := tset e.holder n c.val }),
      BitVec.ofNat 10 n)

/-- DONE of a source (R332). -/
def State.doneSource (s : State) (u : EvUnit) (n : Nat) : State :=
  if (s.evu u).isAct n then
    (s.modEvu u (fun e => { e with act := setBit e.act n false, holder := tdel e.holder n })).relevel u n
  else if n = 0x3FF then s
  else s.modEvu u (fun e => { e with err := satInc e.err })

/-! ### Single-source commands (R330) -/

/-- EVU_CMD on one source; a source that is reserved or not implemented counts in EVU_ERR. -/
def State.evuCmd (s : State) (u : EvUnit) (n : Nat) (f : Evu → Evu) : State :=
  if sourceReal u n then (s.modEvu u f).relevel u n else s.modEvu u (fun e => { e with err := satInc e.err })

def doSetPending (u : EvUnit) (n : BitVec 10) (s : State) : State :=
  s.evuCmd u n.toNat (fun e => { e with pend := setBit e.pend n.toNat true })
def doClearPending (u : EvUnit) (n : BitVec 10) (s : State) : State :=
  s.evuCmd u n.toNat (fun e => { e with pend := setBit e.pend n.toNat false })
def doMask (u : EvUnit) (n : BitVec 10) (s : State) : State :=
  s.evuCmd u n.toNat (fun e => { e with unmasked := setBit e.unmasked n.toNat false })
def doUnmask (u : EvUnit) (n : BitVec 10) (s : State) : State :=
  s.evuCmd u n.toNat (fun e => { e with unmasked := setBit e.unmasked n.toNat true })
def doMaskAndClearPending (u : EvUnit) (n : BitVec 10) (s : State) : State :=
  s.evuCmd u n.toNat (fun e => { e with unmasked := setBit e.unmasked n.toNat false, pend := setBit e.pend n.toNat false })
/-- The reserved bits of EVU_TGT: all of them of a source that is reserved or not implemented (R328, R329). -/
def tgtRsv (u : EvUnit) (n : Nat) : W32 :=
  if !sourceReal u n then BitVec.allOnes 32 else 0xFF00C8F0 ||| (if sourceExternal u n then 0 else 0x00FF3000)

/-- A write of EVU_TGT (R329, R335); reserved bits are not stored, and logged (R14). -/
def doEvuTgtWrite (u : EvUnit) (n : BitVec 10) (value : W32) (s : State) : State :=
  ((s.modEvu u (fun e => { e with
    tgt := if sourceReal u n.toNat then tset e.tgt n.toNat ((e.target u n.toNat &&& ~~~tgtMask u n.toNat) ||| (value &&& tgtMask u n.toNat))
           else e.tgt })).relevel u n.toNat).ioReserved (evuSite u) (0x1000 + 4 * n.toNat) (tgtRsv u n.toNat) value

/-! ### External lines (R327, R334) -/

/-- The sources with an external line. -/
def externalLines : List Nat := (List.range 262).filter (sourceExternal 0)

/-- The level of an external line that nothing has driven yet: pulled up, but for ModPrsL, each cage holding a module (log 19). -/
def pinRest (n : Nat) : Bool := decide (n < 184)

/-- The level of an external line's pin; the module itself drives WAKE# too (R445). -/
def State.line (s : State) (n : Nat) : Bool := tget (pinRest n) s.side.pins n && (n != 167 || s.keeper.wakeUntil.isNone)

/-- FILT of a source. -/
def Evu.filt (e : Evu) (u : EvUnit) (n : Nat) : Nat := fieldOf (e.target u n) 23 16

/-- A filtered line takes a new level, and its EDGE decides whether the source fires (R334). -/
def State.lineChange (s : State) (k : Nat) (level : Bool) : State :=
  let s := s.modEvu 0 (fun e => { e with level := tset e.level k level, shown := tdel e.shown k })
  let edge := (s.evu 0).edge 0 k
  if (edge == 0 && level) || (edge == 1 && !level) || edge == 2 then s.fire 0 k else s.relevel 0 k

/-- One sample of an external line (R334): the first is the filter's value and fires nothing; a new level passes with its FILT-th sample in a row. -/
def State.sampleLine (s : State) (k : Nat) : State :=
  let raw := s.line k
  match tfind (s.evu 0).level k with
  | none => (s.modEvu 0 (fun e => { e with level := tset e.level k raw, shown := tdel e.shown k })).relevel 0 k
  | some l =>
    if raw = l then (if tfind (s.evu 0).shown k = none then s else s.modEvu 0 (fun e => { e with shown := tdel e.shown k }))
    else
      let m := tget 0 (s.evu 0).shown k + 1
      if (s.evu 0).filt 0 k ≤ m then s.lineChange k raw else s.modEvu 0 (fun e => { e with shown := tset e.shown k m })

/-- A pin shows a level; while the hub is clocked, that is the line's next sample (R334, R503). -/
def State.pinShows (s : State) (k : Nat) (level : Bool) : State :=
  let s := s.onSide (fun x => { x with pins := if level = pinRest k then tdel x.pins k else tset x.pins k level })
  if s.clk.running then s.sampleLine k else s

/-- Every external line is sampled on a CLK_P edge (R334). -/
def State.sampleLines (s : State) : State := externalLines.foldl State.sampleLine s

/-- EXTERNAL_LINE_EDGE (R334): the pin of an external line takes a level, and stays there for the samples that follow. -/
def doExternalLineEdge (n : BitVec 10) (level : Bool) (s : State) : State :=
  if sourceExternal 0 n.toNat then s.pinShows n.toNat level else s

/-! ### The words of the registers (R328) -/

/-- Word `w` of a set of sources. -/
def setWord (t : Table Bool) (w : Nat) : W32 := ofBits 32 (fun i => tget false t (32 * w + i))
/-- The mask word: 1 for each implemented source that is masked. -/
def Evu.maskWord (e : Evu) (u : EvUnit) (w : Nat) : W32 :=
  ofBits 32 (fun i => sourceReal u (32 * w + i) && e.isMasked (32 * w + i))

/-- EVU_LINES of the hub: filtered SENSE and WAKE#, high where not yet sampled (DESIGN CHOICE, log 19). -/
def Evu.lines (e : Evu) : W32 :=
  ofBits 32 (fun i => if i < 16 then tget true e.level (145 + i) else if i = 16 then tget true e.level 167 else false)

/-- A read of an EVU register at a byte offset: the value, and the unit after it (RC registers are cleared). -/
def Evu.ioRead (e : Evu) (u : EvUnit) (off : Nat) : W32 × Evu :=
  if off = 0 then (BitVec.ofNat 32 (if u = 0 then 512 else 256 + 2048 * u.val), e)
  else if off = 8 then (e.spur, { e with spur := 0 })
  else if off = 0xC then (e.err, { e with err := 0 })
  else if off = 0x10 then (if u = 0 then e.lines else 0, e)
  else if 0x80 ≤ off && off < 0x100 then (setWord e.pend ((off - 0x80) / 4), e)
  else if 0x100 ≤ off && off < 0x180 then (e.maskWord u ((off - 0x100) / 4), e)
  else if 0x180 ≤ off && off < 0x200 then (setWord e.act ((off - 0x180) / 4), e)
  else if 0x1000 ≤ off && off < 0x2000 then (e.target u ((off - 0x1000) / 4), e)
  else (0, e)

/-- The sources of a word after its EVU_PEND or EVU_MASK word is written (R328, R333). -/
def putWord (u : EvUnit) (t : Table Bool) (w : Nat) (v : W32) (inv : Bool) : Table Bool :=
  (List.range 32).foldl (fun t i => if sourceReal u (32 * w + i) then setBit t (32 * w + i) (v.getLsbD i != inv) else t) t

/-- The bits of a source set's word that are of sources reserved or not implemented (R328). -/
def setRsv (u : EvUnit) (w : Nat) : W32 := ofBits 32 (fun i => !sourceReal u (32 * w + i))

/-- The reserved bits of the EVU register at a byte offset (R328, R330). -/
def evuRsv (u : EvUnit) (off : Nat) : W32 :=
  if off = 0 then 0xFFFFC000
  else if off = 4 then 0xFFFF8C00
  else if off = 8 || off = 0xC then 0
  else if off = 0x10 then (if u = 0 then 0xFFFE0000 else BitVec.allOnes 32)
  else if 0x80 ≤ off && off < 0x200 then setRsv u (off % 0x80 / 4)
  else if 0x1000 ≤ off && off < 0x2000 then tgtRsv u ((off - 0x1000) / 4)
  else BitVec.allOnes 32

/-- A write of an EVU register at a byte offset (R14, R328-R330). -/
def State.evuIoWrite (s0 : State) (u : EvUnit) (off : Nat) (v : W32) : State :=
  let s := if 0x1000 ≤ off && off < 0x2000 then s0 else s0.ioReserved (evuSite u) off (evuRsv u off) v
  if off = 4 then
    let n := BitVec.ofNat 10 v.toNat
    match fieldOf v 14 12 with
    | 0 => doSetPending u n s
    | 1 => doClearPending u n s
    | 2 => doMask u n s
    | 3 => doUnmask u n s
    | 4 => doMaskAndClearPending u n s
    | _ => s.modEvu u (fun e => { e with err := satInc e.err })
  else if 0x80 ≤ off && off < 0x100 then s.modEvu u (fun e => { e with pend := putWord u e.pend ((off - 0x80) / 4) v false })
  else if 0x100 ≤ off && off < 0x180 then s.modEvu u (fun e => { e with unmasked := putWord u e.unmasked ((off - 0x100) / 4) v true })
  else if 0x1000 ≤ off && off < 0x2000 then doEvuTgtWrite u (BitVec.ofNat 10 ((off - 0x1000) / 4)) v s
  else s

/-! ### Meanings -/

def execSourceFire (u : EvUnit) (n : BitVec 10) (s : State) : Host.Outcome State Fault Refusal := .next (s.fire u n.toNat)
def execExternalLineEdge (n : BitVec 10) (level : Bool) (s : State) : Host.Outcome State Fault Refusal := .next (doExternalLineEdge n level s)
def execSetPending (u : EvUnit) (n : BitVec 10) (s : State) : Host.Outcome State Fault Refusal := .next (doSetPending u n s)
def execClearPending (u : EvUnit) (n : BitVec 10) (s : State) : Host.Outcome State Fault Refusal := .next (doClearPending u n s)
def execMask (u : EvUnit) (n : BitVec 10) (s : State) : Host.Outcome State Fault Refusal := .next (doMask u n s)
def execUnmask (u : EvUnit) (n : BitVec 10) (s : State) : Host.Outcome State Fault Refusal := .next (doUnmask u n s)
def execMaskAndClearPending (u : EvUnit) (n : BitVec 10) (s : State) : Host.Outcome State Fault Refusal := .next (doMaskAndClearPending u n s)
def execEvuTgtWrite (u : EvUnit) (n : BitVec 10) (value : W32) (s : State) : Host.Outcome State Fault Refusal :=
  .next (doEvuTgtWrite u n value s)

end Sys2Proof.Machine
end

