-- ==== Sys2Proof/Machine/Operands.lean ====
section
/-! DEFINITION. Machine/Operands.lean: the operands of the Hild-14 (R304, R305, R310): registers, prefixed immediates, data memory. -/

namespace Sys2Proof.Machine

open Sys2Proof

/-! ### General registers (R305) -/

/-- G0 reads zero. -/
def Pair.gr (p : Pair) (r : Reg) : W32 := if r = 0 then 0 else tget 0 p.g r.toNat
/-- Writes to G0 are discarded. -/
def Pair.gw (p : Pair) (r : Reg) (v : W32) : Pair :=
  if r = 0 then p else { p with g := if v = 0 then tdel p.g r.toNat else tset p.g r.toNat v }

/-! ### Prefixed immediates (R310) -/

/-- PR followed by `w` bits, sign-extended from w + 9k bits, k the number of prefixes; as a number modulo 2^32. -/
def Pair.imm {w : Nat} (p : Pair) (low : BitVec w) : W32 :=
  let n := w + 9 * p.prn
  let v := (p.pr.toNat * 2 ^ w + low.toNat) % 2 ^ n
  if v < 2 ^ (n - 1) then BitVec.ofNat 32 v else BitVec.ofInt 32 ((v : Int) - 2 ^ n)

/-- The unsigned offset of a load, store or IO instruction: the prefix, 0 when there is none (R309). -/
def Pair.offset (p : Pair) : W32 := BitVec.ofNat 32 p.pr.toNat

/-- A branch target: the word's own address plus the immediate, modulo 32,768 (R312). -/
def Pair.target {w : Nat} (p : Pair) (low : BitVec w) : BitVec 15 := p.pc + (p.imm low).setWidth 15

/-! ### Data memory (R304) -/

/-- The address of a load or store, modulo 65,536. -/
def Pair.dataAddr (p : Pair) (rb : Reg) : Nat := (p.gr rb + p.offset).toNat % 65536

/-- Little-endian reads and writes of `n` bytes, addresses modulo 65,536. -/
def Pair.load (p : Pair) (a n : Nat) : Bytes := (List.range n).map (fun i => p.dmem.read ((a + i) % 65536))
def Pair.store (p : Pair) (a : Nat) (b : Bytes) : Pair :=
  { p with dmem := (b.zip (List.range b.length)).foldl (fun m x => Memory.write m ((a + x.2) % 65536) x.1) p.dmem }

end Sys2Proof.Machine
end

