-- ==== Sys2Proof/Machine/Completion.lean ====
section
/-! DEFINITION. Machine/Completion.lean: the completion writer's part of chapter "Work Queues": completion entries, batches,
moderation, completions that wait for a slot. -/

namespace Sys2Proof.Machine

open Sys2Proof

/-- The code is of the success class (R19). -/
def successCode (c : Byte) : Bool := c.toNat < 8

/-- Codes of the class that leaves the data untrusted (R18, R209): INTEGRITY, BALANCE-FENCE, INTERNAL. -/
def integrityCode (c : Byte) : Bool := 0x30 ≤ c.toNat

/-- Owned MARK and fresh PHASE of an index (R109): 1 in even passes. -/
def passBit (depth index : Nat) : Bool := index / depth % 2 == 0

/-- The 32 bytes of a completion entry (R128). -/
def cplBytes (c : Cpl) (phase bridged : Bool) (seq : W32) (gen : Byte) (time : W64) : Bytes :=
  [c.code, BitVec.ofNat 8 (bnat phase + 2 * bnat c.batch + 4 * bnat bridged + 8 * bnat c.skipped + 32 * c.sq.val)] ++
    le 2 c.entry ++ le 4 seq.toNat ++ le 3 c.sc.toNat ++ [gen] ++ le 2 c.detail.toNat ++ le 2 c.count.toNat ++
    le 8 c.digest.toNat ++ le 8 time.toNat

/-- Free slots of a completion queue (R130). -/
def Cq.free (c : Cq) : Nat := c.depth - 1 - (c.tail - c.head) - c.reserved

/-- The queue's vector is generated, and the moderation count and interval end (R135). -/
def State.signal (s : State) (t : Tenant) (q : QNum) : State :=
  (s.modCq t q (fun c => { c with unsignalled := 0, expiry := none })).vector (.vf t) q.val

/-- Moderation after a completion write (R135). -/
def State.moderate (s : State) (t : Tenant) (q : QNum) (code : Byte) : State :=
  match s.cq? t q with
  | none => s
  | some c =>
    if c.interval = 0 || !successCode code || c.threshold ≤ c.unsignalled + 1 then s.signal t q
    else s.modCq t q (fun c => { c with
      unsignalled := c.unsignalled + 1
      expiry := if c.unsignalled = 0 then some (s.clk.now + c.interval) else c.expiry })

/-- What stands in the record of a completion that a fenced completion queue cannot take: BALANCE-FENCE with the account's number, 6, and the step
offset (R208, R416). -/
def fencedCpl (c : Cpl) : Cpl :=
  { c with code := 0x31, detail := (if c.batch || c.code = 0x10 then 0 else c.detail &&& 0xFF) ||| 0x600, count := c.offset, offset := c.offset }

/-- The steps 6 to 8 of R199: record, completion entry with the next SEQ, vector. A fenced completion queue gets the record alone, with
BALANCE-FENCE (R416); in the safe state nothing is written (R411). The slot is booked by the caller. -/
def State.writeCpl (s : State) (t : Tenant) (q : QNum) (c : Cpl) (ref step : W64) : State :=
  match s.cq? t q with
  | none => s
  | some k =>
    if s.safe || s.side.pinsTaken then s
    else if k.fenced then
      s.journal t 1 (cplBytes (fencedCpl c) (passBit k.depth k.tail) s.clk.bridged k.seq k.gen s.clk.hub) ref step
    else
      let b := cplBytes c (passBit k.depth k.tail) s.clk.bridged k.seq k.gen s.clk.hub
      let s := s.journal t 1 b ref step
      let s := s.sendWrite (hostOf t) (s.pasidOf t) (k.base + BitVec.ofNat 64 (32 * (k.tail % k.depth))) b
      let s := s.modCq t q (fun k => { k with
        tail := k.tail + 1, seq := k.seq + 1, gen := if k.seq = 0xFFFFFFFF then k.gen + 1 else k.gen })
      s.moderate t q c.code

/-- `n` outstanding entries of a submission queue end: the books of R414 and R418, and the buoy phase when the queue falls idle (R115). -/
def State.entriesEnd (s : State) (t : Tenant) (q : QNum) (n : Nat) : State :=
  (s.modSq t q (fun k => { k with outst := k.outst - n, buoy := if 0 < k.outst && k.outst ≤ n then 4 else k.buoy })).book 5 (qIndex t q) (-n)

/-- Reserved slots of a completion queue are taken or released. -/
def State.unreserve (s : State) (t : Tenant) (q : QNum) (n : Nat) : State :=
  s.modCq t q (fun k => { k with reserved := k.reserved - n })

/-- A completion is put down to be written later (R138, and R76 while the VF can make no request). -/
def State.deferCpl (s : State) (t : Tenant) (cq : QNum) (w : WaitingCpl) : State :=
  s.modCq t cq (fun k => { k with waiting := k.waiting ++ [w] })

/-- A completion is written, into one of the slots reserved for it, the others being released, or into a free one (R130, R133, R138). -/
def State.writeInto (s : State) (t : Tenant) (cq : QNum) (w : WaitingCpl) : State :=
  (((s.unreserve t cq w.slots).book 6 (qIndex t cq) (1 - (w.slots : Int))).writeCpl t cq w.cpl w.ref w.step).entriesEnd t w.cpl.sq w.ends

/-- A completion into one of `n` slots reserved for it (R130, R133); it ends `n` outstanding entries. While the VF can make no request it waits, and
keeps its slots. -/
def State.writeReserved (s : State) (t : Tenant) (cq : QNum) (n : Nat) (w : WaitingCpl) : State :=
  let w := { w with ends := n, slots := n }
  if s.vfMaster t then s.writeInto t cq w else s.deferCpl t cq w

/-- A final completion into the slot reserved for it (R130); it ends one outstanding entry. -/
def State.writeFinal (s : State) (t : Tenant) (cq : QNum) (c : Cpl) (ref step : W64) : State :=
  s.writeReserved t cq 1 ⟨c, ref, step, 1, 1⟩

/-- A completion without a reserved slot: written when a slot is free, and else kept waiting (R138). -/
def State.writeWaiting (s : State) (t : Tenant) (cq : QNum) (w : WaitingCpl) : State :=
  match s.cq? t cq with
  | none => s
  | some k =>
    if k.waiting.all (fun x => 0 < x.slots) && decide (0 < k.free) && s.vfMaster t then s.writeInto t cq { w with slots := 0 }
    else s.deferCpl t cq { w with slots := 0 }

/-- The oldest waiting completion that has a slot is written: its own, or a free one (R130, R138). -/
def State.writeOneWaiting (s : State) (t : Tenant) (cq : QNum) : State :=
  match s.cq? t cq with
  | none => s
  | some k =>
    let can := fun (w : WaitingCpl) => 0 < w.slots || 0 < k.free
    match k.waiting.find? can with
    | none => s
    | some w =>
      if s.vfMaster t && s.journalRoom t then (s.modCq t cq (fun k => { k with waiting := k.waiting.eraseP can })).writeInto t cq w
      else s

/-- A batch of a queue changed. -/
def State.modBatch (s : State) (t : Tenant) (q : QNum) (id : Nat) (f : Batch → Batch) : State :=
  s.modSq t q (fun k => { k with batches := k.batches.map (fun b => if b.id = id then f b else b) })

/-- The batch completion's DIGEST: CRC-64 over the folded DIGESTs in batch order; 0 when none was folded (R133). -/
def batchDigest (b : Batch) : W64 := digest 0 (b.folded.flatMap (fun m => le 8 m.2.1.digest.toNat))

/-- The batch completion (R133). -/
def batchCpl (q : QNum) (b : Batch) : Cpl :=
  { sq := q, entry := b.endEntry, sc := b.endSc, code := 0, detail := BitVec.ofNat 16 b.own, count := BitVec.ofNat 16 b.count,
    digest := batchDigest b, batch := true }

/-- When every entry of a closed batch has ended, its completion is written, its record with the end-of-batch entry's REF and STEPADDR 0 (DESIGN
CHOICE, log 122), into one of the folded members' slots and the others are
released; a batch without folded members has no slot left and waits for one (R130, R133; DESIGN CHOICE, log 16). -/
def State.closeBatch (s : State) (t : Tenant) (q : QNum) (id : Nat) : State :=
  match s.sq? t q with
  | none => s
  | some k =>
    match k.batches.find? (fun b => b.id == id) with
    | none => s
    | some b =>
      if b.closed && decide (b.count ≤ b.ended) then
        let n := b.folded.length
        let s := s.modSq t q (fun k => { k with batches := k.batches.filter (fun b => b.id != id) })
        if n = 0 then s.writeWaiting t k.cq ⟨batchCpl q b, b.endRef, 0, 0, 0⟩
        else s.writeReserved t k.cq n ⟨batchCpl q b, b.endRef, 0, n, n⟩
      else s

/-- An entry that holds a reserved slot ends (R130, R133): a member that ends with OK is folded, with a record of type 5; any other
ending posts its own completion. -/
def State.endEntry (s : State) (t : Tenant) (q : QNum) (batch : Option (Nat × Nat)) (c : Cpl) (ref step : W64) : State :=
  match s.sq? t q with
  | none => s
  | some k =>
    match batch with
    | none => s.writeFinal t k.cq c ref step
    | some (id, pos) =>
      if c.code = 0 && k.batches.any (fun b => b.id == id) then
        let s := s.journal t 5 (cplBytes c false s.clk.bridged 0 0 s.clk.hub) ref step
        let s := s.modBatch t q id (fun b => { b with ended := b.ended + 1, folded := tset b.folded pos (c, ref, step) })
        s.closeBatch t q id
      else
        let s := s.writeFinal t k.cq c ref step
        let s := s.modBatch t q id (fun b => { b with ended := b.ended + 1, own := b.own + 1 })
        s.closeBatch t q id

/-- A batch left open by a reset: each folded member posts its own completion, and no batch completion is posted (R134). -/
def State.breakBatch (s : State) (t : Tenant) (q : QNum) (b : Batch) : State :=
  match s.sq? t q with
  | none => s
  | some k =>
    let s := s.modSq t q (fun k => { k with batches := k.batches.filter (fun x => x.id != b.id) })
    b.folded.foldl (fun s m => s.writeFinal t k.cq m.2.1 m.2.2.1 m.2.2.2) s

/-- A PROGRESS report, into a free slot that is not reserved; false when there is none (R130). -/
def State.writeReport (s : State) (t : Tenant) (cq : QNum) (c : Cpl) (ref step : W64) : State × Bool :=
  match s.cq? t cq with
  | none => (s, false)
  | some k =>
    if 0 < k.free && s.journalRoom t then ((s.book 6 (qIndex t cq) 1).writeCpl t cq c ref step, true)
    else (s, false)

end Sys2Proof.Machine
end

