-- ==== Sys2Proof/Machine/Staging.lean ====
section
/-! DEFINITION. Machine/Staging.lean: staging memory (R213-R227): granules, buffers and their readers, errors met by a reader,
and the queues of the block movers (R240-R244). -/

namespace Sys2Proof.Machine

open Sys2Proof

/-! ### Granules -/

/-- The first granule of data staging buffer `b`, counted over the staging space in granules (R213, R221). -/
def bufGranule (b : Nat) : Nat := 0x244000000 / 64 + 32 * b

/-- The key of a granule: HASHKEY, and 0 in the journal region (R225). -/
def State.hashKey (s : State) (g : Nat) : W64 := if 0xA44000000 / 64 ≤ g then 0 else s.list.hashkey.getD 0

/-- The pseudo-channel of a granule (R225): [5] stack, [4:1] channel, [0] pseudo-channel, as R227 numbers them. -/
def State.granulePc (s : State) (g : Nat) : Fin 64 :=
  Config.interleave (s.hashKey g) (g / 64) ⟨g % 64, Nat.mod_lt _ (by decide)⟩

/-- The site of a granule: pseudo-channel and bank, placed at macro level (R24, R25, R218). -/
def State.granuleSite (s : State) (g : Nat) : W32 :=
  let pc := (s.granulePc g).val
  siteCode 2 6 (pc / 32) (pc / 2 % 16) (Config.interleaveBank (s.hashKey g) (g / 64) (g % 64)).toNat

/-- Bits [63:48] of a granule's metadata word, and its CHECK over them and the bytes (R215). -/
def Granule.tag (g : Granule) : BitVec 16 := BitVec.ofNat 16 (g.epoch.toNat + 32768 * bnat g.poison)
def Granule.check (g : Granule) : BitVec 48 := Config.granuleCheck g.bytes g.tag

/-- A granule is written for a reader that holds epoch `ep` of its buffer (R216). -/
def State.granuleWritten (s : State) (g : Nat) (ep : Epoch) : Bool :=
  let x := tget {} s.data.granules g
  !x.poison && x.epoch == ep

/-- The granules that bytes `off` to `off + len` of what a buffer holds stand in: from the granule it starts at, wrapping within the buffer (R223). -/
def State.runGranules (s : State) (r : Run) : List Nat :=
  let at0 := tget 0 s.data.starts r.buf
  (List.range ((r.off + r.len + 63) / 64 - r.off / 64)).map (fun i => bufGranule r.buf + (at0 + r.off / 64 + i) % 32)

/-- One of the granules that are read is not written for the reader: poison status (R216). -/
def State.runPoison (s : State) (r : Run) : Bool := (s.runGranules r).any (fun g => !s.granuleWritten g r.epoch)

/-- A granule that is written in place has poison status: only an uncorrectable error sets it (R217, R219). -/
def State.poisoned (s : State) (g : Nat) : Bool := ((tfind s.data.granules g).map (fun x => x.poison)).getD false

/-- What a reader meets: poison found in the granules counts besides what the read says (R216, R218). -/
def withPoison (e : Ecc) (poison : Bool) : Ecc :=
  match e with
  | .good | .corrected _ _ => if poison then .poison else e
  | .uncorrectable _ _ | .poison => e

/-- DETAIL of an ECC entry (R425). -/
def eccDetail (row : BitVec 24) (bit : BitVec 16) : W64 := row.setWidth 64 ||| (bit.setWidth 64 <<< 24)

/-- What a reader of staging memory meets is counted and logged (R218): the counters of R227 and the entries of R425. Poison is logged
as KIND 0x02 with no row (DESIGN CHOICE, log 17). -/
def State.eccEvent (s : State) (site : W32) (e : Ecc) : State :=
  match e with
  | .good => s
  | .corrected row bit =>
    (s.onData (fun d => { d with ceCnt := satInc d.ceCnt })).logFault 1 site whoNone (eccDetail row bit)
  | .uncorrectable row bit =>
    (s.onData (fun d => { d with ueCnt := satInc d.ueCnt })).logFault 2 site whoNone (eccDetail row bit)
  | .poison => (s.onData (fun d => { d with poisRd := satInc d.poisRd })).logFault 2 site whoNone 0

/-- The data is not to be trusted. -/
def eccBad : Ecc → Bool
  | .good => false
  | .corrected _ _ => false
  | .uncorrectable _ _ => true
  | .poison => true

/-- DETAIL[15:8] of the INTEGRITY ending (R208, R218). -/
def eccReason : Ecc → Byte
  | .poison => 6
  | _ => 2

/-! ### Buffers (R221-R224) -/

/-- Buffers of the reserve that port `p` does not use (R222). -/
def State.reserveLeft (s : State) (p : Nat) : Nat := Config.reservedBuffers - tget 0 s.data.portUse p

/-- Free buffers of the shared pool (R222). -/
def State.sharedFree (s : State) : Nat :=
  s.data.freeBuf - (List.range 96).foldl (fun a p => a + s.reserveLeft p) 0

/-- Data credits granted to the unit on a port and not used (R262): each has a buffer that the port holds for it (R222). -/
def Port.dOut (p : Port) : Nat := (p.dcumTx - p.dRecv).toNat

/-- Buffers of the shared pool that back a credit: those of each port beyond what is left of its reserve (R222). -/
def State.sharedHeld (s : State) : Nat :=
  s.ports.ports.foldl (fun a p => a + (p.2.dOut - s.reserveLeft p.1)) 0

/-- Buffers of the shared pool that are free and back no credit (R222). -/
def State.sharedOpen (s : State) : Nat := s.sharedFree - s.sharedHeld

/-- Granules of a piece of bytes, from the buffer's granule `at0` on, wrapping within it, the last filled with 0xA5 (R217, R223). -/
def putGranules (fuel : Nat) (t : Table Granule) (first at0 : Nat) (ep : Epoch) (b : Bytes) : Table Granule :=
  match fuel with
  | 0 => t
  | n + 1 =>
    if b.isEmpty then t
    else putGranules n (tset t (first + at0 % 32) ⟨(b.take 64 ++ List.replicate 64 0xA5).take 64, ep, false⟩) first (at0 + 1) ep (b.drop 64)

/-- The first buffer from `n` on that is not withheld (R422). -/
def nextFresh (w : List Nat) : Nat → Nat → Nat
  | 0, n => n
  | f + 1, n => if w.contains n then nextFresh w f (n + 1) else n

/-- A buffer is taken for up to 2,048 bytes, for the input of a port or for output (R221-R223). -/
def State.allocBuf (s : State) (p : Option DPort) (b : Bytes) : State × Piece :=
  let d := s.data
  let fresh := nextFresh d.withheld d.withheld.length d.fresh
  let useFresh := decide (fresh < Config.stagingBuffers)
  let n := match d.freed with
    | x :: _ => if useFresh then fresh else x
    | [] => fresh
  let ep := tget (0 : Epoch) d.epochs n
  let at0 := if b.length < 2048 then d.spread else 0
  let s := s.onData (fun d => { d with
    fresh := if useFresh then fresh + 1 else d.fresh
    freed := if useFresh then d.freed else d.freed.drop 1
    freeBuf := d.freeBuf - 1
    lookStop := d.lookStop || decide (d.freeBuf - 1 < Config.lookaheadStop)
    spread := (d.spread + 1) % 32
    starts := tset d.starts n at0
    refs := tset d.refs n 1
    owners := match p with
      | some q => tset d.owners n q.val
      | none => d.owners
    portUse := match p with
      | some q => tmod 0 d.portUse q.val (· + 1)
      | none => d.portUse
    granules := putGranules 32 d.granules (bufGranule n) at0 ep b })
  (s.book 3 0 32, { buf := n, epoch := ep, bytes := b })

/-- One reader of a buffer has finished; with the last, the buffer is freed and its epoch rises (R217, R224). -/
def State.dropRef (s : State) (b : Nat) : State :=
  match tfind s.data.refs b with
  | none => s
  | some k =>
    if 1 < k then s.onData (fun d => { d with refs := tset d.refs b (k - 1) })
    else
      let s := s.onData (fun d =>
        let ep := tget (0 : Epoch) d.epochs b
        { d with
          refs := tdel d.refs b
          owners := tdel d.owners b
          portUse := match tfind d.owners b with
            | some q => tmod 0 d.portUse q (· - 1)
            | none => d.portUse
          epochs := tset d.epochs b (ep + 1)
          granules := if ep = 0x7FFF then (List.range 32).foldl (fun t i => tdel t (bufGranule b + i)) d.granules else d.granules
          freed := if d.withheld.contains b then d.freed else d.freed ++ [b]
          freeBuf := if d.withheld.contains b then d.freeBuf else d.freeBuf + 1
          lookStop := d.lookStop && decide (d.freeBuf + 1 ≤ Config.lookaheadResume) })
      s.book 3 0 (-32)

def State.dropRuns (s : State) (l : List Run) : State := l.foldl (fun s x => s.dropRef x.buf) s
def State.dropPieces (s : State) (l : List Piece) : State := l.foldl (fun s x => s.dropRef x.buf) s

/-- One reader more. -/
def State.addRef (s : State) (b : Nat) : State :=
  s.onData (fun d => { d with refs := tmod 0 d.refs b (· + 1) })

/-- Bytes lying in pieces. -/
def piecesLen (l : List Piece) : Nat := l.foldl (fun a p => a + p.bytes.length) 0

/-- The first `n` bytes of pieces, as pieces; what is left; the buffer of a piece that was cut. -/
def splitPieces : List Piece → Nat → List Piece × List Piece × Option Nat
  | [], _ => ([], [], none)
  | p :: r, n =>
    if n = 0 then ([], p :: r, none)
    else if n < p.bytes.length then
      ([{ p with bytes := p.bytes.take n }], { p with off := p.off + n, bytes := p.bytes.drop n } :: r, some p.buf)
    else
      let (a, rest, cut) := splitPieces r (n - p.bytes.length)
      (p :: a, rest, cut)

def pieceBytes (l : List Piece) : Bytes := l.flatMap (·.bytes)

/-- What a reader of a piece reads. -/
def Piece.run (p : Piece) : Run := ⟨p.buf, p.epoch, p.off, p.bytes.length⟩

/-- A cut piece is read by one reader more. -/
def State.cutRef (s : State) (c : Option Nat) : State :=
  match c with
  | some b => s.addRef b
  | none => s

/-! ### Held journal records (R207, R218) -/

/-- The first granule of held record `k` of a host port, counted on from reset: the port's 2 GiB of the journal region, 128 bytes a record (R213, R493;
where in the region it lies is DESIGN CHOICE, log 131). -/
def heldGranule (p : HPort) (k : Nat) : Nat := 0xA44000000 / 64 + 0x2000000 * p.val + 2 * (k % Config.heldCapacity)

/-- A held record is read from the journal region: one whose granules cannot be trusted is logged, and rebuilt from the completion writer's copy, which
the model holds for each (R218). -/
def State.readHeld (s : State) (p : HPort) (k : Nat) : State :=
  let g := heldGranule p k
  let s := if s.poisoned g then s.eccEvent (s.granuleSite g) .poison else s
  if s.poisoned (g + 1) then s.eccEvent (s.granuleSite (g + 1)) .poison else s

/-- The held records of a host port are written to their rings, in order (R207). -/
def State.flushHeld (s : State) (p : HPort) : State :=
  if s.pfMaster p then
    let recs := (s.host p).held
    let s := (List.range recs.length).foldl (fun s i => s.readHeld p ((s.host p).heldPos + i)) s
    (recs.foldl (fun s r => s.sendWrite p none r.2.1 r.2.2) s).modHost p (fun h => { h with
      held := [], heldStop := false, heldPos := h.heldPos + recs.length })
  else s

/-! ### Mover channels (R240-R244) -/

/-- SHARE of a transfer of a port (R244): the Light List and image reads (1) and the held journal records (4) are carried out within the commands that
ask for them, and their SHARE, which bounds only their rate, is not held (log 123). -/
def State.shareOf (s : State) (t : Tenant) : Nat := if s.vfMaster t then 2 else 0

/-- A channel belongs to a transfer, in a direction. -/
def chanOf (c : Channel) (x : Nat × Nat) (kind : BitVec 8) : Bool := c.queue.any (fun d => d.xfer == x && d.kind == kind)

/-- A channel of a mover holds a descriptor not yet run, or the running one (R240). -/
def chanBusy (m : MoverSt) (c : Nat) : Bool :=
  !(tget ({} : Channel) m.channels c).queue.isEmpty || (m.running.map (fun r => r.1 == c)).getD false

/-- Busy channels of a mover (R240). -/
def busyChannels (m : MoverSt) : Nat := ((List.range Config.channelsPerMover).filter (chanBusy m)).length

/-- The mover and channel that hold a transfer's descriptors, when a slot is free in it. -/
def State.ownChannel (s : State) (x : Nat × Nat) (kind : BitVec 8) : Option (Nat × Nat) :=
  s.data.movers.findSome? (fun m =>
    if m.2.fenced || m.2.retired then none
    else
      match m.2.running with
      | some (c, d, _) => if d.xfer == x && d.kind == kind then some (m.1, c)
        else (m.2.channels.find? (fun c => chanOf c.2 x kind)).map (fun c => (m.1, c.1))
      | none => (m.2.channels.find? (fun c => chanOf c.2 x kind)).map (fun c => (m.1, c.1)))

/-- A free channel on the mover in service with the fewest busy channels (R240). -/
def State.freeChannel (s : State) : Option (Nat × Nat) :=
  let open1 := (List.range 16).filter (fun i =>
    let m := tget ({} : MoverSt) s.data.movers i
    !m.fenced && !m.retired && !m.testing && m.freeing.isNone && decide (busyChannels m < Config.channelsPerMover))
  let best := open1.foldl (fun (b : Option (Nat × Nat)) i =>
    let n := busyChannels (tget ({} : MoverSt) s.data.movers i)
    match b with
    | some x => if n < x.2 then some (i, n) else b
    | none => some (i, n)) none
  match best with
  | none => none
  | some b =>
    let m := tget ({} : MoverSt) s.data.movers b.1
    ((List.range 32).find? (fun c => !chanBusy m c)).map (fun c => (b.1, c))

/-- A descriptor is put on a channel. -/
def State.putDesc (s : State) (at1 : Nat × Nat) (d : Desc) : State :=
  (s.onData (fun x => { x with movers := tmod {} x.movers at1.1 (fun m => { m with
    channels := tmod {} m.channels at1.2 (fun c => { c with queue := c.queue ++ [d], share := s.shareOf d.tenant }) }) })).book 8 at1.1 1

/-- Descriptor slots in use on a channel: those queued, and the running one's (R240). -/
def chanSlots (m : MoverSt) (c : Nat) : Nat :=
  (tget ({} : Channel) m.channels c).queue.length + bnat ((m.running.map (fun r => r.1 == c)).getD false)

/-- A waiting descriptor takes a slot of its transfer's channel, or a free channel; else it goes on waiting (R240). -/
def State.admitDesc (s : State) (d : Desc) : State :=
  let wait := s.onData (fun x => { x with waitDescs := x.waitDescs ++ [d] })
  match s.ownChannel d.xfer d.kind with
  | some c =>
    if chanSlots (tget ({} : MoverSt) s.data.movers c.1) c.2 < Config.descriptorsPerChannel then
      s.putDesc c d
    else wait
  | none =>
    match s.freeChannel with
    | some c => s.putDesc c d
    | none => wait

/-- The descriptors that found no channel or slot take the room there is, in order of request (R240). -/
def State.admitDescs (s : State) : State :=
  s.data.waitDescs.foldl State.admitDesc (s.onData (fun x => { x with waitDescs := [] }))

/-- A descriptor is queued: behind those that already wait for a channel (R240). -/
def State.queueDesc (s : State) (d : Desc) : State :=
  let s := s.onData (fun x => { x with waitDescs := x.waitDescs ++ [d] })
  s.admitDescs

/-- Queued descriptors, running ones included, of a transfer. -/
def State.descsOf (s : State) (x : Nat × Nat) : List Desc :=
  s.data.movers.flatMap (fun m =>
    (match m.2.running with
      | some r => if r.2.1.xfer == x then [r.2.1] else []
      | none => []) ++ m.2.channels.flatMap (fun c => c.2.queue.filter (fun d => d.xfer == x))) ++
    s.data.waitDescs.filter (fun d => d.xfer == x)

/-- A transfer's host reads that have not begun are dropped, with their descriptor slots (R188). -/
def State.dropReads (s : State) (x : Nat × Nat) : State :=
  let mine := fun (d : Desc) => d.xfer == x && d.kind == 1
  (List.range 16).foldl (fun s i =>
    let m := tget ({} : MoverSt) s.data.movers i
    let n := (m.channels.flatMap (fun c => c.2.queue.filter mine)).length
    if n = 0 then s
    else (s.onData (fun k => { k with movers := tmod {} k.movers i (fun m => { m with
      channels := m.channels.map (fun c => (c.1, { c.2 with queue := c.2.queue.filter (fun d => !mine d) })) }) })).book 8 i (-(n : Int)))
    (s.onData (fun k => { k with waitDescs := k.waitDescs.filter (fun d => !mine d) }))

/-- SHARE follows the tenant's power state and the PF's Bus Master Enable (R244). -/
def State.repace (s : State) : State :=
  s.onData (fun k => { k with movers := k.movers.map (fun m => (m.1, { m.2 with
    channels := m.2.channels.map (fun c => (c.1, { c.2 with
      share := match c.2.queue with
        | d :: _ => s.shareOf d.tenant
        | [] => c.2.share })) })) })

end Sys2Proof.Machine
end

