-- ==== Sys2Proof/Machine/Link.lean ====
section
/-! DEFINITION. Machine/Link.lean: the Sector Link engine's shared operations (R250-R288, R519): frames, queues, credits, tags,
exchanges and their ABORT, what makes a path usable. -/

namespace Sys2Proof.Machine

open Sys2Proof

/-! ### Frames (R252-R257) -/

/-- Header bytes 0x00-0x1B (R253). -/
def frameHeader (f : Frame) : Bytes :=
  [BitVec.ofNat 8 (f.typ.toNat + 16 * f.ver.toNat), f.flags] ++ le 2 (f.tag.toNat + 4096 * f.gen.toNat) ++ [f.cuaddr, f.sub] ++
    le 2 f.devaddr.toNat ++ le 2 f.len.toNat ++ le 2 f.seq.toNat ++ le 4 f.offset.toNat ++ padTo 12 f.body

/-- PCRC over a payload; 0 over none (R254). -/
def payloadCrc (b : Bytes) : W32 := if b.isEmpty then 0 else crc32c b

/-- The frame with its HCRC and PCRC (R253, R254). -/
def sealFrame (f : Frame) : Frame := { f with hcrc := crc32c (frameHeader f), pcrc := payloadCrc f.payload }

/-- A frame with every field zero but TYPE and VER. -/
def blank (typ : BitVec 4) : Frame :=
  { typ := typ, ver := 1, flags := 0, tag := 0, gen := 0, cuaddr := 0, sub := 0, devaddr := 0, len := 0, seq := 0, offset := 0,
    body := zeros 12, hcrc := 0, payload := [], pcrc := 0 }

/-- A CONTROL frame of a subtype (R257). -/
def control (sub : Byte) : Frame := { blank 6 with sub := sub }

/-- The blocks of the Clause 49 code that a frame is sent in: each is 8 bytes before its sync header (R252). -/
inductive WireBlock where
  /-- The start control block, with its seven data bytes. -/
  | start (bytes : Bytes)
  | data (bytes : Bytes)
  /-- A terminate block that carries no data, and an idle block. -/
  | terminate
  | idle
deriving DecidableEq, Repr

/-- Bytes cut into data blocks. -/
def dataBlocks : Nat → Bytes → List WireBlock
  | 0, _ => []
  | n + 1, b => .data (padTo 8 (b.take 8)) :: dataBlocks n (b.drop 8)

/-- The packet that carries a sealed frame (R252-R254): seven bytes 0x55, the header with HCRC, the payload padded with zeros to a multiple of 8, the
trailer of PCRC and zeros, and the idle block that parts it from the next. -/
def wirePacket (f : Frame) : List WireBlock :=
  let n := (f.payload.length + 7) / 8
  let bytes := frameHeader f ++ le 4 f.hcrc.toNat ++ padTo (8 * n) f.payload ++ le 4 f.pcrc.toNat ++ zeros 4
  .start (List.replicate 7 0x55) :: dataBlocks (n + 5) bytes ++ [.terminate, .idle]

/-- Wire cost in bytes of a frame with a payload of `n` bytes (R252): 64 and the padded payload. -/
def wireCost (n : Nat) : Nat := 64 + (n + 7) / 8 * 8

/-- An item that names an exchange's frame. -/
def exchFrame (f : Frame) (g : Tag) (e : Exch) : Frame := { f with tag := g, gen := e.gen, cuaddr := e.cuaddr, devaddr := e.devaddr }

/-! ### Port state -/

/-- Causes that stand, highest first (R519). -/
def causeOrder : List FenceCause := [.domain, .cageAbsent, .cageType, .cagePower, .helloRefused, .noPair, .balance, .identity, .order]

/-- SLP_STATE.CAUSE of a cause (R289). -/
def causeCode : FenceCause → Nat
  | .identity => 1 | .order => 2 | .cageAbsent => 3 | .cageType => 4 | .cagePower => 5 | .balance => 6 | .domain => 7
  | .helloRefused => 8 | .noPair => 9

/-- The cause that SLP_STATE shows (R519). -/
def shownCause (p : Port) : Nat := ((causeOrder.find? (fun c => p.fences.contains c)).map causeCode).getD 0

def Port.fenced (p : Port) : Bool := p.retired || !p.fences.isEmpty

/-- SLP_STATE (R289); a retired port reads LINK 0, FENCED 1, CAUSE 0 (R422). -/
def slpState (p : Port) : W32 :=
  BitVec.ofNat 32 ((if p.retired then 0 else p.link.toNat) + 16 * bnat p.fec + 32 * bnat p.fenced +
    64 * (if p.retired then 0 else shownCause p) + 1024 * bnat p.throttle + 65536 * (p.exmax % 8192))

/-- The port sends no COMMAND, DATA or DATA-REQ (R281): any fence but cause 9. -/
def Port.muted (p : Port) : Bool := p.retired || p.fences.any (fun c => c != .noPair)

/-- A cause is added to a port's fences. -/
def State.addFence (s : State) (d : DPort) (c : FenceCause) : State :=
  s.modPort d (fun p => { p with fences := if p.fences.contains c then p.fences else p.fences ++ [c] })
def State.liftFence (s : State) (d : DPort) (c : FenceCause) : State :=
  s.modPort d (fun p => { p with fences := p.fences.filter (fun x => x != c) })

/-- KIND 0x06 against the port (R425): CAUSE, HELLO field refused, control-unit address, FWREV. -/
def State.logLink (s : State) (d : DPort) (field addr : Nat) (fwrev : W32) : State :=
  s.logFault 6 (portSite d) whoNone (BitVec.ofNat 64 (d.val + 256 * shownCause (s.port d) + 65536 * field + 2 ^ 24 * addr + 2 ^ 32 * fwrev.toNat))

/-- A path group's paths (R90). -/
def State.groupPaths (s : State) (g : Nat) : List Path := ((tfind s.list.groups g).map (·.paths)).getD []

/-- A tenant has a subchannel moored on the port. -/
def State.mooredOn (s : State) (t : Tenant) (d : DPort) : Bool :=
  s.prog.subs.any (fun b => b.2.named && b.2.tenant == t && (s.groupPaths b.2.group).any (fun x => x.port == d))

/-- PF vector 3 of both PFs, and vector 9 of each bound tenant with a subchannel moored on the port (R66, R67, R103; log 14). -/
def State.portEvent (s : State) (d : DPort) : State :=
  let ts := (s.queues.tenants.filter (fun x => x.2.binding.isSome)).map (fun x => BitVec.ofNat 12 x.1)
  (ts.filter (fun t => s.mooredOn t d)).foldl (fun s t => s.vector (.vf t) 9) (s.pfVector 3)

/-! ### Usable paths (R101, R104, R181, R182) -/

def pathKey (d : DPort) (addr : Byte) : Nat := d.val * 256 + addr.toNat
def State.pathSt (s : State) (d : DPort) (addr : Byte) : PathSt := tget {} s.list.paths (pathKey d addr)
def State.modPath (s : State) (d : DPort) (addr : Byte) (f : PathSt → PathSt) : State :=
  s.onList (fun l => { l with paths := tmod {} l.paths (pathKey d addr) f })

/-- The domain of the port is on and not being withdrawn (R431). -/
def State.portDomainOn (s : State) (d : DPort) : Bool :=
  let n := tget ({} : Domain) s.power.domains (portPP d)
  n.on && !n.withdrawn

/-- A path is usable: port UP, in service, not fenced, path not absent (R181). -/
def State.usable (s : State) (x : Path) : Bool :=
  let p := s.port x.port
  p.link == 5 && !p.fenced && s.portDomainOn x.port && !(s.pathSt x.port x.addr).absent && (s.pathSt x.port x.addr).good

/-- A program that runs on a path goes on there (R281): the path is usable but for the fence of a port that no pair serves. -/
def State.goesOnAt (s : State) (x : Path) : Bool :=
  let p := s.port x.port
  p.link == 5 && !p.muted && s.portDomainOn x.port && !(s.pathSt x.port x.addr).absent && (s.pathSt x.port x.addr).good

/-- A port counts as training (R182). -/
def State.training (s : State) (d : DPort) : Bool :=
  let p := s.port d
  !p.fenced && ((p.link == 1 || p.link == 2 || p.link == 3 || p.link == 4 || p.link == 6) ||
    s.list.paths.any (fun x => x.1 / 256 == d.val && x.2.probing))

/-- The paths a start permits (R181): PATH slots below NPATH whose bit of PATHMASK is set. -/
def State.permitted (s : State) (sc : SC) (mask : Byte) : List Path :=
  (((s.groupPaths (s.sub sc).group).zip (List.range 8)).filter (fun x => mask.getLsbD x.2)).map (·.1)

/-- A program holds a context slot (R179, R180). -/
def Prog.holdsSlot (p : Prog) : Bool :=
  match p.phase with
  | .running => true
  | .holding => true
  | _ => false

/-- Programs that hold a context slot on a port's sequencer, that of `except` left out (R181). A program that has chosen the port and still waits for a
slot there is not counted: R181 counts "programs that hold a context slot" (DESIGN CHOICE, log 125). -/
def State.loadOf (s : State) (d : DPort) (except : Option SC) : Nat :=
  (s.prog.subs.filter (fun b =>
    match b.2.prog with
    | some p => p.holdsSlot && (p.path.map (·.port)) == some d && except != some (BitVec.ofNat 18 b.1)
    | none => false)).length

/-- The path of lowest load, ties to the lowest slot (R181). -/
def State.leastLoaded (s : State) (sc : SC) (l : List Path) : Option Path :=
  (l.foldl (fun (b : Option (Path × Nat)) x =>
    let n := s.loadOf x.port (some sc)
    match b with
    | some y => if n < y.2 then some (x, n) else b
    | none => some (x, n)) none).map (·.1)

/-- The path chosen for a start (R181); `avoid` is passed over when another is usable (R191). -/
def State.choosePath (s : State) (sc : SC) (mask : Byte) (avoid : Option Path) : Option Path :=
  let ok := (s.permitted sc mask).filter s.usable
  let other := ok.filter (fun x => some x != avoid)
  s.leastLoaded sc (if other.isEmpty then ok else other)

/-! ### Tags and exchanges (R268, R274) -/

/-- Tags in quarantine or retired, and open. -/
def Port.openCount (p : Port) : Nat := p.exch.length

/-- The tag at the head of the free list: those never used first, then the least recently freed (R268). -/
def Port.headTag (p : Port) : Option Nat :=
  if p.openCount < min Config.tagsPerPort p.exmax then
    if p.fresh < Config.tagsPerPort then some p.fresh else p.freed.head?
  else none

/-- GEN of a tag's next exchange (R268). -/
def Port.nextGen (p : Port) (g : Nat) : BitVec 4 := tget 15 p.gens g + 1

/-- An exchange is opened with the tag at the head of the free list, and its COMMAND queued (R268, R269); none when there is no tag. -/
def State.openExch (s : State) (d : DPort) (owner : Owner) (cuaddr : Byte) (devaddr : W16) (input output ident : Bool) (op : Byte) :
    State × Option Tag :=
  let p := s.port d
  match p.headTag with
  | none => (s, none)
  | some g =>
    let gen := p.nextGen g
    let tag : Tag := BitVec.ofNat 12 g
    let e : Exch := { owner := owner, gen := gen, cuaddr := cuaddr, devaddr := devaddr, input := input, output := output }
    let f := exchFrame { blank 1 with flags := if ident then 1 else 0, body := padTo 12 [if ident then 0 else op] } tag e
    let s := s.modPort d (fun p => { p with
      fresh := if p.fresh < Config.tagsPerPort then p.fresh + 1 else p.fresh
      freed := if p.fresh < Config.tagsPerPort then p.freed else p.freed.drop 1
      gens := tset p.gens g gen
      exch := tset p.exch g e
      ctrlQ := p.ctrlQ ++ [⟨f, some tag, []⟩] })
    ((s.book 4 d.val 1).work, some tag)

/-! ### Frames that reach a port (R263, R264, R270, R271, R275) -/

/-- The credit class of a frame: data, control, or none (R255, R257). -/
def frameClass (f : Frame) : Option Bool :=
  if f.typ = 2 then some true
  else if f.typ = 5 || (f.typ = 6 && (f.sub = 1 || f.sub = 2)) then none
  else some false

/-- Checks 1 to 3 of R271 fail: length, header CRC, version, LEN of the type, PCRC of an empty payload. -/
def frameBad (f : Frame) : Bool :=
  f.len.toNat != f.payload.length || f.hcrc != crc32c (frameHeader f) || f.ver != 1 ||
    (if f.typ = 2 then f.len.toNat < 1 || 2048 < f.len.toNat else f.len != 0) || (f.len = 0 && f.pcrc != 0)

/-- A frame number counted on from the exchange's start lies before, at or after the next expected one (R270). -/
inductive SeqPlace where
  | before | next | after
deriving DecidableEq, Repr

def seqPlace (seq : W16) (rxSeq : Nat) : SeqPlace :=
  let n := (seq - BitVec.ofNat 16 rxSeq).toNat
  if n = 0 then .next else if n < 32768 then .after else .before

/-- A STATUS finds every DATA frame below its SEQ received, or its input refused from some point on (R269, R270). -/
def statusInOrder (e : Exch) (f : Frame) : Bool :=
  match e.refuse with
  | some r => decide (r ≤ e.rxBytes)
  | none => seqPlace f.seq e.rxSeq != .after

/-- Control credits granted to the unit and not used (R262); `Port.dOut` gives the data credits. -/
def Port.cOut (p : Port) : Nat := (p.ccumTx - p.cRecv).toNat

/-- A frame that a port takes: it passes checks 1 to 4 of R271, and HELLO has been exchanged. -/
def Port.takes (p : Port) (f : Frame) : Bool :=
  p.txOn && p.locked && p.helloSeen && p.refusedAt.isNone && !frameBad f &&
    (match frameClass f with
      | none => true
      | some isData => decide (0 < (if isData then p.dOut else p.cOut)))

/-- The frame of a command that brings one to a port, HELLO apart. -/
def framedAt (d : DPort) : Instr → Option Frame
  | .echo p f => if p = d && f.typ = 6 && f.sub = 2 then some f else none
  | .credit p f => if p = d && f.typ = 5 then some f else none
  | .data p f => if p = d && f.typ = 2 then some f else none
  | .dataReq p f => if p = d && f.typ = 3 then some f else none
  | .status p f => if p = d && f.typ = 4 then some f else none
  | .abortAck p f => if p = d && f.typ = 6 && f.sub = 4 then some f else none
  | .resend p f => if p = d && f.typ = 6 && f.sub = 6 then some f else none
  | .working p f => if p = d && f.typ = 6 && f.sub = 7 then some f else none
  | .free p f => if p = d && f.typ = 6 && f.sub = 8 then some f else none
  | _ => none

/-- Frames that wait in the queue and that the port takes: they have reached it in the same cycle as the command that is carried out (R275; DEDUCED,
log 134). -/
def State.waitingFrames (s : State) (d : DPort) : List Frame := (s.pending.filterMap (framedAt d)).filter (s.port d).takes

/-- A frame names an open exchange. -/
def Exch.names (e : Exch) (g : Tag) (f : Frame) : Bool :=
  e.sent && f.tag == g && f.gen == e.gen && f.cuaddr == e.cuaddr && f.devaddr == e.devaddr

/-- Among the frames of the same cycle, one accepts the exchange; one is any frame of it; one is the STATUS that closes it (R190, R275). -/
def State.acceptWaits (s : State) (d : DPort) (g : Tag) (e : Exch) : Bool :=
  (s.waitingFrames d).any (fun f => e.names g f && ((f.typ == 2 && e.input) || (f.typ == 3 && e.output) || (f.typ == 4 && !f.flags.getLsbD 0)))
def State.frameWaits (s : State) (d : DPort) (g : Tag) (e : Exch) : Bool :=
  (s.waitingFrames d).any (fun f => e.names g f &&
    ((f.typ == 2 && e.input) || (f.typ == 3 && e.output) || f.typ == 4 || (f.typ == 6 && (f.sub == 6 || f.sub == 7))))
def State.statusWaits (s : State) (d : DPort) (g : Tag) (e : Exch) : Bool :=
  (s.waitingFrames d).any (fun f => e.names g f && f.typ == 4 && statusInOrder e f)

/-- The frames of an exchange leave the port's queues, and their buffers lose a reader. -/
def State.unqueue (s : State) (d : DPort) (g : Tag) : State :=
  let p := s.port d
  let mine := fun (x : TxItem) => x.tag == some g
  let gone := (p.dataQ ++ p.resends).filter mine
  let keep := fun (l : List TxItem) => l.filter (fun x => !mine x)
  let s := s.modPort d (fun p => { p with
    ctrlQ := keep p.ctrlQ, dataQ := keep p.dataQ, resends := keep p.resends, controls := keep p.controls })
  gone.foldl (fun s x => s.dropRuns x.srcs) s

/-- A tag goes to the tail of the free list (R268). -/
def State.freeTag (s : State) (d : DPort) (g : Tag) : State :=
  ((s.modPort d (fun p => { p with freed := p.freed ++ [g.toNat] })).book 4 d.val (-1)).dropAcct 9 (4096 * d.val + g.toNat)

/-- The DATA frames kept for a resend lose their reader (R265). -/
def State.dropKept (s : State) (e : Exch) : State := e.kept.foldl (fun s k => s.dropRuns k.2.2) s

/-- An exchange closes by STATUS (R269, R280): the DATA frames sent keep their buffers until the unit's credit count covers them (R265). -/
def State.closeExch (s : State) (d : DPort) (g : Tag) : State :=
  match tfind (s.port d).exch g.toNat with
  | none => s
  | some e =>
    ((s.unqueue d g).modPort d (fun p => { p with
      exch := tdel p.exch g.toNat, owed := p.owed ++ e.kept.map (fun k => (k.1, k.2.2)) })).freeTag d g

/-- Frames kept beyond their exchange lose their reader when the link goes (R265, R280). -/
def State.dropOwed (s : State) (d : DPort) : State :=
  ((s.port d).owed.foldl (fun s k => s.dropRuns k.2) s).modPort d (fun p => { p with owed := [] })

/-- An exchange is ended on the link (R274): ABORT with a reason, its tag into quarantine. An exchange whose COMMAND has not left needs
no ABORT: its tag goes back to the free list (DEDUCED, log 18). A STATUS that reached the port in the same cycle closes it first, and no ABORT goes
(R275). -/
def State.abortExch (s : State) (d : DPort) (g : Tag) (reason : Byte) : State :=
  match tfind (s.port d).exch g.toNat with
  | none => s
  | some e =>
    if !e.sent then s.closeExch d g
    else if s.statusWaits d g e then (s.closeExch d g).modPort d (fun p => { p with early := p.early ++ [(g.toNat, e.gen)] })
    else
      let f := exchFrame { control 3 with body := padTo 12 [reason] } g e
      let s := ((s.unqueue d g).dropKept e).modPort d (fun p => { p with
        exch := tdel p.exch g.toNat
        quar := tset p.quar g.toNat ⟨e.gen, e.cuaddr, e.devaddr, reason, 0, none, false, false⟩
        controls := p.controls ++ [⟨f, some g, []⟩] })
      s.dropAcct 9 (4096 * d.val + g.toNat)

/-- A tag leaves quarantine (R274). -/
def State.quarFree (s : State) (d : DPort) (g : Tag) : State :=
  (s.modPort d (fun p => { p with quar := tdel p.quar g.toNat, controls := p.controls.filter (fun x => x.tag != some g) })).freeTag d g

/-! ### Credits (R262-R266) -/

/-- Credits on hand to send (R262). -/
def Port.dHand (p : Port) : Nat := (p.dcumRx - p.dUsed).toNat
def Port.cHand (p : Port) : Nat := (p.ccumRx - p.cUsed).toNat

/-- A frame of a class has reached the port: it uses a credit, which waits to be returned (R263). -/
def State.useCredit (s : State) (d : DPort) (isData : Bool) : State :=
  s.modPort d (fun p =>
    let p := if isData then { p with dRecv := p.dRecv + 1, dWait := p.dWait + 1 } else { p with cRecv := p.cRecv + 1, cWait := p.cWait + 1 }
    { p with
      waitSince := some (p.waitSince.getD s.clk.now)
      creditDue := p.creditDue || decide (4 ≤ p.dWait) || decide (4 ≤ p.cWait) })

/-- Data credits that may be granted now: one for each free buffer, at most 2,048 unused, one a CREDIT frame at half rate (R222, R262, R267). -/
def State.grantable (s : State) (d : DPort) : Nat :=
  let p := s.port d
  let room := Config.dataCreditLimit - p.dOut
  let bufs := (s.reserveLeft d.val - p.dOut) + s.sharedOpen
  let n := min p.dWait (min room bufs)
  if p.throttle then (if p.lastGrant + 211 ≤ s.clk.now then min n 1 else 0) else n

/-- The CREDIT frame: DCUM and CCUM granted since HELLO (R256, R262). -/
def creditFrame (p : Port) : Frame := { blank 5 with body := padTo 12 (le 4 p.dcumTx.toNat ++ le 4 p.ccumTx.toNat) }

/-- Waiting credits are granted, and the CREDIT frame that says so is ready to send (R262, R263). -/
def State.grantCredits (s : State) (d : DPort) : State × Frame :=
  let n := s.grantable d
  let c := (s.port d).cWait
  let s := (s.modPort d (fun p => { p with
    dcumTx := p.dcumTx + BitVec.ofNat 32 n, ccumTx := p.ccumTx + BitVec.ofNat 32 c
    dWait := p.dWait - n, cWait := 0, creditDue := false
    lastGrant := if 0 < n then s.clk.now else p.lastGrant
    waitSince := if n < p.dWait then some s.clk.now else none })).book 2 d.val (n + c : Nat)
  (s, creditFrame (s.port d))

/-- The HELLO body the device sends (R258). -/
def helloFrame (fec : Bool) : Frame :=
  { control 1 with body := [1, 0, BitVec.ofNat 8 (bnat fec), 0] ++ le 2 1024 ++ le 2 256 ++ le 2 4096 ++ zeros 2 }

/-- A HELLO of the device is due (R258). -/
def State.queueHello (s : State) (d : DPort) : State := s.modPort d (fun p => { p with helloDue := true, helloAt := some (s.clk.now + Config.us100Ticks) })

/-- The first granule of a buffer of a port's FIFO spill region (R213, R221): 64 MiB a port, 32,768 buffers. -/
def spillGranule (d : DPort) (n : Nat) : Nat := 0x44000000 / 64 + 0x100000 * d.val + 32 * n

/-- A buffer is taken for spill (R221, R282). -/
def Port.spillNew (p : Port) : Port :=
  let fresh := decide (p.spillFresh < 32768)
  let b := if fresh then p.spillFresh else p.spillFreed.headD 0
  { p with
    spillFresh := if fresh then p.spillFresh + 1 else p.spillFresh
    spillFreed := if fresh then p.spillFreed else p.spillFreed.drop 1
    spillBufs := p.spillBufs ++ [⟨b, tget 0 p.spillEpochs b, 0, 0⟩] }

/-- `n` more items go into spill, 32 to a buffer, in order (R282). -/
def Port.spillPut : Nat → Port → Nat → Port
  | 0, p, _ => p
  | f + 1, p, n =>
    if n = 0 then p
    else
      match p.spillBufs.getLast? with
      | some b =>
        if b.taken < 32 then
          let k := min n (32 - b.taken)
          Port.spillPut f { p with spillBufs := p.spillBufs.dropLast ++ [{ b with taken := b.taken + k }] } (n - k)
        else Port.spillPut f p.spillNew n
      | none => Port.spillPut f p.spillNew n

/-- `n` items leave spill, the oldest first; a buffer that is empty is freed, and its epoch rises (R221, R282). -/
def Port.spillTake : Nat → Port → Nat → Port
  | 0, p, _ => p
  | f + 1, p, n =>
    match p.spillBufs with
    | [] => p
    | b :: r =>
      let k := min n (b.taken - b.left)
      if n = 0 then p
      else if b.left + k < b.taken then { p with spillBufs := { b with left := b.left + k } :: r }
      else Port.spillTake f { p with
        spillBufs := r, spillFreed := p.spillFreed ++ [b.buf], spillEpochs := tset p.spillEpochs b.buf (b.epoch + 1) } (n - k)

/-- Items that the spill buffers hold. -/
def Port.spillHeld (p : Port) : Nat := p.spillBufs.foldl (fun a b => a + (b.taken - b.left)) 0

/-- Items in spill (R282): those beyond the 512 of each class, and the staged output that no DATA-REQ covers yet. -/
def State.spill (s : State) (d : DPort) : Nat :=
  let p := s.port d
  let idle := s.prog.subs.foldl (fun a b =>
    match b.2.prog with
    | some q => if q.path.map (·.port) == some d then a + ((q.chain.map (fun c => c.staged.length)).getD 0) else a
    | none => a) 0
  (p.dataQ.length - Config.onDieItems) + (p.ctrlQ.length - Config.onDieItems) + idle

/-- The stall of R282 begins and ends with the spill. -/
def State.stallCheck (s : State) (d : DPort) : State :=
  let n := s.spill d
  s.modPort d (fun p0 =>
    let p := if p0.spillHeld ≤ n then Port.spillPut (2 * n + 2) p0 (n - p0.spillHeld)
      else Port.spillTake (p0.spillBufs.length + 1) p0 (p0.spillHeld - n)
    if !p.stall && Config.spillStall ≤ n then { p with stall := true, stallCnt := satInc p.stallCnt }
    else if p.stall && n < Config.spillResume then { p with stall := false }
    else p)

end Sys2Proof.Machine
end

