-- ==== Sys2Proof/Machine/Steps.lean ====
section
/-! DEFINITION. Machine/Steps.lean: reading a step, and the checks of R178 that need the step alone. -/

namespace Sys2Proof.Machine

open Sys2Proof

/-- A step (R141). -/
structure StepW where
  op : Byte
  flags : Byte
  count : Nat
  aux : W32
  addr : Nat
deriving DecidableEq, Repr

/-- The step in 16 bytes (R141). -/
def parseStep (b : Bytes) : StepW := ⟨byteAt b 0, byteAt b 1, (u16 b 2).toNat, u32 b 4, (u64 b 8).toNat⟩

/-- The flags of R145. -/
def StepW.fchain (w : StepW) : Bool := w.flags.getLsbD 0
def StepW.fguard (w : StepW) : Bool := w.flags.getLsbD 1
def StepW.flink (w : StepW) : Bool := w.flags.getLsbD 2
def StepW.fcolumn (w : StepW) : Bool := w.flags.getLsbD 3
def StepW.findir (w : StepW) : Bool := w.flags.getLsbD 4
def StepW.fskip (w : StepW) : Bool := w.flags.getLsbD 5
def StepW.fpost (w : StepW) : Bool := w.flags.getLsbD 6
def StepW.fhold (w : StepW) : Bool := w.flags.getLsbD 7

/-- The classes and operations of R142 and R143. -/
inductive Op where
  | read | write | sense | control | test | go | wait | post | mark | nop | reserved
deriving DecidableEq, Repr

/-- The operation of an OP byte (R142, R143). -/
def opOf (op : Byte) : Op :=
  let n := op.toNat
  if n < 0x40 then .read else if n < 0x80 then .write else if n < 0xC0 then .sense else if n < 0xF0 then .control
  else if n = 0xF0 then .test else if n = 0xF1 then .go else if n = 0xF2 then .wait else if n = 0xF3 then .post
  else if n = 0xF4 then .mark else if n = 0xF5 then .nop else .reserved

def Op.isDevice : Op → Bool
  | .read | .write | .sense | .control => true
  | _ => false
def Op.isInput : Op → Bool
  | .read | .sense => true
  | _ => false

/-- The signed branch target: the step's address plus 16 × AUX (R153, R154). -/
def branchTarget (a : W64) (aux : W32) : W64 := a + (aux.signExtend 64 <<< 4)

/-- Check 2 at a head step or a control step: a flag that R146 or R147 refuses. -/
def flagsBad (o : Op) (w : StepW) : Bool :=
  let combo := (w.fguard && !w.fchain && !w.flink) || (w.fskip && w.findir) || (w.fskip && w.fcolumn) || (w.findir && w.fcolumn)
  match o with
  | .read => combo
  | .sense => combo || w.fcolumn
  | .write => combo || w.fskip || w.fcolumn
  | .control =>
    if w.count = 0 then combo || w.flink || w.fskip || w.findir || w.fcolumn else combo || w.fskip || w.fcolumn
  | .test => w.flink || w.fskip || w.findir || w.fcolumn || w.fguard
  | .go => w.flink || w.fskip || w.findir || w.fcolumn || w.fguard
  | _ => w.flink || w.fskip || w.findir || w.fcolumn || w.fguard

/-- COUNT = 0 ends the step with ZERO-COUNT (R144). -/
def zeroCount (o : Op) (w : StepW) : Bool :=
  match o with
  | .read | .write | .sense => w.count = 0
  | _ => false

/-- MASK and MATCH of a TEST (R143). -/
def testMask (w : StepW) : Byte := BitVec.ofNat 8 w.count
def testMatch (w : StepW) : Byte := BitVec.ofNat 8 (w.count / 256)
/-- TEST is taken (R153). -/
def testTaken (w : StepW) (s : Byte) : Bool := (s &&& testMask w) == testMatch w

/-- Check 3. -/
def countBad (o : Op) (w : StepW) : Bool :=
  match o with
  | .test => (testMatch w &&& ~~~testMask w) != 0
  | .go | .wait | .post | .mark | .nop => w.count != 0
  | _ => false

/-- Check 4. -/
def auxBad (o : Op) (w : StepW) : Bool :=
  match o with
  | .test | .go => w.aux == 0
  | .wait | .post => w.aux.toNat ≥ 65536
  | .mark => w.aux.toNat ≥ 2
  | .nop => w.aux != 0
  | .reserved => false
  | _ => if w.fcolumn then w.aux.toNat ≥ 4096 else w.aux != 0

/-- Check 5. -/
def addrBad (o : Op) (w : StepW) : Bool :=
  match o with
  | .test | .go | .wait | .post | .nop => w.addr != 0
  | .mark => w.addr % 8 != 0
  | .reserved => false
  | .control => if w.count = 0 then w.addr != 0 else w.findir && w.addr % 16 != 0
  | _ => w.findir && w.addr % 16 != 0

/-- The outcome of the first failing check, STEP-CHECK with its number or ZERO-COUNT, among checks 1 to 5 (R178). -/
inductive Failed where
  | check (n : Nat)
  | zero
deriving DecidableEq, Repr

/-- Checks 1 to 5 of R178 at a step that is no continuation step, with ZERO-COUNT in its place (R144). -/
def earlyCheck (w : StepW) : Option Failed :=
  let o := opOf w.op
  if o = .reserved then some (.check 1)
  else if flagsBad o w then some (.check 2)
  else if zeroCount o w then some .zero
  else if countBad o w then some (.check 3)
  else if auxBad o w then some (.check 4)
  else if addrBad o w then some (.check 5)
  else none

/-- The same at a continuation step, for the class of its head (R146, R147, R149). A COLUMN step whose head has none fails check 9 whatever its ADDRESS
(DESIGN CHOICE, log 136): check 5 looks at ADDRESS only where the head carries COLUMN too. -/
def earlyContCheck (input : Bool) (headCol : Bool) (w : StepW) : Option Failed :=
  let combo := (w.fguard && !w.fchain && !w.flink) || (w.fskip && w.findir) || (w.fskip && w.fcolumn) || (w.findir && w.fcolumn)
  if combo || w.fhold || (w.fskip && !input) then some (.check 2)
  else if w.count = 0 then some .zero
  else if !w.fcolumn && w.aux != 0 then some (.check 4)
  else if w.fcolumn && w.aux.toNat ≥ 4096 then some (.check 4)
  else if (w.fcolumn && headCol && w.addr != 0) || (w.findir && w.addr % 16 != 0) then some (.check 5)
  else none

/-! ### Column maps (R233, R234) -/

/-- The map in the bytes read of it. -/
def parseMap (b : Bytes) : ColumnMap :=
  { reclen := (u16 b 0).toNat
    crcoff := u64 b 8
    columns := (List.range (byteAt b 2).toNat).map (fun c =>
      ⟨(u16 b (0x40 + 16 * c)).toNat, (u16 b (0x42 + 16 * c)).toNat, u64 b (0x48 + 16 * c)⟩) }

/-- Columns rise without overlap. -/
def columnsRise : List Column → Bool
  | [] => true
  | [_] => true
  | a :: b :: r => decide (a.start + a.width ≤ b.start) && columnsRise (b :: r)

/-- The map, or nothing where a check of R234 that needs no count fails. -/
def mapGood (b : Bytes) (base : Nat) : Option ColumnMap :=
  let m := parseMap b
  let n := (byteAt b 2).toNat
  let resv := allZero (bslice b 3 5) && allZero (bslice b 0x10 0x30) &&
    (List.range 32).all (fun c => if c < n then allZero (bslice b (0x44 + 16 * c) 4) else allZero (bslice b (0x40 + 16 * c) 16))
  let fits := match m.columns.getLast? with
    | some c => decide (c.start + c.width ≤ m.reclen)
    | none => false
  if m.reclen = 0 || n = 0 || 32 < n || m.columns.any (fun c => c.width == 0) || !columnsRise m.columns || !fits ||
      (base + m.crcoff.toNat) % 4 != 0 || m.columns.any (fun c => 2 ^ 64 ≤ base + c.offset.toNat) ||
      2 ^ 64 ≤ base + m.crcoff.toNat || !resv then none
  else some m

end Sys2Proof.Machine
end

