-- ==== Sys2Proof/Machine/Transfer.lean ====
section
/-! DEFINITION. Machine/Transfer.lean: the bytes of a data chain (R149, R150): input routed to host ranges or through the columnizer
into host writes, output read from the host into staging, also ahead of the flow, and on to the link. -/

namespace Sys2Proof.Machine

open Sys2Proof

/-- The transfer of a start. -/
def Start.xfer (x : Start) : Nat × Nat := (qIndex x.tenant x.sq, x.index)
def Prog.xfer (p : Prog) : Nat × Nat := p.start.xfer

/-- A subchannel's programs, closing ones first, oldest first. -/
def Sub.progs (b : Sub) : List Prog := b.closing ++ b.prog.toList

/-- The program of a transfer changed, wherever it stands. -/
def State.modXfer (s : State) (sc : SC) (x : Nat × Nat) (f : Prog → Prog) : State :=
  let g := fun (p : Prog) => if p.xfer == x then f p else p
  s.modSub sc (fun b => { b with prog := b.prog.map g, closing := b.closing.map g })
def State.progX? (s : State) (sc : SC) (x : Nat × Nat) : Option Prog := (s.sub sc).progs.find? (fun p => p.xfer == x)

/-- The chain of the running program changed. -/
def State.modChain (s : State) (sc : SC) (f : Chain → Chain) : State :=
  s.modProg sc (fun p => { p with chain := p.chain.map f })

/-- Bytes of a chain's steps checked so far. -/
def Chain.total (c : Chain) : Nat := c.parts.foldl (fun a p => a + p.count) 0

/-- The part that byte `n` of the chain lies in, with its position and its first byte (R150). -/
def partAt (l : List Part) (n : Nat) (i lo : Nat) : Option (Part × Nat × Nat) :=
  match l with
  | [] => none
  | p :: r => if n < lo + p.count then some (p, i, lo) else partAt r n (i + 1) (lo + p.count)

/-! ### The copies of a program's steps (R161-R164) -/

def groupOf (a : W64) : Nat := a.toNat / 64

/-- The copy of the step at an address, when its group has been read. -/
def Prog.stepAt (p : Prog) (a : W64) : Option StepW := (tfind p.groups (groupOf a)).map (fun b => parseStep (bslice b (a.toNat % 64) 16))

/-- The granule of the subchannel's step-cache slice that holds a group: groups take its 64 places in the order they are read (R183). -/
def sliceGranule (sc : SC) (n : Nat) : Nat := 0x04000000 / 64 + 64 * sc.toNat + n % 64
def Prog.stepGranule (p : Prog) (sc : SC) (a : W64) : Nat := sliceGranule sc (p.slots.findIdx (· == groupOf a))

/-- A group read for the running program stands in its slice (R161, R183, R217). -/
def State.keepGroup (s : State) (sc : SC) (k : Nat) (b : Bytes) : State :=
  match s.prog? sc with
  | none => s
  | some p =>
    let slots := if p.slots.contains k then p.slots else p.slots ++ [k]
    (s.modProg sc (fun p => { p with groups := tset p.groups k b, slots := slots })).onData (fun d => { d with
      granules := tset d.granules (sliceGranule sc (slots.findIdx (· == k))) ⟨padTo 64 b, 0, false⟩ })

/-- The slice is emptied: the granules that the execution wrote hold 0xA5 and POISON (R183, R217). -/
def State.emptySlice (s : State) (sc : SC) : State :=
  match s.prog? sc with
  | none => s
  | some p =>
    (s.modProg sc (fun p => { p with groups := [], asked := [], slots := [] })).onData (fun d => { d with
      granules := (List.range p.slots.length).foldl (fun t i => tset t (sliceGranule sc i) {}) d.granules })

/-- The host ranges of a step that names no segment list. -/
def partSegs (w : StepW) (seg : Option SegRead) : List (Nat × Nat) :=
  match seg with
  | some g => g.got
  | none => if w.fskip || w.fcolumn || w.count = 0 then [] else [(w.addr, w.count)]

/-- The ranges of a COLUMN step that R177 checks: `j` records before it, `n` in it; the CRC block with the head step. -/
def colRanges (m : ColumnMap) (base j n : Nat) (head : Bool) : List (Nat × Nat) :=
  m.columns.map (fun c => (base + c.offset.toNat + j * c.width, n * c.width)) ++
    (if head then [(base + m.crcoff.toNat, 4 * m.columns.length)] else [])

/-- The address check of a device step (R177): DETAIL of the first range that fails, none when all pass. -/
def State.rangeBad (s : State) (t : Tenant) (w : StepW) (seg : Option SegRead) (cols : List (Nat × Nat)) : Option Nat :=
  let ok := fun (r : Nat × Nat) => s.inWindows t r.1 r.2
  match seg with
  | some g => if g.beyond then some 3 else if g.got.all ok then none else some 4
  | none =>
    if w.count = 0 || w.fskip then none
    else if w.fcolumn then (if cols.all ok then none else some 5)
    else if ok (w.addr, w.count) then none else some 2

/-- Bytes that a chain has moved: input routed to its steps, output sent on the link (R149, R150). -/
def Chain.moved (c : Chain) : Nat := if c.input then c.taken else c.sent

/-- The place in a chain's data of a part that a test picks out. -/
def Chain.placeOf (c : Chain) (f : Part → Bool) : Option Nat :=
  match c.parts.findIdx? f with
  | some i => some ((c.parts.take i).foldl (fun a p => a + p.count) 0)
  | none => none

/-- The step of a chain that the unit is being served (R186), and the step the program is at. -/
def Chain.served (c : Chain) : W64 := ((partAt c.parts c.moved 0 0).map (fun x => x.1.step)).getD c.last
def Prog.at1 (p : Prog) : W64 := (p.chain.map Chain.served).getD p.flow

/-- The counts of the steps that follow a chain, as far as their copies are there: the bytes that the chain's steps are known to take, and whether its last
step is among them. -/
def Prog.countsFrom (p : Prog) : Nat → W64 → Nat → Nat × Bool
  | 0, _, n => (n, false)
  | f + 1, a, n =>
    match p.stepAt a with
    | none => (n, false)
    | some w => if w.flink then Prog.countsFrom p f (a + 16) (n + w.count) else (n + w.count, true)

/-! ### Host writes (R236, R241, R245, R246) -/

/-- The longest run from `a` of at most `n` bytes that no naturally aligned multiple of `m` cuts. -/
def runLen (m a n : Nat) : Nat := min n (m - a % m)

/-- The descriptors of one host write: one for each buffer its bytes stand in, in order (R241). -/
def writeDescs (d : Desc) (addr : Nat) (head : Bytes) : List Piece → List Desc
  | [] => []
  | x :: r =>
    { d with addr := addr, len := x.bytes.length, bytes := x.bytes, run := some x.run, head := head, more := !r.isEmpty } ::
      writeDescs d (addr + x.bytes.length) (head ++ x.bytes) r

/-- A descriptor of the program's host writes, its bytes still to be named. -/
def State.writeProto (s : State) (sc : SC) (p : Prog) : Desc :=
  { kind := 2, tenant := p.start.tenant, pasid := s.pasidOf p.start.tenant, addr := 0, len := 0, sc := sc, xfer := p.xfer }

/-- A host write is queued as its descriptors; its pages are noted with its number (R187). -/
def State.queueWrite (s : State) (sc : SC) (p : Prog) (addr : Nat) (l : List Desc) : State :=
  let n := p.queuedW + 1
  let s := s.modXfer sc p.xfer (fun q => { q with
    queuedW := n
    pages := (q.pages.filter (fun x => q.provenW < x.2)) ++ [(addr / 4096, n)] })
  l.foldl State.queueDesc s

/-- Writes of bytes that the device makes itself, split at Max_Payload_Size: time marks and CRC blocks (R160, R236); the last frees an engine. -/
def State.writeOwn : Nat → State → SC → Nat × Nat → Nat → Bytes → Option (Nat × Nat) → State
  | 0, s, _, _, _, _, _ => s
  | f + 1, s, sc, x, addr, b, frees =>
    match s.progX? sc x with
    | none => s
    | some p =>
      if b.isEmpty then s
      else
        let k := runLen (s.host (hostOf p.start.tenant)).mps addr b.length
        let d := { s.writeProto sc p with
          addr := addr, len := k, bytes := b.take k, digest := false, frees := if k < b.length then none else frees }
        State.writeOwn f (s.queueWrite sc p addr [d]) sc x (addr + k) (b.drop k) frees

/-- The bytes that the next write of a stream takes: to the next split point, or to the end of the range (R246). -/
def chunkLen (mps : Nat) (st : Stream) : Nat :=
  match st.left with
  | some l => runLen mps st.next l
  | none => runLen mps st.next mps

/-- One write of `k` bytes taken from the front of a stream; `col`: the column and engine of a column stream. -/
def State.emitChunk (s : State) (sc : SC) (x : Nat × Nat) (st : Stream) (k : Nat) (col : Option (Nat × Nat)) : State × Stream :=
  let (a, rest, cut) := splitPieces st.pend k
  let b := pieceBytes a
  let s := s.cutRef cut
  let s := match s.progX? sc x with
    | some p =>
      let d := { s.writeProto sc p with column := col.isSome, col := (col.map (·.1)).getD 0, eng := (col.map (·.2)).getD 0 }
      s.queueWrite sc p st.next (writeDescs d st.next [] a)
    | none => s
  let left := st.left.map (fun l => l - k)
  let st := { st with pend := rest, sent := if col.isSome then st.sent ++ b else [] }
  match left, st.rest with
  | some 0, r :: rs => (s, { st with next := r.1, left := some r.2, rest := rs })
  | _, _ => (s, { st with next := st.next + k, left := left })

/-- Every write that has all its bytes is queued; with `all`, the remainder too, when the chain ends (R246). -/
def State.emitChunks : Nat → State → SC → Nat × Nat → Nat → Stream → Option (Nat × Nat) → Bool → State × Stream
  | 0, s, _, _, _, st, _, _ => (s, st)
  | f + 1, s, sc, x, mps, st, col, all =>
    let have1 := piecesLen st.pend
    let k := chunkLen mps st
    if have1 = 0 || k = 0 then (s, st)
    else if k ≤ have1 then
      let (s, st) := s.emitChunk sc x st k col
      State.emitChunks f s sc x mps st col all
    else if all then s.emitChunk sc x st have1 col
    else (s, st)

/-- The last descriptor that a test picks out of a list is marked LAST (R241). -/
def markLastOf (f : Desc → Bool) (l : List Desc) : List Desc :=
  match l.reverse.findIdx? f with
  | some i => l.modify (l.length - 1 - i) (fun d => { d with last := true })
  | none => l

/-- The last descriptor of a transfer's plain writes that has not completed is marked LAST (R229, R241): false when there is none. -/
def State.markLast (s : State) (x : Nat × Nat) : State × Bool :=
  let f := fun (d : Desc) => d.xfer == x && d.kind == 2 && d.digest && !d.column
  if s.data.waitDescs.any f then (s.onData (fun k => { k with waitDescs := markLastOf f k.waitDescs }), true)
  else if s.data.movers.any (fun m => m.2.channels.any (fun c => c.2.queue.any f)) then
    (s.onData (fun k => { k with movers := k.movers.map (fun m => (m.1, { m.2 with
      channels := m.2.channels.map (fun c => (c.1, { c.2 with queue := markLastOf f c.2.queue })) })) }), true)
  else if s.data.movers.any (fun m => (m.2.running.map (fun r => f r.2.1)).getD false) then
    (s.onData (fun k => { k with movers := k.movers.map (fun m => (m.1, { m.2 with
      running := m.2.running.map (fun r => if f r.2.1 then (r.1, { r.2.1 with last := true }, r.2.2) else r) })) }), true)
  else (s, false)

/-! ### Columns (R235-R239) -/

/-- Where byte `r` of a record goes: a column and the bytes of it from here on, or a gap of some bytes (R234). -/
def columnAt (m : ColumnMap) (r : Nat) : Option Nat × Nat :=
  match (m.columns.zip (List.range m.columns.length)).find? (fun c => c.1.start ≤ r && r < c.1.start + c.1.width) with
  | some c => (some c.2, c.1.start + c.1.width - r)
  | none =>
    match m.columns.find? (fun c => r < c.start) with
    | some c => (none, c.start - r)
    | none => (none, m.reclen - r)

/-- Record bytes are split into the column streams; gap bytes are dropped (R235). -/
def State.colTake : Nat → State → SC → Nat × Nat → ColState → List Piece → State × ColState
  | 0, s, _, _, c, l => (s.dropPieces l, c)
  | f + 1, s, sc, x, c, l =>
    if piecesLen l = 0 then (s.dropPieces l, c)
    else
      let (col, n) := columnAt c.map (c.pos % c.map.reclen)
      let k := min n (piecesLen l)
      let (a, rest, cut) := splitPieces l k
      let s := s.cutRef cut
      match col with
      | none => State.colTake f (s.dropPieces a) sc x { c with pos := c.pos + k } rest
      | some i =>
        let b := pieceBytes a
        let st := (c.streams.getD i {})
        let st := { st with pend := st.pend ++ a, crc := crcBytes (0x82F63B78 : W32) st.crc b }
        let mps := (s.host (hostOf (((s.progX? sc x).map (·.start.tenant)).getD 0))).mps
        let (s, st) := State.emitChunks (piecesLen st.pend + 1) s sc x mps st (some (i, c.engine)) false
        let s := s.modXfer sc x (fun p => { p with digest := digest p.digest b })
        State.colTake f s sc x { c with pos := c.pos + k, streams := c.streams.set i st, ingress := digest c.ingress b } rest

/-- The record bytes of the columns, in record order, as the mover wrote them: what its joined digest covers (R239). -/
def joinColumns (m : ColumnMap) : Nat → Nat → List Bytes → Bytes
  | 0, _, _ => []
  | f + 1, pos, cols =>
    let (col, n) := columnAt m (pos % m.reclen)
    match col with
    | none => joinColumns m f (pos + n) cols
    | some i =>
      let b := (cols.getD i []).take n
      if b.isEmpty then [] else b ++ joinColumns m f (pos + n) (cols.set i ((cols.getD i []).drop n))

/-! ### Input -/

/-- Staged input is routed to the chain's steps as far as they are known: skipped, columnized, or on to its host range (R149, R150). -/
def State.route : Nat → State → SC → State
  | 0, s, _ => s
  | f + 1, s, sc =>
    match s.prog? sc with
    | none => s
    | some p =>
      match p.chain with
      | none => s
      | some c =>
        let n := piecesLen c.unrouted
        match partAt c.parts c.taken 0 0 with
        | none => s
        | some (part, _, lo) =>
          if n = 0 then s
          else
            let k := min n (lo + part.count - c.taken)
            let (a, rest, cut) := splitPieces c.unrouted k
            let s := s.cutRef cut
            let s := s.modChain sc (fun c => { c with unrouted := rest, taken := c.taken + k })
            if part.skip then State.route f (s.dropPieces a) sc
            else
              match c.col with
              | some col =>
                let (s, col) := State.colTake (2 * k + 2) s sc p.xfer col a
                State.route f (s.modChain sc (fun c => { c with col := some col })) sc
              | none =>
                let b := pieceBytes a
                let st := if c.taken = lo then
                    (match part.segs with
                      | r :: rs => { next := r.1, left := some r.2, rest := rs, pend := c.stream.pend ++ a : Stream }
                      | [] => { c.stream with pend := c.stream.pend ++ a })
                  else { c.stream with pend := c.stream.pend ++ a }
                let (s, st) := State.emitChunks (piecesLen st.pend + 1) s sc p.xfer (s.host (hostOf p.start.tenant)).mps st none false
                let s := s.modProg sc (fun p => { p with digest := digest p.digest b, ingress := digest p.ingress b })
                State.route f (s.modChain sc (fun c => { c with stream := st })) sc

/-- Input of an exchange reaches staging: one buffer, one reader (R189, R221). -/
def State.stageInput (s : State) (sc : SC) (d : DPort) (b : Bytes) : State :=
  let (s, piece) := s.allocBuf (some d) b
  match (s.prog? sc).bind (·.chain) with
  | none => s.dropRef piece.buf
  | some c =>
    let s := s.modChain sc (fun c => { c with unrouted := c.unrouted ++ [piece] })
    s.route (c.parts.length + 2) sc

/-- An engine is held by a program's open chain, or waited for. -/
def ColPool.holds (k : ColPool) (sc : SC) (e : Nat × Nat) : Bool := e.2 == sc.toNat && !k.closing.contains e.1

/-- The columnizer engine of a program's chain is given up (R231). -/
def State.releaseEngine (s : State) (sc : SC) : State :=
  s.onData (fun d => { d with pools := d.pools.map (fun k => (k.1, { k.2 with
    holders := k.2.holders.filter (fun h => !k.2.holds sc h), waiting := k.2.waiting.filter (fun h => h != sc.toNat) })) })

/-- The engine of a chain whose CRC block has been written is free (R231). -/
def State.freeEngine (s : State) (e : Option (Nat × Nat)) : State :=
  match e with
  | none => s
  | some (d, e) => s.onData (fun k => { k with pools := tupd k.pools d (fun p => { p with
      holders := tdel p.holders e, closing := p.closing.filter (fun x => x != e) }) })

/-- The engine of a chain that ends stays with it until its CRC block is written (R231). -/
def State.keepEngine (s : State) (sc : SC) : State × Option (Nat × Nat) :=
  match s.data.pools.findSome? (fun k => (k.2.holders.find? (k.2.holds sc)).map (fun h => (k.1, h.1))) with
  | none => (s, none)
  | some (d, e) => (s.onData (fun k => { k with pools := tupd k.pools d (fun p => { p with closing := p.closing ++ [e] }) }), some (d, e))

/-- A program asks for a columnizer engine of a die: a free one when it is its turn, else it waits (R231). An engine of another die is given up:
the exchange moves to a port of this one. -/
def State.claimEngine (s : State) (sc : SC) (d : Die) : State × Bool :=
  let mine := fun (k : ColPool) => k.holders.any (k.holds sc) || k.waiting.contains sc.toNat
  let s := if s.data.pools.any (fun k => k.1 != d.val && mine k.2) then s.releaseEngine sc else s
  let k := s.pool d
  if k.holders.any (k.holds sc) then (s, true)
  else
    let turn := k.waiting.isEmpty || k.waiting.head? == some sc.toNat
    match (List.range 8).find? (fun e => (tfind k.holders e).isNone && !k.retired.contains e && !k.testing.contains e) with
    | some e =>
      if turn then
        ((s.modPool d (fun k => { k with holders := tset k.holders e sc.toNat, waiting := k.waiting.filter (fun w => w != sc.toNat) })).modChain sc
          (fun c => { c with col := c.col.map (fun x => { x with engine := e }) }), true)
      else (s.modPool d (fun k => { k with waiting := if k.waiting.contains sc.toNat then k.waiting else k.waiting ++ [sc.toNat] }), false)
    | none => (s.modPool d (fun k => { k with waiting := if k.waiting.contains sc.toNat then k.waiting else k.waiting ++ [sc.toNat] }), false)

/-- The two digests of an output chain: over the bytes read from the host, as far as they were sent, and over the bytes sent (R201, R229). -/
def Chain.outputSame (c : Chain) : Bool := digest 0 ((c.landed.flatMap (·.2)).take c.sent) == c.egress

/-- The data chain of plain input has ended: its digests are compared after its last descriptor, or at once when none is left (R229). False when they
differ. -/
def State.compareInput (s : State) (sc : SC) (p : Prog) : State × Bool :=
  let (s, left) := s.markLast p.xfer
  if left then (s.modXfer sc p.xfer (fun q => { q with compare := q.compare ++ [q.ingress] }), true)
  else (s, ((s.progX? sc p.xfer).map (fun q => q.ingress == q.egress)).getD true)

/-- The write side of a chain ends: remainders of its ranges or, in column order, of its streams, then the CRC block, which keeps the engine until it is
written; the comparisons of R229 and R239. Untrusted data, and a command never sent, write no CRC block (R237). False when a comparison fails. -/
def State.finishWrites (s : State) (sc : SC) (trusted : Bool) : State × Bool :=
  match s.prog? sc with
  | none => (s, true)
  | some p =>
    match p.chain with
    | none => (s, true)
    | some c =>
      let s := s.dropPieces c.unrouted
      let mps := (s.host (hostOf p.start.tenant)).mps
      match c.col with
      | none =>
        let (s, _) := State.emitChunks (piecesLen c.stream.pend + 1) s sc p.xfer mps c.stream none true
        let s := s.modChain sc (fun c => { c with unrouted := [], stream := {} })
        if c.input then s.compareInput sc p else (s, c.outputSame)
      | some col =>
        let (s, sts) := ((List.range col.streams.length).zip col.streams).foldl (fun (r : State × List Stream) (st : Nat × Stream) =>
          let (s, st) := State.emitChunks (piecesLen st.2.pend + 1) r.1 sc p.xfer mps st.2 (some (st.1, col.engine)) true
          (s, r.2 ++ [st])) (s, [])
        let same := sts.all (fun st => ~~~st.crc == crc32c st.sent) &&
          digest 0 (joinColumns col.map (2 * col.pos + 2) 0 (sts.map (·.sent))) == col.ingress
        let blockBytes := sts.flatMap (fun st => le 4 (crc32c st.sent).toNat)
        let s := s.modChain sc (fun c => { c with unrouted := [], col := none })
        if trusted && same && c.cmdSent then
          let (s, e) := s.keepEngine sc
          (State.writeOwn 64 s sc p.xfer (col.base + col.map.crcoff.toNat) blockBytes e, same)
        else (s.releaseEngine sc, same)

/-! ### Output (R186, R187, R245, R269) -/

/-- The host read that a descriptor of KIND 1 makes: rounded outward to 64-byte boundaries (R245). -/
def roundedRead (addr len : Nat) : Nat × Nat :=
  let a := addr / 64 * 64
  (a, (addr + len + 63) / 64 * 64 - a)

/-- The next piece to read of ranges, `o` bytes into them: within one range, one buffer, one 4 KiB page, one Max_Read_Request_Size (R221, R245, R269). -/
def nextOfRanges (mrrs : Nat) : List (Nat × Nat) → Nat → Option (Nat × Nat)
  | [], _ => none
  | r :: rs, o =>
    if o < r.2 then
      let a := r.1 + o
      let k := min (min (r.2 - o) 2048) (4096 - a % 4096)
      some (a, if mrrs < (roundedRead a k).2 then max 1 (mrrs - a % 64) else k)
    else nextOfRanges mrrs rs (o - r.2)

/-- The next output of a chain to read: its part, the offset in it, the range. -/
def nextOutput (c : Chain) (mrrs : Nat) : Option (Part × Nat × Nat × Nat) :=
  match partAt c.parts c.nextRead 0 0 with
  | none => none
  | some (part, _, lo) => (nextOfRanges mrrs part.segs (c.nextRead - lo)).map (fun r => (part, c.nextRead - lo, r.1, r.2))

/-- Two ranges touch a page in common. -/
def pagesMeet (a b : Nat × Nat) : Bool := 0 < b.2 && decide (a.1 / 4096 ≤ (b.1 + b.2 - 1) / 4096) && decide (b.1 / 4096 ≤ (a.1 + a.2 - 1) / 4096)

/-- An earlier host write of the execution to a page of the range that has not been read back (R187): its number. -/
def pageBlock (p : Prog) (addr len : Nat) : Option Nat :=
  ((p.pages.filter (fun x => p.provenW < x.2 && decide (addr / 4096 ≤ x.1) && decide (x.1 ≤ (addr + len - 1) / 4096))).map (·.2)).head?

/-- The host ranges that a chain's input goes to. -/
def Chain.inputRanges (c : Chain) : List (Nat × Nat) :=
  match c.col with
  | some k => colRanges k.map k.base 0 (c.total / k.map.reclen) true
  | none => if c.input then c.parts.flatMap (·.segs) else []

/-- The parts that output may be read ahead for: those of the data steps up to 8 steps beyond the step being served, each with the host ranges of the
input steps before it (R164, R186, R187). The walk ends at a step not yet read, a HOLD, a WAIT-TOKEN, the step after a GUARD step, a step that a check
would fail, a step whose ranges are not known (its segment list or column map has not been read), and where the flow does not go on in sequence. `chain`:
the walk is at a continuation step, of an input chain or not. -/
def State.aheadFrom (s : State) (p : Prog) : Nat → W64 → Option Bool → List (Nat × Nat) → List (Part × List (Nat × Nat))
  | 0, _, _, _ => []
  | f + 1, a, chain, before =>
    match p.stepAt a with
    | none => []
    | some w =>
      let o := opOf w.op
      let input := chain.getD o.isInput
      let bad := match chain with
        | some i => (earlyContCheck i false w).isSome || w.fcolumn
        | none => (earlyCheck w).isSome || w.fhold
      if bad || (chain.isNone && (o == .go || o == .wait || o == .reserved)) then []
      else
        let device := chain.isSome || o.isDevice
        let next := fun (before : List (Nat × Nat)) =>
          if device && w.flink then State.aheadFrom s p f (a + 16) (some input) before
          else if (device && w.fguard) || !w.fchain then []
          else State.aheadFrom s p f (a + 16) none before
        if !device then next (if o == .mark then before ++ [(w.addr, 8)] else before)
        else if w.findir || w.fcolumn || (s.rangeBad p.start.tenant w none []).isSome then []
        else if input then next (before ++ partSegs w none)
        else if w.count = 0 then next before
        else ({ step := a, count := w.count, skip := false, segs := partSegs w none }, before) :: next before

/-- Where the walk of the lookahead begins, and the parts it finds. -/
def State.aheadParts (s : State) (p : Prog) : List (Part × List (Nat × Nat)) :=
  match p.phase with
  | .running | .slotWait _ | .pathWait _ =>
    (match p.chain with
      | none => if p.pass == some p.flow || ((p.stepAt p.flow).map (·.fhold)) != some true then s.aheadFrom { p with groups := p.groups } 9 p.flow none [] else []
      | some c =>
        let n := (p.at1 + 144 - (c.last + 16)).toNat / 16
        if 9 < n then []
        else if !c.whole then s.aheadFrom p n (c.last + 16) (some c.input) c.inputRanges
        else if c.guard || !c.chain then []
        else s.aheadFrom p n (c.last + 16) none c.inputRanges)
  | _ => []

/-- Output read ahead for steps that the flow does not reach is discarded (R188). -/
def State.dropAhead (s : State) (l : List Ahead) : State := s.dropPieces (l.flatMap (fun a => a.staged.map (·.2)))

/-- The lookahead follows the flow: what was read for steps no longer ahead of it is discarded, and further steps join (R186, R188). -/
def State.planAhead (s : State) (sc : SC) : State :=
  match s.prog? sc with
  | none => s
  | some p =>
    let parts := s.aheadParts p
    let kept := p.ahead.filter (fun a => parts.any (fun x => { x.1 with passage := a.part.passage } == a.part))
    let gone := p.ahead.filter (fun a => !kept.contains a)
    let fresh := (parts.zip (List.range parts.length)).map (fun x =>
      match kept.find? (fun a => a.part.step == x.1.1.step) with
      | some a => { a with before := x.1.2 }
      | none => { part := { x.1.1 with passage := p.passage + x.2 }, before := x.1.2 : Ahead })
    (s.dropAhead gone).modProg sc (fun p => { p with ahead := fresh, passage := p.passage + parts.length })

/-- What has been read ahead for a step that the flow reaches: its part; none when nothing has been. -/
def Prog.aheadFor (p : Prog) (part : Part) : Option Ahead := p.ahead.find? (fun a => { part with passage := a.part.passage } == a.part)

/-- A part joins the chain, with what was read ahead for it; the read goes on behind it when every byte before it has been asked for (R149, R186). -/
def State.joinPart (s : State) (sc : SC) (part : Part) : State :=
  match s.prog? sc with
  | none => s
  | some p =>
    let a : Ahead := match p.aheadFor part with
      | some a => a
      | none => { part := { part with passage := p.passage } }
    (s.modProg sc (fun p => { p with
      ahead := p.ahead.filter (fun x => x.part.step != part.step), passage := p.passage + 1 })).modChain sc (fun c =>
        let lo := c.total
        { c with
          parts := c.parts ++ [a.part]
          nextRead := if c.nextRead = lo then lo + a.asked else c.nextRead
          redo := c.redo ++ a.redo.map (fun x => (lo + x.1, x.2))
          staged := a.staged.foldl (fun t x => tset t (lo + x.1) x.2) c.staged
          landed := a.landed.foldl (fun t x => tset t (lo + x.1) x.2) c.landed })

/-- Output asked of the host and not yet sent, for the 1 MiB of R186. -/
def Prog.unsent (p : Prog) : Nat :=
  ((p.chain.map (fun c => c.nextRead - c.sent)).getD 0) + p.ahead.foldl (fun n a => n + a.asked) 0

/-- The chain's next read lies in the step that the unit is being served. -/
def Chain.readsServed (c : Chain) : Bool :=
  match partAt c.parts c.moved 0 0 with
  | some (part, _, lo) => decide (c.nextRead < lo + part.count)
  | none => false

/-- The next read of output that is allowed: its descriptor. Ahead of the step being served nothing is read while lookahead is stopped or the port
stalls (R186, R282). The needed reads wait for the read-backs of R187 too, so that what was written is what is read (DEDUCED, log 124). -/
def State.nextRead (s : State) (sc : SC) (p : Prog) : Option Desc :=
  let mrrs := (s.host (hostOf p.start.tenant)).mrrs
  let stopped := s.data.lookStop || (p.path.map (fun x => (s.port x.port).stall)).getD false
  let ok := fun (need : Bool) (before : List (Nat × Nat)) (part : Part) (o a k : Nat) =>
    if Config.lookaheadBytes < p.unsent + k || (pageBlock p a k).isSome || before.any (pagesMeet (a, k)) then none
    else some ({ kind := 1, tenant := p.start.tenant, pasid := s.pasidOf p.start.tenant, addr := a, len := k, sc := sc, xfer := p.xfer,
                 step := part.step, offset := o, passage := part.passage, need := need } : Desc)
  match p.chain.bind (fun c => if c.output then (nextOutput c mrrs).map (fun x => (c, x)) else none) with
  | some (c, part, o, a, k) =>
    if stopped && !c.readsServed then none else ok (decide (c.nextRead < c.wanted)) [] part o a k
  | none =>
    if stopped then none
    else
      match p.ahead.find? (fun a => decide (a.asked < a.part.count)) with
      | some x => (nextOfRanges mrrs x.part.segs x.asked).bind (fun r => ok false x.before x.part x.asked r.1 r.2)
      | none => none

/-- A read is noted as asked for, in the chain or ahead of it. -/
def State.noteRead (s : State) (sc : SC) (d : Desc) : State :=
  s.modProg sc (fun p =>
    if p.ahead.any (fun a => a.part.step == d.step) then
      { p with ahead := p.ahead.map (fun a => if a.part.step == d.step then { a with asked := a.asked + d.len } else a) }
    else { p with chain := p.chain.map (fun c => { c with nextRead := c.nextRead + d.len }) })

/-- Output is read ahead of the unit's request, as far as R186, R187 and R282 allow. -/
def State.readOutput : Nat → State → SC → State
  | 0, s, _ => s
  | f + 1, s, sc =>
    match s.prog? sc with
    | none => s
    | some p =>
      match s.nextRead sc p with
      | none => s
      | some d => State.readOutput f ((s.noteRead sc d).queueDesc d) sc

/-- The reads that failed ahead of need and whose bytes the unit now asks for are made again (R186). -/
def State.redoOutput (s : State) (sc : SC) : State :=
  match (s.prog? sc).bind (·.chain) with
  | none => s
  | some c =>
    let (now, later) := c.redo.partition (fun d => d.1 < c.wanted)
    now.foldl (fun s d => s.queueDesc { d.2 with need := true }) (s.modChain sc (fun c => { c with redo := later }))

/-- The output of a read has landed: in the chain's place for it, or ahead of the flow; of no use where the flow has left the step (R186, R188). -/
def State.landOutput (s : State) (d : Desc) (piece : Piece) : State :=
  match s.prog? d.sc with
  | none => s.dropRef piece.buf
  | some p =>
    let mine := fun (x : Part) => x.step == d.step && x.passage == d.passage
    if p.xfer != d.xfer then s.dropRef piece.buf
    else if p.ahead.any (fun a => mine a.part) then
      s.modProg d.sc (fun p => { p with ahead := p.ahead.map (fun a =>
        if mine a.part then { a with staged := tset a.staged d.offset piece, landed := tset a.landed d.offset d.bytes } else a) })
    else
      match p.chain.bind (fun c => c.placeOf mine) with
      | some lo => s.modChain d.sc (fun c => { c with
          staged := tset c.staged (lo + d.offset) piece, landed := tset c.landed (lo + d.offset) d.bytes })
      | none => s.dropRef piece.buf

/-- A read of output has failed: its offset in the chain when the unit asks for its bytes now, so that the failure counts; otherwise the bytes are read
again when it does (R186). -/
def State.missOutput (s : State) (d : Desc) : State × Option W64 :=
  match s.prog? d.sc with
  | none => (s, none)
  | some p =>
    let mine := fun (x : Part) => x.step == d.step && x.passage == d.passage
    if p.xfer != d.xfer then (s, none)
    else if p.ahead.any (fun a => mine a.part) then
      (s.modProg d.sc (fun p => { p with ahead := p.ahead.map (fun a => if mine a.part then { a with redo := a.redo ++ [(d.offset, d)] } else a) }), none)
    else
      match p.chain.bind (fun c => (c.placeOf mine).map (fun lo => (c, lo))) with
      | some (c, lo) =>
        if d.need || lo + d.offset < c.wanted then (s, some d.step)
        else (s.modChain d.sc (fun c => { c with redo := c.redo ++ [(lo + d.offset, d)] }), none)
      | none => (s, none)

/-- Staged output that the unit has asked for goes, in order, to the data-class queue, a frame a piece (R265, R269, R282). -/
def State.feed : Nat → State → SC → State
  | 0, s, _ => s
  | f + 1, s, sc =>
    match s.prog? sc with
    | none => s
    | some p =>
      match p.chain, p.path with
      | some c, some x =>
        match c.tag, tfind c.staged c.queued with
        | some g, some piece =>
          match tfind (s.port x.port).exch g.toNat with
          | none => s
          | some e =>
            if c.queued < c.wanted then
              let k := min piece.bytes.length (c.wanted - c.queued)
              let b := piece.bytes.take k
              let cut := decide (k < piece.bytes.length)
              let s := if cut then s.addRef piece.buf else s
              let fr := exchFrame { blank 2 with
                len := BitVec.ofNat 12 k, seq := BitVec.ofNat 16 e.txSeq, offset := BitVec.ofNat 32 c.queued, payload := b } g e
              let s := s.modChain sc (fun c => { c with
                queued := c.queued + k
                staged := if cut then
                    tset (tdel c.staged c.queued) (c.queued + k) { piece with off := piece.off + k, bytes := piece.bytes.drop k }
                  else tdel c.staged c.queued })
              let s := s.modPort x.port (fun q => { q with
                exch := tupd q.exch g.toNat (fun e => { e with txSeq := e.txSeq + 1 })
                dataQ := q.dataQ ++ [⟨fr, some g, [{ piece.run with len := k }]⟩] })
              State.feed f s sc
            else s
        | _, _ => s
      | _, _ => s

end Sys2Proof.Machine
end

