-- ==== Sys2Proof/Machine/Program.lean ====
section
/-! DEFINITION. Machine/Program.lean: the life of a channel program (R179-R212): arrival at a step, paths and retries, tokens, holds,
ending, read-back and completion. -/

namespace Sys2Proof.Machine

open Sys2Proof

/-! ### Completion codes (R18) -/

def cOk : Byte := 0x00
def cOkResidual : Byte := 0x01
def cProgress : Byte := 0x02
def cAbortedReset : Byte := 0x08
def cAbortedDomain : Byte := 0x09
def cAbortedPower : Byte := 0x0A
def cMalformed : Byte := 0x10
def cStepCheck : Byte := 0x11
def cZeroCount : Byte := 0x12
def cAddressCheck : Byte := 0x13
def cTokenRank : Byte := 0x14
def cFogBound : Byte := 0x18
def cUnitCheck : Byte := 0x20
def cPathLost : Byte := 0x21
def cLinkTimeout : Byte := 0x22
def cIdentity : Byte := 0x23
def cIntegrity : Byte := 0x30
def cBalance : Byte := 0x31
def cInternal : Byte := 0x3F

/-- The step offset of COUNT (R208). -/
def stepOffset (program : W64) (step : Option W64) : W16 :=
  match step with
  | none => 0x8000
  | some a =>
    let d := (a - program).toInt / 16
    if -32767 ≤ d && d ≤ 32767 then BitVec.ofInt 16 d else 0x8000

/-- What the final completion says (R208). -/
def finalCpl (p : Prog) (e : Ending) : Cpl :=
  { sq := p.start.sq, entry := p.start.entry, sc := 0, code := e.code
    detail := BitVec.ofNat 16 (p.s.toNat + 256 * e.reason.toNat)
    count := if e.code = cOkResidual then BitVec.ofNat 16 e.residual else stepOffset p.start.program e.step
    digest := p.digest, skipped := p.skipped, offset := stepOffset p.start.program e.step }

/-- What a PROGRESS or hold report says (R159, R165, R208). -/
def reportCpl (p : Prog) (r : Report) : Cpl :=
  { sq := p.start.sq, entry := p.start.entry, sc := 0, code := cProgress
    detail := BitVec.ofNat 16 (r.s.toNat + 256 * bnat r.hold), count := stepOffset p.start.program (some r.step)
    digest := r.digest, skipped := p.skipped }

/-! ### Read-back (R199, R200) -/

/-- How many of its host writes the program must see read back now: all at an ending, a hold or a post, those before a report, those to
the pages of a chain's output that waits (R159, R165, R172, R187, R199). -/
def rbTarget (p : Prog) (mrrs : Nat) : Option Nat :=
  let hold := match p.phase with
    | .holding => true
    | .closing => true
    | _ => false
  if hold || p.postWait then some p.queuedW
  else
    match p.reports with
    | r :: _ => some r.need
    | [] =>
      match p.chain with
      | some c => if c.output then (nextOutput c mrrs).bind (fun r => pageBlock p r.2.2.1 r.2.2.2) else none
      | none => none

/-- The program has ended, and the read-back of R199 has still to follow its last step's ending (R32). -/
def Prog.rbLeft (p : Prog) : Bool := p.phase == .closing && !p.rbFinal && p.lastDw.isSome

/-- The read-back of a program is issued, once the writes it must cover have been (R199, R200); it waits while the VF may make no
request (R194), and there is none for a transfer whose function is reset (R518). -/
def State.rbIssue (s : State) (sc : SC) (p : Prog) : State :=
  match rbTarget p (s.host (hostOf p.start.tenant)).mrrs, p.lastDw with
  | some n, some (a, b) =>
    if p.rb.isNone && !p.silent && (p.provenW < n || p.rbLeft) && n ≤ p.issuedW && s.vfMaster p.start.tenant then
      (s.modXfer sc p.xfer (fun q => { q with rb := some ⟨q.issuedW, a, b, p.phase == .closing⟩ })).sendRead (hostOf p.start.tenant)
        (s.pasidOf p.start.tenant) (BitVec.ofNat 64 a) 4 (.readback sc)
    else s
  | _, _ => s

def State.rbKick (s : State) (sc : SC) : State := (s.sub sc).progs.foldl (fun s p => s.rbIssue sc p) s

/-- Output goes on as far as it can: reads ahead of the flow and repeated reads, the read-back that a read waits for (R187), frames. -/
def State.pushOutput (s : State) (sc : SC) : State :=
  let s := (State.readOutput 1024 ((s.planAhead sc).redoOutput sc) sc).rbKick sc
  match s.prog? sc with
  | some p => s.feed (((p.chain.map (fun c => c.staged.length)).getD 0) + 1) sc
  | none => s

/-! ### Reports (R130, R159, R211) -/

/-- The reports of a program whose read-back has returned are posted, or dropped with SKIPPED (R130, R159). -/
def State.postReports : Nat → State → SC → Nat × Nat → State
  | 0, s, _, _ => s
  | f + 1, s, sc, x =>
    match s.progX? sc x with
    | none => s
    | some p =>
      match p.reports with
      | [] => s
      | r :: _ =>
        if r.need ≤ p.provenW && s.vfMaster p.start.tenant && ((s.sub sc).progs.head?.map (·.xfer)) == some x then
          match s.sq? p.start.tenant p.start.sq with
          | none => s
          | some k =>
            let (s, ok) := s.writeReport p.start.tenant k.cq { reportCpl p r with sc := sc } p.start.ref r.step
            State.postReports f (s.modXfer sc x (fun q => { q with reports := q.reports.drop 1, skipped := !ok })) sc x
        else s

/-! ### Closing (R199, R209-R211) -/

/-- The final completion may be written: every host write issued and read back, also after the ending (R32), no report left, the host can be written,
the journal has room (R199, R211, R493). -/
def State.finishable (s : State) (p : Prog) : Bool :=
  p.queuedW ≤ p.issuedW && p.queuedW ≤ p.provenW && !p.rbLeft && p.reports.isEmpty && s.vfMaster p.start.tenant && s.journalRoom p.start.tenant

/-- KIND 0x05 for an INTEGRITY ending (R209, R425). -/
def State.logIntegrity (s : State) (sc : SC) (p : Prog) (reason : Byte) (site : W32) : State :=
  s.logFault 5 site (whoVf p.start.tenant) (BitVec.ofNat 64 (reason.toNat + 256 * sc.toNat))

/-- Steps 5 to 8 of R199 for one program; the digests have been compared at the end of each data chain (R229). -/
def State.finish (s : State) (sc : SC) (p : Prog) (e : Ending) : State :=
  s.endEntry p.start.tenant p.start.sq p.start.batch { finalCpl p e with sc := sc } p.start.ref (e.step.getD 0)

/-- The reports of a subchannel's oldest program are posted (R210, R211). -/
def State.postOldest (s : State) (sc : SC) : State :=
  match (s.sub sc).progs.head? with
  | some p => State.postReports (p.reports.length + 1) s sc p.xfer
  | none => s

/-- The closing programs of a subchannel are finished in the order they began, as far as they can be (R210). -/
def State.tryFinish : Nat → State → SC → State
  | 0, s, _ => s
  | f + 1, s0, sc =>
    let s := s0.postOldest sc
    match (s.sub sc).closing with
    | [] => s
    | p :: _ =>
      if p.silent then State.tryFinish f (s.modSub sc (fun b => { b with closing := b.closing.drop 1 })) sc
      else
        match p.ending with
        | none => s
        | some e =>
          if s.safe then s
          else if s.finishable p then State.tryFinish f ((s.finish sc p e).modSub sc (fun b => { b with closing := b.closing.drop 1 })) sc
          else s

/-- Closing goes on: read-backs, reports, completions. -/
def State.closeKick (s : State) (sc : SC) : State :=
  State.tryFinish ((s.sub sc).closing.length + 1) (s.rbKick sc) sc

/-! ### Tokens (R170-R175) -/

/-- An event of the port of a subchannel's program (R326). -/
def State.fireProg (s : State) (sc : SC) (e : Nat) : State :=
  match (s.prog? sc).bind (·.path) with
  | some x => s.firePort x.port e
  | none => s

/-- A unit is given: to the head waiter, whose wait is satisfied, or to the value (R171). -/
def State.giveUnit (s : State) (n : Nat) : State :=
  match s.token? n with
  | none => s
  | some k =>
    match k.waiters with
    | [] => s.modToken n (fun k => { k with value := k.value + 1 })
    | w :: r =>
      let sc : SC := BitVec.ofNat 18 w
      ((s.modToken n (fun k => { k with waiters := r })).modProg sc (fun p => { p with phase := .satisfied })).fireProg sc 5

/-- The token a waiting program waits on: the one last named. -/
def Prog.waitToken (p : Prog) : Option Nat := p.named.head?

/-- A waiter that ends consumes no unit; one already given goes back to the token (R175). -/
def State.unwait (s : State) (sc : SC) (p : Prog) : State :=
  match p.phase, p.waitToken with
  | .waiting _, some n => (s.modToken n (fun k => { k with waiters := k.waiters.filter (fun w => w != sc.toNat) })).fireProg sc 5
  | .satisfied, some n => s.giveUnit n
  | _, _ => s

/-! ### Ending (R199, R209) -/

/-- The ending of a program that another is to end at its next step boundary: that ending stands for it, unless the data cannot be trusted (R97, R137,
R159, R209). -/
def Prog.endsWith (p : Prog) (e : Ending) : Ending :=
  match p.stop with
  | some x => if integrityCode e.code && x.code != cIntegrity then e else { x with step := x.step.orElse (fun _ => e.step) }
  | none => e

/-- The running program of a subchannel is ended: its exchange on the link with a reason, its staged output discarded, its step-cache slice emptied,
its write side flushed; it passes to the closing state (R179, R183, R188, R199, R209). -/
def State.endProgram (s : State) (sc : SC) (e : Ending) (reason : Byte) : State :=
  match s.prog? sc with
  | none => s
  | some p =>
    let e := p.endsWith e
    let (s, same) := (s.unwait sc p).finishWrites sc (!integrityCode e.code)
    let s := if same || integrityCode e.code then s else s.logIntegrity sc p 1 (seqSite ((p.path.map (·.port)).getD 0))
    let s := match p.chain, p.path with
      | some c, some x => match c.tag with
        | some g => s.abortExch x.port g reason
        | none => s
      | _, _ => s
    let s := match p.chain with
      | some c => s.dropPieces (c.staged.map (fun (x : Nat × Piece) => x.2))
      | none => s
    let s := (((s.dropAhead p.ahead).dropReads p.xfer).releaseEngine sc).emptySlice sc
    let e1 : Ending := if same || integrityCode e.code then e else { e with code := cIntegrity, reason := 1, residual := 0 }
    let s := s.modSub sc (fun b => { b with
      closing := b.closing ++ (b.prog.map (fun q => { q with
        phase := .closing, chain := none, ahead := [], seg := none, map := none, mapAsked := false, busy := none, tagWait := none, postWait := false
        guarded := none, stop := none, ending := some e1 })).toList
      prog := none })
    s.closeKick sc

/-- An ending for an INTEGRITY fault, with its fault-log entry (R209). -/
def State.endIntegrity (s : State) (sc : SC) (reason : Byte) (step : Option W64) (site : W32) : State :=
  match s.prog? sc with
  | none => s
  | some p => (s.logIntegrity sc p reason site).endProgram sc { code := cIntegrity, reason := reason, step := step } 2

/-- The step a program is at, for an ending: none when no step was reached (R521). -/
def Prog.here (p : Prog) : Option W64 := if p.reached then some ((p.chain.map (·.last)).getD p.flow) else none

/-- An exception of a program on its port is served by the port's pair, its action going to a unit (R291, R298); on a port that no pair serves the
program ends with INTERNAL (R281, R301). -/
def State.lampServe (s : State) (sc : SC) (u : ActUnit) : State :=
  match s.prog? sc with
  | none => s
  | some p =>
    match p.path with
    | none => s
    | some x =>
      if (s.port x.port).fences.contains .noPair then s.endProgram sc { code := cInternal, step := p.here } 2
      else s.lampAction (portSlot x.port) u

/-- The program goes on: it has not ended. -/
def State.goesOn (s : State) (sc : SC) : Bool := ((s.prog? sc).map (fun p => p.ending.isNone)).getD false

/-- The sequencer raises its exception on the program's port (R326, e = 0). -/
def State.seqException (s : State) (sc : SC) : State :=
  match (s.prog? sc).bind (·.path) with
  | some x => (s.firePort x.port 0).lampServe sc .writer
  | none => s

/-- A check of R178 fails at a step. -/
def State.stepCheck (s : State) (sc : SC) (step : W64) (n : Nat) : State :=
  (s.seqException sc).endProgram sc { code := cStepCheck, reason := BitVec.ofNat 8 n, step := some step } 2
def State.addressCheck (s : State) (sc : SC) (step : W64) (n : Nat) : State :=
  (s.seqException sc).endProgram sc { code := cAddressCheck, reason := BitVec.ofNat 8 n, step := some step } 2
def State.failStep (s : State) (sc : SC) (step : W64) (f : Failed) : State :=
  match f with
  | .check n => s.stepCheck sc step n
  | .zero => (s.seqException sc).endProgram sc { code := cZeroCount, step := some step } 2

/-! ### Reading steps (R161-R164, R185) -/

/-- A step group is asked of the host (R161). -/
def State.askGroup (s : State) (sc : SC) (p : Prog) (k : Nat) (arrived : Bool) : State :=
  if s.vfMaster p.start.tenant then
    (s.modProg sc (fun q => { q with asked := tset q.asked k arrived })).sendRead (hostOf p.start.tenant) (s.pasidOf p.start.tenant)
      (BitVec.ofNat 64 (64 * k)) 64 (.group sc (BitVec.ofNat 64 (64 * k)))
  else s

/-- The groups of the current step, in a data chain that being served, and of the next 8 are read ahead, within the windows and R163 (R164, R185). -/
def State.lookahead (s : State) (sc : SC) : State :=
  match s.prog? sc with
  | none => s
  | some p =>
    (List.range 3).foldl (fun s i =>
      let k := groupOf p.at1 + i
      match s.prog? sc with
      | none => s
      | some q =>
        if k ≤ groupOf (p.at1 + 128) && k < 2 ^ 58 && (tfind q.groups k).isNone && (tfind q.asked k).isNone &&
            decide (q.groups.length + q.asked.length < Config.groupsPerExecution) && s.inWindows q.start.tenant (64 * k) 64 then
          s.askGroup sc q k false
        else s) s

/-- An arrival at the step at `a`: true when its copy is there; else its group is asked for, or the program ends (R163, R164, R177). -/
def State.needStep (s : State) (sc : SC) (a : W64) : State × Bool :=
  match s.prog? sc with
  | none => (s, false)
  | some p =>
    let k := groupOf a
    if (tfind p.groups k).isSome then (s, true)
    else if !s.inWindows p.start.tenant (64 * k) 64 then (s.addressCheck sc a 1, false)
    else if Config.groupsPerExecution ≤ p.groups.length then (s.stepCheck sc a 10, false)
    else if (tfind p.asked k).isSome then (s, false)
    else (s.askGroup sc p k true, false)

/-- The flow arrives at its step: the step is asked for when it has no copy, and the groups after it are read ahead. -/
def State.arrive (s : State) (sc : SC) : State :=
  match s.prog? sc with
  | none => s
  | some p =>
    match p.phase with
    | .running => (((s.needStep sc p.flow).1).lookahead sc).pushOutput sc
    | _ => s

/-- A program that is to end at its next step boundary ends, at a step (R97, R137, R159). -/
def State.stopAt (s : State) (sc : SC) (e : Ending) (step : Option W64) : State :=
  s.endProgram sc { e with step := e.step.orElse (fun _ => step) } 2

/-- The flow moves to a step (R148, R153, R154); a stop that waits for a step boundary takes effect (R97, R137, R159). -/
def State.goTo (s : State) (sc : SC) (a : W64) : State :=
  match (s.prog? sc).bind (·.stop) with
  | some e => s.stopAt sc e ((s.prog? sc).bind (·.here))
  | none => (s.modProg sc (fun p => { p with flow := a, seg := none, map := none, pass := none })).arrive sc

/-- A step raises its report, when it asked for one and the program goes on: not where a stop ends it at this boundary (R147, R159). -/
def State.report (s : State) (sc : SC) (step : W64) : State :=
  if ((s.prog? sc).bind (·.stop)).isSome then s
  else (s.modProg sc (fun p => { p with reports := p.reports ++ [⟨step, false, p.digest, p.s, p.queuedW⟩] })).closeKick sc

/-- The program goes on at `a` after a step that may ask for a report. -/
def State.goOn (s : State) (sc : SC) (a step : W64) (post : Bool) : State :=
  (if post then s.report sc step else s).goTo sc a

/-- The residual of the last device status as an ending: OK-RESIDUAL at the short step (R150, R205, R521). -/
def Guarded.ending (g : Guarded) : Ending :=
  { code := cOkResidual, reason := BitVec.ofNat 8 g.pos, step := some g.short, residual := g.residual }

/-- The program ends at a step with OK, or, while S keeps LENGTH, with OK-RESIDUAL (R148, R151, R209). -/
def State.endOk (s : State) (sc : SC) (step : W64) : State :=
  s.endProgram sc (match (s.prog? sc).bind (fun p => if p.s.getLsbD 6 then p.residue else none) with
    | some g => g.ending
    | none => { code := cOk, step := some step }) 2

/-- A control step that went as R148 gives: on to the next step with CHAIN, else the end. -/
def State.controlEnd (s : State) (sc : SC) (w : StepW) : State :=
  match s.prog? sc with
  | none => s
  | some p => if w.fchain then s.goOn sc (p.flow + 16) p.flow w.fpost else s.endOk sc p.flow

/-! ### Device status (R150-R152) -/

/-- Status is normal (R151). -/
def statusNormal (s : Byte) : Bool := s.getLsbD 0 && !s.getLsbD 1 && !s.getLsbD 2 && !s.getLsbD 3 && !s.getLsbD 6

/-- The columns of R152 in which no TEST took the status: `chain` and the address to go on from are the guarded step's or the TEST's. -/
def State.unguarded (s : State) (sc : SC) (g : Guarded) (chain : Bool) (from1 : W64) : State :=
  match s.prog? sc with
  | none => s
  | some p =>
    let resid := if p.s.getLsbD 6 then s.endProgram sc g.ending 2
      else s.endProgram sc { code := cOk, step := some g.last } 2
    if p.s.getLsbD 1 then s.endProgram sc { code := cUnitCheck, step := some g.last } 2
    else if p.s.getLsbD 2 then resid
    else if p.s.getLsbD 6 then resid
    else if chain then s.goOn sc (from1 + 16) g.last g.post
    else resid

/-- A device step or data chain has ended with status (R148, R151, R152). -/
def State.deviceEnd (s : State) (sc : SC) (c : Chain) (st : Byte) (g : Guarded) : State :=
  let s := s.modProg sc (fun p => { p with s := st, controls := 0, chain := none, retries := 0, tried := [], busy := none, residue := some g })
  if statusNormal st then
    (if c.chain then s.goOn sc (c.last + 16) c.last c.post else s.endOk sc c.last)
  else
    let s := s.seqException sc
    if c.guard then (s.modProg sc (fun p => { p with guarded := some g })).goTo sc (c.last + 16)
    else s.unguarded sc g c.chain c.last

/-- The first step of a chain whose count is not used up after `n` bytes: position, step, bytes unused (R150). -/
def shortStep (l : List Part) (n i lo : Nat) : Option (Nat × W64 × Nat) :=
  match l with
  | [] => none
  | p :: r => if n < lo + p.count then some (i, p.step, lo + p.count - n) else shortStep r n (i + 1) (lo + p.count)

/-- The status of a chain is judged once the transfer has reached no unchecked step (R149, R150, R152). -/
def State.judge (s : State) (sc : SC) : State :=
  match s.prog? sc with
  | none => s
  | some p =>
    match p.chain with
    | none => s
    | some c =>
      match c.status with
      | none => s
      | some st =>
        let moved := c.moved
        if c.total ≤ moved && !c.whole then (s.needStep sc (c.last + 16)).1
        else
          let (s, same) := s.finishWrites sc true
          if !same then s.endIntegrity sc 1 (some c.last) (seqSite ((p.path.map (·.port)).getD 0))
          else
            let short := shortStep c.parts moved 0 0
            let len := c.overRun || short.isSome
            let st := (st &&& 0x1F) ||| (if len then 0x40 else 0)
            let st := if st.getLsbD 0 then st else st ||| 2
            -- An over-long transfer has residual 0: its short step is the chain's last (DESIGN CHOICE, log 126).
            let g : Guarded := match short with
              | some x => ⟨c.last, c.post, x.2.2, x.2.1, x.1⟩
              | none => ⟨c.last, c.post, 0, c.last, c.parts.length - 1⟩
            let s := s.dropPieces (c.staged.map (fun (x : Nat × Piece) => x.2))
            s.deviceEnd sc c st g

/-! ### Paths (R181, R182, R191, R192) -/

/-- What becomes of a start or a retry that finds no usable path (R182). -/
inductive NoPath where
  | wait | identity | lost
deriving DecidableEq, Repr

def State.noPath (s : State) (sc : SC) (mask : Byte) : NoPath :=
  let l := s.permitted sc mask
  if !l.isEmpty && l.all (fun x => (s.port x.port).fences.contains .identity) then .identity
  else if l.any (fun x => s.training x.port) then .wait
  else .lost

/-- The endings of R182. PATH-LOST names the paths on which the failing exchange was sent (R208). -/
def State.pathEnd (s : State) (sc : SC) : State :=
  match s.prog? sc with
  | none => s
  | some p =>
    if s.noPath sc p.start.mask = .identity then s.endProgram sc { code := cIdentity, step := p.here } 2
    else s.endProgram sc { code := cPathLost, reason := BitVec.ofNat 8 p.tried.length, step := p.here } 2

/-- Context slots used on a port, and whether a start may take one there (R180, R282). -/
def State.slotFree (s : State) (d : DPort) : Bool := decide (s.loadOf d none < Config.ctxSlots) && !(s.port d).stall

/-- The program that has waited longest for a context slot or a tag on a port (R180, R492). -/
def State.slotQueue (s : State) (d : DPort) : Option SC :=
  let since := fun (p : Prog) => match p.phase with
    | .slotWait t => some t
    | _ => p.tagWait
  let l := s.prog.subs.filterMap (fun b => match b.2.prog with
    | some p => if p.path.map (·.port) == some d then (since p).map (fun t => (b.1, t)) else none
    | none => none)
  (l.foldl (fun (b : Option (Nat × Nat)) x =>
    match b with
    | some y => if x.2 < y.2 then some x else b
    | none => some x) none).map (fun x => BitVec.ofNat 18 x.1)

/-- The chain's exchange is opened on the program's path: an engine for COLUMN, a tag, and the command queued (R231, R268, R269); without an
engine or a tag, or out of its turn, it waits (R492). Nothing new is opened under the fog signal (R140). -/
def State.openChainAs (s : State) (sc : SC) (turn : Bool) : State :=
  match s.prog? sc with
  | none => s
  | some p =>
    match p.chain, p.path with
    | some c, some x =>
      if c.tag.isSome || s.foggy then s
      else if c.col.isSome && 8 ≤ (s.pool (portDie x.port)).retired.length then s.endProgram sc { code := cInternal, step := p.here } 2
      else
        let (s, engine) := if c.col.isSome then s.claimEngine sc (portDie x.port) else (s, true)
        let wait := fun (s : State) => s.modProg sc (fun p => { p with tagWait := some (p.tagWait.getD s.clk.now) })
        if !engine then s
        else if !turn then wait s
        else
          let (s, g) := s.openExch x.port (.prog sc) x.addr (s.sub sc).devaddr c.input c.output false c.op
          match g with
          | none => wait s
          | some g =>
            let s := s.modProg sc (fun p => { p with tagWait := none, chain := p.chain.map (fun c => { c with tag := some g }) })
            s.pushOutput sc
    | _, _ => s

/-- It is the program's turn on a port. -/
def State.turnOf (s : State) (sc : SC) (d : DPort) : Bool :=
  match s.slotQueue d with
  | none => true
  | some x => x == sc

def State.openChain (s : State) (sc : SC) : State :=
  match (s.prog? sc).bind (·.path) with
  | some x => s.openChainAs sc (s.turnOf sc x.port)
  | none => s

/-- The program takes a path and its context slot there, or waits for one (R180, R181). From then on it has reached its step, whether or not the step's
group has been read (DESIGN CHOICE, log 127). -/
def State.takePath (s : State) (sc : SC) (x : Path) : State :=
  if s.slotFree x.port && (s.port x.port).headTag.isSome && s.turnOf sc x.port then
    let s := s.modProg sc (fun p => { p with path := some x, phase := .running, tagWait := none, reached := true })
    match (s.prog? sc).bind (·.chain) with
    | some _ => s.openChainAs sc true
    | none => s.arrive sc
  else s.modProg sc (fun p => { p with path := some x, phase := match p.phase with
    | .slotWait t => .slotWait t
    | _ => .slotWait s.clk.now })

/-- A path is chosen, or R182 applies. -/
def State.choose (s : State) (sc : SC) (avoid : Option Path) : State :=
  match s.prog? sc with
  | none => s
  | some p =>
    match s.choosePath sc p.start.mask avoid with
    | some x => s.takePath sc x
    | none =>
      match s.noPath sc p.start.mask with
      | .wait => s.modProg sc (fun p => { p with phase := .pathWait (s.clk.now + Config.secondTicks) })
      | _ => s.pathEnd sc

/-- An exchange has failed before acceptance: up to three retries, on another path where one is usable (R191). A program that is to end at its next step
boundary holds no exchange now, and ends here. -/
def State.retry (s : State) (sc : SC) (timedOut : Bool) : State :=
  match s.prog? sc with
  | none => s
  | some p =>
    let s := s.modProg sc (fun p => { p with timedOut := timedOut, chain := p.chain.map (fun c => { c with tag := none, wanted := 0 }) })
    match p.stop with
    | some e => s.stopAt sc e p.here
    | none =>
    if 3 ≤ p.retries then
      (if timedOut then s.endProgram sc { code := cLinkTimeout, reason := 1, step := p.here } 2
       else s.endProgram sc { code := cPathLost, reason := BitVec.ofNat 8 p.tried.length, step := p.here } 2)
    else (s.modProg sc (fun p => { p with retries := p.retries + 1 })).choose sc p.path

/-- An exchange of a program has failed: retried before acceptance, ended after it (R191, R192). -/
def State.exchFailed (s0 : State) (sc : SC) (accepted timedOut : Bool) : State :=
  let s := s0.lampServe sc .link
  if !accepted then s.retry sc timedOut
  else
    match s.prog? sc with
    | none => s
    | some p =>
      let s := s.modProg sc (fun p => { p with chain := p.chain.map (fun c => { c with tag := none, status := some 0 }) })
      if timedOut then s.endProgram sc { code := cLinkTimeout, reason := 2, step := p.here } 2
      else s.endProgram sc { code := cPathLost, reason := BitVec.ofNat 8 p.tried.length, step := p.here } 2

/-- A program that reaches a new exchange on a port whose domain is withdrawn moves to a usable permitted path, or ends with
ABORTED-DOMAIN-WITHDRAWN (R431). -/
def State.moveAway (s : State) (sc : SC) (d : DPort) : State :=
  match s.prog? sc with
  | none => s
  | some p =>
    match s.choosePath sc p.start.mask p.path with
    | some x => s.takePath sc x
    | none =>
      (s.onPower (fun w => { w with domains := tmod {} w.domains (portPP d) (fun n => { n with ended := n.ended + 1 }) })).endProgram sc
        { code := cAbortedDomain, reason := BitVec.ofNat 8 (portPP d), step := p.here } 6

/-- The command of a chain is sent on the program's path; a path that is no longer usable, or has left
its group (R100), fails it before acceptance (R191), and one whose
domain is being withdrawn is left (R431). -/
def State.sendChain (s : State) (sc : SC) : State :=
  match (s.prog? sc).bind (·.path) with
  | some x => if s.goesOnAt x && (s.groupPaths (s.sub sc).group).contains x then s.openChain sc else if !s.portDomainOn x.port then s.moveAway sc x.port else s.retry sc false
  | none => s

/-- A chain has run past its last count (R276): input is refused from there on; when all the output up to there has left, ABORT reason 1 ends
the exchange with S 0x41. -/
def State.overrun (s : State) (sc : SC) : State :=
  match s.prog? sc with
  | none => s
  | some p =>
    match p.chain, p.path with
    | some c, some x =>
      (match c.tag with
      | none => s
      | some g =>
        match tfind (s.port x.port).exch g.toNat with
        | none => s
        | some e =>
          if !c.whole then s
          else if c.input && c.total < e.rxBytes && e.refuse.isNone then
            let f := exchFrame { control 5 with offset := BitVec.ofNat 32 c.total } g e
            (s.modPort x.port (fun q => { q with
              exch := tupd q.exch g.toNat (fun e => { e with refuse := some c.total })
              controls := q.controls ++ [⟨f, some g, []⟩] })).modChain sc (fun c => { c with overRun := true })
          else if c.output && c.total < c.wanted && c.total ≤ c.sent &&
              !((s.port x.port).dataQ.any (fun i => i.tag == some g)) then
            (s.abortExch x.port g 1).modChain sc (fun c => { c with tag := none, overRun := true, status := some 1 })
          else s)
    | _, _ => s

/-- The chain stands at the boundary of its continuation step (R149). -/
def Chain.atCont (c : Chain) : Bool := !c.whole && decide (c.total ≤ c.moved)

/-- The transfer of a chain goes on: its continuation step is asked for once the steps before it have moved, and a status that waits is judged
(R149, R150); a stop takes effect at the boundary of a continuation step (R97, R137, R209). -/
def State.chainOn (s0 : State) (sc : SC) : State :=
  let s := (s0.lookahead sc).overrun sc
  match s.prog? sc with
  | none => s
  | some p =>
    match p.chain with
    | none => s
    | some c =>
      match p.stop with
      | some e =>
        if c.atCont then s.stopAt sc e (some c.last) else s.judge sc
      | none => (if c.atCont then (s.needStep sc (c.last + 16)).1 else s).judge sc

/-! ### Quiet (R196) -/

/-- The four conditions of R196. -/
def State.quietNow (s : State) (t : Tenant) : Bool :=
  let subs := s.prog.subs.filter (fun b => b.2.tenant == t && b.2.named)
  let isWaiting := fun (b : Sub) => match b.prog with
    | some p => (match p.phase with
      | .waiting _ => true
      | _ => false)
    | none => false
  subs.any (fun b => isWaiting b.2) &&
    subs.all (fun b => b.2.closing.isEmpty && (isWaiting b.2 || (b.2.prog.isNone && b.2.starts.isEmpty))) &&
    (List.range 8).all (fun q => match tfind s.queues.sqs (8 * t.toNat + q) with
      | some k => k.fetch == k.tail
      | none => true)

/-- Quiet begins when all conditions hold and ends when any fails (R196). -/
def State.requiet (s : State) : State :=
  s.onQueues (fun q => { q with tenants := q.tenants.map (fun x =>
    (x.1, { x.2 with quiet := if s.quietNow (BitVec.ofNat 12 x.1) then some (x.2.quiet.getD s.clk.now) else none })) })

end Sys2Proof.Machine
end

