-- ==== Sys2Proof/Machine/Ports.lean ====
section
/-! DEFINITION. Machine/Ports.lean: what happens to a device port as a whole (R101-R104, R258-R261, R278, R281): retrains, fences,
lanes switched on and off, identify exchanges, HELLO. -/

namespace Sys2Proof.Machine

open Sys2Proof

/-! ### Exchanges ended by the port -/

/-- `f` for every open exchange of a port. -/
def State.allExch (s : State) (d : DPort) (f : State → Tag → State) : State :=
  (s.port d).exch.foldl (fun s x => f s (BitVec.ofNat 12 x.1)) s

/-- An identify exchange is gone and its path is not being asked any more. -/
def State.identDrop (s : State) (d : DPort) (a : Byte) : State :=
  s.modPath d a (fun x => { x with probing := false, answer := [] })

/-- An exchange is lost with the link: no frame ends it, and its tag returns at the next HELLO (R261, R280). -/
def State.loseExch (s : State) (d : DPort) (g : Tag) : State :=
  match tfind (s.port d).exch g.toNat with
  | none => s
  | some e =>
    let s := ((s.unqueue d g).dropKept e).modPort d (fun p => { p with
      exch := tdel p.exch g.toNat
      quar := tset p.quar g.toNat ⟨e.gen, e.cuaddr, e.devaddr, 3, 0, none, true, true⟩ })
    let s := s.dropAcct 9 (4096 * d.val + g.toNat)
    match e.owner with
    | .prog sc => s.exchFailed sc e.accepted false
    | .ident a => s.identDrop d a

/-- An exchange is aborted and its owner meets path loss (R281, PORT-FENCE). -/
def State.abortPath (s : State) (d : DPort) (reason : Byte) (g : Tag) : State :=
  match tfind (s.port d).exch g.toNat with
  | none => s
  | some e =>
    let s := s.abortExch d g reason
    match e.owner with
    | .prog sc => s.exchFailed sc e.accepted false
    | .ident a => s.identDrop d a

/-- An exchange is aborted and its program ends with a code of its own; an identify exchange is dropped (R281). -/
def State.abortEnd (s : State) (d : DPort) (reason code detail : Byte) (g : Tag) : State :=
  match tfind (s.port d).exch g.toNat with
  | none => s
  | some e =>
    match e.owner with
    | .prog sc =>
      s.endProgram sc { code := code, reason := detail, step := (s.prog? sc).bind (·.here) } reason
    | .ident a => (s.abortExch d g reason).identDrop d a

/-! ### Retrain (R260, R261) -/

/-- The link drops to block lock: a retrain where the port was UP, or where a frame came beyond its credits (R264, R271); exchanges are lost, tags wait
for the next HELLO. -/
def State.retrainBy (s : State) (d : DPort) (beyond : Bool) : State :=
  let was := (s.port d).link
  let s := s.modPort d (fun p => { p with
    link := if p.txOn then (if was = 5 then 6 else 2) else p.link
    locked := false, helloSeen := false, helloDue := false, helloAt := none, idLeft := []
    echoDue := false, creditDue := false, waitSince := none, stall := p.stall
    retrains := if was = 5 || beyond then satInc p.retrains else p.retrains
    retrainDue := false, early := []
    controls := p.controls.filter (fun x => x.tag.isNone)
    quar := p.quar.map (fun x => (x.1, { x.2 with expires := none, sent := true, retired := true })) })
  let s := (s.allExch d (fun s g => s.loseExch d g)).dropOwed d
  let s := s.firePort d 1
  if was = 5 then (s.logLink d 0 0 0).portEvent d else s

def State.retrain (s : State) (d : DPort) : State := s.retrainBy d false

/-- A retrain cause of the PCS or of silence: a frame that reached the port in the same cycle is processed first (R261, R275). -/
def State.retrainCause (s : State) (d : DPort) : State :=
  if (s.waitingFrames d).isEmpty then s.retrain d else s.modPort d (fun p => { p with retrainDue := true })

/-- A port that holds 1,024 tags in quarantine or retired retrains (R260, R274). -/
def State.quarCheck (s : State) : State :=
  s.ports.ports.foldl (fun s x =>
    if h : x.1 < 96 then
      let d : DPort := ⟨x.1, h⟩
      if (s.port d).link = 5 && decide (Config.quarantineLimit ≤ (s.port d).quar.length) then s.retrain d else s
    else s) s

/-! ### Fences and lanes (R281, R519) -/

/-- A port is named by a path of the list (R259). -/
def State.portNamed (s : State) (d : DPort) : Bool := s.list.groups.any (fun g => g.2.paths.any (fun x => x.port == d))

/-- The addresses that the list names on a port, each once (R101). -/
def State.namedAddrs (s : State) (d : DPort) : List Byte :=
  (s.list.groups.flatMap (fun g => (g.2.paths.filter (fun x => x.port == d)).map (·.addr))).foldl
    (fun l a => if l.contains a then l else l ++ [a]) []

/-- The control unit that a path reaches (R91). -/
def State.pathCu (s : State) (d : DPort) (a : Byte) : Option (Nat × CuEntry) :=
  (s.list.groups.find? (fun g => g.2.paths.any (fun x => x.port == d && x.addr == a))).bind
    (fun g => (tfind s.list.cus g.2.cu).map (fun c => (g.2.cu, c)))

/-- The transmitter of a port goes off: its exchanges are lost, its link is down (R82, R281, R287). -/
def State.darken (s : State) (d : DPort) : State :=
  if (s.port d).txOn || (s.port d).link != 0 then
    let s := s.modPort d (fun p => { p with txOn := false, locked := false, helloSeen := false, helloDue := false, helloAt := none
                                            idLeft := [], link := 0, controls := [], retrainDue := false, early := [], echoDue := false, creditDue := false, waitSince := none
                                            quar := p.quar.map (fun x => (x.1, { x.2 with expires := none, sent := true, retired := true })) })
    ((s.allExch d (fun s g => s.loseExch d g)).dropOwed d).firePort d 1
  else s

/-- The cage of a port is populated and its module ready, its domain on, nothing keeps the lane dark (R259, R281). -/
def State.mayLight (s : State) (d : DPort) : Bool :=
  let p := s.port d
  let c := s.cage (portCage d)
  (tget {} s.list.cages (portCage d).val).state == 1 && c.powered && c.ready && s.portDomainOn d && !p.retired && s.portNamed d &&
    !(p.fences.any (fun x => x == .balance || x == .domain || x == .cageAbsent || x == .cageType || x == .cagePower))

/-- The transmitter of a lane goes on, and block lock is awaited (R259 step 4). -/
def State.light (s : State) (d : DPort) : State :=
  if s.mayLight d && !(s.port d).txOn then
    s.modPort d (fun p => { p with
      txOn := true, link := 2, fec := (tget {} s.list.cages (portCage d).val).fec.getLsbD (d.val % 8) })
  else s

/-- The eight ports of a cage. -/
def cagePorts (c : CageNum) : List DPort := (List.finRange 96).filter (fun d => portCage d == c)

/-- A fence is raised and reported (R103, R281). -/
def State.fence (s : State) (d : DPort) (c : FenceCause) (addr : Nat) (fwrev : W32) : State :=
  ((((s.addFence d c).logLink d 0 addr fwrev).portEvent d).firePort d 1)

/-! ### Broken accounts (R326, R414, R425) -/

/-- Difference of an instance's counters, as DETAIL[63:32] gives it (R425). -/
def acctDiff (a : Acct) : W32 := (a.debit - a.credit).setWidth 32

/-- A port of the module by its number. -/
def portNo (i : Nat) : DPort := ⟨i % 96, by omega⟩

/-- The port whose Lamp slot an instance of an account is held for (R326, R414): accounts 0x01, 0x02 and 0x04 by port, 0x03 by port after the shared
instance, 0x09 by exchange. -/
def slotOfAcct (a i : Nat) : Option DPort :=
  if a = 1 || a = 2 || a = 4 then some (portNo i)
  else if a = 3 && 1 ≤ i && i ≤ 96 then some (portNo (i - 1))
  else if a = 9 then some (portNo (i / 4096))
  else none

/-- Source 27 of the slot that an instance is held for. -/
def State.fireAcct (s : State) (a i : Nat) : State :=
  match slotOfAcct a i with
  | some d => s.fire ⟨1 + d.val / 24, by omega⟩ (32 * (d.val % 24 / 3) + 27)
  | none => s

/-- KIND 0x04 against the engine of an account, with the hub's event and the slot's (R326, R327, R425). -/
def State.logBalance (s : State) (a i : Nat) (x : Acct) (site : W32) : State :=
  ((s.fire 0 168).fireAcct a i).logFault 4 site whoNone (BitVec.ofNat 64 (a + 256 * i + 2 ^ 32 * (acctDiff x).toNat))

/-- A broken port account: the transmitter goes off, programs end with BALANCE-FENCE (R281, R414). -/
def State.balanceFencePort (s : State) (d : DPort) (account : Byte) : State :=
  let s := s.fence d .balance 0 0
  let s := s.allExch d (fun s g => s.abortEnd d 5 cBalance account g)
  s.darken d

/-! ### Identify exchanges (R101-R103, R278) -/

/-- Identify exchanges that have no exchange yet get one, as tags allow. -/
def State.kickIdents (s : State) (d : DPort) : State :=
  (s.namedAddrs d).foldl (fun s a =>
    let x := s.pathSt d a
    let open1 := (s.port d).exch.any (fun e => e.2.owner == .ident a)
    if x.probing && !open1 && !(s.port d).muted && !s.foggy && s.portDomainOn d then (s.openExch d (.ident a) a 0 true false true 0).1 else s) s

/-- An identify of an address begins (R101). -/
def State.startIdent (s : State) (d : DPort) (a : Byte) : State :=
  (s.modPath d a (fun x => { x with probing := true, retries := 0, answer := [], retryAt := none })).kickIdents d

/-- The port comes UP when every identify of its bring-up has ended (R259 step 6). -/
def State.upIfDone (s : State) (d : DPort) : State :=
  let p := s.port d
  if p.link = 4 && p.idLeft.isEmpty then (s.modPort d (fun p => { p with link := 5 })).firePort d 1 else s

/-- The bytes of an identity that R89 compares. -/
def identityMatches (e : CuEntry) (id : Bytes) : Bool :=
  let n := if e.matchMode = 1 then 8 else 24
  id.take n == e.identity.take n

/-- A mismatched identity: the whole port is fenced, its exchanges end with IDENTITY-MISMATCH (R102, R281). -/
def State.identityFence (s : State) (d : DPort) (a : Byte) (fwrev : W32) : State :=
  let s := s.modPath d a (fun x => { x with good := false, absent := false, fwrev := fwrev })
  let s := s.modPort d (fun p => { p with idLeft := [] })
  let s := s.fence d .identity a.toNat fwrev
  s.allExch d (fun s g => s.abortEnd d 5 cIdentity 0 g)

/-- FWREV goes into the subchannel records of the unit (R89). -/
def State.noteFwrev (s : State) (cu : Nat) (fwrev : W32) : State :=
  s.onProg (fun p => { p with subs := p.subs.map (fun b =>
    (b.1, if ((tfind s.list.groups b.2.group).map (·.cu)) == some cu then { b.2 with fwrev := fwrev } else b.2)) })

/-- An identify has ended, with 32 bytes of identity or with a failure (R102, R103, R278). -/
def State.identResult (s : State) (d : DPort) (a : Byte) (id : Option Bytes) : State :=
  let s := (s.modPath d a (fun x => { x with probing := false })).modPort d (fun p => { p with idLeft := p.idLeft.filter (· != a) })
  let s := s.firePort d 4
  let s := match id, s.pathCu d a with
    | _, none => s.onList (fun l => { l with paths := tdel l.paths (pathKey d a) })
    | some b, some (cu, e) =>
      let rev := u32 b 0x18
      let s := s.noteFwrev cu rev
      if identityMatches e b then
        (s.modPath d a (fun x => { x with good := true, absent := false, retryAt := none, fwrev := rev })).logLink d 0 a.toNat rev
      else s.identityFence d a rev
    | none, some _ =>
      (s.modPath d a (fun x => { x with good := false, absent := true, retryAt := some (s.clk.now + Config.fiveSecTicks) })).logLink d 0 a.toNat 0
  s.upIfDone d

/-- Every address that the list names on the port is asked (R101), where it is not being asked already; without one the port is UP. -/
def State.identifyPort (s : State) (d : DPort) : State :=
  let l := s.namedAddrs d
  let p0 := s.port d
  let s := s.modPort d (fun p => { p with idLeft := l })
  let open1 := fun (a : Byte) => p0.exch.any (fun e => e.2.owner == .ident a)
  let s := l.foldl (fun s a => s.modPath d a (fun x =>
    if open1 a then { x with good := false } else { x with probing := true, retries := 0, answer := [], retryAt := none, good := false })) s
  (s.kickIdents d).upIfDone d

/-! ### HELLO (R258) -/

/-- The HELLO field that the device does not accept: its byte offset, 0 when all are. -/
def helloRefused (fec : Bool) (f : Frame) : Nat :=
  let b := f.body
  if byteAt b 0 != 1 then 0x10
  else if byteAt b 1 != 1 then 0x11
  else if byteAt b 2 != BitVec.ofNat 8 (bnat fec) then 0x12
  else if (u16 b 4).toNat < 1 || 4096 < (u16 b 4).toNat then 0x14
  else if (u16 b 6).toNat < 1 || 4096 < (u16 b 6).toNat then 0x16
  else if (u16 b 8).toNat < 1 || 4096 < (u16 b 8).toNat then 0x18
  else 0

/-- Both credit counts start from a HELLO; the instances of accounts 0x01, 0x02 are zeroed and opened anew (R258, R418, R457). -/
def State.helloCredits (s : State) (d : DPort) (f : Frame) : State :=
  let dinit := (u16 f.body 4).toNat
  let cinit := (u16 f.body 6).toNat
  let s := s.modPort d (fun p => { p with
    dinit := BitVec.ofNat 32 dinit, dcumRx := BitVec.ofNat 32 dinit, ccumRx := BitVec.ofNat 32 cinit, dUsed := 0, cUsed := 0
    dcumTx := 1024, ccumTx := 256, dRecv := 0, cRecv := 0, dWait := 0, cWait := 0, waitSince := none, creditDue := false
    exmax := (u16 f.body 8).toNat })
  let s := (s.zeroAcct 1 d.val).zeroAcct 2 d.val
  (s.book 1 d.val (dinit + cinit : Nat)).book 2 d.val 1280

/-- Tags in quarantine and those of failed exchanges return to the free list (R261, R274). -/
def State.freeQuars (s : State) (d : DPort) : State :=
  (s.port d).quar.foldl (fun s x => s.quarFree d (BitVec.ofNat 12 x.1)) s

/-- The far end's HELLO is accepted: credits, tags, then IDENTIFY (R258, R261). -/
def State.helloAccepted (s : State) (d : DPort) (f : Frame) (again : Bool) : State :=
  let s := if again then s.allExch d (fun s g => s.loseExch d g) else s
  let s := (s.helloCredits d f).freeQuars d
  let s := s.modPort d (fun p => { p with
    link := 4, helloSeen := true, helloAt := none, helloDue := p.helloDue || again, lastRx := s.clk.now })
  s.identifyPort d

/-- A HELLO that is not accepted leaves the link down and fenced for 5 s (R258, R281); what IDENTIFY had opened ends without an ABORT. -/
def State.helloRefusal (s : State) (d : DPort) (field : Nat) : State :=
  let s := (s.allExch d (fun s g => s.loseExch d g)).dropOwed d
  let s := s.modPort d (fun p => { p with link := 2, helloSeen := false, helloDue := false, helloAt := none, idLeft := [], refusedAt := some (s.clk.now + Config.fiveSecTicks) })
  ((((s.addFence d .helloRefused).logLink d field 0 0).portEvent d).firePort d 1)

end Sys2Proof.Machine
end

