-- ==== Sys2Proof/Machine/Lamps.lean ====
section
/-! DEFINITION. Machine/Lamps.lean: which pair serves which ports (R29, R293-R302, R428, R429): loading, spares, takeover, retirement. -/

namespace Sys2Proof.Machine

open Sys2Proof

/-! ### Placement -/

/-- The Lamp cluster domain that holds pair `c` (R427): none for the Tender. -/
def pairDomain (c : PairNum) : Nat :=
  if c.val < 40 then 48 + 2 * (c.val / 10) + (if c.val % 10 < 4 || c.val % 10 = 8 then 0 else 1) else 60

/-- Channel die of a Lamp pair, held as 0-3. -/
def pairDie (c : PairNum) : Nat := c.val / 10

/-- The ports of slot `k` (R29). -/
def slotPorts (k : Nat) : List DPort := (List.finRange 96).filter (fun d => portSlot d == k)


/-- A pair is a free spare of a die (R29, R429, R482). -/
def State.freeSpare (s : State) (die : Nat) (c : PairNum) : Bool :=
  let p := s.pair c
  c.val < 40 && pairDie c == die && p.running && p.slot.isNone && !p.retired && !p.testing && s.domOn (pairDomain c)

/-- A pair that could serve the ports of pair `c`: of its own Lamp cluster domain, else another of the die (R29). -/
def State.spareFor (s : State) (c : PairNum) : Option PairNum :=
  let l := (List.finRange 41).filter (fun x => x != c && s.freeSpare (pairDie c) x)
  match l.find? (fun x => pairDomain x == pairDomain c) with
  | some x => some x
  | none => l.head?

/-- COREID (R293). -/
def State.coreId (s : State) (c : PairNum) : W32 :=
  if c.val < 40 then
    let base := match (s.pair c).slot with
      | some k => 3 * (k % 8)
      | none => 31
    BitVec.ofNat 32 (coreNumber c + 256 * base)
  else BitVec.ofNat 32 (128 + 256 * 31)

/-! ### Loading and resetting a pair (R303, R305, R306) -/

/-- The word of program memory at an address, 0x3FFF where the image uses none (R303). -/
def Pair.word (p : Pair) (a : BitVec 15) : BitVec 14 := tget 0x3FFF p.pmem a.toNat

/-- What a core's signature is formed over: G1-G15, the special registers, and the pipeline with the word at PC (R294). -/
def Pair.signed (p : Pair) : List Nat :=
  (List.range 15).map (fun i => (p.gr (BitVec.ofNat 4 (i + 1))).toNat) ++
    [p.fl.toNat, p.mh.toNat, p.ml.toNat, p.cs.toNat, p.cp.toNat, p.cm.toNat, p.trapw.toNat, p.trappc.toNat, p.trapfl.toNat, p.cause.toNat,
      p.trappr.toNat, p.cyc.toNat, p.cychi.toNat, p.tbhi.toNat, p.evcur.toNat, p.eccd.toNat, p.eccp.toNat, p.wdog.toNat] ++
    [p.pc.toNat, p.pr.toNat, p.prn, (p.word p.pc).toNat] ++ p.products.flatMap (fun x => [x.1, x.2.toNat])

/-- The 64-bit signature of a core (R294); `stages`: what its pipeline's stages hold besides. -/
def Pair.signature (p : Pair) (stages : List Nat) : W64 := Config.coreSignature (p.signed ++ stages)

/-- The program words of a release, in an image's section (R303, R466). -/
def imageTable (rel : W32) (tender : Bool) : Table (BitVec 14) :=
  (Config.imageWords rel tender).foldl (fun t x => tset t (x.1 % 32768) x.2) []

/-- A pair is loaded with a release and starts from reset, serving a slot or none (R29, R303). -/
def State.loadPair (s : State) (c : PairNum) (rel : W32) (slot : Option Nat) : State :=
  s.modPair c (fun p => { pmem := imageTable rel (c.val == 40), running := true, release := rel, slot := slot, retired := p.retired
                          failures := p.failures })

/-- A pair stops: it has no state until it is loaded again. -/
def State.stopPair (s : State) (c : PairNum) : State :=
  s.modPair c (fun p => { p with running := false, slot := none, waiting := false })

/-! ### Takeover (R297-R301) -/

/-- The event unit names pair `b` for every source that named pair `a`; what `a` had claimed is pending again (R297, R335). -/
def State.retarget (s : State) (a b : PairNum) : State :=
  let u := pairUnit a
  let nums := (List.range 257).filter (fun n => sourceReal u n)
  s.modEvu u (fun e =>
    let mine := nums.filter (fun n => e.pairOf u n == pairIndex a)
    let held := (e.holder.filter (fun (x : Nat × Nat) => x.2 == a.val)).map (fun (x : Nat × Nat) => x.1)
    { e with
      tgt := mine.foldl (fun t n => tset t n ((e.target u n &&& ~~~(0xF : W32)) ||| BitVec.ofNat 32 (pairIndex b))) e.tgt
      pend := held.foldl (fun t n => setBit t n true) e.pend
      act := held.foldl (fun t n => setBit t n false) e.act
      holder := held.foldl (fun t n => tdel t n) e.holder })

/-- Ports that no pair serves are fenced with CAUSE 9, and the vectors of R103 generated (R281, R301). -/
def State.noPairPorts (s : State) (k : Nat) : State :=
  (slotPorts k).foldl (fun s d =>
    if (s.port d).fences.contains .noPair then s else ((s.addFence d .noPair).logLink d 0 0 0).portEvent d) s

/-- A slot passes from one pair to another, with no failure of its own (R297 steps 2-5, R469, R481). -/
def State.handOver (s : State) (a b : PairNum) : State :=
  match (s.pair a).slot with
  | none => s
  | some k => ((s.retarget a b).modPair b (fun p => { p with slot := some k, waiting := false })).modPair a (fun p => { p with slot := none })

/-- The ports of a pair pass to a spare, which repeats the last action of the slot's exception log; or they go out of service (R29, R297, R298,
R301). -/
def State.takeover (s : State) (c : PairNum) : State :=
  match (s.pair c).slot with
  | none => s
  | some k =>
    match s.spareFor c with
    | some b => (s.handOver c b).takeAction k
    | none => (s.modPair c (fun p => { p with slot := none })).noPairPorts k

/-- A Lamp pair is retired: its ports pass on, and it is never loaded again (R300). -/
def State.retirePair (s : State) (c : PairNum) : State :=
  ((s.takeover c).stopPair c).modPair c (fun p => { p with retired := true, testing := false })

end Sys2Proof.Machine
end

