-- ==== Sys2Proof/Machine/Sites.lean ====
section
/-! DEFINITION. Machine/Sites.lean: units taken out of service (R249, R285, R411, R414, R416, R422): fences of movers, queues and tokens, the
safe state, and the action on a lasting site. -/

namespace Sys2Proof.Machine

open Sys2Proof

/-! ### Cage power (R259, R285, R286) -/

/-- PF vector 3, and vector 9 of each bound tenant with a subchannel moored on a port of the cage (R103). -/
def State.cageEvent (s : State) (c : CageNum) : State :=
  let ts := (s.queues.tenants.filter (fun x => x.2.binding.isSome)).map (fun x => BitVec.ofNat 12 x.1)
  (ts.filter (fun t => (cagePorts c).any (fun d => s.mooredOn t d))).foldl (fun s t => s.vector (.vf t) 9) (s.pfVector 3)

/-- KIND 0x08 against a cage, with a reading; where none was taken, the field is a free value (R425). -/
def State.logCage (s : State) (c : CageNum) (reading : Option W16) : State :=
  let r := (reading.getD (s.freeVal.setWidth 16)).toNat
  let s := if reading.isNone then s.useFree else s
  s.logFault 8 (cageSite c) whoNone (BitVec.ofNat 64 (c.val + 65536 * r))

/-- A fence on the eight ports of a cage, where one does not have it (R103). -/
def State.fenceCage (s : State) (c : CageNum) (f : FenceCause) : State :=
  if (cagePorts c).all (fun d => (s.port d).fences.contains f) then s
  else ((cagePorts c).foldl (fun s d => (s.addFence d f).firePort d 1) s).cageEvent c

/-- A cage waits for its module: LINK of the ports that a path names reads 1 (R289). -/
def State.awaitModule (s : State) (d : DPort) : State :=
  if s.portNamed d && s.portDomainOn d && !(s.port d).retired && (s.port d).link = 0 then s.modPort d (fun p => { p with link := 1 }) else s
/-- The cage fences lift themselves (R281): not those of a cage tripped or retired, which stand until its module is replaced, or for good (R422, R513). -/
def State.liftCage (s : State) (c : CageNum) : State :=
  if (s.cage c).tripped || (s.cage c).retired then s
  else
  (cagePorts c).foldl (fun s d => ((s.liftFence d .cageAbsent).liftFence d .cageType).liftFence d .cagePower) s

/-- A cage's power goes off: its lanes with it (R82, R285, R286). -/
def State.unpowerCage (s : State) (c : CageNum) : State :=
  if (s.cage c).powered then
    let s := (cagePorts c).foldl (fun s d => s.darken d) s
    (s.modCage c (fun g => { g with powered := false, ready := false, checked := false, failed := false, readyBy := none, recheckAt := none })).emit (.cageLowPower c)
  else s

/-- A cage's power goes on, its module reset is released: the module must answer and become ready in time (R259 steps 1-3). -/
def State.powerCage (s : State) (c : CageNum) : State :=
  if (s.cage c).retired || (s.cage c).tripped || (s.cage c).powered then s
  else
    let s := s.modCage c (fun g => { g with powered := true, checked := false, ready := false, failed := false
                                            readyBy := some (s.clk.now + Config.ms100Ticks + Config.cageReadyTicks) })
    let s := if (s.cage c).present then s.liftCage c else (s.fenceCage c .cageAbsent).logCage c none
    (cagePorts c).foldl State.awaitModule s

/-! ### Movers (R249, R414, R422) -/

/-- Every descriptor of a mover, running one first. -/
def moverDescs (m : MoverSt) : List Desc :=
  (match m.running with
    | some r => [r.2.1]
    | none => []) ++ m.channels.flatMap (fun c => c.2.queue)

/-- The descriptors of a transfer leave the mover's channels and the waiting list, with their buffers' readers. -/
def State.dropDescs (s : State) (x : Nat × Nat) : State :=
  let gone := s.descsOf x
  let keep := fun (d : Desc) => !(d.xfer == x)
  let s := s.data.movers.foldl (fun s m =>
    s.book 8 m.1 (-(((moverDescs m.2).filter (fun d => !keep d)).length : Int))) s
  let s := s.onData (fun k => { k with
    waitDescs := k.waitDescs.filter keep
    movers := k.movers.map (fun m => (m.1, { m.2 with
      running := m.2.running.filter (fun r => keep r.2.1)
      channels := m.2.channels.map (fun c => (c.1, { c.2 with queue := c.2.queue.filter keep })) })) })
  gone.foldl (fun s d => (s.dropRuns d.run.toList).freeEngine d.frees) s

/-- A transfer is ended by a broken account of its engine: its program ends, or ends differently, with BALANCE-FENCE (R209, R249). -/
def State.fenceTransfer (s : State) (account : Byte) (d : Desc) : State :=
  let s := s.dropDescs d.xfer
  let s := s.modXfer d.sc d.xfer (fun p => { p with
    queuedW := p.issuedW, compare := [], ending := p.ending.map (fun e => { e with code := cBalance, reason := account, residual := 0 }) })
  match s.prog? d.sc with
  | some p =>
    if p.xfer == d.xfer then s.endProgram d.sc { code := cBalance, reason := account, step := p.here } 2 else s.closeKick d.sc
  | none => s.closeKick d.sc

/-- A mover is fenced: its transfers end, its slots leave the account with it (R249, R418). -/
def State.fenceMover (s : State) (m : MoverNum) : State :=
  let l := moverDescs (s.mover m)
  let s := s.modMover m (fun x => { x with fenced := true })
  let s := l.foldl (fun s d => s.fenceTransfer 8 d) s
  (s.dropAcct 8 m.val).admitDescs

/-- A mover is retired: the others carry its work (R422). -/
def State.retireMover (s : State) (m : MoverNum) : State :=
  let l := moverDescs (s.mover m)
  let s := s.modMover m (fun x => { x with retired := true, running := none, channels := [], testing := false, freeing := none })
  ((s.book 8 m.val (-(l.length : Int))).onData (fun k => { k with waitDescs := l ++ k.waitDescs })).admitDescs

/-! ### Queues and tokens (R416) -/

/-- Every start of a queue that has not begun leaves its start list; the removed ones, by subchannel. -/
def State.takeStarts (s : State) (f : Start → Bool) : State × List (SC × Start) :=
  let l := s.prog.subs.flatMap (fun b => (b.2.starts.filter f).map (fun x => (BitVec.ofNat 18 b.1, x)))
  (s.onProg (fun p => { p with subs := p.subs.map (fun b => (b.1, { b.2 with starts := b.2.starts.filter (fun x => !f x) })) }), l)

/-- Subchannels whose running program's start satisfies a condition. -/
def State.progsOf (s : State) (f : Start → Bool) : List SC :=
  (s.prog.subs.filter (fun b => (b.2.prog.map (fun p => f p.start)).getD false)).map (fun (b : Nat × Sub) => BitVec.ofNat 18 b.1)

/-- A running program is stopped at its next step boundary, at once when it stands at one (R137, R140, R159, R416). -/
def State.stopProg (s : State) (sc : SC) (e : Ending) : State :=
  match s.prog? sc with
  | none => s
  | some p =>
    match p.chain with
    | some c => if c.tag.isSome then s.modProg sc (fun p => { p with stop := some (p.stop.getD e) }) else s.endProgram sc { e with step := p.here } 2
    | none => s.endProgram sc { e with step := p.here } 2

/-- A start that has not begun ends with a code, its reserved slot used (R209). -/
def State.endStart (s : State) (sc : SC) (x : Start) (code detail : Byte) : State :=
  s.endEntry x.tenant x.sq x.batch
    { sq := x.sq, entry := x.entry, sc := sc, code := code, detail := BitVec.ofNat 16 (256 * detail.toNat), count := 0x8000 } x.ref 0

/-- A submission queue is fenced: the entries still found end with BALANCE-FENCE (R416). -/
def State.fenceSq (s : State) (t : Tenant) (q : QNum) : State :=
  let mine := fun (x : Start) => x.tenant == t && x.sq == q
  let s := s.modSq t q (fun k => { k with fenced := true })
  let (s, l) := s.takeStarts mine
  let s := l.foldl (fun s x => s.endStart x.1 x.2 cBalance 5) s
  (s.progsOf mine).foldl (fun s sc => s.endProgram sc { code := cBalance, reason := 5, step := (s.prog? sc).bind (·.here) } 2) s

/-- A completion queue is fenced: the queues that name it stop, their programs at the next step boundary (R416). -/
def State.fenceCq (s : State) (t : Tenant) (q : QNum) : State :=
  let s := s.modCq t q (fun k => { k with fenced := true })
  (List.finRange 8).foldl (fun s i =>
    match s.sq? t i with
    | some k =>
      if k.cq = q then
        let s := s.modSq t i (fun k => { k with fenced := true })
        (s.progsOf (fun x => x.tenant == t && x.sq == i)).foldl (fun s sc => s.stopProg sc { code := cBalance, reason := 6 }) s
      else s
    | none => s) s

/-- A token is fenced: every waiter ends with BALANCE-FENCE (R416). -/
def State.fenceToken (s : State) (n : Nat) : State :=
  match s.token? n with
  | none => s
  | some k =>
    let s := s.modToken n (fun k => { k with fenced := true })
    k.waiters.foldl (fun s w =>
      let sc : SC := BitVec.ofNat 18 w
      s.endProgram sc { code := cBalance, reason := 7, step := (s.prog? sc).bind (·.here) } 2) s

/-! ### The safe state (R411) -/

/-- The module enters its safe state, once, for a cause counted from 1 in the order of R411. -/
def State.enterSafe (s : State) (cause : Nat) (site : W32) : State :=
  if s.safe then s
  else
    let s := (s.onFaults (fun f => { f with safe := some cause })).emit (.smbAlert true)
    let s := (List.finRange 96).foldl (fun s d => s.allExch d (fun s g => s.abortEnd d 2 cInternal 0 g)) s
    if s.cores.tenderUp && s.data.inService then s.logFault 0x0C site whoNone (BitVec.ofNat 64 cause)
    else (if s.cores.tenderUp then s.logFault 0x0C site whoNone (BitVec.ofNat 64 cause) else s).pfVector 4

/-! ### Sites (R21-R25, R422) -/

/-- Clusters of a die that have a number (R24). -/
def clusterReal (die cluster : Nat) : Bool :=
  match die with
  | 0 => cluster < 5
  | 1 | 2 | 3 | 4 => cluster < 2
  | 5 => cluster < 1
  | 6 => cluster < 3
  | _ => cluster < 5

/-- Units of a cluster that have a number (R24). -/
def unitReal (die cluster unit : Nat) : Bool :=
  match die, cluster with
  | 0, 0 | 0, 1 => unit < 4
  | 0, 2 | 0, 3 => unit < 3
  | 0, 4 => unit ≤ 16 || (32 ≤ unit && unit ≤ 54) || (56 ≤ unit && unit ≤ 59)
  | 5, 0 => unit < 5
  | 6, 0 | 6, 1 => unit < 16
  | 6, 2 => unit < 4
  | 7, 0 => unit < 18
  | 7, 1 => unit < 3
  | 7, 2 => unit < 12
  | 7, 3 | 7, 4 => unit < 2
  | d, 0 => 1 ≤ d && d ≤ 4 && (unit < 24 || (32 ≤ unit && unit ≤ 55) || (64 ≤ unit && unit ≤ 73) || unit = 80 || unit = 81 || unit = 84)
  | d, 1 => 1 ≤ d && d ≤ 4 && unit < 8
  | _, _ => false

/-- A macro number that is not reserved (R25): 64 mailboxes in the mailbox block. -/
def macroReal (die cluster unit n : Nat) : Bool :=
  n < 0x900 && (!(die == 0 && cluster == 4 && unit == 54) || n < 64)

/-- A site code that can be reported: a level of R21, every finer field all ones, and numbers that R24 and R25 list (R21-R25). -/
def siteNamed (site : W32) : Bool :=
  let die := fieldOf site 28 26
  let cluster := fieldOf site 25 20
  let unit := fieldOf site 19 12
  let n := fieldOf site 11 0
  match fieldOf site 31 29 with
  | 1 | 2 => unitReal die cluster unit && macroReal die cluster unit n
  | 3 => unitReal die cluster unit && n == 0xFFF
  | 4 => clusterReal die cluster && unit == 0xFF && n == 0xFFF
  | 5 => die ≤ 5 && cluster == 0x3F && unit == 0xFF && n == 0xFFF
  | 6 => die == 6 && cluster == 0x3F && unit == 0xFF && n == 0xFFF
  | 7 => die == 7 && cluster == 0x3F && unit == 0xFF && n == 0xFFF
  | _ => false

/-- What a site code names, as R422's rows take it. -/
inductive SiteUnit where
  | hbmRow
  | pair (c : PairNum)
  | tender
  | port (d : DPort)
  | mover (m : MoverNum)
  | engine (d : Die) (e : Fin 8)
  | cage (c : CageNum)
  | image (b : Bool)
  /-- Neither spared nor retired: safe state. -/
  | vital
  /-- R422 names no action. -/
  | other
deriving DecidableEq, Repr

/-- The unit of a site on channel die d, held as 0-3. -/
def dieUnit (d cluster unit : Nat) : SiteUnit :=
  if h : d < 4 then
    if cluster = 0 then
      if hu : unit < 24 then .port ⟨24 * d + unit, by omega⟩
      else if hu : 32 ≤ unit ∧ unit < 56 then .port ⟨24 * d + (unit - 32), by omega⟩
      else if hu : 64 ≤ unit ∧ unit < 74 then .pair ⟨10 * d + (unit - 64), by omega⟩
      else if unit = 84 then .vital
      else .other
    else if cluster = 1 then (if hu : unit < 8 then .engine ⟨d, h⟩ ⟨unit, hu⟩ else .other)
    else .other
  else .other

/-- The unit of a site on the hub. -/
def hubUnit (cluster unit : Nat) : SiteUnit :=
  if cluster = 4 then
    if unit < 16 || unit = 16 || unit = 48 || unit = 49 || (56 ≤ unit && unit ≤ 59) then .vital
    else if hu : 32 ≤ unit ∧ unit < 48 then .mover ⟨unit - 32, by omega⟩
    else if unit = 51 then .tender
    else .other
  else if cluster = 2 || cluster = 3 then .vital
  else .other

/-- The unit that a site code names or lies in (R24). -/
def unitOf (site : W32) : SiteUnit :=
  let die := fieldOf site 28 26
  let cluster := fieldOf site 25 20
  let unit := fieldOf site 19 12
  if die = 0 then hubUnit cluster unit
  else if die ≤ 4 then dieUnit (die - 1) cluster unit
  else if die = 5 then .vital
  else if die = 6 then (if cluster = 2 then .vital else .other)
  else if cluster = 1 then (if unit = 0 then .image false else if unit = 1 then .image true else .other)
  else if cluster = 2 then (if hu : unit < 12 then .cage ⟨unit, hu⟩ else .other)
  else .other

/-- The site lies in a memory row, L1 or L2, that a macro can spare (R422). -/
def isRow (site : W32) : Bool :=
  (fieldOf site 31 29 = 1 || fieldOf site 31 29 = 2) && fieldOf site 11 0 < 0x800

/-- What R422 does at a site: a spare row, an HBM3 row, or its unit. -/
def siteUnit (site : W32) : SiteUnit :=
  if fieldOf site 28 26 = 6 && fieldOf site 25 20 < 2 && isRow site then .hbmRow else unitOf site

/-- A port is retired (R422). -/
def State.retirePort (s : State) (d : DPort) : State :=
  let s := (s.modPort d (fun p => { p with retired := true })).darken d
  (s.portEvent d)

/-- The granules of a row are poisoned and its buffers withheld (R422): a buffer that is free leaves the allocator. -/
def State.withholdRow (s : State) (site : W32) (row : BitVec 24) : State :=
  let gs := Config.rowGranules site row
  let first := bufGranule 0
  let bufs := (gs.filter (fun g => first ≤ g && g < bufGranule Config.stagingBuffers)).foldl
    (fun (l : List Nat) g => let b := (g - first) / 32; if l.contains b then l else l ++ [b]) []
  s.onData (fun d => { d with
    granules := gs.foldl (fun t g => tmod {} t g (fun x => { x with poison := true })) d.granules
    withheld := d.withheld ++ bufs.filter (fun b => !d.withheld.contains b)
    freed := d.freed.filter (fun b => !bufs.contains b)
    freeBuf := d.freeBuf - (bufs.filter (fun b => (tfind d.refs b).isNone && !d.withheld.contains b)).length })

/-- The action on a unit (R422): true when it has been taken out of service. -/
def State.retireUnit (s : State) (site : W32) (row : BitVec 24) (u : SiteUnit) : State × Bool :=
  match u with
  | .hbmRow => (s.withholdRow site row, true)
  | .pair c => (s.retirePair c, true)
  | .tender => (s.onCores (fun k => { k with tenderDead := true }), true)
  | .port d => (s.retirePort d, true)
  | .mover m => (s.retireMover m, true)
  | .engine d e => (s.modPool d (fun p => { p with retired := if p.retired.contains e.val then p.retired else p.retired ++ [e.val] }), true)
  | .cage c => (((s.modCage c (fun g => { g with retired := true })).unpowerCage c).fenceCage c .cageAbsent, true)
  | .image false => (s.onFw (fun f => { f with imgA := { f.imgA with valid := false, release := 0 } }), true)
  | .image true => (s.onFw (fun f => { f with imgB := { f.imgB with valid := false, release := 0 } }), true)
  | .vital => (s.enterSafe 2 site, false)
  | .other => (s, false)

/-- The retirement record with a site acted on, and the KIND 0x0B entry (R422, R425, R520). `by1`: 0 window, 1 RETIRE-SITE, 2 self-test. -/
def State.recordSite (s : State) (site : W32) (action : Nat) (by1 : Nat) : State :=
  let known := s.faults.record.any (fun x => x.1 == site)
  let full := s.recordFull && !known
  let s := s.onFaults (fun f => { f with
    record := if full then f.record else f.record.filter (fun x => x.1 != site) ++ [(site, BitVec.ofNat 8 action)] })
  s.logEntry 0x0B (if full then 3 else 1) 0 site whoNone (BitVec.ofNat 64 (action + 256 * by1))

/-- A lasting site is acted on (R422): its ACTION, 0 where it is neither spared nor retired. -/
def State.actSite (s : State) (site : W32) (row : BitVec 24) (by1 : Nat) : State × Nat :=
  let used := tget 0 s.faults.spares site.toNat
  let u := siteUnit site
  let spare := isRow site && decide (used < 4) && u != .hbmRow
  let (s, ok) := if spare then (s.onFaults (fun f => { f with spares := tset f.spares site.toNat (used + 1) }), true)
    else s.retireUnit site row u
  if ok then
    let action := if spare then 1 else 2
    ((s.recordSite site action by1).onFaults (fun f => { f with
      windows := tmod {} f.windows site.toNat (fun w => { w with times := [], lasting := false }) }), action)
  else (s, 0)

/-- The sites that have become lasting are acted on, one after the other (R421, R422). -/
def State.actSites : Nat → State → State
  | 0, s => s
  | f + 1, s =>
    match s.faults.acts with
    | [] => s
    | (site, row) :: _ =>
      let s := (s.actSite site row 0).1
      State.actSites f (s.onFaults (fun f => { f with acts := f.acts.drop 1 }))

end Sys2Proof.Machine
end

