-- ==== Sys2Proof/Machine/QueueOps.lean ====
section
/-! DEFINITION. Machine/QueueOps.lean: the queue engine (R106-R140): fetch, checks, hand-on, arbitration, resets of queues. -/

namespace Sys2Proof.Machine

open Sys2Proof

/-! ### The start entry (R112, R126) -/

def entryBat (b : Bytes) : Nat := fieldOf (byteAt b 0) 2 1
def entryMark (b : Bytes) : Bool := (byteAt b 0).getLsbD 0
def entrySc (b : Bytes) : SC := BitVec.ofNat 18 (u32 b 4).toNat
def entryRef (b : Bytes) : W64 := u64 b 0x10

/-- A reserved field of a start entry is nonzero. -/
def entryReserved (b : Bytes) : Bool :=
  fieldOf (byteAt b 0) 7 3 != 0 || (u16 b 2) != 0 || fieldOf (u32 b 4) 31 18 != 0 || !allZero (bslice b 0x19 39)

/-- NPATH of a subchannel's group. -/
def State.npath (s : State) (sc : SC) : Nat := (s.groupPaths (s.sub sc).group).length

/-- DETAIL of the first check of R126, in the order of its table, that an entry fails; 0 when it passes. `wait`: its MARK was never found owned; `push`: it was pushed,
with what its MARK should be; `open1`: entries of the open batch, if one is open. -/
def State.entryCheck (s : State) (t : Tenant) (b : Bytes) (wait : Bool) (push : Option Bool) (open1 : Option Nat) : Nat :=
  let sc := entrySc b
  let x := s.sub sc
  if byteAt b 1 != 1 then 1
  else if entryReserved b then 2
  else if !x.named || x.tenant != t then 3
  else if !x.enable || x.spoiled then 4
  else if (u64 b 8).toNat % 16 != 0 then 5
  else if !((List.range (s.npath sc)).any (fun i => (byteAt b 0x18).getLsbD i)) then 6
  else if entryBat b = 2 then 7
  else if wait then 8
  else if push.isSome && push != some (entryMark b) then 9
  else if entryBat b = 0 && open1.isSome then 10
  else if entryBat b = 1 && 255 ≤ open1.getD 0 then 11
  else 0

/-! ### Hand-on (R125, R130, R132-R134) -/

/-- The batch that an entry is placed in: its id and the entry's position; a new one where none is open (R132). -/
def State.joinBatch (s : State) (t : Tenant) (q : QNum) (closes : Bool) (index : Nat) (sc : SC) (ref : W64) : State × Option (Nat × Nat) :=
  match s.sq? t q with
  | none => (s, none)
  | some k =>
    let close := fun (b : Batch) => if closes then { b with closed := true, endEntry := index % k.depth, endSc := sc, endRef := ref } else b
    match k.batches.find? (fun b => !b.closed) with
    | some b =>
      (s.modBatch t q b.id (fun b => close { b with count := b.count + 1 }), some (b.id, b.count))
    | none =>
      (s.modSq t q (fun k => { k with
        batches := k.batches ++ [close { id := k.nextBatch, count := 1 }], nextBatch := k.nextBatch + 1 }), some (k.nextBatch, 0))

/-- The slot that an entry's final completion will use is reserved (R130). -/
def State.reserveSlot (s : State) (t : Tenant) (cq : QNum) : State :=
  (s.modCq t cq (fun k => { k with reserved := k.reserved + 1 })).book 6 (qIndex t cq) 1

/-- The read of a start's first step group is issued when it is placed (R184). -/
def State.preRead (s : State) (sc : SC) (x : Start) : State × Start :=
  let a : W64 := BitVec.ofNat 64 (x.program.toNat / 64 * 64)
  if s.inWindows x.tenant a.toNat 64 && s.vfMaster x.tenant then
    (s.sendRead (hostOf x.tenant) (s.pasidOf x.tenant) a 64 (.group sc a), { x with preAsked := true })
  else (s, x)

/-- The entry at the fetch point is handed on, with a reserved slot: placed on its start list, or completed with MALFORMED-ENTRY, or
with INTERNAL where its copy cannot be read (R125-R127, R134, R218). A malformed entry with BAT = 0b10 leaves an open batch open and stays outside it, and
one never found owned closes it and is counted (DESIGN CHOICE, log 119). -/
def State.handOn (s : State) (t : Tenant) (q : QNum) (b : Bytes) (wait : Bool) (bad : Bool) : State :=
  match s.sq? t q with
  | none => s
  | some k =>
    let i := k.fetch
    let push := if k.pushed.contains i then some (passBit k.depth i) else none
    let open1 := (k.batches.find? (fun b => !b.closed)).map (·.count)
    let s := (s.modSq t q (fun k => { k with
      fetch := k.fetch + 1, copies := tdel k.copies i, copyEcc := tdel k.copyEcc i, pushed := k.pushed.filter (· != i), markWait := none, unowned := [] })).reserveSlot t k.cq
    let detail := s.entryCheck t b wait push open1
    let bat := entryBat b
    let sc := entrySc b
    if bad || detail != 0 then
      let member := (bat = 1 || bat = 3) && !wait
      let breaks := open1.isSome && (wait || bat = 0 || (bat = 1 && 255 ≤ open1.getD 0))
      let (s, pos) := if member || breaks then s.joinBatch t q (bat = 3 || breaks) i sc (entryRef b) else (s, none)
      let code := if bad then cInternal else cMalformed
      s.endEntry t q pos
        { sq := q, entry := i % k.depth, sc := sc, code := code, detail := if bad then 0 else BitVec.ofNat 16 detail
          count := if bad then 0x8000 else 0 } (entryRef b) 0
    else
      let (s, pos) := if bat = 1 || bat = 3 then s.joinBatch t q (bat = 3) i sc (entryRef b) else (s, none)
      let x : Start := { tenant := t, sq := q, index := i, entry := i % k.depth, program := u64 b 8, ref := entryRef b, mask := byteAt b 0x18
                         batch := pos }
      let (s, x) := s.preRead sc x
      s.modSub sc (fun b => { b with starts := b.starts ++ [x] })

/-! ### Arbitration and fetch (R119-R123) -/

/-- A submission queue may be served at all: bound, reachable, not stopped (R50, R65, R97, R122, R140, R411, R441, R493). -/
def State.mayServe (s : State) (t : Tenant) (k : Sq) : Bool :=
  (s.tenant t).binding.isSome && s.vfMaster t && !(s.tenant t).stopped && !k.dmaStop && !k.resetting && !k.fenced && !s.foggy && !s.safe &&
    !s.orders.sleeping && !(s.host (hostOf t)).heldStop && s.data.inService && !s.side.pinsTaken

/-- A submission queue is eligible (R122). -/
def State.eligible (s : State) (t : Tenant) (q : QNum) : Bool :=
  match s.sq? t q with
  | none => false
  | some k =>
    s.mayServe t k && decide (k.fetch < k.tail) && k.reading.isNone &&
      (match k.markWait with
        | some w => decide (w.2 ≤ s.clk.now)
        | none => true) &&
      (match s.cq? t k.cq with
        | some c => decide (0 < c.free)
        | none => false)

/-- The granule of queue spill that a queue's copy of an entry stands in: 64 KiB of the region for each queue (R213; where in the region it lies is DESIGN
CHOICE, log 131). -/
def queueSpillGranule (t : Tenant) (q : QNum) (i : Nat) : Nat := 0x1C4000000 / 64 + 1024 * qIndex t q + i % 1024

/-- A copy of an entry is read from queue spill (R218): what it shows is counted and logged, and says whether the entry can be used. -/
def State.readSpill (s : State) (t : Tenant) (q : QNum) (i : Nat) (e : Ecc) : State × Bool :=
  let e := withPoison e (s.poisoned (queueSpillGranule t q i))
  (s.eccEvent (s.granuleSite (queueSpillGranule t q i)) e, eccBad e)

/-- A granule of queue spill is written in place (R217). -/
def State.writeSpill (s : State) (t : Tenant) (q : QNum) (i : Nat) : State :=
  if s.poisoned (queueSpillGranule t q i) then
    s.onData (fun d => { d with granules := tmod {} d.granules (queueSpillGranule t q i) (fun x => { x with poison := false }) })
  else s

/-- Entries whose copies are held are handed on, up to `n`, while slots are free (R120, R123, R218): the entries left of the burst. -/
def State.handCopies : Nat → State → Tenant → QNum → State × Nat
  | 0, s, _, _ => (s, 0)
  | n + 1, s, t, q =>
    match s.sq? t q with
    | none => (s, 0)
    | some k =>
      match tfind k.copies k.fetch, s.cq? t k.cq with
      | some b, some c =>
        if k.fetch < k.tail && 0 < c.free then
          let (s, bad) := s.readSpill t q k.fetch (tget .good k.copyEcc k.fetch)
          State.handCopies n (s.handOn t q b false bad) t q
        else (s, 0)
      | _, _ => (s, n + 1)

/-- How many of `n` indices from `i` on come before the first whose copy is held: what is kept is not read again (R120). -/
def unkept (copies : Table Bytes) (i : Nat) : Nat → Nat
  | 0 => 0
  | n + 1 => if (tfind copies i).isSome then 0 else 1 + unkept copies (i + 1) n

/-- The entry read of a granted queue (R119): up to eight entries before the tail and eight slots beyond it, never past DEPTH - 1
outstanding, up to the first whose copy is held, and split at the ring's end. -/
def State.issueEntryRead (s : State) (t : Tenant) (q : QNum) (n : Nat) : State :=
  match s.sq? t q with
  | none => s
  | some k =>
    let before := min n (k.tail - k.fetch)
    let beyond := if before = k.tail - k.fetch then min 8 (k.depth - 1 - k.outst) else 0
    let count := unkept k.copies k.fetch (before + beyond)
    let slot := k.fetch % k.depth
    let first := min count (k.depth - slot)
    (s.modSq t q (fun k => { k with reading := some (k.fetch, count) })).sendReads (hostOf t) (s.pasidOf t)
      ((k.base + BitVec.ofNat 64 (64 * slot), 64 * first) :: (if first < count then [(k.base, 64 * (count - first))] else [])) (.entry t q)

/-- A queue takes the grant (R122, R123): kept entries first, then a read; a burst that needs no read ends at once. -/
def State.grant (s : State) (t : Tenant) (q : QNum) : State :=
  match s.sq? t q with
  | none => s
  | some k0 =>
    let s := s.onQueues (fun k => { k with arb := { k.arb with
      lastTenant := tset k.arb.lastTenant k0.cls.toNat t.toNat, lastQueue := tset k.arb.lastQueue (8 * t.toNat + k0.cls.toNat) q.val } })
    let (s, n) := s.handCopies 8 t q
    match s.sq? t q with
    | none => s
    | some k =>
      if 0 < n && k.fetch < k.tail && s.eligible t q then
        (s.issueEntryRead t q n).onQueues (fun k => { k with arb := { k.arb with grant := some (qIndex t q) } })
      else s

def queueTenant (i : Nat) : Tenant := BitVec.ofNat 12 (i / 8)
def queueNum (i : Nat) : QNum := ⟨i % 8, by omega⟩

/-- The first of a rising list that lies after `last`, else the first of all. -/
def roundRobin (last : Option Nat) (l : List Nat) : Option Nat :=
  match last with
  | some x => match l.find? (fun y => x < y) with
    | some y => some y
    | none => l.head?
  | none => l.head?

/-- The queue that wins the arbitration: lowest class, tenants and then queues in turn (R122). -/
def State.winner (s : State) : Option Nat :=
  let ok := s.queues.sqs.filter (fun x => s.eligible (queueTenant x.1) (queueNum x.1))
  match (ok.map (fun x => x.2.cls.toNat)).foldl (fun (b : Option Nat) c => some (match b with
      | some m => min m c
      | none => c)) none with
  | none => none
  | some cls =>
    let mine := (ok.filter (fun x => x.2.cls.toNat == cls)).map (fun (x : Nat × Sq) => x.1)
    match roundRobin (tfind s.queues.arb.lastTenant cls) (mine.map (· / 8)) with
    | none => none
    | some t =>
      let qs := (mine.filter (fun i => i / 8 == t)).map (· % 8)
      (roundRobin (tfind s.queues.arb.lastQueue (8 * t + cls)) qs).map (fun q => 8 * t + q)

/-- The burst of a queue ends (R123). -/
def State.releaseGrant (s : State) (t : Tenant) (q : QNum) : State :=
  s.onQueues (fun k => { k with arb := { k.arb with grant := if k.arb.grant = some (qIndex t q) then none else k.arb.grant } })

/-- A copy is kept for an index (R120, R123); `e`: what it will show when it is read from queue spill. -/
def State.keepCopy (s : State) (t : Tenant) (q : QNum) (i : Nat) (b : Bytes) (e : Ecc) : State :=
  (s.modSq t q (fun k => { k with
    copies := tset k.copies i b, copyEcc := if e = .good then tdel k.copyEcc i else tset k.copyEcc i e })).writeSpill t q i

/-- The entries of a read, classed by MARK and position (R120, R121, R123): the one at the fetch point is handed on, or begins to wait for its MARK and
holds those after it back; an owned one that cannot be handed on yet is kept. `es`: what the copy of each entry shows when it is read from queue spill
(R218). -/
def State.takeEntries : Nat → State → Tenant → QNum → Nat → Bytes → List Ecc → State
  | 0, s, _, _, _, _, _ => s
  | n + 1, s, t, q, i, b, es =>
    match s.sq? t q with
    | none => s
    | some k =>
      let e := padTo 64 b
      let owned := entryMark e == passBit k.depth i
      let free := ((s.cq? t k.cq).map (fun c => decide (0 < c.free))).getD false
      let s :=
        if i < k.fetch then s
        else if i = k.fetch && i < k.tail && !owned then
          s.modSq t q (fun k => { k with
            unowned := e
            markWait := some ((k.markWait.map (fun (w : Nat × Nat) => w.1)).getD s.clk.now, s.clk.now + Config.rereadTicks) })
        else if i = k.fetch && i < k.tail && free then
          let s := s.eccEvent (s.granuleSite (queueSpillGranule t q i)) (es.headD .good)
          s.handOn t q e false (eccBad (es.headD .good))
        else if owned then s.keepCopy t q i e (es.headD .good)
        else s
      State.takeEntries n s t q (i + 1) (b.drop 64) (es.drop 1)

/-! ### Queues ended (R97, R134, R137-R140) -/

/-- The entries never read complete with a code as slots become free (R138); the fetch point moves to the tail (R139). SC and REF of an entry whose
bytes the device does not hold are 0 in its completion and its record (DESIGN CHOICE, log 120). -/
def State.abortUnread (s : State) (t : Tenant) (q : QNum) (code detail : Byte) : State :=
  match s.sq? t q with
  | none => s
  | some k =>
    let s := s.modSq t q (fun k => { k with fetch := k.tail, copies := [], copyEcc := [], pushed := [], markWait := none, unowned := [] })
    (List.range (k.tail - k.fetch)).foldl (fun s j =>
      let i := k.fetch + j
      let known := (tfind k.copies i).orElse (fun _ => if j = 0 && k.markWait.isSome then some k.unowned else none)
      s.writeWaiting t k.cq
        ⟨{ sq := q, entry := i % k.depth, sc := (known.map entrySc).getD 0, code := code, detail := BitVec.ofNat 16 (256 * detail.toNat)
           count := 0x8000 }, (known.map entryRef).getD 0, 0, 1, 0⟩) s

/-- A queue's running programs are ended: at their next step boundary, or, under the fog signal, at once (R137, R140, R209). -/
def State.abortProgs (s : State) (mine : Start → Bool) (code detail reason : Byte) (now : Bool) : State :=
  (s.progsOf mine).foldl (fun s sc =>
    if now then s.endProgram sc { code := code, reason := detail, step := (s.prog? sc).bind (·.here) } reason
    else s.stopProg sc { code := code, reason := detail }) s

/-- Every outstanding entry of a queue ends with a code, whether unread, waiting or running; open batches end (R134, R137, R140; that one open at the fog
signal ends as at a reset is DESIGN CHOICE, log 121). While an FLR of the VF drains, no completion is written (R51, R139). -/
def State.abortSq (s : State) (t : Tenant) (q : QNum) (code detail reason : Byte) (now : Bool) : State :=
  match s.sq? t q with
  | none => s
  | some k =>
    let mine := fun (x : Start) => x.tenant == t && x.sq == q
    if (s.tenant t).flrDrain.isSome then s.abortProgs mine code detail reason now
    else
      let s := (k.batches.filter (fun b => !b.closed)).foldl (fun s b => s.breakBatch t q b) s
      let (s, l) := s.takeStarts mine
      let s := s.modSq t q (fun k => { k with aborted := l.length + (s.progsOf mine).length + (k.tail - k.fetch) })
      let s := l.foldl (fun s x => s.endStart x.1 x.2 code detail) s
      (s.abortProgs mine code detail reason now).abortUnread t q code detail

/-- The submission queues of a tenant that exist. -/
def State.sqsOf (s : State) (t : Tenant) : List QNum := (List.finRange 8).filter (fun q => (s.sq? t q).isSome)
def State.cqsOf (s : State) (t : Tenant) : List QNum := (List.finRange 8).filter (fun q => (s.cq? t q).isSome)

/-- Outstanding entries of a tenant (R111). -/
def State.outstanding (s : State) (t : Tenant) : Nat :=
  (s.sqsOf t).foldl (fun a q => a + ((s.sq? t q).map (·.outst)).getD 0) 0

/-- Entries of a submission queue that some stage holds: unread, on a start list, running, closing, folded, waiting for a slot (R414). -/
def State.stageCount (s : State) (t : Tenant) (q : QNum) : Nat :=
  match s.sq? t q with
  | none => 0
  | some k =>
    let mine := fun (x : Start) => x.tenant == t && x.sq == q
    let count := fun (a : Nat) (l : List Nat) => l.foldl (· + ·) a
    let subs := s.prog.subs.map (fun b => (b.2.starts.filter mine).length + (b.2.progs.filter (fun p => mine p.start)).length)
    let waits := ((s.cq? t k.cq).map (fun c => (c.waiting.filter (fun w => w.cpl.sq == q)).map (·.ends))).getD []
    count (count (count (k.tail - k.fetch) subs) waits) (k.batches.map (fun b => b.folded.length))

/-- A fenced instance is rebuilt from the stage records, which counts an event at the fenced engine (R416). -/
def State.rebuildAcct (s : State) (a i n : Nat) (site : W32) : State :=
  (s.onFaults (fun f => { f with
    accts := if n = 0 then tdel f.accts (acctKey a i) else tset f.accts (acctKey a i) ⟨BitVec.ofNat 48 n, BitVec.ofNat 48 n⟩ })).countOnly site

/-- The queues of a tenant are deleted, their accounts with them (R106, R415, R416, R418). -/
def State.deleteQueues (s : State) (t : Tenant) : State :=
  let s := (s.sqsOf t).foldl (fun s q =>
    let k := s.sq? t q
    if (k.map (·.fenced)).getD false then s.rebuildAcct 5 (qIndex t q) 0 queueSite
    else (s.book 5 (qIndex t q) (-(((k.map (·.outst)).getD 0 : Nat) : Int))).dropAcct 5 (qIndex t q)) s
  let s := (s.cqsOf t).foldl (fun s q =>
    match s.cq? t q with
    | some c =>
      if c.fenced then s.rebuildAcct 6 (qIndex t q) 0 writerSite
      else (s.book 6 (qIndex t q) (-((c.reserved + (c.tail - c.head) : Nat) : Int))).dropAcct 6 (qIndex t q)
    | none => s) s
  let mine := fun (i : Nat) => i / 8 == t.toNat
  let s := s.onQueues (fun k => { k with
    sqs := k.sqs.filter (fun x => !mine x.1), cqs := k.cqs.filter (fun x => !mine x.1)
    arb := { k.arb with grant := if (k.arb.grant.map mine).getD false then none else k.arb.grant } })
  s.dropKeys (hostOf t) (fun k => match k with
    | .entry u _ => u == t
    | _ => false)

end Sys2Proof.Machine
end

