-- ==== Sys2Proof/Machine/OrderOps.lean ====
section
/-! DEFINITION. Machine/OrderOps.lean: order rings and replies (R366-R377): which order may begin, the checks of an order, its reply, and
the replies that wait for something to come about. -/

namespace Sys2Proof.Machine

open Sys2Proof

/-! ### Rings (R366-R368) -/

def otherHost (p : HPort) : HPort := if p = 0 then 1 else 0
/-- Slots of both rings of a host port. -/
def OrderRing.size (o : OrderRing) : Nat := 2 ^ o.dlog.toNat
def State.oq (s : State) (p : HPort) : OrderRing := (s.host p).oq
def State.modOq (s : State) (p : HPort) (f : OrderRing → OrderRing) : State := s.modHost p (fun h => { h with oq := f h.oq })

/-- The slots made ready and not read are read, up to the ring's end (R368). -/
def State.fetchOrders (s : State) (p : HPort) : State :=
  let o := s.oq p
  if o.en && o.reading.isNone && o.markWait.isNone && decide (o.fetch < o.tail) && s.pfMaster p then
    let at1 := o.fetch % o.size
    let n := min (o.tail - o.fetch) (o.size - at1)
    (s.modOq p (fun o => { o with reading := some (o.fetch, n) })).sendRead p none (o.obase + BitVec.ofNat 64 (128 * at1)) (128 * n) (.orderSlot p)
  else s

/-- The slot at the head of a ring, once read, when no order of the ring is being carried out. -/
def State.headSlot (s : State) (p : HPort) : Option OrderSlot :=
  let o := s.oq p
  if o.active.isNone then tfind o.slots o.head else none

/-! ### Which order begins (R375, R462) -/

/-- Serialised orders (R375). -/
def serialised (opc : Byte) : Bool :=
  let n := opc.toNat
  n == 0x02 || n == 0x03 || n == 0x04 || n == 0x10 || n == 0x11 || n == 0x12 || n == 0x20 || n == 0x21 || n == 0x22 || n == 0x30 ||
    n == 0x40 || n == 0x42 || n == 0x50 || n == 0x51 || n == 0x60

/-- Orders begun before the module is ready (R462). -/
def earlyOrder (opc : Byte) : Bool :=
  let n := opc.toNat
  n == 0x01 || n == 0x7F || n == 0x60 || n == 0x61

def slotOpc : OrderSlot → Byte
  | .packet b => byteAt b 1
  | .failed _ b => byteAt b 1

/-- Sleep, self-test and firmware orders: one of them is refused, and does not wait, while another is in progress (R372 0x017, R470, R479). -/
def exclusive (opc : Byte) : Bool := opc == 0x21 || opc == 0x30 || opc == 0x50 || opc == 0x51

/-- The order that the other ring carries out. -/
def State.otherActive (s : State) (p : HPort) (f : Byte → Bool) : Bool := ((s.oq (otherHost p)).active.map (fun a => f a.opc)).getD false

/-- The ring's next order waits for a serialised order of the other ring. -/
def State.waitsPrior (s : State) (p : HPort) : Bool :=
  match s.headSlot p with
  | some x =>
    serialised (slotOpc x) && s.otherActive p serialised && !(exclusive (slotOpc x) && s.otherActive p exclusive)
  | none => false

/-- The ring's next order can begin. -/
def State.canBegin (s : State) (p : HPort) : Bool :=
  match s.headSlot p with
  | some (.packet b) => s.cores.tenderUp && (s.fw.ready || s.fw.recovery || earlyOrder (byteAt b 1)) && !s.waitsPrior p
  | some (.failed _ _) => s.cores.tenderUp
  | none => false

/-- It is the ring's turn: orders of the two rings are taken alternately (R375). -/
def State.ringTurn (s : State) (p : HPort) : Bool := s.canBegin p && (!s.canBegin (otherHost p) || s.orders.last != some p)

/-- The packet that an order command of a ring begins: due when it is its turn and its packet is that command's. -/
def State.orderDue (s : State) (p : HPort) (want : Bytes → Bool) : Option Bytes :=
  match s.headSlot p with
  | some (.packet b) => if s.ringTurn p && want b then some b else none
  | _ => none

/-- An order is begun. -/
def State.beginOrder (s : State) (p : HPort) (b : Bytes) : State :=
  ((s.modOq p (fun o => { o with active := some { opc := byteAt b 1, packet := b, index := o.head, stage := .none } })).onOrders (fun o => { o with last := some p })).work

/-! ### Replies (R370-R372) -/

/-- The 64 bytes of a reply. -/
def replyBytes (a : Active) (phase : Bool) (time : W64) (status : W16) (result : Bytes) : Bytes :=
  [a.opc, BitVec.ofNat 8 (bnat phase)] ++ le 2 status.toNat ++ padTo 4 (bslice a.packet 4 4) ++ le 8 time.toNat ++ padTo 48 result

/-- The stage of a ring's order. -/
def State.setStage (s : State) (p : HPort) (g : Stage) : State :=
  s.modOq p (fun o => { o with active := o.active.map (fun a => { a with stage := g }) })

/-- The order being carried out has taken effect (R377). -/
def State.effected (s : State) (p : HPort) : State :=
  s.modOq p (fun o => { o with active := o.active.map (fun a => { a with effected := true }) })

/-- A cage takes the next free wave slot (R464). -/
def State.dueCage (s : State) (c : CageNum) : State :=
  if s.list.waves.any (fun w => w.1 == c) then s
  else
    let t := match s.list.lastSlot with
      | some x => max (x + Config.ms100Ticks) s.clk.now
      | none => s.clk.now
    s.onList (fun l => { l with waves := l.waves ++ [(c, t)], lastSlot := some t })

/-- Cages take their waves: those of the first list 100 ms apart by number, every later one the next free slot (R464). -/
def State.startWaves (s : State) (first : Bool) (due : List CageNum) : State :=
  if first then
    s.onList (fun l => { l with
      waves := due.map (fun c => (c, s.clk.now + Config.ms100Ticks * c.val)), lastSlot := some (s.clk.now + Config.ms100Ticks * 11) })
  else due.foldl State.dueCage s

/-- BODY of a bind record (R205). -/
def bindBody (x : Binding) (time : W64) : Bytes :=
  padTo 24 (le 4 ((x.pasid.map (fun v => v.toNat + 2 ^ 31)).getD 0) ++ le 4 x.windows.length) ++ le 8 time.toNat

/-- A binding takes effect (R95), with its journal record. -/
def State.bindTenant (s : State) (t : Tenant) (x : Binding) : State :=
  (s.modTenant t (fun y => { y with binding := some x, quiet := none, fogNoted := false })).journal t 2 (bindBody x s.clk.hub) 0 0

/-- What an order was to bring about once its status reply had been posted (R79, R95). -/
def State.afterReply (s : State) (x : AfterReply) : State :=
  match x with
  | .none => s
  | .waves first due => s.startWaves first due
  | .bind t x => s.bindTenant t x

/-- The order being carried out brings something about once its reply has been posted. -/
def State.onceReplied (s : State) (p : HPort) (x : AfterReply) : State :=
  s.modOq p (fun o => { o with active := o.active.map (fun a => { a with after := x }) })

/-- A reply is written, with PF vector 0; while the Tender is down none is, and its restart answers the order (R302, R377). RESTARTED after a restart of the Tender (R377); one whose PF cannot be written waits; an orphan gets none (R52, R368, R370). -/
def State.putReply (s : State) (p : HPort) (time : W64) (status0 : W16) (result0 : Bytes) : State :=
  let o := s.oq p
  match o.active with
  | none => s
  | some a =>
    let status : W16 := if a.restarted then 0x6001 else status0
    let result := if a.restarted then [] else result0
    if a.orphan then (s.modOq p (fun o => { o with active := none })).afterReply a.after
    else if !s.cores.tenderUp then s.setStage p .none
    else if !s.pfMaster p then s.setStage p (.reply time status result)
    else
      let s := s.sendWrite p none (o.rbase + BitVec.ofNat 64 (64 * (a.index % o.size))) (replyBytes a (passBit o.size a.index) time status result)
      let s := s.modOq p (fun o => { o with active := none, head := a.index + 1, slots := tdel o.slots a.index })
      ((s.vector (.pf p) 0).afterReply a.after).fetchOrders p

/-- DONE with a result. -/
def State.done (s : State) (p : HPort) (result : Bytes) : State := s.putReply p s.clk.hub 0 result
/-- REFUSED with a reason of R372. -/
def State.refuse (s : State) (p : HPort) (reason : Nat) : State := s.putReply p s.clk.hub (BitVec.ofNat 16 (0x1000 + reason)) []
/-- BAD-ORDER with a detail (R373). -/
def State.badOrder (s : State) (p : HPort) (detail : Nat) : State := s.putReply p s.clk.hub (BitVec.ofNat 16 (0x2000 + detail)) []

/-! ### Checks (R369, R373, R374) -/

/-- A reserved header byte is nonzero. -/
def headerBad (b : Bytes) : Bool := fieldOf (byteAt b 0) 7 1 != 0 || u16 b 2 != 0 || u64 b 8 != 0

/-- The first parameter, by offset, that is out of range, or the first reserved parameter byte that is not zero (R373): each field with its
offset, its length, and whether it is in range. -/
def firstBad (b : Bytes) (fields : List (Nat × Nat × Bool)) : Option Nat :=
  let bad := (fields.filter (fun f => !f.2.2)).map (fun (f : Nat × Nat × Bool) => f.1)
  let used := fun (i : Nat) => fields.any (fun f => f.1 ≤ i && i < f.1 + f.2.1)
  let rsv := (List.range 112).find? (fun i => !used (16 + i) && byteAt b (16 + i) != 0)
  (bad ++ (rsv.map (16 + ·)).toList).foldl (fun (m : Option Nat) x =>
    match m with
    | some y => some (min x y)
    | none => some x) none

/-- The tenant in two bytes, and whether they name one (R49). -/
def tenantAt (b : Bytes) (off : Nat) : Tenant := BitVec.ofNat 12 (u16 b off).toNat
def tenantField (b : Bytes) (off : Nat) : Nat × Nat × Bool := (off, 2, (u16 b off).toNat < 4096)

/-- The conditions of R374's columns, in order of detail: no Light List, the fog signal, the other host port's tenant (log 23). -/
def State.columnRefusal (s : State) (p : HPort) (b : Bytes) (list fogOk : Bool) (tenant : Option Nat) : Option Nat :=
  if list && !s.list.loaded then some 1
  else if s.foggy && !fogOk then some 2
  else match tenant with
    | some off => if hostOf (tenantAt b off) != p then some 3 else none
    | none => none

/-- In recovery these orders are served, and every other is answered INTERNAL (R467). -/
def recoveryOrder (opc : Byte) : Bool := opc == 0x01 || opc == 0x50 || opc == 0x51 || opc == 0x7F

/-- An order packet with an opcode. -/
def isOpc (n : Byte) (b : Bytes) : Bool := byteAt b 1 == n

/-- An order: begun when it is its turn; the checks of R373, then the refusals of R374 and its own, then its effect. -/
def State.runOrder (s : State) (p : HPort) (want : Bytes → Bool) (fields : Bytes → List (Nat × Nat × Bool)) (list fogOk : Bool) (tenant : Option Nat)
    (refusal : State → Bytes → Option Nat) (act : State → Bytes → State) : State :=
  match s.orderDue p want with
  | none => s
  | some b =>
    let s := s.beginOrder p b
    if s.fw.recovery && !recoveryOrder (byteAt b 1) then s.putReply p s.clk.hub 0xF000 []
    else if headerBad b then s.badOrder p 3
    else
      match firstBad b (fields b) with
      | some off => s.badOrder p off
      | none =>
        match s.columnRefusal p b list fogOk tenant with
        | some n => s.refuse p n
        | none =>
          match refusal s b with
          | some n => s.refuse p n
          | none => act s b

/-! ### Replies that wait (R97, R137, R376, R386-R388) -/

/-- BODY of an unbind record (R205). -/
def unbindBody (mode aborted : Nat) (time : W64) : Bytes :=
  padTo 24 ([BitVec.ofNat 8 mode, 0, 0, 0] ++ le 4 aborted) ++ le 8 time.toNat

/-- A tenant's binding is removed (R97): its record, its queues. -/
def State.unbindFinish (s : State) (p : HPort) (t : Tenant) (mode aborted : Nat) : State :=
  let s := s.journal t 3 (unbindBody mode aborted s.clk.hub) 0 0
  let s := (s.deleteQueues t).modTenant t (fun x => { x with
    binding := none, stopped := false, quiet := none, unbindDrain := none, aborted := 0, fogNoted := false })
  (s.effected p).done p (le 4 aborted)

/-- PSTATE of a path (R388). -/
def State.pstate (s : State) (x : Path) : Byte :=
  let p := s.port x.port
  if p.fences.contains .identity then 2
  else if p.fenced then 3
  else if (s.pathSt x.port x.addr).absent then 1
  else 0

/-- An order whose reply waits for something gets it, once that has come about; the Tender carries orders out (R302). -/
def State.settleOrder (s : State) (p : HPort) : State :=
  match (s.oq p).active with
  | none => s
  | some a =>
    if !s.cores.tenderUp then s
    else match a.stage with
    | .reply time status result => s.putReply p time status result
    | .listRead addr len => if s.readAsked p (.lightList p) || !s.pfMaster p then s else s.sendRead p none addr len (.lightList p)
    | .stageRead addr len => if s.readAsked p (.image p) || !s.pfMaster p then s else s.sendRead p none addr len (.image p)
    | .resetDrain t q =>
      (match s.sq? t q with
        | some k =>
          if k.outst = 0 then
            let s := if k.fenced then s.rebuildAcct 5 (qIndex t q) 0 queueSite else s
            (s.modSq t q (fun k => { k with resetting := false, fenced := false, aborted := 0 })).done p (le 4 k.aborted)
          else s
        | none => s.done p (le 4 0))
    | .unbindDrain t => if s.outstanding t = 0 && (s.tenant t).flrDrain.isNone then s.unbindFinish p t 1 (s.tenant t).aborted else s
    | .portUp d _ left => if (s.port d).link = 5 || (s.port d).retired || (s.port d).fences.any (fun c => !left.contains c) then s.done p (le 4 (slpState (s.port d)).toNat) else s
    | .portFence d ended => if (s.port d).controls.all (fun x => x.tag.isNone) then s.done p (le 4 ended) else s
    | .groupEdit pg =>
      let l := s.groupPaths pg
      if l.any (fun x => (s.pathSt x.port x.addr).probing) then s
      else s.done p ((List.range 8).map (fun i => match l[i]? with
        | some x => s.pstate x
        | none => 0xFF))
    | _ => s

/-- A slot that could not be read, or never became owned, is answered when its turn comes (R368, R371). -/
def State.answerFailed (s : State) (p : HPort) : State :=
  match s.headSlot p with
  | some (.failed status b) => if s.ringTurn p then (s.beginOrder p b).putReply p s.clk.hub status [] else s
  | _ => s

/-- OQ_STAT.WAITPRIOR of a ring (R366, R375). -/
def State.noteWait (s : State) (p : HPort) : State :=
  if (s.oq p).waitPrior = s.waitsPrior p then s else s.modOq p (fun o => { o with waitPrior := s.waitsPrior p })

/-- Replies that are due, slots that need no order, WAITPRIOR (R366, R375). -/
def State.settleOrders : Nat → State → State
  | 0, s => s
  | f + 1, s =>
    let n := s.out.length
    let s := (((s.settleOrder 0).settleOrder 1).answerFailed 0).answerFailed 1
    let s := (s.noteWait 0).noteWait 1
    if s.out.length = n then s else State.settleOrders f s

end Sys2Proof.Machine
end

