-- ==== Sys2Proof/Machine/Settle.lean ====
section
/-! DEFINITION. Machine/Settle.lean: what follows every command that works on programs, ports, faults or orders. -/

namespace Sys2Proof.Machine

open Sys2Proof

/-- A port that no path names any more has its transmitter off once nothing is open on it (R100, R103). -/
def State.dimPorts (s : State) : State :=
  s.ports.ports.foldl (fun s x =>
    if h : x.1 < 96 then
      let d : DPort := ⟨x.1, h⟩
      if (s.port d).txOn && !s.portNamed d && (s.port d).exch.isEmpty then s.darken d else s
    else s) s

/-- The spill of every port that holds frames, and its stall, follow its queues (R282). -/
def State.stallPorts (s : State) : State :=
  s.ports.ports.foldl (fun s x => if h : x.1 < 96 then s.stallCheck ⟨x.1, h⟩ else s) s

/-- A holder's instance of account 0x03 follows what it holds: granules given out and held move together (R413, R414). -/
def State.bookTo (s : State) (i n : Nat) : State :=
  let held := (s.acct 3 i).credit.toNat
  if held = n then s else s.book 3 i ((n : Int) - (held : Int))

/-- Granules that a port's FIFO spill holds, 32 to a buffer, and those of the queue spill: prefetched entries and start lists (R213, R221). -/
def Port.spillGranules (p : Port) : Nat := 32 * p.spillBufs.length
def State.queueGranules (s : State) : Nat :=
  s.queues.sqs.foldl (fun a x => a + x.2.copies.length) 0 + s.prog.subs.foldl (fun a x => a + x.2.starts.length) 0

/-- The spill instances of account 0x03. -/
def State.bookSpill (s : State) : State :=
  (s.ports.ports.foldl (fun s x => s.bookTo (1 + x.1) x.2.spillGranules) s).bookTo 97 s.queueGranules

/-- Full quarantines retrain their ports (R274), lasting sites are acted on (R421), the quiet of R196 is found anew, and replies that waited are written. -/
def State.settle (s0 : State) : State :=
  let s := s0.quarCheck.dimPorts.stallPorts.bookSpill
  let s := (State.actSites (s.faults.acts.length + 2) s).requiet
  State.settleOrders (((s.oq 0).slots.length + (s.oq 1).slots.length) + 3) s

end Sys2Proof.Machine
end

