-- ==== Sys2Proof/Machine/Queues.lean ====
section
/-! DEFINITION. Machine/Queues.lean: the commands of the queue engine and the completion writer (R113-R138): doorbells, pushes, arbitration,
fetches, timers. -/

namespace Sys2Proof.Machine

open Sys2Proof

/-! ### Arbitration and fetch (R119-R123) -/

/-- QUEUE_ARBITRATION (R122). -/
def doQueueArbitration (s : State) : State :=
  if s.queues.arb.grant.isSome then s
  else
    match s.winner with
    | some i => s.grant (queueTenant i) (queueNum i)
    | none => s

/-- MARK_REREAD (R120): due when the entry's next re-read is due and its queue wins the arbitration (R122, R123). -/
def doMarkReread (t : Tenant) (q : QNum) (s : State) : State :=
  match s.sq? t q with
  | none => s
  | some k => if k.markWait.isSome && s.queues.arb.grant.isNone && s.winner == some (qIndex t q) then s.grant t q else s

/-- MARK_WAIT_TIMEOUT (R120): 1 ms after the first read. -/
def doMarkWaitTimeout (t : Tenant) (q : QNum) (s : State) : State :=
  match s.sq? t q with
  | none => s
  | some k =>
    match k.markWait with
    | some w =>
      if w.1 + Config.msTicks ≤ s.clk.now && k.reading.isNone && s.mayServe t k &&
          (match s.cq? t k.cq with
            | some c => decide (0 < c.free)
            | none => false) then
        s.handOn t q (padTo 64 k.unowned) true false
      else s
    | none => s

/-- ENTRY_FETCH_COMPLETE (R65, R120, R218). -/
def doEntryFetchComplete (t : Tenant) (q : QNum) (r : Dma) (es : List Ecc) (s0 : State) : State :=
  let p := hostOf t
  match s0.sq? t q with
  | none => s0
  | some k =>
    match k.reading with
    | none => s0
    | some (i, n) =>
      if !s0.readOpen p (.entry t q) then s0
      else
        let s := ((s0.endRead p (.entry t q)).releaseGrant t q).modSq t q (fun k => { k with reading := none })
        if k.resetting || k.fenced || (s.tenant t).stopped then s
        else
          match r with
          | .ok data => (s.takeEntries n t q i data es).settle
          | _ =>
            ((s.modSq t q (fun k => { k with dmaStop := true })).logFault 0x0D queueSite (whoVf t)
              (BitVec.ofNat 64 (i % k.depth + 65536 * q.val))).settle

/-! ### Doorbells and pushes (R113-R117) -/

/-- A doorbell or push that is discarded and logged (R61): while the fog signal is raised, once per tenant (R140). -/
def State.refuseWork (s : State) (t : Tenant) (off : Nat) (form : AccForm) : State :=
  if s.foggy then
    if (s.tenant t).fogNoted then s
    else (s.modTenant t (fun x => { x with fogNoted := true })).logFault 7 (fnSite (hostOf t)) (whoVf t)
      (BitVec.ofNat 64 (off + 9 * 2 ^ 32))
  else s.accessError (.vf t) off form

/-- The VF answers memory requests: it exists, Memory Space Enable is set, it is in D0 (R47, R60). -/
def State.reachable (s : State) (fn : Fn) : Bool := s.fnLive fn && (s.fn fn).mse && !(s.fn fn).d3

/-- Reserved bits [31:16] of a doorbell are nonzero: logged, and the write goes on (R14). -/
def State.noteReserved (s : State) (fn : Fn) (off : Nat) (bits : Nat) : State :=
  if bits != 0 then s.accessError fn off .reservedBit else s

/-- Quiet ends with any doorbell or accepted push (R196). -/
def State.unquiet (s : State) (t : Tenant) : State := s.modTenant t (fun x => { x with quiet := none })

/-- SQ_DOORBELL (R113, R114). -/
def doSqDoorbell (t : Tenant) (q : QNum) (value : W32) (s0 : State) : State :=
  if !s0.reachable (.vf t) then s0
  else
    let off := 0x1000 + 8 * q.val
    let s := ((s0.noteReserved (.vf t) off (fieldOf value 31 16)).work).unquiet t
    match s.sq? t q with
    | none => (s.refuseWork t off .doorbell).settle
    | some k =>
      let v := fieldOf value 15 0
      let n := (v + k.depth - k.tail % k.depth) % k.depth
      let s := s.modSq t q (fun k => { k with buoy := 0 })
      if s.foggy || k.resetting || k.fenced || k.depth ≤ v || k.depth - 1 < k.outst + n then (s.refuseWork t off .doorbell).settle
      else
        let s := (s.modSq t q (fun k => { k with tail := k.tail + n, outst := k.outst + n })).book 5 (qIndex t q) n
        let s := if s.orders.sleeping then s.onOrders (fun o => { o with bells := o.bells ++ [(t, off)] }) else s
        s.settle

/-- CQ_DOORBELL (R113, R114). -/
def doCqDoorbell (t : Tenant) (q : QNum) (value : W32) (s0 : State) : State :=
  if !s0.reachable (.vf t) then s0
  else
    let off := 0x1100 + 8 * q.val
    let s := ((s0.noteReserved (.vf t) off (fieldOf value 31 16)).work).unquiet t
    match s.cq? t q with
    | none => (s.refuseWork t off .doorbell).settle
    | some k =>
      let v := fieldOf value 15 0
      let n := (v + k.depth - k.head % k.depth) % k.depth
      if s.foggy || k.depth ≤ v || k.tail - k.head < n then (s.refuseWork t off .doorbell).settle
      else ((s.modCq t q (fun k => { k with head := k.head + n })).book 6 (qIndex t q) (-(n : Int))).settle

/-- BUOY_PUSH (R115-R117): the entry is taken; it is handed on at once when its queue wins the arbitration (R122, R123). -/
def doBuoyPush (t : Tenant) (q : QNum) (slot : Fin 4) (entry : Bytes) (s0 : State) : State :=
  if !s0.reachable (.vf t) then s0
  else
    let off := 0x2000 + 0x100 * q.val + 0x40 * slot.val
    let s := s0.work
    match s.sq? t q with
    | none => (s.refuseWork t off .buoy).settle
    | some k =>
      if s.foggy || k.resetting || k.fenced || k.buoy = 0 || k.tail % k.depth % 4 != slot.val || k.depth - 1 < k.outst + 1 then
        ((s.modSq t q (fun k => { k with buoy := 0 })).refuseWork t off .buoy).settle
      else
        let s := (s.modSq t q (fun k => { k with
          tail := k.tail + 1, outst := k.outst + 1, buoy := k.buoy - 1, copies := tset k.copies k.tail (padTo 64 entry)
          pushed := k.pushed ++ [k.tail] })).book 5 (qIndex t q) 1
        let s := if s.orders.sleeping then s.onOrders (fun o => { o with bells := o.bells ++ [(t, off)] }) else s
        let s := (s.unquiet t).writeSpill t q k.tail
        if s.queues.arb.grant.isNone && s.winner == some (qIndex t q) then (s.grant t q).settle else s.settle

/-! ### Timers of the completion writer (R130, R135, R138, R493) -/

/-- COMPLETION_WRITE_SLOT_FREED (R138). -/
def doCompletionWriteSlotFreed (t : Tenant) (q : QNum) (s : State) : State := (s.writeOneWaiting t q).settle

/-- MODERATION_EXPIRY (R135). -/
def doModerationExpiry (t : Tenant) (q : QNum) (s : State) : State :=
  match s.cq? t q with
  | none => s
  | some k =>
    match k.expiry with
    | some x => if x ≤ s.clk.now then s.signal t q else s
    | none => s

/-- JOURNAL_AREA_ROOM (R493): completions that wait for room in the held area go on; hand-on resumes below one half. -/
def doJournalAreaRoom (p : HPort) (s : State) : State :=
  if (s.host p).held.length < Config.heldCapacity then
    let s := s.modHost p (fun h => { h with heldStop := h.heldStop && decide (Config.heldResume ≤ h.held.length) })
    ((s.prog.subs.filter (fun b => b.2.closing.any (fun x => hostOf x.start.tenant == p))).foldl
      (fun s b => s.closeKick (BitVec.ofNat 18 b.1)) s).settle
  else s

/-! ### Meanings -/

def execSqDoorbell (t : Tenant) (q : QNum) (value : W32) (s : State) : Host.Outcome State Fault Refusal := .next (doSqDoorbell t q value s)
def execCqDoorbell (t : Tenant) (q : QNum) (value : W32) (s : State) : Host.Outcome State Fault Refusal := .next (doCqDoorbell t q value s)
def execBuoyPush (t : Tenant) (q : QNum) (slot : Fin 4) (entry : Bytes) (s : State) : Host.Outcome State Fault Refusal :=
  .next (doBuoyPush t q slot entry s)
def execQueueArbitration (s : State) : Host.Outcome State Fault Refusal := .next (doQueueArbitration s).settle
def execEntryFetchComplete (t : Tenant) (q : QNum) (r : Dma) (es : List Ecc) (s : State) : Host.Outcome State Fault Refusal :=
  .next (doEntryFetchComplete t q r es s)
def execMarkReread (t : Tenant) (q : QNum) (s : State) : Host.Outcome State Fault Refusal := .next (doMarkReread t q s).settle
def execMarkWaitTimeout (t : Tenant) (q : QNum) (s : State) : Host.Outcome State Fault Refusal := .next (doMarkWaitTimeout t q s).settle
def execCompletionWriteSlotFreed (t : Tenant) (q : QNum) (s : State) : Host.Outcome State Fault Refusal :=
  .next (doCompletionWriteSlotFreed t q s)
def execJournalAreaRoom (p : HPort) (s : State) : Host.Outcome State Fault Refusal := .next (doJournalAreaRoom p s)
def execModerationExpiry (t : Tenant) (q : QNum) (s : State) : Host.Outcome State Fault Refusal := .next (doModerationExpiry t q s)

end Sys2Proof.Machine
end

