-- ==== Sys2Proof/Machine/HostPorts.lean ====
section
/-! DEFINITION. Machine/HostPorts.lean: resets, power states and enables of host ports and functions (R44-R52, R71-R77, R96, R207, R518). -/

namespace Sys2Proof.Machine

open Sys2Proof

/-! ### Work that goes on when memory requests may be made again (R76, R77, R194, R207) -/

/-- Every program and completion of the tenants chosen goes on as far as it can. -/
def State.resumeTenants (s : State) (f : Tenant → Bool) : State :=
  let s := s.prog.subs.foldl (fun s b =>
    let sc : SC := BitVec.ofNat 18 b.1
    if b.2.progs.any (fun p => f p.start.tenant) then (((s.arrive sc).pushOutput sc).chainOn sc).closeKick sc else s) s
  s.queues.cqs.foldl (fun s c =>
    if f (queueTenant c.1) then
      (List.range c.2.waiting.length).foldl (fun s _ => s.writeOneWaiting (queueTenant c.1) (queueNum c.1)) s
    else s) s

/-- The function event of a host port (R327): FLR, PERST#, D-state, Bus Master Enable, VF Enable. -/
def State.fireFunction (s : State) (p : HPort) : State := s.fire 0 (163 + p.val)

/-! ### Function Level Reset (R51, R99, R518) -/

/-- The tenant's transfers in flight: programs with an exchange open, or with data still to be moved (R51). -/
def State.inFlight (s : State) (t : Tenant) : Bool :=
  s.prog.subs.any (fun b => (b.2.prog.map (fun p => p.start.tenant == t && (p.chain.map (fun c => c.tag.isSome)).getD false)).getD false) ||
    (s.data.movers.flatMap (fun m => moverDescs m.2) ++ s.data.waitDescs).any (fun d => d.tenant == t)

/-- The FLR of a VF ends: what is still in flight is ended, entries are discarded without completions, the withdrawal is journaled, queues
are deleted and registers reset (R51 steps 2-6). -/
def State.flrFinish (s : State) (t : Tenant) : State :=
  let left := s.progsOf (fun x => x.tenant == t)
  let s := s.onPower (fun w => { w with domains := tupd w.domains (58 + (hostOf t).val) (fun n =>
    if n.switching = some false then { n with ended := n.ended + left.length } else n) })
  let s := left.foldl (fun s sc => s.endProgram sc { code := cAbortedReset } 2) s
  let n := s.outstanding t
  let body := padTo 32 (le 4 n) |>.take 24 |> (· ++ le 8 (s.tenant t).flrAt.toNat)
  let s := s.journal t 4 body 0 0
  let xs := ((s.data.movers.flatMap (fun m => moverDescs m.2)) ++ s.data.waitDescs).filter (fun d => d.tenant == t)
  let s := xs.foldl (fun s d => s.dropDescs d.xfer) s
  let s := s.deleteQueues t
  let s := s.onVfs (fun v => tdel v t.toNat)
  s.modTenant t (fun x => { x with
    flrDrain := none, flrMaster := false, stopped := x.unbindDrain.isSome, quiet := none, fogNoted := false, aborted := x.aborted - n })

/-- An FLR of a VF is received (R51 step 1): no completion of the tenant is written from here on. -/
def State.flrBegin (s : State) (t : Tenant) : State :=
  if (s.tenant t).flrDrain.isSome then s
  else
    let mine := fun (x : Start) => x.tenant == t
    let s := s.modTenant t (fun x => { x with stopped := true, flrDrain := some (s.clk.now + Config.drainTicks), flrAt := s.clk.hub })
    let s := s.onQueues (fun k => { k with
      cqs := k.cqs.map (fun c => if c.1 / 8 == t.toNat then (c.1, { c.2 with waiting := [], unsignalled := 0, expiry := none }) else c) })
    let s := (s.takeStarts mine).1
    let hush := fun (p : Prog) => if p.start.tenant == t then { p with silent := true, reports := [] } else p
    let s := s.onProg (fun k => { k with subs := k.subs.map (fun b =>
      (b.1, { b.2 with prog := b.2.prog.map hush, closing := b.2.closing.map hush })) })
    let s := s.prog.subs.foldl (fun s b => if b.2.closing.any (fun p => p.silent) then s.closeKick (BitVec.ofNat 18 b.1) else s) s
    let s := (s.progsOf mine).foldl (fun s sc => s.stopProg sc { code := cAbortedReset }) s
    let s := s.fireFunction (hostOf t)
    if s.inFlight t then s else s.flrFinish t

/-- VF_FLR (R51). -/
def doVfFlr (t : Tenant) (s : State) : State := if s.fnLive (.vf t) then (s.flrBegin t).settle else s

/-- FLR_DRAIN_EXPIRY (R51): 2 ms after the FLR. -/
def doFlrDrainExpiry (t : Tenant) (s : State) : State :=
  match (s.tenant t).flrDrain with
  | some d => if d ≤ s.clk.now then (s.flrFinish t).settle else s
  | none => s

/-- The VFs of a host port that hold anything: bound, queued, or with registers written. -/
def State.vfsHeld (s : State) (p : HPort) : List Tenant :=
  ((s.queues.tenants.map (fun (x : Nat × TenantSt) => x.1) ++ s.vfs.map (fun (x : Nat × FnState) => x.1)).foldl
    (fun (l : List Nat) n => if l.contains n then l else l ++ [n]) []).map (fun n => (BitVec.ofNat 12 n : Tenant)) |>.filter (fun t => hostOf t == p)

/-- The order ring of a host port is reset: outstanding orders are dropped, a begun one runs to its end without a reply (R52, R368); under PERST#, or when
the port's domain is switched off, one that waits for a read of host memory ends, its data taken as never received (R518). -/
def dropOrders (cut : Bool) (o : OrderRing) : OrderRing :=
  let reads := fun (g : Stage) => match g with
    | .listRead _ _ => true
    | .stageRead _ _ => true
    | _ => false
  { active := o.active.bind (fun a => if cut && reads a.stage then none else some { a with orphan := true }) }

/-- Reads that a reset of the PF gives up: those of entries and of order slots; under PERST# or without power every one (R518). -/
def readGivenUp (cut : Bool) (k : ReadKey) : Bool :=
  match k with
  | .entry _ _ => true
  | .orderSlot _ => true
  | _ => cut

/-- Every VF of a host port meets R51, and the PF's registers, order ring and send buffers their reset values (R52, R455). The PF is reset before its
VFs' withdrawal records are made, so that these are held (R207); `cut`: PERST# or the loss of the port's domain, which take the link. A VF's transfers in flight drain as it might make requests (R518). -/
def State.resetHost (s : State) (p : HPort) (cut : Bool) : State :=
  let mine := s.vfsHeld p
  let s := mine.foldl (fun s t => s.modTenant t (fun x => { x with flrMaster := !cut && s.vfMaster t })) s
  let s := (s.dropKeys p (readGivenUp cut)).modHost p (fun h => { h with
    link := h.link && !cut, numVfs := 0, vfEn := false, vfBar := 0, ari := false, mps := 128, mrrs := 512, cto := Config.ctoTicks
    aspmL1 := false, aspmL11 := false, l1 := .l0, oq := dropOrders cut h.oq, txbuf := [], pf := {} })
  let s := s.onVfs (fun v => v.filter (fun x => hostOf (BitVec.ofNat 12 x.1) != p))
  (mine.foldl (fun s t => s.flrBegin t) s).fireFunction p

/-- PF_FLR (R52). -/
def doPfFlr (p : HPort) (s : State) : State := if s.fnLive (.pf p) then ((s.resetHost p false).repace).settle else s

/-- A host port enters Fundamental Reset (R52, R456, R518): no further request is issued on it. -/
def State.perstOn (s : State) (p : HPort) : State :=
  if (s.host p).perst then s else ((s.modHost p (fun h => { h with perst := true })).resetHost p true).repace

def doPerstAssert (p : HPort) (s : State) : State := (s.perstOn p).settle

/-- PERST_RELEASE (R456): the port answers configuration requests with Request Retry Status at first. A rising edge during a sleep order is
latched (R441). -/
def doPerstRelease (p : HPort) (s : State) : State :=
  if (s.host p).perst then
    let s := s.modHost p (fun h => { h with perst := false })
    let s := if s.orders.sleeping then s.onKeeper (fun k => { k with perstEdge := k.perstEdge ||| (1#2 <<< p.val) }) else s
    if s.domOn (58 + p.val) then s.emit (.retryStatus p) else s
  else s

/-! ### Links (R44, R47, R73, R74, R445) -/

/-- HOST_LINK_UP: due out of Fundamental Reset with the port's domain powered. -/
def doHostLinkUp (p : HPort) (rate : LinkRate) (width : LinkWidth) (s : State) : State :=
  if (s.host p).perst || !s.domOn (58 + p.val) then s
  else
    let s := s.modHost p (fun h => { h with link := true, rate := rate, width := width, l1 := .l0, txIdle := s.clk.now })
    let s := if s.keeper.wakeUntil.isSome then (s.onKeeper (fun k => { k with wakeUntil := none })).emit (.wake false) else s
    ((s.repace).resumeTenants (fun t => hostOf t == p)).settle

/-- HOST_LINK_DOWN (R47): the functions cease to exist for the device. -/
def doHostLinkDown (p : HPort) (s : State) : State :=
  if (s.host p).link then ((s.modHost p (fun h => { h with link := false, l1 := .l0 })).repace).settle else s

/-- L1_ENTRY (R73). -/
def doL1Entry (p : HPort) (s : State) : State :=
  let h := s.host p
  if h.alive && h.l1 == .l0 && (h.aspmL1 || h.aspmL11) && decide (h.txIdle + Config.l1IdleTicks ≤ s.clk.now) then
    s.modHost p (fun h => { h with l1 := if h.aspmL11 then .l11 else .l1 })
  else s

/-! ### Enables and D-states (R50, R71, R76, R77, R96, R207) -/

/-- A PF may be written again: held records go out, its vectors, its tenants' work (R207). -/
def State.pfGoesOn (s : State) (p : HPort) : State :=
  ((((s.flushHeld p).kickReads p).flushVectors (.pf p)).repace).resumeTenants (fun t => hostOf t == p)

/-- A VF may be worked for again. -/
def State.vfGoesOn (s : State) (t : Tenant) : State := (((s.flushVectors (.vf t)).kickReads (hostOf t)).repace).resumeTenants (fun u => u == t)

def doBusMasterEnableSet (p : HPort) (s : State) : State :=
  if s.fnLive (.pf p) then (((s.modFn (.pf p) (fun f => { f with bme := true })).fireFunction p).pfGoesOn p).settle else s
def doBusMasterEnableClear (p : HPort) (s : State) : State :=
  if s.fnLive (.pf p) then (((s.modFn (.pf p) (fun f => { f with bme := false })).fireFunction p).repace).settle else s
def doVfEnableClear (p : HPort) (s : State) : State :=
  if s.fnLive (.pf p) then (((s.modHost p (fun h => { h with vfEn := false })).fireFunction p).repace).settle else s
def doVfEnableSet (p : HPort) (s : State) : State :=
  if s.fnLive (.pf p) then
    let s := (s.modHost p (fun h => { h with vfEn := true })).fireFunction p
    let s := (s.vfsHeld p).foldl (fun s t => s.flushVectors (.vf t)) s
    ((s.repace).resumeTenants (fun t => hostOf t == p)).settle
  else s

/-- ENTER_D3HOT (R76, R77). -/
def doEnterD3hot (fn : Fn) (s : State) : State :=
  if s.fnLive fn && !(s.fn fn).d3 then
    (((s.modFn fn (fun f => { f with d3 := true })).fireFunction (fnHost fn)).repace).settle
  else s
/-- RETURN_TO_D0 (R75, R76, R207). -/
def doReturnToD0 (fn : Fn) (s : State) : State :=
  if s.fnLive fn && (s.fn fn).d3 then
    let s := (s.modFn fn (fun f => { f with d3 := false })).fireFunction (fnHost fn)
    (match fn with
      | .pf p => s.pfGoesOn p
      | .vf t => s.vfGoesOn t).settle
  else s

/-- MSIX_UNMASK (R68): one vector's mask, by a memory write to the table that must reach it (R60), or Function Mask is cleared. -/
def doMsixUnmask (fn : Fn) (which : Option (Fin 64)) (s : State) : State :=
  match which with
  | some v =>
    if s.reachable fn && v.val < fnVectors fn then
      (s.modFn fn (fun f => { f with msix := tmod {} f.msix v.val (fun e => { e with masked := false }) })).flushVector fn v.val
    else s
  | none => if s.fnLive fn then (s.modFn fn (fun f => { f with fmask := false })).flushVectors fn else s

/-- MSIX_ENABLE_SET (R71). -/
def doMsixEnableSet (fn : Fn) (s : State) : State :=
  if s.fnLive fn then (s.modFn fn (fun f => { f with msixEn := true })).flushVectors fn else s

/-- A 64-bit BAR pair written in one half: the bits below the window's size are fixed (R53, R55); the other BARs are not implemented. -/
def barWrite (size : Nat) (old : W64) (n : Nat) (v : W32) : W64 :=
  if n = 0 then (old >>> 32 <<< 32) ||| BitVec.ofNat 64 (v.toNat / size * size)
  else if n = 1 then (v.setWidth 64 <<< 32) ||| (old.setWidth 32).setWidth 64
  else old

/-- What BAR `n` of a PF, and VF BAR `n` of its SR-IOV capability, read (R53, R55). -/
def barRead (bar : W64) (n : Nat) : W32 :=
  if n = 0 then (bar ||| Config.barType).setWidth 32 else if n = 1 then (bar >>> 32).setWidth 32 else 0
def State.pfBar (s : State) (p : HPort) (n : Fin 6) : W32 := barRead (s.fn (.pf p)).bar n.val
def State.sriovBar (s : State) (p : HPort) (n : Fin 6) : W32 := barRead (s.host p).vfBar n.val

/-- Configuration writes without a row of their own (R44-R48, R53, R55, R71, R73, R76). -/
def State.cfgWrite (s : State) (fn : Fn) (w : CfgWrite) : State :=
  let p := fnHost fn
  let onPf := fn == .pf p
  match w with
  | .memorySpaceEnable v => s.modFn fn (fun f => { f with mse := v })
  | .numVfs n => if onPf && !(s.host p).vfEn && n ≤ Config.totalVfs then s.modHost p (fun h => { h with numVfs := n }) else s
  | .maxPayload n =>
    if onPf && (n == 128 || n == 256 || n == 512) then s.modHost p (fun h => { h with mps := n }) else s
  | .maxReadRequest n =>
    if onPf && (n == 128 || n == 256 || n == 512 || n == 1024 || n == 2048 || n == 4096) then s.modHost p (fun h => { h with mrrs := n }) else s
  | .pmeEnable v => s.modFn fn (fun f => { f with pmeEn := v })
  | .pmeStatusClear => s.modFn fn (fun f => { f with pmeStatus := false })
  | .msixEnableClear => s.modFn fn (fun f => { f with msixEn := false })
  | .functionMaskSet => s.modFn fn (fun f => { f with fmask := true })
  | .aspm l1 l11 => if onPf then s.modHost p (fun h => { h with aspmL1 := l1, aspmL11 := l11 }) else s
  | .completionTimeout n => if onPf && Config.ctoMin ≤ n && n ≤ Config.ctoMax then s.modHost p (fun h => { h with cto := n }) else s
  | .vfBusMasterEnable v =>
    match fn with
    | .pf _ => s
    | .vf t =>
      let s := s.modFn fn (fun f => { f with bme := v })
      if v then (s.vfGoesOn t).settle else (s.repace).settle
  | .bar n v => if onPf then s.modFn fn (fun f => { f with bar := barWrite Config.pfBarBytes f.bar n.val v }) else s
  | .vfBar n v => if onPf then s.modHost p (fun h => { h with vfBar := barWrite Config.vfBarBytes h.vfBar n.val v }) else s
  | .ariCapable v => if onPf then s.modHost p (fun h => { h with ari := v }) else s
  | .ecrc g c => s.modFn fn (fun f => { f with ecrcGen := g, ecrcCheck := c })
  | .aerStatusClear v => s.modFn fn (fun f => { f with aerStatus := f.aerStatus &&& ~~~v })
  | .aerMask v => s.modFn fn (fun f => { f with aerMask := v })

/-! ### Meanings -/

def execVfFlr (t : Tenant) (s : State) : Host.Outcome State Fault Refusal := .next (doVfFlr t s)
def execFlrDrainExpiry (t : Tenant) (s : State) : Host.Outcome State Fault Refusal := .next (doFlrDrainExpiry t s)
def execPfFlr (p : HPort) (s : State) : Host.Outcome State Fault Refusal := .next (doPfFlr p s)
def execPerstAssert (p : HPort) (s : State) : Host.Outcome State Fault Refusal := .next (doPerstAssert p s)
def execPerstRelease (p : HPort) (s : State) : Host.Outcome State Fault Refusal := .next (doPerstRelease p s)
def execHostLinkUp (p : HPort) (rate : LinkRate) (width : LinkWidth) (s : State) : Host.Outcome State Fault Refusal :=
  .next (doHostLinkUp p rate width s)
def execHostLinkDown (p : HPort) (s : State) : Host.Outcome State Fault Refusal := .next (doHostLinkDown p s)
def execL1Entry (p : HPort) (s : State) : Host.Outcome State Fault Refusal := .next (doL1Entry p s)
def execBusMasterEnableSet (p : HPort) (s : State) : Host.Outcome State Fault Refusal := .next (doBusMasterEnableSet p s)
def execBusMasterEnableClear (p : HPort) (s : State) : Host.Outcome State Fault Refusal := .next (doBusMasterEnableClear p s)
def execVfEnableClear (p : HPort) (s : State) : Host.Outcome State Fault Refusal := .next (doVfEnableClear p s)
def execVfEnableSet (p : HPort) (s : State) : Host.Outcome State Fault Refusal := .next (doVfEnableSet p s)
def execEnterD3hot (fn : Fn) (s : State) : Host.Outcome State Fault Refusal := .next (doEnterD3hot fn s)
def execReturnToD0 (fn : Fn) (s : State) : Host.Outcome State Fault Refusal := .next (doReturnToD0 fn s)
def execMsixUnmask (fn : Fn) (which : Option (Fin 64)) (s : State) : Host.Outcome State Fault Refusal := .next (doMsixUnmask fn which s)
def execMsixEnableSet (fn : Fn) (s : State) : Host.Outcome State Fault Refusal := .next (doMsixEnableSet fn s)

end Sys2Proof.Machine
end

