-- ==== Sys2Proof/Machine/StepCmds.lean ====
section
/-! DEFINITION. Machine/StepCmds.lean: the commands of the step sequencers (R125, R141-R201): starts, steps, holds, tokens, the reads
a program makes, its timers and its read-back. -/

namespace Sys2Proof.Machine

open Sys2Proof

/-! ### Reads outstanding -/

/-- Reads of a key on a host port, outstanding or waiting for a tag. -/
def State.readCount (s : State) (p : HPort) (key : ReadKey) : Nat :=
  ((s.host p).reads.filter (fun r => r.key == key)).length + ((s.host p).readQ.filter (fun r => r.key == key)).length

/-- The host port on which the oldest read of a key is outstanding. -/
def State.readPort (s : State) (key : ReadKey) : Option HPort :=
  if s.readOpen 0 key then some 0 else if s.readOpen 1 key then some 1 else none

/-- A read of a key comes back. More reads are outstanding than are still wanted when a program that asked has ended or held: the oldest is
then of no use. True when the data is wanted. -/
def State.takeRead (s : State) (key : ReadKey) (live : Nat) : State × Bool :=
  match s.readPort key with
  | none => (s, false)
  | some p => (s.endRead p key, decide (0 < live) && decide (s.readCount p key ≤ live))

/-- A host read that a program needs has failed (R65). -/
def State.readFailed (s : State) (sc : SC) (step : W64) (r : Dma) : State :=
  match r with
  | .refused => (s.seqException sc).endProgram sc { code := cAddressCheck, reason := 7, step := some step } 2
  | _ => (s.seqException sc).endIntegrity sc 4 (some step) (seqSite ((((s.prog? sc).bind (·.path)).map (·.port)).getD 0))

/-! ### The step at the flow -/

/-- The step that a running program can carry out now. -/
def State.stepDue (s : State) (sc : SC) : Option (Prog × StepW) :=
  match s.prog? sc with
  | none => none
  | some p =>
    match p.phase with
    | .running => if p.chain.isSome || p.postWait then none else (p.stepAt p.flow).map (fun w => (p, w))
    | _ => none

/-- The program holds at this step (R165, R167). -/
def holdsHere (p : Prog) (w : StepW) : Bool := w.fhold && p.pass != some p.flow

/-- The step-cache granule of a step (R183). -/
def State.stepGranule (s : State) (sc : SC) (a : W64) : Nat := ((s.prog? sc).map (fun p => p.stepGranule sc a)).getD (sliceGranule sc 0)

/-- What the copy of a step in the step cache shows when it is read (R216, R218): true when the step can be used. -/
def State.stepEcc (s : State) (sc : SC) (a : W64) (e : Ecc) : State × Bool :=
  let g := s.stepGranule sc a
  let e := withPoison e (s.poisoned g)
  let s := s.eccEvent (s.granuleSite g) e
  if eccBad e then ((s.seqException sc).endIntegrity sc (eccReason e) (some a) (s.granuleSite g), false) else (s, true)

/-- A step is carried out, after the checks that need the step alone (R178). Without a TEST at the flow, a guarded unusual status has the
outcome of a step without GUARD (R152; the TEST may have been changed during a hold, log 21). -/
def State.carryOut (s : State) (sc : SC) (e : Ecc) (want : Op → Bool) (k : State → Prog → StepW → State) : State :=
  match s.stepDue sc with
  | none => s
  | some (p, w) =>
    let o := opOf w.op
    if !want o || (o != .reserved && holdsHere p w) then s
    else
      let (s, ok) := s.stepEcc sc p.flow e
      if !ok then s
      else
        match p.guarded with
        | some g =>
          if o == .test then
            (match earlyCheck w with
              | some f => s.failStep sc p.flow f
              | none => k s p w)
          else (s.modProg sc (fun p => { p with guarded := none })).unguarded sc g true g.last
        | none =>
          match earlyCheck w with
          | some f => s.failStep sc p.flow f
          | none => k s p w

/-! ### Segment lists (R156, R157) -/

/-- The window that holds the first byte of a segment list. -/
def State.listWindow (s : State) (t : Tenant) (a : Nat) : Option Window :=
  ((s.tenant t).binding.map (·.windows)).bind (fun l => l.find? (inWindow a 1))

/-- The next entry of a segment list is read, or found to lie beyond the window. -/
def State.segNext (s : State) (sc : SC) (listAt : Nat) : State :=
  match s.prog? sc with
  | none => s
  | some p =>
    match p.seg with
    | none => s
    | some g =>
      let t := p.start.tenant
      let inside := match s.listWindow t listAt with
        | some w => inWindow g.addr 16 w
        | none => false
      if g.asked || g.done || g.beyond then s
      else if !inside then s.modProg sc (fun p => { p with seg := some { g with beyond := true } })
      else if s.vfMaster t then
        (s.modProg sc (fun p => { p with seg := some { g with asked := true } })).sendRead (hostOf t) (s.pasidOf t)
          (BitVec.ofNat 64 g.addr) 16 (.segments sc)
      else s

/-- The segment list of a step has been read as far as it can be: the segments; none while it is being read. -/
def State.segments (s : State) (sc : SC) (step : W64) (w : StepW) : State × Option SegRead :=
  match (s.prog? sc).bind (·.seg) with
  | some g => if g.done || g.beyond then (s, some g) else (s.segNext sc w.addr, none)
  | none =>
    let s := (s.modProg sc (fun p => { p with seg := some { step := step, addr := w.addr } })).segNext sc w.addr
    (s, ((s.prog? sc).bind (·.seg)).bind (fun g => if g.beyond then some g else none))

/-- One entry is checked against COUNT (R156): the list so far, or nothing where check 7 fails. -/
def segTake (count : Nat) (g : SegRead) (b : Bytes) : Option SegRead :=
  let len := (u16 b 8).toNat
  let sum := g.got.foldl (fun a x => a + x.2) 0 + len
  let got := g.got ++ [((u64 b 0).toNat, len)]
  if len = 0 || !allZero (bslice b 10 6) || count < sum then none
  else if sum = count then some { g with got := got, asked := false, done := true }
  else if Config.segmentLimit ≤ got.length then none
  else some { g with got := got, asked := false, addr := g.addr + 16 }

/-! ### Column maps (R232-R235) -/

/-- The map of a head step: asked for, awaited, or here; check 6 may end the program. -/
def State.columnMap (s : State) (sc : SC) (p : Prog) (w : StepW) : State × Option ColumnMap :=
  match (s.tenant p.start.tenant).binding with
  | none => (s, none)
  | some b =>
    if b.nmaps ≤ w.aux.toNat then (s.stepCheck sc p.flow 6, none)
    else
      match p.map with
      | some (_, bytes) =>
        (match mapGood bytes w.addr with
          | some m => if w.count % m.reclen = 0 then (s, some m) else (s.stepCheck sc p.flow 6, none)
          | none => (s.stepCheck sc p.flow 6, none))
      | none =>
        if p.mapAsked || !s.vfMaster p.start.tenant then (s, none)
        else
          ((s.modProg sc (fun p => { p with mapAsked := true })).sendRead (hostOf p.start.tenant) (s.pasidOf p.start.tenant)
            (b.cmbase + BitVec.ofNat 64 (1024 * w.aux.toNat)) 0x240 (.columnMap sc), none)

/-! ### Device steps (R142, R149, R177, R178) -/

/-- Check 8 (R147): the step after a guarded one is looked at; true when it is a TEST. -/
def State.guardLook (s : State) (sc : SC) (step : W64) (w : StepW) : State × Bool :=
  if w.fguard && !w.flink then
    let (s, here) := s.needStep sc (step + 16)
    if !here then (s, false)
    else
      match ((s.prog? sc).bind (fun p => p.stepAt (step + 16))) with
      | some t => if opOf t.op == .test then (s, true) else (s.stepCheck sc step 8, false)
      | none => (s, false)
  else (s, true)

/-- The rest of a head step's checks, and its command (R149, R178): segment list or column map read, check 8, addresses, then the exchange. -/
def State.headStep (s : State) (sc : SC) (p : Prog) (w : StepW) : State :=
  let (s, map, ready) := if w.fcolumn then
      (let (s, m) := s.columnMap sc p w
       (s, m, m.isSome))
    else (s, none, true)
  if !ready then s
  else
    let (s, seg, ready) := if w.findir then
        (let (s, g) := s.segments sc p.flow w
         (s, g, g.isSome))
      else (s, none, true)
    if !ready then s
    else
      let (s, ok) := s.guardLook sc p.flow w
      if !ok then s
      else
        let cols := match map with
          | some m => colRanges m w.addr 0 (w.count / m.reclen) true
          | none => []
        match s.rangeBad p.start.tenant w seg cols with
        | some n => s.addressCheck sc p.flow n
        | none =>
          let o := opOf w.op
          let c : Chain :=
            { op := w.op, input := o.isInput, output := !o.isInput && decide (0 < w.count), parts := [], whole := !w.flink, guard := w.fguard && !w.flink
              chain := w.fchain && !w.flink, post := w.fpost, last := p.flow, colAux := w.aux
              col := map.map (fun m => { map := m, base := w.addr, engine := 0, streams := m.columns.map (fun c => { next := w.addr + c.offset.toNat, left := none }) }) }
          (((s.modProg sc (fun p => { p with chain := some c, seg := none })).joinPart sc
            { step := p.flow, count := w.count, skip := w.fskip, segs := partSegs w seg }).pushOutput sc).sendChain sc

/-- A continuation step joins the chain, and the transfer goes on (R149). -/
def State.extendChain (s : State) (sc : SC) (a : W64) (w : StepW) (seg : Option SegRead) : State :=
  let part : Part := { step := a, count := w.count, skip := w.fskip, segs := partSegs w seg }
  let s := ((s.modProg sc (fun p => { p with seg := none })).joinPart sc part).modChain sc (fun c => { c with
    whole := !w.flink, guard := w.fguard && !w.flink
    chain := w.fchain && !w.flink, post := c.post || w.fpost, last := a })
  ((s.route 1024 sc).pushOutput sc).chainOn sc

/-- The checks of a continuation step (R149, R178). -/
def State.contStep (s : State) (sc : SC) (p : Prog) (c : Chain) (a : W64) (w : StepW) : State :=
  match earlyContCheck c.input c.col.isSome w with
  | some f => s.failStep sc a f
  | none =>
    let both := w.fcolumn && c.col.isSome
    let len := (c.col.map (fun k => k.map.reclen)).getD 1
    if both && w.count % len != 0 then s.stepCheck sc a 6
    else
      let (s, seg, ready) := if w.findir then
          (let (s, g) := s.segments sc a w
           (s, g, g.isSome))
        else (s, none, true)
      if !ready then s
      else
        let (s, ok) := s.guardLook sc a w
        if !ok then s
        else if (w.fcolumn != c.col.isSome) || (both && w.aux != c.colAux) then s.stepCheck sc a 9
        else
          let cols := match c.col with
            | some k => colRanges k.map k.base (c.total / k.map.reclen) (w.count / k.map.reclen) false
            | none => []
          match s.rangeBad p.start.tenant w seg cols with
          | some n => s.addressCheck sc a n
          | none => s.extendChain sc a w seg

/-- The continuation step that the transfer has reached and whose copy is there. -/
def State.contDue (s : State) (sc : SC) : Option (Prog × Chain × W64 × StepW) :=
  match s.prog? sc with
  | none => none
  | some p =>
    match p.chain with
    | none => none
    | some c =>
      if c.whole || c.moved < c.total then none
      else (p.stepAt (c.last + 16)).map (fun w => (p, c, c.last + 16, w))

/-- CONTINUATION_STEP (R149). -/
def doContinuationStep (sc : SC) (e : Ecc) (s : State) : State :=
  match s.contDue sc with
  | none => s
  | some (p, c, a, w) =>
    let (s, ok) := s.stepEcc sc a e
    if ok then s.contStep sc p c a w else s

/-- The step whose reads have come back goes on. -/
def State.stepGoesOn (s : State) (sc : SC) : State :=
  match s.contDue sc with
  | some (p, c, a, w) => s.contStep sc p c a w
  | none =>
    match s.stepDue sc with
    | some (p, w) => s.headStep sc p w
    | none => s

/-! ### Control operations (R143, R153-R155, R160, R170-R173) -/

/-- Check 11 and the count of control steps in a row (R155). -/
def State.controlStep (s : State) (sc : SC) (p : Prog) (k : State → State) : State :=
  if Config.controlStepLimit ≤ p.controls then s.stepCheck sc p.flow 11
  else k (s.modProg sc (fun p => { p with controls := p.controls + 1 }))

/-- The flow branches away: what was read ahead of it is discarded (R188). -/
def State.branch (s : State) (sc : SC) : State :=
  match s.prog? sc with
  | some p => (s.dropAhead p.ahead).modProg sc (fun p => { p with ahead := [] })
  | none => s

/-- TEST (R152, R153). -/
def State.testStep (s : State) (sc : SC) (p : Prog) (w : StepW) : State :=
  let target := branchTarget p.flow w.aux
  let taken := testTaken w p.s
  match p.guarded with
  | none => if taken then (s.branch sc).goOn sc target p.flow w.fpost else s.controlEnd sc w
  | some g =>
    let s := s.modProg sc (fun p => { p with guarded := none })
    if taken then (if g.post then s.branch sc |>.report sc g.last else s.branch sc).goOn sc target p.flow w.fpost
    else
      let on := !p.s.getLsbD 1 && !p.s.getLsbD 2 && !p.s.getLsbD 6 && w.fchain
      let s := if on && g.post then s.report sc g.last else s
      let s := if on && w.fpost then s.report sc p.flow else s
      s.unguarded sc { g with post := false } w.fchain p.flow

/-- Check 12, the rank rule and, for a post, check 13 (R170-R173, R178); a fenced token ends the program (R416). -/
def State.tokenBad (s : State) (p : Prog) (n : Nat) (post : Bool) : Option Ending :=
  match s.token? n with
  | none => some { code := cStepCheck, reason := 12, step := some p.flow }
  | some k =>
    let above := match p.level with
      | some l => decide (l < k.rank)
      | none => true
    if k.owner != p.start.tenant then some { code := cStepCheck, reason := 12, step := some p.flow }
    else if (!post || p.waited) && !above then some { code := cTokenRank, reason := if post then 2 else 1, step := some p.flow }
    else if k.fenced then some { code := cBalance, reason := 7, step := some p.flow }
    else if post && k.waiters.isEmpty && k.value == 65535 then some { code := cStepCheck, reason := 13, step := some p.flow }
    else none

/-- A wait of the program is satisfied (R171, R173). -/
def State.waitDone (s : State) (sc : SC) (n : Nat) : State :=
  s.modProg sc (fun p => { p with level := (s.token? n).map (·.rank), waited := true })

/-- WAIT-TOKEN (R171). -/
def State.waitStep (s : State) (sc : SC) (p : Prog) (w : StepW) : State :=
  let n := w.aux.toNat
  match s.tokenBad p n false with
  | some e => (s.seqException sc).endProgram sc e 2
  | none =>
    let s := s.modProg sc (fun p => { p with named := n :: p.named })
    match s.token? n with
    | none => s
    | some k =>
      if 0 < k.value && k.waiters.isEmpty then
        ((s.modToken n (fun k => { k with value := k.value - 1 })).waitDone sc n).controlEnd sc w
      else
        (((s.modToken n (fun k => { k with waiters := k.waiters ++ [sc.toNat] })).onProg (fun k => { k with waits := k.waits + 1 })).modProg sc
          (fun p => { p with phase := .waiting s.clk.now, waitNo := s.prog.waits })).planAhead sc

/-- POST-TOKEN takes effect: its checks as it is carried out, then the unit (R171-R173). -/
def State.postEffect (s : State) (sc : SC) : State :=
  match s.prog? sc with
  | none => s
  | some p =>
    match p.stepAt p.flow with
    | none => s
    | some w =>
      let n := w.aux.toNat
      let s := s.modProg sc (fun p => { p with postWait := false })
      match s.tokenBad p n true with
      | some e => (s.seqException sc).endProgram sc e 2
      | none =>
        (((s.book 7 n 1).giveUnit n).modProg sc (fun p => { p with named := n :: p.named })).controlEnd sc w

/-- POST-TOKEN (R172): the effect waits for the read-back of the last host write before it. -/
def State.postStep (s : State) (sc : SC) (p : Prog) (w : StepW) : State :=
  match s.tokenBad p w.aux.toNat true with
  | some e => (s.seqException sc).endProgram sc e 2
  | none =>
    if p.queuedW ≤ p.provenW then s.postEffect sc
    else (s.modProg sc (fun p => { p with postWait := true })).closeKick sc

/-- The TIME frame of MARK-TIME with SEND (R257, R279). -/
def timeFrame (addr : Byte) (dev : W16) (v : W64) : Frame :=
  { control 9 with cuaddr := addr, devaddr := dev, body := padTo 12 (le 8 v.toNat) }

/-- MARK-TIME (R160). -/
def State.markStep (s : State) (sc : SC) (p : Prog) (w : StepW) : State :=
  match p.path with
  | none => s
  | some x =>
    let v := tget 0 s.clk.dies (portDie x.port).val
    let s := State.writeOwn 8 s sc p.xfer w.addr (le 8 v.toNat) none
    let s := if w.aux.getLsbD 0 then
        s.modPort x.port (fun q => { q with controls := q.controls ++ [⟨sealFrame (timeFrame x.addr (s.sub sc).devaddr v), none, []⟩] })
      else s
    s.controlEnd sc w

/-! ### Starts (R125, R181-R184, R218, R492) -/

/-- The subchannel record cannot be read: every program and start of the subchannel ends with INTERNAL, and it refuses starts (R218). -/
def State.spoilSub (s : State) (sc : SC) : State :=
  let s := s.endProgram sc { code := cInternal, step := (s.prog? sc).bind (·.here) } 2
  let l := (s.sub sc).starts
  let s := s.modSub sc (fun b => { b with starts := [], spoiled := true
                                          closing := b.closing.map (fun p => { p with ending := p.ending.map (fun e => { e with code := cInternal, reason := 0, residual := 0 }) }) })
  let s := l.foldl (fun s x => s.endStart sc x cInternal 0) s
  s.closeKick sc

/-- START_BEGIN (R125): due when the subchannel runs and holds no program. -/
def doStartBegin (sc : SC) (e : Ecc) (s : State) : State :=
  if s.side.pinsTaken then s else
  match (s.sub sc).prog, (s.sub sc).starts with
  | none, x :: rest =>
    let site := s.granuleSite (4 * sc.toNat)
    let e := withPoison e ((List.range 4).any (fun i => s.poisoned (4 * sc.toNat + i)))
    let s := s.eccEvent site e
    if eccBad e then (s.spoilSub sc).settle
    else
      let k := groupOf x.program
      let p : Prog := { start := x, flow := x.program, asked := if x.preAsked && x.pre.isNone then [(k, false)] else [] }
      let s := s.modSub sc (fun b => { b with starts := rest, prog := some p })
      let s := match x.pre with
        | some b => s.keepGroup sc k b
        | none => s
      (s.choose sc none).work.settle
  | _, _ => s

/-- PATH_WAIT_END (R182). -/
def doPathWaitEnd (sc : SC) (s : State) : State :=
  match s.prog? sc with
  | none => s
  | some p =>
    match p.phase with
    | .pathWait _ =>
      (match s.choosePath sc p.start.mask none with
        | some x => (s.takePath sc x).settle
        | none => if s.noPath sc p.start.mask = .wait then s else (s.pathEnd sc).settle)
    | _ => s

/-- PATH_WAIT_TIMEOUT (R182): 1 s after the wait began. -/
def doPathWaitTimeout (sc : SC) (s : State) : State :=
  match s.prog? sc with
  | none => s
  | some p =>
    match p.phase with
    | .pathWait t =>
      if t ≤ s.clk.now then
        (match s.choosePath sc p.start.mask none with
          | some x => (s.takePath sc x).settle
          | none => (s.pathEnd sc).settle)
      else s
    | _ => s

/-- START_SLOT_GRANTED (R180, R492): the program that has waited longest on the port goes on; a path that is no longer usable has failed it. -/
def doStartSlotGranted (d : DPort) (s : State) : State :=
  match s.slotQueue d with
  | none => s
  | some sc =>
    match s.prog? sc with
    | none => s
    | some p =>
      match p.path, p.phase with
      | some x, .slotWait _ => (if s.usable x then s.takePath sc x else s.retry sc false).settle
      | _, _ => (s.sendChain sc).settle

/-! ### Holds (R165-R168) -/

/-- The hold report is written, when the read-back has returned and a slot is free, and the subchannel is held (R165). -/
def State.tryHold (s : State) (sc : SC) : State :=
  match s.prog? sc with
  | none => s
  | some p =>
    match p.phase with
    | .holding =>
      if p.queuedW ≤ p.provenW && p.reports.isEmpty && (s.sub sc).closing.isEmpty && s.vfMaster p.start.tenant then
        match s.sq? p.start.tenant p.start.sq with
        | none => s
        | some k =>
          let r : Report := ⟨p.flow, true, p.digest, p.s, p.queuedW⟩
          let (s, ok) := s.writeReport p.start.tenant k.cq { reportCpl p r with sc := sc } p.start.ref p.flow
          if ok then s.modProg sc (fun p => { p with phase := .held, path := none, skipped := false }) else s
      else s
    | _ => s

/-- HOLD_STEP_REACHED (R165). -/
def doHoldStepReached (sc : SC) (s : State) : State :=
  match s.stepDue sc with
  | none => s
  | some (p, w) =>
    if opOf w.op != .reserved && holdsHere p w then
      let s := ((s.emptySlice sc).modProg sc (fun p => { p with phase := .holding, seg := none, map := none, mapAsked := false })).planAhead sc
      let s := (s.fireProg sc 0).lampServe sc .sequencer
      (if s.goesOn sc then (s.closeKick sc).tryHold sc else s).settle
    else s

/-- HOLD_REPORT_SLOT_FREED (R165). -/
def doHoldReportSlotFreed (sc : SC) (s : State) : State := (s.tryHold sc).settle

/-! ### Waits that end (R171, R181, R193) -/

/-- WAITER_RESUME (R171, R181): the WAIT-TOKEN step is done, and the program runs on. -/
def doWaiterResume (sc : SC) (s : State) : State :=
  match s.prog? sc with
  | none => s
  | some p =>
    match p.phase, p.waitToken with
    | .satisfied, some n =>
      let s := (s.waitDone sc n).modProg sc (fun p => { p with phase := .running, controls := 0 })
      match p.stepAt p.flow with
      | none => s
      | some w =>
        match p.stop with
        | some e => (s.stopAt sc e (some p.flow)).settle
        | none =>
        if !w.fchain then (s.endOk sc p.flow).settle
        else
          let s := if w.fpost then s.report sc p.flow else s
          let s := s.modProg sc (fun q => { q with flow := p.flow + 16, seg := none, map := none, pass := none })
          (match p.path with
            | some x => if s.usable x then s.takePath sc x else s.choose sc none
            | none => s.choose sc none).settle
    | _, _ => s

/-- BUSY_RETRY_TIMER (R193): 1 ms after the busy answer. -/
def doBusyRetryTimer (sc : SC) (s : State) : State :=
  match (s.prog? sc).bind (·.busy) with
  | none => s
  | some b =>
    if b.waiting && b.retryAt ≤ s.clk.now then
      ((s.modProg sc (fun p => { p with busy := some { b with waiting := false } })).sendChain sc).settle
    else s

/-- Waiters of a tenant: subchannel, the number of its wait in the order waits began, a start behind it. -/
def State.waitersOf (s : State) (t : Tenant) : List (SC × Nat × Bool) :=
  s.prog.subs.filterMap (fun b => match b.2.prog with
    | some p =>
      (match p.phase with
        | .waiting _ => if p.start.tenant == t then some (BitVec.ofNat 18 b.1, p.waitNo, !b.2.starts.isEmpty) else none
        | _ => none)
    | none => none)

/-- A waiter ends with FOG-BOUND (R197). -/
def State.fogBound (s : State) (detail : Byte) (sc : SC) : State :=
  s.endProgram sc { code := cFogBound, reason := detail, step := (s.prog? sc).bind (·.here) } 2

/-- Waiters in the order they began to wait. -/
def insertBySince (x : SC × Nat) : List (SC × Nat) → List (SC × Nat)
  | [] => [x]
  | y :: r => if x.2 < y.2 then x :: y :: r else y :: insertBySince x r

/-- QUIET_TIMEOUT (R197): 100 ms of quiet. -/
def doQuietTimeout (t : Tenant) (s : State) : State :=
  match (s.tenant t).quiet with
  | none => s
  | some q =>
    if q + Config.ms100Ticks ≤ s.clk.now then
      let l := (s.waitersOf t).foldl (fun (a : List (SC × Nat)) x => insertBySince (x.1, x.2.1) a) []
      let behind := (s.waitersOf t).filter (fun (x : SC × Nat × Bool) => x.2.2)
      (match l.find? (fun (x : SC × Nat) => behind.any (fun (y : SC × Nat × Bool) => y.1 == x.1)) with
        | some x => (s.fogBound 0 x.1).modTenant t (fun k => { k with quiet := none })
        | none => l.foldl (fun s (x : SC × Nat) => s.fogBound 1 x.1) s).settle
    else s

/-! ### Reads of a program (R65, R156, R161-R164, R186, R234) -/

/-- The step that an arrival at a group was for. -/
def Prog.arrivedAt (p : Prog) (k : Nat) : W64 :=
  match p.chain with
  | some c => if groupOf (c.last + 16) = k then c.last + 16 else c.last + 32
  | none => if groupOf p.flow = k then p.flow else p.flow + 16

/-- STEP_GROUP_READ_COMPLETE (R65, R161-R164, R184). -/
def doStepGroupReadComplete (sc : SC) (addr : W64) (r : Dma) (s0 : State) : State :=
  let k := groupOf addr
  let b := s0.sub sc
  let inProg := ((b.prog.map (fun p => (tfind p.asked k).isSome)).getD false)
  let isStart := fun (x : Start) => x.preAsked && x.pre.isNone && groupOf x.program == k
  let (s, wanted) := s0.takeRead (.group sc addr) (bnat inProg + (b.starts.filter isStart).length)
  if !wanted then s
  else if inProg then
    match b.prog with
    | none => s
    | some p =>
      let arrived := tget false p.asked k
      let s := s.modProg sc (fun p => { p with asked := tdel p.asked k })
      -- The flow may have arrived at a group that was being read ahead: that is a new arrival (R163, R164).
      let again := match p.chain with
        | some _ => s.chainOn sc
        | none => if groupOf p.flow = k && p.phase == Phase.running then s.arrive sc else s
      (match r with
        | .ok data =>
          if p.groups.length < Config.groupsPerExecution then
            (let s := s.keepGroup sc k (padTo 64 data)
             (if p.phase == Phase.running then s.lookahead sc else s).pushOutput sc)
          else if arrived then s.stepCheck sc (p.arrivedAt k) 10
          else again
        | _ => if arrived then s.readFailed sc (p.arrivedAt k) r else again).settle
  else
    let rec first (l : List Start) : List Start :=
      match l with
      | [] => []
      | x :: rest =>
        if isStart x then
          (match r with
            | .ok data => { x with pre := some (padTo 64 data) } :: rest
            | _ => { x with preAsked := false } :: rest)
        else x :: first rest
    s.modSub sc (fun b => { b with starts := first b.starts })

/-- SEGMENT_LIST_READ_COMPLETE (R65, R156, R178 check 7). -/
def doSegmentListReadComplete (sc : SC) (r : Dma) (s0 : State) : State :=
  let live := bnat (((s0.prog? sc).bind (·.seg)).map (·.asked) |>.getD false)
  let (s, wanted) := s0.takeRead (.segments sc) live
  if !wanted then s
  else
    match s.prog? sc with
    | none => s
    | some p =>
      match p.seg with
      | none => s
      | some g =>
        (match r with
          | .ok data =>
            let count := ((p.stepAt g.step).map (fun (w : StepW) => w.count)).getD 0
            (match segTake count g (padTo 16 data) with
              | none => s.stepCheck sc g.step 7
              | some g => (s.modProg sc (fun p => { p with seg := some g })).stepGoesOn sc)
          | _ => s.readFailed sc g.step r).settle

/-- COLUMN_MAP_READ_COMPLETE (R65, R234). -/
def doColumnMapReadComplete (sc : SC) (r : Dma) (s0 : State) : State :=
  let (s, wanted) := s0.takeRead (.columnMap sc) (bnat (((s0.prog? sc).map (·.mapAsked)).getD false))
  if !wanted then s
  else
    match s.prog? sc with
    | none => s
    | some p =>
      (match r with
        | .ok data => (s.modProg sc (fun p => { p with map := some (p.flow, padTo 0x240 data), mapAsked := false })).stepGoesOn sc
        | _ => (s.modProg sc (fun p => { p with mapAsked := false })).readFailed sc p.flow r).settle

/-- The mover whose running host read an output read of a subchannel belongs to: an ended program's first. -/
def State.outputMover (s : State) (sc : SC) : Option (Nat × Nat × Desc) :=
  let l := s.data.movers.filterMap (fun m => match m.2.running with
    | some (c, d, landed) => if d.kind == 1 && d.sc == sc && !landed then some (m.1, c, d) else none
    | none => none)
  let live := (s.prog? sc).map (·.xfer)
  match l.find? (fun x => some x.2.2.xfer != live) with
  | some x => some x
  | none => l.head?

/-- A descriptor is done: its mover is free for the next, its slot is given back (R240, R242). -/
def State.freeMover (s : State) (m : Nat) : State :=
  ((s.onData (fun d => { d with movers := tupd d.movers m (fun x => { x with running := none }) })).book 8 m (-1)).admitDescs

/-- OUTPUT_READ_COMPLETE (R65, R186, R245): the bytes of the range land in staging; a read that failed ahead of need is made again when the
unit asks for its bytes. -/
def doOutputReadComplete (sc : SC) (r : Dma) (s0 : State) : State :=
  match s0.outputMover sc with
  | none => (s0.takeRead (.output sc) 0).1
  | some (m, ch, d) =>
    let (s, wanted) := s0.takeRead (.output sc) 1000000
    if !wanted then s
    else
      (match r with
        | .ok data =>
          let b := (padTo (roundedRead d.addr d.len).2 data).drop (d.addr % 64) |>.take d.len
          let (s, piece) := s.allocBuf none b
          s.onData (fun x => { x with movers := tupd x.movers m (fun k => { k with
            running := some (ch, { d with bytes := b, run := some piece.run }, true) }) })
        | _ =>
          let (s, bad) := (s.freeMover m).missOutput d
          match bad with
          | some step => s.readFailed sc step r
          | none => s).settle

/-! ### The read-back (R159, R165, R172, R187, R200) -/

/-- The returned bytes that the program wrote are those it wrote. -/
def rbMatches (w : List (Option Byte)) (got : Bytes) : Bool :=
  (w.zip (List.range w.length)).all (fun x => match x.1 with
    | some b => byteAt got x.2 == b
    | none => true)

/-- A read-back has failed (R159, R165, R172, R200, R209). A waiting program, and one whose step is being carried out, ends at its next step boundary
(R159). Where a POST report and a POST-TOKEN await the same read-back, STEPADDR names the report's step (DESIGN CHOICE, log 128). -/
def State.rbFailed (s : State) (sc : SC) (p : Prog) : State :=
  match p.phase with
  | .closing =>
    ((s.logIntegrity sc p 3 writerSite).modXfer sc p.xfer (fun q => { q with
      provenW := q.queuedW, rbFinal := true, reports := []
      ending := q.ending.map (fun e => if integrityCode e.code && e.code != cIntegrity then e else
        { e with code := cIntegrity, reason := 3, residual := 0, step := match q.reports with
          | r :: _ => some r.step
          | [] => e.step }) })).closeKick sc
  | _ =>
    match p.reports with
    | r :: _ =>
      let e : Ending := { code := cIntegrity, reason := 3, step := some r.step }
      let s := (s.logIntegrity sc p 3 writerSite).modXfer sc p.xfer (fun q => { q with reports := [], stop := some e, provenW := q.queuedW })
      let mid := p.chain.isSome || (match p.phase with
        | .waiting _ | .satisfied => true
        | _ => false)
      if mid then s.closeKick sc else s.endProgram sc e 2
    | [] => s.endIntegrity sc 3 p.here writerSite

/-- A read-back has returned and agrees: what waited for it goes on. -/
def State.rbGood (s : State) (sc : SC) (p : Prog) (r : ReadBack) : State :=
  let s := (s.modXfer sc p.xfer (fun q => { q with
    provenW := max q.provenW r.writes, rbFinal := q.rbFinal || r.final, pages := q.pages.filter (fun x => r.writes < x.2) })).closeKick sc
  match s.prog? sc with
  | none => s
  | some q =>
    if q.postWait && q.queuedW ≤ q.provenW then s.postEffect sc
    else ((s.tryHold sc).pushOutput sc).chainOn sc

/-- The program whose read-back comes back: the one closing longest, else the running one. -/
def State.rbProg (s : State) (sc : SC) : Option Prog := (s.sub sc).progs.find? (fun p => p.rb.isSome)

/-- The read-back's outcome (R200). -/
def State.rbDone (s : State) (sc : SC) (r : Dma) : State :=
  match s.rbProg sc with
  | none => s
  | some p =>
    match p.rb with
    | none => s
    | some b =>
      let s := s.modXfer sc p.xfer (fun q => { q with rb := none })
      match r with
      | .ok data => if rbMatches b.dw data then s.rbGood sc p b else s.rbFailed sc p
      | _ => s.rbFailed sc p

/-- READBACK_COMPLETE (R200). `hashMisses`: times the two hash engines disagreed on the record that this command writes (R418): each counts
at the completion writer, and the third enters the safe state before the record is written. -/
def doReadbackComplete (sc : SC) (r : Dma) (hashMisses : Nat) (s0 : State) : State :=
  let live := ((s0.sub sc).progs.filter (fun p => p.rb.isSome)).length
  let (s, wanted) := s0.takeRead (.readback sc) live
  if !wanted then s
  else
    let t := ((s.rbProg sc).map (fun p => p.start.tenant)).getD 0
    let done := s.rbDone sc r
    if hashMisses = 0 || (done.tenant t).jseq == (s.tenant t).jseq then done.settle
    else
      let s := (List.range (min 3 hashMisses)).foldl (fun s _ => s.countOnly writerSite) s
      ((if 3 ≤ hashMisses then s.enterSafe 4 writerSite else s).rbDone sc r).settle

/-! ### Columnizer engines (R231) -/

/-- COLUMNIZER_ENGINE_GRANTED (R231): the head step that has waited longest on the die takes a free engine. -/
def doColumnizerEngineGranted (d : Die) (s : State) : State :=
  match (s.pool d).waiting with
  | [] => s
  | w :: _ => (s.sendChain (BitVec.ofNat 18 w)).settle

/-! ### Meanings -/

def execStartBegin (sc : SC) (e : Ecc) (s : State) : Host.Outcome State Fault Refusal := .next (doStartBegin sc e s)
def execPathWaitEnd (sc : SC) (s : State) : Host.Outcome State Fault Refusal := .next (doPathWaitEnd sc s)
def execPathWaitTimeout (sc : SC) (s : State) : Host.Outcome State Fault Refusal := .next (doPathWaitTimeout sc s)
def execStartSlotGranted (p : DPort) (s : State) : Host.Outcome State Fault Refusal := .next (doStartSlotGranted p s)
/-- READ_STEP: OP 0x00-0x3F (R142). -/
def execReadStep (sc : SC) (e : Ecc) (s : State) : Host.Outcome State Fault Refusal :=
  .next (s.carryOut sc e (· == .read) (fun s p w => s.headStep sc p w)).settle
/-- WRITE_STEP: OP 0x40-0x7F (R142). -/
def execWriteStep (sc : SC) (e : Ecc) (s : State) : Host.Outcome State Fault Refusal :=
  .next (s.carryOut sc e (· == .write) (fun s p w => s.headStep sc p w)).settle
/-- SENSE_STEP: OP 0x80-0xBF (R142). -/
def execSenseStep (sc : SC) (e : Ecc) (s : State) : Host.Outcome State Fault Refusal :=
  .next (s.carryOut sc e (· == .sense) (fun s p w => s.headStep sc p w)).settle
/-- CONTROL_STEP: OP 0xC0-0xEF (R142). -/
def execControlStep (sc : SC) (e : Ecc) (s : State) : Host.Outcome State Fault Refusal :=
  .next (s.carryOut sc e (· == .control) (fun s p w => s.headStep sc p w)).settle
def execContinuationStep (sc : SC) (e : Ecc) (s : State) : Host.Outcome State Fault Refusal := .next (doContinuationStep sc e s).settle
def execTest (sc : SC) (e : Ecc) (s : State) : Host.Outcome State Fault Refusal :=
  .next (s.carryOut sc e (· == .test) (fun s p w => s.controlStep sc p (fun s => s.testStep sc p w))).settle
/-- GO (R154). -/
def execGo (sc : SC) (e : Ecc) (s : State) : Host.Outcome State Fault Refusal :=
  .next (s.carryOut sc e (· == .go) (fun s p w => s.controlStep sc p (fun s => (s.branch sc).goOn sc (branchTarget p.flow w.aux) p.flow w.fpost))).settle
def execWaitToken (sc : SC) (e : Ecc) (s : State) : Host.Outcome State Fault Refusal :=
  .next (s.carryOut sc e (· == .wait) (fun s p w => s.controlStep sc p (fun s => s.waitStep sc p w))).settle
def execPostToken (sc : SC) (e : Ecc) (s : State) : Host.Outcome State Fault Refusal :=
  .next (s.carryOut sc e (· == .post) (fun s p w => s.controlStep sc p (fun s => s.postStep sc p w))).settle
/-- MARK-TIME (R160): its window check comes before check 11 (R178). -/
def execMarkTime (sc : SC) (e : Ecc) (s : State) : Host.Outcome State Fault Refusal :=
  .next (s.carryOut sc e (· == .mark) (fun s p w =>
    if s.inWindows p.start.tenant w.addr 8 then s.controlStep sc p (fun s => s.markStep sc p w) else s.addressCheck sc p.flow 6)).settle
/-- NOP (R160). -/
def execNop (sc : SC) (e : Ecc) (s : State) : Host.Outcome State Fault Refusal :=
  .next (s.carryOut sc e (· == .nop) (fun s p w => s.controlStep sc p (fun s => s.controlEnd sc w))).settle
/-- RESERVED_CONTROL_OPERATION (R143): check 1, before any hold (R165). -/
def execReservedControlOperation (sc : SC) (e : Ecc) (s : State) : Host.Outcome State Fault Refusal :=
  .next (s.carryOut sc e (· == .reserved) (fun s p _ => s.stepCheck sc p.flow 1)).settle
def execHoldStepReached (sc : SC) (s : State) : Host.Outcome State Fault Refusal := .next (doHoldStepReached sc s)
def execHoldReportSlotFreed (sc : SC) (s : State) : Host.Outcome State Fault Refusal := .next (doHoldReportSlotFreed sc s)
def execWaiterResume (sc : SC) (s : State) : Host.Outcome State Fault Refusal := .next (doWaiterResume sc s)
def execStepGroupReadComplete (sc : SC) (addr : W64) (r : Dma) (s : State) : Host.Outcome State Fault Refusal :=
  .next (doStepGroupReadComplete sc addr r s)
def execSegmentListReadComplete (sc : SC) (r : Dma) (s : State) : Host.Outcome State Fault Refusal :=
  .next (doSegmentListReadComplete sc r s)
def execColumnMapReadComplete (sc : SC) (r : Dma) (s : State) : Host.Outcome State Fault Refusal :=
  .next (doColumnMapReadComplete sc r s)
def execOutputReadComplete (sc : SC) (r : Dma) (s : State) : Host.Outcome State Fault Refusal := .next (doOutputReadComplete sc r s)
def execBusyRetryTimer (sc : SC) (s : State) : Host.Outcome State Fault Refusal := .next (doBusyRetryTimer sc s)
def execQuietTimeout (t : Tenant) (s : State) : Host.Outcome State Fault Refusal := .next (doQuietTimeout t s)
def execReadbackComplete (sc : SC) (r : Dma) (hashMisses : Nat) (s : State) : Host.Outcome State Fault Refusal :=
  .next (doReadbackComplete sc r hashMisses s)
def execColumnizerEngineGranted (d : Die) (s : State) : Host.Outcome State Fault Refusal := .next (doColumnizerEngineGranted d s)

end Sys2Proof.Machine
end

