-- ==== Sys2Proof/Machine/Movers.lean ====
section
/-! DEFINITION. Machine/Movers.lean: the block movers (R240-R248, R357), the scrubber (R219), the staging-memory windows (R226, R227). -/

namespace Sys2Proof.Machine

open Sys2Proof

/-! ### A descriptor begins (R242-R244) -/

/-- CLK_F cycles since reset: five a CLK_P period (R33, R35). -/
def State.cycleF (s : State) : Nat := 5 * s.clk.now

/-- Staging granules that a descriptor touches, from its offset in the buffer on (R243). -/
def descGranules (d : Desc) : Nat :=
  let off := (d.run.map (fun r => r.off)).getD 0
  (off + d.len + 63) / 64 - off / 64

/-- The rate limiter, a pause, and a timer's pacing allow the channel's next descriptor (R243, R244, R357); a host read needs a buffer. -/
def State.chanReady (s : State) (c : Channel) : Bool :=
  match c.queue with
  | [] => false
  | d :: _ => 0 < c.share && c.notBefore ≤ s.cycleF && (!c.paced || 0 < c.grants) && (d.kind != 1 || 0 < s.sharedOpen)

/-- The channel served next: those that are ready in turn, after the one served last (R242). -/
def State.nextChannel (s : State) (m : MoverSt) : Option Nat :=
  roundRobinFrom m.lastCh ((m.channels.filter (fun c => s.chanReady c.2)).map (fun (c : Nat × Channel) => c.1))
where
  roundRobinFrom (last : Nat) (l : List Nat) : Option Nat :=
    match l.find? (fun c => last < c) with
    | some c => some c
    | none => l.head?

/-- What the granules of a staging write show to the mover that reads them (R216, R218): poison found there counts besides what the read says. -/
def State.srcEcc (s : State) (d : Desc) (e : Ecc) : Ecc :=
  withPoison e ((d.run.map s.runPoison).getD false)

/-- The site of a descriptor's first granule. -/
def State.descSite (s : State) (d : Desc) : W32 :=
  s.granuleSite (((d.run.map s.runGranules).bind (·.head?)).getD (bufGranule 0))

/-- A descriptor of a host write that is not made is done with (R218): the write counts as issued with its last descriptor. -/
def State.skipWrite (s : State) (d : Desc) : State :=
  s.modXfer d.sc d.xfer (fun p =>
    if d.more then { p with spoilt := true }
    else { p with
      spoilt := false, issuedW := p.issuedW + 1
      provenW := if p.lastDw.isNone then max p.provenW (p.issuedW + 1) else p.provenW })

/-- A host write whose data cannot be trusted is not made; its program ends, or ends differently, with INTEGRITY (R209, R218). -/
def State.poisonWrite (s : State) (d : Desc) (reason : Byte) (site : W32) : State :=
  let s := (s.skipWrite d).modXfer d.sc d.xfer (fun p => { p with
    ending := p.ending.map (fun e => if integrityCode e.code then e else { e with code := cIntegrity, reason := reason, residual := 0 }) })
  match s.prog? d.sc with
  | some p => if p.xfer == d.xfer then s.endIntegrity d.sc reason p.here site else s.closeKick d.sc
  | none => s.closeKick d.sc

/-- MOVER_DESCRIPTOR_BEGIN (R242-R245). -/
def doMoverDescriptorBegin (m : MoverNum) (e : Ecc) (s : State) : State :=
  let x := s.mover m
  if x.fenced || x.retired || x.testing || x.running.isSome || !s.data.inService then s
  else
    match s.nextChannel x with
    | none => s
    | some ch =>
      let c := tget {} x.channels ch
      match c.queue with
      | [] => s
      | d :: rest =>
        let pause := (16 * descGranules d + c.share - 1) / c.share
        let s := s.modMover m (fun x => { x with
          running := some (ch, d, false), lastCh := ch
          channels := tset x.channels ch { c with queue := rest, notBefore := s.cycleF + pause, grants := c.grants - 1 } })
        if d.kind = 1 then
          let r := roundedRead d.addr d.len
          s.sendRead (hostOf d.tenant) d.pasid (BitVec.ofNat 64 r.1) r.2 (.output d.sc)
        else
          let e := s.srcEcc d e
          let site := s.descSite d
          let s := s.eccEvent site e
          if eccBad e then (((s.freeMover m.val).dropRuns d.run.toList).poisonWrite d (eccReason e) site).settle else s.settle

/-! ### A descriptor completes (R229, R247, R248) -/

/-- The bytes of a DW after a write: those written now, and those the program wrote there just before (R200). -/
def dwBytes (old : Option (Nat × List (Option Byte))) (addr : Nat) (b : Bytes) : Option (Nat × List (Option Byte)) :=
  if b.isEmpty then old
  else
    let a := (addr + b.length - 1) / 4 * 4
    some (a, (List.range 4).map (fun i =>
      if addr ≤ a + i && a + i < addr + b.length then some (byteAt b (a + i - addr))
      else match old with
        | some o => if o.1 = a then o.2.getD i none else none
        | none => none))

/-- Output has been stored: it is readable from now on (R247). -/
def State.outputStored (s : State) (d : Desc) : State :=
  match d.run with
  | none => s
  | some r => ((s.landOutput d { buf := r.buf, epoch := r.epoch, bytes := d.bytes }).pushOutput d.sc).chainOn d.sc

/-- The digests of a data chain of plain input, compared after its last descriptor, before any read-back of it (R200, R229): a difference ends the
program with INTEGRITY, and no report that awaits those writes is posted (R199). -/
def State.compareDue (s : State) (d : Desc) : State :=
  match s.progX? d.sc d.xfer with
  | none => s
  | some p =>
    match p.compare with
    | [] => s
    | x :: r =>
      let s := s.modXfer d.sc d.xfer (fun p => { p with compare := r })
      if x == p.egress then s
      else if p.phase == .closing then
        ((s.logIntegrity d.sc p 1 writerSite).modXfer d.sc d.xfer (fun p => { p with
          reports := []
          ending := p.ending.map (fun e => if integrityCode e.code then e else { e with code := cIntegrity, reason := 1, residual := 0 }) }))
      else (s.modXfer d.sc d.xfer (fun p => { p with reports := [] })).endIntegrity d.sc 1 p.here writerSite

/-- A descriptor of a host write has moved its bytes: the egress digest goes on (R229, R239); with the last of the write, the last DW (R248). -/
def State.writeIssued (s : State) (d : Desc) : State :=
  let s := s.modXfer d.sc d.xfer (fun p =>
    let p := { p with egress := if d.digest && !d.column then digest p.egress d.bytes else p.egress }
    if d.more then p else { p with issuedW := p.issuedW + 1, lastDw := dwBytes p.lastDw (d.addr - d.head.length) (d.head ++ d.bytes) })
  let s := (if d.last then s.compareDue d else s).freeEngine d.frees
  (s.closeKick d.sc).tryHold d.sc

/-- MOVER_DESCRIPTOR_COMPLETE (R247). -/
def doMoverDescriptorComplete (m : MoverNum) (s : State) : State :=
  match (s.mover m).running with
  | none => s
  | some (_, d, landed) =>
    if d.kind = 1 then (if landed then ((s.freeMover m.val).outputStored d).settle else s)
    else if ((s.progX? d.sc d.xfer).map (fun p => p.spoilt && !d.head.isEmpty)).getD false then
      ((((s.dropRuns d.run.toList).freeMover m.val).skipWrite d).closeKick d.sc).settle
    else
      let p := hostOf d.tenant
      let s := if !d.more && (s.host p).alive then s.sendWrite p d.pasid (BitVec.ofNat 64 (d.addr - d.head.length)) (d.head ++ d.bytes) else s
      (((s.dropRuns d.run.toList).freeMover m.val).writeIssued d).settle

/-! ### The scrubber (R219) -/

/-- Granules of staging memory (R213). -/
def stagingGranules : Nat := 0xC00000000 / 64

/-- A number put in its place in a rising list. -/
def insertNat (n : Nat) : List Nat → List Nat
  | [] => [n]
  | x :: r => if n < x then n :: x :: r else x :: insertNat n r

/-- SCRUB_GRANULE (R219): a correction is written back, an uncorrectable granule is poisoned, whether or not it was written. A pass reads every granule
once: it ends with the last one left, and a granule that it has read is not read again (DEDUCED, log 129). -/
def doScrubGranule (g : BitVec 30) (e : Ecc) (s : State) : State :=
  if !s.data.inService || stagingGranules ≤ g.toNat || s.data.scrubbed.contains g.toNat then s
  else
    let s := s.onData (fun d =>
      if d.scrubbed.length + 1 = stagingGranules then { d with scrubbed := [], scrubPass := satInc d.scrubPass }
      else { d with scrubbed := insertNat g.toNat d.scrubbed })
    match e with
    | .good => s
    | .poison => s
    | .corrected r b => (s.eccEvent (s.granuleSite g.toNat) (.corrected r b)).settle
    | .uncorrectable r b =>
      ((s.onData (fun d => { d with granules := tmod {} d.granules g.toNat (fun x => { x with poison := true }) })).eccEvent
        (s.granuleSite g.toNat) (.uncorrectable r b)).settle

/-! ### Windows (R226, R227) -/

/-- A request is small (R226): the scrubber's, and those outside the port FIFO spill and data staging regions (R213). -/
def smallRequest (r : BitVec 30 × Bool) : Bool :=
  let g := r.1.toNat
  r.2 || !((0x44000000 / 64 ≤ g && g < 0x1C4000000 / 64) || (bufGranule 0 ≤ g && g < 0xA44000000 / 64))

/-- The small requests that a controller still holds when a window ends (R226): while bulk requests wait, small ones are at most one sixteenth of those it
accepts, one for each fifteen bulk ones; the others are served first in the next window, in order. -/
def heldSmall (c : CtrlLoad) (before : List Nat) : List Nat :=
  let small := before ++ (c.reqs.filter smallRequest).map (fun r => r.1.toNat)
  if c.bulkWaits then small.drop ((c.reqs.filter (fun r => !smallRequest r)).length / 15) else []

/-- SMALL_BUDGET_WINDOW (R226): a window in which the budget held a small request is counted. -/
def doSmallBudgetWindow (w : WindowLoad) (s : State) : State :=
  if !s.data.inService then s
  else
    let h0 := heldSmall w.c0 (tget [] s.data.smallQ 0)
    let h1 := heldSmall w.c1 (tget [] s.data.smallQ 1)
    s.onData (fun d => { d with
      smallQ := tset (tset d.smallQ 0 h0) 1 h1
      smallHeld := if h0.isEmpty && h1.isEmpty then d.smallHeld else satInc d.smallHeld })

/-- The pseudo-channel with most requests, ties to the lowest, with its count. -/
def busiest (counts : List Nat) : Nat × Nat :=
  (List.range 64).foldl (fun (b : Nat × Nat) i => if b.2 < counts.getD i 0 then (i, counts.getD i 0) else b) (0, counts.getD 0 0)

/-- SMC_IMBAL of a window: busiest over mean in 8.8 fixed point, and the pseudo-channel (R227). The ratio is rounded down to a multiple of 1/256
(DESIGN CHOICE, log 130). -/
def imbalWord (counts : List Nat) : W32 :=
  let (i, n) := busiest counts
  let sum := (List.range 64).foldl (fun a i => a + counts.getD i 0) 0
  BitVec.ofNat 32 (min 0xFFFF (n * 64 * 256 / sum) + 65536 * i)

/-- IMBALANCE_WINDOW (R227): the requests that each pseudo-channel took in the window. A window without requests has no stated ratio: a free value
(log 22). Of two windows with the same ratio the peak keeps the earlier one's pseudo-channel (DESIGN CHOICE, log 130). -/
def doImbalanceWindow (counts : List Nat) (s : State) : State :=
  if !s.data.inService then s
  else
    let none1 := (List.range 64).all (fun i => counts.getD i 0 == 0)
    let w := if none1 then s.freeVal &&& 0x003FFFFF else imbalWord counts
    let s := if none1 then s.useFree else s
    s.onData (fun d => { d with imbal := w, imbalPk := if d.imbalPk.setWidth 16 < w.setWidth 16 then w else d.imbalPk })

/-! ### Meanings -/

def execMoverDescriptorBegin (m : MoverNum) (e : Ecc) (s : State) : Host.Outcome State Fault Refusal := .next (doMoverDescriptorBegin m e s)
def execMoverDescriptorComplete (m : MoverNum) (s : State) : Host.Outcome State Fault Refusal := .next (doMoverDescriptorComplete m s)
def execScrubGranule (g : BitVec 30) (e : Ecc) (s : State) : Host.Outcome State Fault Refusal := .next (doScrubGranule g e s)
def execSmallBudgetWindow (w : WindowLoad) (s : State) : Host.Outcome State Fault Refusal := .next (doSmallBudgetWindow w s)
def execImbalanceWindow (counts : List Nat) (s : State) : Host.Outcome State Fault Refusal := .next (doImbalanceWindow counts s)

end Sys2Proof.Machine
end

