-- ==== Sys2Proof/Machine/Domains.lean ====
section
/-! DEFINITION. Machine/Domains.lean: the numbered power domains (R427-R433): switching on with dependencies, withdrawal and its drain,
what a domain that has been off comes up with. -/

namespace Sys2Proof.Machine

open Sys2Proof

/-! ### Domains and what they hold (R427, R428) -/

def State.dom (s : State) (n : Nat) : Domain := tget {} s.power.domains n
def State.modDom (s : State) (n : Nat) (f : Domain → Domain) : State :=
  s.onPower (fun p => { p with domains := tmod {} p.domains n f })

/-- The two ports of port-pair domain `n`. -/
def ppPorts (n : Nat) : List DPort := (List.finRange 96).filter (fun d => portPP d == n)

/-- The Lamp cluster domain that serves a port (R427): that of the serving pair, else the one of its half of the die. -/
def State.lcOfPort (s : State) (d : DPort) : Nat :=
  match s.servingPair (portSlot d) with
  | some c => pairDomain c
  | none => 48 + 2 * (d.val / 24) + d.val % 24 / 12

/-- The Lamp cluster domains that a port-pair domain depends on. -/
def State.lcsOf (s : State) (n : Nat) : List Nat :=
  ((ppPorts n).map s.lcOfPort).foldl (fun (l : List Nat) x => if l.contains x then l else l ++ [x]) []

def State.hbmOn (s : State) : Bool := s.domOn 56 && s.domOn 57

/-- A port-pair or Lamp cluster domain lies on a channel die that was left dark at bring-up (R428, R461). -/
def State.onDarkDie (s : State) (n : Nat) : Bool :=
  if n < 48 then s.fw.dark.contains (n / 12) else if n < 56 then s.fw.dark.contains ((n - 48) / 2) else false

/-- What must be on before a domain comes on (R427). -/
def State.needsOf (s : State) (n : Nat) : List Nat :=
  if n < 48 then s.lcsOf n ++ [56, 57, 60]
  else if n < 56 || n = 61 then [56, 57, 60]
  else if n < 60 then [60]
  else []

/-! ### Requests (R430-R432, R509) -/

/-- A domain is asked on, with the Lamp cluster domains it depends on (R430); a withdrawal that has not gone off yet is called back. -/
def State.requestOn (s : State) (n : Nat) : State :=
  let ask := fun (s : State) (k : Nat) =>
    let x := s.dom k
    if x.on then (if x.switching = some false || x.withdrawn then s.modDom k (fun x => { x with switching := none, withdrawn := false, drainUntil := none, hot := false }) else s)
    else s.modDom k (fun x => { x with switching := some true, withdrawn := false, ended := 0, hot := false })
  let s := if n < 48 then (s.lcsOf n).foldl ask s else s
  ask s n

/-- The programs that wait for a slot or a tag on a port choose again (R431). -/
def State.chooseAgain (s : State) (d : DPort) : State :=
  s.prog.subs.foldl (fun s b =>
    let sc : SC := BitVec.ofNat 18 b.1
    match s.prog? sc with
    | some p =>
      if p.path.map (·.port) == some d then
        (match p.phase with
        | .slotWait _ => s.choose sc none
        | _ => if p.tagWait.isSome then s.moveAway sc d else s)
      else s
    | none => s) s

/-- A domain is asked off (R431, R432): the ports of a port pair stop being usable at once, and a host port acts as under PERST#. -/
def State.requestOff (s : State) (n : Nat) : State :=
  if !(s.dom n).on then s
  else
    let s := s.modDom n (fun x => { x with
      switching := some false, withdrawn := true, ended := 0, drainUntil := if n < 48 then some (s.clk.now + Config.drainTicks) else none })
    if n < 48 then (ppPorts n).foldl (fun s d => (s.firePort d 6).chooseAgain d) s
    else if n = 58 || n = 59 then
      let p : HPort := if n = 58 then 0 else 1
      (s.resetHost p true).repace
    else s

/-! ### Finishing (R428, R430, R431) -/

/-- A port has no exchange open and no ABORT to send. -/
def State.portDrained (s : State) (d : DPort) : Bool := (s.port d).exch.isEmpty && (s.port d).controls.all (fun x => x.tag.isNone)

/-- A tenant of a host port drains still (R51). -/
def State.hostDraining (s : State) (p : HPort) : Bool :=
  s.queues.tenants.any (fun x => hostOf (BitVec.ofNat 12 x.1) == p && x.2.flrDrain.isSome)

/-- A port is held to half rate (R103, R267, R391, R509). -/
def State.halfRate (s : State) (d : DPort) : Bool :=
  s.power.throttle || s.therm.throttle || tget false s.therm.dieThrottle (1 + d.val / 24)

/-- The half rate of every port follows its causes. -/
def State.rethrottle (s : State) : State :=
  (List.finRange 96).foldl (fun s d =>
    if (s.port d).throttle = s.halfRate d then s else s.modPort d (fun p => { p with throttle := s.halfRate d })) s

/-- A port whose domain goes off: nothing of it survives but what others hold, its fences and its retirement (R430, R519); its instances of
accounts 0x01, 0x02 and 0x04 are zeroed (R418). -/
def State.portOff (s : State) (d : DPort) : State :=
  let s := s.darken d
  let s := s.modPort d (fun p => { fences := p.fences, retired := p.retired, refusedAt := p.refusedAt, equaliser := p.equaliser })
  (((s.addFence d .domain).zeroAcct 1 d.val).zeroAcct 2 d.val).zeroAcct 4 d.val

/-- The cage of a port-pair domain loses its power with the last of the cage's four domains (R286). -/
def State.cageIfIdle (s : State) (n : Nat) : State :=
  if [0, 1, 2, 3].any (fun i => s.domOn (4 * (n / 4) + i)) then s
  else if h : n / 4 < 12 then s.unpowerCage ⟨n / 4, h⟩ else s

/-- The pairs of a Lamp cluster domain stop. -/
def State.clusterOff (s : State) (n : Nat) : State :=
  let s := ((List.finRange 41).filter (fun c => pairDomain c == n)).foldl (fun s c => s.modPair c (fun p => { retired := p.retired, failures := p.failures })) s
  let d := (n - 48) / 2
  if s.domOn (48 + 2 * d) || s.domOn (49 + 2 * d) then s
  else (s.onEvus (fun t => tdel t (d + 1))).onBanks (fun t => tdel t (d + 1))

/-- Staging memory loses its contents, the fault log and the held journal records among them (R214, R423, R207). -/
def State.dropStaging (s : State) : State :=
  let s := s.onData (fun d => { d with
    inService := false, freeBuf := Config.stagingBuffers - d.withheld.length, granules := [], fresh := 0, freed := [], epochs := [], spread := 0
    refs := [], owners := [], portUse := [], lookStop := false, scrubbed := [], smallQ := [], starts := [] })
  let s := s.onFaults (fun f => { f with log := [], lost := 0 })
  s.onHosts (fun t => t.map (fun h => (h.1, { h.2 with held := [], heldStop := false })))

/-- The record columnizer pools at their reset values, engines out of service kept so. -/
def State.poolsFresh (s : State) : State :=
  s.onData (fun d => { d with pools := d.pools.map (fun k => (k.1, { retired := k.2.retired })) })

/-- Domain `n` goes off, and what it holds with it (R428, R430). -/
def State.domainOff (s : State) (n : Nat) : State :=
  let s := s.modDom n (fun x => { on := false, ended := x.ended, hot := x.hot, testing := x.testing })
  if n < 48 then ((ppPorts n).foldl State.portOff s).cageIfIdle n
  else if n < 56 then s.clusterOff n
  else if n < 58 then (s.dropStaging).onFw (fun f => { f with hbm := false })
  else if n = 61 then s.poolsFresh
  else s

/-- A Lamp pair that comes up serves the slot of its own number where no other pair does, and else is a spare (R29, R430). -/
def State.startPair (s : State) (c : PairNum) : State :=
  if (s.pair c).retired then s
  else
    let k := 8 * (c.val / 10) + c.val % 10
    let slot := if c.val % 10 < 8 && (s.servingPair k).isNone then some k else none
    s.loadPair c s.fw.release slot

/-- A port whose domain has come on (R430, R477): its cage is powered, or its lane lit where the module is ready. -/
def State.portOn (s : State) (d : DPort) : State :=
  let s := (s.liftFence d .domain).modPort d (fun p => { p with throttle := s.halfRate d })
  if (s.cage (portCage d)).powered then
    (if (s.cage (portCage d)).ready then s.light d else s.awaitModule d)
  else s

/-- Domain `n` comes on from its reset values. -/
def State.domainOn (s : State) (n : Nat) : State :=
  let s := s.modDom n (fun _ => { on := true })
  if n < 48 then
    let s := (ppPorts n).foldl State.portOn s
    if h : n / 4 < 12 then
      (if (tget {} s.list.cages (n / 4)).state = 1 then s.powerCage ⟨n / 4, h⟩ else s)
    else s
  else if n < 56 then ((List.finRange 41).filter (fun c => pairDomain c == n)).foldl State.startPair s
  else if n = 58 || n = 59 then
    let p : HPort := if n = 58 then 0 else 1
    if (s.host p).perst then s else s.emit (.retryStatus p)
  else if n = 61 then s.poolsFresh
  else s

/-- The order that waits for a domain is answered (R389). -/
def State.domainReply (s : State) (n ended : Nat) : State :=
  [(0 : HPort), 1].foldl (fun s p =>
    match (s.oq p).active with
    | some a => if (match a.stage with
        | .domainSwitch m => m.val == n
        | _ => false) then s.done p (le 4 ended) else s
    | none => s) s

/-! ### Ordered self-tests: which run, and the order's reply (R475, R477, R479) -/

/-- Extra draw of a domain under test, in units of 0.5 W (R475). -/
def testDraw (n : Nat) : Nat := if n < 48 then 2 else if n < 56 then 3 else if n = 60 then 8 else 4

/-- Tests begin in ascending order of domain, once the domain is off, while the draw stays within 20 W; none begins under the fog signal. -/
def State.startTests (s : State) : State :=
  if s.foggy then s
  else
    let used := ((s.fw.tests.filter (·.started)).map (fun t => testDraw t.dom)).foldl (· + ·) 0
    let r := s.fw.tests.foldl (fun (x : Nat × List TestRun) t =>
      if !t.started && !s.domOn t.dom && decide (x.1 + testDraw t.dom ≤ 2 * Config.testDrawW) then (x.1 + testDraw t.dom, x.2 ++ [{ t with started := true }])
      else (x.1, x.2 ++ [t])) (used, [])
    s.onFw (fun f => { f with tests := r.2 })

/-- START-SELF-TEST is answered when every named domain has returned. -/
def State.testReply (s : State) : State :=
  [(0 : HPort), 1].foldl (fun s p =>
    match (s.oq p).active with
    | some a => if a.stage == .selfTest && s.fw.tests.isEmpty &&
        (List.range 62).all (fun n => !(u64 a.packet 0x10).getLsbD n || ((s.dom n).switching.isNone && !(s.dom n).testing))
      then s.done p (le 8 s.fw.failedDoms.toNat) else s
    | none => s) s

/-- A domain is ready to finish switching. -/
def State.switchDue (s : State) (n : Nat) : Bool :=
  match (s.dom n).switching with
  | none => false
  | some true => (s.needsOf n).all s.domOn && !s.onDarkDie n
  | some false =>
    if n < 48 then (ppPorts n).all s.portDrained
    else if n = 58 then !s.hostDraining 0
    else if n = 59 then !s.hostDraining 1
    else true

/-- DOMAIN_SWITCH_COMPLETE (R430). -/
def doDomainSwitchComplete (n : Dom) (s : State) : State :=
  if s.switchDue n.val then
    let ended := (s.dom n.val).ended
    let s := match (s.dom n.val).switching with
      | some true => s.domainOn n.val
      | _ => s.domainOff n.val
    (((s.fire 0 (196 + n.val)).domainReply n.val ended).startTests.testReply).settle
  else s

/-- DOMAIN_DRAIN_EXPIRY (R431): the exchanges that remain get ABORT reason 6; the fog signal goes before it (R433). -/
def doDomainDrainExpiry (n : Dom) (s : State) : State :=
  match (s.dom n.val).drainUntil with
  | some t =>
    if t ≤ s.clk.now then
      let ends := (ppPorts n.val).foldl (fun a d => a + ((s.port d).exch.filter (fun e => match e.2.owner with
        | .prog _ => true
        | .ident _ => false)).length) 0
      let s := s.modDom n.val (fun x => { x with drainUntil := none, ended := x.ended + ends })
      ((ppPorts n.val).foldl (fun s d => s.allExch d (fun s g => s.abortEnd d 6 cAbortedDomain (BitVec.ofNat 8 n.val) g)) s).settle
    else s
  | none => s

/-! ### Meanings -/

def execDomainSwitchComplete (n : Dom) (s : State) : Host.Outcome State Fault Refusal := .next (doDomainSwitchComplete n s)
def execDomainDrainExpiry (n : Dom) (s : State) : Host.Outcome State Fault Refusal := .next (doDomainDrainExpiry n s)

end Sys2Proof.Machine
end

