-- ==== Sys2Proof/Machine/Cages.lean ====
section
/-! DEFINITION. Machine/Cages.lean: cages and their modules (R43, R103, R259, R284-R286, R464, R465, R513). -/

namespace Sys2Proof.Machine

open Sys2Proof

/-- Waves not yet begun resume at the clear of the fog signal, in cage order, 100 ms apart (R465). -/
def State.rewave (s : State) : State :=
  let cs := (List.finRange 12).filter (fun c => s.list.waves.any (fun w => w.1 == c))
  let ws := (cs.zip (List.range 12)).map (fun (x : CageNum × Nat) => (x.1, s.clk.now + Config.ms100Ticks * x.2))
  s.onList (fun l => { l with
    waves := ws
    lastSlot := match ws.getLast? with
      | some w => some (max w.2 (l.lastSlot.getD 0))
      | none => l.lastSlot })

/-- A cage's entry in the list. -/
def State.cageEntry (s : State) (c : CageNum) : CageEntry := tget {} s.list.cages c.val

/-- CAGE_WAVE_START (R464): due at the cage's slot, unless the fog signal is raised (R465). -/
def doCageWaveStart (c : CageNum) (s : State) : State :=
  if !s.foggy && s.list.waves.any (fun w => w.1 == c && decide (w.2 ≤ s.clk.now)) then
    let s := s.onList (fun l => { l with waves := l.waves.filter (fun w => w.1 != c) })
    if (s.cageEntry c).state = 1 then
      let s := if s.hbmOn then
          [0, 1, 2, 3].foldl (fun (s : State) (i : Nat) =>
            let n := 4 * c.val + i
            if tget false s.therm.dieWithdrawn (1 + n / 12) then s else s.requestOn n) s
        else s
      -- A cage is powered for a domain that is on or coming on (R286).
      let s := if [0, 1, 2, 3].any (fun i => s.domOn (4 * c.val + i) || ((s.dom (4 * c.val + i)).switching == some true && !s.onDarkDie (4 * c.val + i)))
        then s.powerCage c else s
      (if (s.cage c).ready then (cagePorts c).foldl (fun s d => s.light d) s else s).settle
    else s
  else s

/-- MODULE_IN_LOW_POWER_MODE (R103, R259 step 2, R284): identifier, media type and maximum power are checked; the
lanes' transmit equalisers are set from the media type (R250). -/
def doModuleInLowPowerMode (c : CageNum) (ident media power : Byte) (s : State) : State :=
  let g := s.cage c
  let e := s.cageEntry c
  if g.powered && g.present && !g.checked then
    let s := (cagePorts c).foldl (fun s d => (s.liftFence d .cageType).liftFence d .cagePower) s
    (if ident != e.ident || (e.media != 0xFF && media != e.media) then
      ((s.modCage c (fun g => { g with failed := true, readyBy := none })).fenceCage c .cageType).logCage c none
    else if min e.pmax.toNat 32 < power.toNat then
      ((s.modCage c (fun g => { g with failed := true, readyBy := none })).fenceCage c .cagePower).logCage c (some (power.setWidth 16))
    else
      let s := (cagePorts c).foldl (fun s d => s.modPort d (fun p => { p with equaliser := some (Config.equaliser media) })) s
      (s.modCage c (fun g => { g with
        checked := true, failed := false, readyBy := some (s.clk.now + Config.cageReadyTicks) })).emit (.cageHighPower c)).settle
  else s

/-- MODULE_READY (R259 steps 3 and 4): the fences of the cage lift themselves (R281), and named lanes are lit. -/
def doModuleReady (c : CageNum) (s : State) : State :=
  let g := s.cage c
  if g.powered && g.present && g.checked && !g.ready then
    let s := (s.modCage c (fun g => { g with ready := true, readyBy := none, recheckAt := none })).liftCage c
    ((cagePorts c).foldl (fun s d => s.light d) s).settle
  else s

/-- CAGE_READY_TIMEOUT (R259): 300 ms after step 2. -/
def doCageReadyTimeout (c : CageNum) (s : State) : State :=
  match (s.cage c).readyBy with
  | some t =>
    if t ≤ s.clk.now && !(s.cage c).ready then
      (((s.modCage c (fun g => { g with readyBy := none, recheckAt := some (s.clk.now + Config.fiveSecTicks) })).fenceCage c .cageAbsent).logCage c none).settle
    else s
  | none => s

/-- CAGE_RECHECK (R259): every 5 s, from step 2. -/
def doCageRecheck (c : CageNum) (s : State) : State :=
  match (s.cage c).recheckAt with
  | some t =>
    if t ≤ s.clk.now then s.modCage c (fun g => { g with recheckAt := none, checked := false, readyBy := some (s.clk.now + Config.cageReadyTicks) })
    else s
  | none => s

/-- MODULE_INSERTED (R103, R285, R513): ModPrsL goes low (R284, R327). -/
def doModuleInserted (c : CageNum) (s : State) : State :=
  let g := s.cage c
  if g.present then s
  else
    let s := (s.pinShows (184 + c.val) false).modCage c (fun g => { g with present := true, reported := false })
    if (s.cageEntry c).state != 1 then
      (if s.list.loaded then ((s.modCage c (fun g => { g with reported := true })).logCage c none).settle else s)
    else if g.tripped then
      let s := s.modCage c (fun g => { g with tripped := false })
      (if [0, 1, 2, 3].any (fun i => s.domOn (4 * c.val + i)) then s.powerCage c else s).settle
    else if g.powered then
      ((s.liftCage c).modCage c (fun g => { g with
        checked := false, ready := false, failed := false, recheckAt := none
        readyBy := some (s.clk.now + Config.ms100Ticks + Config.cageReadyTicks) })).settle
    else (s.liftCage c).settle

/-- MODULE_REMOVED (R285): the eight ports retrain and are fenced as absent. -/
def doModuleRemoved (c : CageNum) (s : State) : State :=
  let g := s.cage c
  if !g.present then s
  else
    let s := (s.pinShows (184 + c.val) true).modCage c (fun g => { g with
      present := false, checked := false, ready := false, failed := false, readyBy := none, recheckAt := none, reported := true })
    if g.powered || (s.cageEntry c).state = 1 then
      let s := (cagePorts c).foldl (fun s d =>
        let s := (if (s.port d).txOn then s.retrain d else s).darken d
        if g.powered then s.awaitModule d else s) s
      ((s.fenceCage c .cageAbsent).logCage c none).settle
    else s

/-- CAGE_INTL (R285): a monitor alarm or warning of the module. -/
def doCageIntl (c : CageNum) (reading : W16) (s : State) : State :=
  if (s.cage c).powered && (s.cage c).present then (s.logCage c (some reading)).settle else s

/-- CMIS_MONITOR_POLL (R284): temperature and receive power of the eight lanes. -/
def doCmisMonitorPoll (c : CageNum) (temp : W16) (rx : List W16) (s : State) : State :=
  if (s.cage c).powered && (s.cage c).present then s.modCage c (fun g => { g with temp := temp, rx := rx.take 8 }) else s

/-- CAGE_SWITCH_TRIP (R513). -/
def doCageSwitchTrip (c : CageNum) (s : State) : State :=
  if (s.cage c).powered then
    ((((s.unpowerCage c).modCage c (fun g => { g with tripped := true, tripAt := some s.clk.now })).fenceCage c .cagePower).logCage c none).settle
  else s

/-! ### Meanings -/

def execCageWaveStart (c : CageNum) (s : State) : Host.Outcome State Fault Refusal := .next (doCageWaveStart c s)
def execModuleInLowPowerMode (c : CageNum) (ident media power : Byte) (s : State) : Host.Outcome State Fault Refusal :=
  .next (doModuleInLowPowerMode c ident media power s)
def execModuleReady (c : CageNum) (s : State) : Host.Outcome State Fault Refusal := .next (doModuleReady c s)
def execCageReadyTimeout (c : CageNum) (s : State) : Host.Outcome State Fault Refusal := .next (doCageReadyTimeout c s)
def execCageRecheck (c : CageNum) (s : State) : Host.Outcome State Fault Refusal := .next (doCageRecheck c s)
def execModuleInserted (c : CageNum) (s : State) : Host.Outcome State Fault Refusal := .next (doModuleInserted c s)
def execModuleRemoved (c : CageNum) (s : State) : Host.Outcome State Fault Refusal := .next (doModuleRemoved c s)
def execCageIntl (c : CageNum) (reading : W16) (s : State) : Host.Outcome State Fault Refusal := .next (doCageIntl c reading s)
def execCmisMonitorPoll (c : CageNum) (temp : W16) (rx : List W16) (s : State) : Host.Outcome State Fault Refusal :=
  .next (doCmisMonitorPoll c temp rx s)
def execCageSwitchTrip (c : CageNum) (s : State) : Host.Outcome State Fault Refusal := .next (doCageSwitchTrip c s)

end Sys2Proof.Machine
end

