-- ==== Sys2Proof/Machine/Keeper.lean ====
section
/-! DEFINITION. Machine/Keeper.lean: the keeper's registers, retention file and time bridge (R440, R447-R451), and the counters that the Tender
reads and READ-FAULT-LOG copies (R227, R289). -/

namespace Sys2Proof.Machine

open Sys2Proof

/-! ### The retention file (R448) -/

/-- Bytes 0x00-0x7B. -/
def retBody (r : Retention) : Bytes :=
  le 4 r.magic.toNat ++ [r.mode, r.wake, r.rstCause, r.flags] ++ le 8 r.t1.toNat ++ le 8 r.t2.toNat ++ le 8 r.k1.toNat ++ le 8 r.kb.toNat ++
    le 4 r.frac.toNat ++ le 4 r.bridges.toNat ++ le 4 r.wakeMask.toNat ++ zeros 4 ++ le 8 r.wakeAt.toNat ++ le 8 r.fogAt.toNat ++
    le 4 r.fogs.toNat ++ zeros 0x30

/-- The file with MAGIC and its CHECK. -/
def retSeal (r0 : Retention) : Retention :=
  let r := { r0 with magic := 0x4B509640 }
  { r with check := crc32c (retBody r) }

/-- MAGIC and CHECK are right. -/
def retValid (r : Retention) : Bool := r.magic == 0x4B509640 && r.check == crc32c (retBody r)

/-- The 256 bytes. -/
def retBytes (r : Retention) : Bytes := retBody r ++ le 4 r.check.toNat ++ (List.range 128).map (fun i => r.work.read (0x80 + i))

/-- The file from its bytes; those that R448 gives as zero are not kept. -/
def retOf (b : Bytes) : Retention :=
  { magic := u32 b 0, mode := byteAt b 4, wake := byteAt b 5, rstCause := byteAt b 6, flags := byteAt b 7, t1 := u64 b 8, t2 := u64 b 0x10
    k1 := u48 b 0x18, kb := u48 b 0x20, frac := u32 b 0x28, bridges := u32 b 0x2C, wakeMask := u32 b 0x30, wakeAt := u48 b 0x38
    fogAt := u48 b 0x40, fogs := u32 b 0x48, check := u32 b 0x7C
    work := (List.range 128).foldl (fun m i => Memory.write m (0x80 + i) (byteAt b (0x80 + i))) [] }

/-! ### The bridge (R451) -/

/-- T2 and FRAC after `kb` keeper ticks from T1 with a carried fraction. -/
def bridge (t1 : W64) (kb : W48) (frac : W32) : W64 × W32 :=
  let x := kb.toNat * 0x12A05F200000 + frac.toNat
  (t1 + BitVec.ofNat 64 (x / 2 ^ 32), BitVec.ofNat 32 x)

/-! ### Registers (R440, R447) -/

def kprSupply (k : Keeper) : W32 := BitVec.ofNat 32 (k.supply.toNat + 4096 * bnat k.fog + 8192 * bnat k.overV)

/-- A read of a keeper register at a byte offset. -/
def State.kprRead (s : State) (off : Nat) : State × W32 :=
  let k := s.keeper
  if 0x100 ≤ off && off < 0x200 then (s, u32 (retBytes k.ret) (off - 0x100))
  else match off with
    | 0x000 => (s, Config.kprId)
    | 0x004 => (s.onKeeper (fun k => { k with cntHi := (k.counter >>> 32).setWidth 16 }), k.counter.setWidth 32)
    | 0x008 => (s, k.cntHi.setWidth 32)
    | 0x00C => (s, kprSupply k)
    | 0x010 => (s, k.wakeMask)
    | 0x014 => (s, k.wakeAt.setWidth 32)
    | 0x018 => (s, (k.wakeAt >>> 32).setWidth 32)
    | 0x01C => (s.onKeeper (fun k => { k with wakeCause := 0 }), k.wakeCause)
    | 0x024 => (s, k.decide.setWidth 32)
    | _ => (s, 0)

/-- The reserved bits of the keeper register at a byte offset (R440, R447). -/
def kprRsv (off : Nat) : W32 :=
  if 0x100 ≤ off && off < 0x200 then 0
  else match off with
    | 0x000 => 0
    | 0x004 => 0
    | 0x008 => 0xFFFF0000
    | 0x00C => 0xFFFFC000
    | 0x010 => 0xFFFFFFE0
    | 0x014 => 0
    | 0x018 => 0xFFFF0000
    | 0x01C => 0xFFFFFFE0
    | 0x020 => 0xFFFFFFFC
    | 0x024 => 0xFFFFFFFC
    | _ => BitVec.allOnes 32

/-- A write of a keeper register; reserved bits are not stored, and logged (R14). -/
def State.kprWrite (s0 : State) (off : Nat) (v : W32) : State :=
  let s := s0.ioReserved wakeSite off (kprRsv off) v
  if 0x100 ≤ off && off < 0x200 then
    s.onKeeper (fun k => { k with ret := retOf (setBytes (retBytes k.ret) ((off - 0x100) / 4 * 4) (le 4 v.toNat)) })
  else match off with
    | 0x010 => s.onKeeper (fun k => { k with wakeMask := v &&& 0x1F })
    | 0x014 => s.onKeeper (fun k => { k with wakeAtLo := v })
    | 0x018 => s.onKeeper (fun k => { k with wakeAt := BitVec.ofNat 48 (v.toNat % 65536 * 2 ^ 32 + k.wakeAtLo.toNat) })
    | 0x020 => s.onKeeper (fun k => { k with sleepReq := v.setWidth 2, decide := 0 })
    | _ => s

/-! ### The staging-memory controller (R227) -/

def State.smcWords (s : State) : List W32 :=
  let d := s.data
  [BitVec.ofNat 32 d.freeBuf, d.ceCnt, d.ueCnt, d.poisRd, d.imbal, d.imbalPk, d.smallHeld, d.scrubPass]

/-- The read-to-clear ones are cleared: all of them, or the one at an offset. -/
def State.smcClear (s : State) (off : Option Nat) : State :=
  let hit := fun (n : Nat) => off.isNone || off == some n
  s.onData (fun d => { d with
    ceCnt := if hit 4 then 0 else d.ceCnt, ueCnt := if hit 8 then 0 else d.ueCnt, poisRd := if hit 0xC then 0 else d.poisRd
    imbalPk := if hit 0x14 then 0 else d.imbalPk, smallHeld := if hit 0x18 then 0 else d.smallHeld })

/-- The reserved bits of the staging-memory controller's register at a byte offset (R227). -/
def smcRsv (off : Nat) : W32 := if off = 0x10 || off = 0x14 then 0xFFC00000 else if off < 0x20 then 0 else BitVec.allOnes 32

/-! ### Port registers (R289) -/

/-- The reserved bits of the port register at a byte offset (R289). -/
def slpRsv (off : Nat) : W32 :=
  match off with
  | 0x00 => 0xE000F800
  | 0x04 => 0xE000E000
  | 0x30 => 0x7FE00000
  | _ => if off < 0x38 then 0 else BitVec.allOnes 32

def packHalves (lo hi : Nat) : W32 := BitVec.ofNat 32 (lo % 65536 + 65536 * (hi % 65536))

def State.slpWords (s : State) (d : DPort) : List W32 :=
  let p := s.port d
  [slpState p, packHalves p.openCount p.quar.length, packHalves p.dHand p.dOut, packHalves p.cHand p.cOut, p.stale, p.frmerr, p.pcrc,
    packHalves p.resendTx.toNat p.resendRx.toNat, p.unnamed, p.retrains, p.fecCorr, p.fecUnc,
    BitVec.ofNat 32 (min (s.spill d) 0x1FFFFF + 2 ^ 31 * bnat p.stall), p.stallCnt, 0, 0]

def State.slpClear (s : State) (d : DPort) (off : Option Nat) : State :=
  let hit := fun (n : Nat) => off.isNone || off == some n
  s.modPort d (fun p => { p with
    stale := if hit 0x10 then 0 else p.stale, frmerr := if hit 0x14 then 0 else p.frmerr, pcrc := if hit 0x18 then 0 else p.pcrc
    resendTx := if hit 0x1C then 0 else p.resendTx, resendRx := if hit 0x1C then 0 else p.resendRx
    unnamed := if hit 0x20 then 0 else p.unnamed, retrains := if hit 0x24 then 0 else p.retrains
    fecCorr := if hit 0x28 then 0 else p.fecCorr, fecUnc := if hit 0x2C then 0 else p.fecUnc
    stallCnt := if hit 0x34 then 0 else p.stallCnt })

end Sys2Proof.Machine
end

