-- ==== Sys2Proof/Machine/Pairs.lean ====
section
/-! DEFINITION. Machine/Pairs.lean: failures of Hild-14 pairs, takeover, self-test and reload, restart of the Tender (R295-R302, R377). -/

namespace Sys2Proof.Machine

open Sys2Proof

def tender : PairNum := 40

/-- A pair may be loaded and run: its domain is on. -/
def State.pairPowered (s : State) (c : PairNum) : Bool := s.domOn (pairDomain c)

def causeNumber : PairCause → Nat
  | .divergence => 1 | .ecc => 2 | .doubleTrap => 3 | .watchdog => 4

/-- KIND 0x03 (R296, R425): the cause, and the pair that takes over. -/
def State.logPair (s : State) (c : PairNum) (cause : PairCause) (taker : Nat) : State :=
  s.logFault 3 (pairSite c) whoNone (BitVec.ofNat 64 (causeNumber cause + 256 * taker))

/-- A rotating test of a Lamp pair stops (R482). -/
def State.dropPairTest (s : State) (x : PairNum) : State :=
  s.onFw (fun f => { f with rotating := f.rotating.filter (· != .lampPair x), again := f.again.filter (· != .lampPair x) })

/-- When a spare of a die is taken by a takeover, the test in progress on the other spare stops, and that pair is reloaded (R482). -/
def State.stopPairTests (s : State) (c : PairNum) : State :=
  (List.finRange 41).foldl (fun s x =>
    if x != c && x.val < 40 && pairDie x == pairDie c && s.fw.rotating.contains (.lampPair x) then
      ((s.dropPairTest x).modPair x (fun p => { p with testing := false })).loadPair x s.fw.release none
    else s) (s.dropPairTest c)

/-- Reads that the Tender makes for an order, a Light List or an image, are given up when it stops (R302). -/
def tenderRead : ReadKey → Bool
  | .lightList _ => true
  | .image _ => true
  | _ => false
def State.dropTenderReads (s : State) : State := (s.dropKeys 0 tenderRead).dropKeys 1 tenderRead

/-- The Tender fails while it restarts into a new image: the activation is answered RESTARTED in the end (R470). -/
def State.spoilActivation (s : State) (p : HPort) : State :=
  s.modOq p (fun o => { o with active := o.active.map (fun a => if a.stage == .activate then { a with restarted := true } else a) })

/-- The Tender takes no orders and messages: its reads are given up, and it stops. -/
def State.tenderStops (s : State) : State := ((s.onCores (fun k => { k with tenderUp := false })).dropTenderReads).stopPair 40

/-- A pair fails (R296, R297, R300-R302): it is stopped and the failure logged; a Lamp pair's ports pass to a spare or go out of service, and its
self-test begins; the Tender takes no orders and messages until it has restarted. -/
def State.failPair (s : State) (c : PairNum) (cause : PairCause) : State :=
  if c = tender then
    (((s.tenderStops).spoilActivation 0).spoilActivation 1).logPair c cause 0xFF
  else
    let taker := if (s.pair c).slot.isSome then (match s.spareFor c with
      | some b => b.val % 10
      | none => 0xFF) else 0xFF
    let s := ((s.takeover c).stopPair c).modPair c (fun p => { p with testing := true, failures := p.failures + 1 })
    ((if taker = 0xFF then s.dropPairTest c else s.stopPairTests c)).logPair c cause taker

/-- PAIR_FAILURE (R296): due while the pair runs. -/
def doPairFailure (c : PairNum) (cause : PairCause) (s : State) : State :=
  if (s.pair c).running then (s.failPair c cause).settle else s

/-- KIND 0x0A of a unit (R425, R478, R520). -/
def State.logMismatch (s : State) (site : W32) (dom : Nat) (mbist : Bool) : State :=
  (s.fireReport site).logEntry 0x0A (if s.recordFull then 3 else 1) 0 site whoNone (BitVec.ofNat 64 (dom + 256 * bnat mbist))

/-- PAIR_SELFTEST_COMPLETE (R300): the pair stands as a spare again, or is retired. -/
def doPairSelftestComplete (c : PairNum) (pass : Bool) (s : State) : State :=
  let p := s.pair c
  if c = tender || !p.testing || p.retired || !s.pairPowered c then s
  else
    let s := s.fire 0 170
    (if pass then (s.modPair c (fun p => { p with testing := false })).loadPair c s.fw.release none
    else (((s.modPair c (fun p => { p with testing := false })).logMismatch (pairSite c) (pairDomain c) false).actSite (pairSite c) 0 2).1).settle

/-! ### The patrol of on-die memories (R295, R306, R484) -/

/-- A macro of an ECC-protected memory on a die (R25, R484). -/
def patrolled (site : W32) : Bool := siteNamed site && isRow site && decide (fieldOf site 28 26 ≤ 4)

/-- The pair whose memory a site lies in (R24). -/
def pairOfSite (site : W32) : Option PairNum :=
  match unitOf site with
  | .pair c => some c
  | .tender => some tender
  | _ => none

/-- A corrected error of a pair's memory counts in the half of ECCST for that memory, which stops at all ones (R295, R306). -/
def State.countEcc (s : State) (site : W32) : State :=
  match pairOfSite site with
  | some c => s.modPair c (fun p =>
      if Config.programMacro (fieldOf site 11 0) then { p with eccp := satInc p.eccp } else { p with eccd := satInc p.eccd })
  | none => s

/-- An uncorrectable error of a running pair's memory is a failure of the pair (R295). -/
def State.memoryFailure (s : State) (site : W32) : State :=
  match pairOfSite site with
  | some c => if (s.pair c).running then s.failPair c .ecc else s
  | none => s

/-- SRAM_PATROL (R484): an error of an on-die word is corrected and counts at its site (R420). -/
def doSramPatrol (site : W32) (e : Ecc) (s : State) : State :=
  if !patrolled site then s
  else match e with
    | .good => s
    | .poison => s
    | .corrected r b => ((s.countEcc site).logFault 1 site whoNone (eccDetail r b)).settle
    | .uncorrectable r b => ((s.logFault 2 site whoNone (eccDetail r b)).memoryFailure site).settle

/-! ### The Tender's restart (R302, R377, R470) -/

/-- The Tender has failed and is to be restarted. -/
def State.tenderDown (s : State) : Bool :=
  !s.cores.tenderUp && !s.cores.tenderDead && !(s.pair tender).running && s.fw.hub && s.fw.booted

/-- TENDER_RESTART (R302, R476): the memories are tested and the pair is reloaded from the running image, or from the one that RUN names once an
activation has written it (R470). A failed test is a failure of the Tender. -/
def doTenderRestart (pass : Bool) (s : State) : State :=
  if !s.tenderDown then s
  else if !pass then ((((s.spoilActivation 0).spoilActivation 1).logMismatch (pairSite tender) 60 true).countOnly (pairSite tender)).settle
  else s.loadPair tender s.fw.release none

/-- The image slot that is written: the one that is not running; in recovery A, or B while A is valid (R467). -/
def Firmware.target (f : Firmware) : Bool := if f.recovery then f.imgA.valid else !f.image

def State.setImage (s : State) (b : Bool) (x : ImageSlot) : State := s.onFw (fun f => if b then { f with imgB := x } else { f with imgA := x })

/-- What an order that had been taken and not replied to leaves when the Tender restarts (R377): an activation of firmware is answered from the new image, with PF vector 5 on both host ports (R469, R470); one whose effect stands recorded is answered once
that effect is whole; of any other nothing stands. -/
def State.restartOrder (s : State) (p : HPort) : State :=
  match (s.oq p).active with
  | none => s
  | some a =>
    if a.effected && a.stage == .activate then (s.done p (le 4 s.fw.release.toNat)).pfVector 5
    else if a.effected then
      let s := s.modOq p (fun o => { o with active := o.active.map (fun a => { a with restarted := true }) })
      (match a.stage with
        | .none => s.done p []
        | _ => s)
    else
      let s := match a.stage with
        | .sleep _ => s.onOrders (fun o => { o with sleeping := false, bells := [] })
        | .stageRead _ _ => s.setImage s.fw.target {}
        | .stageWrite _ => s.setImage s.fw.target {}
        | _ => s
      (s.onceReplied p .none).putReply p s.clk.hub 0x6000 []

/-- TENDER_RESTART_COMPLETE (R302, R377). -/
def doTenderRestartComplete (s : State) : State :=
  if (s.pair tender).running && !s.cores.tenderUp && s.fw.hub then
    let s := s.onCores (fun k => { k with tenderUp := true })
    (((s.restartOrder 0).restartOrder 1).fetchOrders 0 |>.fetchOrders 1).settle
  else s

/-! ### Meanings -/

def execSramPatrol (site : W32) (e : Ecc) (s : State) : Host.Outcome State Fault Refusal := .next (doSramPatrol site e s)

def execPairFailure (c : PairNum) (cause : PairCause) (s : State) : Host.Outcome State Fault Refusal := .next (doPairFailure c cause s)
def execPairSelftestComplete (c : PairNum) (pass : Bool) (s : State) : Host.Outcome State Fault Refusal := .next (doPairSelftestComplete c pass s)
def execTenderRestart (pass : Bool) (s : State) : Host.Outcome State Fault Refusal := .next (doTenderRestart pass s)
def execTenderRestartComplete (s : State) : Host.Outcome State Fault Refusal := .next (doTenderRestartComplete s)

end Sys2Proof.Machine
end

