-- ==== Sys2Proof/Machine/Rings.lean ====
section
/-! DEFINITION. Machine/Rings.lean: the order-queue registers and the reading of order slots (R366-R368), orders with a reserved opcode, and the small
orders of module scope that read or set one thing (R378, R391, R393-R396, R399, R400, R404). -/

namespace Sys2Proof.Machine

open Sys2Proof

/-! ### Registers of the order queue (R366-R368) -/

/-- OQ_DB, checked as R114 checks a doorbell. -/
def doOqDb (p : HPort) (value : W32) (s0 : State) : State :=
  if !s0.reachable (.pf p) then s0
  else
    let off := 0x10014
    let s := (s0.noteReserved (.pf p) off (fieldOf value 31 16)).work
    let o := s.oq p
    let v := fieldOf value 15 0
    let n := (v + o.size - o.tail % o.size) % o.size
    if !o.en || o.size ≤ v || o.size - 1 < o.tail - o.head + n then (s.accessError (.pf p) off .doorbell).settle
    else (((s.modOq p (fun o => { o with tail := o.tail + n })).fire 0 (161 + p.val)).fetchOrders p).settle

/-- The reads of a ring's order slots, given up with the ring (R52, R368). -/
def slotRead : ReadKey → Bool
  | .orderSlot _ => true
  | _ => false

/-- A write of OQ_CTL (R367, R368): a DLOG while EN = 1, and an EN = 1 that may not be set, are ignored and logged. -/
def State.oqCtl (s0 : State) (p : HPort) (value : W32) : State :=
  let off := 0x10010
  let s := s0.noteReserved (.pf p) off (fieldOf value 7 1 + fieldOf value 31 12)
  let o := s.oq p
  let en := value.getLsbD 0
  let dlog : BitVec 4 := BitVec.ofNat 4 (fieldOf value 11 8)
  let ignored := s.accessError (.pf p) off .other
  if o.en then
    let s := if dlog = o.dlog then s else ignored
    if en then s else (s.dropKeys p slotRead).modOq p (fun o => { dropOrders false o with obase := o.obase, rbase := o.rbase, dlog := o.dlog })
  else if !en then s.modOq p (fun o => { o with dlog := dlog })
  else if dlog.toNat < 1 || 8 < dlog.toNat || o.obase.toNat % 4096 != 0 || o.rbase.toNat % 4096 != 0 then ignored
  else s.modOq p (fun o => { obase := o.obase, rbase := o.rbase, en := true, dlog := dlog, active := o.active })

/-- OQ_ENABLE (R368). -/
def doOqEnable (p : HPort) (value : W32) (s : State) : State := if s.reachable (.pf p) then (s.oqCtl p (value ||| 1)).settle else s
/-- OQ_DISABLE (R52, R368): a begun order runs to its end, every other one is dropped. -/
def doOqDisable (p : HPort) (value : W32) (s : State) : State := if s.reachable (.pf p) then (s.oqCtl p (value &&& ~~~1)).settle else s

/-! ### Order slots (R110, R368, R371) -/

/-- The slots of a read, classed by MARK: the first one not owned is read again after 160 ticks. -/
def takeSlots (now size : Nat) : Nat → OrderRing → Nat → Bytes → OrderRing
  | 0, o, _, _ => o
  | n + 1, o, i, b =>
    let x := padTo 128 b
    if (byteAt x 0).getLsbD 0 == passBit size i then
      takeSlots now size n { o with slots := tset o.slots i (.packet x), fetch := i + 1, markWait := none } (i + 1) (b.drop 128)
    else
      { o with unowned := x, markWait := match o.markWait with
          | some w => some (w.1, now + Config.rereadTicks)
          | none => some (now, now + Config.rereadTicks) }

/-- Slots whose read failed, answered in their turn with HOST-DMA (R371). -/
def failSlots (status : W16) : Nat → OrderRing → Nat → OrderRing
  | 0, o, _ => o
  | n + 1, o, i => failSlots status n { o with slots := tset o.slots i (.failed status []), fetch := i + 1, markWait := none } (i + 1)

/-- The slots that a read covered. -/
def State.landSlots (s : State) (p : HPort) (r : Dma) : State :=
  match (s.oq p).reading with
  | none => s
  | some (i, n) =>
    if !s.readOpen p (.orderSlot p) then s
    else
      let s := s.endRead p (.orderSlot p)
      let now := s.clk.now
      let s := s.modOq p (fun o =>
        let o1 := { o with reading := none }
        match r with
        | .ok data => takeSlots now o1.size n o1 i data
        | .refused => failSlots 0x4001 n o1 i
        | .failed => failSlots 0x4002 n o1 i)
      (s.fetchOrders p).settle

/-- ORDER_FETCH_COMPLETE (R368). -/
def doOrderFetchComplete (p : HPort) (r : Dma) (s : State) : State := s.landSlots p r

/-- ORDER_MARK_REREAD (R368): every 160 ticks; 1 ms after the first read the slot is answered. -/
def doOrderMarkReread (p : HPort) (s : State) : State :=
  let o := s.oq p
  match o.markWait with
  | none => s
  | some (first, next) =>
    if s.clk.now < next || o.reading.isSome then s
    else if first + Config.msTicks ≤ s.clk.now then
      let s := s.modOq p (fun o => { o with
        slots := tset o.slots o.fetch (.failed 0x2002 o.unowned), fetch := o.fetch + 1, markWait := none, unowned := [] })
      (s.fetchOrders p).settle
    else if !s.pfMaster p then s
    else (s.modOq p (fun o => { o with reading := some (o.fetch, 1) })).sendRead p none (o.obase + BitVec.ofNat 64 (128 * (o.fetch % o.size))) 128 (.orderSlot p)

/-! ### Reserved opcodes, NOP-ECHO (R373, R374, R404) -/

/-- The opcodes of R374. -/
def opcodeReal (opc : Byte) : Bool :=
  let n := opc.toNat
  (1 ≤ n && n ≤ 8) || (0x10 ≤ n && n ≤ 0x12) || (0x20 ≤ n && n ≤ 0x22) || n == 0x30 || n == 0x31 || (0x40 ≤ n && n ≤ 0x42) || n == 0x50 ||
    n == 0x51 || n == 0x60 || n == 0x61 || (0x70 ≤ n && n ≤ 0x72) || n == 0x7F

/-- RESERVED_ORDER_OPCODE (R373): detail 0x001; in recovery, INTERNAL (R467). -/
def doReservedOrderOpcode (p : HPort) (s : State) : State :=
  match s.orderDue p (fun b => !opcodeReal (byteAt b 1)) with
  | none => s
  | some b =>
    let s := s.beginOrder p b
    (if s.fw.recovery then s.putReply p s.clk.hub 0xF000 [] else s.badOrder p 1).settle

/-- No refusal of its own. -/
def noRefusal : State → Bytes → Option Nat := fun _ _ => none
/-- The value of a packet's `n` bytes at an offset. -/
def num (b : Bytes) (off n : Nat) : Nat := ule (bslice b off n)

/-- NOP_ECHO (R404). -/
def doNopEcho (p : HPort) (s : State) : State :=
  (s.runOrder p (isOpc 0x7F) (fun _ => [(0x10, 0x30, true)]) false true none noRefusal (fun s b => s.done p (bslice b 0x10 0x30))).settle

/-! ### IDENTIFY (R378) -/

/-- HIF_STATUS.PORTSUP (R54). -/
def State.portsUp (s : State) : Nat := (s.ports.ports.filter (fun x => x.2.link == 5)).length
def State.tenantsBound (s : State) : Nat := (s.queues.tenants.filter (fun x => x.2.binding.isSome)).length
/-- The image slot running, and the other. -/
def Firmware.slot (f : Firmware) (b : Bool) : ImageSlot := if b then f.imgB else f.imgA
/-- HIF_FWREL (R53, R467). -/
def Firmware.rel (f : Firmware) : W32 := if f.recovery then 0 else f.release

def State.identifyResult (s : State) : Bytes :=
  let f := s.fw
  let other := f.slot (!f.image)
  le 4 Config.hifId.toNat ++ le 4 f.rel.toNat ++ [BitVec.ofNat 8 (bnat f.image), Config.cooling, BitVec.ofNat 8 (bnat f.imgA.valid + 2 * bnat f.imgB.valid), 0] ++
    le 4 (if other.valid then other.release.toNat else 0) ++ le 8 Config.serialNumber.toNat ++ zeros 8 ++ le 2 s.portsUp ++ le 2 s.tenantsBound ++
    le 4 s.faults.record.length

/-- IDENTIFY. -/
def doIdentify (p : HPort) (s : State) : State :=
  (s.runOrder p (isOpc 0x01) (fun _ => []) false true none noRefusal (fun s _ => s.done p s.identifyResult)).settle

/-! ### Time (R399, R400, R449) -/

/-- Every copy of the timebase is set; BRIDGED, FRAC and BRIDGES are cleared (R399, R451). -/
def State.setTimebase (s : State) (v : W64) : State :=
  let s := s.onClk (fun c => { c with hub := v, dies := c.dies.map (fun d => (d.1, v)), bridged := false })
  s.onKeeper (fun k => { k with ret := if retValid k.ret then retSeal { k.ret with frac := 0, bridges := 0, flags := k.ret.flags &&& 0xFE } else k.ret })

/-- SET_TIME. -/
def doSetTime (p : HPort) (s : State) : State :=
  (s.runOrder p (isOpc 0x60) (fun b => [(0x10, 8, num b 0x10 8 != 0)]) false false none noRefusal (fun s b =>
    let before := s.clk.hub
    ((s.setTimebase (u64 b 0x10)).effected p).done p (le 8 before.toNat))).settle

/-- READ-TIME-BRIDGE's result: all zero when no bridge has been made. -/
def State.bridgeResult (s : State) : Bytes :=
  let r := s.keeper.ret
  if retValid r && (r.t2 != 0 || r.kb != 0) then
    le 8 r.t1.toNat ++ le 8 r.t2.toNat ++ le 8 r.kb.toNat ++ le 4 r.frac.toNat ++ [BitVec.ofNat 8 (bnat s.clk.bridged), 0, 0, 0] ++ le 4 r.bridges.toNat
  else []

/-- READ_TIME_BRIDGE. -/
def doReadTimeBridge (p : HPort) (s : State) : State :=
  (s.runOrder p (isOpc 0x61) (fun _ => []) false true none noRefusal (fun s _ => s.done p s.bridgeResult)).settle

/-! ### Supply policy (R391) -/

/-- SET_SUPPLY_POLICY. A limit of 0 ends the hold of the old one (DESIGN CHOICE, log 63). -/
def doSetSupplyPolicy (p : HPort) (s : State) : State :=
  (s.runOrder p (isOpc 0x22) (fun b =>
      let w := num b 0x10 2
      [(0x10, 2, w == 0 || (190 ≤ w && w ≤ 330)), (0x12, 1, (byteAt b 0x12).toNat ≤ 1)]) false false none noRefusal (fun s b =>
    let old := le 2 s.power.plimit.toNat ++ [BitVec.ofNat 8 (bnat s.power.shed)]
    let w := u16 b 0x10
    let s := s.onPower (fun x => { x with
      plimit := w, shed := (byteAt b 0x12).getLsbD 0, overSince := if w = 0 then none else x.overSince, underSince := if w = 0 then none else x.underSince })
    let s := if w = 0 && s.power.throttle then ((s.onPower (fun x => { x with throttle := false })).rethrottle).pfVector 4 else s
    (s.effected p).done p old)).settle

/-! ### Signatures, windows, the fault log, sites (R393-R396) -/

/-- READ_SIGNATURE (R393): 0x018 where none is held. -/
def doReadSignature (p : HPort) (s : State) : State :=
  let key := fun (b : Bytes) => 2 * (byteAt b 0x10).toNat + (byteAt b 0x11).toNat - 1
  (s.runOrder p (isOpc 0x31) (fun b => [(0x10, 1, (byteAt b 0x10).toNat ≤ 61), (0x11, 1, byteAt b 0x11 == 1 || byteAt b 0x11 == 2)]) false true none
    (fun s b => if (tfind s.fw.sigs (key b)).isNone then some 0x18 else none)
    (fun s b => match tfind s.fw.sigs (key b) with
      | some h => s.done p (le 8 h.misr.toNat ++ le 8 h.time.toNat ++ le 4 h.release.toNat)
      | none => s)).settle

/-- SET_FAULT_WINDOW (R394, R421): counts held are kept, and the new T and W apply from the next event. -/
def doSetFaultWindow (p : HPort) (s : State) : State :=
  let all := fun (b : Bytes) => (byteAt b 0x14).getLsbD 0
  (s.runOrder p (isOpc 0x40) (fun b =>
      let site := num b 0x10 4
      let w := num b 0x18 4
      [(0x10, 4, if all b then site == 0 else siteNamed (u32 b 0x10)), (0x14, 1, (byteAt b 0x14).toNat ≤ 1), (0x15, 1, byteAt b 0x15 != 0),
        (0x18, 4, 1 ≤ w && w ≤ 86400)]) false false none noRefusal (fun s b =>
    let site := u32 b 0x10
    let old := if all b then s.faults.dflt else s.windowOf site
    let tw := ((byteAt b 0x15).toNat, num b 0x18 4)
    let s := s.onFaults (fun f =>
      if all b then { f with dflt := tw, windows := f.windows.map (fun w => (w.1, { w.2 with own := none })) }
      else { f with windows := tmod {} f.windows site.toNat (fun w => { w with own := some tw }) })
    (s.effected p).done p ([BitVec.ofNat 8 old.1, 0, 0, 0] ++ le 4 old.2))).settle

/-- An entry's 32 bytes (R424). -/
def entryBytes (e : FaultEntry) : Bytes :=
  le 4 e.seq.toNat ++ [e.kind, e.cls] ++ le 2 e.wcount.toNat ++ le 4 e.site.toNat ++ le 4 e.who.toNat ++ le 8 e.detail.toNat ++ le 8 e.time.toNat

/-- Bytes of the PF written from an address on, one TLP after the other (R46). -/
def State.writeRun (p : HPort) : Nat → State → W64 → Bytes → State
  | 0, s, _, _ => s
  | f + 1, s, a, b =>
    if b.isEmpty then s
    else
      let n := (s.host p).mps
      State.writeRun p f (s.sendWrite p none a (b.take n)) (a + BitVec.ofNat 64 n) (b.drop n)

/-- OLDEST: the sequence number of the oldest entry held, NEXT when the log is empty. -/
def Faults.oldest (f : Faults) : W32 := (f.log.head?.map (·.seq)).getD f.next

/-- The entries wanted (R395, R496): from FIRST, or from OLDEST when FIRST is older. -/
def Faults.wanted (f : Faults) (first : W32) (count : Nat) : List FaultEntry :=
  let start := if (first - f.oldest).msb then f.oldest else first
  (f.log.filter (fun e => !(e.seq - start).msb)).take count

/-- Bytes 0x0000-0x183F of the buffer: the SMC block, the keeper's count and the timebase, the SLP blocks (R227, R289, R395, R447). -/
def State.counterBytes (s : State) : Bytes :=
  padTo 0x20 (s.smcWords.flatMap (fun w => le 4 w.toNat)) ++ le 8 s.keeper.counter.toNat ++ le 4 (kprSupply s.keeper).toNat ++ le 8 s.clk.hub.toNat ++
    zeros 12 ++ (List.finRange 96).flatMap (fun d => (s.slpWords d).flatMap (fun w => le 4 w.toNat))

/-- READ_FAULT_LOG (R395), once its buffer can be written: `readback` is how the read of the last DW written ended. -/
def doReadFaultLog (p : HPort) (readback : Dma) (s : State) : State :=
  if !s.pfMaster p then s
  else
    (s.runOrder p (isOpc 0x41) (fun b => [(0x10, 8, num b 0x10 8 % 4096 == 0), (0x18, 4, true), (0x1C, 4, num b 0x1C 4 ≤ 4096)]) false true none noRefusal
      (fun s b =>
        let buf := u64 b 0x10
        let l := s.faults.wanted (u32 b 0x18) (num b 0x1C 4)
        let s := State.writeRun p 0x1840 s buf s.counterBytes
        let s := State.writeRun p 0x1000 s (buf + 0x2000) (l.flatMap entryBytes)
        let last : W64 := if l.isEmpty then buf + 0x183C else buf + 0x2000 + BitVec.ofNat 64 (32 * l.length - 4)
        let s := (s.exitL1 p).emit (.hostRead p none last 4 (.faultLog p))
        match readback with
        | .ok _ =>
          let result := le 4 l.length ++ le 4 s.faults.oldest.toNat ++ le 4 s.faults.next.toNat ++ le 4 s.faults.lost.toNat
          let s := (List.finRange 96).foldl (fun s d => s.slpClear d none) (s.smcClear none)
          ((s.onFaults (fun f => { f with lost := 0 })).effected p).done p result
        | .refused => s.putReply p s.clk.hub 0x4001 []
        | .failed => s.putReply p s.clk.hub 0x4002 [])).settle

/-- A site that RETIRE-SITE refuses (R396, R422; of an ill-formed code DEDUCED, log 113): one that can be neither spared nor retired, the Tender, or one that R422 does not name. -/
def State.siteRefused (s : State) (site : W32) : Bool :=
  if isRow site && decide (tget 0 s.faults.spares site.toNat < 4) then false
  else match siteUnit site with
    | .vital => true
    | .tender => true
    | .other => true
    | _ => false

/-- RETIRE_SITE (R396). -/
def doRetireSite (p : HPort) (s : State) : State :=
  (s.runOrder p (isOpc 0x42) (fun b => [(0x10, 4, siteNamed (u32 b 0x10))]) false false none
    (fun s b => if s.siteRefused (u32 b 0x10) then some 0x13 else none)
    (fun s b =>
      let r := s.actSite (u32 b 0x10) 0 1
      (r.1.effected p).done p [BitVec.ofNat 8 r.2])).settle

/-! ### Meanings -/

def execOqDb (p : HPort) (value : W32) (s : State) : Host.Outcome State Fault Refusal := .next (doOqDb p value s)
def execOqEnable (p : HPort) (value : W32) (s : State) : Host.Outcome State Fault Refusal := .next (doOqEnable p value s)
def execOqDisable (p : HPort) (value : W32) (s : State) : Host.Outcome State Fault Refusal := .next (doOqDisable p value s)
def execOrderFetchComplete (p : HPort) (r : Dma) (s : State) : Host.Outcome State Fault Refusal := .next (doOrderFetchComplete p r s)
def execOrderMarkReread (p : HPort) (s : State) : Host.Outcome State Fault Refusal := .next (doOrderMarkReread p s)
def execReservedOrderOpcode (p : HPort) (s : State) : Host.Outcome State Fault Refusal := .next (doReservedOrderOpcode p s)
def execNopEcho (p : HPort) (s : State) : Host.Outcome State Fault Refusal := .next (doNopEcho p s)
def execIdentify (p : HPort) (s : State) : Host.Outcome State Fault Refusal := .next (doIdentify p s)
def execSetTime (p : HPort) (s : State) : Host.Outcome State Fault Refusal := .next (doSetTime p s)
def execReadTimeBridge (p : HPort) (s : State) : Host.Outcome State Fault Refusal := .next (doReadTimeBridge p s)
def execSetSupplyPolicy (p : HPort) (s : State) : Host.Outcome State Fault Refusal := .next (doSetSupplyPolicy p s)
def execReadSignature (p : HPort) (s : State) : Host.Outcome State Fault Refusal := .next (doReadSignature p s)
def execSetFaultWindow (p : HPort) (s : State) : Host.Outcome State Fault Refusal := .next (doSetFaultWindow p s)
def execReadFaultLog (p : HPort) (readback : Dma) (s : State) : Host.Outcome State Fault Refusal := .next (doReadFaultLog p readback s)
def execRetireSite (p : HPort) (s : State) : Host.Outcome State Fault Refusal := .next (doRetireSite p s)

end Sys2Proof.Machine
end

