-- ==== Sys2Proof/Machine/TenantOrders.lean ====
section
/-! DEFINITION. Machine/TenantOrders.lean: the orders about tenants, queues, holds and tokens (R95-R99, R106, R107, R124, R137-R139, R167, R170,
R380-R385, R401-R403). -/

namespace Sys2Proof.Machine

open Sys2Proof

/-! ### BIND-TENANT (R95, R380) -/

/-- A power of two of 2^lo to 2^hi. -/
def powerIn (lo hi n : Nat) : Bool := (List.range (hi + 1 - lo)).any (fun i => n == 2 ^ (lo + i))

/-- Window `i` of a packet. -/
def bindWindow (b : Bytes) (i : Nat) : Window := ⟨u64 b (0x30 + 16 * i), u64 b (0x38 + 16 * i)⟩
def bindWindows (b : Bytes) : List Window := (List.range (min 4 (byteAt b 0x13).toNat)).map (bindWindow b)
def overlaps (x y : Window) : Bool := x.base.toNat ≤ y.limit.toNat && y.base.toNat ≤ x.limit.toNat

def bindFields (b : Bytes) : List (Nat × Nat × Bool) :=
  let pasv := (byteAt b 0x12).getLsbD 0
  let nwin := (byteAt b 0x13).toNat
  let nmaps := num b 0x24 2
  let cm := num b 0x28 8
  [tenantField b 0x10, (0x12, 1, (byteAt b 0x12).toNat ≤ 1), (0x13, 1, 1 ≤ nwin && nwin ≤ 4),
    (0x14, 4, if pasv then num b 0x14 4 < 2 ^ 20 else num b 0x14 4 == 0), (0x18, 8, num b 0x18 8 % 4096 == 0),
    (0x20, 4, powerIn 12 24 (num b 0x20 4)), (0x24, 2, nmaps ≤ 4096),
    (0x28, 8, if nmaps = 0 then cm == 0 else cm % 4096 == 0 && (bindWindows b).any (inWindow cm (1024 * nmaps)))] ++
  (List.range 4).flatMap (fun i =>
    let w := bindWindow b i
    if i < nwin then
      [(0x30 + 16 * i, 8, w.base.toNat % 4096 == 0 && !((List.range i).any (fun j => overlaps (bindWindow b j) w))),
        (0x38 + 16 * i, 8, w.limit.toNat % 4096 == 4095 && w.base.toNat ≤ w.limit.toNat)]
    else [(0x30 + 16 * i, 8, w.base == 0), (0x38 + 16 * i, 8, w.limit == 0)])

/-- The tenant of a packet, and whether it is bound. -/
def ten (b : Bytes) : Tenant := tenantAt b 0x10
def State.bound (s : State) (t : Tenant) : Bool := (s.tenant t).binding.isSome
def State.unbound (s : State) (b : Bytes) : Option Nat := if s.bound (ten b) then none else some 4

def bindingOf (b : Bytes) : Binding :=
  { pasid := if (byteAt b 0x12).getLsbD 0 then some (BitVec.ofNat 20 (num b 0x14 4)) else none
    windows := bindWindows b, jbase := u64 b 0x18, jdepth := num b 0x20 4, nmaps := num b 0x24 2, cmbase := u64 b 0x28 }

/-- BIND_TENANT: the binding takes effect when the status reply is posted (R95). -/
def doBindTenant (p : HPort) (s : State) : State :=
  (s.runOrder p (isOpc 0x03) bindFields true false (some 0x10)
    (fun s b => if s.bound (ten b) then some 5 else if s.vfOn (ten b) then none else some 6)
    (fun s b =>
      ((s.onceReplied p (.bind (ten b) (bindingOf b))).effected p).done p [])).settle

/-! ### UNBIND-TENANT (R97-R99, R381) -/

def unbindFields (b : Bytes) : List (Nat × Nat × Bool) := [tenantField b 0x10, (0x12, 1, (byteAt b 0x12).toNat ≤ 1)]

/-- UNBIND_TENANT_GENTLE: refused with 0x007 while entries are outstanding. -/
def doUnbindTenantGentle (p : HPort) (s : State) : State :=
  (s.runOrder p (fun b => isOpc 0x04 b && byteAt b 0x12 != 1) unbindFields true false (some 0x10)
    (fun s b => if !s.bound (ten b) then some 4 else if s.outstanding (ten b) = 0 then none else some 7)
    (fun s b => s.unbindFinish p (ten b) 0 0)).settle

/-- A queue takes no work until it is reset or deleted, and its entry read is given up (R137). -/
def State.haltSq (s : State) (t : Tenant) (q : QNum) : State :=
  let s := (s.modSq t q (fun k => { k with resetting := true, reading := none, dmaStop := false })).releaseGrant t q
  s.dropKeys (hostOf t) (fun k => k == .entry t q)

/-- Entries lost by a fenced queue are no longer outstanding (R416). -/
def State.trueCount (s : State) (t : Tenant) (q : QNum) : State :=
  if ((s.sq? t q).map (·.fenced)).getD false then s.modSq t q (fun k => { k with outst := s.stageCount t q }) else s

/-- UNBIND_TENANT_FORCE (R97): what is in flight drains for up to 2 ms, every outstanding entry ends with ABORTED-QUEUE-RESET. -/
def doUnbindTenantForce (p : HPort) (s : State) : State :=
  (s.runOrder p (fun b => isOpc 0x04 b && byteAt b 0x12 == 1) unbindFields true false (some 0x10) (fun s b => s.unbound b)
    (fun s b =>
      let t := ten b
      let qs := s.sqsOf t
      let s := (s.modTenant t (fun x => { x with stopped := true, unbindDrain := some (s.clk.now + Config.drainTicks), aborted := 0 })).effected p
      let s := qs.foldl (fun s q => (s.haltSq t q).trueCount t q) s
      let s := qs.foldl (fun s q =>
        let s := s.abortSq t q cAbortedReset 1 2 false
        s.modTenant t (fun x => { x with aborted := x.aborted + ((s.sq? t q).map (·.aborted)).getD 0 })) s
      s.setStage p (.unbindDrain t))).settle

/-- UNBIND_DRAIN_EXPIRY (R97): 2 ms after the force unbind began, the transfers still in flight are ended. -/
def doUnbindDrainExpiry (t : Tenant) (s : State) : State :=
  match (s.tenant t).unbindDrain with
  | some d =>
    if d ≤ s.clk.now then
      ((s.progsOf (fun x => x.tenant == t)).foldl (fun s sc =>
        s.endProgram sc { code := cAbortedReset, reason := 1, step := (s.prog? sc).bind (·.here) } 2) s).settle
    else s
  | none => s

/-! ### Queues (R106, R107, R124, R137-R139, R382-R384) -/

/-- The window rule of BASE, which a tenant without a binding cannot break. -/
def State.baseOk (s : State) (b : Bytes) (slot : Nat) : Bool :=
  num b 0x18 8 % 4096 == 0 && (!s.bound (ten b) || s.inWindows (ten b) (num b 0x18 8) (slot * num b 0x14 4))

def queueNumber (b : Bytes) (off : Nat) : QNum := ⟨(byteAt b off).toNat % 8, by omega⟩

/-- CREATE_QUEUE_SQ. -/
def doCreateQueueSq (p : HPort) (s : State) : State :=
  (s.runOrder p (fun b => isOpc 0x05 b && byteAt b 0x12 != 1) (fun b =>
      [tenantField b 0x10, (0x12, 1, byteAt b 0x12 == 0), (0x13, 1, (byteAt b 0x13).toNat ≤ 7), (0x14, 4, powerIn 1 16 (num b 0x14 4)), (0x18, 8, s.baseOk b 64),
        (0x20, 1, (byteAt b 0x20).toNat ≤ 7), (0x21, 1, (byteAt b 0x21).toNat ≤ 7), (0x22, 2, num b 0x22 2 == 0), (0x24, 4, num b 0x24 4 == 0)])
    true false (some 0x10)
    (fun s b =>
      if !s.bound (ten b) then some 4
      else if (s.sq? (ten b) (queueNumber b 0x13)).isSome then some 8
      else if (s.cq? (ten b) (queueNumber b 0x20)).isNone then some 9 else none)
    (fun s b =>
      let k : Sq := { base := u64 b 0x18, depth := num b 0x14 4, cq := queueNumber b 0x20, cls := BitVec.ofNat 3 (byteAt b 0x21).toNat }
      ((s.onQueues (fun x => { x with sqs := tset x.sqs (qIndex (ten b) (queueNumber b 0x13)) k })).effected p).done p [])).settle

/-- CREATE_QUEUE_CQ. -/
def doCreateQueueCq (p : HPort) (s : State) : State :=
  (s.runOrder p (fun b => isOpc 0x05 b && byteAt b 0x12 == 1) (fun b =>
      [tenantField b 0x10, (0x12, 1, true), (0x13, 1, (byteAt b 0x13).toNat ≤ 7), (0x14, 4, powerIn 1 16 (num b 0x14 4)), (0x18, 8, s.baseOk b 32),
        (0x20, 1, byteAt b 0x20 == 0), (0x21, 1, byteAt b 0x21 == 0), (0x22, 2, num b 0x22 2 != 0), (0x24, 4, num b 0x24 4 < 2 ^ 24)])
    true false (some 0x10)
    (fun s b =>
      if !s.bound (ten b) then some 4
      else if (s.cq? (ten b) (queueNumber b 0x13)).isSome then some 8 else none)
    (fun s b =>
      let k : Cq := { base := u64 b 0x18, depth := num b 0x14 4, interval := num b 0x24 4, threshold := num b 0x22 2 }
      ((s.onQueues (fun x => { x with cqs := tset x.cqs (qIndex (ten b) (queueNumber b 0x13)) k })).effected p).done p [])).settle

/-- An order that names a submission queue: 0x004, 0x009. -/
def State.noSq (s : State) (b : Bytes) : Option Nat :=
  if !s.bound (ten b) then some 4 else if (s.sq? (ten b) (queueNumber b 0x12)).isNone then some 9 else none

/-- RESET_QUEUE (R137). -/
def doResetQueue (p : HPort) (s : State) : State :=
  (s.runOrder p (isOpc 0x06) (fun b => [tenantField b 0x10, (0x12, 1, (byteAt b 0x12).toNat ≤ 7)]) true false (some 0x10) State.noSq
    (fun s b =>
      let t := ten b
      let q := queueNumber b 0x12
      let s := ((s.haltSq t q).trueCount t q).effected p
      (s.abortSq t q cAbortedReset 0 2 false).setStage p (.resetDrain t q))).settle

/-- SET_QUEUE_PRIORITY (R124). -/
def doSetQueuePriority (p : HPort) (s : State) : State :=
  (s.runOrder p (isOpc 0x07) (fun b =>
      [tenantField b 0x10, (0x12, 1, (byteAt b 0x12).toNat ≤ 7), (0x13, 1, (byteAt b 0x13).toNat ≤ 7)]) true false (some 0x10) State.noSq
    (fun s b =>
      let t := ten b
      let q := queueNumber b 0x12
      let old := ((s.sq? t q).map (fun k => k.cls.toNat)).getD 0
      ((s.modSq t q (fun k => { k with cls := BitVec.ofNat 3 (byteAt b 0x13).toNat })).effected p).done p [BitVec.ofNat 8 old])).settle

/-! ### RELEASE-HOLD (R167, R168, R385) -/

/-- A subchannel's program is held: its hold report has been written (R165). -/
def State.held (s : State) (sc : SC) : Bool :=
  match s.prog? sc with
  | some p => (match p.phase with
    | .held => true
    | _ => false)
  | none => false

/-- The new execution of a held program begins at the hold step (R167). -/
def State.release (s : State) (sc : SC) (pass : Bool) : State :=
  let s := s.modProg sc (fun p => { p with pass := if pass then some p.flow else none, groups := [], asked := [], retries := 0, tried := [] })
  (s.choose sc none).fireProg sc 6

/-- RELEASE_HOLD, once its reply can be written: the execution begins after it. -/
def doReleaseHold (p : HPort) (s : State) : State :=
  if !s.pfMaster p then s
  else
    (s.runOrder p (isOpc 0x08) (fun b => [tenantField b 0x10, (0x12, 1, (byteAt b 0x12).toNat ≤ 1), (0x14, 4, num b 0x14 4 < 2 ^ 18)]) true false (some 0x10)
      (fun s b =>
        let sc : SC := BitVec.ofNat 18 (num b 0x14 4)
        if !s.bound (ten b) then some 4
        else if !(s.sub sc).named || (s.sub sc).tenant != ten b then some 0xB
        else if s.held sc then none else some 0xA)
      (fun s b => ((s.effected p).done p []).release (BitVec.ofNat 18 (num b 0x14 4)) ((byteAt b 0x12).getLsbD 0))).settle

/-! ### Tokens (R170, R176, R401-R403) -/

def tokenFields (b : Bytes) : List (Nat × Nat × Bool) := [(0x10, 2, true), tenantField b 0x12]
def tokenNo (b : Bytes) : Nat := num b 0x10 2
def tokenOwner (b : Bytes) : Tenant := tenantAt b 0x12

/-- TOKEN_CREATE. -/
def doTokenCreate (p : HPort) (s : State) : State :=
  (s.runOrder p (isOpc 0x70) (fun b => tokenFields b ++ [(0x14, 1, true), (0x16, 2, true)]) true false (some 0x12)
    (fun s b => if !s.bound (tokenOwner b) then some 4 else if (s.token? (tokenNo b)).isSome then some 0x10 else none)
    (fun s b =>
      let n := tokenNo b
      let v := num b 0x16 2
      let k : Token := { rank := (byteAt b 0x14).toNat, owner := tokenOwner b, value := v, waiters := [] }
      let s := ((s.onProg (fun x => { x with tokens := tset x.tokens n k })).zeroAcct 7 n).book 7 n v
      (s.effected p).done p [])).settle

/-- Programs not ended that have named a token (R402, R403). -/
def State.namers (s : State) (n : Nat) : Nat :=
  s.prog.subs.foldl (fun a b => a + (b.2.progs.filter (fun p => p.named.contains n)).length) 0

/-- The token is the owner's (R372). -/
def State.tokenRefused (s : State) (b : Bytes) : Bool := ((s.token? (tokenNo b)).map (fun k => k.owner != tokenOwner b)).getD true

/-- TOKEN_DESTROY. -/
def doTokenDestroy (p : HPort) (s : State) : State :=
  (s.runOrder p (isOpc 0x71) tokenFields true false (some 0x12)
    (fun s b =>
      if s.tokenRefused b then some 0x11
      else if ((s.token? (tokenNo b)).map (fun k => !k.waiters.isEmpty)).getD false || s.namers (tokenNo b) != 0 then some 0x12 else none)
    (fun s b =>
      let n := tokenNo b
      let fenced := ((s.token? n).map (·.fenced)).getD false
      let s := s.onProg (fun x => { x with tokens := tdel x.tokens n })
      let s := if fenced then s.rebuildAcct 7 n 0 tokenSite else s.dropAcct 7 n
      (s.effected p).done p [])).settle

/-- TOKEN_READ: a fenced token answers 0x011 (R416). -/
def doTokenRead (p : HPort) (s : State) : State :=
  (s.runOrder p (isOpc 0x72) tokenFields true true (some 0x12)
    (fun s b => if s.tokenRefused b || ((s.token? (tokenNo b)).map (·.fenced)).getD false then some 0x11 else none)
    (fun s b =>
      match s.token? (tokenNo b) with
      | some k =>
        s.done p ([BitVec.ofNat 8 k.rank, 0] ++ le 2 k.value ++ le 4 k.waiters.length ++ le 4 (k.waiters.headD 0xFFFFFFFF) ++ le 4 (s.namers (tokenNo b)))
      | none => s)).settle

/-! ### Meanings -/

def execBindTenant (p : HPort) (s : State) : Host.Outcome State Fault Refusal := .next (doBindTenant p s)
def execUnbindTenantGentle (p : HPort) (s : State) : Host.Outcome State Fault Refusal := .next (doUnbindTenantGentle p s)
def execUnbindTenantForce (p : HPort) (s : State) : Host.Outcome State Fault Refusal := .next (doUnbindTenantForce p s)
def execUnbindDrainExpiry (t : Tenant) (s : State) : Host.Outcome State Fault Refusal := .next (doUnbindDrainExpiry t s)
def execCreateQueueSq (p : HPort) (s : State) : Host.Outcome State Fault Refusal := .next (doCreateQueueSq p s)
def execCreateQueueCq (p : HPort) (s : State) : Host.Outcome State Fault Refusal := .next (doCreateQueueCq p s)
def execResetQueue (p : HPort) (s : State) : Host.Outcome State Fault Refusal := .next (doResetQueue p s)
def execSetQueuePriority (p : HPort) (s : State) : Host.Outcome State Fault Refusal := .next (doSetQueuePriority p s)
def execReleaseHold (p : HPort) (s : State) : Host.Outcome State Fault Refusal := .next (doReleaseHold p s)
def execTokenCreate (p : HPort) (s : State) : Host.Outcome State Fault Refusal := .next (doTokenCreate p s)
def execTokenDestroy (p : HPort) (s : State) : Host.Outcome State Fault Refusal := .next (doTokenDestroy p s)
def execTokenRead (p : HPort) (s : State) : Host.Outcome State Fault Refusal := .next (doTokenRead p s)

end Sys2Proof.Machine
end

