-- ==== Sys2Proof/Machine/Lists.lean ====
section
/-! DEFINITION. Machine/Lists.lean: LOAD-LIGHT-LIST (R78-R94, R379, R464): the list's layout, its validation in order of REASON, and its effect. -/

namespace Sys2Proof.Machine

open Sys2Proof

/-! ### Layout (R83-R92) -/

def llMagic : Nat := 0x4C4C9640
def llCus (b : Bytes) : Nat := num b 0xC 4
def llPgs (b : Bytes) : Nat := num b 0x10 4
def llScs (b : Bytes) : Nat := num b 0x14 4
def llAmend (b : Bytes) : Bool := byteAt b 6 == 1
def cageOff (c : Nat) : Nat := 0x40 + 16 * c
def cuOff (i : Nat) : Nat := 0x100 + 64 * i
def pgOff (b : Bytes) (i : Nat) : Nat := 0x100 + 64 * llCus b + 32 * i
def scOff (b : Bytes) (i : Nat) : Nat := 0x100 + 64 * llCus b + 32 * llPgs b + 16 * i

/-- The digest of a list, its own field taken as zero (R84, R379). -/
def llDigest (b : Bytes) : W64 := digest 0 (b.take 0x30 ++ zeros 8 ++ b.drop 0x38)

/-- A cage entry as recorded: nothing but STATE of an unused cage (R87). -/
def llCage (b : Bytes) (c : Nat) : CageEntry :=
  let o := cageOff c
  if byteAt b o = 0 then {} else ⟨byteAt b o, byteAt b (o + 1), byteAt b (o + 2), byteAt b (o + 3), byteAt b (o + 4)⟩

/-- PATH[i] (R90). -/
def pathOf (v : Nat) : Option Path := if h : v % 128 < 96 then some ⟨⟨v % 128, h⟩, BitVec.ofNat 8 (v / 256)⟩ else none
/-- A PATH slot in use is well formed, with no path of its port among the ones before it. -/
def pathOk (before : List Nat) (v : Nat) : Bool := v % 128 < 96 && !(BitVec.ofNat 16 v).getLsbD 7 && !before.any (fun w => w % 128 == v % 128)

def pgRaw (b : Bytes) (o : Nat) : List Nat := (List.range 8).map (fun i => num b (o + 8 + 2 * i) 2)
def pgNpath (b : Bytes) (o : Nat) : Nat := (byteAt b (o + 6)).toNat
def pgPaths (b : Bytes) (o : Nat) : List Path := ((pgRaw b o).take (pgNpath b o)).filterMap pathOf

/-! ### Validation (R94) -/

/-- REASON and OFFSET. -/
abbrev Reject := Option (Nat × Nat)

def rejectIf (c : Bool) (reason off : Nat) : Reject := if c then some (reason, off) else none

/-- The first of the entries `0` to `n - 1` that is bad, by its offset. -/
def firstEntry (n reason : Nat) (off : Nat → Nat) (bad : Nat → Bool) : Reject :=
  ((List.range n).find? bad).map (fun i => (reason, off i))

/-- REASON 1 and 2. -/
def llShape (b : Bytes) : Reject :=
  let len := 0x100 + 64 * llCus b + 32 * llPgs b + 16 * llScs b
  rejectIf (num b 0 4 != llMagic) 1 0 <|> rejectIf (num b 4 2 != 1) 1 4 <|> rejectIf (1 < (byteAt b 6).toNat) 1 6 <|>
    rejectIf (num b 8 4 != len || num b 8 4 != b.length) 2 8 <|> rejectIf (16384 < llCus b) 2 0xC <|> rejectIf (65536 < llPgs b) 2 0x10 <|>
    rejectIf (262144 < llScs b) 2 0x14

/-- INLET_WARN and INLET_MAX as R94 compares them; none where there is no value. -/
def State.llInlet (s : State) (b : Bytes) (off : Nat) (old : W16) : Option Nat :=
  if llAmend b && num b off 2 == 0 then (if s.list.loaded then some old.toNat else none) else some (num b off 2)

/-- REASON 5. -/
def State.llThermal (s : State) (b : Bytes) : Reject :=
  let warn := s.llInlet b 0x18 s.list.inletWarn
  let imax := s.llInlet b 0x1A s.list.inletMax
  let crossed := match warn, imax with
    | some w, some m => m ≤ w
    | _, _ => false
  rejectIf crossed 5 (if llAmend b && num b 0x18 2 == 0 then 0x1A else 0x18) <|>
    rejectIf ((imax.map (fun m => decide (Config.inletLimit < m))).getD false) 5 0x1A

/-- REASON 6. -/
def State.llCages (s : State) (b : Bytes) : Reject :=
  firstEntry 12 6 cageOff (fun c =>
    let e := llCage b c
    let old := tget {} s.list.cages c
    1 < e.state.toNat || (e.state = 1 && !(1 ≤ e.pmax.toNat && e.pmax.toNat ≤ 32)) || (llAmend b && e != old && !(old.state = 0 && e.state = 1)))

/-- REASON 7. -/
def llUnits (b : Bytes) : Reject :=
  firstEntry (llCus b) 7 cuOff (fun i =>
    let o := cuOff i
    16384 ≤ num b o 2 || (List.range i).any (fun j => num b (cuOff j) 2 == num b o 2) || !(1 ≤ (byteAt b (o + 2)).toNat && (byteAt b (o + 2)).toNat ≤ 5) ||
      1 < (byteAt b (o + 3)).toNat)

/-- REASON 8. -/
def State.llGroups (s : State) (b : Bytes) : Reject :=
  let cuKnown := fun (n : Nat) => (List.range (llCus b)).any (fun i => num b (cuOff i) 2 == n) || (llAmend b && (tfind s.list.cus n).isSome)
  firstEntry (llPgs b) 8 (pgOff b) (fun i =>
    let o := pgOff b i
    let n := pgNpath b o
    let raw := pgRaw b o
    (List.range i).any (fun j => num b (pgOff b j) 4 == num b o 4) || 65536 ≤ num b o 4 || !cuKnown (num b (o + 4) 2) || !(1 ≤ n && n ≤ 8) ||
      !((List.range n).all (fun k => pathOk (raw.take k) (raw.getD k 0))) || (raw.drop n).any (fun v => v != 0))

/-- REASON 9: a path of another control unit, or in a cage that is not populated (R91). -/
def State.llPaths (s : State) (b : Bytes) : Reject :=
  firstEntry (llPgs b) 9 (pgOff b) (fun i =>
    let cu := num b (pgOff b i + 4) 2
    (pgPaths b (pgOff b i)).any (fun x =>
      (llCage b (portCage x.port).val).state != 1 ||
        (List.range i).any (fun j => num b (pgOff b j + 4) 2 != cu && (pgPaths b (pgOff b j)).contains x) ||
        (llAmend b && s.list.groups.any (fun g => g.2.cu != cu && g.2.paths.contains x))))

/-- REASON 10. -/
def State.llSubs (s : State) (b : Bytes) : Reject :=
  let pgKnown := fun (n : Nat) => (List.range (llPgs b)).any (fun i => num b (pgOff b i) 4 == n) || (llAmend b && (tfind s.list.groups n).isSome)
  firstEntry (llScs b) 10 (scOff b) (fun i =>
    let o := scOff b i
    (List.range i).any (fun j => num b (scOff b j) 4 == num b o 4) || 2 ^ 18 ≤ num b o 4 || 65536 ≤ num b (o + 8) 4 || !pgKnown (num b (o + 8) 4) ||
      4096 ≤ num b (o + 4) 2 || 1 < (byteAt b (o + 6)).toNat)

/-- REASON 11 and 12. OFFSET of an amend with no list loaded is that of MODE (DESIGN CHOICE, log 132). -/
def State.llConflict (s : State) (b : Bytes) : Reject :=
  if llAmend b then
    rejectIf (!s.list.loaded) 11 6 <|> firstEntry (llCus b) 11 cuOff (fun i => (tfind s.list.cus (num b (cuOff i) 2)).isSome) <|>
      firstEntry (llPgs b) 11 (pgOff b) (fun i => (tfind s.list.groups (num b (pgOff b i) 4)).isSome) <|>
      firstEntry (llScs b) 11 (scOff b) (fun i =>
        let x := s.sub (BitVec.ofNat 18 (num b (scOff b i) 4))
        x.named && s.bound x.tenant)
  else rejectIf (s.tenantsBound != 0) 12 6

/-- REASON 13. -/
def llReserved (b : Bytes) : Reject :=
  let nz := fun (o n : Nat) => !allZero (bslice b o n)
  rejectIf (nz 0x1C 4) 13 0x1C <|> rejectIf (nz 0x38 8) 13 0x38 <|> firstEntry 12 13 cageOff (fun c => nz (cageOff c + 5) 11) <|>
    firstEntry (llCus b) 13 cuOff (fun i => nz (cuOff i + 4) 12 || nz (cuOff i + 0x30) 16) <|>
    firstEntry (llPgs b) 13 (pgOff b) (fun i => nz (pgOff b i + 7) 1 || nz (pgOff b i + 0x18) 8) <|>
    firstEntry (llScs b) 13 (scOff b) (fun i => nz (scOff b i + 7) 1 || nz (scOff b i + 0xE) 2)

/-- The first check of R94 that a list fails. -/
def State.listCheck (s : State) (b : Bytes) : Reject :=
  llShape b <|> rejectIf (u64 b 0x30 != llDigest b) 3 0x30 <|> rejectIf (byteAt b 7 != Config.cooling) 4 7 <|> s.llThermal b <|> s.llCages b <|> llUnits b <|>
    s.llGroups b <|> s.llPaths b <|> s.llSubs b <|> s.llConflict b <|> llReserved b

/-! ### Effect (R78-R93) -/

/-- The control unit and the path group of an entry (R88, R90). -/
def llCu (b : Bytes) (o : Nat) : CuEntry := ⟨byteAt b (o + 2), byteAt b (o + 3), bslice b (o + 0x10) 32⟩
def llGroup (b : Bytes) (o : Nat) : PathGroup := ⟨num b (o + 4) 2, pgPaths b o⟩

/-- The list's records: cages, control units, path groups, inlet limits, the key (R81, R84, R85). -/
def State.listRecords (s : State) (b : Bytes) : State :=
  let keep := llAmend b
  s.onList (fun l => { l with
    loaded := true
    hashkey := some (l.hashkey.getD (u64 b 0x20))
    inletWarn := if keep && num b 0x18 2 == 0 then l.inletWarn else u16 b 0x18
    inletMax := if keep && num b 0x1A 2 == 0 then l.inletMax else u16 b 0x1A
    cages := (List.range 12).map (fun c => (c, llCage b c))
    cus := (List.range (llCus b)).foldl (fun t i => tset t (num b (cuOff i) 2) (llCu b (cuOff i))) (if keep then l.cus else [])
    groups := (List.range (llPgs b)).foldl (fun t i => tset t (num b (pgOff b i) 4) (llGroup b (pgOff b i))) (if keep then l.groups else [])
    paths := if keep then l.paths else [] })

/-- FWREV of the control unit of a group, as last reported (R89). -/
def State.groupFwrev (s : State) (pg : Nat) : W32 :=
  (((s.groupPaths pg).map (fun x => s.pathSt x.port x.addr)).find? (·.good) |>.map (·.fwrev)).getD 0

/-- The subchannel records (R92, R93); those of a replaced list that hold nothing are gone. -/
def State.listSubs (s : State) (b : Bytes) : State :=
  let s := if llAmend b then s
    else
      let used := fun (x : Nat × Sub) => !x.2.progs.isEmpty || !x.2.starts.isEmpty
      s.onProg (fun p => { p with subs := (p.subs.filter used).map (fun (x : Nat × Sub) => (x.1, { x.2 with named := false, enable := false })) })
  (List.range (llScs b)).foldl (fun s i =>
    let o := scOff b i
    let pg := num b (o + 8) 4
    s.modSub (BitVec.ofNat 18 (num b o 4)) (fun x => { x with
      named := true, tenant := tenantAt b (o + 4), enable := (byteAt b (o + 6)).getLsbD 0, group := pg, devaddr := u16 b (o + 0xC)
      spoiled := false, fwrev := s.groupFwrev pg })) s

/-- A cage whose entry changes in IDENT, MEDIA or PMAX, or is unused from now on, goes off (R82). -/
def cageChanged (old new : CageEntry) : Bool :=
  old.state = 1 && (new.state != 1 || old.ident != new.ident || old.media != new.media || old.pmax != new.pmax)

def allCages : List CageNum := List.finRange 12

/-- A port that the list goes on naming (R82, R101): a changed FEC bit retrains it; else what is newly asked of it is asked now. -/
def State.keepPort (s : State) (b : Bytes) (d : DPort) (was : List Byte) : State :=
  let fec := (llCage b (portCage d).val).fec.getLsbD (d.val % 8)
  let p := s.port d
  if !p.txOn then s
  else if p.fec != fec then (s.modPort d (fun p => { p with fec := fec })).retrain d
  else if p.link = 5 || p.link = 4 then
    if llAmend b then
      let l := (s.namedAddrs d).filter (fun a => !was.contains a)
      let s := if p.link = 4 then s.modPort d (fun p => { p with idLeft := p.idLeft ++ l }) else s
      l.foldl (fun s a => s.startIdent d a) s
    else s.identifyPort d
  else s

/-- An accepted list takes effect; the cages that become due for power (R82, R464). -/
def State.applyList (s0 : State) (b : Bytes) : State × List CageNum :=
  let oldCage := fun (c : CageNum) => s0.cageEntry c
  let off := allCages.filter (fun c => cageChanged (oldCage c) (llCage b c.val))
  let named0 := (List.finRange 96).map (fun d => (d, s0.namedAddrs d))
  let s := (s0.listRecords b).listSubs b
  let s := off.foldl (fun s c => (s.liftCage c).unpowerCage c) s
  let s := s.onList (fun l => { l with waves := l.waves.filter (fun w => (llCage b w.1.val).state == 1) })
  let s := named0.foldl (fun s (x : DPort × List Byte) =>
    let now := s.portNamed x.1
    if x.2.isEmpty then s
    else if !now then s.darken x.1
    else if off.contains (portCage x.1) then s
    else s.keepPort b x.1 x.2) s
  let s := if num b 0x28 8 = 0 then s else s.setTimebase (u64 b 0x28)
  let s := allCages.foldl (fun s c =>
    if (s.cageEntry c).state != 1 && (s.cage c).present && !(s.cage c).reported then (s.modCage c (fun g => { g with reported := true })).logCage c none else s) s
  let fresh := named0.filter (fun x => x.2.isEmpty && s.portNamed x.1)
  (s, allCages.filter (fun c =>
    (s.cageEntry c).state == 1 && ((oldCage c).state != 1 || off.contains c || fresh.any (fun x => portCage x.1 == c))))

/-! ### The order (R79, R94, R379) -/

/-- LOAD_LIGHT_LIST: the list is read. -/
def doLoadLightList (p : HPort) (s : State) : State :=
  (s.runOrder p (isOpc 0x02) (fun b =>
      let len := num b 0x18 4
      [(0x10, 8, num b 0x10 8 % 64 == 0), (0x18, 4, 64 ≤ len && len ≤ 7340288)]) false false none noRefusal
    (fun s b => s.setStage p (.listRead (u64 b 0x10) (num b 0x18 4)))).settle

/-- OFFSET and DIGEST of a reply. -/
def listResult (off : Nat) (dig : W64) : Bytes := le 4 off ++ zeros 4 ++ le 8 dig.toNat

/-- The read of a list has ended. -/
def State.listRead (s : State) (p : HPort) (got : Bytes) (whole : Bool) : State :=
  match (s.oq p).active with
  | none => s
  | some a =>
    match a.stage with
    | .listRead _ len =>
      if !s.readOpen p (.lightList p) then s
      else
        let s := s.endRead p (.lightList p)
        if !whole then (s.putReply p s.clk.hub 0x300E (listResult got.length (llDigest got))).settle
        else
          let b := padTo len got
          match s.listCheck b with
          | some (reason, off) => (s.putReply p s.clk.hub (BitVec.ofNat 16 (0x3000 + reason)) (listResult off (llDigest b))).settle
          | none =>
            let first := !s.list.loaded
            let (s, due) := s.applyList b
            (((s.effected p).onceReplied p (.waves first due)).done p (listResult 0 (llDigest b))).settle
    | _ => s

/-- LIGHT_LIST_READ_COMPLETE. -/
def doLightListReadComplete (p : HPort) (got : Bytes) (whole : Bool) (s : State) : State := s.listRead p got whole

/-! ### Meanings -/

def execLoadLightList (p : HPort) (s : State) : Host.Outcome State Fault Refusal := .next (doLoadLightList p s)
def execLightListReadComplete (p : HPort) (got : Bytes) (whole : Bool) (s : State) : Host.Outcome State Fault Refusal :=
  .next (doLightListReadComplete p got whole s)

end Sys2Proof.Machine
end

