-- ==== Sys2Proof/Machine/PortOrders.lean ====
section
/-! DEFINITION. Machine/PortOrders.lean: PORT-ENABLE, PORT-FENCE and PATH-GROUP-EDIT (R100, R281, R386-R388, R417). -/

namespace Sys2Proof.Machine

open Sys2Proof

/-- The port that byte 0x10 names. -/
def portOf (b : Bytes) : DPort := ⟨(byteAt b 0x10).toNat % 96, by omega⟩
def portFields (b : Bytes) : List (Nat × Nat × Bool) := [(0x10, 1, (byteAt b 0x10).toNat < 96)]

/-! ### PORT-ENABLE (R281, R386, R417, R519) -/

/-- A fence that PORT-ENABLE lifts. -/
def liftable (c : FenceCause) : Bool := c == .identity || c == .order || c == .balance

/-- The free list and the instances of accounts 0x01, 0x02 and 0x04 follow from the exchange table again (R416, R417). -/
def State.rebuildPort (s : State) (d : DPort) : State :=
  let s := s.modPort d (fun p =>
    let used := fun (g : Nat) => (tfind p.exch g).isSome || (tfind p.quar g).isSome
    let freed := p.freed.filter (fun g => !used g)
    { p with freed := freed ++ (List.range p.fresh).filter (fun g => !used g && !freed.contains g) })
  let n := (s.port d).exch.length + (s.port d).quar.length
  let s := s.onFaults (fun f => { f with accts := tdel (tdel f.accts (acctKey 1 d.val)) (acctKey 2 d.val) })
  s.rebuildAcct 4 d.val n (portSite d)

/-- The fences that PORT-ENABLE lifts are lifted, and the port comes up anew (R260, R281). -/
def State.enablePort (s : State) (d : DPort) : State :=
  let bal := (s.port d).fences.contains .balance
  let s := ((s.liftFence d .identity).liftFence d .order).liftFence d .balance
  let s := if bal then s.rebuildPort d else s
  let s := if (s.port d).txOn then s.retrain d else s.light d
  s.firePort d 6

/-- PORT_ENABLE. -/
def doPortEnable (p : HPort) (s : State) : State :=
  (s.runOrder p (isOpc 0x10) portFields true false none
    (fun s b =>
      let x := s.port (portOf b)
      if x.retired || (!x.fences.isEmpty && !x.fences.any liftable) then some 0xC else none)
    (fun s b =>
      let d := portOf b
      let s := (s.effected p).enablePort d
      s.setStage p (.portUp d (s.clk.now + Config.secondTicks) (s.port d).fences))).settle

/-- PORT_ENABLE_TIMEOUT (R386): 1 s after the order began. -/
def doPortEnableTimeout (p : HPort) (s : State) : State :=
  match (s.oq p).active with
  | none => s
  | some a =>
    match a.stage with
    | .portUp d deadline _ => if deadline ≤ s.clk.now then (s.done p (le 4 (slpState (s.port d)).toNat)).settle else s
    | _ => s

/-! ### PORT-FENCE (R281, R387) -/

/-- PORT_FENCE. -/
def doPortFence (p : HPort) (s : State) : State :=
  (s.runOrder p (isOpc 0x11) portFields true false none noRefusal
    (fun s b =>
      let d := portOf b
      let ended := ((s.port d).exch.filter (fun e => e.2.sent)).length
      let s := ((s.effected p).fence d .order 0 0).firePort d 6
      (s.allExch d (fun s g => s.abortPath d 5 g)).setStage p (.portFence d ended))).settle

/-! ### PATH-GROUP-EDIT (R100, R388) -/

def editNpath (b : Bytes) : Nat := (byteAt b 0x16).toNat
def editRaw (b : Bytes) : List Nat := (List.range 8).map (fun i => num b (0x18 + 2 * i) 2)
def editPaths (b : Bytes) : List Path := ((editRaw b).take (editNpath b)).filterMap pathOf

/-- The parameters: each path obeys R90, and R91 as far as the cage goes (log 30). -/
def State.editFields (s : State) (b : Bytes) : List (Nat × Nat × Bool) :=
  let raw := editRaw b
  let ok := fun (i : Nat) =>
    let v := raw.getD i 0
    if i < editNpath b then
      pathOk (raw.take i) v && (!s.list.loaded || ((pathOf v).map (fun x => (s.cageEntry (portCage x.port)).state == 1)).getD false)
    else v == 0
  [(0x10, 4, decide (num b 0x10 4 < 65536)), (0x16, 1, 1 ≤ editNpath b && editNpath b ≤ 8)] ++ (List.range 8).map (fun i => (0x18 + 2 * i, 2, ok i))

/-- A path that no group named is asked who it is where the port is up, and stands absent where it is not (R101, R388). -/
def State.newPath (s : State) (x : Path) : State :=
  let p := s.port x.port
  if p.link = 5 && !p.muted then s.startIdent x.port x.addr
  else if p.link = 4 then (s.modPort x.port (fun p => { p with idLeft := p.idLeft ++ [x.addr] })).startIdent x.port x.addr
  else ((s.modPath x.port x.addr (fun y => { y with good := false, absent := true, probing := false, retryAt := some (s.clk.now + Config.fiveSecTicks) })).light
    x.port)

/-- Programs that wait on a port for a slot or a tag, and may no longer use the path they wait on, choose again. -/
def State.editGroup (s : State) (pg : Nat) (paths : List Path) : State :=
  let before := s.list.groups.flatMap (fun g => g.2.paths)
  let old := s.groupPaths pg
  let s := s.onList (fun l => { l with groups := tupd l.groups pg (fun g => { g with paths := paths }) })
  let named := fun (s : State) (x : Path) => s.list.groups.any (fun g => g.2.paths.contains x)
  let gone := old.filter (fun x => !paths.contains x)
  let s := s.onList (fun l => { l with paths := (gone.filter (fun x => !named s x)).foldl (fun t x => tdel t (pathKey x.port x.addr)) l.paths })
  let s := (paths.filter (fun x => !before.contains x)).foldl State.newPath s
  gone.foldl (fun s x =>
    s.prog.subs.foldl (fun s b =>
      let sc : SC := BitVec.ofNat 18 b.1
      match s.prog? sc with
      | some q =>
        if b.2.group = pg && q.path == some x then
          (match q.phase with
          | .slotWait _ => s.choose sc none
          | _ => if q.tagWait.isSome then s.choose sc none else s)
        else s
      | none => s) s) s

/-- PATH_GROUP_EDIT. -/
def doPathGroupEdit (p : HPort) (s : State) : State :=
  (s.runOrder p (isOpc 0x12) s.editFields true false none
    (fun s b =>
      match tfind s.list.groups (num b 0x10 4) with
      | none => some 0x16
      | some g =>
        if (editPaths b).any (fun x => s.list.groups.any (fun h => h.2.cu != g.cu && h.2.paths.contains x)) then some 0x19 else none)
    (fun s b => ((s.effected p).editGroup (num b 0x10 4) (editPaths b)).setStage p (.groupEdit (num b 0x10 4)))).settle

/-! ### Meanings -/

def execPortEnable (p : HPort) (s : State) : Host.Outcome State Fault Refusal := .next (doPortEnable p s)
def execPortEnableTimeout (p : HPort) (s : State) : Host.Outcome State Fault Refusal := .next (doPortEnableTimeout p s)
def execPortFence (p : HPort) (s : State) : Host.Outcome State Fault Refusal := .next (doPortFence p s)
def execPathGroupEdit (p : HPort) (s : State) : Host.Outcome State Fault Refusal := .next (doPathGroupEdit p s)

end Sys2Proof.Machine
end

