-- ==== Sys2Proof/Machine/PowerOrders.lean ====
section
/-! DEFINITION. Machine/PowerOrders.lean: DOMAIN-POWER (R389, R430-R432), ENTER-SLEEP, the keeper's decision and the entry into Doze (R390, R440-R443), and Idle (R439). -/

namespace Sys2Proof.Machine

open Sys2Proof

/-! ### DOMAIN-POWER (R389, R430) -/

def domainNo (b : Bytes) : Nat := (byteAt b 0x10).toNat
def domainFields (b : Bytes) : List (Nat × Nat × Bool) := [(0x10, 1, decide (domainNo b ≤ 61)), (0x11, 1, decide ((byteAt b 0x11).toNat ≤ 1))]

/-- A bound tenant has column maps. -/
def State.mapsBound (s : State) : Bool := s.queues.tenants.any (fun x => ((x.2.binding.map (fun b => decide (0 < b.nmaps))).getD false))

/-- Why R389 refuses to switch a domain off for an order of a host port. -/
def State.offRefusal (s : State) (p : HPort) (n : Nat) : Option Nat :=
  if n = 60 || n = 58 + p.val then some 0xD
  else if (n = 56 || n = 57) && s.list.loaded then some 0xD
  else if n = 61 && s.mapsBound then some 0xD
  else if 48 ≤ n && n < 56 && (List.range 48).any (fun k => s.domOn k && (s.lcsOf k).contains n) then some 0xE
  else none

/-- Why R430 refuses to switch a domain on. -/
def State.onRefusal (s : State) (n : Nat) : Option Nat :=
  if s.domOn n then none
  else if n = 56 || n = 57 then some 0xD
  else if ((n < 56 || n = 61) && !s.hbmOn) || s.onDarkDie n then some 0xD
  else none

def domainFin (n : Nat) : Dom := ⟨n % 62, by omega⟩

/-- DOMAIN_POWER_ON. -/
def doDomainPowerOn (p : HPort) (s : State) : State :=
  (s.runOrder p (fun b => isOpc 0x20 b && byteAt b 0x11 == 1) domainFields false false none (fun s b => s.onRefusal (domainNo b))
    (fun s b =>
      let n := domainNo b
      if s.domOn n then ((s.requestOn n).effected p).done p (le 4 0)
      else ((s.requestOn n).effected p).setStage p (.domainSwitch (domainFin n)))).settle

/-- DOMAIN_POWER_OFF. -/
def doDomainPowerOff (p : HPort) (s : State) : State :=
  (s.runOrder p (fun b => isOpc 0x20 b && byteAt b 0x11 != 1) domainFields false false none (fun s b => s.offRefusal p (domainNo b))
    (fun s b =>
      let n := domainNo b
      if !s.domOn n then ((s.modDom n (fun x => { x with switching := none })).effected p).done p (le 4 0)
      else
        let s := if (s.dom n).switching = some false then s else s.requestOff n
        (s.effected p).setStage p (.domainSwitch (domainFin n)))).settle

/-! ### ENTER-SLEEP (R390, R440, R441) -/

def sleepFields (b : Bytes) : List (Nat × Nat × Bool) :=
  let mode := (byteAt b 0x10).toNat
  let mask := num b 0x14 4
  [(0x10, 1, mode == 2 || mode == 3), (0x14, 4, mask != 0 && decide (mask ≤ 0x1F)), (0x18, 8, decide (num b 0x18 8 < 2 ^ 48))]

/-- Another sleep, self-test or firmware order is in progress. -/
def State.busyOrder (s : State) (p : HPort) : Option Nat := if s.otherActive p exclusive then some 0x17 else none

/-- No port-pair domain is on or coming on, and no tenant has an outstanding entry (R390). -/
def State.maySleep (s : State) : Bool :=
  (List.range 48).all (fun n => !s.domOn n && (s.dom n).switching != some true) && s.queues.sqs.all (fun k => k.2.outst == 0)

/-- The order begins (R441): the queue engine takes no work, and the Tender writes the keeper's registers. -/
def State.beginSleep (s : State) (p : HPort) (b : Bytes) : State :=
  let mode : BitVec 2 := BitVec.ofNat 2 (byteAt b 0x10).toNat
  let s := s.onOrders (fun o => { o with sleeping := true, bells := [] })
  let s := s.onKeeper (fun k => { k with
    wakeMask := u32 b 0x14, wakeAt := u48 b 0x18, wakeCause := 0, sleepReq := mode, decide := 0, perstEdge := 0 })
  s.setStage p (.sleep mode)

def State.sleepOrder (s : State) (p : HPort) (want : Bytes → Bool) : State :=
  (s.runOrder p want sleepFields false false none
    (fun s _ => s.busyOrder p <|> (if s.maySleep then none else some 0xF)) (fun s b => s.beginSleep p b)).settle

/-- ENTER_SLEEP_DOZE, and MODE out of range. -/
def doEnterSleepDoze (p : HPort) (s : State) : State := s.sleepOrder p (fun b => isOpc 0x21 b && byteAt b 0x10 != 3)
/-- ENTER_SLEEP_HOLD. -/
def doEnterSleepHold (p : HPort) (s : State) : State := s.sleepOrder p (fun b => isOpc 0x21 b && byteAt b 0x10 == 3)

/-- The ring whose order asks for the sleep. -/
def State.sleeper (s : State) : Option (HPort × BitVec 2) :=
  let of1 := fun (p : HPort) => (s.oq p).active.bind (fun a => match a.stage with
    | .sleep m => some (p, m)
    | _ => none)
  of1 0 <|> of1 1

/-- The counter has reached WAKEAT (R441). -/
def Keeper.alarm (k : Keeper) : Bool := k.wakeAt != 0 && !(k.counter - k.wakeAt).msb

/-- An enabled source has fired at the commit edge (R441); WAKE# driven by the module itself is not WAKEIN (R440). -/
def Keeper.pendingWake (k : Keeper) (wakeLow sense0Low : Bool) : Bool :=
  let on := fun (i : Nat) => k.wakeMask.getLsbD i
  (on 0 && k.alarm) || (on 1 && wakeLow && k.wakeUntil.isNone) || (on 2 && k.perstEdge.getLsbD 0) || (on 3 && k.perstEdge.getLsbD 1) || (on 4 && sense0Low)

/-- The retention file with what an entry writes (R442, R448); a file that is not valid starts empty but for the working area. -/
def Keeper.base (k : Keeper) : Retention := if retValid k.ret then k.ret else { work := k.ret.work }
def Keeper.sleepFile (k : Keeper) (mode : BitVec 2) : Keeper :=
  { k with ret := retSeal { k.base with mode := mode.setWidth 8, wakeMask := k.wakeMask, wakeAt := k.wakeAt } }

/-- Doorbells and pushes kept during the order are discarded and logged (R441). -/
def State.dropBells (s : State) : State :=
  let s := s.orders.bells.foldl (fun s (x : Tenant × Nat) => s.accessError (.vf x.1) x.2 (if x.2 < 0x2000 then .doorbell else .buoy)) s
  let s := s.queues.sqs.foldl (fun s x =>
    ((s.modSq (queueTenant x.1) (queueNum x.1) (fun k => { k with tail := k.tail - k.outst, outst := 0, copies := [], copyEcc := [], pushed := [] }))).book 5 x.1
      (-(x.2.outst : Int))) s
  s.onOrders (fun o => { o with bells := [] })

/-- A host port's domain is off in a sleep: the port is in Fundamental Reset (R442). -/
def State.sleepHost (s : State) (p : HPort) : State :=
  (s.resetHost p true).domainOff (58 + p.val)

/-- SLEEP_COMMIT_EDGE (R441, R442 steps 1 to 4). -/
def doSleepCommitEdge (wakeLow sense0Low : Bool) (s : State) : State :=
  match s.sleeper with
  | none => s
  | some (p, mode) =>
    let s := s.fire 0 166
    if s.keeper.pendingWake wakeLow sense0Low then
      let s := (s.onKeeper (fun k => { k with decide := 2, sleepReq := 0 })).onOrders (fun o => { o with sleeping := false, bells := [] })
      (s.putReply p s.clk.hub 0x5000 []).settle
    else
      let s := (s.onKeeper (fun k => { k.sleepFile mode with decide := 1 })).effected p
      let s := ((s.done p []).flushHeld 0).flushHeld 1
      ((((s.dropBells).sleepHost 0).sleepHost 1).repace).settle

/-! ### Idle (R439) -/

/-- Nothing is outstanding: no entry, exchange, order or descriptor. -/
def State.idleNow (s : State) : Bool :=
  s.queues.sqs.all (fun k => k.2.outst == 0) && s.ports.ports.all (fun p => p.2.exch.isEmpty) &&
    ((s.oq 0).active.isNone && (s.oq 1).active.isNone) && s.data.movers.all (fun m => (moverDescs m.2).isEmpty)

/-- IDLE_ENTRY: after 100 µs without work. -/
def doIdleEntry (s : State) : State :=
  if s.power.mode == .run && s.idleNow && decide (s.power.quietAt + Config.us100Ticks ≤ s.clk.now) then s.onPower (fun p => { p with mode := .idle }) else s

/-! ### Meanings -/

def execDomainPowerOn (p : HPort) (s : State) : Host.Outcome State Fault Refusal := .next (doDomainPowerOn p s)
def execDomainPowerOff (p : HPort) (s : State) : Host.Outcome State Fault Refusal := .next (doDomainPowerOff p s)
def execEnterSleepDoze (p : HPort) (s : State) : Host.Outcome State Fault Refusal := .next (doEnterSleepDoze p s)
def execEnterSleepHold (p : HPort) (s : State) : Host.Outcome State Fault Refusal := .next (doEnterSleepHold p s)
def execSleepCommitEdge (wakeLow sense0Low : Bool) (s : State) : Host.Outcome State Fault Refusal := .next (doSleepCommitEdge wakeLow sense0Low s)
def execIdleEntry (s : State) : Host.Outcome State Fault Refusal := .next (doIdleEntry s)

end Sys2Proof.Machine
end

