-- ==== Sys2Proof/Machine/Resets.lean ====
section
/-! DEFINITION. Machine/Resets.lean: the fog signal as the keeper raises it, full resets, and bring-up from power-good (R38, R434, R454-R463, R467). -/

namespace Sys2Proof.Machine

open Sys2Proof

/-! ### The supply as the keeper sees it (R434, R448) -/

/-- A measurement of the input: KPR_SUPPLY, and when it was last below the rising fog threshold (R434, R436, R447). -/
def State.readSupply (s : State) (v : BitVec 12) : State :=
  s.onKeeper (fun k => { k with supply := v, lowAt := if v.toNat < Config.fogVolts then s.clk.now else k.lowAt })

/-- SMB_ALERT# is low while the fog signal is raised or the safe state holds (R505). -/
def State.alertOut (s : State) : State := s.emit (.smbAlert (s.foggy || s.safe))

/-- PWR_WARN_OUT# goes low with the fog signal (R435). -/
def State.fogOn (s : State) : State :=
  if s.foggy then s else (((s.onKeeper (fun k => { k with fog := true, lowAt := s.clk.now })).emit (.pwrWarn true)).alertOut)

/-- A fog signal: FOGAT and FOGS of the retention file (R448). -/
def State.raiseFog (s : State) : State :=
  if s.foggy then s
  else (s.onKeeper (fun k => { k with ret := retSeal { k.base with fogAt := k.counter, fogs := k.base.fogs + 1 } })).fogOn

/-- KIND 0x08 against a site, with a reading in 0.1 °C where there is one; the sensor's number, and the reading of any other, are free values (R425). -/
def State.logSensor (s : State) (site : W32) (reading : Option W16) : State :=
  let r := (reading.getD (s.freeVal.extractLsb' 16 16)).toNat
  (s.useFree).logFault 8 site whoNone (BitVec.ofNat 64 (s.freeVal.toNat % 256 + 65536 * r))

/-! ### Full resets (R454, R455) -/

/-- Every domain is without power: what is kept across a full reset is the keeper, the flash, sites out of service, and what stands outside the
module (R23, R455). -/
def State.unpowered (s : State) : State :=
  { pending := s.pending, out := s.out
    clk := { now := s.clk.now, free := s.clk.free }
    keeper := { s.keeper with sleepReq := 0, perstEdge := 0, waking := false, railTries := 0, railAt := none, bootAt := none, pllLocked := false }
    hosts := s.hosts.map (fun (h : Nat × HostPort) => (h.1, { perst := h.2.perst }))
    ports := {
      ports := (s.ports.ports.filter (fun (p : Nat × Port) => p.2.retired)).map (fun (p : Nat × Port) => (p.1, { retired := true }))
      cages := s.ports.cages.map (fun (c : Nat × Cage) => (c.1, { present := c.2.present, retired := c.2.retired, tripped := c.2.tripped })) }
    data := {
      movers := (s.data.movers.filter (fun (m : Nat × MoverSt) => m.2.retired)).map (fun (m : Nat × MoverSt) => (m.1, { retired := true }))
      pools := s.data.pools.map (fun (k : Nat × ColPool) => (k.1, { retired := k.2.retired })) }
    cores := { pairs := (s.cores.pairs.filter (fun (p : Nat × Pair) => p.2.retired)).map (fun (p : Nat × Pair) => (p.1, { retired := true })) }
    faults := { record := s.faults.record, spares := s.faults.spares }
    fw := { imgA := s.fw.imgA, imgB := s.fw.imgB, run := s.fw.run, bootFaults := s.fw.bootFaults }
    side := { armed := s.side.armed, tap := s.side.tap, pinsTaken := s.side.pinsTaken, cells := s.side.cells, pins := s.side.pins } }

/-- RSTCAUSE in the retention file; a bridge does not outlive a reset other than a wake from Hold (R448, R458). -/
def State.stampCause (s : State) (cause : Byte) : State :=
  s.onKeeper (fun k => { k with rstCause := cause, ret := retSeal { k.base with rstCause := cause, flags := k.base.flags &&& 0xFE } })

/-- A module reset with its cause; it ends the safe state (R411), and SMB_ALERT# with it (R505). -/
def State.moduleReset (s : State) (cause : Byte) : State :=
  let s1 := (s.unpowered).stampCause cause
  if s.safe then s1.alertOut else s1

/-- MODULE_RESET: the input is below the module reset threshold (R434). In Hold the bulk bank is disconnected and nothing is left to reset (R511). -/
def doModuleReset (supply : BitVec 12) (s : State) : State :=
  if s.power.mode == .off || s.power.mode == .hold || decide (Config.resetVolts < supply.toNat) then s.readSupply supply
  else ((s.readSupply supply).raiseFog).moduleReset 2

/-- KEEPER_RESET: the keeper's counter, registers and retention file are lost as well (R434, R447). -/
def doKeeperReset (s : State) : State := { s.unpowered with keeper := {}, side := { pins := s.side.pins } }

/-- ROOT_PLL_LOCK_LOSS (R38): in Run or Idle. -/
def doRootPllLockLoss (s : State) : State :=
  if s.keeper.pllLocked && (s.power.mode == .run || s.power.mode == .idle) then s.moduleReset 3 else s

/-! ### Power-good (R446, R448, R460, R461) -/

/-- The keeper reads its file and writes RSTCAUSE: a wrong file is treated as empty and logged; after a keeper reset a new one is begun. -/
def State.readRetention (s : State) : State :=
  let k := s.keeper
  let s := if retValid k.ret || k.ret == {} then s else s.logSensor retainSite none
  s.onKeeper (fun k => { k with ret := retSeal { k.base with
    rstCause := k.rstCause, flags := if k.waking then k.base.flags else k.base.flags &&& 0xFE } })

/-- The domains switched on at power-good (R460). -/
def powerGoodDomains : Table Domain := ((List.range 62).filter (fun n => 48 ≤ n)).map (fun n => (n, { on := true }))

/-- Bring-up begins: rails, root PLL, the boot timer (R460, R461, R467). -/
def State.startUp (s : State) : State :=
  let s := s.readRetention
  let s := s.onPower (fun p => { p with mode := .run, quietAt := s.clk.now, domains := powerGoodDomains })
  let s := s.onKeeper (fun k => { k with
    pllLocked := true, railTries := 0, railAt := some (s.clk.now + Config.secondTicks), bootAt := some (s.clk.now + Config.ms100Ticks) })
  let s := s.onFw (fun f => { f with rails := true })
  [(0 : HPort), 1].foldl (fun s p => if (s.host p).perst then s else s.emit (.retryStatus p)) s

/-- POWER_GOOD: not before the 10 ms without power of an SMBus request (R459). Rising from below the module reset threshold, the fog signal is still
raised (R434). -/
def doPowerGood (supply : BitVec 12) (s : State) : State :=
  let s := s.readSupply supply
  if s.power.mode != .off || decide (s.clk.now < s.keeper.railAt.getD 0) || decide (supply.toNat < Config.resetVolts) then s
  else (if s.keeper.rstCause = 1 || s.keeper.rstCause = 2 then s.fogOn else s).startUp

/-- RAIL_RETRY (R461): 1 s after an attempt that has not released the hub core, up to three times. -/
def doRailRetry (good : Bool) (s : State) : State :=
  match s.keeper.railAt with
  | none => s
  | some t =>
    if s.power.mode == .run && !s.fw.hub && decide (t ≤ s.clk.now) && decide (s.keeper.railTries < 3) then
      (s.onKeeper (fun k => { k with railTries := k.railTries + 1, pllLocked := good, railAt := some (s.clk.now + Config.secondTicks)
                                     bootAt := some (s.clk.now + Config.ms100Ticks) })).onFw (fun f => { f with rails := good })
    else s

/-! ### The hub core and the channel dies (R457, R461, R463) -/

/-- The fixed instances of accounts 0x03 and 0x08 (R457). -/
def fixedAccts : Table Acct :=
  ((List.range 98).map (fun i => (acctKey 3 i, ({} : Acct)))) ++ ((List.range 16).map (fun i => (acctKey 8 i, ({} : Acct))))

/-- HUB_CORE_RELEASE (R457, R458, R463): the timebase counts from 0, except in a wake from Hold, whose bridge sets it first (R446). -/
def doHubCoreRelease (mbistPass : Bool) (s : State) : State :=
  if s.power.mode == .run && s.fw.rails && s.keeper.pllLocked && !s.fw.hub then
    let s := (s.onFw (fun f => { f with hub := true })).onKeeper (fun k => { k with railAt := none })
    let s := (s.onClk (fun c => { c with hub := 0, running := !s.keeper.waking })).onFaults (fun f => { f with accts := fixedAccts })
    (if mbistPass then s else (s.logMismatch (dieSite 0) 60 true).enterSafe 2 (dieSite 0)).settle
  else s

/-- The die alarm of a channel die, at its own unit and at the hub (R326, R327). -/
def State.dieAlarm (s : State) (d : Die) : State := (s.fire ⟨d.val + 1, by omega⟩ 256).fire 0 (258 + d.val)

/-- CARRIER_LINK_TRAINED (R36, R461): the die's copy of the timebase is aligned; a die that does not answer is left dark. -/
def doCarrierLinkTrained (d : Die) (dieAnswers : Bool) (s : State) : State :=
  if s.fw.hub && (tfind s.fw.links d.val).isNone then
    let s := (s.onFw (fun f => { f with links := tset f.links d.val true })).onClk (fun c => { c with dies := tset c.dies d.val c.hub })
    if dieAnswers then s
    else (((s.onFw (fun f => { f with dark := f.dark ++ [d.val] })).domainOff (48 + 2 * d.val)).domainOff (49 + 2 * d.val)).settle
  else s

/-- CARRIER_LINK_FAULT (R326, R422, R461): a lasting fault at the link. -/
def doCarrierLinkFault (d : Die) (s : State) : State :=
  if s.fw.hub then (((s.dieAlarm d).actSite (linkSite d) 0 0).1).settle else s

/-! ### The Tender (R466, R467) -/

/-- The image that the boot ROM takes: that of RUN when it is valid, else the other (R467). -/
def Firmware.bootImage (f : Firmware) : Option Bool :=
  if (f.slot f.run).valid then some f.run else if (f.slot (!f.run)).valid then some (!f.run) else none

/-- TENDER_BOOT (R467): the Tender runs an image, or recovery is entered. -/
def doTenderBoot (s : State) : State :=
  if s.fw.hub && !s.fw.booted then
    let s := (s.onKeeper (fun k => { k with bootAt := none })).onCores (fun c => { c with tenderUp := true })
    (match s.fw.bootImage with
      | some b => (s.onFw (fun f => { f with booted := true, image := b, release := (f.slot b).release })).loadPair tender (s.fw.slot b).release none
      | none => s.onFw (fun f => { f with booted := true, recovery := true, image := f.run, release := 0 })).settle
  else s

def imageSite (b : Bool) : W32 := unitSite 7 1 (bnat b)
def State.dropImage (s : State) (b : Bool) : State :=
  s.onFw (fun f => if b then { f with imgB := { valid := false, release := 0 } } else { f with imgA := { valid := false, release := 0 } })

/-- The entry for an image that failed to boot (R467): its KIND, one of those that are not counted, and its DETAIL are free values. -/
def State.logBoot (s : State) (b : Bool) : State :=
  let kind : Byte := BitVec.ofNat 8 (6 + s.freeVal.toNat % 8)
  let lo := (s.useFree).freeVal
  let hi := (s.useFree.useFree).freeVal
  let detail : W64 := hi ++ lo
  (((s.useFree).useFree).useFree).logEntry kind (if kind = 0x0A && s.recordFull then 3 else faultClass kind detail) 0 (imageSite b) whoNone detail

/-- BOOT_TIMER_EXPIRY (R467): the image is marked invalid, and the module is reset to boot the other one. -/
def doBootTimerExpiry (s : State) : State :=
  match s.keeper.bootAt with
  | none => s
  | some t =>
    if decide (t ≤ s.clk.now) && s.fw.hub && !s.fw.booted then
      (match s.fw.bootImage with
        | some b => (s.dropImage b).logBoot b
        | none => s).moduleReset 4
    else s

/-! ### Staging memory, and readiness (R460-R462, R467) -/

/-- The entries that the Tender kept are written to the log, each with PF vector 4 (R423, R467). -/
def State.bootLog (s : State) : State :=
  let l := s.fw.bootFaults
  let s := s.onFw (fun f => { f with bootFaults := [] })
  l.foldl (fun s e => (s.onFaults (fun f => { f with log := logPut f.log { e with seq := f.next }, next := f.next + 1 })).pfVector 4) s

/-- HBM_TRAINED (R460, R461): staging memory is in service, or a lasting fault at the controller. -/
def doHbmTrained (trained : Bool) (s : State) : State :=
  if s.fw.hub && s.hbmOn && !s.fw.hbm then
    (if trained then ((s.onFw (fun f => { f with hbm := true })).onData (fun d => { d with inService := true })).bootLog
    else (s.actSite hbmSite 0 0).1).settle
  else s

/-- The pair that slot `k` had at shipment (R29). -/
def slotOwner (k : Nat) : PairNum := if h : k < 32 then ⟨10 * (k / 8) + k % 8, by omega⟩ else 0

/-- A slot whose own pair is out of service takes the spare that R29 gives its ports, or has none (R29, R300, R301, R461). -/
def State.assignSlot (s : State) (k : Nat) : State :=
  if (s.servingPair k).isSome || s.fw.dark.contains (k / 8) then s
  else
    match s.spareFor (slotOwner k) with
    | some c => s.modPair c (fun p => { p with slot := some k })
    | none => s.noPairPorts k

/-- MODULE_READY_FOR_ORDERS (R460-R462): the Lamp pairs are loaded, and the orders that waited can begin. -/
def doModuleReadyForOrders (s : State) : State :=
  if s.cores.tenderUp && !s.fw.recovery && s.fw.hbm && !s.fw.ready && (s.safe || (List.finRange 4).all (fun d => (tfind s.fw.links d.val).isSome)) then
    let s := (List.finRange 41).foldl (fun s c => if c.val < 40 && s.domOn (pairDomain c) then s.startPair c else s) s
    let s := (List.range 32).foldl (fun s k => s.assignSlot k) s
    ((s.onFw (fun f => { f with ready := true })).work).settle
  else s

/-! ### Meanings -/

def execModuleReset (supply : BitVec 12) (s : State) : Host.Outcome State Fault Refusal := .next (doModuleReset supply s)
def execKeeperReset (s : State) : Host.Outcome State Fault Refusal := .next (doKeeperReset s)
def execRootPllLockLoss (s : State) : Host.Outcome State Fault Refusal := .next (doRootPllLockLoss s)
def execPowerGood (supply : BitVec 12) (s : State) : Host.Outcome State Fault Refusal := .next (doPowerGood supply s)
def execRailRetry (good : Bool) (s : State) : Host.Outcome State Fault Refusal := .next (doRailRetry good s)
def execHubCoreRelease (mbistPass : Bool) (s : State) : Host.Outcome State Fault Refusal := .next (doHubCoreRelease mbistPass s)
def execCarrierLinkTrained (d : Die) (dieAnswers : Bool) (s : State) : Host.Outcome State Fault Refusal := .next (doCarrierLinkTrained d dieAnswers s)
def execCarrierLinkFault (d : Die) (s : State) : Host.Outcome State Fault Refusal := .next (doCarrierLinkFault d s)
def execTenderBoot (s : State) : Host.Outcome State Fault Refusal := .next (doTenderBoot s)
def execBootTimerExpiry (s : State) : Host.Outcome State Fault Refusal := .next (doBootTimerExpiry s)
def execHbmTrained (trained : Bool) (s : State) : Host.Outcome State Fault Refusal := .next (doHbmTrained trained s)
def execModuleReadyForOrders (s : State) : Host.Outcome State Fault Refusal := .next (doModuleReadyForOrders s)

end Sys2Proof.Machine
end

