-- ==== Sys2Proof/Machine/Wakes.lean ====
section
/-! DEFINITION. Machine/Wakes.lean: the end of the entry into Doze or Hold, and the wakes from them (R437, R442-R446, R451). -/

namespace Sys2Proof.Machine

open Sys2Proof

/-- A wake source that the mask enables has fired (R440, R444): ALARM only once the counter has reached WAKEAT, WAKEIN not while the module itself
drives WAKE# (R440). -/
def Keeper.wakes (k : Keeper) (source : Nat) : Bool :=
  k.wakeMask.getLsbD source && (source != 0 || k.alarm) && (source != 1 || k.wakeUntil.isNone)

def State.latchWake (s : State) (source : Nat) : State := s.onKeeper (fun k => { k with wakeCause := k.wakeCause ||| (1#32 <<< source) })

/-- The wake that a latched source asks for begins, unless the fog signal is raised (R437). The retention file says which it was (R448). -/
def State.beginWake (s : State) : State :=
  let k := s.keeper
  if s.foggy || k.waking || k.wakeCause &&& k.wakeMask = 0 then s
  else
    let s1 := s.onKeeper (fun k => { k with
      waking := true, ret := if retValid k.ret then retSeal { k.ret with wake := k.wakeCause.setWidth 8 &&& 0x1F } else k.ret })
    match s.power.mode with
    | .doze => s1.fire 0 166
    | .hold => (s1.onKeeper (fun k => { k with rstCause := 0 })).startUp
    | _ => s

/-- TIMEBASE_FREEZE (R442): T1 and k1 are recorded, the root PLL stops; in Hold every domain is off (R443). A wake latched meanwhile follows (R441). -/
def doTimebaseFreeze (s : State) : State :=
  if s.keeper.decide = 1 && s.keeper.sleepReq != 0 then
    let hold := s.keeper.sleepReq = 3
    let s := s.onKeeper (fun k => { k with ret := retSeal { k.base with t1 := s.clk.hub, k1 := k.counter }, sleepReq := 0, pllLocked := false })
    (if hold then (s.unpowered).onPower (fun p => { p with mode := .hold })
    else (s.onClk (fun c => { c with running := false })).onPower (fun p => { p with mode := .doze })).beginWake
  else s

/-- The entry into a mode that the keeper has decided runs on (R441). -/
def Keeper.entering (k : Keeper) (mode : BitVec 2) : Bool := k.decide == 1 && k.sleepReq == mode

/-- WAKE_FROM_DOZE (R444 step 1); a source that fires during the entry is latched (R441). -/
def doWakeFromDoze (source : Fin 5) (s : State) : State :=
  if (s.power.mode == .doze || s.keeper.entering 2) && s.keeper.wakes source.val then (s.latchWake source.val).beginWake else s

/-- WAKE_FROM_HOLD (R446): bring-up from power-good; a source that fires during the entry is latched (R441). -/
def doWakeFromHold (source : Fin 5) (s : State) : State :=
  if (s.power.mode == .hold || s.keeper.entering 3) && s.keeper.wakes source.val then (s.latchWake source.val).beginWake else s

/-- PLL_LOCK (R444 step 2). -/
def doPllLock (s : State) : State :=
  if s.power.mode == .doze && s.keeper.waking && !s.keeper.pllLocked then s.onKeeper (fun k => { k with pllLocked := true }) else s

/-- The timebase is loaded with the bridged value (R451); a file without a sleep in it gives no bridge (R448). -/
def State.bridgeTime (s : State) : State :=
  let r := s.keeper.ret
  if retValid r && r.mode != 0 then
    let kb := s.keeper.counter - r.k1
    let (t2, frac) := bridge r.t1 kb r.frac
    let s := s.onKeeper (fun k => { k with ret := retSeal { r with t2 := t2, kb := kb, frac := frac, bridges := r.bridges + 1, flags := r.flags ||| 1 } })
    s.onClk (fun c => { c with hub := t2, dies := c.dies.map (fun (d : Nat × W64) => (d.1, t2)), bridged := true })
  else s.logSensor retainSite none

/-- WAKE# is driven low for a wake on ALARM or SENSE0 (R445). -/
def State.driveWake (s : State) : State :=
  if s.keeper.wakeCause.getLsbD 0 || s.keeper.wakeCause.getLsbD 4 then
    (s.onKeeper (fun k => { k with wakeUntil := some (s.clk.now + Config.secondTicks) })).emit (.wake true)
  else s

/-- TIMEBASE_BRIDGE (R444 steps 3 to 5, R446): at keeper edge k2 of a wake from Doze, once the PLL is locked; in a wake from Hold, once the hub core
runs. -/
def doTimebaseBridge (s : State) : State :=
  let doze := s.power.mode == .doze && s.keeper.pllLocked
  let hold := s.power.mode == .run && s.fw.hub && !s.clk.running
  if s.keeper.waking && (doze || hold) then
    let s := ((s.bridgeTime).onClk (fun c => { c with running := true })).onKeeper (fun k => { k with waking := false })
    let s := if doze then
        (((s.onPower (fun p => { p with mode := .run, quietAt := s.clk.now })).onOrders (fun o => { o with sleeping := false })).domainOn 58).domainOn 59
      else s
    (s.driveWake).settle
  else s

/-- WAKE_DRIVE_TIMEOUT (R445). -/
def doWakeDriveTimeout (s : State) : State :=
  match s.keeper.wakeUntil with
  | some t => if t ≤ s.clk.now then (s.onKeeper (fun k => { k with wakeUntil := none })).emit (.wake false) else s
  | none => s

/-! ### Meanings -/

def execTimebaseFreeze (s : State) : Host.Outcome State Fault Refusal := .next (doTimebaseFreeze s)
def execWakeFromDoze (source : Fin 5) (s : State) : Host.Outcome State Fault Refusal := .next (doWakeFromDoze source s)
def execWakeFromHold (source : Fin 5) (s : State) : Host.Outcome State Fault Refusal := .next (doWakeFromHold source s)
def execPllLock (s : State) : Host.Outcome State Fault Refusal := .next (doPllLock s)
def execTimebaseBridge (s : State) : Host.Outcome State Fault Refusal := .next (doTimebaseBridge s)
def execWakeDriveTimeout (s : State) : Host.Outcome State Fault Refusal := .next (doWakeDriveTimeout s)

end Sys2Proof.Machine
end

