-- ==== Sys2Proof/Machine/Supply.lean ====
section
/-! DEFINITION. Machine/Supply.lean: the fog signal and its clear, over-voltage, and the input power limit (R72, R140, R288, R391, R434-R437, R465, R479). -/

namespace Sys2Proof.Machine

open Sys2Proof

/-- The exchanges that no entry owns any more are ended with ABORT reason 7; an identify asks again after the clear (R288). -/
def State.fogExchanges (s : State) : State :=
  (List.finRange 96).foldl (fun s d => s.allExch d (fun s g =>
    match (tfind (s.port d).exch g.toNat).map (fun (e : Exch) => e.owner) with
    | some (Owner.ident a) => (s.abortExch d g 7).modPath d a (fun x => { x with answer := [] })
    | _ => s.abortEnd d 7 cAbortedPower 0 g)) s

/-- A trip of the same 1 ms is booked as the switch-off under SHED, and raises no fence (R513). -/
def State.bookTrips (s : State) (cs : List CageNum) : State :=
  cs.foldl (fun s c => (s.modCage c (fun g => { g with tripped := false, tripAt := none })).liftCage c) s

/-- The switch of a cage has tripped within the last 1 ms. -/
def State.justTripped (s : State) (c : CageNum) : Bool :=
  (s.cage c).tripped && ((s.cage c).tripAt.map (fun t => decide (s.clk.now ≤ t + Config.msTicks))).getD false

/-- Cages lose their power under SHED, and are due again at the clear (R391, R436). -/
def State.shedPower (s : State) : State :=
  if s.power.shed then
    let tripped := (List.finRange 12).filter s.justTripped
    let cs := (List.finRange 12).filter (fun c => (s.cage c).powered || tripped.contains c)
    let s := cs.foldl (fun s c => s.unpowerCage c) (s.bookTrips tripped)
    s.onPower (fun p => { p with shedCages := p.shedCages ++ (cs.map (·.val)).filter (fun n => !p.shedCages.contains n) })
  else s

/-- A sleep order before its commit edge is refused (R437). -/
def State.fogSleep (s : State) : State :=
  match s.sleeper with
  | some (p, _) =>
    ((s.onOrders (fun o => { o with sleeping := false, bells := [] })).onKeeper (fun k => { k with sleepReq := 0 })).refuse p 2
  | none => s

/-- FOG_SIGNAL (R434, R435): the input is below the falling fog threshold; the line, vectors, ABORTs, then the endings of every covered entry and the held journal records. -/
def doFogSignal (supply : BitVec 12) (s : State) : State :=
  let s := s.readSupply supply
  if s.foggy || s.power.mode == .off || s.power.mode == .hold || decide (Config.fogVolts < supply.toNat) then s
  else
    let s := ((s.raiseFog).fire 0 165).fireSlots 26
    let s := (s.pfVector 1).vfVectors 8
    let s := (s.fogSleep).shedPower
    let s := s.queues.sqs.foldl (fun s x => s.abortSq (queueTenant x.1) (queueNum x.1) cAbortedPower 0 7 true) s
    let s := s.fogExchanges
    let s := s.onFw (fun f => { f with tests := f.tests.map (fun t => { t with started := false }) })
    ((s.flushHeld 0).flushHeld 1).settle

/-- FOG_CLEAR (R436): due when the input has been above the rising fog threshold for 100 ms; vectors again, cages shed and waves not begun, tests stopped, identifies and a latched wake. -/
def doFogClear (supply : BitVec 12) (s : State) : State :=
  let s := s.readSupply supply
  if !s.foggy || s.power.mode == .off || decide (supply.toNat < Config.fogVolts) || decide (s.clk.now < s.keeper.lowAt + Config.ms100Ticks) then s
  else
    let s := ((s.onKeeper (fun k => { k with fog := false })).emit (.pwrWarn false)).alertOut
    let s := (s.pfVector 1).vfVectors 8
    let s := s.onQueues (fun q => { q with tenants := q.tenants.map (fun (t : Nat × TenantSt) => (t.1, { t.2 with fogNoted := false })) })
    let s := s.rewave
    let s := ((List.finRange 12).filter (fun c => s.power.shedCages.contains c.val)).foldl (fun s c => s.dueCage c) s
    let s := s.onPower (fun p => { p with shedCages := [] })
    let s := (List.finRange 96).foldl (fun s d => s.kickIdents d) s
    (((s.startTests).beginWake)).settle

/-- OVER_VOLTAGE (R434): one entry an excursion, which ends when the input is seen below the threshold. -/
def doOverVoltage (supply : BitVec 12) (s : State) : State :=
  let s := s.onKeeper (fun k => { k with supply := supply })
  let above := decide (3020 < supply.toNat)
  if above && !s.keeper.overV then ((s.onKeeper (fun k => { k with overV := true })).logSensor keeperSite none).settle
  else s.onKeeper (fun k => { k with overV := above })

/-- Every port to half rate, or back (R267, R391). -/
def State.powerHold (s : State) (on : Bool) : State :=
  (((s.onPower (fun p => { p with throttle := on, overSince := none, underSince := none })).rethrottle).pfVector 4).settle

/-- POWER_LIMIT_THROTTLE (R391): a measurement of the input power in W. -/
def doPowerLimitThrottle (power : W16) (s : State) : State :=
  let s := s.onPower (fun p => { p with input := power })
  let p := s.power
  let now := s.clk.now
  if p.plimit = 0 || !(p.mode == .run || p.mode == .idle) then s.onPower (fun p => { p with overSince := none, underSince := none })
  else if !p.throttle then
    if p.plimit.toNat < power.toNat then
      match p.overSince with
      | none => s.onPower (fun p => { p with overSince := some now })
      | some t => if t + Config.ms100Ticks ≤ now then s.powerHold true else s
    else s.onPower (fun p => { p with overSince := none })
  else if power.toNat + 10 ≤ p.plimit.toNat then
    match p.underSince with
    | none => s.onPower (fun p => { p with underSince := some now })
    | some t => if t + Config.minuteTicks ≤ now then s.powerHold false else s
  else s.onPower (fun p => { p with underSince := none })

/-! ### Meanings -/

def execFogSignal (supply : BitVec 12) (s : State) : Host.Outcome State Fault Refusal := .next (doFogSignal supply s)
def execFogClear (supply : BitVec 12) (s : State) : Host.Outcome State Fault Refusal := .next (doFogClear supply s)
def execOverVoltage (supply : BitVec 12) (s : State) : Host.Outcome State Fault Refusal := .next (doOverVoltage supply s)
def execPowerLimitThrottle (power : W16) (s : State) : Host.Outcome State Fault Refusal := .next (doPowerLimitThrottle power s)

end Sys2Proof.Machine
end

