-- ==== Sys2Proof/Machine/Sensors.lean ====
section
/-! DEFINITION. Machine/Sensors.lean: inlet and die temperatures (R103, R326, R508, R509). A command is a measurement; a hold of 1 s, 10 s or 60 s is
found from the measurements. -/

namespace Sys2Proof.Machine

open Sys2Proof

/-- Since when a condition has held, with a new measurement of it. -/
def holdSince (now : Nat) (old : Option Nat) (holds : Bool) : Option Nat := if holds then some (old.getD now) else none

/-- A condition has held for so long. -/
def heldFor (now span : Nat) (since : Option Nat) : Bool := (since.map (fun t => decide (t + span ≤ now))).getD false

/-! ### Inlet (R103, R508) -/

/-- The higher reading, signed (R508). -/
def higher (a b : W16) : W16 := if a.toInt < b.toInt then b else a

/-- Both readings are stored. -/
def State.measureInlet (s : State) (a b : W16) : State := s.onTherm (fun t => { t with inletA := a, inletB := b })

/-- INLET_WARN_CROSSED (R103): once, until the inlet is found at INLET_WARN or below. -/
def doInletWarnCrossed (a b : W16) (s0 : State) : State :=
  let s := s0.measureInlet a b
  let above := s.list.loaded && decide (s.list.inletWarn.toInt < (higher a b).toInt)
  if above && !s.therm.warned then ((s.onTherm (fun t => { t with warned := true })).logSensor inletSite (some (higher a b))).settle
  else s.onTherm (fun t => { t with warned := above })

/-- Every port to half rate, or back (R103, R267). -/
def State.inletHold (s : State) (on : Bool) (reading : W16) : State :=
  ((((s.logFault 8 inletSite whoNone (BitVec.ofNat 64 (65536 * reading.toNat))).onTherm (fun t => { t with throttle := on, overSince := none, underSince := none })).rethrottle).pfVector 4).settle

/-- INLET_THROTTLE (R103): above INLET_MAX for 1 s. -/
def doInletThrottle (a b : W16) (s0 : State) : State :=
  let s := s0.measureInlet a b
  let since := holdSince s.clk.now s.therm.overSince (s.list.loaded && decide (s.list.inletMax.toInt < (higher a b).toInt))
  let s := s.onTherm (fun t => { t with overSince := since })
  if heldFor s.clk.now Config.secondTicks since && !s.therm.throttle then s.inletHold true (higher a b) else s

/-- INLET_THROTTLE_RELEASE (R103): below INLET_WARN for 60 s. -/
def doInletThrottleRelease (a b : W16) (s0 : State) : State :=
  let s := s0.measureInlet a b
  let since := holdSince s.clk.now s.therm.underSince (s.list.loaded && decide ((higher a b).toInt < s.list.inletWarn.toInt))
  let s := s.onTherm (fun t => { t with underSince := since })
  if heldFor s.clk.now Config.minuteTicks since && s.therm.throttle then s.inletHold false (higher a b) else s

/-- INLET_SENSOR_DISAGREE (R508): more than 5 °C apart for 10 s, once until they agree. -/
def doInletSensorDisagree (a b : W16) (s0 : State) : State :=
  let s := s0.measureInlet a b
  let apart := decide (50 < (a.toInt - b.toInt).natAbs)
  let since := holdSince s.clk.now s.therm.disagreeSince apart
  let s := s.onTherm (fun t => { t with disagreeSince := since, disagreed := t.disagreed && apart })
  if heldFor s.clk.now Config.tenSecTicks since && !s.therm.disagreed then
    ((s.onTherm (fun t => { t with disagreed := true })).logSensor inletSite (some (higher a b))).settle
  else s

/-! ### Dies (R509): die 0 is the hub. `dieHotSince` keeps 105 °C at the die's number and 115 °C at 8 more. -/

def optSet {α : Type} (t : Table α) (k : Nat) (v : Option α) : Table α :=
  match v with
  | some x => tset t k x
  | none => tdel t k

/-- The port-pair domains of a channel die that are on are withdrawn, to return without an order. -/
def State.withdrawDie (s : State) (die : Nat) : State :=
  let s := s.onTherm (fun t => { t with dieWithdrawn := tset t.dieWithdrawn die true })
  ((List.range 12).map (fun i => 12 * (die - 1) + i)).foldl (fun s n =>
    if s.domOn n then (s.requestOff n).modDom n (fun x => { x with hot := true }) else s) s

/-- DIE_OVER_TEMPERATURE. -/
def doDieOverTemperature (die : Fin 5) (temp : W16) (s : State) : State :=
  let d := die.val
  let now := s.clk.now
  let hot := holdSince now (tfind s.therm.dieHotSince d) (decide ((Config.dieMaxT : Int) < temp.toInt))
  let severe := holdSince now (tfind s.therm.dieHotSince (8 + d)) (decide ((Config.dieWithdrawT : Int) < temp.toInt))
  let s := s.onTherm (fun t => { t with dieTemp := tset t.dieTemp d temp, dieHotSince := optSet (optSet t.dieHotSince d hot) (8 + d) severe })
  if h : 1 ≤ d then
    let s := if heldFor now Config.secondTicks hot && !tget false s.therm.dieThrottle d then
        ((s.onTherm (fun t => { t with dieThrottle := tset t.dieThrottle d true })).dieAlarm ⟨d - 1, by omega⟩).rethrottle
      else s
    (if heldFor now Config.secondTicks severe && !tget false s.therm.dieWithdrawn d then s.withdrawDie d else s).settle
  else if heldFor now Config.secondTicks severe then (s.enterSafe 2 (dieSite 0)).settle else s

/-- The domains withdrawn for heat are due again in cage waves (R464). -/
def State.returnDie (s : State) (die : Nat) : State :=
  let s := s.onTherm (fun t => { t with dieWithdrawn := tdel t.dieWithdrawn die })
  let cs := (List.finRange 12).filter (fun c => c.val / 3 + 1 == die && [0, 1, 2, 3].any (fun i => (s.dom (4 * c.val + i)).hot))
  let s := cs.foldl (fun s c => s.dueCage c) s
  ((List.range 12).map (fun i => 12 * (die - 1) + i)).foldl (fun s n => s.modDom n (fun x => { x with hot := false })) s

/-- DIE_TEMPERATURE_RELEASE: below 95 °C for 60 s. -/
def doDieTemperatureRelease (die : Fin 5) (temp : W16) (s : State) : State :=
  let d := die.val
  let now := s.clk.now
  let cool := holdSince now (tfind s.therm.dieCoolSince d) (decide (temp.toInt < (Config.dieReleaseT : Int)))
  let s := s.onTherm (fun t => { t with dieTemp := tset t.dieTemp d temp, dieCoolSince := optSet t.dieCoolSince d cool })
  if heldFor now Config.minuteTicks cool then
    let s := if tget false s.therm.dieThrottle d then (s.onTherm (fun t => { t with dieThrottle := tdel t.dieThrottle d })).rethrottle else s
    (if tget false s.therm.dieWithdrawn d then s.returnDie d else s).settle
  else s

/-! ### Meanings -/

def execInletWarnCrossed (a b : W16) (s : State) : Host.Outcome State Fault Refusal := .next (doInletWarnCrossed a b s)
def execInletThrottle (a b : W16) (s : State) : Host.Outcome State Fault Refusal := .next (doInletThrottle a b s)
def execInletThrottleRelease (a b : W16) (s : State) : Host.Outcome State Fault Refusal := .next (doInletThrottleRelease a b s)
def execInletSensorDisagree (a b : W16) (s : State) : Host.Outcome State Fault Refusal := .next (doInletSensorDisagree a b s)
def execDieOverTemperature (die : Fin 5) (temp : W16) (s : State) : Host.Outcome State Fault Refusal := .next (doDieOverTemperature die temp s)
def execDieTemperatureRelease (die : Fin 5) (temp : W16) (s : State) : Host.Outcome State Fault Refusal := .next (doDieTemperatureRelease die temp s)

end Sys2Proof.Machine
end

