-- ==== Sys2Proof/Machine/Smbus.lean ====
section
/-! DEFINITION. Machine/Smbus.lean: the SMBus target of the keeper (R459, R505) and the test access port (R486-R488). -/

namespace Sys2Proof.Machine

open Sys2Proof

/-! ### The module reset request (R459, R505): a write whose PEC is wrong is ignored; nothing is served in Hold. -/

def State.smbusServed (s : State) : Bool := s.power.mode != .hold

/-- SMBUS_RESET_ARM: 0x5A to command 0xE0; with a request in progress it is a byte other than the one expected. -/
def doSmbusResetArm (pecGood : Bool) (s : State) : State :=
  if !s.smbusServed then s.emit .smbusNak
  else if !pecGood then s
  else s.onSide (fun x => { x with armed := if x.armed.isSome then none else some (s.clk.now + Config.secondTicks) })

/-- SMBUS_RESET_CONFIRM: 0xA5 within 1 s; every domain loses its power for 10 ms. -/
def doSmbusResetConfirm (pecGood : Bool) (s : State) : State :=
  if !s.smbusServed then s.emit .smbusNak
  else if !pecGood then s
  else
    let ok := (s.side.armed.map (fun t => decide (s.clk.now < t))).getD false
    let s := s.onSide (fun x => { x with armed := none })
    if ok then (s.moduleReset 4).onKeeper (fun k => { k with railAt := some (s.clk.now + Config.ms10Ticks) }) else s

/-- SMBUS_RESET_ARM_TIMEOUT. -/
def doSmbusResetArmTimeout (s : State) : State :=
  match s.side.armed with
  | some t => if t ≤ s.clk.now then s.onSide (fun x => { x with armed := none }) else s
  | none => s

/-- SMBUS_RESET_CANCEL: any other byte to command 0xE0. -/
def doSmbusResetCancel (value : Byte) (pecGood : Bool) (s : State) : State :=
  if !s.smbusServed then s.emit .smbusNak
  else if !pecGood || value = 0x5A || value = 0xA5 then s
  else s.onSide (fun x => { x with armed := none })

/-! ### Reads (R505) -/

/-- Mode bits [1:0]; before power-good the module is in none of the three modes, and the bits are a free value. -/
def State.modeBits (s : State) : Nat :=
  match s.power.mode with
  | .run => 0
  | .idle => 1
  | .doze => 2
  | _ => s.freeVal.toNat % 4

/-- Command 0x01. -/
def State.smbusMode (s : State) : Byte :=
  BitVec.ofNat 8 (s.modeBits + 4 * bnat s.foggy + 8 * bnat s.safe + 16 * bnat s.list.loaded)

def State.smbusReply (s : State) (o : Out) : State := (s.useFree).emit (if s.smbusServed then o else .smbusNak)
/-- A measurement of the hub: 0x8000 in Doze, when it makes none; a free value while the hub has no power. -/
def State.hubWord (s : State) (v : W16) : State :=
  s.smbusReply (.smbusWord (match s.power.mode with
    | .doze => 0x8000
    | .off => s.freeVal.setWidth 16
    | _ => v))

/-- The hottest die temperature measured, the hub's when there is no other. -/
def hottest (t : Table W16) : W16 := (t.map (fun (x : Nat × W16) => x.2)).foldl higher (t.head?.map (fun (x : Nat × W16) => x.2) |>.getD 0)

def doSmbusReadMode (s : State) : State := s.smbusReply (.smbusByte s.smbusMode)
def doSmbusReadVoltage (s : State) : State := s.smbusReply (.smbusWord (s.keeper.supply.setWidth 16))
def doSmbusReadPower (s : State) : State := s.hubWord (BitVec.ofNat 16 (10 * s.power.input.toNat))
def doSmbusReadInlet (s : State) : State := s.hubWord (higher s.therm.inletA s.therm.inletB)
def doSmbusReadDieTemp (s : State) : State := s.hubWord (hottest s.therm.dieTemp)
def doSmbusReadBeacon (s : State) : State := s.hubWord (s.side.beacon.setWidth 16)

/-! ### The test access port (R486, R488) -/

/-- Served while the input is above the module reset threshold and the module is not in Hold. -/
def State.tapServed (s : State) : Bool := s.power.mode != .hold && s.power.mode != .off

/-- An instruction that leaves the module in service. -/
def State.tapLoad (s : State) (n : Nat) : State := if s.tapServed then s.onSide (fun x => { x with tap := n }) else s

/-- The signals that boundary scan covers (R487): lanes by direction, `tx` true for the module's transmitter. -/
inductive ScanSignal where
  | hostLane (p : HPort) (lane : Fin 16) (tx : Bool)
  | cageLane (d : DPort) (tx : Bool)
  | cageScl (c : CageNum)
  | cageSda (c : CageNum)
  | modPrsL (c : CageNum)
  | intL (c : CageNum)
  | resetL (c : CageNum)
  | lpMode (c : CageNum)
  | smbClk
  | smbDat
  | wake
  | perst (p : HPort)
  | sense (n : Fin 16)
  | pwrWarnOut
deriving DecidableEq, Repr

/-- The cells of the chain, a cell a signal: the keeper die, the hub die, channel dies 1-4 (R486, R487). Which of the keeper and the hub carries the
sideband's cells follows who serves the pin (R503), and the order within a die is the model's (DESIGN CHOICE, log 135). -/
def scanCells : List ScanSignal :=
  let cages := List.finRange 12
  let lanes := fun (mk : Bool → ScanSignal) => [mk true, mk false]
  [.smbClk, .smbDat, .wake, .perst 0, .perst 1, .sense 0, .pwrWarnOut] ++
    ((List.finRange 2).flatMap (fun p => (List.finRange 16).flatMap (fun l => lanes (.hostLane p l)))) ++
    (((List.finRange 16).drop 1).map .sense) ++
    (cages.flatMap (fun c => [.cageScl c, .cageSda c, .modPrsL c, .intL c, .resetL c, .lpMode c])) ++
    ((List.finRange 96).flatMap (fun d => lanes (.cageLane d)))

/-- The numbered domain that holds a signal's cell; none for the keeper's, which are always powered (R427, R503). -/
def ScanSignal.domain : ScanSignal → Option Nat
  | .hostLane p _ _ => some (58 + p.val)
  | .cageLane d _ => some (portPP d)
  | .cageScl _ | .cageSda _ | .modPrsL _ | .intL _ | .resetL _ | .lpMode _ => some 60
  | .sense n => if n = 0 then none else some 60
  | .smbClk | .smbDat | .wake | .perst _ | .pwrWarnOut => none

/-- The level of a pin: what the module's logic drives on it or knows of it, else what others drive, a free value (R30, R284, R435, R445, R487). -/
def State.pinLevel (s : State) (cell : Nat) (x : ScanSignal) : Bool :=
  let other := Config.scanPin s.clk.free cell
  match x with
  | .modPrsL c => !(s.cage c).present
  | .resetL c => (s.cage c).powered
  | .lpMode c => !(s.cage c).checked
  | .wake => s.keeper.wakeUntil.isNone && other
  | .perst p => !(s.host p).perst
  | .pwrWarnOut => !s.foggy
  | _ => other

/-- What every cell captures: 0 in a domain that is off (R486). -/
def State.capture (s : State) : List Bool :=
  scanCells.zipIdx.map (fun x => (x.1.domain.map s.domOn).getD true && s.pinLevel x.2 x.1)

/-- The cells capture. -/
def State.sample (s : State) : State := (s.useFree).onSide (fun x => { x with cells := s.capture })

/-- The domains that hold boundary-scan cells: the hub core's, the host ports', the port pairs' with their lanes, and those these depend on (R427,
R486). -/
def scanDomains : List Nat := (List.range 62).filter (fun n => n != 61)

/-- An instruction that takes the pins: every domain with scan cells is switched on (R486), whatever it depends on; the EXTEST kinds capture as they
drive. -/
def State.tapTake (s : State) (n : Nat) : State :=
  if s.tapServed then
    let s := s.onSide (fun x => { x with tap := n, pinsTaken := true })
    let s := s.onPower (fun p => { p with domains := scanDomains.foldl (fun t k => tmod {} t k (fun x => { x with on := true })) p.domains })
    if n = 4 || n = 5 then s else s.sample
  else s

def doBypass (s : State) : State := s.tapLoad 0
def doIdcode (s : State) : State :=
  if s.tapServed then (s.tapLoad 1).emit (.tapIdcode ((List.range 6).map Config.idcode)) else s
def doSamplePreload (s : State) : State := if s.tapServed then ((s.tapLoad 2).sample).emit (.tapSampled s.capture) else s
def doExtest (s : State) : State := s.tapTake 3
def doClamp (s : State) : State := s.tapTake 4
def doHighz (s : State) : State := s.tapTake 5
def doExtestPulse (s : State) : State := s.tapTake 6
def doExtestTrain (s : State) : State := s.tapTake 7

/-- TEST_LOGIC_RESET (R488): a module reset after an instruction that took the pins. -/
def doTestLogicReset (s : State) : State :=
  if s.tapServed then
    let taken := s.side.pinsTaken
    let s := s.onSide (fun x => { x with tap := 1, pinsTaken := false })
    if taken then s.moduleReset 4 else s
  else s

/-! ### Meanings -/

def execSmbusResetArm (pecGood : Bool) (s : State) : Host.Outcome State Fault Refusal := .next (doSmbusResetArm pecGood s)
def execSmbusResetConfirm (pecGood : Bool) (s : State) : Host.Outcome State Fault Refusal := .next (doSmbusResetConfirm pecGood s)
def execSmbusResetArmTimeout (s : State) : Host.Outcome State Fault Refusal := .next (doSmbusResetArmTimeout s)
def execSmbusResetCancel (value : Byte) (pecGood : Bool) (s : State) : Host.Outcome State Fault Refusal := .next (doSmbusResetCancel value pecGood s)
def execSmbusReadMode (s : State) : Host.Outcome State Fault Refusal := .next (doSmbusReadMode s)
def execSmbusReadVoltage (s : State) : Host.Outcome State Fault Refusal := .next (doSmbusReadVoltage s)
def execSmbusReadPower (s : State) : Host.Outcome State Fault Refusal := .next (doSmbusReadPower s)
def execSmbusReadInlet (s : State) : Host.Outcome State Fault Refusal := .next (doSmbusReadInlet s)
def execSmbusReadDieTemp (s : State) : Host.Outcome State Fault Refusal := .next (doSmbusReadDieTemp s)
def execSmbusReadBeacon (s : State) : Host.Outcome State Fault Refusal := .next (doSmbusReadBeacon s)
def execBypass (s : State) : Host.Outcome State Fault Refusal := .next (doBypass s)
def execIdcode (s : State) : Host.Outcome State Fault Refusal := .next (doIdcode s)
def execSamplePreload (s : State) : Host.Outcome State Fault Refusal := .next (doSamplePreload s)
def execExtest (s : State) : Host.Outcome State Fault Refusal := .next (doExtest s)
def execClamp (s : State) : Host.Outcome State Fault Refusal := .next (doClamp s)
def execHighz (s : State) : Host.Outcome State Fault Refusal := .next (doHighz s)
def execExtestPulse (s : State) : Host.Outcome State Fault Refusal := .next (doExtestPulse s)
def execExtestTrain (s : State) : Host.Outcome State Fault Refusal := .next (doExtestTrain s)
def execTestLogicReset (s : State) : Host.Outcome State Fault Refusal := .next (doTestLogicReset s)

end Sys2Proof.Machine
end

