-- ==== Sys2Proof/Machine/Balance.lean ====
section
/-! DEFINITION. Machine/Balance.lean: the rounds of the Trial Balance Unit (R413, R414, R416). -/

namespace Sys2Proof.Machine

open Sys2Proof

/-- The exchange of a transfer-bytes instance ends its program; the instance is closed (R414). -/
def State.fenceXfer (s : State) (i : Nat) : State :=
  let d := portNo (i / 4096)
  let g : Tag := BitVec.ofNat 12 i
  let s := s.onFaults (fun f => { f with accts := tdel f.accts (acctKey 9 i) })
  match (tfind (s.port d).exch g.toNat).map (fun (e : Exch) => e.owner) with
  | some (Owner.prog sc) => s.endProgram sc { code := cBalance, reason := 9, step := (s.prog? sc).bind (·.here) } 2
  | _ => s

/-- A broken instance is logged and what R414 names is fenced; one already fenced is not reported again. -/
def State.breakAcct (s : State) (a i : Nat) (x : Acct) : State :=
  let t := queueTenant i
  let q := queueNum i
  match a with
  | 5 => if ((s.sq? t q).map (·.fenced)).getD true then s else (s.logBalance 5 i x queueSite).fenceSq t q
  | 6 => if ((s.cq? t q).map (·.fenced)).getD true then s else (s.logBalance 6 i x writerSite).fenceCq t q
  | 7 => if ((s.token? i).map (·.fenced)).getD true then s else (s.logBalance 7 i x tokenSite).fenceToken i
  | 8 => if h : i < 16 then (if (s.mover ⟨i, h⟩).fenced then s else (s.logBalance 8 i x (moverSite ⟨i, h⟩)).fenceMover ⟨i, h⟩) else s
  | 9 => (s.logBalance 9 i x (portSite (portNo (i / 4096)))).fenceXfer i
  | 3 =>
    if 1 ≤ i && i ≤ 96 then
      (if (s.port (portNo (i - 1))).fences.contains .balance then s
      else (s.logBalance 3 i x (portSite (portNo (i - 1)))).balanceFencePort (portNo (i - 1)) 3)
    else if s.safe then s
    else (s.logBalance 3 i x hbmSite).enterSafe 3 hbmSite
  | _ =>
    if a = 1 || a = 2 || a = 4 then
      (if (s.port (portNo i)).fences.contains .balance then s
      else (s.logBalance a i x (portSite (portNo i))).balanceFencePort (portNo i) (BitVec.ofNat 8 a))
    else s

/-- The period of 15,625 ticks in which the hub timebase stands: with a new one a round begins (R413). -/
def State.roundNow (s : State) : Nat := s.clk.hub.toNat / Config.roundTicks

/-- BALANCE_ROUND: `agree` is the outcome of the self-check and of the comparators; in order of account and instance (R413). Due once in a period. -/
def doBalanceRound (agree : Bool) (s0 : State) : State :=
  let s := s0.onFaults (fun f => { f with round := s0.roundNow })
  if !s0.fw.hub || !(s0.power.mode == .run || s0.power.mode == .idle) || s0.roundNow == s0.faults.round then s0
  else if !agree then (s.enterSafe 1 tbuSite).settle
  else
    let broken := s.faults.accts.filter (fun (x : Nat × Acct) => x.2.debit != x.2.credit)
    if broken.isEmpty then s
    else (broken.foldl (fun s (x : Nat × Acct) => s.breakAcct (x.1 / 2 ^ 24) (x.1 % 2 ^ 24) x.2) s).settle

/-! ### Meanings -/

def execBalanceRound (agree : Bool) (s : State) : Host.Outcome State Fault Refusal := .next (doBalanceRound agree s)

end Sys2Proof.Machine
end

