-- ==== Sys2Proof/Machine/Boxes.lean ====
section
/-! DEFINITION. Machine/Boxes.lean: the mailboxes (R337-R345): messages, status, commit and take, the events they raise. -/

namespace Sys2Proof.Machine

open Sys2Proof

/-- LEN of a header (R338). -/
def hdrLen (h : W32) : Nat := fieldOf h 14 8

/-- The Lamp pair that serves the slot of mailbox `m` runs (R340). -/
def State.slotServed (s : State) (k : Nat) : Bool := (s.servingPair k).isSome

/-- The other end of a mailbox can take (R340). -/
def State.farUp (s : State) (m : Nat) : Bool :=
  if m < 16 then s.pfMaster 0 else if m < 32 then s.pfMaster 1 else s.slotServed (m - 32)

/-- MBX_STAT (R340). -/
def State.mbxStat (s : State) (m : Nat) : W32 :=
  let b := s.mbx m
  BitVec.ofNat 32 (b.toT.length + 8 * bnat (decide (4 ≤ b.toT.length)) + 16 * b.fromT.length + 128 * bnat (decide (4 ≤ b.fromT.length)) +
    256 * bnat s.cores.tenderUp + 512 * bnat (s.farUp m))

/-- The vector of a host mailbox (R66, R343). -/
def State.mbxVector (s : State) (m : Nat) : State := s.vector (.pf (if m < 16 then 0 else 1)) (16 + m % 16)

/-- An event of a Lamp slot's mailbox (R326). -/
def State.fireSlot (s : State) (m n : Nat) : State :=
  let k := m - 32
  s.fire ⟨(1 + k / 8) % 5, by omega⟩ (32 * (k % 8) + n)

/-- A message is committed with bit 15 of its header zero (R338): toward the Tender (R341, R343). -/
def State.commitTo (s : State) (m : Nat) (h : W32) (b : Bytes) : State :=
  (s.modMbx m (fun x => { x with toT := x.toT ++ [(h &&& 0xFFFF7FFF, padTo 64 b)] })).fire 0 (1 + m)

/-- A message is committed from the Tender (R343). -/
def State.commitFrom (s : State) (m : Nat) (h : W32) (b : Bytes) : State :=
  let s := s.modMbx m (fun x => { x with fromT := x.fromT ++ [(h &&& 0xFFFF7FFF, padTo 64 b)] })
  if m < 32 then s.mbxVector m else s.fireSlot m 24

/-- The Tender takes the oldest message toward it (R343). -/
def State.takeTo (s : State) (m : Nat) : State :=
  let s := s.modMbx m (fun x => { x with toT := x.toT.drop 1 })
  if m < 32 then s.mbxVector m else s.fireSlot m 25

/-- The other end takes the oldest message from the Tender (R342, R343). -/
def State.takeFrom (s : State) (m : Nat) : State := (s.modMbx m (fun x => { x with fromT := x.fromT.drop 1 })).fire 0 (65 + m)

/-! ### The host's end (R62-R64, R339-R342) -/

def hostMbx (p : HPort) (j : MbxNum) : Nat := 16 * p.val + j.val

/-- The payload that the next commit of a host mailbox carries. -/
def State.txPayload (s : State) (p : HPort) (j : MbxNum) : Bytes :=
  (List.range 64).map (fun i => Memory.read (tget [] (s.host p).txbuf j.val) i)

/-- A commit from the host has room and a good header (R62, R64, R338). -/
def State.mbxTakes (s : State) (p : HPort) (j : MbxNum) (h : W32) : Bool :=
  decide ((s.mbx (hostMbx p j)).toT.length < Config.mailboxDepth) && decide (hdrLen h ≤ 64)

def mbxOff (j : MbxNum) (r : Nat) : Nat := 0x20000 + 0x100 * j.val + r

/-- MBX_SEND by a posted write (R64, R341): committed, or dropped and logged. -/
def doMbxSend (p : HPort) (j : MbxNum) (h : W32) (s : State) : State :=
  if !(s.fnLive (.pf p) && (s.fn (.pf p)).mse && !(s.fn (.pf p)).d3) then s
  else if s.mbxTakes p j h then
    let s := s.commitTo (hostMbx p j) h (s.txPayload p j)
    if h.getLsbD 15 then (s.accessError (.pf p) (mbxOff j 0x40) .reservedBit).settle else s
  else (s.accessError (.pf p) (mbxOff j 0x40) .mailbox).settle

/-- MBX_TAKE (R342). -/
def doMbxTake (p : HPort) (j : MbxNum) (v : W32) (s : State) : State :=
  if !(s.fnLive (.pf p) && (s.fn (.pf p)).mse && !(s.fn (.pf p)).d3) then s
  else if v.getLsbD 0 && !(s.mbx (hostMbx p j)).fromT.isEmpty then
    let s := s.takeFrom (hostMbx p j)
    if v &&& ~~~(1 : W32) = 0 then s else (s.accessError (.pf p) (mbxOff j 0x4C) .reservedBit).settle
  else (s.accessError (.pf p) (mbxOff j 0x4C) .other).settle

/-! ### Meanings -/

def execMbxSend (p : HPort) (j : MbxNum) (header : W32) (s : State) : Host.Outcome State Fault Refusal := .next (doMbxSend p j header s)
def execMbxTake (p : HPort) (j : MbxNum) (value : W32) (s : State) : Host.Outcome State Fault Refusal := .next (doMbxTake p j value s)

end Sys2Proof.Machine
end

