-- ==== Sys2Proof/Machine/SelfTests.lean ====
section
/-! DEFINITION. Machine/SelfTests.lean: the units of a domain and their signatures, the tests of START-SELF-TEST, of start-up, of fenced movers, and
the rotating tests (R392, R417, R463, R471-R483). -/

namespace Sys2Proof.Machine

open Sys2Proof

/-! ### Units and signatures (R24, R473, R474) -/

/-- The units of a domain, by unit-level site, in order of die, cluster and unit number. -/
def domainUnits (n : Nat) : List W32 :=
  if n < 48 then
    let d := 1 + n / 12
    let k := 2 * (n % 12)
    [unitSite d 0 k, unitSite d 0 (k + 1), unitSite d 0 (32 + k), unitSite d 0 (33 + k)]
  else if n < 56 then
    let d := 1 + (n - 48) / 2
    let c := (n - 48) % 2
    ([0, 1, 2, 3].map (fun i => unitSite d 0 (64 + 4 * c + i))) ++ [unitSite d 0 (72 + c)]
  else if n < 58 then [0, 1, 2].map (fun i => unitSite 0 (n - 54) i)
  else if n < 60 then [0, 1, 2, 3].map (fun i => unitSite 0 (n - 58) i)
  else if n = 60 then
    ((List.range 17) ++ (List.range 16).map (32 + ·) ++ (List.range 7).map (48 + ·) ++ (List.range 4).map (56 + ·)).map (fun i => unitSite 0 4 i)
  else [1, 2, 3, 4].flatMap (fun d => (List.range 8).map (fun i => unitSite d 1 i))

/-- The kind of a unit: what its golden signatures depend on, not its position (R474). -/
def unitKind (site : W32) : Nat :=
  let cluster := fieldOf site 25 20
  let unit := fieldOf site 19 12
  if fieldOf site 28 26 = 0 then
    if cluster < 2 then 100 + unit
    else if cluster < 4 then 110 + unit
    else if unit < 16 then 120 else if unit < 32 then 121 else if unit < 48 then 122 else if unit < 56 then 130 + (unit - 48) else 140
  else if cluster = 1 then 150
  else if unit < 32 then 160 else if unit < 64 then 161 else 162

/-- A unit is out of service: it is not tested (R473). -/
def State.unitRetired (s : State) (site : W32) : Bool :=
  match unitOf site with
  | .pair c => (s.pair c).retired
  | .port d => (s.port d).retired
  | .mover m => (s.mover m).retired
  | .engine d e => (s.pool d).retired.contains e.val
  | _ => false

/-- A site lies in a unit: DIE, CLUSTER and UNIT agree (R22). -/
def inUnit (unit site : W32) : Bool := fieldOf site 28 12 == fieldOf unit 28 12

/-- The golden signature of a unit under the running release. -/
def State.goldenOf (s : State) (unit : W32) (mbist : Bool) : W64 := Config.golden s.fw.release (unitKind unit) mbist

/-- What a run gave for a unit: a site in it and its signature; a unit that it does not list, or that is out of service, gave its golden value. -/
def State.unitSig (s : State) (mbist : Bool) (sigs : List (W32 × W64)) (unit : W32) : W32 × W64 :=
  match (if s.unitRetired unit then none else sigs.find? (fun x => inUnit unit x.1)) with
  | some x => if mbist then x else (unit, x.2)
  | none => (unit, s.goldenOf unit mbist)

/-- The units that do not match, each with the site its entry names: at macro level for MBIST where the run named a macro (R478). -/
def State.mismatches (s : State) (units : List W32) (mbist : Bool) (sigs : List (W32 × W64)) : List W32 :=
  (units.filter (fun u => (s.unitSig mbist sigs u).2 != s.goldenOf u mbist)).map (fun u => (s.unitSig mbist sigs u).1)

/-- The signature of a domain: the CRC-64 over its units' (R473). -/
def State.domainSig (s : State) (units : List W32) (mbist : Bool) (sigs : List (W32 × W64)) : W64 :=
  digest 0 (units.flatMap (fun u => le 8 (s.unitSig mbist sigs u).2.toNat))

/-- KIND 0x0A, and the unit is acted on as a lasting fault with "by" 2 (R478). -/
def State.failUnit (s : State) (site : W32) (n : Nat) (mbist : Bool) : State := ((s.logMismatch site n mbist).actSite site 0 2).1

/-- The signature is held until the next full reset (R480). -/
def State.holdSig (s : State) (n : Nat) (mbist : Bool) (sig : W64) : State :=
  s.onFw (fun f => { f with sigs := tset f.sigs (2 * n + bnat mbist) { misr := sig, time := s.clk.hub, release := f.release } })

/-! ### START-SELF-TEST (R392, R477) -/

def testDomains (b : Bytes) : List Nat := (List.range 62).filter (fun n => (u64 b 0x10).getLsbD n)
def testKind (b : Bytes) : Nat := (byteAt b 0x18).toNat

/-- The domain of a rotating unit (R427). -/
def rotDomain : RotUnit → Nat
  | .lampPair c => pairDomain c
  | .mover _ => 60
  | .columnizer _ _ => 61
  | .portPair n => n.val

/-- A unit under a rotating test is free of it. -/
def State.unitFree (s : State) (u : RotUnit) : State :=
  match u with
  | .lampPair c => s.modPair c (fun p => { p with testing := false })
  | .mover m => s.modMover m (fun x => { x with testing := false, freeing := none })
  | .columnizer d e => s.modPool d (fun k => { k with testing := k.testing.filter (· != e.val) })
  | .portPair n => s.modDom n.val (fun x => { x with testing := false })

/-- A rotating test stops. -/
def State.rotDrop (s : State) (u : RotUnit) : State :=
  (s.unitFree u).onFw (fun f => { f with rotating := f.rotating.filter (· != u), again := f.again.filter (· != u) })

/-- A domain is withdrawn for its test; a rotating test of one of its units stops (R477, R479). -/
def State.withdrawForTest (s : State) (kind n : Nat) : State :=
  let s := (s.fw.rotating.filter (fun u => rotDomain u == n)).foldl (fun s u => s.rotDrop u) s
  let t : TestRun := { dom := n, mbist := kind == 2, both := kind == 3, wasOn := s.domOn n }
  let s := (s.requestOff n).modDom n (fun x => { x with testing := true })
  s.onFw (fun f => { f with tests := f.tests ++ [t] })

/-- START_SELF_TEST. -/
def doStartSelfTest (p : HPort) (s : State) : State :=
  (s.runOrder p (isOpc 0x30) (fun b =>
      let m := num b 0x10 8
      [(0x10, 8, m != 0 && decide (m < 2 ^ 62)), (0x18, 1, 1 ≤ testKind b && testKind b ≤ 3)]) false false none
    (fun s b => s.busyOrder p <|> ((testDomains b).filterMap (fun n => s.offRefusal p n)).head?)
    (fun s b =>
      let s := s.onFw (fun f => { f with tests := [], failedDoms := 0 })
      let s := (testDomains b).foldl (fun s n => s.withdrawForTest (testKind b) n) s
      ((s.effected p).setStage p .selfTest).startTests)).settle

/-! ### A test finishes (R463, R478) -/

/-- An ordered test of a domain ends: what failed, then MBIST where both kinds were asked, or the domain's return (R477). -/
def State.orderedDone (s : State) (t : TestRun) (mbist : Bool) (bad : List W32) : State :=
  let n := t.dom
  let s := bad.foldl (fun s site => s.failUnit site n mbist) s
  let s := if bad.isEmpty then s else s.onFw (fun f => { f with failedDoms := f.failedDoms ||| (1#64 <<< n) })
  let rest := s.fw.tests.filter (fun x => x.dom != n)
  if t.both && !mbist then
    s.onFw (fun f => { f with tests := f.tests.map (fun x => if x.dom == n then { x with mbist := true, both := false } else x) })
  else
    let s := (s.onFw (fun f => { f with tests := rest })).modDom n (fun x => { x with testing := false })
    ((if t.wasOn then s.requestOn n else s).startTests).testReply

/-- A start-up test of a domain ends (R463): the units that do not match, and the domain's own outcome. -/
def State.startupDone (s : State) (n : Nat) (mbist : Bool) (bad : List W32) : State :=
  if bad.isEmpty then s
  else if n < 48 then
    let s := bad.foldl (fun s site => s.logMismatch site n mbist) s
    ((ppPorts n).foldl (fun s d => (s.actSite (portSite d) 0 2).1) s).domainOff n
  else if n < 56 then
    let s := bad.foldl (fun s site => s.logMismatch site n mbist) s
    ((List.finRange 41).filter (fun c => pairDomain c == n)).foldl (fun s c => (s.actSite (pairSite c) 0 2).1) s
  else if n = 61 then
    let s := bad.foldl (fun s site => s.logMismatch site n mbist) s
    (List.finRange 4).foldl (fun (s : State) (d : Die) =>
      if bad.any (fun x => fieldOf x 28 26 == d.val + 1) then (List.finRange 8).foldl (fun s e => (s.actSite (engineSite d e) 0 2).1) s else s) s
  else if n = 58 || n = 59 then (bad.foldl (fun s site => s.logMismatch site n mbist) s).domainOff n
  else (bad.foldl (fun s site => s.logMismatch site n mbist) s).enterSafe 2 (bad.headD 0)

/-- The LBIST run of an ordered test shows a difference that no unit explains: it names a site at die level, and every unit is acted on (R478). -/
def dieLevel (mbist : Bool) (sigs : List (W32 × W64)) : Option W32 :=
  if mbist then none else (sigs.find? (fun x => fieldOf x.1 31 29 == 5)).map (fun (x : W32 × W64) => x.1)

/-- SELF_TEST_COMPLETE of a domain: an ordered test that runs, else the start-up test of a domain that has none held. -/
def State.domainTested (s0 : State) (n : Nat) (mbist : Bool) (sigs : List (W32 × W64)) : State :=
  let units := domainUnits n
  let bad := s0.mismatches units mbist sigs
  let sig := s0.domainSig units mbist sigs
  match s0.fw.tests.find? (fun t => t.dom == n && t.started && t.mbist == mbist) with
  | some t =>
    let s := (s0.holdSig n mbist sig).fire 0 170
    match (if bad.isEmpty then dieLevel mbist sigs else none) with
    | some die =>
      let s := s.logMismatch die n mbist
      let s := (units.filter (fun u => !s.unitRetired u)).foldl (fun s u => (s.actSite u 0 2).1) s
      ((s.onFw (fun f => { f with failedDoms := f.failedDoms ||| (1#64 <<< n) })).orderedDone t mbist []).settle
    | none => (s.orderedDone t mbist bad).settle
  | none =>
    if s0.fw.tests.isEmpty && s0.domOn n && (tfind s0.fw.sigs (2 * n + bnat mbist)).isNone && s0.fw.hub then
      (((s0.holdSig n mbist sig).fire 0 170).startupDone n mbist bad).settle
    else s0

/-! ### Rotating tests (R481-R483) and the test of a fenced mover (R417) -/

/-- The units that a rotating test covers. -/
def rotUnits : RotUnit → List W32
  | .lampPair c => [pairSite c]
  | .mover m => [moverSite m]
  | .columnizer d e => [engineSite d e]
  | .portPair n => domainUnits n.val

/-- Free spares of a die. -/
def State.freeSpares (s : State) (die : Nat) : List PairNum := (List.finRange 41).filter (fun c => s.freeSpare die c)

/-- No path names the ports of a port pair, or both are fenced (R481). -/
def State.pairUnused (s : State) (n : Nat) : Bool := (ppPorts n).all (fun d => !s.portNamed d) || (ppPorts n).all (fun d => (s.port d).fenced)

/-- A unit can be freed for its rotating test now (R481, R482): a Lamp pair only while a spare of its die stays free. -/
def State.canRotate (s : State) (u : RotUnit) : Bool :=
  match u with
  | .lampPair c =>
    let p := s.pair c
    c.val < 40 && p.running && !p.retired && !p.testing && s.domOn (pairDomain c) && decide (2 ≤ (s.freeSpares (pairDie c)).length)
  | .mover m => let x := s.mover m; !x.fenced && !x.retired && !x.testing && x.freeing.isNone
  | .columnizer d e =>
    let k := s.pool d
    let free := fun (i : Nat) => (tfind k.holders i).isNone && !k.retired.contains i && !k.testing.contains i
    s.domOn 61 && free e.val && (List.range 8).any (fun i => i != e.val && free i)
  | .portPair n => s.domOn n.val && (s.dom n.val).switching.isNone && s.pairUnused n.val

/-- A unit is freed: an active pair's ports pass to a spare, a mover takes no new work, a port pair is withdrawn. -/
def State.freeUnit (s : State) (u : RotUnit) : State :=
  match u with
  | .lampPair c =>
    let s := match s.spareFor c with
      | some b => s.handOver c b
      | none => s
    s.modPair c (fun p => { p with testing := true })
  | .mover m =>
    if busyChannels (s.mover m) = 0 then s.modMover m (fun x => { x with testing := true })
    else s.modMover m (fun x => { x with freeing := some (s.clk.now + Config.secondTicks) })
  | .columnizer d e => s.modPool d (fun k => { k with testing := k.testing ++ [e.val] })
  | .portPair n => (s.requestOff n.val).modDom n.val (fun x => { x with testing := true })

/-- ROTATING_TEST_START (R481): in Run or Idle, and not while an ordered test runs. -/
def doRotatingTestStart (u : RotUnit) (s : State) : State :=
  if s.fw.ready && s.cores.tenderUp && s.fw.tests.isEmpty && (s.power.mode == .run || s.power.mode == .idle) && !s.fw.rotating.contains u && s.canRotate u then
    ((s.freeUnit u).onFw (fun f => { f with rotating := f.rotating ++ [u] })).settle
  else s

/-- A unit returns to service after its test: a pair as the spare, loaded with the running image (R481). -/
def State.unitBack (s : State) (u : RotUnit) : State :=
  let s := s.rotDrop u
  match u with
  | .lampPair c => if (s.pair c).retired then s else s.loadPair c s.fw.release none
  | .mover _ => s.admitDescs
  | .columnizer _ _ => s
  | .portPair n => s.requestOn n.val

/-- ROTATING_TEST_PUT_OFF (R481): 1 s after a mover was freed it still holds a busy channel. -/
def doRotatingTestPutOff (u : RotUnit) (s : State) : State :=
  match u with
  | .mover m =>
    (match (s.mover m).freeing with
      | some t => if t ≤ s.clk.now && busyChannels (s.mover m) != 0 then (s.unitBack u).settle else s
      | none => s)
  | _ => s

/-- The unit stands ready for its test. -/
def State.testReady (s : State) (u : RotUnit) : Bool :=
  match u with
  | .lampPair c => (s.pair c).testing
  | .mover m => (s.mover m).testing || ((s.mover m).freeing.isSome && busyChannels (s.mover m) == 0)
  | .columnizer d e => (s.pool d).testing.contains e.val
  | .portPair n => !s.domOn n.val

/-- A run of a rotating test ends (R483): a first mismatch is run again; a second one is acted on. -/
def State.rotTested (s : State) (u : RotUnit) (mbist : Bool) (bad : List W32) : State :=
  let n := rotDomain u
  if bad.isEmpty then
    let s := if s.fw.again.contains u then
        (s.logEntry 0x0A 0 0 ((rotUnits u).headD 0) whoNone (BitVec.ofNat 64 (n + 256 * bnat mbist))).onFw (fun f => { f with again := f.again.filter (· != u) })
      else s
    if mbist then s.unitBack u else s
  else if s.fw.again.contains u then
    let s := bad.foldl (fun s site => s.failUnit site n mbist) (s.unitFree u)
    s.unitBack u
  else s.onFw (fun f => { f with again := f.again ++ [u] })

/-- SELF_TEST_COMPLETE of one unit: a fenced mover's test, which one run decides (R417, R483), or a rotating test. -/
def State.unitTested (s0 : State) (u : RotUnit) (mbist : Bool) (sigs : List (W32 × W64)) : State :=
  let bad := s0.mismatches (rotUnits u) mbist sigs
  match u with
  | .mover m =>
    if (s0.mover m).fenced && !(s0.mover m).retired then
      let s := s0.fire 0 170
      (if !bad.isEmpty then bad.foldl (fun s site => s.failUnit site 60 mbist) s
      else if mbist then ((s.modMover m (fun x => { x with fenced := false })).rebuildAcct 8 m.val 0 (moverSite m)).admitDescs
      else s).settle
    else if s0.fw.rotating.contains u && s0.testReady u then
      (((s0.modMover m (fun x => { x with testing := true, freeing := none })).fire 0 170).rotTested u mbist bad).settle
    else s0
  | _ => if s0.fw.rotating.contains u && s0.testReady u then ((s0.fire 0 170).rotTested u mbist bad).settle else s0

/-- SELF_TEST_COMPLETE. -/
def doSelfTestComplete (subject : TestSubject) (mbist : Bool) (sigs : List (W32 × W64)) (s : State) : State :=
  match subject with
  | .domain n => s.domainTested n.val mbist sigs
  | .unit u => s.unitTested u mbist sigs

/-! ### Meanings -/

def execStartSelfTest (p : HPort) (s : State) : Host.Outcome State Fault Refusal := .next (doStartSelfTest p s)
def execSelfTestComplete (subject : TestSubject) (mbist : Bool) (sigs : List (W32 × W64)) (s : State) : Host.Outcome State Fault Refusal :=
  .next (doSelfTestComplete subject mbist sigs s)
def execRotatingTestStart (u : RotUnit) (s : State) : Host.Outcome State Fault Refusal := .next (doRotatingTestStart u s)
def execRotatingTestPutOff (u : RotUnit) (s : State) : Host.Outcome State Fault Refusal := .next (doRotatingTestPutOff u s)

end Sys2Proof.Machine
end

