-- ==== Sys2Proof/Machine/FirmwareOrders.lean ====
section
/-! DEFINITION. Machine/FirmwareOrders.lean: STAGE-FIRMWARE and ACTIVATE-FIRMWARE (R397, R398, R466-R470). -/

namespace Sys2Proof.Machine

open Sys2Proof

/-! ### STAGE-FIRMWARE (R397) -/

/-- STAGE_FIRMWARE. -/
def doStageFirmware (p : HPort) (s : State) : State :=
  (s.runOrder p (isOpc 0x50) (fun b =>
      let n := num b 0x18 4
      [(0x10, 8, num b 0x10 8 % 4096 == 0), (0x18, 4, 4096 ≤ n && n ≤ 33554432)]) false false none
    (fun s _ => s.busyOrder p) (fun s b => s.setStage p (.stageRead (u64 b 0x10) (num b 0x18 4)))).settle

/-- The ring whose STAGE-FIRMWARE is being carried out. -/
def State.stager (s : State) : Option (HPort × Active) :=
  let of1 := fun (p : HPort) => (s.oq p).active.bind (fun a => match a.stage with
    | .stageRead _ _ => some (p, a)
    | .stageWrite _ => some (p, a)
    | _ => none)
  of1 0 <|> of1 1

/-- PF vector 5 on both host ports, after the reply. -/
def State.firmwareDone (s : State) (p : HPort) (rel : W32) : State := ((s.done p (le 4 rel.toNat)).pfVector 5).settle

/-- FLASH_OPERATION_COMPLETE (R327, R397): the image has been read and is verified, or it has been written and read back. -/
def doFlashOperationComplete (r : FlashResult) (s : State) : State :=
  match s.stager with
  | none => s
  | some (p, a) =>
    match a.stage, r with
    | .stageRead _ len, .imageRead d =>
      if !s.readOpen p (.image p) then s
      else
        let s := (s.endRead p (.image p)).fire 0 171
        (match d with
          | .refused => s.putReply p s.clk.hub 0x4001 []
          | .failed => s.putReply p s.clk.hub 0x4002 []
          | .ok data =>
            let img := padTo len data
            let s := s.setImage s.fw.target {}
            if Config.imageVerifies img then s.setStage p (.stageWrite img) else s.refuse p 0x14).settle
    | .stageWrite img, .written good =>
      let s := s.fire 0 171
      if !s.cores.tenderUp then s.settle
      else if good then
        ((s.setImage s.fw.target { valid := true, release := Config.imageRelease img }).effected p).firmwareDone p (Config.imageRelease img)
      else (s.refuse p 0x14).settle
    | _, _ => s

/-! ### ACTIVATE-FIRMWARE (R398, R467-R469) -/

/-- The image that an activation names: the one that is not running; in recovery the valid one (R467). -/
def Firmware.otherImage (f : Firmware) : Bool := if f.recovery then !f.imgA.valid else !f.image

/-- Some channel die has no free spare pair (R398). -/
def State.spareless (s : State) : Bool := (List.range 4).any (fun d => (s.freeSpares d).isEmpty)

/-- Why an activation is refused. -/
def State.activateRefusal (s : State) (p : HPort) (b : Bytes) : Option Nat :=
  let x := s.fw.slot s.fw.otherImage
  s.busyOrder p <|>
    (if !x.valid then some 0x14
    else if byteAt b 0x10 == 1 || s.fw.recovery then none
    else if !(Config.imageRollFrom x.release).contains s.fw.release then some 0x14
    else if s.spareless then some 0x15
    else none)

/-- RUN names an image (R466). -/
def State.nameRun (s : State) (p : HPort) (b : Bool) : State := ((s.onFw (fun f => { f with run := b })).effected p).fire 0 171

/-- The active pairs of a cluster pass on, one after the other: each one's ports to the pair freed before it, then it is reloaded (R469 step 4). -/
def rollPairs (rel : W32) : List PairNum → PairNum → State → State × PairNum
  | [], spare, s => (s, spare)
  | c :: rest, spare, s =>
    if (s.pair c).slot.isSome && (s.pair c).running then rollPairs rel rest c ((s.handOver c spare).loadPair c rel none)
    else rollPairs rel rest spare s

/-- One cluster is rolled behind a spare, which is loaded first. -/
def State.rollCluster (s : State) (rel : W32) (dom : Nat) (spare : PairNum) : State × PairNum :=
  rollPairs rel ((List.finRange 41).filter (fun c => pairDomain c == dom && c != spare)) spare (s.loadPair spare rel none)

/-- A die is rolled: the clusters with a spare of their own first; one without takes the spare that the other left (R469 step 5). -/
def State.rollDie (s : State) (rel : W32) (d : Nat) : State :=
  let own := fun (s : State) (dom : Nat) => (s.freeSpares d).find? (fun c => pairDomain c == dom)
  let a := 48 + 2 * d
  match own s a, own s (a + 1) with
  | some x, some y => (((s.rollCluster rel a x).1).rollCluster rel (a + 1) y).1
  | some x, none => let r := s.rollCluster rel a x; (r.1.rollCluster rel (a + 1) r.2).1
  | none, some y => let r := s.rollCluster rel (a + 1) y; (r.1.rollCluster rel a r.2).1
  | none, none => s

/-- The hitless roll of every die; then the Tender stops, to restart into the new image and reply from it (R469). -/
def State.rollAll (s : State) (p : HPort) : State :=
  let b := s.fw.otherImage
  let rel := (s.fw.slot b).release
  let s := (List.range 4).foldl (fun s d => s.rollDie rel d) (s.nameRun p b)
  ((s.onFw (fun f => { f with image := b, release := rel })).tenderStops).setStage p .activate

/-- In recovery the module resets after the reply (R467). -/
def State.recoverRun (s : State) (p : HPort) : State :=
  let b := s.fw.otherImage
  ((s.nameRun p b).firmwareDone p (s.fw.slot b).release).moduleReset 4

def activateFields (b : Bytes) : List (Nat × Nat × Bool) := [(0x10, 1, decide ((byteAt b 0x10).toNat ≤ 1))]

/-- ACTIVATE_FIRMWARE_HITLESS, and MODE out of range. -/
def doActivateFirmwareHitless (p : HPort) (s : State) : State :=
  (s.runOrder p (fun b => isOpc 0x51 b && byteAt b 0x10 != 1) activateFields false false none (fun s b => s.activateRefusal p b)
    (fun s _ => if s.fw.recovery then s.recoverRun p else s.rollAll p)).settle

/-- ACTIVATE_FIRMWARE_AT_RESET (R468). -/
def doActivateFirmwareAtReset (p : HPort) (s : State) : State :=
  (s.runOrder p (fun b => isOpc 0x51 b && byteAt b 0x10 == 1) activateFields false false none (fun s b => s.activateRefusal p b)
    (fun s _ => if s.fw.recovery then s.recoverRun p
      else (s.nameRun p s.fw.otherImage).firmwareDone p (s.fw.slot s.fw.otherImage).release)).settle

/-! ### Meanings -/

def execStageFirmware (p : HPort) (s : State) : Host.Outcome State Fault Refusal := .next (doStageFirmware p s)
def execFlashOperationComplete (r : FlashResult) (s : State) : Host.Outcome State Fault Refusal := .next (doFlashOperationComplete r s)
def execActivateFirmwareHitless (p : HPort) (s : State) : Host.Outcome State Fault Refusal := .next (doActivateFirmwareHitless p s)
def execActivateFirmwareAtReset (p : HPort) (s : State) : Host.Outcome State Fault Refusal := .next (doActivateFirmwareAtReset p s)

end Sys2Proof.Machine
end

