-- ==== Sys2Proof/Machine/Flags.lean ====
section
/-! DEFINITION. Machine/Flags.lean: the flags of the Hild-14's FL register (R307). -/

namespace Sys2Proof.Machine

open Sys2Proof

def flZ : Nat := 0
def flN : Nat := 1
def flC : Nat := 2
def flV : Nat := 3
def flEarly : Nat := 4
def flIE : Nat := 5
def flInTrap : Nat := 6

/-- The bits of FL that exist. -/
def flMask : W32 := 0x7F

/-- A flag set or cleared. -/
def setFlag (fl : W32) (n : Nat) (v : Bool) : W32 := if v then fl ||| (1#32 <<< n) else fl &&& ~~~(1#32 <<< n)

/-- Z, N, C and V written, the other bits kept. -/
def setZncv (fl : W32) (z n c v : Bool) : W32 := setFlag (setFlag (setFlag (setFlag fl flZ z) flN n) flC c) flV v

/-- CMP and CMPI: from the difference a − b (R307). -/
def cmpFlags (fl a b : W32) : W32 :=
  let d := a - b
  setZncv fl (d == 0) d.msb (decide (a.toNat < b.toNat)) (decide (d.toInt ≠ a.toInt - b.toInt))

/-- TST: from a AND b; C and V cleared (R307). -/
def tstFlags (fl a b : W32) : W32 :=
  let d := a &&& b
  setZncv fl (d == 0) d.msb false false

/-- The condition of B holds (R312). -/
def condHolds (fl : W32) (cond : BitVec 3) : Bool :=
  match cond.toNat with
  | 0 => fl.getLsbD flZ
  | 1 => !fl.getLsbD flZ
  | 2 => fl.getLsbD flN != fl.getLsbD flV
  | 3 => fl.getLsbD flN == fl.getLsbD flV
  | 4 => fl.getLsbD flC
  | 5 => !fl.getLsbD flC
  | 6 => true
  | _ => fl.getLsbD flEarly

end Sys2Proof.Machine
end

