-- ==== Sys2Proof/Machine/HildCode.lean ====
section
/-! DEFINITION. Machine/HildCode.lean: the 14-bit instruction words of the Hild-14 (R308, R309, R311, R313): encoder and decoder. -/

namespace Sys2Proof.Machine

open Sys2Proof

/-! ### Formats (R308) -/

def wordR (major : BitVec 5) (ra rb : Reg) (x : BitVec 1) : BitVec 14 := major ++ ra ++ rb ++ x
def wordI (major : BitVec 5) (ra : Reg) (imm : BitVec 5) : BitVec 14 := major ++ ra ++ imm
def wordB (major : BitVec 5) (cond : BitVec 3) (off : BitVec 6) : BitVec 14 := major ++ cond ++ off
def wordJ (major : BitVec 5) (off : BitVec 9) : BitVec 14 := major ++ off

def majorOf (w : BitVec 14) : BitVec 5 := w.extractLsb' 9 5
def raOf (w : BitVec 14) : Reg := w.extractLsb' 5 4
def rbOf (w : BitVec 14) : Reg := w.extractLsb' 1 4
def xOf (w : BitVec 14) : BitVec 1 := w.extractLsb' 0 1
def immOf (w : BitVec 14) : BitVec 5 := w.extractLsb' 0 5
def condOf (w : BitVec 14) : BitVec 3 := w.extractLsb' 6 3
def off6Of (w : BitVec 14) : BitVec 6 := w.extractLsb' 0 6
def off9Of (w : BitVec 14) : BitVec 9 := w.extractLsb' 0 9

/-! ### Encoder -/

/-- The word of a core instruction; none for a command that is no core instruction. -/
def encodeCore : Instr → Option (BitVec 14)
  | .sysNop _ => some (wordI 0x00 0 0)
  | .rett _ => some (wordI 0x00 1 0)
  | .trap _ n => some (wordI 0x00 2 n)
  | .ei _ => some (wordI 0x00 3 0)
  | .di _ => some (wordI 0x00 4 0)
  | .waite _ => some (wordI 0x00 5 0)
  | .sync _ => some (wordI 0x00 6 0)
  | .pfx _ imm => some (wordJ 0x01 imm)
  | .movi _ ra imm => some (wordI 0x02 ra imm)
  | .addi _ ra imm => some (wordI 0x03 ra imm)
  | .add _ ra rb => some (wordR 0x04 ra rb 0)
  | .sub _ ra rb => some (wordR 0x04 ra rb 1)
  | .and _ ra rb => some (wordR 0x05 ra rb 0)
  | .or _ ra rb => some (wordR 0x05 ra rb 1)
  | .xor _ ra rb => some (wordR 0x06 ra rb 0)
  | .andn _ ra rb => some (wordR 0x06 ra rb 1)
  | .shl _ ra rb => some (wordR 0x07 ra rb 0)
  | .shr _ ra rb => some (wordR 0x07 ra rb 1)
  | .sar _ ra rb => some (wordR 0x08 ra rb 0)
  | .ror _ ra rb => some (wordR 0x08 ra rb 1)
  | .shli _ ra n => some (wordI 0x09 ra n)
  | .shri _ ra n => some (wordI 0x0A ra n)
  | .cmp _ ra rb => some (wordR 0x0B ra rb 0)
  | .tst _ ra rb => some (wordR 0x0B ra rb 1)
  | .cmpi _ ra imm => some (wordI 0x0C ra imm)
  | .mov _ ra rb => some (wordR 0x0D ra rb 0)
  | .neg _ ra rb => some (wordR 0x0D ra rb 1)
  | .parw _ ra rb => some (wordR 0x0E ra rb 0)
  | .brev _ ra rb => some (wordR 0x0E ra rb 1)
  | .mul _ ra rb => some (wordR 0x0F ra rb 0)
  | .muls _ ra rb => some (wordR 0x0F ra rb 1)
  | .ldw _ ra rb => some (wordR 0x10 ra rb 0)
  | .ldb _ ra rb => some (wordR 0x10 ra rb 1)
  | .stw _ ra rb => some (wordR 0x11 ra rb 0)
  | .stb _ ra rb => some (wordR 0x11 ra rb 1)
  | .ldh _ ra rb => some (wordR 0x12 ra rb 0)
  | .sth _ ra rb => some (wordR 0x12 ra rb 1)
  | .rds _ ra n => some (wordI 0x13 ra n)
  | .wrs _ ra n => some (wordI 0x14 ra n)
  | .b _ cond off => some (wordB 0x15 cond off)
  | .call _ off => some (wordJ 0x16 off)
  | .jalr _ ra rb => some (wordR 0x17 ra rb 0)
  | .crcb _ ra rb => some (wordR 0x18 ra rb 0)
  | .crcw _ ra rb => some (wordR 0x18 ra rb 1)
  | .evtClaim _ ra => some (wordI 0x19 ra 0)
  | .evtDone _ ra => some (wordI 0x19 ra 1)
  | .msend _ ra => some (wordI 0x1A ra 0)
  | .mrecv _ ra => some (wordI 0x1A ra 1)
  | .mstat _ ra => some (wordI 0x1A ra 2)
  | .ior _ ra rb => some (wordR 0x1B ra rb 0)
  | .iow _ ra rb => some (wordR 0x1B ra rb 1)
  | .reservedEncoding _ w => some w
  | _ => none

/-! ### Decoder -/

/-- Specials that exist (R306), and those that WRS writes. -/
def specialReal (n : BitVec 5) : Bool := n.toNat < 0x15
def specialWritable (n : BitVec 5) : Bool :=
  [0x00, 0x02, 0x03, 0x04, 0x05, 0x06, 0x08, 0x09, 0x13].contains n.toNat

/-- SYS by SUB and its operand (R311). -/
def decodeSys (c : PairNum) (w : BitVec 14) : Option Instr :=
  let sub := (raOf w).toNat
  if sub = 2 then some (.trap c (immOf w))
  else if immOf w ≠ 0 then none
  else match sub with
    | 0 => some (.sysNop c)
    | 1 => some (.rett c)
    | 3 => some (.ei c)
    | 4 => some (.di c)
    | 5 => some (.waite c)
    | 6 => some (.sync c)
    | _ => none

/-- One of two operations by X. -/
def byX (w : BitVec 14) (f g : Reg → Reg → Instr) : Option Instr :=
  some (if xOf w = 0 then f (raOf w) (rbOf w) else g (raOf w) (rbOf w))

/-- The instruction that a word spells for pair `c`, without regard to prefixes and CM; none for a reserved word (R313). -/
def decodeCore (c : PairNum) (w : BitVec 14) : Option Instr :=
  match (majorOf w).toNat with
  | 0x00 => decodeSys c w
  | 0x01 => some (.pfx c (off9Of w))
  | 0x02 => some (.movi c (raOf w) (immOf w))
  | 0x03 => some (.addi c (raOf w) (immOf w))
  | 0x04 => byX w (.add c) (.sub c)
  | 0x05 => byX w (.and c) (.or c)
  | 0x06 => byX w (.xor c) (.andn c)
  | 0x07 => byX w (.shl c) (.shr c)
  | 0x08 => byX w (.sar c) (.ror c)
  | 0x09 => some (.shli c (raOf w) (immOf w))
  | 0x0A => some (.shri c (raOf w) (immOf w))
  | 0x0B => byX w (.cmp c) (.tst c)
  | 0x0C => some (.cmpi c (raOf w) (immOf w))
  | 0x0D => byX w (.mov c) (.neg c)
  | 0x0E => byX w (.parw c) (.brev c)
  | 0x0F => byX w (.mul c) (.muls c)
  | 0x10 => byX w (.ldw c) (.ldb c)
  | 0x11 => byX w (.stw c) (.stb c)
  | 0x12 => byX w (.ldh c) (.sth c)
  | 0x13 => if specialReal (immOf w) then some (.rds c (raOf w) (immOf w)) else none
  | 0x14 => if specialWritable (immOf w) then some (.wrs c (raOf w) (immOf w)) else none
  | 0x15 => some (.b c (condOf w) (off6Of w))
  | 0x16 => some (.call c (off9Of w))
  | 0x17 => if xOf w = 0 then some (.jalr c (raOf w) (rbOf w)) else none
  | 0x18 => if raOf w = 0 then byX w (.crcb c) (.crcw c) else none
  | 0x19 => if immOf w = 0 then some (.evtClaim c (raOf w)) else if immOf w = 1 then some (.evtDone c (raOf w)) else none
  | 0x1A =>
    if immOf w = 0 then some (.msend c (raOf w)) else if immOf w = 1 then some (.mrecv c (raOf w))
    else if immOf w = 2 then some (.mstat c (raOf w)) else none
  | 0x1B => byX w (.ior c) (.iow c)
  | _ => none

/-- The word is a reserved encoding as it stands (R313). -/
def reservedWord (w : BitVec 14) : Bool := (decodeCore 0 w).isNone

end Sys2Proof.Machine
end

