-- ==== Sys2Proof/Machine/HildCore.lean ====
section
/-! DEFINITION. Machine/HildCore.lean: how a Hild-14 pair issues an instruction: cycles, stalls, products, prefixes, traps and entries (R309-R324). -/

namespace Sys2Proof.Machine

open Sys2Proof

/-! ### Cycles (R314, R323, R324) -/

/-- `n` cycles pass: the cycle counter, and the watchdog's count of 256-cycle units, which stops at 0. -/
def Pair.spend (p : Pair) (n : Nat) : Pair :=
  let t := p.wdogSub + n
  let down := t / 256
  { p with
    cyc := p.cyc + BitVec.ofNat 64 n, wdogSub := t % 256
    wdog := if p.wdog.toNat ≤ down then 0 else p.wdog - BitVec.ofNat 24 down
    wdogDue := p.wdogDue || (p.wdog != 0 && decide (p.wdog.toNat ≤ down)) }

/-- A product is written at the end of its cycle when the pair stands in a later one (R314). -/
def Pair.landed (p : Pair) : Pair :=
  (p.products.filter (fun x => x.1 < p.cyc.toNat)).foldl
    (fun p (x : Nat × W64) => { p with mh := (x.2 >>> 32).setWidth 32, ml := x.2.setWidth 32 })
    { p with products := p.products.filter (fun x => !(x.1 < p.cyc.toNat)) }

/-- The pair stands at the issue of an instruction that reads `reads`: the stall after a load, and the products of earlier cycles. -/
def Pair.issued (p : Pair) (reads : List Reg) : Pair :=
  let stall := match p.loaded with
    | some r => reads.contains r
    | none => false
  { (if stall then p.spend 1 else p).landed with loaded := none, waiting := false }

/-- The next instruction in line, after `n` cycles; PR is cleared (R310). -/
def Pair.next (p : Pair) (n : Nat) : Pair := { p.spend n with pc := p.pc + 1, pr := 0, prn := 0 }
/-- A jump, after `n` cycles. -/
def Pair.jump (p : Pair) (t : BitVec 15) (n : Nat) : Pair := { p.spend n with pc := t, pr := 0, prn := 0 }

/-! ### Traps and entries (R319-R323) -/

/-- TRAPPR: the prefix that the word would have used (R321). -/
def Pair.prefixWord (p : Pair) : W32 := BitVec.ofNat 32 (p.pr.toNat + 2 ^ 27 * p.prn)

/-- Trap, event or watchdog entry (R320): 3 cycles; flags and return address saved, IE cleared, INTRAP set. -/
def Pair.entry (p : Pair) (vec : BitVec 15) (w : BitVec 14) (code detail : Nat) (ret : BitVec 15) : Pair :=
  { p.jump vec 3 with
    trapfl := p.fl, trappc := ret, trapw := w, trappr := p.prefixWord, cause := BitVec.ofNat 16 (code + 256 * detail)
    fl := setFlag (setFlag p.fl flIE false) flInTrap true, waiting := false }

/-- A synchronous trap; a double trap is a pair failure (R322). -/
def State.coreTrap (s : State) (c : PairNum) (vec : BitVec 15) (w : BitVec 14) (code detail : Nat) (ret : BitVec 15) : State :=
  if (s.pair c).fl.getLsbD flInTrap then (s.failPair c .doubleTrap).settle
  else s.modPair c (fun p => p.entry vec w code detail ret)

/-- A reserved encoding (R313). -/
def State.reservedTrap (s : State) (c : PairNum) (w : BitVec 14) : State := s.coreTrap c 4 w 1 0 (s.pair c).pc
/-- A trap at vector 0x0008 (R319). -/
def State.busTrap (s : State) (c : PairNum) (w : BitVec 14) (code detail : Nat) : State := s.coreTrap c 8 w code detail (s.pair c).pc

/-! ### Issue -/

/-- An instruction of the pair can issue: the pair runs, and does not wait for its event input; after a WAITE with IE = 1 the event entry follows, and no
instruction before it (R290, R311, R320). -/
def State.coreReady (s : State) (c : PairNum) : Bool :=
  let p := s.pair c
  p.running && (!p.waiting || (s.eventInput c && !(p.fl.getLsbD flIE && !p.fl.getLsbD flInTrap)))

/-- The word of a core instruction. -/
def coreWord (i : Instr) : BitVec 14 := (encodeCore i).getD 0x3FFF

/-- An instruction issues: a prefix before one that takes none traps (R310); else it has its effect. -/
def State.issue (s0 : State) (c : PairNum) (w : BitVec 14) (takes : Bool) (reads : List Reg) (body : State → State) : State :=
  if s0.coreReady c then
    let s := s0.modPair c (fun p => p.issued reads)
    if !takes && (s.pair c).prn != 0 then s.reservedTrap c w else body s
  else s0

/-- One whose effect is on the pair's own registers and data memory. -/
def State.issueLocal (s : State) (c : PairNum) (w : BitVec 14) (takes : Bool) (reads : List Reg) (f : Pair → Pair) : State :=
  s.issue c w takes reads (fun s => s.modPair c f)

/-- Cycles of an IO or mailbox access: at most the figure of R324 (the number is left open: a free value, log 27). -/
def State.ioCycles (s : State) (bound : Nat) : Nat := 1 + s.freeVal.toNat % bound

end Sys2Proof.Machine
end

