-- ==== Sys2Proof/Machine/HildAlu.lean ====
section
/-! DEFINITION. Machine/HildAlu.lean: arithmetic, logic, compares, branches, multiplier and CRC of the Hild-14 (R307-R318). -/

namespace Sys2Proof.Machine

open Sys2Proof

/-! ### Shapes -/

/-- ra ← f ra rb, one cycle, no prefix. -/
def State.alu2 (s : State) (c : PairNum) (i : Instr) (ra rb : Reg) (f : W32 → W32 → W32) : State :=
  s.issueLocal c (coreWord i) false [ra, rb] (fun p => (p.gw ra (f (p.gr ra) (p.gr rb))).next 1)
/-- ra ← f rb, one cycle, no prefix. -/
def State.alu1 (s : State) (c : PairNum) (i : Instr) (ra rb : Reg) (f : W32 → W32) : State :=
  s.issueLocal c (coreWord i) false [rb] (fun p => (p.gw ra (f (p.gr rb))).next 1)
/-- FL ← f of FL and both registers, one cycle, no prefix. -/
def State.alu0 (s : State) (c : PairNum) (i : Instr) (ra rb : Reg) (f : W32 → W32 → W32 → W32) : State :=
  s.issueLocal c (coreWord i) false [ra, rb] (fun p => ({ p with fl := f p.fl (p.gr ra) (p.gr rb) }).next 1)

/-- XOR of the 32 bits (R318). -/
def parity (x : W32) : W32 := BitVec.ofNat 32 ((List.range 32).countP (fun i => x.getLsbD i) % 2)
/-- Bit 31 − i at bit i (R318). -/
def bitReverse (x : W32) : W32 := x.reverse

/-! ### Arithmetic and logic (R309) -/

def doPfx (c : PairNum) (imm : BitVec 9) (s : State) : State :=
  s.issue c (coreWord (.pfx c imm)) true [] (fun s =>
    if 3 ≤ (s.pair c).prn then s.reservedTrap c (coreWord (.pfx c imm))
    else s.modPair c (fun p => { p.spend 1 with pc := p.pc + 1, pr := (p.pr <<< 9) ||| imm.setWidth 27, prn := p.prn + 1 }))
def doMovi (c : PairNum) (ra : Reg) (imm : BitVec 5) (s : State) : State :=
  s.issueLocal c (coreWord (.movi c ra imm)) true [] (fun p => (p.gw ra (p.imm imm)).next 1)
def doAddi (c : PairNum) (ra : Reg) (imm : BitVec 5) (s : State) : State :=
  s.issueLocal c (coreWord (.addi c ra imm)) true [ra] (fun p => (p.gw ra (p.gr ra + p.imm imm)).next 1)
def doAdd (c : PairNum) (ra rb : Reg) (s : State) : State := s.alu2 c (.add c ra rb) ra rb (fun a b => a + b)
def doSub (c : PairNum) (ra rb : Reg) (s : State) : State := s.alu2 c (.sub c ra rb) ra rb (fun a b => a - b)
def doAnd (c : PairNum) (ra rb : Reg) (s : State) : State := s.alu2 c (.and c ra rb) ra rb (fun a b => a &&& b)
def doOr (c : PairNum) (ra rb : Reg) (s : State) : State := s.alu2 c (.or c ra rb) ra rb (fun a b => a ||| b)
def doXor (c : PairNum) (ra rb : Reg) (s : State) : State := s.alu2 c (.xor c ra rb) ra rb (fun a b => a ^^^ b)
def doAndn (c : PairNum) (ra rb : Reg) (s : State) : State := s.alu2 c (.andn c ra rb) ra rb (fun a b => a &&& ~~~b)
def doShl (c : PairNum) (ra rb : Reg) (s : State) : State := s.alu2 c (.shl c ra rb) ra rb (fun a b => a <<< fieldOf b 4 0)
def doShr (c : PairNum) (ra rb : Reg) (s : State) : State := s.alu2 c (.shr c ra rb) ra rb (fun a b => a >>> fieldOf b 4 0)
def doSar (c : PairNum) (ra rb : Reg) (s : State) : State := s.alu2 c (.sar c ra rb) ra rb (fun a b => a.sshiftRight (fieldOf b 4 0))
def doRor (c : PairNum) (ra rb : Reg) (s : State) : State := s.alu2 c (.ror c ra rb) ra rb (fun a b => a.rotateRight (fieldOf b 4 0))
def doShli (c : PairNum) (ra : Reg) (n : BitVec 5) (s : State) : State :=
  s.issueLocal c (coreWord (.shli c ra n)) false [ra] (fun p => (p.gw ra (p.gr ra <<< n.toNat)).next 1)
def doShri (c : PairNum) (ra : Reg) (n : BitVec 5) (s : State) : State :=
  s.issueLocal c (coreWord (.shri c ra n)) false [ra] (fun p => (p.gw ra (p.gr ra >>> n.toNat)).next 1)
def doCmp (c : PairNum) (ra rb : Reg) (s : State) : State := s.alu0 c (.cmp c ra rb) ra rb cmpFlags
def doTst (c : PairNum) (ra rb : Reg) (s : State) : State := s.alu0 c (.tst c ra rb) ra rb tstFlags
def doCmpi (c : PairNum) (ra : Reg) (imm : BitVec 5) (s : State) : State :=
  s.issueLocal c (coreWord (.cmpi c ra imm)) true [ra] (fun p => ({ p with fl := cmpFlags p.fl (p.gr ra) (p.imm imm) }).next 1)
def doMov (c : PairNum) (ra rb : Reg) (s : State) : State := s.alu1 c (.mov c ra rb) ra rb (fun b => b)
def doNeg (c : PairNum) (ra rb : Reg) (s : State) : State := s.alu1 c (.neg c ra rb) ra rb (fun b => 0 - b)
def doParw (c : PairNum) (ra rb : Reg) (s : State) : State := s.alu1 c (.parw c ra rb) ra rb parity
def doBrev (c : PairNum) (ra rb : Reg) (s : State) : State := s.alu1 c (.brev c ra rb) ra rb bitReverse

/-! ### Branches (R312) -/

def doB (c : PairNum) (cond : BitVec 3) (off : BitVec 6) (s : State) : State :=
  s.issueLocal c (coreWord (.b c cond off)) true [] (fun p => if condHolds p.fl cond then p.jump (p.target off) 2 else p.next 1)
def doCall (c : PairNum) (off : BitVec 9) (s : State) : State :=
  s.issueLocal c (coreWord (.call c off)) true [] (fun p => (p.gw 15 ((p.pc + 1).setWidth 32)).jump (p.target off) 2)
def doJalr (c : PairNum) (ra rb : Reg) (s : State) : State :=
  s.issueLocal c (coreWord (.jalr c ra rb)) false [rb] (fun p => (p.gw ra ((p.pc + 1).setWidth 32)).jump ((p.gr rb).setWidth 15) 2)

/-! ### Multiplier (R314, R315) -/

/-- The product of two registers starts: written at the end of cycle c + 2. -/
def Pair.startProduct (p : Pair) (v : W64) : Pair := { p with products := p.products ++ [(p.cyc.toNat + 2, v)] }
def doMul (c : PairNum) (ra rb : Reg) (s : State) : State :=
  s.issueLocal c (coreWord (.mul c ra rb)) false [ra, rb] (fun p =>
    (p.startProduct (BitVec.ofNat 64 ((p.gr ra).toNat * (p.gr rb).toNat))).next 1)
def doMuls (c : PairNum) (ra rb : Reg) (s : State) : State :=
  s.issueLocal c (coreWord (.muls c ra rb)) false [ra, rb] (fun p =>
    (p.startProduct (BitVec.ofInt 64 ((p.gr ra).toInt * (p.gr rb).toInt))).next 1)
/-- MUL_PRODUCT_WRITE (R314): the products whose cycle has ended are written. -/
def doMulProductWrite (c : PairNum) (s : State) : State :=
  if (s.pair c).running then s.modPair c (fun p => p.landed) else s

/-! ### CRC (R316, R317) -/

def crcWidth (cm : W32) : Nat := if fieldOf cm 4 0 = 0 then 32 else fieldOf cm 4 0

/-- One bit of the CRC unit. -/
def coreCrcBit (cm cp cs : W32) : W32 :=
  if cm.getLsbD 5 then (if cs.getLsbD 0 then (cs >>> 1) ^^^ cp else cs >>> 1)
  else (if cs.getLsbD (crcWidth cm - 1) then (cs <<< 1) ^^^ cp else cs <<< 1)

/-- One byte through the CRC state. -/
def coreCrcByte (cm cp cs : W32) (b : Byte) : W32 :=
  let x := if cm.getLsbD 5 then cs ^^^ b.setWidth 32 else cs ^^^ (b.setWidth 32 <<< (crcWidth cm - 8))
  (List.range 8).foldl (fun x _ => coreCrcBit cm cp x) x &&& BitVec.ofNat 32 (2 ^ crcWidth cm - 1)

/-- CM.WIDTH is one of the reserved values (R313, R316). -/
def crcReserved (cm : W32) : Bool := 1 ≤ fieldOf cm 4 0 && fieldOf cm 4 0 ≤ 7

/-- CRCB and CRCW: `n` bytes of rb, in `k` cycles; RA nonzero or a reserved width traps (R313). -/
def State.crcOp (s : State) (c : PairNum) (i : Instr) (ra rb : Reg) (n k : Nat) : State :=
  s.issue c (coreWord i) false [rb] (fun s =>
    if ra != 0 || crcReserved (s.pair c).cm then s.reservedTrap c (coreWord i)
    else s.modPair c (fun p =>
      ({ p with cs := (List.range n).foldl (fun x j => coreCrcByte p.cm p.cp x (laneOf (p.gr rb) j)) p.cs }).next k))
def doCrcb (c : PairNum) (ra rb : Reg) (s : State) : State := s.crcOp c (.crcb c ra rb) ra rb 1 1
def doCrcw (c : PairNum) (ra rb : Reg) (s : State) : State := s.crcOp c (.crcw c ra rb) ra rb 4 2

/-! ### Meanings -/

def execPfx (c : PairNum) (imm9 : BitVec 9) (s : State) : Host.Outcome State Fault Refusal := .next (doPfx c imm9 s)
def execMovi (c : PairNum) (ra : Reg) (imm5 : BitVec 5) (s : State) : Host.Outcome State Fault Refusal := .next (doMovi c ra imm5 s)
def execAddi (c : PairNum) (ra : Reg) (imm5 : BitVec 5) (s : State) : Host.Outcome State Fault Refusal := .next (doAddi c ra imm5 s)
def execAdd (c : PairNum) (ra rb : Reg) (s : State) : Host.Outcome State Fault Refusal := .next (doAdd c ra rb s)
def execSub (c : PairNum) (ra rb : Reg) (s : State) : Host.Outcome State Fault Refusal := .next (doSub c ra rb s)
def execAnd (c : PairNum) (ra rb : Reg) (s : State) : Host.Outcome State Fault Refusal := .next (doAnd c ra rb s)
def execOr (c : PairNum) (ra rb : Reg) (s : State) : Host.Outcome State Fault Refusal := .next (doOr c ra rb s)
def execXor (c : PairNum) (ra rb : Reg) (s : State) : Host.Outcome State Fault Refusal := .next (doXor c ra rb s)
def execAndn (c : PairNum) (ra rb : Reg) (s : State) : Host.Outcome State Fault Refusal := .next (doAndn c ra rb s)
def execShl (c : PairNum) (ra rb : Reg) (s : State) : Host.Outcome State Fault Refusal := .next (doShl c ra rb s)
def execShr (c : PairNum) (ra rb : Reg) (s : State) : Host.Outcome State Fault Refusal := .next (doShr c ra rb s)
def execSar (c : PairNum) (ra rb : Reg) (s : State) : Host.Outcome State Fault Refusal := .next (doSar c ra rb s)
def execRor (c : PairNum) (ra rb : Reg) (s : State) : Host.Outcome State Fault Refusal := .next (doRor c ra rb s)
def execShli (c : PairNum) (ra : Reg) (n : BitVec 5) (s : State) : Host.Outcome State Fault Refusal := .next (doShli c ra n s)
def execShri (c : PairNum) (ra : Reg) (n : BitVec 5) (s : State) : Host.Outcome State Fault Refusal := .next (doShri c ra n s)
def execCmp (c : PairNum) (ra rb : Reg) (s : State) : Host.Outcome State Fault Refusal := .next (doCmp c ra rb s)
def execTst (c : PairNum) (ra rb : Reg) (s : State) : Host.Outcome State Fault Refusal := .next (doTst c ra rb s)
def execCmpi (c : PairNum) (ra : Reg) (imm5 : BitVec 5) (s : State) : Host.Outcome State Fault Refusal := .next (doCmpi c ra imm5 s)
def execMov (c : PairNum) (ra rb : Reg) (s : State) : Host.Outcome State Fault Refusal := .next (doMov c ra rb s)
def execNeg (c : PairNum) (ra rb : Reg) (s : State) : Host.Outcome State Fault Refusal := .next (doNeg c ra rb s)
def execParw (c : PairNum) (ra rb : Reg) (s : State) : Host.Outcome State Fault Refusal := .next (doParw c ra rb s)
def execBrev (c : PairNum) (ra rb : Reg) (s : State) : Host.Outcome State Fault Refusal := .next (doBrev c ra rb s)
def execB (c : PairNum) (cond : BitVec 3) (off6 : BitVec 6) (s : State) : Host.Outcome State Fault Refusal := .next (doB c cond off6 s)
def execCall (c : PairNum) (off9 : BitVec 9) (s : State) : Host.Outcome State Fault Refusal := .next (doCall c off9 s)
def execJalr (c : PairNum) (ra rb : Reg) (s : State) : Host.Outcome State Fault Refusal := .next (doJalr c ra rb s)
def execMul (c : PairNum) (ra rb : Reg) (s : State) : Host.Outcome State Fault Refusal := .next (doMul c ra rb s)
def execMuls (c : PairNum) (ra rb : Reg) (s : State) : Host.Outcome State Fault Refusal := .next (doMuls c ra rb s)
def execMulProductWrite (c : PairNum) (s : State) : Host.Outcome State Fault Refusal := .next (doMulProductWrite c s)
def execCrcb (c : PairNum) (ra rb : Reg) (s : State) : Host.Outcome State Fault Refusal := .next (doCrcb c ra rb s)
def execCrcw (c : PairNum) (ra rb : Reg) (s : State) : Host.Outcome State Fault Refusal := .next (doCrcw c ra rb s)

end Sys2Proof.Machine
end

