-- ==== Sys2Proof/Machine/Timers.lean ====
section
/-! DEFINITION. Machine/Timers.lean: the timer banks (R346-R364): registers, commits, matches, catch-up, capture, slave reset, and one CLK_P edge. -/

namespace Sys2Proof.Machine

open Sys2Proof

/-! ### Fields (R359-R361) -/

def Chan.en (c : Chan) : Bool := c.ctl.getLsbD 0
def Chan.psrc (c : Chan) : Bool := c.ctl.getLsbD 1
def Chan.msel (c : Chan) : Nat := fieldOf c.ctl 7 4
/-- SMODE as it acts in channel `i`: 0 when MSEL names the channel itself (R355). -/
def Chan.smode (c : Chan) (i : Nat) : Nat := if c.msel = i then 0 else fieldOf c.ctl 3 2
def Chan.trgo (c : Chan) : Nat := fieldOf c.ctl 9 8
def Chan.out (c : Chan) : Bool := c.ctl.getLsbD 10
def Chan.insel (c : Chan) : Nat := fieldOf c.capctl 4 0
def Chan.edgeSel (c : Chan) : Nat := fieldOf c.capctl 6 5
def Chan.capen (c : Chan) : Bool := c.capctl.getLsbD 7
def Chan.cfilt (c : Chan) : Nat := fieldOf c.capctl 15 8
def Chan.cpsc (c : Chan) : Nat := fieldOf c.capctl 23 16
def Chan.mch (c : Chan) : Nat := fieldOf c.act 12 4
/-- DIV as it acts (R348). -/
def Chan.divEff (c : Chan) : Nat := max 0x10000 c.div.toNat

/-- The level of a channel's trigger output after an edge (R355, R356, R359). -/
def Chan.trig (c : Chan) : Bool := if c.trgo = 1 then c.out else if c.trgo = 2 then c.en else c.pulse

/-- A bank has power (R364, R428). -/
def State.bankOn (s : State) (k : BankNum) : Bool := if k = 0 then s.domOn 60 else s.domOn (46 + 2 * k.val) || s.domOn (47 + 2 * k.val)

/-- The event source of a channel (R346). -/
def State.fireChan (s : State) (k : BankNum) (ch : ChanNum) : State :=
  if k = 0 then s.fire 0 (129 + ch.val) else s.fire k (32 * (ch.val / 2) + 22 + ch.val % 2)

/-- TMR_ERR rises. -/
def State.tmrErr (s : State) (k : BankNum) : State := s.modBank k (fun b => { b with err := satInc b.err })

/-! ### Matches (R349, R351, R352, R356, R357) -/

/-- A grant to a mover channel (R357). -/
def State.grantMover (s : State) (k : BankNum) (n : Nat) : State :=
  let m := n / 32
  let c := tget ({} : Channel) (tget ({} : MoverSt) s.data.movers m).channels (n % 32)
  if c.paced && decide (c.grants < 16) then
    s.onData (fun d => { d with movers := tmod {} d.movers m (fun x => { x with
      channels := tmod {} x.channels (n % 32) (fun c => { c with grants := c.grants + 1 }) }) })
  else s.tmrErr k

/-- The auto-add of a match (R352): at once after R349, by catch-up after R351. -/
def Chan.autoAdd (c : Chan) (late : Bool) : Chan :=
  if c.ivl = 0 then c
  else if late then
    let d := (c.cnt - c.cmp).toNat
    let n := (d + 4) / c.ivl.toNat + 1
    { c with catchup := some (4, c.cmp + BitVec.ofNat 48 (n * c.ivl.toNat), BitVec.ofNat 32 (min (n - 1) 0xFFFFFFFF)), edges := 4 }
  else { c with cmp := c.cmp + c.ivl }

/-- A match of a channel with its actions (R356); a disabled channel gives no pulse (R355); `add`: the auto-add is applied. -/
def State.doMatch (s : State) (k : BankNum) (ch : ChanNum) (add : Bool) : State :=
  let c := s.chan k ch
  let late := !c.equal && c.late
  let s := s.modChan k ch (fun c =>
    let c := { c with
      equal := false, late := false, stat := c.stat ||| 1, pulse := c.trgo == 0 && c.en
      ctl := if c.act.getLsbD 2 then c.ctl ^^^ 0x400 else c.ctl }
    if add then c.autoAdd late else c)
  let s := if c.act.getLsbD 0 then s.fireChan k ch else s
  if k = 0 && c.act.getLsbD 3 then s.grantMover k c.mch else s

def Chan.matchDue (c : Chan) : Bool := c.equal || c.late

/-- A match that is due at this edge is made. -/
def State.matchIfDue (s : State) (k : BankNum) (ch : ChanNum) (add : Bool) : State :=
  if (s.chan k ch).matchDue then s.doMatch k ch add else s

/-- The fourth edge of a catch-up has come (R352). -/
def State.catchIfDue (s : State) (k : BankNum) (ch : ChanNum) : State :=
  match (s.chan k ch).catchup with
  | some (0, v, n) => s.modChan k ch (fun c => { c with
      cmp := v, catchup := none, miss := BitVec.ofNat 32 (min 0xFFFFFFFF (c.miss.toNat + n.toNat)) })
  | _ => s

/-- The (CPSC + 1)-th edge of the input has come (R354, R356). -/
def State.captureIfDue (s : State) (k : BankNum) (ch : ChanNum) : State :=
  let c := s.chan k ch
  if c.capDue then
    let s := s.modChan k ch (fun c => { c with
      capDue := false, cap := c.cnt, capseq := c.capseq + 1, stat := c.stat ||| (if c.stat.getLsbD 1 then 6 else 2) })
    if c.act.getLsbD 1 then s.fireChan k ch else s
  else s

/-- A slave has seen its master's rise: counter and A are 0 (R355); a counter that becomes equal to the compare matches (R349). -/
def State.resetIfDue (s : State) (k : BankNum) (ch : ChanNum) : State :=
  if (s.chan k ch).resetDue then
    s.modChan k ch (fun c => { c with resetDue := false, cnt := 0, acc := 0, equal := c.equal || (c.cmp == 0 && c.cnt != 0 && c.edges == 0) })
  else s

/-- Everything due at this edge is done. -/
def State.flushChan (s : State) (k : BankNum) (ch : ChanNum) : State :=
  (((s.resetIfDue k ch).matchIfDue k ch true).catchIfDue k ch).captureIfDue k ch

/-! ### Commits (R348, R350, R351, R363) -/

/-- The 48-bit value that a HI write commits (R350). -/
def commitValue (lo : Option W32) (live : W48) (hi : W32) : W48 :=
  BitVec.ofNat 48 (hi.toNat % 65536 * 2 ^ 32 + (lo.getD (live.setWidth 32)).toNat)

/-- The reserved bits of the register at a byte offset of a bank (R358-R362). -/
def bankRsv (k : BankNum) (off : Nat) : W32 :=
  if off = 0 then 0xFFFFFF00
  else if off = 4 then 0
  else if off < 0x100 || 0x500 ≤ off then BitVec.allOnes 32
  else match off % 0x40 with
    | 0x00 => 0xFFFFF800
    | 0x0C => 0xFFFF0000
    | 0x14 => 0xFFFF0000
    | 0x1C => 0xFFFF0000
    | 0x24 => 0xFFFF0000
    | 0x2C => 0xFF000000
    | 0x30 => if k = 0 then 0xFFFFE000 else 0xFFFFFFF8
    | 0x34 => 0xFFFFFFE0
    | 0x3C => BitVec.allOnes 32
    | _ => 0

/-- A write to a register of a channel is logged where its reserved bits are not zero (R14). -/
def State.chanReserved (s : State) (k : BankNum) (ch : ChanNum) (off : Nat) (v : W32) : State :=
  s.ioReserved (bankSite k) (0x100 + 0x40 * ch.val + off) (bankRsv k (0x100 + 0x40 * ch.val + off)) v

/-- A step at the edge of a commit is lost, and with it the match that it would have made (R363); a reset at that edge comes before the commit. -/
def State.loseStep (s : State) (k : BankNum) (ch : ChanNum) : State :=
  (s.resetIfDue k ch).modChan k ch (fun c => { c with equal := false })

/-- TMR_CNT_COMMIT (R349, R350, R363): the written value stands, and matches where the counter takes the compare's value with it. -/
def doTmrCntCommit (k : BankNum) (ch : ChanNum) (value : W32) (s : State) : State :=
  if s.bankOn k then
    let stepped := (s.chan k ch).equal
    (((s.chanReserved k ch 0x0C value).loseStep k ch).flushChan k ch).modChan k ch (fun c =>
      let v := commitValue c.cntLo c.cnt value
      { c with cnt := v, cntLo := none, equal := v == c.cmp && (c.cnt != v || stepped) && c.edges == 0 })
  else s

/-- TMR_CMP_COMMIT (R351, R363): a match on the old value fires first, without its auto-add. -/
def doTmrCmpCommit (k : BankNum) (ch : ChanNum) (value : W32) (s : State) : State :=
  if s.bankOn k then
    (((((s.chanReserved k ch 0x14 value).resetIfDue k ch).matchIfDue k ch false).catchIfDue k ch).captureIfDue k ch).modChan k ch (fun c =>
      let v := commitValue c.cmpLo c.cmp value
      let passed := decide ((c.cnt - v).toNat < 2 ^ 47)
      { c with cmp := v, cmpLo := none, passed := passed, stat := if passed then c.stat ||| 8 else c.stat })
  else s

/-- TMR_IVL_COMMIT (R350, R363): a match at the same edge adds the new interval. -/
def doTmrIvlCommit (k : BankNum) (ch : ChanNum) (value : W32) (s : State) : State :=
  if s.bankOn k then (s.chanReserved k ch 0x1C value).modChan k ch (fun c => { c with ivl := commitValue c.ivlLo c.ivl value, ivlLo := none }) else s

/-- TMR_DIV_WRITE (R348). -/
def doTmrDivWrite (k : BankNum) (ch : ChanNum) (value : W32) (s : State) : State :=
  if s.bankOn k then s.modChan k ch (fun c => { c with div := value, acc := 0 }) else s

/-- TIMER_MATCH (R356): due at the edge of R349 or R351. -/
def doTimerMatch (k : BankNum) (ch : ChanNum) (s : State) : State := s.matchIfDue k ch true
/-- TIMER_CATCHUP (R352). -/
def doTimerCatchup (k : BankNum) (ch : ChanNum) (s : State) : State := s.catchIfDue k ch
/-- TIMER_CAPTURE (R354). -/
def doTimerCapture (k : BankNum) (ch : ChanNum) (s : State) : State := s.captureIfDue k ch
/-- TIMER_SLAVE_RESET (R355). -/
def doTimerSlaveReset (k : BankNum) (ch : ChanNum) (s : State) : State := s.resetIfDue k ch

/-! ### Registers (R358-R362) -/

/-- TMR_STAT (R362): GATED is computed. -/
def Chan.statWord (c : Chan) (i : Nat) : W32 := c.stat.setWidth 32 ||| (if c.smode i = 1 && !c.seen then 0x10 else 0)

def chanIndex (n : Nat) : ChanNum := ⟨n % 16, by omega⟩

/-- A read of a bank's register at a byte offset. -/
def State.bankRead (s : State) (k : BankNum) (off : Nat) : State × W32 :=
  let b := s.bank k
  if off = 0 then (s, BitVec.ofNat 32 (16 + 32 * k.val))
  else if off = 4 then (s.modBank k (fun b => { b with err := 0 }), b.err)
  else if off < 0x100 || 0x500 ≤ off then (s, 0)
  else
    let ch := chanIndex ((off - 0x100) / 0x40)
    let c := s.chan k ch
    let lo := fun (v : W48) => v.setWidth 32
    let hi := fun (v : W48) => (v >>> 32).setWidth 32
    match off % 0x40 with
    | 0x00 => (s, c.ctl)
    | 0x04 => (s, c.div)
    | 0x08 => (s, lo c.cnt)
    | 0x0C => (s, hi c.cnt)
    | 0x10 => (s, lo c.cmp)
    | 0x14 => (s, hi c.cmp)
    | 0x18 => (s, lo c.ivl)
    | 0x1C => (s, hi c.ivl)
    | 0x20 => (s, lo c.cap)
    | 0x24 => (s, hi c.cap)
    | 0x28 => (s, c.capseq)
    | 0x2C => (s, c.capctl)
    | 0x30 => (s, c.act)
    | 0x34 => (s, c.statWord ch.val)
    | 0x38 => (s.modChan k ch (fun c => { c with miss := 0 }), c.miss)
    | _ => (s, 0)

/-- A write of TMR_CTL (R355, R359): a reserved TRGO is taken as 0; a refused setting counts (log 25). -/
def State.writeCtl (s : State) (k : BankNum) (ch : ChanNum) (v : W32) : State :=
  let v := v &&& 0x7FF
  let badT := fieldOf v 9 8 = 3
  let badM := fieldOf v 7 4 = ch.val && fieldOf v 3 2 != 0
  let s := s.modChan k ch (fun c => { c with ctl := if badT then v &&& 0x4FF else v })
  let s := if badT then s.tmrErr k else s
  if badM then s.tmrErr k else s

/-- A write of TMR_CAPCTL (R353, R354, R360). -/
def State.writeCapctl (s : State) (k : BankNum) (ch : ChanNum) (v : W32) : State :=
  let v := v &&& 0xFFFFFF
  let badE := fieldOf v 6 5 = 3
  let badI := k != 0 && fieldOf v 4 0 < 16
  let v1 := if badE then v &&& 0xFFFF9F else v
  let s := s.modChan k ch (fun c => { c with capctl := v1, capCount := if v1.getLsbD 7 && !c.capen then 0 else c.capCount })
  let s := if badE then s.tmrErr k else s
  if badI then s.tmrErr k else s

/-- The bits of TMR_STAT that hardware sets at this edge (R354, R356). -/
def Chan.statDue (c : Chan) : BitVec 4 := (if c.matchDue then 1 else 0) ||| (if c.capDue then (if c.stat.getLsbD 1 then 6 else 2) else 0)

/-- A write of TMR_STAT: what hardware sets at the same edge stays set (R15, R363). -/
def State.writeStat (s : State) (k : BankNum) (ch : ChanNum) (v : W32) : State :=
  let c0 := s.chan k ch
  (s.flushChan k ch).modChan k ch (fun c => { c with stat := (c0.stat &&& ~~~(v.setWidth 4)) ||| c0.statDue })

/-- A write of a bank's register at a byte offset (R14, R350, R358); the commits log their own reserved bits. -/
def State.bankWrite (s0 : State) (k : BankNum) (off : Nat) (v : W32) : State :=
  let commits := 0x100 ≤ off && off < 0x500 && (off % 0x40 == 0x0C || off % 0x40 == 0x14 || off % 0x40 == 0x1C)
  let s := if commits then s0 else s0.ioReserved (bankSite k) off (bankRsv k off) v
  if off < 0x100 || 0x500 ≤ off then s
  else
    let ch := chanIndex ((off - 0x100) / 0x40)
    match off % 0x40 with
    | 0x00 => s.writeCtl k ch v
    | 0x04 => doTmrDivWrite k ch v s
    | 0x08 => s.modChan k ch (fun c => { c with cntLo := some v })
    | 0x0C => doTmrCntCommit k ch v s
    | 0x10 => s.modChan k ch (fun c => { c with cmpLo := some v })
    | 0x14 => doTmrCmpCommit k ch v s
    | 0x18 => s.modChan k ch (fun c => { c with ivlLo := some v })
    | 0x1C => doTmrIvlCommit k ch v s
    | 0x2C => s.writeCapctl k ch v
    | 0x30 => s.modChan k ch (fun c => { c with act := if k = 0 then v &&& 0x1FFF else v &&& 7 })
    | 0x34 => s.writeStat k ch v
    | _ => s

/-! ### One edge (R347-R355) -/

/-- The input line of a channel before its filter: a SENSE pin, constant low in a channel die's bank, or a trigger output (R353). -/
def State.inputLine (s : State) (k : BankNum) (b : TBank) (c : Chan) : Bool :=
  if c.insel < 16 then k = 0 && s.line (145 + c.insel)
  else (tget ({} : Chan) b.chans (c.insel - 16)).trig

/-- The input after its filter (R334, R353): the level, and the filter's memory. The first sample is the filter's value, and no edge. -/
def Chan.filterIn (c : Chan) (raw : Bool) : Chan :=
  if 16 ≤ c.insel || raw = c.inLevel || !c.inKnown then { c with inKnown := true, inLevel := raw, inRaw := raw, inSeen := 0 }
  else
    let n := if c.inRaw = raw then c.inSeen + 1 else 1
    if c.cfilt ≤ n then { c with inLevel := raw, inRaw := raw, inSeen := 0 } else { c with inRaw := raw, inSeen := n }

/-- An edge of the input from one level to another is one that EDGE chooses. -/
def Chan.chosen (c : Chan) (old new : Bool) : Bool :=
  old != new && (c.edgeSel = 2 || (if c.edgeSel = 1 then !new else new))

/-- A source event: the prescaler, and a step of the counter (R348). -/
def Chan.source (c : Chan) : Chan × Bool :=
  let a := c.acc.toNat + 0x10000
  if c.divEff ≤ a then ({ c with acc := BitVec.ofNat 32 (a - c.divEff), cnt := c.cnt + 1 }, true)
  else ({ c with acc := BitVec.ofNat 32 a }, false)

/-- One channel at one edge, the trigger outputs being those after the edge before. -/
def State.chanEdge (s : State) (k : BankNum) (b : TBank) (i : Nat) (c0 : Chan) : Chan :=
  let master := (tget ({} : Chan) b.chans c0.msel).trig
  let rose := master && !c0.seen
  let c := c0.filterIn (s.inputLine k b c0)
  let inEdge := c0.inKnown && c.chosen c0.inLevel c.inLevel
  let mode := c.smode i
  let event := c.en && (if mode = 3 then rose else (if c.psrc then inEdge else true) && (mode != 1 || master))
  let reset := mode = 2 && rose
  let (c1, stepped) := if event && !reset then c.source else (c, false)
  let capN := if c.capen && inEdge then c.capCount + 1 else c.capCount
  { c1 with
    seen := master, pulse := false, resetDue := reset
    equal := stepped && c1.cnt == c1.cmp && c.edges == 0
    late := c.passed && c.edges == 0, passed := c.passed && c.edges != 0
    catchup := c.catchup.map (fun (x : Nat × W48 × W32) => (x.1 - 1, x.2.1, x.2.2)), edges := c.edges - 1
    capCount := if c.cpsc < capN then 0 else capN, capDue := c.cpsc < capN }

/-- One CLK_P edge of a bank: what the edge before left due is done first. -/
def State.bankEdge (s : State) (k : BankNum) : State :=
  if s.bankOn k then
    let s := (s.bank k).chans.foldl (fun s x => s.flushChan k (chanIndex x.1)) s
    let b := s.bank k
    s.modBank k (fun b1 => { b1 with chans := b1.chans.map (fun x => (x.1, s.chanEdge k b x.1 x.2)) })
  else s

/-! ### Meanings -/

def execTmrCntCommit (k : BankNum) (ch : ChanNum) (value : W32) (s : State) : Host.Outcome State Fault Refusal := .next (doTmrCntCommit k ch value s)
def execTmrCmpCommit (k : BankNum) (ch : ChanNum) (value : W32) (s : State) : Host.Outcome State Fault Refusal := .next (doTmrCmpCommit k ch value s)
def execTmrIvlCommit (k : BankNum) (ch : ChanNum) (value : W32) (s : State) : Host.Outcome State Fault Refusal := .next (doTmrIvlCommit k ch value s)
def execTmrDivWrite (k : BankNum) (ch : ChanNum) (value : W32) (s : State) : Host.Outcome State Fault Refusal := .next (doTmrDivWrite k ch value s)
def execTimerMatch (k : BankNum) (ch : ChanNum) (s : State) : Host.Outcome State Fault Refusal := .next (doTimerMatch k ch s)
def execTimerCatchup (k : BankNum) (ch : ChanNum) (s : State) : Host.Outcome State Fault Refusal := .next (doTimerCatchup k ch s)
def execTimerCapture (k : BankNum) (ch : ChanNum) (s : State) : Host.Outcome State Fault Refusal := .next (doTimerCapture k ch s)
def execTimerSlaveReset (k : BankNum) (ch : ChanNum) (s : State) : Host.Outcome State Fault Refusal := .next (doTimerSlaveReset k ch s)

end Sys2Proof.Machine
end

