-- ==== Sys2Proof/Machine/HildIo.lean ====
section
/-! DEFINITION. Machine/HildIo.lean: data memory, IO, mailboxes and event-unit operations of the Hild-14 (R304, R309, R311, R324, R332, R337). -/

namespace Sys2Proof.Machine

open Sys2Proof

/-! ### Loads and stores (R304, R309) -/

/-- A load of `n` bytes, zero-extended; misaligned it traps. -/
def State.coreLoad (s : State) (c : PairNum) (i : Instr) (ra rb : Reg) (n : Nat) : State :=
  s.issue c (coreWord i) true [rb] (fun s =>
    let a := (s.pair c).dataAddr rb
    if a % n ≠ 0 then s.busTrap c (coreWord i) 2 0
    else s.modPair c (fun p =>
      { (p.gw ra (BitVec.ofNat 32 (ule (p.load a n)))).next 1 with loaded := if ra = 0 then none else some ra }))

/-- A store of the low `n` bytes of ra; misaligned it traps. -/
def State.coreStore (s : State) (c : PairNum) (i : Instr) (ra rb : Reg) (n : Nat) : State :=
  s.issue c (coreWord i) true [ra, rb] (fun s =>
    let a := (s.pair c).dataAddr rb
    if a % n ≠ 0 then s.busTrap c (coreWord i) 2 0
    else s.modPair c (fun p => (p.store a (le n (p.gr ra).toNat)).next 1))

def doLdw (c : PairNum) (ra rb : Reg) (s : State) : State := s.coreLoad c (.ldw c ra rb) ra rb 4
def doLdb (c : PairNum) (ra rb : Reg) (s : State) : State := s.coreLoad c (.ldb c ra rb) ra rb 1
def doLdh (c : PairNum) (ra rb : Reg) (s : State) : State := s.coreLoad c (.ldh c ra rb) ra rb 2
def doStw (c : PairNum) (ra rb : Reg) (s : State) : State := s.coreStore c (.stw c ra rb) ra rb 4
def doStb (c : PairNum) (ra rb : Reg) (s : State) : State := s.coreStore c (.stb c ra rb) ra rb 1
def doSth (c : PairNum) (ra rb : Reg) (s : State) : State := s.coreStore c (.sth c ra rb) ra rb 2

/-! ### Event unit (R332) -/

def doEvtClaim (c : PairNum) (ra : Reg) (s : State) : State :=
  s.issue c (coreWord (.evtClaim c ra)) false [] (fun s =>
    let x := s.claim c
    x.1.modPair c (fun p => { (p.gw ra (x.2.setWidth 32)).next 4 with evcur := x.2 }))
def doEvtDone (c : PairNum) (ra : Reg) (s : State) : State :=
  s.issue c (coreWord (.evtDone c ra)) false [ra] (fun s =>
    (s.doneSource (pairUnit c) ((s.pair c).gr ra).toNat).modPair c (fun p => p.next 1))

/-! ### Mailboxes (R311, R337, R338, R343) -/

/-- The pair may name mailbox `m` (R337): the Tender any, a Lamp pair that of the slot it serves. -/
def State.mayBox (s : State) (c : PairNum) (m : Nat) : Bool :=
  c == tender || (match (s.pair c).slot with
    | some k => m == 32 + k
    | none => false)

def boxOf (r : W32) : Nat := fieldOf r 5 0
def bufOf (r : W32) : Nat := fieldOf r 31 16
/-- Cycles of a mailbox access: Tender, Lamp pair (R324). -/
def boxCycles (c : PairNum) (t l : Nat) : Nat := if c = tender then t else l

/-- MSEND: a misaligned buffer, a mailbox that is not the pair's or a LEN above 64, and a full mailbox trap, in that order. -/
def doMsend (c : PairNum) (ra : Reg) (s : State) : State :=
  let w := coreWord (.msend c ra)
  s.issue c w false [ra] (fun s =>
    let p := s.pair c
    let r := p.gr ra
    let m := boxOf r
    let hdr := u32 (p.load (bufOf r) 4) 0
    if bufOf r % 4 ≠ 0 then s.busTrap c w 2 0
    else if !s.mayBox c m || 64 < hdrLen hdr then s.busTrap c w 3 0
    else if 4 ≤ (if c = tender then (s.mbx m).fromT.length else (s.mbx m).toT.length) then s.busTrap c w 4 m
    else
      let body := p.load ((bufOf r + 4) % 65536) 64
      let n := s.ioCycles (boxCycles c 20 60)
      ((if c = tender then s.commitFrom m hdr body else s.commitTo m hdr body).useFree).modPair c (fun p => p.next n))

/-- MRECV: the oldest message is taken into the buffer; 1 when there is none. -/
def doMrecv (c : PairNum) (ra : Reg) (s : State) : State :=
  let w := coreWord (.mrecv c ra)
  s.issue c w false [ra] (fun s =>
    let r := (s.pair c).gr ra
    let m := boxOf r
    let n := s.ioCycles (boxCycles c 20 60)
    if bufOf r % 4 ≠ 0 then s.busTrap c w 2 0
    else if !s.mayBox c m then s.busTrap c w 3 0
    else
      match (if c = tender then (s.mbx m).toT else (s.mbx m).fromT) with
      | [] => s.useFree.modPair c (fun p => (p.gw ra 1).next n)
      | (h, b) :: _ =>
        ((if c = tender then s.takeTo m else s.takeFrom m).useFree).modPair c (fun p =>
          ((p.store (bufOf r) (le 4 h.toNat ++ b)).gw ra 0).next n))

/-- MSTAT (R340). -/
def doMstat (c : PairNum) (ra : Reg) (s : State) : State :=
  let w := coreWord (.mstat c ra)
  s.issue c w false [ra] (fun s =>
    let m := boxOf ((s.pair c).gr ra)
    if !s.mayBox c m then s.busTrap c w 3 0
    else
      let n := s.ioCycles (boxCycles c 4 40)
      let v := s.mbxStat m
      s.useFree.modPair c (fun p => (p.gw ra v).next n))

/-! ### IO (R309, R324) -/

/-- The target of an IO address by its code in the firmware's map (log 28): none; a unit and a byte offset in its block. Units 0-4 are event
units, 5-9 timer banks, 10 the keeper, 11 the staging-memory controller, 12 the pacing of mover channels, 13-108 the ports. -/
def State.ioTarget (s : State) (c : PairNum) (addr : W32) : Option (Nat × Nat) :=
  let k := Config.ioMap ((s.pair c).release.toNat * 64 + c.val) addr
  if k = 0 then none else some ((k - 1) / 65536, (k - 1) % 65536)

/-- The die of an IO unit: 0 the hub; of a unit outside this model, by its code. -/
def ioDie (u : Nat) : Nat :=
  if u ≤ 4 then u else if u ≤ 9 then u - 5 else if u ≤ 12 then 0 else if u ≤ 108 then 1 + (u - 13) / 24 else u % 5
def coreDie (c : PairNum) : Nat := if c = tender then 0 else 1 + pairDie c

/-- A word read from a unit; from one outside this model, a free value. -/
def State.ioReadUnit (s : State) (u off : Nat) : State × W32 :=
  if u ≤ 4 then
    let e := (s.evu ⟨u % 5, by omega⟩).ioRead ⟨u % 5, by omega⟩ off
    (s.modEvu ⟨u % 5, by omega⟩ (fun _ => e.2), e.1)
  else if u ≤ 9 then s.bankRead ⟨u % 5, by omega⟩ off
  else if u = 10 then s.kprRead off
  else if u = 11 then (s.smcClear (some off), s.smcWords.getD (off / 4) 0)
  else if u = 12 then (s, BitVec.ofNat 32 (bnat (tget ({} : Channel) (tget ({} : MoverSt) s.data.movers (off % 512 / 32)).channels (off % 32)).paced))
  else if u ≤ 108 then
    let d : DPort := ⟨(u - 13) % 96, by omega⟩
    (s.slpClear d (some off), (s.slpWords d).getD (off / 4) 0)
  else (s.useFree, s.freeVal)

/-- A word written to a unit; to one outside this model, it is sent there. -/
def State.ioWriteUnit (s : State) (c : PairNum) (addr : W32) (u off : Nat) (v : W32) : State :=
  if u ≤ 4 then s.evuIoWrite ⟨u % 5, by omega⟩ off v
  else if u ≤ 9 then s.bankWrite ⟨u % 5, by omega⟩ off v
  else if u = 10 then s.kprWrite off v
  else if u = 12 then
    s.onData (fun d => { d with movers := tmod {} d.movers (off % 512 / 32) (fun x => { x with
      channels := tmod {} x.channels (off % 32) (fun k => { k with paced := v.getLsbD 0 }) }) })
  else if u = 11 then s.ioReserved hbmSite off (smcRsv off) v
  else if u ≤ 108 then
    let d : DPort := ⟨(u - 13) % 96, by omega⟩
    s.ioReserved (portSite d) off (slpRsv off) v
  else s.emit (.io c addr v)

def doIor (c : PairNum) (ra rb : Reg) (s : State) : State :=
  let w := coreWord (.ior c ra rb)
  s.issue c w true [rb] (fun s =>
    match s.ioTarget c ((s.pair c).gr rb + (s.pair c).offset) with
    | none => s.busTrap c w 3 0
    | some (u, off) =>
      let n := s.ioCycles (if ioDie u = coreDie c then 6 else 40)
      let x := s.useFree.ioReadUnit u off
      x.1.modPair c (fun p => (p.gw ra x.2).next n))
def doIow (c : PairNum) (ra rb : Reg) (s : State) : State :=
  let w := coreWord (.iow c ra rb)
  s.issue c w true [ra, rb] (fun s =>
    let addr := (s.pair c).gr rb + (s.pair c).offset
    match s.ioTarget c addr with
    | none => s.busTrap c w 3 0
    | some (u, off) => (s.ioWriteUnit c addr u off ((s.pair c).gr ra)).modPair c (fun p => p.next 1))

/-! ### Meanings -/

def execLdw (c : PairNum) (ra rb : Reg) (s : State) : Host.Outcome State Fault Refusal := .next (doLdw c ra rb s)
def execLdb (c : PairNum) (ra rb : Reg) (s : State) : Host.Outcome State Fault Refusal := .next (doLdb c ra rb s)
def execLdh (c : PairNum) (ra rb : Reg) (s : State) : Host.Outcome State Fault Refusal := .next (doLdh c ra rb s)
def execStw (c : PairNum) (ra rb : Reg) (s : State) : Host.Outcome State Fault Refusal := .next (doStw c ra rb s)
def execStb (c : PairNum) (ra rb : Reg) (s : State) : Host.Outcome State Fault Refusal := .next (doStb c ra rb s)
def execSth (c : PairNum) (ra rb : Reg) (s : State) : Host.Outcome State Fault Refusal := .next (doSth c ra rb s)
def execEvtClaim (c : PairNum) (ra : Reg) (s : State) : Host.Outcome State Fault Refusal := .next (doEvtClaim c ra s)
def execEvtDone (c : PairNum) (ra : Reg) (s : State) : Host.Outcome State Fault Refusal := .next (doEvtDone c ra s)
def execMsend (c : PairNum) (ra : Reg) (s : State) : Host.Outcome State Fault Refusal := .next (doMsend c ra s)
def execMrecv (c : PairNum) (ra : Reg) (s : State) : Host.Outcome State Fault Refusal := .next (doMrecv c ra s)
def execMstat (c : PairNum) (ra : Reg) (s : State) : Host.Outcome State Fault Refusal := .next (doMstat c ra s)
def execIor (c : PairNum) (ra rb : Reg) (s : State) : Host.Outcome State Fault Refusal := .next (doIor c ra rb s)
def execIow (c : PairNum) (ra rb : Reg) (s : State) : Host.Outcome State Fault Refusal := .next (doIow c ra rb s)

end Sys2Proof.Machine
end

