-- ==== Sys2Proof/Machine/HildSys.lean ====
section
/-! DEFINITION. Machine/HildSys.lean: SYS operations, special registers, reserved encodings, entries and lockstep of the Hild-14
(R294, R306, R311, R313, R315, R319-R323). -/

namespace Sys2Proof.Machine

open Sys2Proof

/-! ### SYS (R311) -/

def doSysNop (c : PairNum) (s : State) : State := s.issueLocal c (coreWord (.sysNop c)) false [] (fun p => p.next 1)
/-- FL as RETT leaves it: TRAPFL with INTRAP cleared (R311), but an EARLY that is set stays, since only a WRS of FL clears it (R307; log 112). -/
def Pair.rettFlags (p : Pair) : W32 := setFlag (p.trapfl &&& flMask) flInTrap false ||| (p.fl &&& 0x10)
def doRett (c : PairNum) (s : State) : State :=
  s.issueLocal c (coreWord (.rett c)) false [] (fun p => { p.jump p.trappc 2 with fl := p.rettFlags })
def doTrap (c : PairNum) (n : BitVec 5) (s : State) : State :=
  s.issue c (coreWord (.trap c n)) false [] (fun s => s.coreTrap c 0xC (coreWord (.trap c n)) 8 n.toNat ((s.pair c).pc + 1))
def doEi (c : PairNum) (s : State) : State :=
  s.issueLocal c (coreWord (.ei c)) false [] (fun p => ({ p with fl := setFlag p.fl flIE true }).next 1)
def doDi (c : PairNum) (s : State) : State :=
  s.issueLocal c (coreWord (.di c)) false [] (fun p => ({ p with fl := setFlag p.fl flIE false }).next 1)
/-- WAITE: the pair waits until its event input is asserted. -/
def doWaite (c : PairNum) (s : State) : State :=
  s.issueLocal c (coreWord (.waite c)) false [] (fun p => { p.next 2 with waiting := true })
/-- SYNC: every posted write and commit of this model has been accepted when its instruction ends. -/
def doSync (c : PairNum) (s : State) : State := s.issueLocal c (coreWord (.sync c)) false [] (fun p => p.next 1)

/-! ### Special registers (R306, R307, R315) -/

/-- The copy of the timebase on the pair's die (R36, R306). -/
def State.coreTime (s : State) (c : PairNum) : W64 := if c.val < 40 then tget 0 s.clk.dies (pairDie c) else s.clk.hub

/-- RDS of special `n`: the value, and the pair after its side effect. -/
def State.readSpecial (s : State) (c : PairNum) (n : Nat) : W32 × Pair :=
  let p := s.pair c
  let early := { p with fl := if p.products.isEmpty then p.fl else setFlag p.fl flEarly true }
  match n with
  | 0x00 => (p.fl, p)
  | 0x01 => (p.pc.setWidth 32, p)
  | 0x02 => (p.mh, early)
  | 0x03 => (p.ml, early)
  | 0x04 => (p.cs, p)
  | 0x05 => (p.cp, p)
  | 0x06 => (p.cm, p)
  | 0x07 => (p.trapw.setWidth 32, p)
  | 0x08 => (p.trappc.setWidth 32, p)
  | 0x09 => (p.trapfl, p)
  | 0x0A => (p.cause.setWidth 32, p)
  | 0x0B => (0x00030100, p)
  | 0x0C => (s.coreId c, p)
  | 0x0D => (p.cyc.setWidth 32, { p with cychi := (p.cyc >>> 32).setWidth 32 })
  | 0x0E => (p.cychi, p)
  | 0x0F => ((s.coreTime c).setWidth 32, { p with tbhi := (s.coreTime c >>> 32).setWidth 32 })
  | 0x10 => (p.tbhi, p)
  | 0x11 => (p.evcur.setWidth 32, p)
  | 0x12 => (BitVec.ofNat 32 (p.eccd.toNat + 65536 * p.eccp.toNat), { p with eccd := 0, eccp := 0 })
  | 0x13 => (p.wdog.setWidth 32, p)
  | _ => (p.trappr, p)

/-- RDS; a special that does not exist is a reserved encoding (R313). -/
def doRds (c : PairNum) (ra : Reg) (n : BitVec 5) (s : State) : State :=
  s.issue c (coreWord (.rds c ra n)) false [] (fun s =>
    if specialReal n then
      let x := s.readSpecial c n.toNat
      s.modPair c (fun _ => (x.2.gw ra x.1).next 1)
    else s.reservedTrap c (coreWord (.rds c ra n)))

/-- WDOG written (R323): a write of 0 has no effect once a nonzero value has been written. -/
def Pair.writeWdog (p : Pair) (v : W32) : Pair :=
  let n := v.setWidth 24
  if n = 0 then p else { p with wdog := n, wdogSub := 0, wdogOn := true, wdogHits := 0 }

/-- WRS of special `n` (R306, R307, R315, R316, R323). -/
def Pair.writeSpecial (p : Pair) (n : Nat) (v : W32) : Pair :=
  let early := if p.products.isEmpty then p.fl else setFlag p.fl flEarly true
  match n with
  | 0x00 => { p with fl := v &&& flMask }
  | 0x02 => { p with mh := v, fl := early }
  | 0x03 => { p with ml := v, fl := early }
  | 0x04 => { p with cs := v }
  | 0x05 => { p with cp := v }
  | 0x06 => { p with cm := v &&& 0x3F }
  | 0x08 => { p with trappc := v.setWidth 15 }
  | 0x09 => { p with trapfl := v }
  | _ => p.writeWdog v

/-- WRS; of a special that cannot be written it is a reserved encoding (R313). -/
def doWrs (c : PairNum) (ra : Reg) (n : BitVec 5) (s : State) : State :=
  s.issue c (coreWord (.wrs c ra n)) false [ra] (fun s =>
    if specialWritable n then s.modPair c (fun p => (p.writeSpecial n.toNat (p.gr ra)).next 1)
    else s.reservedTrap c (coreWord (.wrs c ra n)))

/-- RESERVED_ENCODING (R313): a word that is reserved as it stands. -/
def doReservedEncoding (c : PairNum) (w : BitVec 14) (s : State) : State :=
  if reservedWord w then s.issue c w true [] (fun s => s.reservedTrap c w) else s

/-! ### Entries (R320, R323) -/

/-- The instruction boundary allows an entry (R310). -/
def Pair.atBoundary (p : Pair) : Bool := p.running && p.prn == 0 && !p.fl.getLsbD flInTrap

/-- EVENT_ENTRY: TRAPW is not stated (a free value, log 24). -/
def doEventEntry (c : PairNum) (s : State) : State :=
  if (s.pair c).atBoundary && (s.pair c).fl.getLsbD flIE && s.eventInput c then
    s.useFree.modPair c (fun p => (p.landed).entry 0x10 (s.freeVal.setWidth 14) 0x10 0 p.pc)
  else s

/-- WATCHDOG_EXPIRY: the first enters vector 0x0014, held while INTRAP is set; a second before the next nonzero write is a pair failure
(log 26). -/
def doWatchdogExpiry (c : PairNum) (s : State) : State :=
  let p := s.pair c
  if p.running && p.wdogOn && p.wdog == 0 && p.wdogHits != 0 then (s.failPair c .watchdog).settle
  else if p.atBoundary && p.wdogDue then
    s.useFree.modPair c (fun p => { (p.landed).entry 0x14 (s.freeVal.setWidth 14) 0x11 0 p.pc with wdogDue := false, wdogHits := 1 })
  else s

/-- LOCKSTEP_SIGNATURE (R294): every 1,024 cycles the core's signature is formed and compared with the checker's; signatures that differ are a
divergence. -/
def doLockstepSignature (c : PairNum) (stages : List Nat) (checker : W64) (s : State) : State :=
  let p := s.pair c
  if p.running && decide (p.sigAt + 1024 ≤ p.cyc.toNat) then
    if checker = p.signature stages then s.modPair c (fun p => { p with sigAt := p.cyc.toNat / 1024 * 1024 })
    else (s.failPair c .divergence).settle
  else s

/-! ### Meanings -/

def execSysNop (c : PairNum) (s : State) : Host.Outcome State Fault Refusal := .next (doSysNop c s)
def execRett (c : PairNum) (s : State) : Host.Outcome State Fault Refusal := .next (doRett c s)
def execTrap (c : PairNum) (n : BitVec 5) (s : State) : Host.Outcome State Fault Refusal := .next (doTrap c n s)
def execEi (c : PairNum) (s : State) : Host.Outcome State Fault Refusal := .next (doEi c s)
def execDi (c : PairNum) (s : State) : Host.Outcome State Fault Refusal := .next (doDi c s)
def execWaite (c : PairNum) (s : State) : Host.Outcome State Fault Refusal := .next (doWaite c s)
def execSync (c : PairNum) (s : State) : Host.Outcome State Fault Refusal := .next (doSync c s)
def execRds (c : PairNum) (ra : Reg) (n : BitVec 5) (s : State) : Host.Outcome State Fault Refusal := .next (doRds c ra n s)
def execWrs (c : PairNum) (ra : Reg) (n : BitVec 5) (s : State) : Host.Outcome State Fault Refusal := .next (doWrs c ra n s)
def execReservedEncoding (c : PairNum) (word : BitVec 14) (s : State) : Host.Outcome State Fault Refusal := .next (doReservedEncoding c word s)
def execEventEntry (c : PairNum) (s : State) : Host.Outcome State Fault Refusal := .next (doEventEntry c s)
def execWatchdogExpiry (c : PairNum) (s : State) : Host.Outcome State Fault Refusal := .next (doWatchdogExpiry c s)
def execLockstepSignature (c : PairNum) (stages : List Nat) (checker : W64) (s : State) : Host.Outcome State Fault Refusal :=
  .next (doLockstepSignature c stages checker s)

end Sys2Proof.Machine
end

