-- ==== Sys2Proof/Machine/LinkCmds.lean ====
section
/-! DEFINITION. Machine/LinkCmds.lean: the Sector Link (R252-R288): bringing a link up, timers, the transmitter's choice at a frame boundary,
and what each received frame does. -/

namespace Sys2Proof.Machine

open Sys2Proof

/-! ### Link state (R258-R260) -/

/-- BLOCK_LOCK (R258): HELLO begins; a refused HELLO keeps the port silent until its 5 s are over. Light on a port that no path names only adds an entry
(R103). -/
def doBlockLock (d : DPort) (s : State) : State :=
  let p := s.port d
  if p.txOn && !p.locked then
    let s := (s.modPort d (fun p => { p with locked := true })).firePort d 1
    if p.refusedAt.isSome then s
    else ((s.modPort d (fun p => { p with link := 3 })).queueHello d).work
  else if !p.txOn && !s.portNamed d && s.portDomainOn d then s.logLink d 0 0 0
  else s

/-- BLOCK_LOCK_LOSS (R260): loss of block lock, or hi_ber. -/
def doBlockLockLoss (d : DPort) (s : State) : State :=
  if (s.port d).locked then (s.retrainCause d).settle else s

/-- HELLO_INTERVAL (R258). -/
def doHelloInterval (d : DPort) (s : State) : State :=
  let p := s.port d
  match p.helloAt with
  | some t => if t ≤ s.clk.now && p.locked && !p.helloSeen && p.refusedAt.isNone then s.queueHello d else s
  | none => s

/-- HELLO_REFUSED_RETRY (R258, R281): after 5 s the fence lifts and HELLO goes again. -/
def doHelloRefusedRetry (d : DPort) (s : State) : State :=
  match (s.port d).refusedAt with
  | some t =>
    if t ≤ s.clk.now then
      let s := (s.liftFence d .helloRefused).modPort d (fun p => { p with refusedAt := none, link := if p.locked then 3 else p.link })
      (if (s.port d).locked then s.queueHello d else s).settle
    else s
  | none => s

/-- ECHO_IDLE_TIMER (R260). -/
def doEchoIdleTimer (d : DPort) (s : State) : State :=
  let p := s.port d
  if p.txOn && p.helloSeen && decide (p.lastTx + Config.us100Ticks ≤ s.clk.now) then s.modPort d (fun p => { p with echoDue := true }) else s

/-- RECEIVE_SILENCE (R260). -/
def doReceiveSilence (d : DPort) (s : State) : State :=
  let p := s.port d
  if p.link = 5 && decide (p.lastRx + Config.msTicks ≤ s.clk.now) then (s.retrainCause d).settle else s

/-- CREDIT_RETURN_TIMER (R263): 160 ticks after the first waiting credit. -/
def doCreditReturnTimer (d : DPort) (s : State) : State :=
  match (s.port d).waitSince with
  | some t => if t + Config.rereadTicks ≤ s.clk.now then s.modPort d (fun p => { p with creditDue := true }) else s
  | none => s

/-- ABSENT_PATH_RETRY (R101, R103). -/
def doAbsentPathRetry (d : DPort) (a : Byte) (s : State) : State :=
  let x := s.pathSt d a
  match x.retryAt with
  | some t =>
    if t ≤ s.clk.now && x.absent && !x.probing && (s.port d).link = 5 && !(s.port d).muted && s.portDomainOn d && (s.namedAddrs d).contains a then
      (s.startIdent d a).settle
    else s
  | none => s

/-! ### RESEND (R270) -/

/-- RESEND of the exchange's next expected frame is put to be sent. -/
def State.queueResend (s : State) (d : DPort) (g : Tag) (e : Exch) : State :=
  let f := exchFrame { control 6 with seq := BitVec.ofNat 16 e.rxSeq } g e
  s.modPort d (fun p => { p with resends := p.resends ++ [⟨f, some g, []⟩], resendTx := satInc p.resendTx })

/-- The resend limit is reached: ABORT reason 4; the program ends with INTEGRITY, DETAIL 0x05 (R270, R278). -/
def State.resendLimit (s : State) (d : DPort) (g : Tag) (e : Exch) : State :=
  let s := s.abortExch d g 4
  match e.owner with
  | .ident a => s.identResult d a none
  | .prog sc =>
    match s.prog? sc with
    | none => s
    | some p =>
      (s.logIntegrity sc p 5 (portSite d)).endProgram sc { code := cIntegrity, reason := 5, step := p.here } 4

/-- A frame is missing: RESEND names it, at most three times, and what follows is discarded until it comes (R270). -/
def State.askAgain (s : State) (d : DPort) (g : Tag) (e : Exch) : State :=
  let n := tget 0 e.named e.rxSeq
  if 3 ≤ n then s.resendLimit d g e
  else (s.modExch d g (fun e => { e with named := tset e.named e.rxSeq (n + 1), gap := true })).queueResend d g e

/-! ### Exchanges go on (R190, R273) -/

/-- The device owes the unit output: asked for and not all sent (R273). -/
def State.owes (s : State) (d : DPort) (g : Tag) (e : Exch) : Bool :=
  (s.port d).dataQ.any (fun i => i.tag == some g) ||
    (match e.owner with
      | .prog sc => match (s.prog? sc).bind (·.chain) with
        | some c => decide (c.queued < c.wanted) && !(c.whole && decide (c.total ≤ c.queued))
        | none => false
      | .ident _ => false)

/-- A frame of the exchange has come: the timers of R273 start anew; an acceptance ends the command timer (R190). -/
def State.touchExch (s : State) (d : DPort) (g : Tag) (accepts : Bool) : State :=
  s.modExch d g (fun e =>
    let acc := e.accepted || accepts
    { e with
      accepted := acc
      cmdAt := if acc then none else e.cmdAt
      inactAt := if acc then some (s.clk.now + Config.secondTicks) else none
      missAt := if e.input then some (s.clk.now + Config.msTicks) else none })

/-! ### Checks of a received frame (R263, R264, R271) -/

/-- A frame that is discarded under checks 1 to 3: a data-class frame by its wire cost, or a control-class frame whose header is good, uses its
credit where one is outstanding (R263). -/
def State.badFrame (s : State) (d : DPort) (isData isCtrl : Bool) : State :=
  let s := s.modPort d (fun p => { p with frmerr := satInc p.frmerr, lastRx := s.clk.now })
  let p := s.port d
  if !p.helloSeen then s
  else if isData then (if 0 < p.dOut then s.useCredit d true else s)
  else if isCtrl && 0 < p.cOut then s.useCredit d false
  else s

/-- A frame is only counted, before HELLO and in the 5 s after a refused one (R258). -/
def State.countFrame (s : State) (d : DPort) : State := s.modPort d (fun p => { p with frmerr := satInc p.frmerr, lastRx := s.clk.now })

/-- A retrain that waited for a frame of its own cycle follows it (R275). -/
def State.dueRetrain (s : State) (d : DPort) : State := if (s.port d).retrainDue then (s.retrain d).settle else s

/-- A received frame of a type: due while the lane is lit and locked; checks 1 to 4 of R271, and R258 before HELLO; then `act`. -/
def State.takeFrame (s : State) (d : DPort) (f : Frame) (act : State → State) : State :=
  let p := s.port d
  if !p.txOn || !p.locked then s
  else if p.refusedAt.isSome then s.countFrame d
  else if frameBad f then (s.badFrame d (decide (64 < wireCost f.payload.length)) (f.hcrc == crc32c (frameHeader f) && frameClass f == some false)).settle
  else if !p.helloSeen then s.countFrame d
  else
    let s := (s.modPort d (fun p => { p with lastRx := s.clk.now })).work
    match frameClass f with
    | none => (act s).settle
    | some isData =>
      if (if isData then p.dOut else p.cOut) = 0 then (s.retrainBy d true).settle
      else (act (s.useCredit d isData)).settle

/-- A received frame, and the retrain that waited for it. -/
def State.receive (s : State) (d : DPort) (f : Frame) (act : State → State) : State := (s.takeFrame d f act).dueRetrain d

/-- The list names the address on the port, or an exchange is still open to it after an edit (R100, R271). -/
def State.addrKnown (s : State) (d : DPort) (a : Byte) : Bool :=
  (s.namedAddrs d).contains a || (s.port d).exch.any (fun e => e.2.cuaddr == a) || (s.port d).quar.any (fun q => q.2.cuaddr == a)

/-- A frame from an address that the list does not name on the port: discarded, counted, and an entry added (R103, R271). -/
def State.noteUnnamed (s : State) (d : DPort) (a : Byte) : State :=
  (s.modPort d (fun p => { p with unnamed := satInc p.unnamed })).logLink d 0 a.toNat 0

/-- Checks 5 to 8 of R271 of a frame that names an exchange; `forbidden`: the frame has no place in the open exchange (check 8). -/
def State.onExch (s : State) (d : DPort) (f : Frame) (forbidden : Exch → Bool) (act : State → Exch → State) : State :=
  let p := s.port d
  let stale := s.modPort d (fun p => { p with stale := satInc p.stale })
  if !s.addrKnown d f.cuaddr then s.noteUnnamed d f.cuaddr
  else
    match tfind p.exch f.tag.toNat with
    | some e =>
      if e.gen != f.gen || !e.sent then stale
      else if e.cuaddr != f.cuaddr || e.devaddr != f.devaddr then stale
      else if forbidden e then s.modPort d (fun p => { p with frmerr := satInc p.frmerr })
      else act s e
    | none =>
      match tfind p.quar f.tag.toNat with
      | some q =>
        if q.gen != f.gen || q.retired then stale
        else if q.cuaddr != f.cuaddr || q.devaddr != f.devaddr then stale
        else if !q.sent then s
        else s.quarFree d f.tag
      | none => stale

/-! ### Received frames -/

/-- HELLO (R258, R260). -/
def doHello (d : DPort) (f : Frame) (s : State) : State :=
  let p := s.port d
  if f.typ != 6 || f.sub != 1 || !p.txOn || !p.locked || p.refusedAt.isSome then s
  else if frameBad f then (s.badFrame d false false).settle
  else if p.link = 5 then (s.retrain d).settle
  else
    let bad := helloRefused p.fec f
    (if bad != 0 then s.helloRefusal d bad else (s.helloAccepted d f p.helloSeen).work).settle

/-- ECHO (R260). -/
def doEcho (d : DPort) (f : Frame) (s : State) : State :=
  if f.typ != 6 || f.sub != 2 then s else s.receive d f id

/-- A cumulative count is newer than one known. -/
def newerCount (new old : W32) : Bool := decide (0 < (new - old).toNat) && decide ((new - old).toNat < 2 ^ 31)

/-- The frames that the unit's data credit count covers need not be kept any longer (R265). -/
def State.dropCovered (s : State) (d : DPort) : State :=
  let p := s.port d
  let covered := fun (n : Nat) => n ≤ (p.dcumRx - p.dinit).toNat
  let gone := p.exch.flatMap (fun e => (e.2.kept.filter (fun k => covered k.1)).flatMap (fun k => k.2.2))
  let s := s.modPort d (fun p => { p with
    exch := p.exch.map (fun e => (e.1, { e.2 with kept := e.2.kept.filter (fun k => !covered k.1) })) })
  let done := p.owed.filter (fun k => covered k.1)
  (s.dropRuns (gone ++ done.flatMap (·.2))).modPort d (fun p => { p with owed := p.owed.filter (fun k => !covered k.1) })

/-- The credits of a CREDIT frame are applied: counts run on from HELLO, and one already known adds nothing (R262, R266). -/
def State.applyCredit (s : State) (d : DPort) (f : Frame) : State :=
  let p := s.port d
  let dc := u32 f.body 0
  let cc := u32 f.body 4
  let nd := if newerCount dc p.dcumRx then (dc - p.dcumRx).toNat else 0
  let nc := if newerCount cc p.ccumRx then (cc - p.ccumRx).toNat else 0
  ((s.modPort d (fun p => { p with dcumRx := p.dcumRx + BitVec.ofNat 32 nd, ccumRx := p.ccumRx + BitVec.ofNat 32 nc })).book 1 d.val
    (nd + nc : Nat)).dropCovered d

/-- CREDIT (R262, R266). -/
def doCredit (d : DPort) (f : Frame) (s : State) : State :=
  if f.typ != 5 then s else s.receive d f (fun s => s.applyCredit d f)

/-- The bytes of an exchange's input that its step counts take (R150, R276, R278): none while a step of the chain has still to be read. -/
def State.inputLimit (s : State) (e : Exch) : Option Nat :=
  match e.owner with
  | .ident _ => some 32
  | .prog sc =>
    match s.prog? sc with
    | none => none
    | some p =>
      match p.chain with
      | none => none
      | some c =>
        if c.whole then some c.total
        else
          let r := p.countsFrom (4 * p.groups.length + 1) (c.last + 16) c.total
          if r.2 then some r.1 else none

/-- A DATA frame in its place is taken (R269-R271, R276): staged as far as the counts go. -/
def State.takeData (s : State) (d : DPort) (g : Tag) (e : Exch) (b : Bytes) : State :=
  let keep := match s.inputLimit e with
    | some n => b.take (n - e.rxBytes)
    | none => b
  let s := (s.modExch d g (fun e => { e with rxSeq := e.rxSeq + 1, rxBytes := e.rxBytes + b.length, gap := false })).book 9
    (4096 * d.val + g.toNat) keep.length
  match e.owner with
  | .ident a =>
    let s := s.modPath d a (fun x => { x with answer := x.answer ++ keep })
    if 32 < e.rxBytes + b.length && e.refuse.isNone then
      s.modPort d (fun q => { q with
        exch := tupd q.exch g.toNat (fun e => { e with refuse := some 32 })
        controls := q.controls ++ [⟨exchFrame { control 5 with offset := 32 } g e, some g, []⟩] })
    else s
  | .prog sc => (if keep.isEmpty then s else s.stageInput sc d keep).chainOn sc

/-- DATA (R269-R271, R276). -/
def doData (d : DPort) (f : Frame) (s : State) : State :=
  if f.typ != 2 then s
  else s.receive d f (fun s => s.onExch d f (fun e => !e.input) (fun s e =>
    let g := f.tag
    let s := s.touchExch d g true
    let beyond := match e.refuse with
      | some r => decide (r ≤ f.offset.toNat)
      | none => false
    if beyond then s
    else if f.pcrc != payloadCrc f.payload then
      let s := s.modPort d (fun p => { p with pcrc := satInc p.pcrc })
      if !e.gap || seqPlace f.seq e.rxSeq = .next then s.askAgain d g e else s
    else
      match seqPlace f.seq e.rxSeq with
      | .next => s.takeData d g e f.payload
      | .after => if e.gap then s else s.askAgain d g e
      | .before => s))

/-- DATA_REQ (R269, R276). -/
def doDataReq (d : DPort) (f : Frame) (s : State) : State :=
  if f.typ != 3 then s
  else s.receive d f (fun s => s.onExch d f (fun e => !e.output) (fun s e =>
    let s := s.touchExch d f.tag true
    match e.owner with
    | .ident _ => s
    | .prog sc =>
      let end1 := f.offset.toNat + (u32 f.body 0).toNat
      ((s.modChain sc (fun c => { c with wanted := max c.wanted end1 })).pushOutput sc).chainOn sc))

/-- STATUS with BUSY (R193, R277): the command goes again in 1 ms or at FREE; 30 s after the first busy answer the program ends. -/
def State.busyAnswer (s0 : State) (sc : SC) : State :=
  let s := (s0.fireProg sc 3).lampServe sc .link
  match s.prog? sc with
  | none => s
  | some p =>
    if p.ending.isSome then s
    else
    let first := (p.busy.map (fun (b : Busy) => b.first)).getD s.clk.now
    let s := s.modProg sc (fun p => { p with
      busy := some ⟨first, s.clk.now + Config.msTicks, true, s.clk.now⟩, chain := p.chain.map (fun c => { c with tag := none, wanted := 0 }) })
    match p.stop with
    | some e => s.endProgram sc { e with step := p.here } 2
    | none =>
      if first + Config.busyLimitTicks ≤ s.clk.now then s.endProgram sc { code := cLinkTimeout, reason := 3, step := p.here } 2 else s

/-- At the end of a data chain the transfer-bytes instance of the exchange does not balance: the program ends with BALANCE-FENCE (R415). -/
def State.breakChain (s : State) (d : DPort) (g : Tag) (sc : SC) : State :=
  let i := 4096 * d.val + g.toNat
  let s := (s.logBalance 9 i (s.acct 9 i) (portSite d)).onFaults (fun f => { f with accts := tdel f.accts (acctKey 9 i) })
  (s.modChain sc (fun c => { c with tag := none })).endProgram sc { code := cBalance, reason := 9, step := (s.prog? sc).bind (·.here) } 2

/-- STATUS that ends an exchange of a program or of an identify (R269, R278). -/
def State.statusEnd (s : State) (d : DPort) (g : Tag) (e : Exch) (f : Frame) : State :=
  let busy := f.flags.getLsbD 0
  let st : Byte := byteAt f.body 0 &&& 0x1F
  let whole := s.balanced 9 (4096 * d.val + g.toNat)
  let s := s.closeExch d g
  match e.owner with
  | .ident a =>
    let id := (s.pathSt d a).answer
    if busy || e.refuse.isSome || e.rxBytes != 32 || !statusNormal st then s.identResult d a none else s.identResult d a (some id)
  | .prog sc =>
    if busy && !e.accepted then s.busyAnswer sc
    else if !whole then s.breakChain d g sc
    else
      -- The command is never sent again after acceptance (R190): BUSY then is a status that lacks DONE (DEDUCED, log 133).
      let st := if busy then st &&& 0x1E else st
      let s := match s.prog? sc with
        | some p => if e.output then s.dropReads p.xfer else s
        | none => s
      (s.modChain sc (fun c => { c with tag := none, status := some st })).chainOn sc

/-- STATUS (R269-R271, R277). -/
def doStatus (d : DPort) (f : Frame) (s : State) : State :=
  if f.typ != 4 then s
  else s.receive d f (fun s =>
    if (s.port d).early.contains (f.tag.toNat, f.gen) then
      (s.modPort d (fun p => { p with early := p.early.filter (fun x => x != (f.tag.toNat, f.gen)) })).kickIdents d
    else s.onExch d f (fun _ => false) (fun s e =>
    let s := s.touchExch d f.tag (!f.flags.getLsbD 0)
    if statusInOrder e f then (s.statusEnd d f.tag e f).kickIdents d
    else if e.gap then s
    else s.askAgain d f.tag e))

/-- ABORT-ACK (R271 check 8, R274). -/
def doAbortAck (d : DPort) (f : Frame) (s : State) : State :=
  if f.typ != 6 || f.sub != 4 then s else s.receive d f (fun s => (s.onExch d f (fun _ => true) (fun s _ => s)).kickIdents d)

/-- RESEND received (R265, R270): the frames kept from the named one on go again; at the fourth naming, ABORT reason 4. A frame that still waits to be
sent again is named all the same; one never sent is none that a RESEND can name. -/
def doResend (d : DPort) (f : Frame) (s : State) : State :=
  if f.typ != 6 || f.sub != 6 then s
  else s.receive d f (fun s => s.onExch d f (fun _ => false) (fun s e =>
    let g := f.tag
    let s := (s.touchExch d g false).modPort d (fun p => { p with resendRx := satInc p.resendRx })
    let waits := (s.port d).dataQ.any (fun i => i.tag == some g && i.frame.seq == f.seq) && seqPlace f.seq e.txSent == .before
    if !(e.kept.any (fun k => k.2.1.seq == f.seq) || waits) then s
    else
      let n := tget 0 e.unitNamed f.seq.toNat
      if 3 ≤ n then s.resendLimit d g e
      else
        let again := e.kept.filter (fun k => seqPlace k.2.1.seq f.seq.toNat != .before)
        s.modPort d (fun p => { p with
          dataQ := again.map (fun k => (⟨k.2.1, some g, k.2.2⟩ : TxItem)) ++ p.dataQ
          exch := tupd p.exch g.toNat (fun e => { e with
            unitNamed := tset e.unitNamed f.seq.toNat (n + 1)
            kept := e.kept.filter (fun k => seqPlace k.2.1.seq f.seq.toNat == .before) }) })))

/-- WORKING (R273). -/
def doWorking (d : DPort) (f : Frame) (s : State) : State :=
  if f.typ != 6 || f.sub != 7 then s else s.receive d f (fun s => s.onExch d f (fun _ => false) (fun s _ => s.touchExch d f.tag false))

/-- The programs on a port that wait on a busy answer of a device address, in the order of their busy answers (R277). -/
def State.busyOn (s : State) (d : DPort) (cu : Byte) (dev : W16) : List SC :=
  let l := s.prog.subs.filterMap (fun b => match b.2.prog with
    | some p =>
      (match p.path, p.busy with
      | some x, some k => if x.port == d && x.addr == cu && b.2.devaddr == dev && k.waiting then some (b.1, k.since) else none
      | _, _ => none)
    | none => none)
  (l.foldl insertBySince []).map (fun (x : Nat × Nat) => BitVec.ofNat 18 x.1)
where
  insertBySince (l : List (Nat × Nat)) (x : Nat × Nat) : List (Nat × Nat) := l.filter (fun y => y.2 ≤ x.2) ++ [x] ++ l.filter (fun y => x.2 < y.2)

/-- FREE (R277). -/
def doFree (d : DPort) (f : Frame) (s : State) : State :=
  if f.typ != 6 || f.sub != 8 then s
  else s.receive d f (fun s =>
    if !(s.namedAddrs d).contains f.cuaddr then s.noteUnnamed d f.cuaddr
    else (s.busyOn d f.cuaddr f.devaddr).foldl (fun s sc =>
      (s.modProg sc (fun p => { p with busy := p.busy.map (fun (b : Busy) => { b with waiting := false }) })).sendChain sc) (s.firePort d 3))

/-- FRAME_DISCARDED (R263, R271 checks 1 to 3): a frame is discarded. -/
def doFrameDiscarded (d : DPort) (f : Discarded) (s : State) : State :=
  let p := s.port d
  if p.txOn && p.locked then (s.badFrame d (decide (64 < f.wireCost)) f.ctrl).settle.dueRetrain d else s

/-! ### Exchange timers (R273) -/

/-- An exchange's timer has run out: ABORT reason 3, and its owner meets a timeout (R191, R192, R278). -/
def State.exchTimeout (s : State) (d : DPort) (g : Tag) (e : Exch) : State :=
  let s := (s.abortExch d g 3).firePort d 2
  match e.owner with
  | .prog sc => s.exchFailed sc e.accepted true
  | .ident a =>
    let x := s.pathSt d a
    if e.accepted || 3 ≤ x.retries then s.identResult d a none
    else (s.modPath d a (fun x => { x with retries := x.retries + 1, answer := [] })).kickIdents d

/-- A deadline is over. -/
def State.isPast (s : State) (t : Option Nat) : Bool :=
  match t with
  | some t => decide (t ≤ s.clk.now)
  | none => false

/-- COMMAND_TIMEOUT. -/
def doCommandTimeout (d : DPort) (g : Tag) (s : State) : State :=
  match tfind (s.port d).exch g.toNat with
  | some e => if s.isPast e.cmdAt && !e.accepted && !s.acceptWaits d g e then (s.exchTimeout d g e).settle else s
  | none => s

/-- INACTIVITY_TIMEOUT: after acceptance, while the device owes nothing. -/
def doInactivityTimeout (d : DPort) (g : Tag) (s : State) : State :=
  match tfind (s.port d).exch g.toNat with
  | some e => if s.isPast e.inactAt && e.accepted && !s.owes d g e && !s.frameWaits d g e then (s.exchTimeout d g e).settle else s
  | none => s

/-- MISSING_DATA_TIMEOUT: a RESEND that does not count toward the limit (R270). -/
def doMissingDataTimeout (d : DPort) (g : Tag) (s : State) : State :=
  match tfind (s.port d).exch g.toNat with
  | some e =>
    if s.isPast e.missAt && e.input then (s.modExch d g (fun e => { e with missAt := some (s.clk.now + Config.msTicks) })).queueResend d g e else s
  | none => s

/-- ABORT_TIMEOUT: ABORT again (the answer to an earlier one still counts), up to three times; then the tag is retired until the next HELLO (R274). -/
def doAbortTimeout (d : DPort) (g : Tag) (s : State) : State :=
  match tfind (s.port d).quar g.toNat with
  | some q =>
    if s.isPast q.expires && q.sent then
      let s := s.firePort d 2
      (if q.tries < 3 then
        let f : Frame := { control 3 with tag := g, gen := q.gen, cuaddr := q.cuaddr, devaddr := q.devaddr, body := padTo 12 [q.reason] }
        s.modPort d (fun p => { p with
          quar := tset p.quar g.toNat { q with tries := q.tries + 1, expires := none }
          controls := p.controls ++ [⟨f, some g, []⟩] })
      else s.modPort d (fun p => { p with quar := tset p.quar g.toNat { q with expires := none, retired := true } })).settle
    else s
  | none => s

/-! ### The transmitter (R265, R267, R283) -/

/-- A frame leaves: its checks are computed as it goes. -/
def State.sendFrame (s : State) (d : DPort) (f : Frame) : State :=
  (s.modPort d (fun p => { p with lastTx := s.clk.now, echoDue := false })).emit (.frame d (sealFrame f))

/-- A control-class frame uses a control credit. -/
def State.spendCtrl (s : State) (d : DPort) : State := s.modPort d (fun p => { p with cUsed := p.cUsed + 1 })

/-- COMMAND leaves: the timers of R273 run, and the path counts among those tried (R208). -/
def State.sendCommand (s : State) (d : DPort) (i : TxItem) : State :=
  match i.tag with
  | none => s
  | some g =>
    let s := ((s.spendCtrl d).modPort d (fun p => { p with ctrlQ := p.ctrlQ.drop 1, lastCtrl := true })).sendFrame d i.frame
    let s := s.modExch d g (fun e => { e with
      sent := true, cmdAt := some (s.clk.now + Config.commandTicks), missAt := if e.input then some (s.clk.now + Config.msTicks) else none })
    match (tfind (s.port d).exch g.toNat).map (fun (e : Exch) => e.owner) with
    | some (.prog sc) => s.modProg sc (fun p => { p with
        tried := match p.path with
          | some x => if p.tried.contains x then p.tried else p.tried ++ [x]
          | none => p.tried
        chain := p.chain.map (fun c => { c with cmdSent := true }) })
    | _ => s

/-- The port engine meets data it cannot trust: the frame does not go, and its program ends with INTEGRITY (R218). -/
def State.badOutput (s : State) (d : DPort) (g : Tag) (reason : Byte) (site : W32) : State :=
  match (tfind (s.port d).exch g.toNat).map (fun (e : Exch) => e.owner) with
  | some (.prog sc) => s.endIntegrity sc reason ((s.prog? sc).bind (·.here)) site
  | _ => s

/-- DATA leaves: it is kept until the unit's credit count covers it; at its first sending its bytes enter the digests (R202, R229, R265). -/
def State.sendData (s : State) (d : DPort) (i : TxItem) (e : Ecc) : State :=
  match i.tag with
  | none => s
  | some g =>
    let site := s.granuleSite (((i.srcs.head?.map s.runGranules).bind (·.head?)).getD (bufGranule 0))
    let e := withPoison e (i.srcs.any s.runPoison)
    let s := s.eccEvent site e
    if eccBad e then s.badOutput d g (eccReason e) site
    else
      let n := (s.port d).dUsed.toNat + 1
      let first := ((tfind (s.port d).exch g.toNat).map (fun (e : Exch) => e.txSent % 65536 == i.frame.seq.toNat)).getD false
      let s := (s.modPort d (fun p => { p with
        dUsed := p.dUsed + 1, lastCtrl := false, lastDataTx := s.clk.now, dataQ := p.dataQ.drop 1
        exch := tupd p.exch g.toNat (fun e => { e with
          kept := e.kept ++ [(n, i.frame, i.srcs)], txSent := if first then e.txSent + 1 else e.txSent
          inactAt := if e.accepted then some (s.clk.now + Config.secondTicks) else none }) })).sendFrame d i.frame
      match (tfind (s.port d).exch g.toNat).map (fun (e : Exch) => e.owner) with
      | some (.prog sc) =>
        let b := i.frame.payload
        let s := if first then (s.modProg sc (fun p => { p with
            digest := digest p.digest b, chain := p.chain.map (fun c => { c with sent := c.sent + b.length, egress := digest c.egress b }) })).book 9
              (4096 * d.val + g.toNat) b.length else s
        (s.pushOutput sc).chainOn sc
      | _ => s

/-- An ABORT, REFUSE or TIME leaves; the abort timer runs from the sending of ABORT (R273). -/
def State.sendControl (s : State) (d : DPort) (i : TxItem) : State :=
  let s := ((s.spendCtrl d).modPort d (fun p => { p with controls := p.controls.drop 1 })).sendFrame d i.frame
  match i.tag with
  | some g =>
    if i.frame.sub = 3 then s.modPort d (fun p => { p with
      quar := tupd p.quar g.toNat (fun q => { q with sent := true, expires := some (s.clk.now + Config.msTicks) }) })
    else s
  | none => s

/-- The head of the control-class queue can go: a credit is on hand, and COMMAND is not held back by a fence or the fog signal (R281, R288). -/
def State.ctrlReady (s : State) (d : DPort) : Option TxItem :=
  let p := s.port d
  if 0 < p.cHand && !p.muted && !s.foggy then p.ctrlQ.head? else none

/-- The head of the data-class queue can go; at half rate one DATA frame per 211 ticks (R267). -/
def State.dataReady (s : State) (d : DPort) : Option TxItem :=
  let p := s.port d
  if 0 < p.dHand && !p.muted && !s.foggy && (!p.throttle || decide (p.lastDataTx + 211 ≤ s.clk.now)) then p.dataQ.head? else none

/-- CREDIT frames of the same cycle are applied before a frame is chosen (R275). -/
def State.creditsWaiting (s : State) (d : DPort) : State :=
  ((s.waitingFrames d).filter (fun f => f.typ == 5)).foldl (fun s f => s.applyCredit d f) s

/-- TRANSMIT_FRAME_BOUNDARY (R283): RESEND, CREDIT, other control frames, then the two queues in turn. CREDIT does not pass a RESEND that waits for
a credit (R265). -/
def doTransmitFrameBoundary (d : DPort) (e : Ecc) (s0 : State) : State :=
  let s := s0.creditsWaiting d
  let p := s.port d
  if !p.txOn || !p.locked || p.refusedAt.isSome || s.side.pinsTaken then s
  else
    let hello := (s.modPort d (fun p => { p with helloDue := false })).sendFrame d (helloFrame p.fec)
    if !p.helloSeen then (if p.helloDue then hello else s)
    else
    let credit := decide (0 < p.cHand)
    match p.resends, credit with
    | i :: rest, true => ((s.spendCtrl d).modPort d (fun p => { p with resends := rest })).sendFrame d i.frame
    | resends, _ =>
      if p.creditDue && resends.isEmpty then
        let (s, f) := s.grantCredits d
        s.sendFrame d f
      else if p.helloDue then hello
      else
        match p.controls, credit with
        | i :: _, true => (s.sendControl d i).settle
        | _, _ =>
          if p.echoDue then s.sendFrame d (control 2)
          else
            match s.ctrlReady d, s.dataReady d with
            | some c, some x => (if p.lastCtrl then s.sendData d x e else s.sendCommand d c).settle
            | some c, none => (s.sendCommand d c).settle
            | none, some x => (s.sendData d x e).settle
            | none, none => s

/-! ### Meanings -/

def execBlockLock (p : DPort) (s : State) : Host.Outcome State Fault Refusal := .next (doBlockLock p s)
def execBlockLockLoss (p : DPort) (s : State) : Host.Outcome State Fault Refusal := .next (doBlockLockLoss p s)
def execHelloInterval (p : DPort) (s : State) : Host.Outcome State Fault Refusal := .next (doHelloInterval p s)
def execHelloRefusedRetry (p : DPort) (s : State) : Host.Outcome State Fault Refusal := .next (doHelloRefusedRetry p s)
def execEchoIdleTimer (p : DPort) (s : State) : Host.Outcome State Fault Refusal := .next (doEchoIdleTimer p s)
def execReceiveSilence (p : DPort) (s : State) : Host.Outcome State Fault Refusal := .next (doReceiveSilence p s)
def execCreditReturnTimer (p : DPort) (s : State) : Host.Outcome State Fault Refusal := .next (doCreditReturnTimer p s)
def execTransmitFrameBoundary (p : DPort) (e : Ecc) (s : State) : Host.Outcome State Fault Refusal := .next (doTransmitFrameBoundary p e s)
def execHello (p : DPort) (f : Frame) (s : State) : Host.Outcome State Fault Refusal := .next (doHello p f s)
def execEcho (p : DPort) (f : Frame) (s : State) : Host.Outcome State Fault Refusal := .next (doEcho p f s)
def execCredit (p : DPort) (f : Frame) (s : State) : Host.Outcome State Fault Refusal := .next (doCredit p f s)
def execData (p : DPort) (f : Frame) (s : State) : Host.Outcome State Fault Refusal := .next (doData p f s)
def execDataReq (p : DPort) (f : Frame) (s : State) : Host.Outcome State Fault Refusal := .next (doDataReq p f s)
def execStatus (p : DPort) (f : Frame) (s : State) : Host.Outcome State Fault Refusal := .next (doStatus p f s)
def execAbortAck (p : DPort) (f : Frame) (s : State) : Host.Outcome State Fault Refusal := .next (doAbortAck p f s)
def execResend (p : DPort) (f : Frame) (s : State) : Host.Outcome State Fault Refusal := .next (doResend p f s)
def execWorking (p : DPort) (f : Frame) (s : State) : Host.Outcome State Fault Refusal := .next (doWorking p f s)
def execFree (p : DPort) (f : Frame) (s : State) : Host.Outcome State Fault Refusal := .next (doFree p f s)
def execAbsentPathRetry (p : DPort) (addr : Byte) (s : State) : Host.Outcome State Fault Refusal := .next (doAbsentPathRetry p addr s)
def execCommandTimeout (p : DPort) (tag : Tag) (s : State) : Host.Outcome State Fault Refusal := .next (doCommandTimeout p tag s)
def execInactivityTimeout (p : DPort) (tag : Tag) (s : State) : Host.Outcome State Fault Refusal := .next (doInactivityTimeout p tag s)
def execMissingDataTimeout (p : DPort) (tag : Tag) (s : State) : Host.Outcome State Fault Refusal := .next (doMissingDataTimeout p tag s)
def execAbortTimeout (p : DPort) (tag : Tag) (s : State) : Host.Outcome State Fault Refusal := .next (doAbortTimeout p tag s)
def execFrameDiscarded (p : DPort) (f : Discarded) (s : State) : Host.Outcome State Fault Refusal :=
  .next (doFrameDiscarded p f s)

end Sys2Proof.Machine
end

