-- ==== Sys2Proof/Machine/Registers.lean ====
section
/-! DEFINITION. Machine/Registers.lean: the PF and VF windows (R53-R55, R366, R517), the rules of access (R56-R61, R70), access-error counters (R16,
R61) and Deferrable Memory Writes (R62-R64). -/

namespace Sys2Proof.Machine

open Sys2Proof

/-! ### What the registers read (R53-R55, R339, R366, R517) -/

/-- HIF_STATUS (R54). -/
def State.hifStatus (s : State) (p : HPort) : W32 :=
  let mode := match s.power.mode with
    | .run => 1
    | .idle => 2
    | .off => 0
    | .doze => 0
    | .hold => 0
  BitVec.ofNat 32 (mode + 16 * bnat s.list.loaded + 32 * bnat s.foggy + 64 * bnat s.clk.bridged +
    128 * bnat s.fw.image + 256 * bnat (s.host (otherHost p)).link + 65536 * s.portsUp)

/-- OQ_STAT (R366). -/
def State.oqStat (s : State) (p : HPort) : W32 :=
  let o := s.oq p
  BitVec.ofNat 32 (bnat o.active.isSome + 2 * bnat o.waitPrior + 256 * (((o.active.map (fun a => a.index % o.size)).getD 0) % 256) +
    65536 * ((o.tail - o.head) % 65536))

def msixWord (e : MsixEntry) (w : Nat) : W32 :=
  match w with
  | 0 => e.addr.setWidth 32
  | 1 => (e.addr >>> 32).setWidth 32
  | 2 => e.data
  | _ => BitVec.ofNat 32 (bnat e.masked)

def State.mbxWord (s : State) (p : HPort) (j : MbxNum) (r : Nat) : W32 :=
  let m := s.mbx (hostMbx p j)
  let head := m.fromT.head?
  if r < 0x40 then u32 (s.txPayload p j) r
  else if r = 0x44 then s.mbxStat (hostMbx p j)
  else if r = 0x48 then (head.map (fun (x : W32 × Bytes) => x.1)).getD 0
  else if 0x80 ≤ r && r < 0xC0 then u32 (padTo 64 ((head.map (fun (x : W32 × Bytes) => x.2)).getD [])) (r - 0x80)
  else 0

def mbxNo (off : Nat) : MbxNum := ⟨off / 0x100 % 16, by omega⟩
def qNo (off step : Nat) : QNum := ⟨off / step % 8, by omega⟩

/-- The 32-bit word at an aligned offset of the PF window, without the clearing of RC fields. -/
def State.pfWord (s : State) (p : HPort) (off : Nat) : W32 :=
  match off with
  | 0x00 => Config.hifId
  | 0x04 => s.fw.rel
  | 0x08 => s.hifStatus p
  | 0x10 => s.clk.hub.setWidth 32
  | 0x14 => (s.clk.hub >>> 32).setWidth 32
  | 0x18 => s.side.beacon
  | 0x1C => (s.fn (.pf p)).accerr
  | 0x10000 => (s.oq p).obase.setWidth 32
  | 0x10004 => ((s.oq p).obase >>> 32).setWidth 32
  | 0x10008 => (s.oq p).rbase.setWidth 32
  | 0x1000C => ((s.oq p).rbase >>> 32).setWidth 32
  | 0x10010 => BitVec.ofNat 32 (bnat (s.oq p).en + 256 * (s.oq p).dlog.toNat)
  | 0x10018 => s.oqStat p
  | 0x41000 => (s.fn (.pf p)).pba.setWidth 32
  | 0x41004 => ((s.fn (.pf p)).pba >>> 32).setWidth 32
  | _ =>
    if 0x20000 ≤ off && off < 0x21000 then s.mbxWord p (mbxNo off) (off % 0x100)
    else if 0x40000 ≤ off && off < 0x40400 then msixWord (tget {} (s.fn (.pf p)).msix ((off - 0x40000) / 16)) (off % 16 / 4)
    else 0

/-- The same of a VF window. -/
def State.vfWord (s : State) (t : Tenant) (off : Nat) : W32 :=
  match off with
  | 0x0 => t.setWidth 32
  | 0x4 => (s.fn (.vf t)).accerr
  | 0x9000 => s.fn (.vf t) |>.pba.setWidth 16 |>.setWidth 32
  | _ =>
    if 0x8000 ≤ off && off < 0x8100 then msixWord (tget {} (s.fn (.vf t)).msix ((off - 0x8000) / 16)) (off % 16 / 4)
    else 0

/-! ### Single writes -/

/-- Writes of the MSI-X table (R68, R70): address and data only while the vector is masked. -/
def State.msixWrite (s : State) (fn : Fn) (off v w : Nat) (x : W32) : State :=
  let e := tget {} (s.fn fn).msix v
  let put := fun (e : MsixEntry) => s.modFn fn (fun f => { f with msix := tset f.msix v e })
  if w = 3 then
    let s1 := put { e with masked := x.getLsbD 0 }
    let s1 := s1.noteReserved fn off (fieldOf x 31 1)
    if x.getLsbD 0 then s1 else s1.flushVector fn v
  else if !e.masked then s.accessError fn off .other
  else if w = 0 then put { e with addr := (e.addr >>> 32 <<< 32) ||| x.setWidth 64 }
  else if w = 1 then put { e with addr := (x.setWidth 64 <<< 32) ||| (e.addr.setWidth 32).setWidth 64 }
  else put { e with data := x }

/-- The 64-bit registers (R53, R55, R366). -/
def isWide (fn : Fn) (off : Nat) : Bool :=
  match fn with
  | .pf _ => off == 0x10 || off == 0x10000 || off == 0x10008 || off == 0x41000
  | .vf _ => off == 0x9000

/-- Byte-writable bytes of MBX_TXBUF (R57, R339). -/
def inTxbuf (fn : Fn) (off : Nat) : Bool :=
  match fn with
  | .pf _ => 0x20000 ≤ off && off < 0x21000 && off % 0x100 < 0x40
  | .vf _ => false

def inBuoy (fn : Fn) (off : Nat) : Bool :=
  match fn with
  | .pf _ => false
  | .vf _ => 0x2000 ≤ off && off < 0x2800

/-- The reserved bits of the registers that a write does not store (R53-R55, R340, R366, R517); the others log their own. -/
def roRsv (fn : Fn) (off : Nat) : W32 :=
  match fn with
  | .pf _ =>
    if off = 0 then 0xFF000000
    else if off = 8 then 0x0000FE00
    else if off = 0x10018 then 0x000000FC
    else if 0x20000 ≤ off && off < 0x21000 && off % 0x100 == 0x44 then 0xFFFFFC00
    else 0
  | .vf _ => if off = 0 then 0xFFFFF000 else 0

/-- A whole 32-bit register of the PF is written; RO and RC ones ignore it (R13), reserved bits and offsets log it (R14). -/
def State.pfWrite (s0 : State) (p : HPort) (off : Nat) (v : W32) : State :=
  let s := s0.noteReserved (.pf p) off (v &&& roRsv (.pf p) off).toNat
  if off < 0x20 then (if off = 0xC then s.accessError (.pf p) off .reservedOffset else s)
  else if off = 0x10010 then s.oqCtl p v
  else if off = 0x10014 then doOqDb p v s
  else if off = 0x10018 || off = 0x41000 || off = 0x41004 then s
  else if 0x20000 ≤ off && off < 0x21000 then
    let r := off % 0x100
    if r = 0x40 then doMbxSend p (mbxNo off) v s
    else if r = 0x4C then doMbxTake p (mbxNo off) v s
    else if r = 0x44 || r = 0x48 || (0x80 ≤ r && r < 0xC0) then s
    else s.accessError (.pf p) off .reservedOffset
  else if 0x40000 ≤ off && off < 0x40400 then s.msixWrite (.pf p) off ((off - 0x40000) / 16) (off % 16 / 4) v
  else s.accessError (.pf p) off .reservedOffset

/-- A whole 32-bit register of a VF is written. -/
def State.vfWrite (s0 : State) (t : Tenant) (off : Nat) (v : W32) : State :=
  let s := s0.noteReserved (.vf t) off (v &&& roRsv (.vf t) off).toNat
  if off < 8 || off = 0x9000 || off = 0x9004 then s
  else if 0x1000 ≤ off && off < 0x1040 && off % 8 = 0 then doSqDoorbell t (qNo off 8) v s
  else if 0x1100 ≤ off && off < 0x1140 && off % 8 = 0 then doCqDoorbell t (qNo off 8) v s
  else if 0x8000 ≤ off && off < 0x8100 then s.msixWrite (.vf t) off ((off - 0x8000) / 16) (off % 16 / 4) v
  else s.accessError (.vf t) off .reservedOffset

def State.regWrite (s : State) (fn : Fn) (off : Nat) (v : W32) : State :=
  match fn with
  | .pf p => s.pfWrite p off v
  | .vf t => s.vfWrite t off v

/-- A whole 64-bit register is written: the ring bases, while EN = 0 (R367). -/
def State.wideWrite (s : State) (fn : Fn) (off : Nat) (v : W64) : State :=
  match fn with
  | .vf _ => s
  | .pf p =>
    if off = 0x10000 || off = 0x10008 then
      if (s.oq p).en then s.accessError fn off .other
      else s.modOq p (fun o => if off = 0x10000 then { o with obase := v } else { o with rbase := v })
    else s

/-! ### Forms of access (R56, R57, R59) -/

def enabled (l : List (Option Byte)) : List Nat := (List.range l.length).filter (fun i => ((l[i]?).bind id).isSome)
def laneBytes (l : List (Option Byte)) : Bytes := l.map (fun x => x.getD 0)

/-- The enabled bytes are contiguous, 1, 2, 4 or 8 of them at a multiple of their number (R56). -/
def aligned (off : Nat) (l : List (Option Byte)) : Bool :=
  match enabled l with
  | [] => true
  | a :: rest =>
    let n := rest.length + 1
    (n = 1 || n = 2 || n = 4 || n = 8) && (a :: rest) == (List.range n).map (a + ·) && (off + a) % n == 0

/-- Offset of the first enabled byte. -/
def firstByte (off : Nat) (l : List (Option Byte)) : Nat := off + (enabled l).headD 0

/-- One DW (R56, R57): whole, in part of a byte-writable buffer, or ignored and logged. -/
def State.dwWrite (s : State) (fn : Fn) (off : Nat) (l : List (Option Byte)) : State :=
  let e := enabled l
  if e.isEmpty then s
  else if inBuoy fn off then s.accessError fn (firstByte off l) .buoy
  else if !aligned off l then s.accessError fn (firstByte off l) .misalignedWrite
  else if inTxbuf fn off then
    s.modHost (fnHost fn) (fun h => { h with
      txbuf := tmod [] h.txbuf (off / 0x100 % 16) (fun m => e.foldl (fun m i => Memory.write m (off % 0x100 + i) ((laneBytes l).getD i 0)) m) })
  else if e.length < 4 || isWide fn (off / 8 * 8) then s.accessError fn (firstByte off l) .partialWrite
  else s.regWrite fn off (u32 (laneBytes l) 0)

/-- Every DW of a write, ascending (R59). -/
def State.dwWrites (fn : Fn) : List (List (Option Byte)) → Nat → State → State
  | [], _, s => s
  | l :: rest, off, s => State.dwWrites fn rest (off + 4) (s.dwWrite fn off l)

/-- The lanes cut into DWs. -/
def cutDws : Nat → List (Option Byte) → List (List (Option Byte))
  | 0, _ => []
  | f + 1, l => if l.isEmpty then [] else (l.take 4 ++ List.replicate (4 - (l.take 4).length) none) :: cutDws f (l.drop 4)

/-- One access of at most 2 DW, or DW by DW (R56, R59). -/
def State.oneWrite (s : State) (fn : Fn) (off : Nat) (l : List (Option Byte)) : State :=
  let dws := cutDws (l.length + 1) l
  if dws.length = 2 && !aligned off l then s.accessError fn (firstByte off l) .misalignedWrite
  else if dws.length = 2 && l.all (·.isSome) && isWide fn off then s.wideWrite fn off (u64 (laneBytes l) 0)
  else State.dwWrites fn dws off s

/-- A memory write to a window in one TLP; a buoy window takes whole entries only, and a push that is not accepted ends the phase (R59, R115). -/
def State.memWrite (s : State) (fn : Fn) (off : Nat) (l : List (Option Byte)) : State :=
  match fn with
  | .vf t =>
    if inBuoy fn off then
      if l.length = 64 && l.all (·.isSome) && off % 64 == 0 then doBuoyPush t (qNo (off - 0x2000) 0x100) ⟨off / 64 % 4, by omega⟩ (laneBytes l) s
      else if (enabled l).isEmpty then s
      else (s.modSq t (qNo (off - 0x2000) 0x100) (fun k => { k with buoy := 0 })).accessError fn (firstByte off l) .buoy
    else s.oneWrite fn off l
  | .pf _ => s.oneWrite fn off l

/-- REGISTER_WRITE (R45-R61): memory requests to a function that does not answer are not logged (R60). A write is performed up to Max_Payload_Size: a
longer one is not (R59; DEDUCED, log 118). -/
def doRegisterWrite (w : WriteTarget) (s : State) : State :=
  match w with
  | .mem fn off l =>
    if !s.reachable fn then s
    else if (s.host (fnHost fn)).mps < l.length then s
    else (s.memWrite fn (off / 4 * 4) l).settle
  | .cfg fn c => if s.fnLive fn then s.cfgWrite fn c else s

/-! ### Reads with rows of their own (R16, R56, R60, R61) -/

/-- The lanes of a read, as those of a write of zeros. -/
def readLanes (lanes : List Bool) : List (Option Byte) := lanes.map (fun b => if b then some 0 else none)

/-- A read that is performed: of at most 2 DW and aligned, or of at most 16 DW with each DW's bytes aligned (R56, R59). -/
def readGood (off : Nat) (lanes : List Bool) : Bool :=
  let l := readLanes lanes
  if l.length ≤ 8 then aligned off l
  else l.length ≤ 64 && (cutDws (l.length + 1) l).all (aligned 0)

/-- The word at an aligned offset of a function's window, and the offset of its access-error counter (R53, R55). -/
def State.windowWord (s : State) (fn : Fn) (off : Nat) : W32 :=
  match fn with
  | .pf p => s.pfWord p off
  | .vf t => s.vfWord t off
def accerrOff : Fn → Nat
  | .pf _ => 0x1C
  | .vf _ => 4

/-- The bytes of the word at `at1` that lanes from `off` on enable. -/
def laneMask (at1 off : Nat) (lanes : List Bool) : W32 := ofBits 32 (fun i => off ≤ at1 + i / 8 && lanes.getD (at1 + i / 8 - off) false)

/-- The bytes that a read returns: those enabled, ascending (R56, R59). -/
def State.readBytes (s : State) (fn : Fn) (off : Nat) (lanes : List Bool) : Bytes :=
  ((List.range lanes.length).filter (fun i => lanes.getD i false)).map (fun i => byteAt (le 4 (s.windowWord fn ((off + i) / 4 * 4)).toNat) ((off + i) % 4))

/-- A read of a window: it returns the bytes enabled, and clears those of the access-error counter among them (R16); a request to a function that does
not answer, a misaligned read and one of more than 16 DW change nothing (R56, R59, R60). -/
def State.windowRead (s : State) (fn : Fn) (off : Nat) (lanes : List Bool) : State :=
  if !s.reachable fn then s.complete fn (.unsupported fn)
  else if !readGood off lanes then s.sayAbort fn
  else
    (s.modFn fn (fun f => { f with accerr := f.accerr &&& ~~~laneMask (accerrOff fn) off lanes })).complete fn (.readReturn fn (s.readBytes fn off lanes))

/-- MISALIGNED_READ, HIF_ACCERR_READ, VF_ACCERR_READ: one read of the window of a function (R16, R56, R59-R61). -/
def doMisalignedRead (fn : Fn) (off : Nat) (lanes : List Bool) (s : State) : State := s.windowRead fn (off / 4 * 4) lanes
def doHifAccerrRead (p : HPort) (r : WindowRead) (s : State) : State := s.windowRead (.pf p) (r.off / 4 * 4) r.lanes
def doVfAccerrRead (t : Tenant) (r : WindowRead) (s : State) : State := s.windowRead (.vf t) (r.off / 4 * 4) r.lanes

/-! ### Deferrable Memory Write (R62, R63) -/

/-- DMWR_MBX_SEND: performed at MBX_SEND of a PF alone. -/
def doDmwrMbxSend (fn : Fn) (off : Nat) (payload : List W32) (s : State) : State :=
  match fn with
  | .vf _ => if s.reachable fn then s.sayUnsupported fn else s.complete fn (.unsupported fn)
  | .pf p =>
    if !s.reachable fn then s.complete fn (.unsupported fn)
    else if !(0x20000 ≤ off && off < 0x21000 && off % 0x100 == 0x40) then s.sayUnsupported fn
    else
      match payload with
      | [h] =>
        let j := mbxNo off
        if s.mbxTakes p j h then
          let s := s.commitTo (hostMbx p j) h (s.txPayload p j)
          let s := if h.getLsbD 15 then (s.accessError fn off .reservedBit).settle else s
          s.complete fn (.success fn)
        else s.sayAbort fn
      | _ => s.sayAbort fn

/-! ### Meanings -/

def execRegisterWrite (w : WriteTarget) (s : State) : Host.Outcome State Fault Refusal := .next (doRegisterWrite w s)
def execMisalignedRead (fn : Fn) (off : Nat) (lanes : List Bool) (s : State) : Host.Outcome State Fault Refusal := .next (doMisalignedRead fn off lanes s)
def execHifAccerrRead (p : HPort) (r : WindowRead) (s : State) : Host.Outcome State Fault Refusal :=
  .next (doHifAccerrRead p r s)
def execVfAccerrRead (t : Tenant) (r : WindowRead) (s : State) : Host.Outcome State Fault Refusal :=
  .next (doVfAccerrRead t r s)
def execDmwrMbxSend (fn : Fn) (off : Nat) (payload : List W32) (s : State) : Host.Outcome State Fault Refusal :=
  .next (doDmwrMbxSend fn off payload s)

end Sys2Proof.Machine
end

