-- ==== Sys2Proof/Machine/Timeouts.lean ====
section
/-! DEFINITION. Machine/Timeouts.lean: the completion timeout of DMA reads (R46, R65). -/

namespace Sys2Proof.Machine

open Sys2Proof

/-- The oldest read of a key on a host port is past its deadline. -/
def State.timedOut (s : State) (p : HPort) (key : ReadKey) : Bool :=
  match (s.host p).reads.find? (fun r => r.key == key) with
  | some r => decide (r.deadline ≤ s.clk.now)
  | none => false

/-- The outcome of R65 for a read that has failed. -/
def State.readTimeout (s : State) (p : HPort) (key : ReadKey) : State :=
  match key with
  | .entry t q => doEntryFetchComplete t q .failed [] s
  | .group sc addr => doStepGroupReadComplete sc addr .failed s
  | .segments sc => doSegmentListReadComplete sc .failed s
  | .columnMap sc => doColumnMapReadComplete sc .failed s
  | .output sc => doOutputReadComplete sc .failed s
  | .readback sc => doReadbackComplete sc .failed 0 s
  | .orderSlot p => s.landSlots p .failed
  | .lightList p => s.listRead p [] false
  | .image _ => doFlashOperationComplete (.imageRead .failed) s
  | .faultLog _ => s.endRead p key

/-- COMPLETION_TIMEOUT (R46). -/
def doCompletionTimeout (p : HPort) (key : ReadKey) (s : State) : State := if s.timedOut p key then (s.aerNote (s.keyFn p key) 14).readTimeout p key else s

/-! ### Meanings -/

def execCompletionTimeout (p : HPort) (key : ReadKey) (s : State) : Host.Outcome State Fault Refusal := .next (doCompletionTimeout p key s)

end Sys2Proof.Machine
end

