-- ==== Sys2Proof/Machine/Dispatch.lean ====
section
/-! DEFINITION. Machine/Dispatch.lean: one arm per command, each one direct call of the command's own meaning. -/

namespace Sys2Proof.Machine

open Sys2Proof

/-- The effect of a command on everything but the queue. -/
def exec (i : Instr) (s : State) : Host.Outcome State Fault Refusal :=
  match i with
  | .vfFlr t => Sys2Proof.Machine.execVfFlr t s
  | .flrDrainExpiry t => Sys2Proof.Machine.execFlrDrainExpiry t s
  | .pfFlr p => Sys2Proof.Machine.execPfFlr p s
  | .perstAssert p => Sys2Proof.Machine.execPerstAssert p s
  | .perstRelease p => Sys2Proof.Machine.execPerstRelease p s
  | .registerWrite w => Sys2Proof.Machine.execRegisterWrite w s
  | .misalignedRead fn off lanes => Sys2Proof.Machine.execMisalignedRead fn off lanes s
  | .hifAccerrRead p r => Sys2Proof.Machine.execHifAccerrRead p r s
  | .vfAccerrRead t r => Sys2Proof.Machine.execVfAccerrRead t r s
  | .dmwrMbxSend fn off payload => Sys2Proof.Machine.execDmwrMbxSend fn off payload s
  | .mbxSend p j header => Sys2Proof.Machine.execMbxSend p j header s
  | .mbxTake p j value => Sys2Proof.Machine.execMbxTake p j value s
  | .msixUnmask fn which => Sys2Proof.Machine.execMsixUnmask fn which s
  | .msixEnableSet fn => Sys2Proof.Machine.execMsixEnableSet fn s
  | .enterD3hot fn => Sys2Proof.Machine.execEnterD3hot fn s
  | .returnToD0 fn => Sys2Proof.Machine.execReturnToD0 fn s
  | .l1Entry p => Sys2Proof.Machine.execL1Entry p s
  | .busMasterEnableSet p => Sys2Proof.Machine.execBusMasterEnableSet p s
  | .vfEnableClear p => Sys2Proof.Machine.execVfEnableClear p s
  | .completionTimeout p key => Sys2Proof.Machine.execCompletionTimeout p key s
  | .sqDoorbell t q value => Sys2Proof.Machine.execSqDoorbell t q value s
  | .cqDoorbell t q value => Sys2Proof.Machine.execCqDoorbell t q value s
  | .buoyPush t q slot entry => Sys2Proof.Machine.execBuoyPush t q slot entry s
  | .queueArbitration => Sys2Proof.Machine.execQueueArbitration s
  | .entryFetchComplete t q r es => Sys2Proof.Machine.execEntryFetchComplete t q r es s
  | .markReread t q => Sys2Proof.Machine.execMarkReread t q s
  | .markWaitTimeout t q => Sys2Proof.Machine.execMarkWaitTimeout t q s
  | .startBegin sc e => Sys2Proof.Machine.execStartBegin sc e s
  | .pathWaitEnd sc => Sys2Proof.Machine.execPathWaitEnd sc s
  | .pathWaitTimeout sc => Sys2Proof.Machine.execPathWaitTimeout sc s
  | .startSlotGranted p => Sys2Proof.Machine.execStartSlotGranted p s
  | .readStep sc e => Sys2Proof.Machine.execReadStep sc e s
  | .writeStep sc e => Sys2Proof.Machine.execWriteStep sc e s
  | .senseStep sc e => Sys2Proof.Machine.execSenseStep sc e s
  | .controlStep sc e => Sys2Proof.Machine.execControlStep sc e s
  | .continuationStep sc e => Sys2Proof.Machine.execContinuationStep sc e s
  | .test sc e => Sys2Proof.Machine.execTest sc e s
  | .go sc e => Sys2Proof.Machine.execGo sc e s
  | .waitToken sc e => Sys2Proof.Machine.execWaitToken sc e s
  | .postToken sc e => Sys2Proof.Machine.execPostToken sc e s
  | .markTime sc e => Sys2Proof.Machine.execMarkTime sc e s
  | .nop sc e => Sys2Proof.Machine.execNop sc e s
  | .holdStepReached sc => Sys2Proof.Machine.execHoldStepReached sc s
  | .holdReportSlotFreed sc => Sys2Proof.Machine.execHoldReportSlotFreed sc s
  | .waiterResume sc => Sys2Proof.Machine.execWaiterResume sc s
  | .stepGroupReadComplete sc addr r => Sys2Proof.Machine.execStepGroupReadComplete sc addr r s
  | .segmentListReadComplete sc r => Sys2Proof.Machine.execSegmentListReadComplete sc r s
  | .columnMapReadComplete sc r => Sys2Proof.Machine.execColumnMapReadComplete sc r s
  | .outputReadComplete sc r => Sys2Proof.Machine.execOutputReadComplete sc r s
  | .busyRetryTimer sc => Sys2Proof.Machine.execBusyRetryTimer sc s
  | .quietTimeout t => Sys2Proof.Machine.execQuietTimeout t s
  | .readbackComplete sc r hashMisses => Sys2Proof.Machine.execReadbackComplete sc r hashMisses s
  | .completionWriteSlotFreed t q => Sys2Proof.Machine.execCompletionWriteSlotFreed t q s
  | .journalAreaRoom p => Sys2Proof.Machine.execJournalAreaRoom p s
  | .moderationExpiry t q => Sys2Proof.Machine.execModerationExpiry t q s
  | .moverDescriptorBegin m e => Sys2Proof.Machine.execMoverDescriptorBegin m e s
  | .moverDescriptorComplete m => Sys2Proof.Machine.execMoverDescriptorComplete m s
  | .columnizerEngineGranted d => Sys2Proof.Machine.execColumnizerEngineGranted d s
  | .scrubGranule g e => Sys2Proof.Machine.execScrubGranule g e s
  | .sramPatrol site e => Sys2Proof.Machine.execSramPatrol site e s
  | .smallBudgetWindow w => Sys2Proof.Machine.execSmallBudgetWindow w s
  | .imbalanceWindow counts => Sys2Proof.Machine.execImbalanceWindow counts s
  | .cageWaveStart c => Sys2Proof.Machine.execCageWaveStart c s
  | .moduleReady c => Sys2Proof.Machine.execModuleReady c s
  | .cageReadyTimeout c => Sys2Proof.Machine.execCageReadyTimeout c s
  | .cageRecheck c => Sys2Proof.Machine.execCageRecheck c s
  | .moduleInserted c => Sys2Proof.Machine.execModuleInserted c s
  | .moduleRemoved c => Sys2Proof.Machine.execModuleRemoved c s
  | .cageIntl c reading => Sys2Proof.Machine.execCageIntl c reading s
  | .cmisMonitorPoll c temp rx => Sys2Proof.Machine.execCmisMonitorPoll c temp rx s
  | .cageSwitchTrip c => Sys2Proof.Machine.execCageSwitchTrip c s
  | .blockLock p => Sys2Proof.Machine.execBlockLock p s
  | .blockLockLoss p => Sys2Proof.Machine.execBlockLockLoss p s
  | .helloInterval p => Sys2Proof.Machine.execHelloInterval p s
  | .helloRefusedRetry p => Sys2Proof.Machine.execHelloRefusedRetry p s
  | .echoIdleTimer p => Sys2Proof.Machine.execEchoIdleTimer p s
  | .receiveSilence p => Sys2Proof.Machine.execReceiveSilence p s
  | .creditReturnTimer p => Sys2Proof.Machine.execCreditReturnTimer p s
  | .transmitFrameBoundary p e => Sys2Proof.Machine.execTransmitFrameBoundary p e s
  | .hello p f => Sys2Proof.Machine.execHello p f s
  | .echo p f => Sys2Proof.Machine.execEcho p f s
  | .credit p f => Sys2Proof.Machine.execCredit p f s
  | .data p f => Sys2Proof.Machine.execData p f s
  | .dataReq p f => Sys2Proof.Machine.execDataReq p f s
  | .status p f => Sys2Proof.Machine.execStatus p f s
  | .abortAck p f => Sys2Proof.Machine.execAbortAck p f s
  | .resend p f => Sys2Proof.Machine.execResend p f s
  | .working p f => Sys2Proof.Machine.execWorking p f s
  | .free p f => Sys2Proof.Machine.execFree p f s
  | .absentPathRetry p addr => Sys2Proof.Machine.execAbsentPathRetry p addr s
  | .commandTimeout p tag => Sys2Proof.Machine.execCommandTimeout p tag s
  | .inactivityTimeout p tag => Sys2Proof.Machine.execInactivityTimeout p tag s
  | .missingDataTimeout p tag => Sys2Proof.Machine.execMissingDataTimeout p tag s
  | .abortTimeout p tag => Sys2Proof.Machine.execAbortTimeout p tag s
  | .domainDrainExpiry n => Sys2Proof.Machine.execDomainDrainExpiry n s
  | .domainSwitchComplete n => Sys2Proof.Machine.execDomainSwitchComplete n s
  | .sysNop c => Sys2Proof.Machine.execSysNop c s
  | .rett c => Sys2Proof.Machine.execRett c s
  | .trap c n => Sys2Proof.Machine.execTrap c n s
  | .ei c => Sys2Proof.Machine.execEi c s
  | .di c => Sys2Proof.Machine.execDi c s
  | .waite c => Sys2Proof.Machine.execWaite c s
  | .sync c => Sys2Proof.Machine.execSync c s
  | .pfx c imm9 => Sys2Proof.Machine.execPfx c imm9 s
  | .movi c ra imm5 => Sys2Proof.Machine.execMovi c ra imm5 s
  | .addi c ra imm5 => Sys2Proof.Machine.execAddi c ra imm5 s
  | .add c ra rb => Sys2Proof.Machine.execAdd c ra rb s
  | .sub c ra rb => Sys2Proof.Machine.execSub c ra rb s
  | .and c ra rb => Sys2Proof.Machine.execAnd c ra rb s
  | .or c ra rb => Sys2Proof.Machine.execOr c ra rb s
  | .xor c ra rb => Sys2Proof.Machine.execXor c ra rb s
  | .andn c ra rb => Sys2Proof.Machine.execAndn c ra rb s
  | .shl c ra rb => Sys2Proof.Machine.execShl c ra rb s
  | .shr c ra rb => Sys2Proof.Machine.execShr c ra rb s
  | .sar c ra rb => Sys2Proof.Machine.execSar c ra rb s
  | .ror c ra rb => Sys2Proof.Machine.execRor c ra rb s
  | .shli c ra n => Sys2Proof.Machine.execShli c ra n s
  | .shri c ra n => Sys2Proof.Machine.execShri c ra n s
  | .cmp c ra rb => Sys2Proof.Machine.execCmp c ra rb s
  | .tst c ra rb => Sys2Proof.Machine.execTst c ra rb s
  | .cmpi c ra imm5 => Sys2Proof.Machine.execCmpi c ra imm5 s
  | .mov c ra rb => Sys2Proof.Machine.execMov c ra rb s
  | .neg c ra rb => Sys2Proof.Machine.execNeg c ra rb s
  | .parw c ra rb => Sys2Proof.Machine.execParw c ra rb s
  | .brev c ra rb => Sys2Proof.Machine.execBrev c ra rb s
  | .mul c ra rb => Sys2Proof.Machine.execMul c ra rb s
  | .muls c ra rb => Sys2Proof.Machine.execMuls c ra rb s
  | .mulProductWrite c => Sys2Proof.Machine.execMulProductWrite c s
  | .ldw c ra rb => Sys2Proof.Machine.execLdw c ra rb s
  | .ldb c ra rb => Sys2Proof.Machine.execLdb c ra rb s
  | .ldh c ra rb => Sys2Proof.Machine.execLdh c ra rb s
  | .stw c ra rb => Sys2Proof.Machine.execStw c ra rb s
  | .stb c ra rb => Sys2Proof.Machine.execStb c ra rb s
  | .sth c ra rb => Sys2Proof.Machine.execSth c ra rb s
  | .rds c ra n => Sys2Proof.Machine.execRds c ra n s
  | .wrs c ra n => Sys2Proof.Machine.execWrs c ra n s
  | .b c cond off6 => Sys2Proof.Machine.execB c cond off6 s
  | .call c off9 => Sys2Proof.Machine.execCall c off9 s
  | .jalr c ra rb => Sys2Proof.Machine.execJalr c ra rb s
  | .crcb c ra rb => Sys2Proof.Machine.execCrcb c ra rb s
  | .crcw c ra rb => Sys2Proof.Machine.execCrcw c ra rb s
  | .evtClaim c ra => Sys2Proof.Machine.execEvtClaim c ra s
  | .evtDone c ra => Sys2Proof.Machine.execEvtDone c ra s
  | .msend c ra => Sys2Proof.Machine.execMsend c ra s
  | .mrecv c ra => Sys2Proof.Machine.execMrecv c ra s
  | .mstat c ra => Sys2Proof.Machine.execMstat c ra s
  | .ior c ra rb => Sys2Proof.Machine.execIor c ra rb s
  | .iow c ra rb => Sys2Proof.Machine.execIow c ra rb s
  | .eventEntry c => Sys2Proof.Machine.execEventEntry c s
  | .watchdogExpiry c => Sys2Proof.Machine.execWatchdogExpiry c s
  | .lockstepSignature c stages checker => Sys2Proof.Machine.execLockstepSignature c stages checker s
  | .pairFailure c cause => Sys2Proof.Machine.execPairFailure c cause s
  | .pairSelftestComplete c pass => Sys2Proof.Machine.execPairSelftestComplete c pass s
  | .tenderRestart pass => Sys2Proof.Machine.execTenderRestart pass s
  | .tenderRestartComplete => Sys2Proof.Machine.execTenderRestartComplete s
  | .sourceFire u n => Sys2Proof.Machine.execSourceFire u n s
  | .externalLineEdge n level => Sys2Proof.Machine.execExternalLineEdge n level s
  | .setPending u n => Sys2Proof.Machine.execSetPending u n s
  | .clearPending u n => Sys2Proof.Machine.execClearPending u n s
  | .mask u n => Sys2Proof.Machine.execMask u n s
  | .unmask u n => Sys2Proof.Machine.execUnmask u n s
  | .maskAndClearPending u n => Sys2Proof.Machine.execMaskAndClearPending u n s
  | .evuTgtWrite u n value => Sys2Proof.Machine.execEvuTgtWrite u n value s
  | .tmrCntCommit k ch value => Sys2Proof.Machine.execTmrCntCommit k ch value s
  | .tmrCmpCommit k ch value => Sys2Proof.Machine.execTmrCmpCommit k ch value s
  | .tmrIvlCommit k ch value => Sys2Proof.Machine.execTmrIvlCommit k ch value s
  | .tmrDivWrite k ch value => Sys2Proof.Machine.execTmrDivWrite k ch value s
  | .timerMatch k ch => Sys2Proof.Machine.execTimerMatch k ch s
  | .timerCatchup k ch => Sys2Proof.Machine.execTimerCatchup k ch s
  | .timerCapture k ch => Sys2Proof.Machine.execTimerCapture k ch s
  | .timerSlaveReset k ch => Sys2Proof.Machine.execTimerSlaveReset k ch s
  | .oqDb p value => Sys2Proof.Machine.execOqDb p value s
  | .oqEnable p value => Sys2Proof.Machine.execOqEnable p value s
  | .oqDisable p value => Sys2Proof.Machine.execOqDisable p value s
  | .orderFetchComplete p r => Sys2Proof.Machine.execOrderFetchComplete p r s
  | .orderMarkReread p => Sys2Proof.Machine.execOrderMarkReread p s
  | .identify p => Sys2Proof.Machine.execIdentify p s
  | .loadLightList p => Sys2Proof.Machine.execLoadLightList p s
  | .lightListReadComplete p got whole => Sys2Proof.Machine.execLightListReadComplete p got whole s
  | .bindTenant p => Sys2Proof.Machine.execBindTenant p s
  | .unbindTenantGentle p => Sys2Proof.Machine.execUnbindTenantGentle p s
  | .unbindTenantForce p => Sys2Proof.Machine.execUnbindTenantForce p s
  | .createQueueSq p => Sys2Proof.Machine.execCreateQueueSq p s
  | .createQueueCq p => Sys2Proof.Machine.execCreateQueueCq p s
  | .resetQueue p => Sys2Proof.Machine.execResetQueue p s
  | .setQueuePriority p => Sys2Proof.Machine.execSetQueuePriority p s
  | .releaseHold p => Sys2Proof.Machine.execReleaseHold p s
  | .portEnable p => Sys2Proof.Machine.execPortEnable p s
  | .portFence p => Sys2Proof.Machine.execPortFence p s
  | .pathGroupEdit p => Sys2Proof.Machine.execPathGroupEdit p s
  | .domainPowerOn p => Sys2Proof.Machine.execDomainPowerOn p s
  | .domainPowerOff p => Sys2Proof.Machine.execDomainPowerOff p s
  | .enterSleepDoze p => Sys2Proof.Machine.execEnterSleepDoze p s
  | .enterSleepHold p => Sys2Proof.Machine.execEnterSleepHold p s
  | .sleepCommitEdge wakeLow sense0Low => Sys2Proof.Machine.execSleepCommitEdge wakeLow sense0Low s
  | .timebaseFreeze => Sys2Proof.Machine.execTimebaseFreeze s
  | .setSupplyPolicy p => Sys2Proof.Machine.execSetSupplyPolicy p s
  | .powerLimitThrottle power => Sys2Proof.Machine.execPowerLimitThrottle power s
  | .startSelfTest p => Sys2Proof.Machine.execStartSelfTest p s
  | .selfTestComplete subject mbist sigs => Sys2Proof.Machine.execSelfTestComplete subject mbist sigs s
  | .rotatingTestStart u => Sys2Proof.Machine.execRotatingTestStart u s
  | .readSignature p => Sys2Proof.Machine.execReadSignature p s
  | .setFaultWindow p => Sys2Proof.Machine.execSetFaultWindow p s
  | .readFaultLog p readback => Sys2Proof.Machine.execReadFaultLog p readback s
  | .retireSite p => Sys2Proof.Machine.execRetireSite p s
  | .stageFirmware p => Sys2Proof.Machine.execStageFirmware p s
  | .flashOperationComplete r => Sys2Proof.Machine.execFlashOperationComplete r s
  | .activateFirmwareHitless p => Sys2Proof.Machine.execActivateFirmwareHitless p s
  | .activateFirmwareAtReset p => Sys2Proof.Machine.execActivateFirmwareAtReset p s
  | .setTime p => Sys2Proof.Machine.execSetTime p s
  | .readTimeBridge p => Sys2Proof.Machine.execReadTimeBridge p s
  | .tokenCreate p => Sys2Proof.Machine.execTokenCreate p s
  | .tokenDestroy p => Sys2Proof.Machine.execTokenDestroy p s
  | .tokenRead p => Sys2Proof.Machine.execTokenRead p s
  | .nopEcho p => Sys2Proof.Machine.execNopEcho p s
  | .balanceRound agree => Sys2Proof.Machine.execBalanceRound agree s
  | .fogSignal supply => Sys2Proof.Machine.execFogSignal supply s
  | .fogClear supply => Sys2Proof.Machine.execFogClear supply s
  | .moduleReset supply => Sys2Proof.Machine.execModuleReset supply s
  | .keeperReset => Sys2Proof.Machine.execKeeperReset s
  | .overVoltage supply => Sys2Proof.Machine.execOverVoltage supply s
  | .rootPllLockLoss => Sys2Proof.Machine.execRootPllLockLoss s
  | .powerGood supply => Sys2Proof.Machine.execPowerGood supply s
  | .railRetry good => Sys2Proof.Machine.execRailRetry good s
  | .hubCoreRelease mbistPass => Sys2Proof.Machine.execHubCoreRelease mbistPass s
  | .carrierLinkTrained d dieAnswers => Sys2Proof.Machine.execCarrierLinkTrained d dieAnswers s
  | .tenderBoot => Sys2Proof.Machine.execTenderBoot s
  | .bootTimerExpiry => Sys2Proof.Machine.execBootTimerExpiry s
  | .hbmTrained trained => Sys2Proof.Machine.execHbmTrained trained s
  | .moduleReadyForOrders => Sys2Proof.Machine.execModuleReadyForOrders s
  | .idleEntry => Sys2Proof.Machine.execIdleEntry s
  | .wakeFromDoze source => Sys2Proof.Machine.execWakeFromDoze source s
  | .wakeFromHold source => Sys2Proof.Machine.execWakeFromHold source s
  | .pllLock => Sys2Proof.Machine.execPllLock s
  | .timebaseBridge => Sys2Proof.Machine.execTimebaseBridge s
  | .wakeDriveTimeout => Sys2Proof.Machine.execWakeDriveTimeout s
  | .inletWarnCrossed sensorA sensorB => Sys2Proof.Machine.execInletWarnCrossed sensorA sensorB s
  | .inletThrottle sensorA sensorB => Sys2Proof.Machine.execInletThrottle sensorA sensorB s
  | .inletThrottleRelease sensorA sensorB => Sys2Proof.Machine.execInletThrottleRelease sensorA sensorB s
  | .inletSensorDisagree sensorA sensorB => Sys2Proof.Machine.execInletSensorDisagree sensorA sensorB s
  | .dieOverTemperature die temp => Sys2Proof.Machine.execDieOverTemperature die temp s
  | .dieTemperatureRelease die temp => Sys2Proof.Machine.execDieTemperatureRelease die temp s
  | .smbusResetArm pecGood => Sys2Proof.Machine.execSmbusResetArm pecGood s
  | .smbusResetConfirm pecGood => Sys2Proof.Machine.execSmbusResetConfirm pecGood s
  | .smbusResetArmTimeout => Sys2Proof.Machine.execSmbusResetArmTimeout s
  | .smbusReadMode => Sys2Proof.Machine.execSmbusReadMode s
  | .smbusReadVoltage => Sys2Proof.Machine.execSmbusReadVoltage s
  | .smbusReadPower => Sys2Proof.Machine.execSmbusReadPower s
  | .smbusReadInlet => Sys2Proof.Machine.execSmbusReadInlet s
  | .smbusReadDieTemp => Sys2Proof.Machine.execSmbusReadDieTemp s
  | .smbusReadBeacon => Sys2Proof.Machine.execSmbusReadBeacon s
  | .bypass => Sys2Proof.Machine.execBypass s
  | .idcode => Sys2Proof.Machine.execIdcode s
  | .samplePreload => Sys2Proof.Machine.execSamplePreload s
  | .extest => Sys2Proof.Machine.execExtest s
  | .clamp => Sys2Proof.Machine.execClamp s
  | .highz => Sys2Proof.Machine.execHighz s
  | .extestPulse => Sys2Proof.Machine.execExtestPulse s
  | .extestTrain => Sys2Proof.Machine.execExtestTrain s
  | .testLogicReset => Sys2Proof.Machine.execTestLogicReset s
  | .hostLinkDown p => Sys2Proof.Machine.execHostLinkDown p s
  | .hostLinkUp p rate width => Sys2Proof.Machine.execHostLinkUp p rate width s
  | .busMasterEnableClear p => Sys2Proof.Machine.execBusMasterEnableClear p s
  | .vfEnableSet p => Sys2Proof.Machine.execVfEnableSet p s
  | .frameDiscarded p f => Sys2Proof.Machine.execFrameDiscarded p f s
  | .moduleInLowPowerMode c ident media power => Sys2Proof.Machine.execModuleInLowPowerMode c ident media power s
  | .carrierLinkFault d => Sys2Proof.Machine.execCarrierLinkFault d s
  | .reservedEncoding c word => Sys2Proof.Machine.execReservedEncoding c word s
  | .reservedControlOperation sc e => Sys2Proof.Machine.execReservedControlOperation sc e s
  | .reservedOrderOpcode p => Sys2Proof.Machine.execReservedOrderOpcode p s
  | .portEnableTimeout p => Sys2Proof.Machine.execPortEnableTimeout p s
  | .unbindDrainExpiry t => Sys2Proof.Machine.execUnbindDrainExpiry t s
  | .rotatingTestPutOff u => Sys2Proof.Machine.execRotatingTestPutOff u s
  | .smbusResetCancel value pecGood => Sys2Proof.Machine.execSmbusResetCancel value pecGood s

end Sys2Proof.Machine
end

