-- ==== Sys2Proof/Machine/Tick.lean ====
section
/-! DEFINITION. Machine/Tick.lean: what one CLK_P period does (R33, R36, R53, R348, R449, R450; log 12). -/

namespace Sys2Proof.Machine

open Sys2Proof

/-- The keeper counts a keeper tick every 156,250,000 / 32,768 periods (R450, R451). -/
def Keeper.tick (k : Keeper) : Keeper :=
  let a := k.acc + Config.keeperHz
  if Config.ticksPerSecond ≤ a then { k with acc := a - Config.ticksPerSecond, counter := k.counter + 1 } else { k with acc := a }

/-- Pairs that wait in WAITE count their cycles: five CLK_L cycles in two CLK_P periods (R35, R306). -/
def State.idlePairs (s : State) : State :=
  let n := 2 + s.clk.now % 2
  s.onCores (fun c => { c with pairs := c.pairs.map (fun (x : Nat × Pair) => if x.2.running && x.2.waiting then (x.1, x.2.spend n) else x) })

/-- HIF_BEACON and PF vector 2 once a second, while the Tender runs and the safe state does not hold (R53, R411, R412); the Tender then tests its EARLY
flag (R315). -/
def State.beat (s : State) : State :=
  if s.clk.now % Config.ticksPerSecond = 0 && s.cores.tenderUp && !s.safe then
    ((s.onSide (fun x => { x with beacon := x.beacon + 1 })).pfVector 2).findEarly 40
  else s

/-- Codewords that the RS-FEC of the lanes corrected, or could not correct, in a period (R251, R289). -/
def Port.countFec (p : Port) (n : Nat × Nat) : Port :=
  if p.fec && p.locked then { p with fecCorr := satAdd p.fecCorr n.1, fecUnc := satAdd p.fecUnc n.2 } else p
def State.countFec (s : State) : State :=
  s.onPorts (fun t => { t with ports := t.ports.map (fun x => (x.1, x.2.countFec (Config.fecCodewords x.1 s.clk.now))) })

/-- One CLK_P period: the keeper always counts; the timebase, the timer banks and the cores only while the dividers run. -/
def tick (s0 : State) : State :=
  let s := (s0.onClk (fun c => { c with now := c.now + 1 })).onKeeper Keeper.tick
  if s.clk.running then
    let s := s.onClk (fun c => { c with hub := c.hub + 1, dies := c.dies.map (fun (d : Nat × W64) => (d.1, d.2 + 1)) })
    (((List.finRange 5).foldl (fun s k => s.bankEdge k) s.sampleLines).idlePairs).countFec.beat
  else s

end Sys2Proof.Machine
end

