-- ==== Sys2Proof/WellFormed.lean ====
section
/-! DEFINITION. WellFormed.lean: the operands that a command of the world outside can carry: lengths and ranges that no type of
Syntax.lean states. A meaning is total: it gives every operand an outcome, these included. -/

namespace Sys2Proof

/-- The memory window of a function in bytes (R53, R55). -/
def windowSize : Fn → Nat
  | .pf _ => 16777216
  | .vf _ => 65536

/-- A frame as its header can spell it: BODY of 12 bytes (R253), a payload of at most 2,048 bytes (R252). -/
def Frame.wf (f : Frame) : Bool := f.body.length == 12 && f.payload.length ≤ 2048

/-- Bytes that a read returned: `n` of them. -/
def Dma.wf (n : Nat) : Dma → Bool
  | .ok b => b.length == n
  | _ => true

/-- A memory write: at an offset that is a multiple of 4, whole 32-bit words, within the window (R56); NumVFs at most 2,048 (R48). -/
def WriteTarget.wf : WriteTarget → Bool
  | .mem fn off lanes => off % 4 == 0 && lanes.length % 4 == 0 && lanes != [] && off + lanes.length ≤ windowSize fn
  | .cfg _ (.numVfs n) => n ≤ 2048
  | .cfg _ (.maxPayload n) => [128, 256, 512].contains n
  | .cfg _ (.maxReadRequest n) => [128, 256, 512, 1024, 2048, 4096].contains n
  | .cfg _ _ => true

/-- The unit of a rotating test is one that exists (R481): Lamp pairs are 0-39. -/
def RotUnit.wf : RotUnit → Bool
  | .lampPair c => c.val < 40
  | _ => true

/-- The vectors of a function (R66, R67). -/
def vectorCount : Fn → Nat
  | .pf _ => 64
  | .vf _ => 16

/-- A command that the world outside can give. -/
def Instr.wf : Instr → Bool
  | .registerWrite w => w.wf
  | .misalignedRead fn off lanes => off % 4 == 0 && lanes.length % 4 == 0 && lanes != [] && off + lanes.length ≤ windowSize fn
  | .hifAccerrRead p r => r.off % 4 == 0 && r.lanes.length % 4 == 0 && r.lanes != [] && r.off + r.lanes.length ≤ windowSize (.pf p)
  | .vfAccerrRead t r => r.off % 4 == 0 && r.lanes.length % 4 == 0 && r.lanes != [] && r.off + r.lanes.length ≤ windowSize (.vf t)
  | .dmwrMbxSend _ off payload => off % 4 == 0 && 1 ≤ payload.length && payload.length ≤ 32
  | .msixUnmask fn (some v) => v.val < vectorCount fn
  | .buoyPush _ _ _ entry => entry.length == 64
  | .stepGroupReadComplete _ _ r => r.wf 64
  | .imbalanceWindow counts => counts.length == 64
  | .cmisMonitorPoll _ _ rx => rx.length == 8
  | .hello _ f => f.wf
  | .echo _ f => f.wf
  | .credit _ f => f.wf
  | .data _ f => f.wf
  | .dataReq _ f => f.wf
  | .status _ f => f.wf
  | .abortAck _ f => f.wf
  | .resend _ f => f.wf
  | .working _ f => f.wf
  | .free _ f => f.wf
  | .frameDiscarded _ f => 1 ≤ f.wireCost && (!f.ctrl || f.wireCost ≤ 64)
  | .pairSelftestComplete c _ => c.val < 40
  | .rotatingTestStart u => u.wf
  | .rotatingTestPutOff u => u.wf
  | .selfTestComplete (.unit u) _ _ => u.wf
  | .sourceFire u n => u.val = 0 || n.toNat < 288
  | _ => true

end Sys2Proof
end

