-- ==== Sys2Proof/Safety.lean ====
section
/-! DEFINITION. Safety.lean: the terms of the statements: what "nothing else changes" means part by part, and the states that the
rules of the manual keep to. -/

namespace Sys2Proof.Machine

open Sys2Proof

/-! ### Nothing else changes -/

/-- Every part of the state is as before but the Hild-14 pair `c`. -/
def onlyPair (c : PairNum) (s t : State) : Prop :=
  (∀ d, d ≠ c → t.pair d = s.pair d) ∧ { t with cores := { t.cores with pairs := s.cores.pairs } } = s

/-- Of a pair, everything is as before but the general registers, the PC, PR, the clock and what the clock lets happen: the watchdog's count
(R323) and products in flight that land in MH and ML (R314). -/
def onlyRegisters (p q : Pair) : Prop :=
  q.fl = p.fl ∧ q.cs = p.cs ∧ q.cp = p.cp ∧ q.cm = p.cm ∧ q.trapw = p.trapw ∧ q.trappc = p.trappc ∧ q.trapfl = p.trapfl ∧
    q.cause = p.cause ∧ q.trappr = p.trappr ∧ q.evcur = p.evcur ∧ (∀ a, q.dmem.read a = p.dmem.read a) ∧ q.pmem = p.pmem ∧
    q.cychi = p.cychi ∧ q.tbhi = p.tbhi ∧ q.eccd = p.eccd ∧ q.eccp = p.eccp ∧ q.slot = p.slot ∧ q.running = p.running ∧
    (p.products = [] → q.products = [] ∧ q.mh = p.mh ∧ q.ml = p.ml)

/-- Register `ra` reads `v` (G0 reads 0 and discards it), every other register reads as before. -/
def setsRegister (ra : Reg) (v : W32) (p q : Pair) : Prop := ∀ r, q.gr r = if r = ra ∧ ra ≠ 0 then v else p.gr r

/-- The stall cycle of an instruction that reads the register loaded by the instruction before (R324). -/
def stallOf (p : Pair) (reads : List Reg) : Nat :=
  match p.loaded with
  | some r => if reads.contains r then 1 else 0
  | none => 0

/-- The instruction in line comes next, `n` cycles and the stall later, with PR empty (R310, R324). -/
def advances (n : Nat) (reads : List Reg) (p q : Pair) : Prop :=
  q.pc = p.pc + 1 ∧ q.pr = 0 ∧ q.prn = 0 ∧ q.cyc = p.cyc + BitVec.ofNat 64 (n + stallOf p reads) ∧ q.waiting = false

/-- Pair `c` can take an instruction, and no prefix stands before one that takes none (R310, R311). -/
def issues (s : State) (c : PairNum) (takes : Bool) : Prop := s.coreReady c = true ∧ (takes = true ∨ (s.pair c).prn = 0)

/-- Register `ra` becomes `v` in `n` cycles and nothing else of the pair changes. -/
def pairWrites (ra : Reg) (v : W32) (reads : List Reg) (n : Nat) (p q : Pair) : Prop :=
  onlyRegisters p q ∧ setsRegister ra v p q ∧ advances n reads p q

/-- Register `ra` of pair `c` becomes `v` in `n` cycles and nothing else changes. -/
def writesRegister (c : PairNum) (ra : Reg) (v : W32) (reads : List Reg) (n : Nat) (s t : State) : Prop :=
  onlyPair c s t ∧ pairWrites ra v reads n (s.pair c) (t.pair c)

/-- FL of `q` is that of `p` but for the bits listed. -/
def keepsFlags (but : List Nat) (p q : Pair) : Prop := ∀ i, i < 32 → i ∉ but → q.fl.getLsbD i = p.fl.getLsbD i

/-- Of a pair, everything is as before but FL, the PC, PR and the clock. -/
def onlyFlags (p q : Pair) : Prop := onlyRegisters { p with fl := q.fl } q ∧ ∀ r, q.gr r = p.gr r

/-- Of a pair, everything is as before but the data memory, the PC, PR and the clock. -/
def onlyMemory (p q : Pair) : Prop := onlyRegisters { p with dmem := q.dmem } q ∧ ∀ r, q.gr r = p.gr r

/-- Of a pair, everything is as before but the PC, PR and the clock. -/
def onlyFlow (p q : Pair) : Prop := onlyRegisters p q ∧ ∀ r, q.gr r = p.gr r

/-- A jump to `target`, `n` cycles and the stall later, with PR empty (R310, R312). -/
def jumps (target : BitVec 15) (n : Nat) (reads : List Reg) (p q : Pair) : Prop :=
  q.pc = target ∧ q.pr = 0 ∧ q.prn = 0 ∧ q.cyc = p.cyc + BitVec.ofNat 64 (n + stallOf p reads) ∧ q.waiting = false

/-- Pair `p` enters a vector (R320, R321): FL and the return address saved, TRAPW, TRAPPR and CAUSE written, IE cleared, INTRAP set, 3 cycles
and the stall; registers and data memory as before. -/
def entersVector (vec : BitVec 15) (w : BitVec 14) (cause : W16) (ret : BitVec 15) (reads : List Reg) (p q : Pair) : Prop :=
  jumps vec 3 reads p q ∧ q.trapfl = p.fl ∧ q.trappc = ret ∧ q.trapw = w ∧ q.cause = cause ∧
    q.trappr = BitVec.ofNat 32 (p.pr.toNat + 2 ^ 27 * p.prn) ∧ q.fl.getLsbD flIE = false ∧ q.fl.getLsbD flInTrap = true ∧
    keepsFlags [flIE, flInTrap] p q ∧ (∀ r, q.gr r = p.gr r) ∧ (∀ a, q.dmem.read a = p.dmem.read a) ∧ q.cs = p.cs ∧ q.cp = p.cp ∧
    q.cm = p.cm ∧ q.evcur = p.evcur ∧ q.running = p.running ∧ q.slot = p.slot

/-- Pair `c` can take an instruction, in whatever prefix state; INTRAP is clear, so that a trap is entered (R322). -/
def canTrap (s : State) (c : PairNum) : Prop := s.coreReady c = true ∧ (s.pair c).fl.getLsbD flInTrap = false

/-- Every part of the state is as before but event unit `u`. -/
def onlyEvu (u : EvUnit) (s t : State) : Prop := (∀ w, w ≠ u → t.evu w = s.evu w) ∧ { t with evus := s.evus } = s

/-- Every part of the state is as before but channel `ch` of timer bank `k`. -/
def onlyChan (k : BankNum) (ch : ChanNum) (s t : State) : Prop :=
  (∀ j, j ≠ k → t.bank j = s.bank j) ∧ (∀ i, i ≠ ch → t.chan k i = s.chan k i) ∧ (t.bank k).err = (s.bank k).err ∧
    { t with banks := s.banks } = s

/-- A level-low line is low and its source not active: the source is pending (R334). -/
def lineHolds (e : Evu) (u : EvUnit) (n : Nat) : Bool :=
  sourceExternal u n && e.edge u n == 3 && !e.isAct n && tfind e.level n == some false

/-! ### Orders -/

/-- The packet `b` stands at the head of the order ring of host port `p`, its turn has come, its reply can be written, and its header passes the checks
of every order (R369, R373, R375, R462); the Tender runs no recovery (R467). -/
def orderStands (s : State) (p : HPort) (b : Bytes) : Prop :=
  s.headSlot p = some (.packet b) ∧ s.ringTurn p = true ∧ s.pfMaster p = true ∧ s.fw.recovery = false ∧ headerBad b = false

/-- The order is over: its ring goes on to the next slot, and the 64 bytes of its reply (R370) are written to the reply slot of its index. -/
def answers (p : HPort) (b : Bytes) (time : W64) (status : W16) (result : Bytes) (s u : State) : Prop :=
  let o := s.oq p
  (u.oq p).active = none ∧ (u.oq p).head = o.head + 1 ∧
    Out.hostWrite p none (o.rbase + BitVec.ofNat 64 (64 * (o.head % o.size)))
      ([byteAt b 1, BitVec.ofNat 8 (bnat (passBit o.size o.head))] ++ le 2 status.toNat ++ padTo 4 (bslice b 4 4) ++ le 8 time.toNat ++ padTo 48 result)
        ∈ u.out

/-- The order has been begun and stands in a stage of its work; its reply is still to come. -/
def underWay (p : HPort) (b : Bytes) (g : Stage) (u : State) : Prop :=
  ∃ a, (u.oq p).active = some a ∧ a.opc = byteAt b 1 ∧ a.packet = b ∧ a.stage = g ∧ a.orphan = false ∧ a.restarted = false

/-- Every part of the state is as before but what is sent, the host ports' records, the rings' turn and the power mode. -/
def onlyReply (s u : State) : Prop := { u with out := s.out, hosts := s.hosts, orders := s.orders, power := s.power } = s

/-! ### Programs and frames -/

/-- The copy of the step at `a` in the step cache can be read: its granule is not POISON (R216, R218). -/
abbrev stepSound (s : State) (sc : SC) (a : W64) : Prop := s.poisoned (s.stepGranule sc a) = false

/-- The flow of the running program `p` of `sc` stands at the step `w` of operation `o`, which is here and can be read, passes the checks that
need the step alone (R178), and neither holds (R165) nor decides a guarded status (R152). -/
def stepStands (s : State) (sc : SC) (o : Op) (p : Prog) (w : StepW) : Prop :=
  s.stepDue sc = some (p, w) ∧ opOf w.op = o ∧ holdsHere p w = false ∧ p.guarded = none ∧ earlyCheck w = none ∧ stepSound s sc p.flow

/-- Every part of the state is as before but port `d` and the power mode. -/
def onlyPort (d : DPort) (s t : State) : Prop :=
  (∀ x, x ≠ d → t.port x = s.port x) ∧ t.ports.cages = s.ports.cages ∧ { t with ports := s.ports, power := s.power } = s

/-- Every part of the state is as before but the subchannel `sc` and the power mode. -/
def onlySub (sc : SC) (s t : State) : Prop :=
  (∀ x, x ≠ sc → t.sub x = s.sub x) ∧ t.prog.tokens = s.prog.tokens ∧ t.prog.waits = s.prog.waits ∧ { t with prog := s.prog, power := s.power } = s

/-- A port after a good frame has reached it: the receive clock, and a credit of the frame's class used and waiting to be returned (R260, R263). -/
def takesFrame (now : Nat) (f : Frame) (p0 : Port) : Port :=
  let p := { p0 with lastRx := now }
  match frameClass f with
  | none => p
  | some isData =>
    let q := if isData then { p with dRecv := p.dRecv + 1, dWait := p.dWait + 1 } else { p with cRecv := p.cRecv + 1, cWait := p.cWait + 1 }
    { q with waitSince := some (p.waitSince.getD now), creditDue := p.creditDue || decide (4 ≤ q.dWait) || decide (4 ≤ q.cWait) }

/-- A frame arrives that passes checks 1 to 4 of R271, on a lane that is lit and locked and has exchanged HELLO, within the credits of its class; no
retrain waits for it (R275). -/
def arrives (s : State) (d : DPort) (f : Frame) : Prop :=
  (s.port d).txOn = true ∧ (s.port d).locked = true ∧ (s.port d).refusedAt = none ∧ (s.port d).helloSeen = true ∧ frameBad f = false ∧
    (s.port d).retrainDue = false ∧
    ∀ isData, frameClass f = some isData → (if isData then (s.port d).dOut else (s.port d).cOut) ≠ 0

/-- The frame names the exchange `e` of its TAG: GEN, CUADDR and DEVADDR agree, and COMMAND has been sent (checks 5 to 7 of R271). -/
def namesExch (s : State) (d : DPort) (f : Frame) (e : Exch) : Prop :=
  tfind (s.port d).exch f.tag.toNat = some e ∧ e.gen = f.gen ∧ e.sent = true ∧ e.cuaddr = f.cuaddr ∧ e.devaddr = f.devaddr

/-- An exchange after a frame of it (R190, R273). -/
def touched (now : Nat) (accepts : Bool) (e : Exch) : Exch :=
  let acc := e.accepted || accepts
  { e with accepted := acc, cmdAt := if acc then none else e.cmdAt, inactAt := if acc then some (now + 156250000) else none
           missAt := if e.input then some (now + 156250) else none }

/-! ### What follows a command -/

/-- Nothing is left for what follows every command: no full quarantine, no lit port without a name, no spill that its port's queues have moved
past, no lasting site to act on, no order or unreadable order slot at hand (R100, R274, R282, R371, R375, R421); the ports' table is in its
canonical form. -/
def calm (s : State) : Prop :=
  (∀ d, (s.port d).link ≠ 5 ∨ (s.port d).quar.length < Config.quarantineLimit) ∧
    (∀ d, (s.port d).txOn = false ∨ s.portNamed d = true ∨ (s.port d).exch ≠ []) ∧
    (∀ d, (s.port d).spillHeld = s.spill d ∧ ((s.port d).stall = true → Config.spillResume ≤ s.spill d) ∧
      ((s.port d).stall = false → s.spill d < Config.spillStall)) ∧ tWf s.ports.ports = true ∧ s.faults.acts = [] ∧
    ∀ p, (s.oq p).active = none ∧ (s.oq p).waitPrior = s.waitsPrior p ∧ ∀ st b, s.headSlot p ≠ some (.failed st b)

/-- A number of cycles that the manual bounds by `n` (R324; log 27). -/
def within (n : Nat) (f : Nat → Prop) : Prop := ∃ k, 1 ≤ k ∧ k ≤ n ∧ f k

/-- Source `n` is eligible for pair `c` (R331): pending, not masked, not active, its PAIR this pair. -/
def eligibleFor (s : State) (c : PairNum) (n : Nat) : Prop :=
  let e := s.evu (pairUnit c)
  e.isPend n = true ∧ e.isMasked n = false ∧ e.isAct n = false ∧ e.pairOf (pairUnit c) n = pairIndex c

/-- The canonical form that every step keeps: the data memory of every pair (R304), the pending sources of every event unit. -/
def canonical (s : State) : Prop := (∀ c, (s.pair c).dmem.wf = true) ∧ ∀ u, tWf (s.evu u).pend = true

end Sys2Proof.Machine
end

