-- ==== Sys2Proof/Certificates/Slice0/Obligations.lean ====
section
/-! DEFINITION. Certificates/Slice0/Obligations.lean: the statements for the provers. -/

open Sys2Proof Sys2Proof.Machine

/-! ### The queue -/

/-- A step with a command at the front of the queue is that command's effect on the state with the queue's rest.
The model's: the queue is the model's (log 33). -/
def Obligations.StepRunsFront : Prop :=
  ∀ (c : Instr) (s : State) (rest : List Instr), step { s with pending := c :: rest } = exec c { s with pending := rest }

/-! ### Hild-14 pairs -/

/-- R309, R318: every instruction that writes a register from registers or its immediate, each with the value the rule gives; nothing else of
the state changes. G0 discards the value. -/
def Obligations.CoreRegisterResults : Prop :=
  ∀ (c : PairNum) (ra rb : Reg) (n imm : BitVec 5) (s : State),
    let a := (s.pair c).gr ra
    let b := (s.pair c).gr rb
    (issues s c false →
      (∃ t, exec (.add c ra rb) s = .next t ∧ writesRegister c ra (a + b) [ra, rb] 1 s t) ∧
      (∃ t, exec (.sub c ra rb) s = .next t ∧ writesRegister c ra (a - b) [ra, rb] 1 s t) ∧
      (∃ t, exec (.and c ra rb) s = .next t ∧ writesRegister c ra (a &&& b) [ra, rb] 1 s t) ∧
      (∃ t, exec (.or c ra rb) s = .next t ∧ writesRegister c ra (a ||| b) [ra, rb] 1 s t) ∧
      (∃ t, exec (.xor c ra rb) s = .next t ∧ writesRegister c ra (a ^^^ b) [ra, rb] 1 s t) ∧
      (∃ t, exec (.andn c ra rb) s = .next t ∧ writesRegister c ra (a &&& ~~~b) [ra, rb] 1 s t) ∧
      (∃ t, exec (.shl c ra rb) s = .next t ∧ writesRegister c ra (a <<< (b.toNat % 32)) [ra, rb] 1 s t) ∧
      (∃ t, exec (.shr c ra rb) s = .next t ∧ writesRegister c ra (a >>> (b.toNat % 32)) [ra, rb] 1 s t) ∧
      (∃ t, exec (.sar c ra rb) s = .next t ∧ writesRegister c ra (a.sshiftRight (b.toNat % 32)) [ra, rb] 1 s t) ∧
      (∃ t, exec (.ror c ra rb) s = .next t ∧ writesRegister c ra (a.rotateRight (b.toNat % 32)) [ra, rb] 1 s t) ∧
      (∃ t, exec (.shli c ra n) s = .next t ∧ writesRegister c ra (a <<< n.toNat) [ra] 1 s t) ∧
      (∃ t, exec (.shri c ra n) s = .next t ∧ writesRegister c ra (a >>> n.toNat) [ra] 1 s t) ∧
      (∃ t, exec (.mov c ra rb) s = .next t ∧ writesRegister c ra b [rb] 1 s t) ∧
      (∃ t, exec (.neg c ra rb) s = .next t ∧ writesRegister c ra (0 - b) [rb] 1 s t)) ∧
    (issues s c true →
      (∃ t, exec (.movi c ra imm) s = .next t ∧ writesRegister c ra ((s.pair c).imm imm) [] 1 s t) ∧
      (∃ t, exec (.addi c ra imm) s = .next t ∧ writesRegister c ra (a + (s.pair c).imm imm) [ra] 1 s t))

/-- R318: PARW writes the XOR of the 32 bits of rb, BREV bit 31 − i of rb at bit i; both take one cycle. -/
def Obligations.ParityAndBitReverse : Prop :=
  ∀ (c : PairNum) (ra rb : Reg) (s : State), issues s c false →
    let b := (s.pair c).gr rb
    (∃ t, exec (.parw c ra rb) s = .next t ∧
      writesRegister c ra (if (List.range 32).foldl (fun x i => x ^^ b.getLsbD i) false then 1 else 0) [rb] 1 s t) ∧
    (∃ t v, exec (.brev c ra rb) s = .next t ∧ (∀ i, i < 32 → v.getLsbD i = b.getLsbD (31 - i)) ∧ writesRegister c ra v [rb] 1 s t)

/-- R310: the prefixed immediate of MOVI, ADDI and CMPI: PR followed by IMM5, sign-extended from 5 + 9k bits; PFX shifts its 9 bits into PR, up to
three times. -/
def Obligations.PrefixedImmediates : Prop :=
  (∀ (p : Pair) (imm : BitVec 5),
    (p.prn = 0 → p.pr = 0 → p.imm imm = imm.signExtend 32) ∧
    (∀ x : BitVec 9, p.prn = 1 → p.pr = x.setWidth 27 → p.imm imm = (x ++ imm).signExtend 32) ∧
    (∀ x : BitVec 18, p.prn = 2 → p.pr = x.setWidth 27 → p.imm imm = (x ++ imm).signExtend 32) ∧
    (p.prn = 3 → p.imm imm = p.pr ++ imm)) ∧
  (∀ (c : PairNum) (x : BitVec 9) (s : State), s.coreReady c = true → (s.pair c).prn < 3 →
    ∃ t, exec (.pfx c x) s = .next t ∧ onlyPair c s t ∧ onlyFlow (s.pair c) (t.pair c) ∧ (t.pair c).pc = (s.pair c).pc + 1 ∧
      (t.pair c).pr = ((s.pair c).pr <<< 9) ||| x.setWidth 27 ∧ (t.pair c).prn = (s.pair c).prn + 1 ∧
      (t.pair c).cyc = (s.pair c).cyc + 1)

/-- R307: the flags of CMP, CMPI and TST: no other instruction's rule is used. Z and N from the difference or the AND, C below unsigned, V on
signed overflow; the other flags and all registers are as before. -/
def Obligations.CompareFlags : Prop :=
  ∀ (c : PairNum) (ra rb : Reg) (imm : BitVec 5) (s : State),
    let a := (s.pair c).gr ra
    let flags := fun (z n cy v : Bool) (p q : Pair) => q.fl.getLsbD flZ = z ∧ q.fl.getLsbD flN = n ∧ q.fl.getLsbD flC = cy ∧
      q.fl.getLsbD flV = v ∧ keepsFlags [flZ, flN, flC, flV] p q ∧ onlyFlags p q
    let overflow := fun (x y : W32) => decide (x.toInt - y.toInt < -2147483648 ∨ 2147483647 < x.toInt - y.toInt)
    (issues s c false →
      (∃ t, exec (.cmp c ra rb) s = .next t ∧ onlyPair c s t ∧ advances 1 [ra, rb] (s.pair c) (t.pair c) ∧
        flags (a == (s.pair c).gr rb) (a - (s.pair c).gr rb).msb (decide (a < (s.pair c).gr rb)) (overflow a ((s.pair c).gr rb))
          (s.pair c) (t.pair c)) ∧
      (∃ t, exec (.tst c ra rb) s = .next t ∧ onlyPair c s t ∧ advances 1 [ra, rb] (s.pair c) (t.pair c) ∧
        flags (a &&& (s.pair c).gr rb == 0) (a &&& (s.pair c).gr rb).msb false false (s.pair c) (t.pair c))) ∧
    (issues s c true →
      (∃ t, exec (.cmpi c ra imm) s = .next t ∧ onlyPair c s t ∧ advances 1 [ra] (s.pair c) (t.pair c) ∧
        flags (a == (s.pair c).imm imm) (a - (s.pair c).imm imm).msb (decide (a < (s.pair c).imm imm)) (overflow a ((s.pair c).imm imm))
          (s.pair c) (t.pair c)))

/-- R312: B branches when its condition holds and goes on in line when it does not; CALL and JALR write the return address and jump. Targets are
relative to the branch word, modulo 32,768. -/
def Obligations.BranchesAndCalls : Prop :=
  ∀ (c : PairNum) (cond : BitVec 3) (off6 : BitVec 6) (off9 : BitVec 9) (ra rb : Reg) (s : State),
    let p := s.pair c
    let taken := match cond.toNat with
      | 0 => p.fl.getLsbD flZ = true
      | 1 => p.fl.getLsbD flZ = false
      | 2 => p.fl.getLsbD flN ≠ p.fl.getLsbD flV
      | 3 => p.fl.getLsbD flN = p.fl.getLsbD flV
      | 4 => p.fl.getLsbD flC = true
      | 5 => p.fl.getLsbD flC = false
      | 6 => True
      | _ => p.fl.getLsbD flEarly = true
    (issues s c true →
      (taken → ∃ t, exec (.b c cond off6) s = .next t ∧ onlyPair c s t ∧ onlyFlow p (t.pair c) ∧
        jumps (p.pc + (p.imm off6).setWidth 15) 2 [] p (t.pair c)) ∧
      (¬taken → ∃ t, exec (.b c cond off6) s = .next t ∧ onlyPair c s t ∧ onlyFlow p (t.pair c) ∧ advances 1 [] p (t.pair c)) ∧
      (∃ t, exec (.call c off9) s = .next t ∧ onlyPair c s t ∧ onlyRegisters p (t.pair c) ∧
        setsRegister 15 ((p.pc + 1).setWidth 32) p (t.pair c) ∧ jumps (p.pc + (p.imm off9).setWidth 15) 2 [] p (t.pair c))) ∧
    (issues s c false →
      ∃ t, exec (.jalr c ra rb) s = .next t ∧ onlyPair c s t ∧ onlyRegisters p (t.pair c) ∧
        setsRegister ra ((p.pc + 1).setWidth 32) p (t.pair c) ∧ jumps ((p.gr rb).setWidth 15) 2 [rb] p (t.pair c))

/-- R314: MUL and MULS put the product of their registers into flight, to be written at the end of cycle c + 2; MUL_PRODUCT_WRITE writes into MH:ML
the products whose cycle has ended, the last one issued standing.
The model's: cycles are those of executed instructions (log 51). -/
def Obligations.MultiplierProducts : Prop :=
  ∀ (c : PairNum) (ra rb : Reg) (s : State),
    let p := s.pair c
    let a := p.gr ra
    let b := p.gr rb
    let starts := fun (v : W64) (t : State) => onlyPair c s t ∧ advances 1 [ra, rb] p (t.pair c) ∧ (∀ r, (t.pair c).gr r = p.gr r) ∧
      (t.pair c).fl = p.fl ∧ (t.pair c).products = (p.issued [ra, rb]).products ++ [((p.issued [ra, rb]).cyc.toNat + 2, v)]
    (issues s c false →
      (∃ t, exec (.mul c ra rb) s = .next t ∧ starts (a.setWidth 64 * b.setWidth 64) t) ∧
      (∃ t, exec (.muls c ra rb) s = .next t ∧ starts (a.signExtend 64 * b.signExtend 64) t)) ∧
    (∀ (x : Nat) (v : W64), p.running = true → p.products = [(x, v)] → x < p.cyc.toNat →
      ∃ t, exec (.mulProductWrite c) s = .next t ∧ onlyPair c s t ∧ (t.pair c).mh ++ (t.pair c).ml = v ∧ (t.pair c).products = [] ∧
        t.pair c = { p with mh := (t.pair c).mh, ml := (t.pair c).ml, products := [] })

/-- R304, R309: LDW, LDH and LDB load little-endian words, halfwords and bytes, zero-extended, from rb plus the prefix, modulo 65,536; a
misaligned address traps to vector 0x0008 with CAUSE 0x02 and loads nothing. -/
def Obligations.LoadsReadMemory : Prop :=
  ∀ (c : PairNum) (ra rb : Reg) (s : State),
    let p := s.pair c
    let a := (p.gr rb + BitVec.ofNat 32 p.pr.toNat).toNat % 65536
    let m := fun i => p.dmem.read (a + i)
    let loads := fun (v : W32) (t : State) => writesRegister c ra v [rb] 1 s t ∧
      (t.pair c).loaded = if ra = 0 then none else some ra
    let traps := fun (i : Instr) => canTrap s c → ∃ t, exec i s = .next t ∧ onlyPair c s t ∧
      entersVector 8 (coreWord i) 2 p.pc [rb] p (t.pair c)
    (issues s c true → a % 4 = 0 → ∃ t, exec (.ldw c ra rb) s = .next t ∧ loads (m 3 ++ m 2 ++ m 1 ++ m 0) t) ∧
    (issues s c true → a % 2 = 0 → ∃ t, exec (.ldh c ra rb) s = .next t ∧ loads ((m 1 ++ m 0).setWidth 32) t) ∧
    (issues s c true → ∃ t, exec (.ldb c ra rb) s = .next t ∧ loads ((m 0).setWidth 32) t) ∧
    (a % 4 ≠ 0 → traps (.ldw c ra rb)) ∧ (a % 2 ≠ 0 → traps (.ldh c ra rb))

/-- R304, R309: STW, STH and STB store the low bytes of ra, little-endian, at rb plus the prefix, modulo 65,536, and every other byte of the
data memory is as before; a misaligned address traps and stores nothing. -/
def Obligations.StoresWriteMemory : Prop :=
  ∀ (c : PairNum) (ra rb : Reg) (s : State),
    let p := s.pair c
    let a := (p.gr rb + BitVec.ofNat 32 p.pr.toNat).toNat % 65536
    let v := p.gr ra
    let stores := fun (n : Nat) (t : State) => onlyPair c s t ∧ onlyMemory p (t.pair c) ∧ advances 1 [ra, rb] p (t.pair c) ∧
      (∀ i, i < n → (t.pair c).dmem.read (a + i) = v.extractLsb' (8 * i) 8) ∧
      (∀ x, (x < a ∨ a + n ≤ x) → (t.pair c).dmem.read x = p.dmem.read x)
    let traps := fun (i : Instr) => canTrap s c → ∃ t, exec i s = .next t ∧ onlyPair c s t ∧
      entersVector 8 (coreWord i) 2 p.pc [ra, rb] p (t.pair c)
    (issues s c true → a % 4 = 0 → ∃ t, exec (.stw c ra rb) s = .next t ∧ stores 4 t) ∧
    (issues s c true → a % 2 = 0 → ∃ t, exec (.sth c ra rb) s = .next t ∧ stores 2 t) ∧
    (issues s c true → ∃ t, exec (.stb c ra rb) s = .next t ∧ stores 1 t) ∧
    (a % 4 ≠ 0 → traps (.stw c ra rb)) ∧ (a % 2 ≠ 0 → traps (.sth c ra rb))

/-- R316, R317: CRCB takes rb[7:0] through the CRC state by the procedure of the rule, CRCW takes rb[7:0], rb[15:8], rb[23:16] and rb[31:24] as four
CRCB, in two cycles. -/
def Obligations.CrcUnitSteps : Prop :=
  ∀ (c : PairNum) (rb : Reg) (s : State), issues s c false → ((s.pair c).cm.toNat % 32 = 0 ∨ 8 ≤ (s.pair c).cm.toNat % 32) →
    let p := s.pair c
    let w := if p.cm.toNat % 32 = 0 then 32 else p.cm.toNat % 32
    let bit := fun (x : W32) =>
      if p.cm.getLsbD 5 then (x >>> 1) ^^^ (if x.getLsbD 0 then p.cp else 0)
      else (x <<< 1) ^^^ (if x.getLsbD (w - 1) then p.cp else 0)
    let crcb := fun (x : W32) (b : Byte) =>
      let y := if p.cm.getLsbD 5 then x ^^^ b.setWidth 32 else x ^^^ (b.setWidth 32 <<< (w - 8))
      bit (bit (bit (bit (bit (bit (bit (bit y))))))) &&& BitVec.ofNat 32 (2 ^ w - 1)
    let lane := fun (i : Nat) => (p.gr rb).extractLsb' (8 * i) 8
    let becomes := fun (v : W32) (n : Nat) (t : State) => onlyPair c s t ∧ (t.pair c).cs = v ∧ advances n [rb] p (t.pair c) ∧
      onlyRegisters { p with cs := v } (t.pair c) ∧ ∀ r, (t.pair c).gr r = p.gr r
    (∃ t, exec (.crcb c 0 rb) s = .next t ∧ becomes (crcb p.cs (lane 0)) 1 t) ∧
    (∃ t, exec (.crcw c 0 rb) s = .next t ∧ becomes (crcb (crcb (crcb (crcb p.cs (lane 0)) (lane 1)) (lane 2)) (lane 3)) 2 t)

/-- R311, R320: the SYS operations. NOP and SYNC go on in line (log 31: every posted write has been accepted), EI and DI set and clear IE, WAITE leaves the
pair waiting, RETT restores PC and FL with INTRAP cleared, TRAP enters vector 0x000C with CAUSE 0x08 and the operand in DETAIL.
The model's: an EARLY set since the entry stays set at RETT (log 112). -/
def Obligations.SystemOperations : Prop :=
  ∀ (c : PairNum) (n : BitVec 5) (s : State),
    let p := s.pair c
    (issues s c false →
      (∃ t, exec (.sysNop c) s = .next t ∧ onlyPair c s t ∧ onlyFlow p (t.pair c) ∧ advances 1 [] p (t.pair c)) ∧
      (∃ t, exec (.sync c) s = .next t ∧ onlyPair c s t ∧ onlyFlow p (t.pair c) ∧ advances 1 [] p (t.pair c)) ∧
      (∃ t, exec (.ei c) s = .next t ∧ onlyPair c s t ∧ onlyFlags p (t.pair c) ∧ keepsFlags [flIE] p (t.pair c) ∧
        (t.pair c).fl.getLsbD flIE = true ∧ advances 1 [] p (t.pair c)) ∧
      (∃ t, exec (.di c) s = .next t ∧ onlyPair c s t ∧ onlyFlags p (t.pair c) ∧ keepsFlags [flIE] p (t.pair c) ∧
        (t.pair c).fl.getLsbD flIE = false ∧ advances 1 [] p (t.pair c)) ∧
      (∃ t, exec (.waite c) s = .next t ∧ onlyPair c s t ∧ onlyFlow p (t.pair c) ∧ (t.pair c).pc = p.pc + 1 ∧ (t.pair c).waiting = true) ∧
      (∃ t, exec (.rett c) s = .next t ∧ onlyPair c s t ∧ onlyFlags p (t.pair c) ∧ jumps p.trappc 2 [] p (t.pair c) ∧
        (t.pair c).fl.getLsbD flInTrap = false ∧ (∀ i, i < 6 → i ≠ flEarly → (t.pair c).fl.getLsbD i = p.trapfl.getLsbD i) ∧
        (t.pair c).fl.getLsbD flEarly = (p.trapfl.getLsbD flEarly || p.fl.getLsbD flEarly) ∧ (∀ i, 7 ≤ i → (t.pair c).fl.getLsbD i = false))) ∧
    (issues s c false → p.fl.getLsbD flInTrap = false →
      ∃ t, exec (.trap c n) s = .next t ∧ onlyPair c s t ∧
        entersVector 0xC (coreWord (.trap c n)) (BitVec.ofNat 16 (8 + 256 * n.toNat)) (p.pc + 1) [] p (t.pair c))

/-- R306, R307, R315, R316: RDS reads and WRS writes the special registers. RDS of TBLO and CYCLO latches the high half, of ECCST clears it; RDS of
MH or ML while a product is in flight returns the value held and sets EARLY, and so does WRS; WRS of FL and CM stores the bits that exist. -/
def Obligations.SpecialRegisters : Prop :=
  ∀ (c : PairNum) (ra : Reg) (s : State), issues s c false →
    let p := s.pair c
    let time := if c.val < 40 then tget 0 s.clk.dies (c.val / 10) else s.clk.hub
    let reads := fun (n : BitVec 5) (v : W32) => ∃ t, exec (.rds c ra n) s = .next t ∧ writesRegister c ra v [] 1 s t
    let readsAnd := fun (n : BitVec 5) (v : W32) (f : Pair) =>
      ∃ t, exec (.rds c ra n) s = .next t ∧ onlyPair c s t ∧ setsRegister ra v p (t.pair c) ∧ advances 1 [] p (t.pair c) ∧ onlyRegisters f (t.pair c)
    let writes := fun (n : BitVec 5) (f : Pair) (q : Pair → Prop) =>
      ∃ t, exec (.wrs c ra n) s = .next t ∧ onlyPair c s t ∧ advances 1 [ra] p (t.pair c) ∧ (∀ r, (t.pair c).gr r = p.gr r) ∧
        onlyRegisters f (t.pair c) ∧ q (t.pair c)
    let v := p.gr ra
    let early := p.fl ||| 0x10
    (reads 0x00 p.fl ∧ reads 0x01 (p.pc.setWidth 32) ∧ reads 0x04 p.cs ∧ reads 0x05 p.cp ∧ reads 0x06 p.cm ∧
      reads 0x07 (p.trapw.setWidth 32) ∧ reads 0x08 (p.trappc.setWidth 32) ∧ reads 0x09 p.trapfl ∧ reads 0x0A (p.cause.setWidth 32) ∧
      reads 0x0B 0x00030100 ∧ reads 0x0C (s.coreId c) ∧ reads 0x0E p.cychi ∧ reads 0x10 p.tbhi ∧ reads 0x11 (p.evcur.setWidth 32) ∧
      reads 0x13 (p.wdog.setWidth 32) ∧ reads 0x14 p.trappr) ∧
    readsAnd 0x0D (p.cyc.setWidth 32) { p with cychi := (p.cyc >>> 32).setWidth 32 } ∧
    readsAnd 0x0F (time.setWidth 32) { p with tbhi := (time >>> 32).setWidth 32 } ∧
    readsAnd 0x12 (p.eccp ++ p.eccd) { p with eccd := 0, eccp := 0 } ∧
    ((p.issued []).products = [] → reads 0x02 (p.issued []).mh ∧ reads 0x03 (p.issued []).ml) ∧
    ((p.issued []).products ≠ [] →
      readsAnd 0x02 (p.issued []).mh { p with fl := early } ∧ readsAnd 0x03 (p.issued []).ml { p with fl := early }) ∧
    writes 0x00 { p with fl := v &&& 0x7F } (fun _ => True) ∧
    ((p.issued [ra]).products = [] → writes 0x02 { p with mh := v } (fun q => q.mh = v) ∧ writes 0x03 { p with ml := v } (fun q => q.ml = v)) ∧
    ((p.issued [ra]).products ≠ [] →
      writes 0x02 { p with fl := early, mh := v } (fun q => q.mh = v) ∧ writes 0x03 { p with fl := early, ml := v } (fun q => q.ml = v)) ∧
    writes 0x04 { p with cs := v } (fun _ => True) ∧ writes 0x05 { p with cp := v } (fun _ => True) ∧
    writes 0x06 { p with cm := v &&& 0x3F } (fun _ => True) ∧ writes 0x08 { p with trappc := v.setWidth 15 } (fun _ => True) ∧
    writes 0x09 { p with trapfl := v } (fun _ => True) ∧
    (v.setWidth 24 ≠ (0 : BitVec 24) → writes 0x13 p (fun q => q.wdog = v.setWidth 24 ∧ q.wdogOn = true ∧ q.wdogHits = 0))

/-- R313, R319-R322: a reserved encoding, a prefix before an instruction that takes none, a fourth PFX, a special that does not exist and a WRS to a read-only
special each trap to vector 0x0004 with CAUSE 0x01; while INTRAP is set such a trap is a pair failure, and the pair stops. -/
def Obligations.ReservedEncodingsTrap : Prop :=
  ∀ (c : PairNum) (ra rb : Reg) (n : BitVec 5) (x : BitVec 9) (w : BitVec 14) (s : State), s.coreReady c = true →
    let p := s.pair c
    let traps := fun (i : Instr) (w : BitVec 14) (reads : List Reg) =>
      (p.fl.getLsbD flInTrap = false → ∃ t, exec i s = .next t ∧ onlyPair c s t ∧ entersVector 4 w 1 p.pc reads p (t.pair c)) ∧
      (p.fl.getLsbD flInTrap = true → exec i s = .next ((s.modPair c (fun p => p.issued reads)).failPair c .doubleTrap).settle)
    (decodeCore c w = none → traps (.reservedEncoding c w) w []) ∧
    (p.prn ≠ 0 → traps (.add c ra rb) (coreWord (.add c ra rb)) [ra, rb] ∧ traps (.sysNop c) (coreWord (.sysNop c)) []) ∧
    (3 ≤ p.prn → traps (.pfx c x) (coreWord (.pfx c x)) []) ∧
    (0x15 ≤ n.toNat → p.prn = 0 → traps (.rds c ra n) (coreWord (.rds c ra n)) []) ∧
    (n.toNat ∉ [0x00, 0x02, 0x03, 0x04, 0x05, 0x06, 0x08, 0x09, 0x13] → p.prn = 0 → traps (.wrs c ra n) (coreWord (.wrs c ra n)) [ra]) ∧
    (ra ≠ 0 → p.prn = 0 → traps (.crcb c ra rb) (coreWord (.crcb c ra rb)) [rb]) ∧
    (1 ≤ p.cm.toNat % 32 → p.cm.toNat % 32 ≤ 7 → p.prn = 0 → traps (.crcw c ra rb) (coreWord (.crcw c ra rb)) [rb])

/-- R320, R323: with IE set and INTRAP clear, an asserted event input enters vector 0x0010 between instructions, and a first expiry of the watchdog enters vector
0x0014; TRAPW there is a free value (log 24).
The model's: an entry is not forced (log 71). -/
def Obligations.EventAndWatchdogEntry : Prop :=
  ∀ (c : PairNum) (s : State),
    let p := s.pair c
    (p.running = true → p.prn = 0 → p.fl.getLsbD flInTrap = false → p.fl.getLsbD flIE = true → s.eventInput c = true →
      ∃ t, exec (.eventEntry c) s = .next t ∧ onlyPair c { s with clk := { s.clk with free := s.clk.free + 1 } } t ∧
        entersVector 0x10 (t.pair c).trapw 0x10 p.pc [] { p with loaded := none } (t.pair c)) ∧
    (p.running = true → p.prn = 0 → p.fl.getLsbD flInTrap = false → p.wdogDue = true → p.wdogHits = 0 →
      ∃ t, exec (.watchdogExpiry c) s = .next t ∧ onlyPair c { s with clk := { s.clk with free := s.clk.free + 1 } } t ∧
        (t.pair c).wdogDue = false ∧ (t.pair c).wdogHits = 1 ∧
        entersVector 0x14 (t.pair c).trapw 0x11 p.pc [] { p with loaded := none } (t.pair c))

/-- R331, R332: CLAIM takes the eligible source of lowest PRIO, and of those the lowest number: ra and EVCUR become its number, it is no longer pending
and is active; with none eligible ra and EVCUR become 0x3FF and EVU_SPUR counts. DONE clears the active bit; of a source that is not active EVU_ERR
counts, but for 0x3FF. -/
def Obligations.ClaimAndDone : Prop :=
  ∀ (c : PairNum) (ra : Reg) (s : State), issues s c false → tWf (s.evu (pairUnit c)).pend = true →
    let u := pairUnit c
    let e := s.evu u
    let p := s.pair c
    let takes := fun (v : BitVec 10) (t : State) => pairWrites ra (v.setWidth 32) [] 4 { p with evcur := v } (t.pair c) ∧
      (∀ d, d ≠ c → t.pair d = s.pair d) ∧ (∀ w, w ≠ u → t.evu w = s.evu w) ∧
      { t with cores := { t.cores with pairs := s.cores.pairs }, evus := s.evus } = s
    let n := (p.gr ra).toNat
    let done := fun (t : State) => onlyFlow p (t.pair c) ∧ advances 1 [ra] p (t.pair c) ∧ (∀ w, w ≠ u → t.evu w = s.evu w) ∧
      { t with cores := { t.cores with pairs := s.cores.pairs }, evus := s.evus } = s
    (∀ k, k < 1024 → eligibleFor s c k →
      (∀ m, eligibleFor s c m → e.prio u k < e.prio u m ∨ (e.prio u k = e.prio u m ∧ k ≤ m)) →
      ∃ t, exec (.evtClaim c ra) s = .next t ∧ takes (BitVec.ofNat 10 k) t ∧ (t.evu u).isPend k = false ∧ (t.evu u).isAct k = true ∧
        ∀ m, m ≠ k → (t.evu u).isPend m = e.isPend m ∧ (t.evu u).isAct m = e.isAct m) ∧
    ((∀ m, ¬eligibleFor s c m) →
      ∃ t, exec (.evtClaim c ra) s = .next t ∧ takes 0x3FF t ∧ t.evu u = { e with spur := satInc e.spur }) ∧
    (e.isAct n = true → ∃ t, exec (.evtDone c ra) s = .next t ∧ done t ∧ (t.evu u).isAct n = false ∧
      ∀ m, m ≠ n → (t.evu u).isAct m = e.isAct m ∧ (t.evu u).isPend m = e.isPend m) ∧
    (e.isAct n = false → n ≠ 0x3FF → ∃ t, exec (.evtDone c ra) s = .next t ∧ done t ∧ t.evu u = { e with err := satInc e.err }) ∧
    (e.isAct n = false → n = 0x3FF → ∃ t, exec (.evtDone c ra) s = .next t ∧ done t ∧ t.evu u = e)

/-- R311, R337, R338, R340, R343: MSEND commits the 68-byte message at its buffer, with bit 15 of the header zero, at the end of the mailbox's queue; MRECV takes
the oldest message into the buffer and returns 0, or returns 1 when there is none; MSTAT returns the status; each within the cycles of R324. A full
mailbox is a bus error.
The model's: the number of cycles within the bound is free (log 27). -/
def Obligations.MailboxInstructions : Prop :=
  ∀ (c : PairNum) (ra : Reg) (s : State), issues s c false →
    let p := s.pair c
    let r := p.gr ra
    let m := r.toNat % 64
    let buf := r.toNat / 65536
    let byte := fun (i : Nat) => p.dmem.read ((buf + i) % 65536)
    let hdr : W32 := byte 3 ++ byte 2 ++ byte 1 ++ byte 0
    let out := fun (x : State) => if c = tender then (x.mbx m).fromT else (x.mbx m).toT
    let inn := fun (x : State) => if c = tender then (x.mbx m).toT else (x.mbx m).fromT
    s.mayBox c m = true →
    (buf % 4 = 0 → hdr.toNat / 256 % 128 ≤ 64 → (out s).length < 4 →
      ∃ t, exec (.msend c ra) s = .next t ∧ out t = out s ++ [(hdr &&& 0xFFFF7FFF, (List.range 64).map (fun i => byte (4 + i)))] ∧ inn t = inn s ∧
        onlyFlow p (t.pair c) ∧ within (if c = tender then 20 else 60) (fun k => advances k [ra] p (t.pair c))) ∧
    (buf % 4 = 0 → hdr.toNat / 256 % 128 ≤ 64 → (out s).length ≥ 4 → p.fl.getLsbD flInTrap = false →
      ∃ t, exec (.msend c ra) s = .next t ∧ onlyPair c s t ∧
        entersVector 8 (coreWord (.msend c ra)) (BitVec.ofNat 16 (4 + 256 * m)) p.pc [ra] p (t.pair c)) ∧
    (buf % 4 = 0 → inn s = [] →
      ∃ t, exec (.mrecv c ra) s = .next t ∧ t.mbx m = s.mbx m ∧ within (if c = tender then 20 else 60) (fun k => pairWrites ra 1 [ra] k p (t.pair c))) ∧
    (∀ h b rest, buf % 4 = 0 → inn s = (h, b) :: rest → b.length = 64 →
      ∃ t, exec (.mrecv c ra) s = .next t ∧ inn t = rest ∧ out t = out s ∧ setsRegister ra 0 p (t.pair c) ∧
        (∀ i, i < 4 → (t.pair c).dmem.read ((buf + i) % 65536) = h.extractLsb' (8 * i) 8) ∧
        (∀ i, i < 64 → (t.pair c).dmem.read ((buf + 4 + i) % 65536) = b.getD i 0) ∧
        (∀ x, x < 65536 → (∀ i, i < 68 → x ≠ (buf + i) % 65536) → (t.pair c).dmem.read x = p.dmem.read x)) ∧
    (∃ t, exec (.mstat c ra) s = .next t ∧ t.mbx m = s.mbx m ∧
      within (if c = tender then 4 else 40) (fun k => pairWrites ra (s.mbxStat m) [ra] k p (t.pair c)))

/-- R309, R319, R324: IOR reads the IO word at rb plus the prefix into ra, IOW writes ra there; an address that reaches no unit traps to vector 0x0008 with CAUSE
0x03. Which unit an address reaches is the firmware's (log 28). -/
def Obligations.IoReadsAndWrites : Prop :=
  ∀ (c : PairNum) (ra rb : Reg) (s : State), issues s c true → (s.pair c).fl.getLsbD flInTrap = false →
    let p := s.pair c
    let addr := p.gr rb + BitVec.ofNat 32 p.pr.toNat
    match s.ioTarget c addr with
    | none =>
      (∃ t, exec (.ior c ra rb) s = .next t ∧ onlyPair c s t ∧ entersVector 8 (coreWord (.ior c ra rb)) 3 p.pc [rb] p (t.pair c)) ∧
      (∃ t, exec (.iow c ra rb) s = .next t ∧ onlyPair c s t ∧ entersVector 8 (coreWord (.iow c ra rb)) 3 p.pc [ra, rb] p (t.pair c))
    | some (u, off) =>
      let read := s.useFree.ioReadUnit u off
      (∃ t, exec (.ior c ra rb) s = .next t ∧ within 40 (fun k => pairWrites ra read.2 [rb] k p (t.pair c)) ∧
        { t with cores := s.cores } = { read.1 with cores := s.cores }) ∧
      (∃ t, exec (.iow c ra rb) s = .next t ∧ onlyFlow p (t.pair c) ∧ advances 1 [ra, rb] p (t.pair c) ∧
        { t with cores := s.cores } = { s.ioWriteUnit c addr u off (p.gr ra) with cores := s.cores })

/-- R219, R294-R296, R300, R302, R306, R377, R484: every 1,024 cycles a core's signature is compared with its checker's; signatures that differ, and a pair failure, stop the
pair and take its slot from it; a passed self-test makes the pair a spare;
the Tender is reloaded from the running image and then takes orders again. The patrol counts an error of a pair's memory in ECCST, or the pair fails; the
scrubber reads each granule of staging memory once a pass.
The model's: the pipeline's stages, the checker's signature and the findings are operands (log 110). -/
def Obligations.PairFailureAndReturn : Prop :=
  ∀ (c : PairNum) (cause : PairCause) (st : List Nat) (x : W64) (s : State),
    ((s.pair c).running = true → (s.pair c).sigAt + 1024 ≤ (s.pair c).cyc.toNat →
      (x ≠ (s.pair c).signature st → exec (.lockstepSignature c st x) s = exec (.pairFailure c .divergence) s) ∧
      (x = (s.pair c).signature st → ∃ t, exec (.lockstepSignature c st x) s = .next t ∧ onlyPair c s t ∧
        t.pair c = { s.pair c with sigAt := (s.pair c).cyc.toNat / 1024 * 1024 })) ∧
    ((s.pair c).cyc.toNat < (s.pair c).sigAt + 1024 → exec (.lockstepSignature c st x) s = .next s) ∧
    ((s.pair c).running = true → ∃ u : State, exec (.pairFailure c cause) s = .next u.settle ∧ (u.pair c).running = false ∧ (u.pair c).slot = none) ∧
    ((s.pair c).running = true → c = tender → ∃ u : State, exec (.pairFailure c cause) s = .next u.settle ∧ u.cores.tenderUp = false) ∧
    ((s.pair c).testing = true → (s.pair c).retired = false → s.pairPowered c = true → c ≠ tender →
      ∃ u : State, exec (.pairSelftestComplete c true) s = .next u.settle ∧ (u.pair c).running = true ∧ (u.pair c).slot = none ∧ (u.pair c).testing = false ∧
        (u.pair c).release = s.fw.release ∧ (u.pair c).pc = 0 ∧ ∀ r, (u.pair c).gr r = 0) ∧
    (s.tenderDown = true → ∃ t, exec (.tenderRestart true) s = .next t ∧ onlyPair tender s t ∧ (t.pair tender).running = true ∧
      (t.pair tender).pc = 0 ∧ (t.pair tender).release = s.fw.release) ∧
    ((s.pair tender).running = true → s.cores.tenderUp = false → s.fw.hub = true →
      ∃ u : State, exec .tenderRestartComplete s = .next u.settle ∧ u.cores.tenderUp = true) ∧
    (∀ (site : W32) (r : BitVec 24) (b : BitVec 16), pairOfSite site = some c → patrolled site = true → s.data.inService = true →
      (s.faults.acts.any (fun a => a.1 == site)) = false →
      (∃ u : State, exec (.sramPatrol site (.corrected r b)) s = .next u.settle ∧ u.faults.next = s.faults.next + 1 ∧
        u.pair c = if Config.programMacro (fieldOf site 11 0) then { s.pair c with eccp := satInc (s.pair c).eccp }
          else { s.pair c with eccd := satInc (s.pair c).eccd }) ∧
      ((s.pair c).running = true → ∃ v : State, exec (.sramPatrol site (.uncorrectable r b)) s = .next (v.failPair c .ecc).settle ∧
        v.faults.next = s.faults.next + 1 ∧ v.cores = s.cores)) ∧
    (∀ (g : BitVec 30), s.data.inService = true → g.toNat < 0x30000000 → g.toNat ∉ s.data.scrubbed → s.data.scrubbed.length < 0x2FFFFFFF →
      exec (.scrubGranule g .good) s = .next { s with data := { s.data with scrubbed := insertNat g.toNat s.data.scrubbed } })

/-- R308, R309, R311, R313: decode and encode agree. Every Hild-14 instruction, of every pair, with every operand that the rules allow, is read back from its
word; and a word that decodes to an instruction is that instruction's word, so no bit of it is dropped. -/
def Obligations.CoreDecodeEncode : Prop :=
  (∀ (c : PairNum) (ra rb : Reg) (n : BitVec 5) (x : BitVec 9) (cond : BitVec 3) (off : BitVec 6) (i : Instr),
    i ∈ [.sysNop c, .rett c, .trap c n, .ei c, .di c, .waite c, .sync c, .pfx c x, .movi c ra n, .addi c ra n, .add c ra rb, .sub c ra rb,
      .and c ra rb, .or c ra rb, .xor c ra rb, .andn c ra rb, .shl c ra rb, .shr c ra rb, .sar c ra rb, .ror c ra rb, .shli c ra n, .shri c ra n,
      .cmp c ra rb, .tst c ra rb, .cmpi c ra n, .mov c ra rb, .neg c ra rb, .parw c ra rb, .brev c ra rb, .mul c ra rb, .muls c ra rb, .ldw c ra rb,
      .ldb c ra rb, .ldh c ra rb, .stw c ra rb, .stb c ra rb, .sth c ra rb, .b c cond off, .call c x, .jalr c ra rb, .crcb c 0 rb, .crcw c 0 rb,
      .evtClaim c ra, .evtDone c ra, .msend c ra, .mrecv c ra, .mstat c ra, .ior c ra rb, .iow c ra rb] ∨
      (n.toNat < 0x15 ∧ i = .rds c ra n) ∨
      (n.toNat ∈ [0x00, 0x02, 0x03, 0x04, 0x05, 0x06, 0x08, 0x09, 0x13] ∧ i = .wrs c ra n) →
    (encodeCore i).bind (decodeCore c) = some i) ∧
  (∀ (c : PairNum) (w : BitVec 14) (i : Instr), decodeCore c w = some i → encodeCore i = some w)

/-- Every step, of whatever command, keeps the canonical form of the data memories and of the pending sources.
The model's: the canonical form is the model's (log 9); a step on an empty queue is one CLK_P period (log 12). -/
def Obligations.EveryStepKeepsCanonicalForm : Prop :=
  ∀ s t : State, canonical s → step s = .next t → canonical t

/-- R455, R457, R458: the state after a keeper reset. It has the canonical form; the keeper counter and the timebase are 0, the retention file is cleared; there is no Light List,
binding, queue, program, token or message, no order ring is enabled, no account has an instance, the fault log is empty, no domain is powered; no command
waits.
The model's: what the spec gives for reset; the values the model names are in logs 4 to 11 and 29. -/
def Obligations.ResetState : Prop :=
  let s := State.reset
  canonical s ∧ s.pending = [] ∧ s.keeper.counter = 0 ∧ s.keeper.ret = {} ∧ s.clk.hub = 0 ∧ s.clk.bridged = false ∧ s.list.loaded = false ∧ s.list.groups = [] ∧
    s.list.hashkey = none ∧ (∀ t, (s.tenant t).binding = none) ∧ s.queues.sqs = [] ∧ s.queues.cqs = [] ∧ s.prog = {} ∧ s.boxes = [] ∧ s.banks = [] ∧ s.evus = [] ∧
    (∀ p, (s.oq p).en = false ∧ s.fn (.pf p) = {} ∧ (s.host p).link = false) ∧ (∀ a i, s.acct a i = ⟨0, 0⟩) ∧ s.faults.log = [] ∧ s.side.beacon = 0 ∧
    ∀ n, s.domOn n = false

/-! ### Event units -/

/-- R328, R330, R334: the single-source commands. Each acts on its one source; a level-low source whose line is low stays pending; a source that is reserved or
not implemented counts in EVU_ERR and nothing else changes. -/
def Obligations.EventUnitCommands : Prop :=
  ∀ (u : EvUnit) (k : BitVec 10) (s : State),
    let n := k.toNat
    let e := s.evu u
    let held := lineHolds e u n
    let one := fun (i : Instr) (pend masked : Bool) => ∃ t, exec i s = .next t ∧ onlyEvu u s t ∧ (t.evu u).isPend n = pend ∧
      (t.evu u).isMasked n = masked ∧ (t.evu u).act = e.act ∧ (t.evu u).err = e.err ∧ (t.evu u).spur = e.spur ∧ (t.evu u).tgt = e.tgt ∧
      ∀ m, m ≠ n → (t.evu u).isPend m = e.isPend m ∧ (t.evu u).isMasked m = e.isMasked m
    (sourceReal u n = true →
      one (.setPending u k) true (e.isMasked n) ∧ one (.clearPending u k) held (e.isMasked n) ∧ one (.mask u k) (e.isPend n || held) true ∧
      one (.unmask u k) (e.isPend n || held) false ∧ one (.maskAndClearPending u k) held true) ∧
    (sourceReal u n = false → ∀ i ∈ [Instr.setPending u k, .clearPending u k, .mask u k, .unmask u k, .maskAndClearPending u k],
      ∃ t, exec i s = .next t ∧ onlyEvu u s t ∧ t.evu u = { e with err := satInc e.err })

/-- R329, R331, R334, R335, R428: a source that fires is pending and counts as work (R439), unless its unit has no power; an external line is sampled, the
first sample is its filter's value, a new level passes with its FILT-th sample in a row and fires its source on the edges that EDGE chooses, or while low; a write of EVU_TGT stores the bits that exist for the source: PRIO, PAIR in a channel die's unit, EDGE and FILT of an external
line; reserved bits written nonzero are logged (R14).
The model's: a command that names no implemented source changes nothing (log 32); the command is a sample of the pin (log 19). -/
def Obligations.SourcesAndLines : Prop :=
  ∀ (u : EvUnit) (k : BitVec 10) (level : Bool) (v : W32) (s : State),
    let n := k.toNat
    let e := s.evu u
    (sourceReal u n = true → s.evuOn u = true → ∃ t, exec (.sourceFire u k) s = .next t ∧ t.evu u = { e with pend := (t.evu u).pend } ∧
      (∀ m, (t.evu u).isPend m = (e.isPend m || m == n)) ∧ (∀ w, w ≠ u → t.evu w = s.evu w) ∧ t.power.mode ≠ .idle ∧
      { t with evus := s.evus, power := s.power } = s) ∧
    ((sourceReal u n = false ∨ s.evuOn u = false) → exec (.sourceFire u k) s = .next s) ∧
    s.evuOn 0 = true ∧
    (sourceExternal 0 n = true →
      ∃ t, exec (.externalLineEdge k level) s = .next t ∧ { t with evus := s.evus, power := s.power, side := s.side } = s ∧
        (t.evu 0).act = (s.evu 0).act ∧ (∀ m, m ≠ n → (t.evu 0).isPend m = (s.evu 0).isPend m) ∧
        (n ≠ 167 → t.line n = level) ∧ (∀ m, m ≠ n → t.line m = s.line m) ∧
        (s.clk.running = false → t.evus = s.evus) ∧
        (s.clk.running = true → t.line n = level →
          (tfind (s.evu 0).level n = none → tfind (t.evu 0).level n = some level ∧
            (t.evu 0).isPend n = ((s.evu 0).isPend n || ((s.evu 0).edge 0 n == 3 && !level && !(s.evu 0).isAct n))) ∧
          (tfind (s.evu 0).level n = some level → tfind (t.evu 0).level n = some level ∧ tfind (t.evu 0).shown n = none ∧
            (t.evu 0).pend = (s.evu 0).pend) ∧
          (tfind (s.evu 0).level n = some (!level) → tget 0 (s.evu 0).shown n + 1 < (s.evu 0).filt 0 n →
            tfind (t.evu 0).level n = some (!level) ∧ tget 0 (t.evu 0).shown n = tget 0 (s.evu 0).shown n + 1 ∧ (t.evu 0).pend = (s.evu 0).pend) ∧
          (tfind (s.evu 0).level n = some (!level) → (s.evu 0).filt 0 n ≤ tget 0 (s.evu 0).shown n + 1 →
            tfind (t.evu 0).level n = some level ∧
            (t.evu 0).isPend n = ((s.evu 0).isPend n || (match (s.evu 0).edge 0 n with
              | 0 => level
              | 1 => !level
              | 2 => true
              | _ => !level && !(s.evu 0).isAct n)))))  ∧
    (sourceReal u n = true →
      let bits : W32 := (if u = 0 then 0x700 else 0x70F) ||| (if sourceExternal u n then 0x00FF3000 else 0)
      let rsv : W32 := 0xFF00C8F0 ||| (if sourceExternal u n then 0 else 0x00FF3000)
      ∃ t : State, exec (.evuTgtWrite u k v) s = .next (t.ioReserved (evuSite u) (4096 + 4 * n) rsv v) ∧ (v &&& rsv = 0 →
        t.ioReserved (evuSite u) (4096 + 4 * n) rsv v = t) ∧ onlyEvu u s t ∧ (t.evu u).target u n = (e.target u n &&& ~~~bits) ||| (v &&& bits) ∧
        (∀ m, m ≠ n → (t.evu u).target u m = e.target u m) ∧ (t.evu u).act = e.act ∧ (t.evu u).unmasked = e.unmasked)

/-! ### Timer banks -/

/-- R348, R350, R351, R363: a HI write commits HI with the staged LO, or the live LO when none is staged, at one edge. TMR_CMP is then tested: a value already
passed sets PASSED and fires at the next edge; a match due on the old value fires first, without its auto-add. TMR_CNT equal to TMR_CMP matches. A
TMR_DIV write clears A. The reserved half of a HI value written nonzero is logged (R14).
The model's: a commit of TMR_CNT equal to TMR_CMP matches only when it changes the counter (log 103). -/
def Obligations.TimerCommits : Prop :=
  ∀ (k : BankNum) (ch : ChanNum) (v : W32) (s : State), s.bankOn k = true →
    let join := fun (lo : Option W32) (live : W48) => (v.extractLsb' 0 16 ++ lo.getD (live.extractLsb' 0 32) : W48)
    let c := s.chan k ch
    let noted := fun (off : Nat) => s.ioReserved (bankSite k) (256 + 64 * ch.val + off) 0xFFFF0000 v
    (v &&& 0xFFFF0000 = 0 → ∀ off, noted off = s) ∧
    (∃ t, exec (.tmrIvlCommit k ch v) s = .next t ∧ onlyChan k ch (noted 28) t ∧ t.chan k ch = { c with ivl := join c.ivlLo c.ivl, ivlLo := none }) ∧
    (∃ t, exec (.tmrDivWrite k ch v) s = .next t ∧ onlyChan k ch s t ∧ t.chan k ch = { c with div := v, acc := 0 }) ∧
    (let u := ((noted 12).loseStep k ch).flushChan k ch
     let d := u.chan k ch
     ∃ t, exec (.tmrCntCommit k ch v) s = .next t ∧ onlyChan k ch u t ∧
      t.chan k ch = { d with
        cnt := join d.cntLo d.cnt, cntLo := none
        equal := join d.cntLo d.cnt == d.cmp && (d.cnt != join d.cntLo d.cnt || c.equal) && d.edges == 0 }) ∧
    (c.resetDue = false → (noted 12).loseStep k ch = (noted 12).modChan k ch (fun c => { c with equal := false })) ∧
    (c.resetDue = false → c.catchup = none → c.capDue = false → c.equal = false → c.late = false →
      ∃ t, exec (.tmrCmpCommit k ch v) s = .next t ∧ onlyChan k ch (noted 20) t ∧
        let w := join c.cmpLo c.cmp
        let passed := decide ((c.cnt - w).toNat < 140737488355328)
        t.chan k ch = { c with cmp := w, cmpLo := none, passed := passed, stat := if passed then c.stat ||| 8 else c.stat }) ∧
    (c.resetDue = false → c.catchup = none → c.capDue = false → c.equal = true → c.act = 0 →
      ∃ t, exec (.tmrCmpCommit k ch v) s = .next t ∧ onlyChan k ch (noted 20) t ∧ (t.chan k ch).cmp = join c.cmpLo c.cmp ∧
        (t.chan k ch).stat.getLsbD 0 = true)

/-- R349, R352, R354-R357: a match sets MATCH, pulses or toggles, fires its source, grants a mover start and adds the interval; after a passed value the
catch-up comes at the fourth edge and TMR_MISS rises by n − 1; a capture copies the counter, counts and sets CAP, and OVR where CAP was set; a slave
that sees its master rise has its counter and A at 0. -/
def Obligations.TimerEvents : Prop :=
  ∀ (k : BankNum) (ch : ChanNum) (s : State),
    let c := s.chan k ch
    (c.equal = true → ∃ t, exec (.timerMatch k ch) s = .next t ∧ (t.chan k ch).stat = c.stat ||| 1 ∧ (t.chan k ch).pulse = (c.trgo == 0 && c.en) ∧
      (t.chan k ch).out = (c.out != c.act.getLsbD 2) ∧ (t.chan k ch).cmp = c.cmp + c.ivl ∧ (t.chan k ch).cnt = c.cnt ∧
      (t.chan k ch).matchDue = false ∧ (c.act.getLsbD 0 = false → t.evus = s.evus) ∧
      (c.act.getLsbD 0 = true → k = 0 → (t.evu 0).isPend (129 + ch.val) = true) ∧
      (c.act.getLsbD 0 = true → k ≠ 0 → s.bankOn k = true → (t.evu k).isPend (32 * (ch.val / 2) + 22 + ch.val % 2) = true) ∧
      ((k ≠ 0 ∨ c.act.getLsbD 3 = false) → t.data = s.data)) ∧
    (c.equal = false → c.late = true → c.ivl ≠ 0 →
      ∃ t, exec (.timerMatch k ch) s = .next t ∧ (t.chan k ch).stat = c.stat ||| 1 ∧ (t.chan k ch).cmp = c.cmp ∧ (t.chan k ch).edges = 4 ∧
        let n := ((c.cnt - c.cmp).toNat + 4) / c.ivl.toNat + 1
        (t.chan k ch).catchup = some (4, c.cmp + BitVec.ofNat 48 (n * c.ivl.toNat), BitVec.ofNat 32 (min (n - 1) 0xFFFFFFFF))) ∧
    (∀ (w : W48) (n : W32), c.catchup = some (0, w, n) → ∃ t, exec (.timerCatchup k ch) s = .next t ∧ onlyChan k ch s t ∧
      t.chan k ch = { c with cmp := w, catchup := none, miss := BitVec.ofNat 32 (min 0xFFFFFFFF (c.miss.toNat + n.toNat)) }) ∧
    (c.capDue = true → ∃ t, exec (.timerCapture k ch) s = .next t ∧ { t with evus := s.evus, power := s.power, banks := s.banks } = s ∧
      t.chan k ch = { c with capDue := false, cap := c.cnt, capseq := c.capseq + 1, stat := c.stat ||| (if c.stat.getLsbD 1 then 6 else 2) } ∧
      (c.act.getLsbD 1 = false → t.evus = s.evus) ∧ (c.act.getLsbD 1 = true → k = 0 → (t.evu 0).isPend (129 + ch.val) = true)) ∧
    (c.resetDue = true → ∃ t, exec (.timerSlaveReset k ch) s = .next t ∧ onlyChan k ch s t ∧ (t.chan k ch).cnt = 0 ∧ (t.chan k ch).acc = 0 ∧
      (t.chan k ch).resetDue = false ∧ (t.chan k ch).cmp = c.cmp)

/-! ### Host ports and functions -/

/-- R16, R56, R59, R60, R61: a read returns the bytes enabled and clears those of the access-error counter among them; a misaligned read, and one of more than
16 DW, of a function that answers gets Completer Abort and clears nothing; a function that does not answer gives Unsupported Request. But for the AER
status and what is sent nothing else changes.
The model's: a misaligned read is not logged (log 98); the AER bit is PCIe's (log 114). -/
def Obligations.RegisterReads : Prop :=
  (∀ (fn : Fn) (off : Nat) (lanes : List Bool) (s : State),
    let sent := fun (o : Out) (t : State) => t.out = o :: s.out ∧ { t with out := s.out, hosts := s.hosts, vfs := s.vfs } = s
    let base := off / 4 * 4
    (s.reachable fn = false → ∃ t, exec (.misalignedRead fn off lanes) s = .next t ∧ sent (.unsupported fn) t ∧ t.fn fn = s.fn fn) ∧
    (s.reachable fn = true → readGood base lanes = false → ∃ t, exec (.misalignedRead fn off lanes) s = .next t ∧ sent (.completerAbort fn) t ∧
      t.fn fn = { s.fn fn with aerStatus := (s.fn fn).aerStatus ||| 0x8000 }) ∧
    (s.reachable fn = true → readGood base lanes = true → ∃ t, exec (.misalignedRead fn off lanes) s = .next t ∧
      sent (.readReturn fn (s.readBytes fn base lanes)) t)) ∧
  (∀ (p : HPort) (s : State), s.reachable (.pf p) = true →
    let reads := fun (off : Nat) (n : Nat) (b : Bytes) => ∃ t, exec (.hifAccerrRead p ⟨off, List.replicate n true⟩) s = .next t ∧
      t.out = .readReturn (.pf p) b :: s.out ∧ t.fn (.pf p) = { s.fn (.pf p) with accerr := 0 } ∧ { t with out := s.out, hosts := s.hosts } = s ∧
      ∀ q, q ≠ p → t.host q = s.host q
    reads 0x1C 4 (le 4 (s.fn (.pf p)).accerr.toNat) ∧ reads 0x18 8 (le 4 s.side.beacon.toNat ++ le 4 (s.fn (.pf p)).accerr.toNat)) ∧
  (∀ (x : Tenant) (s : State), s.reachable (.vf x) = true →
    (∃ t, exec (.vfAccerrRead x ⟨4, List.replicate 4 true⟩) s = .next t ∧ t.out = .readReturn (.vf x) (le 4 (s.fn (.vf x)).accerr.toNat) :: s.out ∧
      t.fn (.vf x) = { s.fn (.vf x) with accerr := 0 } ∧ { t with out := s.out, hosts := s.hosts, vfs := s.vfs } = s ∧
      ∀ y, y ≠ x → t.fn (.vf y) = s.fn (.vf y)) ∧
    (∃ t, exec (.vfAccerrRead x ⟨4, [true, false, false, false]⟩) s = .next t ∧
      t.out = .readReturn (.vf x) [(s.fn (.vf x)).accerr.setWidth 8] :: s.out ∧ (t.fn (.vf x)).accerr = (s.fn (.vf x)).accerr &&& 0xFFFFFF00))

/-- R14, R45, R53, R56, R57, R59, R61, R367: a register write stores enabled bytes of MBX_TXBUF, stores a ring base while EN = 0, ignores a read-only register,
counts an access error at a reserved offset and for reserved bits written nonzero; configuration writes set their field. Each is followed by what follows every
command.
The model's: a gap between registers is a reserved offset (log 99). -/
def Obligations.RegisterWrites : Prop :=
  ∀ (p : HPort) (j : MbxNum) (i : Nat) (b0 b1 b2 b3 : Byte) (v : W64) (s : State), s.reachable (.pf p) = true → 8 ≤ (s.host p).mps →
    let lanes := fun (x : W64) => (le 8 x.toNat).map some
    (i < 16 → ∃ u : State, exec (.registerWrite (.mem (.pf p) (0x20000 + 256 * j.val + 4 * i) [some b0, some b1, some b2, some b3])) s = .next u.settle ∧
      (∀ k, k < 64 → (u.txPayload p j).getD k 0 =
        if k / 4 = i then [b0, b1, b2, b3].getD (k % 4) 0 else (s.txPayload p j).getD k 0) ∧
      { u with hosts := s.hosts } = s ∧ u.fn (.pf p) = s.fn (.pf p)) ∧
    (i < 16 → ∃ u : State, exec (.registerWrite (.mem (.pf p) (0x20000 + 256 * j.val + 4 * i) [none, some b1, none, none])) s = .next u.settle ∧
      (∀ k, k < 64 → (u.txPayload p j).getD k 0 = if k = 4 * i + 1 then b1 else (s.txPayload p j).getD k 0)) ∧
    ((s.oq p).en = false → ∃ u : State, exec (.registerWrite (.mem (.pf p) 0x10000 (lanes v))) s = .next u.settle ∧
      u.oq p = { s.oq p with obase := v } ∧ { u with hosts := s.hosts } = s) ∧
    ((s.oq p).en = false → ∃ u : State, exec (.registerWrite (.mem (.pf p) 0x10008 (lanes v))) s = .next u.settle ∧
      u.oq p = { s.oq p with rbase := v } ∧ { u with hosts := s.hosts } = s) ∧
    (exec (.registerWrite (.mem (.pf p) 0x4 [some b0, some b1, some b2, some b3])) s = .next s.settle) ∧
    (b3 ≠ 0 → ∃ u : State, exec (.registerWrite (.mem (.pf p) 0x0 [some b0, some b1, some b2, some b3])) s = .next u.settle ∧
      (u.fn (.pf p)).accerr = satInc (s.fn (.pf p)).accerr) ∧
    (∃ u : State, exec (.registerWrite (.mem (.pf p) 0x30000 [some b0, some b1, some b2, some b3])) s = .next u.settle ∧
      (u.fn (.pf p)).accerr = satInc (s.fn (.pf p)).accerr) ∧
    (∀ m, ∃ t, exec (.registerWrite (.cfg (.pf p) (.memorySpaceEnable m))) s = .next t ∧ t.fn (.pf p) = { s.fn (.pf p) with mse := m }) ∧
    (∀ n, n ≤ 2048 → (s.host p).vfEn = false → ∃ t, exec (.registerWrite (.cfg (.pf p) (.numVfs n))) s = .next t ∧
      t.host p = { s.host p with numVfs := n }) ∧
    (∃ t, exec (.registerWrite (.cfg (.pf p) .functionMaskSet)) s = .next t ∧ t.fn (.pf p) = { s.fn (.pf p) with fmask := true }) ∧
    (∀ x : W32, (∃ t : State, exec (.registerWrite (.cfg (.pf p) (.bar 1 x))) s = .next t ∧ t.pfBar p 1 = x ∧ t.pfBar p 0 = s.pfBar p 0) ∧
      (∀ n : Fin 6, 2 ≤ n.val → ∃ t : State, exec (.registerWrite (.cfg (.pf p) (.bar n x))) s = .next t ∧ t.fn (.pf p) = s.fn (.pf p) ∧ s.pfBar p n = 0)) ∧
    (∀ x : W32, ∃ t, exec (.registerWrite (.cfg (.pf p) (.aerStatusClear x))) s = .next t ∧
      t.fn (.pf p) = { s.fn (.pf p) with aerStatus := (s.fn (.pf p)).aerStatus &&& ~~~x })

/-- R62-R64, R338, R341, R342: a commit from the host with room and a LEN of at most 64 puts header, bit 15 zero, and the 64 bytes of MBX_TXBUF at the end of the mailbox
and fires its source; a DMWr is answered as well, and one with no room or a LEN above 64 gets Completer Abort and commits nothing; one to any other address, a
VF's window among them, gets Unsupported Request; MBX_TAKE releases the oldest message.
The model's: a DMWr with a LEN above 64 gets Completer Abort (log 102). -/
def Obligations.HostMailboxes : Prop :=
  ∀ (p : HPort) (j : MbxNum) (h : W32) (s : State), s.reachable (.pf p) = true → h.getLsbD 15 = false →
    let m := 16 * p.val + j.val
    let q := (s.mbx m).toT
    let sent := fun (t : State) => (t.mbx m).toT = q ++ [(h, s.txPayload p j)] ∧ (t.mbx m).fromT = (s.mbx m).fromT ∧
      (t.evu 0).isPend (1 + m) = true ∧ (∀ n, n ≠ m → t.mbx n = s.mbx n) ∧
      { t with boxes := s.boxes, evus := s.evus, power := s.power, out := s.out, hosts := s.hosts } = s
    (q.length < 4 → h.toNat / 256 % 128 ≤ 64 →
      (∃ t, exec (.mbxSend p j h) s = .next t ∧ sent t ∧ t.out = s.out) ∧
      (∃ t, exec (.dmwrMbxSend (.pf p) (0x20040 + 256 * j.val) [h]) s = .next t ∧ sent t ∧ t.out = .success (.pf p) :: s.out)) ∧
    ((4 ≤ q.length ∨ 64 < h.toNat / 256 % 128) →
      ∃ t, exec (.dmwrMbxSend (.pf p) (0x20040 + 256 * j.val) [h]) s = .next t ∧ t.out = .completerAbort (.pf p) :: s.out ∧ { t with out := s.out, hosts := s.hosts } = s) ∧
    (∀ (fn : Fn) (off : Nat), s.reachable fn = true → ((∃ x, fn = .vf x) ∨ off < 0x20000 ∨ 0x21000 ≤ off ∨ off % 256 ≠ 64) →
      ∃ t, exec (.dmwrMbxSend fn off [h]) s = .next t ∧ t.out = .unsupported fn :: s.out ∧ { t with out := s.out, hosts := s.hosts, vfs := s.vfs } = s) ∧
    (∀ x rest, (s.mbx m).fromT = x :: rest →
      ∃ t, exec (.mbxTake p j 1) s = .next t ∧ (t.mbx m).fromT = rest ∧ (t.mbx m).toT = q ∧ (t.evu 0).isPend (65 + m) = true ∧
        (∀ n, n ≠ m → t.mbx n = s.mbx n) ∧ { t with boxes := s.boxes, evus := s.evus, power := s.power } = s)

/-- R50, R60, R68, R71, R76, R77, R96, R207: a D-state change, Bus Master Enable and VF Enable take effect on the function's register and fire the function's event; what was held
goes on when requests may be made again; link power states and links follow R47, R73 and R445.
Clearing a vector's mask, setting MSI-X Enable and clearing Function Mask send what is pending, once.
The model's: Bus Master Enable holds vectors (log 13). -/
def Obligations.FunctionStates : Prop :=
  (∀ (fn : Fn) (p : HPort) (rate : LinkRate) (width : LinkWidth) (s : State),
      let fired := fun (u : State) (q : HPort) => (u.evu 0).isPend (163 + q.val) = true
      (s.fnLive fn = true → (s.fn fn).d3 = false →
        ∃ u : State, exec (.enterD3hot fn) s = .next u.repace.settle ∧ u.fn fn = { s.fn fn with d3 := true } ∧ fired u (fnHost fn) ∧ u.out = s.out) ∧
      (s.fnLive (.pf p) = true → (s.fn (.pf p)).d3 = true →
        ∃ u : State, exec (.returnToD0 (.pf p)) s = .next (u.pfGoesOn p).settle ∧ u.fn (.pf p) = { s.fn (.pf p) with d3 := false } ∧ fired u p ∧ u.out = s.out) ∧
      (∀ x : Tenant, s.fnLive (.vf x) = true → (s.fn (.vf x)).d3 = true →
        ∃ u : State, exec (.returnToD0 (.vf x)) s = .next (u.vfGoesOn x).settle ∧ u.fn (.vf x) = { s.fn (.vf x) with d3 := false } ∧
          fired u (hostOf x) ∧ u.out = s.out) ∧
      (s.fnLive (.pf p) = true →
        (∃ u : State, exec (.busMasterEnableSet p) s = .next (u.pfGoesOn p).settle ∧ u.fn (.pf p) = { s.fn (.pf p) with bme := true } ∧ fired u p) ∧
        (∃ u : State, exec (.busMasterEnableClear p) s = .next u.repace.settle ∧ u.fn (.pf p) = { s.fn (.pf p) with bme := false } ∧ fired u p) ∧
        (∃ u : State, exec (.vfEnableClear p) s = .next u.repace.settle ∧ u.host p = { s.host p with vfEn := false } ∧ fired u p ∧
          u.queues = s.queues) ∧
        (∃ u v : State, exec (.vfEnableSet p) s = .next ((v.repace).resumeTenants (fun t => hostOf t == p)).settle ∧
          u.host p = { s.host p with vfEn := true } ∧ fired u p ∧ v = (u.vfsHeld p).foldl (fun s t => s.flushVectors (.vf t)) u)) ∧
      ((s.host p).alive = true → (s.host p).l1 = .l0 → (s.host p).txIdle + 1563 ≤ s.clk.now →
        ((s.host p).aspmL11 = true → ∃ t, exec (.l1Entry p) s = .next t ∧ t.host p = { s.host p with l1 := .l11 } ∧ { t with hosts := s.hosts } = s) ∧
        ((s.host p).aspmL11 = false → (s.host p).aspmL1 = true →
          ∃ t, exec (.l1Entry p) s = .next t ∧ t.host p = { s.host p with l1 := .l1 } ∧ { t with hosts := s.hosts } = s)) ∧
      ((s.host p).perst = false → s.domOn (58 + p.val) = true →
        ∃ u : State, exec (.hostLinkUp p rate width) s = .next ((u.repace).resumeTenants (fun t => hostOf t == p)).settle ∧
          (u.host p).link = true ∧ (u.host p).rate = rate ∧ (u.host p).width = width ∧ u.keeper.wakeUntil = none ∧
          (s.keeper.wakeUntil.isSome = true → u.out = .wake false :: s.out)) ∧
      ((s.host p).link = true →
        ∃ u : State, exec (.hostLinkDown p) s = .next u.repace.settle ∧ u.host p = { s.host p with link := false, l1 := .l0 } ∧ { u with hosts := s.hosts } = s)) ∧
  (∀ (fn : Fn) (v : Fin 64) (s : State), s.fnLive fn = true →
      let f := s.fn fn
      (v.val < fnVectors fn → s.reachable fn = true → f.msixEn = true → f.fmask = false → f.bme = true → f.pba.getLsbD v.val = true →
        ∃ t, exec (.msixUnmask fn (some v)) s = .next t ∧
          t.out = .msix fn v.val (tget {} f.msix v.val).addr (tget {} f.msix v.val).data :: s.out ∧ (t.fn fn).pba = f.pba &&& ~~~(1#64 <<< v.val) ∧
          (tget {} (t.fn fn).msix v.val).masked = false) ∧
      (v.val < fnVectors fn → s.reachable fn = true → f.pba.getLsbD v.val = false →
        ∃ t, exec (.msixUnmask fn (some v)) s = .next t ∧ t.out = s.out ∧ (t.fn fn).pba = f.pba ∧ (tget {} (t.fn fn).msix v.val).masked = false) ∧
      (f.d3 = false → f.fmask = false → f.bme = true → ∃ t, exec (.msixEnableSet fn) s = .next t ∧ (t.fn fn).msixEn = true ∧
        ∀ n, n < fnVectors fn → (t.fn fn).pba.getLsbD n = (f.pba.getLsbD n && (tget {} f.msix n).masked)) ∧
      (f.d3 = false → f.msixEn = true → f.bme = true → ∃ t, exec (.msixUnmask fn none) s = .next t ∧ (t.fn fn).fmask = false ∧
        ∀ n, n < fnVectors fn → (t.fn fn).pba.getLsbD n = (f.pba.getLsbD n && (tget {} f.msix n).masked)))

/-- R51, R52, R456: what a reset of a function or a host port begins. A VF FLR stops the tenant, drains for 2 ms and ends at once when nothing is in flight; at its
end the registers have their reset values, the queues are gone and the drain is over. A PF FLR and PERST# disable the VFs and reset the PF's registers, order ring
and send buffers, but for vectors that what it ends leaves pending. PERST# released, the port answers with Request Retry Status.
The model's: the values of PCIe's own registers are PCIe's (log 6). -/
def Obligations.FunctionResets : Prop :=
  ∀ (t : Tenant) (p : HPort) (s : State),
    (s.fnLive (.vf t) = true → (s.tenant t).flrDrain = none →
      ∃ u : State, exec (.vfFlr t) s = .next (if u.inFlight t then u else u.flrFinish t).settle ∧ (u.tenant t).stopped = true ∧
        (u.tenant t).flrDrain = some (s.clk.now + 312500) ∧ (u.tenant t).flrAt = s.clk.hub ∧ (u.evu 0).isPend (163 + (hostOf t).val) = true) ∧
    (∀ d, (s.tenant t).flrDrain = some d → d ≤ s.clk.now →
      ∃ u : State, exec (.flrDrainExpiry t) s = .next u.settle ∧ (u.tenant t).flrDrain = none ∧ u.fn (.vf t) = {} ∧
        ∀ q, u.sq? t q = none ∧ u.cq? t q = none) ∧
    (let reset := fun (u : State) => (u.host p).vfEn = false ∧ (u.host p).numVfs = 0 ∧ (u.host p).mps = 128 ∧ (u.host p).mrrs = 512 ∧
        { u.fn (.pf p) with pba := 0 } = {} ∧ (u.oq p).en = false ∧ (u.oq p).slots = [] ∧ (u.host p).txbuf = [] ∧ (u.evu 0).isPend (163 + p.val) = true
     (s.fnLive (.pf p) = true → ∃ u : State, exec (.pfFlr p) s = .next u.repace.settle ∧ reset u) ∧
     ((s.host p).perst = false → ∃ u : State, exec (.perstAssert p) s = .next u.repace.settle ∧ reset u ∧ (u.host p).perst = true ∧
       (u.host p).link = false)) ∧
    ((s.host p).perst = true →
      ∃ u, exec (.perstRelease p) s = .next u ∧ u.host p = { s.host p with perst := false } ∧ (∀ q, q ≠ p → u.host q = s.host q) ∧
        u.out = (if s.domOn (58 + p.val) then .retryStatus p :: s.out else s.out) ∧
        (u.keeper.perstEdge.getLsbD p.val = true ∨ s.orders.sleeping = false))

/-- R45, R46, R65: a DMA read past its completion timeout is noted in the AER status of its function and has the outcome of a failed read of its kind.
The model's: a timeout takes the oldest read of its key (log 41); the AER bit is PCIe's (log 114). -/
def Obligations.CompletionTimeouts : Prop :=
  ∀ (p : HPort) (key : ReadKey) (s : State), s.timedOut p key = true →
    let a := s.aerNote (s.keyFn p key) 14
    exec (.completionTimeout p key) s = (match key with
      | .entry t q => exec (.entryFetchComplete t q .failed []) a
      | .group sc x => exec (.stepGroupReadComplete sc x .failed) a
      | .segments sc => exec (.segmentListReadComplete sc .failed) a
      | .columnMap sc => exec (.columnMapReadComplete sc .failed) a
      | .output sc => exec (.outputReadComplete sc .failed) a
      | .readback sc => exec (.readbackComplete sc .failed 0) a
      | .orderSlot r => exec (.orderFetchComplete r .failed) a
      | .lightList r => .next (a.listRead r [] false)
      | .image _ => exec (.flashOperationComplete (.imageRead .failed)) a
      | .faultLog _ => .next (a.endRead p key))

/-! ### Work queues -/

/-- R113-R117, R196, R414: a doorbell or push that passes its checks moves the ring and its account; one that does not is discarded and logged. A doorbell ends
quiet in either case, a push where it is accepted.
The model's: form and count of an access error (log 38). -/
def Obligations.DoorbellsAndPushes : Prop :=
  ∀ (t : Tenant) (q : QNum) (v : W32) (slot : Fin 4) (entry : Bytes) (s : State), s.reachable (.vf t) = true → s.foggy = false → v.toNat < 65536 →
    let moved := fun (a : Nat) (n : Int) (u : State) =>
      u.acct a (qIndex t q) = ⟨(s.acct a (qIndex t q)).debit + BitVec.ofInt 48 n, (s.acct a (qIndex t q)).credit + BitVec.ofInt 48 n⟩
    let logged := fun (u : State) => (u.fn (.vf t)).accerr = satInc (s.fn (.vf t)).accerr
    (∀ k, s.sq? t q = some k → k.resetting = false → k.fenced = false →
      let n := (v.toNat + k.depth - k.tail % k.depth) % k.depth
      (v.toNat < k.depth → k.outst + n ≤ k.depth - 1 →
        ∃ u : State, exec (.sqDoorbell t q v) s = .next u.settle ∧ u.sq? t q = some { k with tail := k.tail + n, outst := k.outst + n, buoy := 0 } ∧
          moved 5 n u ∧ (u.tenant t).quiet = none ∧ u.out = s.out ∧ u.queues.cqs = s.queues.cqs) ∧
      ((k.depth ≤ v.toNat ∨ k.depth - 1 < k.outst + n) →
        ∃ u : State, exec (.sqDoorbell t q v) s = .next u.settle ∧ u.sq? t q = some { k with buoy := 0 } ∧ logged u ∧ (u.tenant t).quiet = none)) ∧
    (s.sq? t q = none → ∃ u : State, exec (.sqDoorbell t q v) s = .next u.settle ∧ logged u ∧ (u.tenant t).quiet = none ∧
      { u.queues with tenants := s.queues.tenants } = s.queues) ∧
    (∀ k, s.cq? t q = some k →
      let n := (v.toNat + k.depth - k.head % k.depth) % k.depth
      (v.toNat < k.depth → n ≤ k.tail - k.head →
        ∃ u : State, exec (.cqDoorbell t q v) s = .next u.settle ∧ u.cq? t q = some { k with head := k.head + n } ∧ moved 6 (-(n : Int)) u ∧
          (u.tenant t).quiet = none ∧ u.out = s.out ∧ u.queues.sqs = s.queues.sqs) ∧
      ((k.depth ≤ v.toNat ∨ k.tail - k.head < n) → ∃ u : State, exec (.cqDoorbell t q v) s = .next u.settle ∧ logged u ∧
        (u.tenant t).quiet = none ∧ { u.queues with tenants := s.queues.tenants } = s.queues)) ∧
    (∀ k, s.sq? t q = some k → k.resetting = false → k.fenced = false → entry.length = 64 →
      (k.buoy ≠ 0 → k.tail % k.depth % 4 = slot.val → k.outst + 1 ≤ k.depth - 1 →
        ∃ u : State, exec (.buoyPush t q slot entry) s =
            .next (if u.queues.arb.grant.isNone && u.winner == some (qIndex t q) then (u.grant t q).settle else u.settle) ∧
          u.sq? t q = some { k with
            tail := k.tail + 1, outst := k.outst + 1, buoy := k.buoy - 1, copies := tset k.copies k.tail entry, pushed := k.pushed ++ [k.tail] } ∧
          moved 5 1 u ∧ (u.tenant t).quiet = none) ∧
      ((k.buoy = 0 ∨ k.tail % k.depth % 4 ≠ slot.val) →
        ∃ u : State, exec (.buoyPush t q slot entry) s = .next u.settle ∧ u.sq? t q = some { k with buoy := 0 } ∧ logged u))

/-- R119, R120, R122: the arbitration grants an eligible queue of the lowest class that has one, and issues its entry read: up to eight entries before the tail
and eight slots beyond it, up to the first of which a copy is kept. -/
def Obligations.QueueArbitration : Prop :=
  ∀ s : State, tWf s.queues.sqs = true → (∀ x ∈ s.queues.sqs, x.1 < 32768) →
    (∀ i, s.winner = some i → s.eligible (queueTenant i) (queueNum i) = true ∧
      ∀ k t q m, s.sq? (queueTenant i) (queueNum i) = some k → s.eligible t q = true → s.sq? t q = some m → k.cls.toNat ≤ m.cls.toNat) ∧
    (s.winner = none → ∀ t q, s.eligible t q = false) ∧
    (∀ i k, s.queues.arb.grant = none → s.winner = some i → tfind s.queues.sqs i = some k → tfind k.copies k.fetch = none →
      ∃ u : State, exec .queueArbitration s = .next u.settle ∧ u.queues.arb.grant = some i ∧
        ∃ n m, u.sq? (queueTenant i) (queueNum i) = some { k with reading := some (k.fetch, n) } ∧
          min 8 (k.tail - k.fetch) ≤ m ∧ m ≤ 16 ∧ k.outst + (m - min 8 (k.tail - k.fetch)) ≤ max k.outst (k.depth - 1) ∧
          1 ≤ n ∧ n ≤ m ∧ (∀ x, x < n → tfind k.copies (k.fetch + x) = none) ∧ (n = m ∨ (tfind k.copies (k.fetch + n)).isSome = true)) ∧
    (s.winner = none → exec .queueArbitration s = .next s.settle)

/-- R65, R120, R125, R126: an entry read at the fetch point with an owned MARK is handed on to its subchannel's start list with a completion slot reserved; one not
owned is read again after 160 ticks; a failed read stops the queue; a re-read is granted when due, and 1 ms after the first read the entry completes with
MALFORMED-ENTRY.
The model's: the answer to a read names its queue (log 34). -/
def Obligations.EntryFetch : Prop :=
  ∀ (t : Tenant) (q : QNum) (k : Sq) (c : Cq) (data : Bytes) (s : State), s.sq? t q = some k → s.cq? t k.cq = some c →
    let fetched := k.reading = some (k.fetch, 1) ∧ s.readOpen (hostOf t) (.entry t q) = true ∧ k.resetting = false ∧ k.fenced = false ∧
      (s.tenant t).stopped = false
    let owned := entryMark data = passBit k.depth k.fetch
    (fetched → data.length = 64 → owned → k.fetch < k.tail → 0 < c.free → entryBat data = 0 → k.pushed.contains k.fetch = false →
      s.entryCheck t data false none ((k.batches.find? (fun b => !b.closed)).map (·.count)) = 0 →
      ∃ (u : State) (x : Start), exec (.entryFetchComplete t q (.ok data) []) s = .next u.settle ∧
        (u.sub (entrySc data)).starts = (s.sub (entrySc data)).starts ++ [x] ∧ x.tenant = t ∧ x.sq = q ∧ x.index = k.fetch ∧
        x.program = u64 data 8 ∧ x.ref = u64 data 0x10 ∧ x.mask = byteAt data 0x18 ∧
        (u.sq? t q).map (·.fetch) = some (k.fetch + 1) ∧ (u.cq? t k.cq).map (·.reserved) = some (c.reserved + 1)) ∧
    (fetched → data.length = 64 → ¬owned → k.fetch < k.tail → k.markWait = none →
      ∃ u : State, exec (.entryFetchComplete t q (.ok data) []) s = .next u.settle ∧
        u.sq? t q = some { k with reading := none, unowned := padTo 64 data, markWait := some (s.clk.now, s.clk.now + 160) }) ∧
    (fetched → ∃ u : State, exec (.entryFetchComplete t q .failed []) s = .next u.settle ∧
      u.sq? t q = some { k with reading := none, dmaStop := true }) ∧
    (k.markWait.isSome = true → s.queues.arb.grant = none → s.winner = some (qIndex t q) → s.eligible t q = true → tfind k.copies k.fetch = none →
      ∃ u : State, exec (.markReread t q) s = .next u.settle ∧ u.queues.arb.grant = some (qIndex t q) ∧
        ((u.sq? t q).bind (·.reading)).isSome = true) ∧
    (∀ w, k.markWait = some w → w.1 + 156250 ≤ s.clk.now → k.reading = none → s.mayServe t k = true → 0 < c.free → c.fenced = false →
      k.batches.all (·.closed) = true →
      ∃ u : State, exec (.markWaitTimeout t q) s = .next u.settle ∧ (u.sq? t q).map (·.fetch) = some (k.fetch + 1) ∧
        (u.sq? t q).map (·.markWait) = some none ∧ (u.cq? t k.cq).map (·.tail) = some (c.tail + 1) ∧
        (u.cq? t k.cq).map (·.seq) = some (c.seq + 1))

/-- R135, R138, R493: an aborted completion that waited is written, with the next SEQ, into the slot that freed; a moderation interval that ends generates the queue's vector
and starts the count anew; room in the held area lets hand-on and waiting completions go on. -/
def Obligations.CompletionTimers : Prop :=
  ∀ (t : Tenant) (q : QNum) (p : HPort) (k : Cq) (s : State),
    (∀ w r, s.cq? t q = some k → k.waiting = w :: r → 0 < k.free → s.vfMaster t = true → s.journalRoom t = true → s.safe = false →
      s.side.pinsTaken = false → k.fenced = false →
      ∃ u : State, exec (.completionWriteSlotFreed t q) s = .next u.settle ∧ (u.cq? t q).map (·.waiting) = some r ∧
        (u.cq? t q).map (·.tail) = some (k.tail + 1) ∧ (u.cq? t q).map (·.seq) = some (k.seq + 1) ∧
        .hostWrite (hostOf t) (s.pasidOf t) (k.base + BitVec.ofNat 64 (32 * (k.tail % k.depth)))
          (cplBytes w.cpl (passBit k.depth k.tail) s.clk.bridged k.seq k.gen s.clk.hub) ∈ u.out) ∧
    (∀ x, s.cq? t q = some k → k.expiry = some x → x ≤ s.clk.now →
      ∃ u, exec (.moderationExpiry t q) s = .next u ∧ u.cq? t q = some { k with unsignalled := 0, expiry := none } ∧
        (s.fnLive (.vf t) = true → (s.fn (.vf t)).pba.getLsbD q.val = false → s.mayVector (.vf t) = true →
          (tget {} (s.fn (.vf t)).msix q.val).masked = false →
          u.out = .msix (.vf t) q.val (tget {} (s.fn (.vf t)).msix q.val).addr (tget {} (s.fn (.vf t)).msix q.val).data :: s.out)) ∧
    ((s.host p).held.length < 16777216 →
      ∃ u : State, exec (.journalAreaRoom p) s = .next ((u.prog.subs.filter (fun b => b.2.closing.any (fun x => hostOf x.start.tenant == p))).foldl
          (fun s b => s.closeKick (BitVec.ofNat 18 b.1)) u).settle ∧
        u.host p = { s.host p with heldStop := (s.host p).heldStop && decide (8388608 ≤ (s.host p).held.length) } ∧ { u with hosts := s.hosts } = s)

/-! ### Orders -/

/-- R366-R368, R371: the order ring. A doorbell that passes R114's check moves TAIL and fires its source; one that does not is logged and moves nothing. A
write of EN = 1 with DLOG 1-8 and aligned bases starts both rings at index 0; while EN = 1 a DLOG that differs is ignored and logged; EN = 0 drops all
but the order begun. Slots read with an owned MARK are taken, the first one not owned is read again after 160 ticks, a failed read answers each slot with
HOST-DMA, and 1 ms after its first read a slot never owned is answered with BAD-ORDER, detail 0x002.
The model's: OPC and OID of a slot never owned are of the bytes read (log 44); OQ_CTL is taken field by field (log 58). -/
def Obligations.OrderRings : Prop :=
  ∀ (p : HPort) (v : W32) (dlog : BitVec 4) (data : Bytes) (s : State),
    let o := s.oq p
    let logged := fun (u : State) => (u.fn (.pf p)).accerr = satInc (s.fn (.pf p)).accerr
    (s.reachable (.pf p) = true → v.toNat < 65536 →
      let n := (v.toNat + o.size - o.tail % o.size) % o.size
      (o.en = true → v.toNat < o.size → o.tail - o.head + n ≤ o.size - 1 →
        ∃ u : State, exec (.oqDb p v) s = .next u.settle ∧ (u.oq p).tail = o.tail + n ∧ (u.oq p).head = o.head ∧
          (u.evu 0).isPend (161 + p.val) = true ∧ { u with out := s.out, hosts := s.hosts, evus := s.evus, power := s.power } = s) ∧
      ((o.en = false ∨ o.size ≤ v.toNat ∨ o.size - 1 < o.tail - o.head + n) →
        ∃ u : State, exec (.oqDb p v) s = .next u.settle ∧ u.oq p = o ∧ logged u)) ∧
    (s.reachable (.pf p) = true →
      let ctl : W32 := BitVec.ofNat 32 (256 * dlog.toNat)
      (o.en = false → 1 ≤ dlog.toNat → dlog.toNat ≤ 8 → o.obase.toNat % 4096 = 0 → o.rbase.toNat % 4096 = 0 →
        ∃ u : State, exec (.oqEnable p (ctl ||| 1)) s = .next u.settle ∧
          u.oq p = { obase := o.obase, rbase := o.rbase, en := true, dlog := dlog, active := o.active } ∧ { u with hosts := s.hosts } = s) ∧
      (o.en = false → (dlog = 0 ∨ 8 < dlog.toNat ∨ o.obase.toNat % 4096 ≠ 0) →
        ∃ u : State, exec (.oqEnable p (ctl ||| 1)) s = .next u.settle ∧ u.oq p = o ∧ logged u) ∧
      (o.en = true → dlog ≠ o.dlog → ∃ u : State, exec (.oqEnable p (ctl ||| 1)) s = .next u.settle ∧ u.oq p = o ∧ logged u) ∧
      (o.en = true → dlog = o.dlog → ∃ u : State, exec (.oqDisable p ctl) s = .next u.settle ∧
        u.oq p = { obase := o.obase, rbase := o.rbase, dlog := o.dlog, active := o.active.map (fun a => { a with orphan := true }) } ∧
        { u with hosts := s.hosts } = s) ∧
      (o.en = false → ∃ u : State, exec (.oqDisable p ctl) s = .next u.settle ∧ u.oq p = { o with dlog := dlog })) ∧
    (∀ i, o.reading = some (i, 1) → s.readOpen p (.orderSlot p) = true →
      (data.length = 128 → (byteAt data 0).getLsbD 0 = passBit o.size i →
        ∃ u : State, exec (.orderFetchComplete p (.ok data)) s = .next u.settle ∧ tfind (u.oq p).slots i = some (.packet data) ∧ (u.oq p).fetch = i + 1 ∧
          (u.oq p).markWait = none) ∧
      (data.length = 128 → (byteAt data 0).getLsbD 0 ≠ passBit o.size i →
        ∃ u : State, exec (.orderFetchComplete p (.ok data)) s = .next u.settle ∧ (u.oq p).fetch = o.fetch ∧ (u.oq p).slots = o.slots ∧
          (u.oq p).markWait = some ((o.markWait.map (·.1)).getD s.clk.now, s.clk.now + 160)) ∧
      (∃ u : State, exec (.orderFetchComplete p .failed) s = .next u.settle ∧ tfind (u.oq p).slots i = some (.failed 0x4002 []) ∧ (u.oq p).fetch = i + 1) ∧
      (∃ u : State, exec (.orderFetchComplete p .refused) s = .next u.settle ∧ tfind (u.oq p).slots i = some (.failed 0x4001 []) ∧ (u.oq p).fetch = i + 1)) ∧
    (∀ w, o.markWait = some w → w.2 ≤ s.clk.now → o.reading = none →
      (w.1 + 156250 ≤ s.clk.now → ∃ u : State, exec (.orderMarkReread p) s = .next u.settle ∧
        tfind (u.oq p).slots o.fetch = some (.failed 0x2002 o.unowned) ∧ (u.oq p).fetch = o.fetch + 1 ∧ (u.oq p).markWait = none) ∧
      (s.clk.now < w.1 + 156250 → s.pfMaster p = true → ∃ u, exec (.orderMarkReread p) s = .next u ∧ u.oq p = { o with reading := some (o.fetch, 1) } ∧
        (o.obase.toNat % 4096 = 0 → 128 ≤ (s.host p).mrrs → 0 < (s.host p).tagsFree →
          u.out = .hostRead p none (o.obase + BitVec.ofNat 64 (128 * (o.fetch % o.size))) 128 (.orderSlot p) :: s.out)))

/-- R373, R378, R399, R400, R404: the orders that read or set one thing of the module. NOP-ECHO returns its bytes, IDENTIFY the running release and image, the port and
tenant counts, READ-TIME-BRIDGE the record of the last bridge, SET-TIME sets every copy of the timebase and clears BRIDGED. A reserved opcode, a reserved
header byte and a parameter out of range are answered with BAD-ORDER and the detail of R373, and nothing else changes.
The model's: an order's command begins the packet at the head of its ring (log 108); the reply of SET-TIME carries the new time (log 107). -/
def Obligations.SmallOrders : Prop :=
  ∀ (p : HPort) (b : Bytes) (s : State), orderStands s p b →
    let replies := fun (i : Instr) (status : W16) (result : Bytes) => ∃ u : State, exec i s = .next u.settle ∧
      answers p b s.clk.hub status result s u ∧ onlyReply s u
    (opcodeReal (byteAt b 1) = false → replies (.reservedOrderOpcode p) 0x2001 []) ∧
    (byteAt b 1 = 0x7F → allZero (bslice b 0x40 0x40) = true → replies (.nopEcho p) 0 (bslice b 0x10 0x30)) ∧
    (byteAt b 1 = 0x7F → ∀ n, firstBad b [(0x10, 0x30, true)] = some n → replies (.nopEcho p) (0x2000 + BitVec.ofNat 16 n) []) ∧
    (byteAt b 1 = 1 → allZero (bslice b 0x10 0x70) = true → ∃ r, replies (.identify p) 0 r ∧ u32 r 0 = Config.hifId ∧ u32 r 4 = s.fw.release ∧
      byteAt r 8 = (if s.fw.image then 1 else 0) ∧ byteAt r 9 = Config.cooling ∧
      byteAt r 0xA = (if s.fw.imgA.valid then 1 else 0) + (if s.fw.imgB.valid then 2 else 0) ∧ u64 r 0x10 = Config.serialNumber ∧
      u16 r 0x20 = BitVec.ofNat 16 s.portsUp ∧ u16 r 0x22 = BitVec.ofNat 16 s.tenantsBound ∧ u32 r 0x24 = BitVec.ofNat 32 s.faults.record.length) ∧
    (byteAt b 1 = 0x61 → allZero (bslice b 0x10 0x70) = true →
      (retValid s.keeper.ret = true → (s.keeper.ret.t2 ≠ 0 ∨ s.keeper.ret.kb ≠ 0) → ∃ r, replies (.readTimeBridge p) 0 r ∧ u64 r 0 = s.keeper.ret.t1 ∧ u64 r 8 = s.keeper.ret.t2 ∧
        u64 r 0x10 = s.keeper.ret.kb.setWidth 64 ∧ u32 r 0x18 = s.keeper.ret.frac ∧ byteAt r 0x1C = (if s.clk.bridged then 1 else 0) ∧
        u32 r 0x20 = s.keeper.ret.bridges) ∧
      (s.keeper.ret.t2 = 0 → s.keeper.ret.kb = 0 → replies (.readTimeBridge p) 0 [])) ∧
    (byteAt b 1 = 0x60 → s.foggy = false → u64 b 0x10 ≠ 0 → allZero (bslice b 0x18 0x68) = true →
      ∃ u : State, exec (.setTime p) s = .next u.settle ∧ answers p b (u64 b 0x10) 0 (le 8 s.clk.hub.toNat) s u ∧ u.clk.hub = u64 b 0x10 ∧
        u.clk.bridged = false ∧ (∀ d, (∃ v, (d, v) ∈ s.clk.dies) → tfind u.clk.dies d = some (u64 b 0x10)) ∧
        onlyReply { s with clk := u.clk, keeper := u.keeper } u)

/-- R95, R97, R203-R205, R380, R381: BIND-TENANT records the binding and writes the bind record; UNBIND-TENANT removes a tenant without outstanding entries, with its
queues, and in force stops its queues, ends every entry with ABORTED-QUEUE-RESET and waits, for at most 2 ms.
The model's: doorbells during a force unbind (log 59); ABORT at once (log 105); the count of a fenced queue (log 62). -/
def Obligations.TenantBindings : Prop :=
  ∀ (p : HPort) (b : Bytes) (s : State), orderStands s p b → s.list.loaded = true → s.foggy = false → hostOf (tenantAt b 0x10) = p →
    let t := tenantAt b 0x10
    let others := fun (u : State) => ∀ x, x ≠ t → u.tenant x = s.tenant x
    (byteAt b 1 = 3 → firstBad b (bindFields b) = none → (s.tenant t).binding = none → s.vfOn t = true →
      ∃ u : State, exec (.bindTenant p) s = .next u.settle ∧ answers p b s.clk.hub 0 [] s u ∧ others u ∧ u.queues.sqs = s.queues.sqs ∧
        u.queues.cqs = s.queues.cqs ∧ (∃ x, (u.tenant t).binding = some x ∧ x.jbase = u64 b 0x18 ∧ x.jdepth = (u32 b 0x20).toNat ∧
          x.nmaps = (u16 b 0x24).toNat ∧ x.cmbase = u64 b 0x28 ∧ (x.pasid.isSome = (byteAt b 0x12).getLsbD 0) ∧
          x.windows = (List.range (byteAt b 0x13).toNat).map (fun i => ⟨u64 b (0x30 + 16 * i), u64 b (0x38 + 16 * i)⟩)) ∧
        (s.safe = false → (s.host p).held = [] → (u.tenant t).jseq = (s.tenant t).jseq + 1 ∧ ∃ r, byteAt r 0 = 2 ∧
          .hostWrite p none (u64 b 0x18 + BitVec.ofNat 64 (128 * ((s.tenant t).jseq.toNat % (u32 b 0x20).toNat))) r ∈ u.out)) ∧
    (byteAt b 1 = 3 → firstBad b (bindFields b) = none → (s.tenant t).binding.isSome = true →
      ∃ u : State, exec (.bindTenant p) s = .next u.settle ∧ answers p b s.clk.hub 0x1005 [] s u ∧ onlyReply s u) ∧
    (byteAt b 1 = 4 → byteAt b 0x12 = 0 → firstBad b (unbindFields b) = none → (s.tenant t).binding.isSome = true → s.outstanding t = 0 →
      ∃ u : State, exec (.unbindTenantGentle p) s = .next u.settle ∧ answers p b s.clk.hub 0 [0, 0, 0, 0] s u ∧ (u.tenant t).binding = none ∧ others u ∧
        (∀ q, u.sq? t q = none ∧ u.cq? t q = none) ∧ u.prog.tokens = s.prog.tokens) ∧
    (byteAt b 1 = 4 → byteAt b 0x12 = 0 → firstBad b (unbindFields b) = none → (s.tenant t).binding.isSome = true → s.outstanding t ≠ 0 →
      ∃ u : State, exec (.unbindTenantGentle p) s = .next u.settle ∧ answers p b s.clk.hub 0x1007 [] s u ∧ onlyReply s u) ∧
    (byteAt b 1 = 4 → byteAt b 0x12 = 1 → firstBad b (unbindFields b) = none → (s.tenant t).binding.isSome = true →
      ∃ v : State, exec (.unbindTenantForce p) s = .next (((s.sqsOf t).foldl (fun v q =>
          (v.abortSq t q 0x08 1 2 false).modTenant t (fun x => { x with
            aborted := x.aborted + (((v.abortSq t q 0x08 1 2 false).sq? t q).map (·.aborted)).getD 0 })) v).setStage p (.unbindDrain t)).settle ∧
        (v.tenant t).stopped = true ∧ (v.tenant t).unbindDrain = some (s.clk.now + 312500) ∧ others v ∧ underWay p b .none v ∧
        (∀ q k, s.sq? t q = some k → ∃ n, v.sq? t q = some { k with resetting := true, reading := none, dmaStop := false, outst := n } ∧
          (k.fenced = false → n = k.outst)) ∧ v.prog = s.prog ∧ v.out = s.out) ∧
    (∀ d, (s.tenant t).unbindDrain = some d → d ≤ s.clk.now →
      exec (.unbindDrainExpiry t) s = .next (((s.progsOf (fun x => x.tenant == t)).foldl (fun v sc =>
        v.endProgram sc { code := 0x08, reason := 1, step := (v.prog? sc).bind (·.here) } 2) s).settle))

/-- R107, R124, R137, R167, R170, R176, R382-R385, R401-R403: the orders about queues, holds and tokens. Each is answered, with its result, and changes the one
queue, class, program or token it names; a queue, token or subchannel that does not fit is refused with the reason of R372.
The model's: RESET-QUEUE clears a DMA stop (log 60); the count of a fenced queue (log 62); ABORT at once (log 105). -/
def Obligations.QueueAndTokenOrders : Prop :=
  ∀ (p : HPort) (b : Bytes) (s : State), orderStands s p b → s.list.loaded = true → s.foggy = false →
    let t := tenantAt b 0x10
    let owner := tenantAt b 0x12
    let bound := (s.tenant t).binding.isSome = true
    let n := (u16 b 0x10).toNat
    let refused := fun (i : Instr) (reason : W16) => ∃ u : State, exec i s = .next u.settle ∧ answers p b s.clk.hub (0x1000 + reason) [] s u ∧ onlyReply s u
    (hostOf t = p → bound → ∀ q : QNum,
      (byteAt b 1 = 5 → byteAt b 0x12 = 0 → (byteAt b 0x13).toNat = q.val →
        firstBad b [tenantField b 0x10, (0x12, 1, true), (0x13, 1, true), (0x14, 4, powerIn 1 16 (num b 0x14 4)), (0x18, 8, s.baseOk b 64),
          (0x20, 1, (byteAt b 0x20).toNat ≤ 7), (0x21, 1, (byteAt b 0x21).toNat ≤ 7), (0x22, 2, num b 0x22 2 == 0), (0x24, 4, num b 0x24 4 == 0)] = none →
        (∀ c : QNum, c.val = (byteAt b 0x20).toNat → (s.cq? t c).isSome = true → s.sq? t q = none →
          ∃ u : State, exec (.createQueueSq p) s = .next u.settle ∧ answers p b s.clk.hub 0 [] s u ∧
            u.sq? t q = some { base := u64 b 0x18, depth := (u32 b 0x14).toNat, cq := c, cls := (byteAt b 0x21).setWidth 3 } ∧
            { u.queues with sqs := s.queues.sqs } = s.queues ∧ onlyReply { s with queues := u.queues } u) ∧
        ((s.sq? t q).isSome = true → refused (.createQueueSq p) 8)) ∧
      (byteAt b 1 = 5 → byteAt b 0x12 = 1 → (byteAt b 0x13).toNat = q.val →
        firstBad b [tenantField b 0x10, (0x12, 1, true), (0x13, 1, true), (0x14, 4, powerIn 1 16 (num b 0x14 4)), (0x18, 8, s.baseOk b 32),
          (0x20, 1, byteAt b 0x20 == 0), (0x21, 1, byteAt b 0x21 == 0), (0x22, 2, num b 0x22 2 != 0), (0x24, 4, num b 0x24 4 < 2 ^ 24)] = none →
        (s.cq? t q = none → ∃ u : State, exec (.createQueueCq p) s = .next u.settle ∧ answers p b s.clk.hub 0 [] s u ∧
            u.cq? t q = some { base := u64 b 0x18, depth := (u32 b 0x14).toNat, interval := (u32 b 0x24).toNat, threshold := (u16 b 0x22).toNat } ∧
            { u.queues with cqs := s.queues.cqs } = s.queues ∧ onlyReply { s with queues := u.queues } u) ∧
        ((s.cq? t q).isSome = true → refused (.createQueueCq p) 8)) ∧
      (byteAt b 1 = 7 → (byteAt b 0x12).toNat = q.val → (byteAt b 0x13).toNat ≤ 7 →
        firstBad b [tenantField b 0x10, (0x12, 1, true), (0x13, 1, true)] = none →
        (∀ k, s.sq? t q = some k → ∃ u : State, exec (.setQueuePriority p) s = .next u.settle ∧
          answers p b s.clk.hub 0 [BitVec.ofNat 8 k.cls.toNat] s u ∧ u.sq? t q = some { k with cls := (byteAt b 0x13).setWidth 3 } ∧
          { u.queues with sqs := s.queues.sqs } = s.queues ∧ onlyReply { s with queues := u.queues } u) ∧
        (s.sq? t q = none → refused (.setQueuePriority p) 9)) ∧
      (byteAt b 1 = 6 → (byteAt b 0x12).toNat = q.val → firstBad b [tenantField b 0x10, (0x12, 1, true)] = none →
        (∀ k, s.sq? t q = some k → ∃ v : State, exec (.resetQueue p) s = .next ((v.abortSq t q 0x08 0 2 false).setStage p (.resetDrain t q)).settle ∧
          (∃ n, v.sq? t q = some { k with resetting := true, reading := none, dmaStop := false, outst := n } ∧ (k.fenced = false → n = k.outst)) ∧
          underWay p b .none v ∧ v.prog = s.prog ∧ v.out = s.out) ∧
        (s.sq? t q = none → refused (.resetQueue p) 9))) ∧
    (hostOf t = p → bound → byteAt b 1 = 8 → (byteAt b 0x12).toNat ≤ 1 → ∀ sc : SC, (u32 b 0x14).toNat = sc.toNat →
      firstBad b [tenantField b 0x10, (0x12, 1, true), (0x14, 4, true)] = none →
      ((s.sub sc).named = true → (s.sub sc).tenant = t → ∀ x, s.prog? sc = some x → x.phase = .held →
        ∃ v : State, exec (.releaseHold p) s = .next ((v.choose sc none).fireProg sc 6).settle ∧ answers p b s.clk.hub 0 [] s v ∧
          v.prog? sc = some { x with
            pass := if byteAt b 0x12 = 1 then some x.flow else none, groups := [], asked := [], retries := 0, tried := [] } ∧
          onlyReply { s with prog := v.prog } v) ∧
      ((s.sub sc).named = false → refused (.releaseHold p) 0xB) ∧
      ((s.sub sc).named = true → (s.sub sc).tenant = t → s.prog? sc = none → refused (.releaseHold p) 0xA)) ∧
    (hostOf owner = p →
      (byteAt b 1 = 0x70 → firstBad b (tokenFields b ++ [(0x14, 1, true), (0x16, 2, true)]) = none → (s.tenant owner).binding.isSome = true →
        (s.token? n = none → ∃ u : State, exec (.tokenCreate p) s = .next u.settle ∧ answers p b s.clk.hub 0 [] s u ∧
          u.token? n = some { rank := (byteAt b 0x14).toNat, owner := owner, value := (u16 b 0x16).toNat } ∧ u.prog.subs = s.prog.subs ∧
          (∀ m, m ≠ n → u.token? m = s.token? m)) ∧
        ((s.token? n).isSome = true → refused (.tokenCreate p) 0x10)) ∧
      (∀ k, s.token? n = some k → k.owner = owner →
        (byteAt b 1 = 0x71 → firstBad b (tokenFields b) = none → k.waiters = [] → s.namers n = 0 →
          ∃ u : State, exec (.tokenDestroy p) s = .next u.settle ∧ answers p b s.clk.hub 0 [] s u ∧ u.token? n = none ∧ u.prog.subs = s.prog.subs ∧
            (∀ m, m ≠ n → u.token? m = s.token? m)) ∧
        (byteAt b 1 = 0x71 → firstBad b (tokenFields b) = none → (k.waiters ≠ [] ∨ s.namers n ≠ 0) → refused (.tokenDestroy p) 0x12) ∧
        (byteAt b 1 = 0x72 → firstBad b (tokenFields b) = none → k.fenced = false →
          ∃ u : State, exec (.tokenRead p) s = .next u.settle ∧ onlyReply s u ∧
            answers p b s.clk.hub 0 ([BitVec.ofNat 8 k.rank, 0] ++ le 2 k.value ++ le 4 k.waiters.length ++ le 4 (k.waiters.headD 0xFFFFFFFF) ++
              le 4 (s.namers n)) s u)) ∧
      (s.token? n = none → byteAt b 1 = 0x72 → firstBad b (tokenFields b) = none → refused (.tokenRead p) 0x11))

/-- R79, R94, R100, R281, R379, R386-R388: PORT-ENABLE, PORT-FENCE, PATH-GROUP-EDIT and LOAD-LIGHT-LIST. PORT-ENABLE lifts its fences and is answered at UP or 1 s later;
PORT-FENCE raises its fence and ends every open exchange; an edit replaces the group's paths; a list is read, and is answered with its REASON and its
digest, or its records take effect.
The model's: the digest over the bytes that arrived (log 64); ENDED counts sent exchanges (log 68). -/
def Obligations.PortAndListOrders : Prop :=
  (∀ (p : HPort) (b : Bytes) (d : DPort) (s : State), orderStands s p b → s.foggy = false →
    let refused := fun (i : Instr) (reason : W16) => ∃ u : State, exec i s = .next u.settle ∧ answers p b s.clk.hub (0x1000 + reason) [] s u ∧ onlyReply s u
    (s.list.loaded = true → (byteAt b 0x10).toNat = d.val → allZero (bslice b 0x11 0x6F) = true →
      let x := s.port d
      (byteAt b 1 = 0x10 → x.retired = false → (x.fences = [] ∨ .identity ∈ x.fences ∨ .order ∈ x.fences ∨ .balance ∈ x.fences) →
        ∃ v : State, exec (.portEnable p) s = .next ((v.enablePort d).setStage p (.portUp d ((v.enablePort d).clk.now + 156250000) ((v.enablePort d).port d).fences)).settle ∧
          underWay p b .none v ∧ v.ports = s.ports ∧ v.prog = s.prog ∧ v.out = s.out) ∧
      (byteAt b 1 = 0x10 → (x.retired = true ∨ (x.fences ≠ [] ∧ .identity ∉ x.fences ∧ .order ∉ x.fences ∧ .balance ∉ x.fences)) →
        refused (.portEnable p) 0xC) ∧
      (byteAt b 1 = 0x11 → ∃ v : State, exec (.portFence p) s =
          .next ((v.allExch d (fun v g => v.abortPath d 5 g)).setStage p (.portFence d (x.exch.filter (fun e => e.2.sent)).length)).settle ∧
        .order ∈ (v.port d).fences ∧ (v.port d).exch = x.exch ∧ underWay p b .none v ∧ v.prog = s.prog)) ∧
    (s.list.loaded = true → byteAt b 1 = 0x12 → firstBad b (s.editFields b) = none →
      let pg := (u32 b 0x10).toNat
      (∀ g, tfind s.list.groups pg = some g → (∀ x ∈ editPaths b, ∀ h ∈ s.list.groups, x ∈ h.2.paths → h.2.cu = g.cu) →
        ∃ v : State, exec (.pathGroupEdit p) s = .next ((v.editGroup pg (editPaths b)).setStage p (.groupEdit pg)).settle ∧ underWay p b .none v ∧
          v.list = s.list ∧ v.ports = s.ports ∧ v.out = s.out) ∧
      (tfind s.list.groups pg = none → refused (.pathGroupEdit p) 0x16)) ∧
    (byteAt b 1 = 2 → (u64 b 0x10).toNat % 64 = 0 → 64 ≤ (u32 b 0x18).toNat → (u32 b 0x18).toNat ≤ 7340288 → allZero (bslice b 0x1C 0x64) = true →
      ∃ u : State, exec (.loadLightList p) s = .next u.settle ∧ underWay p b (.listRead (u64 b 0x10) (u32 b 0x18).toNat) u ∧ u.out = s.out ∧ onlyReply s u)) ∧
  (∀ (p : HPort) (a : Active) (d : DPort) (deadline : Nat) (left : List FenceCause) (s : State), (s.oq p).active = some a → a.index = (s.oq p).head →
    byteAt a.packet 1 = a.opc → a.orphan = false → a.restarted = false → a.after = .none → s.pfMaster p = true → s.cores.tenderUp = true → a.stage = .portUp d deadline left →
    deadline ≤ s.clk.now →
    ∃ u : State, exec (.portEnableTimeout p) s = .next u.settle ∧ answers p a.packet s.clk.hub 0 (le 4 (slpState (s.port d)).toNat) s u ∧ onlyReply s u) ∧
  (∀ (p : HPort) (a : Active) (addr : W64) (len : Nat) (got : Bytes) (s : State), (s.oq p).active = some a → a.index = (s.oq p).head →
    byteAt a.packet 1 = a.opc → a.orphan = false → a.restarted = false → a.after = .none → s.pfMaster p = true → s.cores.tenderUp = true → a.stage = .listRead addr len →
    s.readOpen p (.lightList p) = true →
    (∃ u : State, exec (.lightListReadComplete p got false) s = .next u.settle ∧
      answers p a.packet s.clk.hub 0x300E (le 4 got.length ++ zeros 4 ++ le 8 (llDigest got).toNat) s u ∧ onlyReply s u) ∧
    (got.length = len → ∀ reason off, s.listCheck got = some (reason, off) →
      ∃ u : State, exec (.lightListReadComplete p got true) s = .next u.settle ∧
        answers p a.packet s.clk.hub (BitVec.ofNat 16 (0x3000 + reason)) (le 4 off ++ zeros 4 ++ le 8 (llDigest got).toNat) s u ∧ onlyReply s u) ∧
    (got.length = len → s.listCheck got = none → ∃ v : State, v = { s with hosts := v.hosts, out := v.out } ∧ v.oq p = s.oq p ∧
      exec (.lightListReadComplete p got true) s = .next (((((v.applyList got).1.effected p).onceReplied p
        (.waves (!s.list.loaded) (v.applyList got).2)).done p (zeros 8 ++ le 8 (llDigest got).toNat)).settle))) ∧
  (∀ (b : Bytes) (s : State), byteAt b 6 = 0 →
    let u := s.listRecords b
    u.list.loaded = true ∧ u.list.hashkey = some (s.list.hashkey.getD (u64 b 0x20)) ∧ u.list.inletWarn = u16 b 0x18 ∧ u.list.inletMax = u16 b 0x1A ∧
      (∀ c, c < 12 → tfind u.list.cages c = some (llCage b c)) ∧ { u with list := s.list } = s)

/-- R391-R396: the orders that set policy, windows and sites, and read signatures and the fault log. Each is answered with what the rule gives.
The model's: a PLIMIT of 0 ends the hold (log 63); READ-FAULT-LOG waits for the PF (log 65); a reserved site code is out of range (log 113). -/
def Obligations.ModuleOrders : Prop :=
  ∀ (p : HPort) (b : Bytes) (s : State), orderStands s p b →
    let refused := fun (i : Instr) (reason : W16) => ∃ u : State, exec i s = .next u.settle ∧ answers p b s.clk.hub (0x1000 + reason) [] s u ∧ onlyReply s u
    let w := (u16 b 0x10).toNat
    (byteAt b 1 = 0x22 → s.foggy = false → (w = 0 ∨ (190 ≤ w ∧ w ≤ 330)) → (byteAt b 0x12).toNat ≤ 1 → allZero (bslice b 0x13 0x6D) = true →
      ∃ u : State, exec (.setSupplyPolicy p) s = .next u.settle ∧
        answers p b s.clk.hub 0 (le 2 s.power.plimit.toNat ++ [if s.power.shed then 1 else 0]) s u ∧ u.power.plimit = u16 b 0x10 ∧
        u.power.shed = (byteAt b 0x12).getLsbD 0 ∧ (w ≠ 0 → u.power.throttle = s.power.throttle ∧ u.ports = s.ports) ∧ (w = 0 → u.power.throttle = false)) ∧
    (byteAt b 1 = 0x31 → (byteAt b 0x10).toNat ≤ 61 → (byteAt b 0x11 = 1 ∨ byteAt b 0x11 = 2) → allZero (bslice b 0x12 0x6E) = true →
      let key := 2 * (byteAt b 0x10).toNat + (if byteAt b 0x11 = 2 then 1 else 0)
      (∀ h, tfind s.fw.sigs key = some h → ∃ u : State, exec (.readSignature p) s = .next u.settle ∧
        answers p b s.clk.hub 0 (le 8 h.misr.toNat ++ le 8 h.time.toNat ++ le 4 h.release.toNat) s u ∧ onlyReply s u) ∧
      (tfind s.fw.sigs key = none → refused (.readSignature p) 0x18)) ∧
    (byteAt b 1 = 0x40 → s.foggy = false → byteAt b 0x15 ≠ 0 → 1 ≤ (u32 b 0x18).toNat → (u32 b 0x18).toNat ≤ 86400 →
      allZero (bslice b 0x16 2) = true → allZero (bslice b 0x1C 0x64) = true →
      let t := (byteAt b 0x15).toNat
      (byteAt b 0x14 = 0 → siteNamed (u32 b 0x10) = false → ∃ u : State, exec (.setFaultWindow p) s = .next u.settle ∧
        answers p b s.clk.hub 0x2010 [] s u ∧ onlyReply s u) ∧
      (byteAt b 0x14 = 0 → siteNamed (u32 b 0x10) = true → ∃ u : State, exec (.setFaultWindow p) s = .next u.settle ∧
        answers p b s.clk.hub 0 ([BitVec.ofNat 8 (s.windowOf (u32 b 0x10)).1, 0, 0, 0] ++ le 4 (s.windowOf (u32 b 0x10)).2) s u ∧
        u.windowOf (u32 b 0x10) = (t, (u32 b 0x18).toNat) ∧ (∀ x, x ≠ u32 b 0x10 → u.windowOf x = s.windowOf x) ∧
        (∀ x, (tget {} u.faults.windows x).times = (tget {} s.faults.windows x).times) ∧ u.faults.dflt = s.faults.dflt) ∧
      (byteAt b 0x14 = 1 → u32 b 0x10 = 0 → ∃ u : State, exec (.setFaultWindow p) s = .next u.settle ∧
        answers p b s.clk.hub 0 ([BitVec.ofNat 8 s.faults.dflt.1, 0, 0, 0] ++ le 4 s.faults.dflt.2) s u ∧ ∀ x, u.windowOf x = (t, (u32 b 0x18).toNat))) ∧
    (byteAt b 1 = 0x41 → (u64 b 0x10).toNat % 4096 = 0 → (u32 b 0x1C).toNat ≤ 4096 → allZero (bslice b 0x20 0x60) = true → ∀ dw : Bytes,
      (∃ u : State, exec (.readFaultLog p (.ok dw)) s = .next u.settle ∧
        answers p b s.clk.hub 0 (le 4 (s.faults.wanted (u32 b 0x18) (u32 b 0x1C).toNat).length ++ le 4 s.faults.oldest.toNat ++ le 4 s.faults.next.toNat ++
          le 4 s.faults.lost.toNat) s u ∧ u.faults = { s.faults with lost := 0 } ∧ u.data.ceCnt = 0 ∧ u.data.ueCnt = 0 ∧ u.data.poisRd = 0 ∧
        u.data.imbalPk = 0 ∧ u.data.smallHeld = 0 ∧ u.data.scrubPass = s.data.scrubPass ∧
        (∀ d : DPort, (u.port d).stale = 0 ∧ (u.port d).frmerr = 0 ∧ (u.port d).retrains = 0 ∧ (u.port d).link = (s.port d).link)) ∧
      (∃ u : State, exec (.readFaultLog p .failed) s = .next u.settle ∧ answers p b s.clk.hub 0x4002 [] s u ∧ onlyReply s u) ∧
      (∃ u : State, exec (.readFaultLog p .refused) s = .next u.settle ∧ answers p b s.clk.hub 0x4001 [] s u ∧ onlyReply s u)) ∧
    (byteAt b 1 = 0x42 → s.foggy = false → allZero (bslice b 0x14 0x6C) = true →
      let site := u32 b 0x10
      (siteNamed site = false → ∃ u : State, exec (.retireSite p) s = .next u.settle ∧ answers p b s.clk.hub 0x2010 [] s u ∧ onlyReply s u) ∧
      (siteNamed site = true → s.siteRefused site = false → ∃ v : State, { v with hosts := s.hosts, orders := s.orders, power := s.power } = s ∧ underWay p b .none v ∧
        exec (.retireSite p) s = .next (((v.actSite site 0 1).1.effected p).done p [BitVec.ofNat 8 (v.actSite site 0 1).2]).settle) ∧
      (siteNamed site = true → s.siteRefused site = true → refused (.retireSite p) 0x13)) ∧
    (byteAt b 1 = 0x30 → s.foggy = false → u64 b 0x10 ≠ 0 → (u64 b 0x10).toNat < 2 ^ 62 → 1 ≤ (byteAt b 0x18).toNat → (byteAt b 0x18).toNat ≤ 3 →
      allZero (bslice b 0x19 0x67) = true → s.otherActive p exclusive = false → (∀ n, (u64 b 0x10).getLsbD n = true → s.offRefusal p n = none) →
      ∃ v : State, v.fw = { s.fw with tests := [], failedDoms := 0 } ∧ underWay p b .none v ∧ v.out = s.out ∧
        { v with hosts := s.hosts, orders := s.orders, power := s.power, fw := s.fw } = s ∧
        exec (.startSelfTest p) s = .next (((((((List.range 62).filter (fun n => (u64 b 0x10).getLsbD n)).foldl
          (fun v n => v.withdrawForTest (byteAt b 0x18).toNat n) v).effected p).setStage p .selfTest).startTests).settle))

/-! ### Power, supply, clocks -/

/-- R389, R427-R432: domains. DOMAIN-POWER asks a domain on, with the Lamp clusters it depends on, or off, and is answered when it has switched, at once where there is
nothing to switch; a domain that may not be switched is refused with 0x00D or 0x00E. What is due switches, and fires the domain's source; a drain
that is over ends what is left with ABORTED-DOMAIN-WITHDRAWN.
The model's: a dark die's domains (log 84). -/
def Obligations.PowerDomains : Prop :=
  (∀ (p : HPort) (b : Bytes) (n : Dom) (s : State), orderStands s p b → s.foggy = false → byteAt b 1 = 0x20 → (byteAt b 0x10).toNat = n.val →
    allZero (bslice b 0x12 0x6E) = true →
    let refused := fun (i : Instr) (reason : W16) => ∃ u : State, exec i s = .next u.settle ∧ answers p b s.clk.hub (0x1000 + reason) [] s u ∧ onlyReply s u
    (byteAt b 0x11 = 1 → s.onRefusal n.val = none →
      (s.domOn n.val = false → ∃ u : State, exec (.domainPowerOn p) s = .next u.settle ∧ underWay p b (.domainSwitch n) u ∧
        (u.dom n.val).switching = some true ∧ (n.val < 48 → ∀ k ∈ s.lcsOf n.val, s.domOn k = false → (u.dom k).switching = some true) ∧ u.ports = s.ports ∧ u.out = s.out) ∧
      (s.domOn n.val = true → ∃ u : State, exec (.domainPowerOn p) s = .next u.settle ∧ answers p b s.clk.hub 0 [0, 0, 0, 0] s u ∧ u.domOn n.val = true ∧
        (u.dom n.val).switching ≠ some false)) ∧
    (byteAt b 0x11 = 1 → ∀ r, s.onRefusal n.val = some r → refused (.domainPowerOn p) (BitVec.ofNat 16 r)) ∧
    (byteAt b 0x11 = 0 → s.offRefusal p n.val = none →
      (s.domOn n.val = true → (s.dom n.val).switching = none → ∃ v : State, underWay p b .none v ∧ v.ports = s.ports ∧ v.out = s.out ∧ v.power.domains = s.power.domains ∧
        exec (.domainPowerOff p) s = .next ((((v.requestOff n.val).effected p).setStage p (.domainSwitch n))).settle) ∧
      (s.domOn n.val = false → ∃ u : State, exec (.domainPowerOff p) s = .next u.settle ∧ answers p b s.clk.hub 0 [0, 0, 0, 0] s u ∧
        (u.dom n.val).switching = none ∧ u.ports = s.ports)) ∧
    (byteAt b 0x11 = 0 → ∀ r, s.offRefusal p n.val = some r → refused (.domainPowerOff p) (BitVec.ofNat 16 r)) ∧
    (s.offRefusal p 60 = some 0xD ∧ s.offRefusal p (58 + p.val) = some 0xD ∧ (s.list.loaded = true → s.offRefusal p 56 = some 0xD))) ∧
  (∀ (n : Dom) (s : State),
    (48 ≤ n.val → n.val < 58 → (s.dom n.val).on = true → (s.dom n.val).switching = none → ((s.requestOff n.val).dom n.val) =
      { s.dom n.val with switching := some false, withdrawn := true, ended := 0, drainUntil := none }) ∧
    (s.switchDue n.val = true → ∃ v : State, exec (.domainSwitchComplete n) s =
        .next ((((v.fire 0 (196 + n.val)).domainReply n.val (s.dom n.val).ended).startTests).testReply).settle ∧
      v = (if (s.dom n.val).switching = some true then s.domainOn n.val else s.domainOff n.val)) ∧
    ((s.domainOn 61).dom 61 = { on := true } ∧ ((s.domainOff 61).dom 61).on = false ∧ ((s.domainOff 61).dom 61).switching = none) ∧
    (∀ x, (s.dom n.val).drainUntil = some x → x ≤ s.clk.now → ∃ v : State,
      exec (.domainDrainExpiry n) s =
        .next ((ppPorts n.val).foldl (fun v d => v.allExch d (fun v g => v.abortEnd d 6 0x09 (BitVec.ofNat 8 n.val) g)) v).settle ∧
      v.dom n.val = { s.dom n.val with drainUntil := none, ended := (v.dom n.val).ended } ∧ (s.dom n.val).ended ≤ (v.dom n.val).ended ∧
      v.ports = s.ports ∧ v.out = s.out ∧ v.prog = s.prog))

/-- R390, R437, R439-R446, R451: sleep. ENTER-SLEEP arms the keeper; at the commit edge an enabled source that has fired answers WAKE-PENDING and nothing
has changed, and without one the order is done and the retention file holds mode, mask and alarm; the entry freezes the timebase; a source wakes; the PLL locks;
the timebase advances by R451's product over 2^32; WAKE# is released after 1 s. Idle begins after 100 µs without work.
The model's: the wake cause (log 85); a wrong retention file (log 86 names the case left out here). -/
def Obligations.SleepAndWake : Prop :=
  (∀ (p : HPort) (b : Bytes) (mode : BitVec 2) (s : State), orderStands s p b → s.foggy = false → byteAt b 1 = 0x21 → (mode = 2 ∨ mode = 3) →
    byteAt b 0x10 = mode.setWidth 8 → allZero (bslice b 0x11 3) = true → u32 b 0x14 ≠ 0 → (u32 b 0x14).toNat ≤ 0x1F → (u64 b 0x18).toNat < 2 ^ 48 →
    allZero (bslice b 0x20 0x60) = true → s.otherActive p exclusive = false →
    (s.maySleep = true → ∃ u : State, exec (if mode = 3 then .enterSleepHold p else .enterSleepDoze p) s = .next u.settle ∧ underWay p b (.sleep mode) u ∧
      u.keeper.wakeMask = u32 b 0x14 ∧ u.keeper.wakeAt = (u64 b 0x18).setWidth 48 ∧ u.keeper.sleepReq = mode ∧ u.keeper.decide = 0 ∧
      u.orders.sleeping = true ∧ u.queues = s.queues ∧ u.out = s.out) ∧
    (s.maySleep = false → ∃ u : State, exec (if mode = 3 then .enterSleepHold p else .enterSleepDoze p) s = .next u.settle ∧
      answers p b s.clk.hub 0x100F [] s u ∧ onlyReply s u)) ∧
  (∀ (p : HPort) (mode : BitVec 2) (a : Active) (wakeLow sense0Low : Bool) (s : State), s.sleeper = some (p, mode) → (s.oq p).active = some a →
    a.index = (s.oq p).head → byteAt a.packet 1 = a.opc → a.orphan = false → a.restarted = false → s.pfMaster p = true → s.cores.tenderUp = true →
    (s.keeper.pendingWake wakeLow sense0Low = true →
      ∃ u : State, exec (.sleepCommitEdge wakeLow sense0Low) s = .next u.settle ∧ answers p a.packet s.clk.hub 0x5000 [] s u ∧ u.keeper.decide = 2 ∧
        u.orders.sleeping = false ∧ u.power.domains = s.power.domains) ∧
    (s.keeper.pendingWake wakeLow sense0Low = false →
      ∃ v : State, answers p a.packet s.clk.hub 0 [] s v ∧ v.keeper.decide = 1 ∧ v.keeper.ret.mode = mode.setWidth 8 ∧ retValid v.keeper.ret = true ∧
        v.keeper.ret.wakeMask = s.keeper.wakeMask ∧ v.keeper.ret.wakeAt = s.keeper.wakeAt ∧
        exec (.sleepCommitEdge wakeLow sense0Low) s =
          .next ((((((v.flushHeld 0).flushHeld 1).dropBells).sleepHost 0).sleepHost 1).repace).settle)) ∧
  (∀ (i : Fin 5) (s : State),
    let k := s.keeper
    (k.decide = 1 → k.sleepReq = 2 → k.wakeCause &&& k.wakeMask = 0 → ∃ t, exec .timebaseFreeze s = .next t ∧ t.power.mode = .doze ∧ t.clk.running = false ∧
      t.keeper.ret.t1 = s.clk.hub ∧ t.keeper.ret.k1 = k.counter ∧ retValid t.keeper.ret = true ∧ t.keeper.pllLocked = false ∧ t.ports = s.ports ∧ t.queues = s.queues) ∧
    (k.decide = 1 → k.sleepReq = 3 → k.wakeCause &&& k.wakeMask = 0 → ∃ t, exec .timebaseFreeze s = .next t ∧ t.power.mode = .hold ∧ t.power.domains = [] ∧
      t.keeper.ret.t1 = s.clk.hub ∧ t.keeper.ret.k1 = k.counter ∧ t.queues = {} ∧ t.data.inService = false) ∧
    (s.power.mode = .doze → k.wakes i.val = true → s.foggy = false → k.waking = false →
      ∃ t, exec (.wakeFromDoze i) s = .next t ∧ t.keeper.waking = true ∧ t.keeper.wakeCause = k.wakeCause ||| (1#32 <<< i.val) ∧
        (t.evu 0).isPend 166 = true ∧ t.clk = s.clk) ∧
    (s.power.mode = .hold → k.wakes i.val = true → s.foggy = false → k.waking = false →
      ∃ t, exec (.wakeFromHold i) s = .next t ∧ t.keeper.waking = true ∧ t.power.mode = .run ∧ t.keeper.pllLocked = true ∧ t.fw.rails = true ∧
        ∀ n, 48 ≤ n → n < 62 → t.domOn n = true) ∧
    (s.power.mode = .doze → k.wakes i.val = true → s.foggy = true →
      ∃ t, exec (.wakeFromDoze i) s = .next t ∧ t = { s with keeper := { k with wakeCause := k.wakeCause ||| (1#32 <<< i.val) } }) ∧
    (s.power.mode = .doze → k.waking = true → exec .pllLock s = .next { s with keeper := { k with pllLocked := true } }) ∧
    (s.power.mode = .doze → k.waking = true → k.pllLocked = true → retValid k.ret = true → k.ret.mode ≠ 0 →
      ∃ u v : State, exec .timebaseBridge s = .next u.settle ∧ u = (((v.domainOn 58).domainOn 59)).driveWake ∧
        let x := (k.counter - k.ret.k1).toNat * 0x12A05F200000 + k.ret.frac.toNat
        v.clk.hub = k.ret.t1 + BitVec.ofNat 64 (x / 2 ^ 32) ∧ v.clk.bridged = true ∧ v.clk.running = true ∧ v.keeper.ret.frac = BitVec.ofNat 32 x ∧
        v.keeper.ret.kb = k.counter - k.ret.k1 ∧ v.keeper.ret.bridges = k.ret.bridges + 1 ∧ retValid v.keeper.ret = true ∧ v.power.mode = .run ∧
        v.orders.sleeping = false ∧ v.keeper.waking = false ∧ v.ports = s.ports) ∧
    (∀ x, k.wakeUntil = some x → x ≤ s.clk.now →
      exec .wakeDriveTimeout s = .next { s with keeper := { k with wakeUntil := none }, out := .wake false :: s.out }) ∧
    (s.power.mode = .run → s.idleNow = true → s.power.quietAt + 15625 ≤ s.clk.now →
      exec .idleEntry s = .next { s with power := { s.power with mode := .idle } }))

/-- R140, R288, R434-R436, R454, R455, R459: the fog signal and the resets. The signal is raised once, with its line, its vectors and FOGAT; its clear takes the line
back; over-voltage is logged once an excursion; a module reset, a lost PLL and a keeper reset leave what R455 says they leave.
The model's: what a reset keeps (logs 75, 76); the thresholds in 25 mV, and which readings a crossing goes with (logs 89, 140). -/
def Obligations.FogAndResets : Prop :=
  (∀ (v : BitVec 12) (s : State),
    let seen : State := { s with keeper := { s.keeper with supply := v, lowAt := if v.toNat < 1400 then s.clk.now else s.keeper.lowAt } }
    ((s.power.mode = .run ∨ s.power.mode = .idle ∨ s.power.mode = .doze) → s.foggy = false → v.toNat ≤ 1400 →
      ∃ u w : State, exec (.fogSignal v) s = .next u.settle ∧ w.keeper.fog = true ∧ w.keeper.supply = v ∧ w.keeper.ret.fogAt = s.keeper.counter ∧
        retValid w.keeper.ret = true ∧ (retValid s.keeper.ret = true → w.keeper.ret.fogs = s.keeper.ret.fogs + 1) ∧
        w.out = .smbAlert true :: .pwrWarn true :: s.out ∧ { w with keeper := s.keeper, out := s.out } = s ∧
        ∃ x : State, x = ((((w.fire 0 165).fireSlots 26).pfVector 1).vfVectors 8) ∧
          u = (((((((x.fogSleep).shedPower).queues.sqs.foldl (fun y q => y.abortSq (queueTenant q.1) (queueNum q.1) 0x0A 0 7 true)
            ((x.fogSleep).shedPower)).fogExchanges).onFw (fun f => { f with tests := f.tests.map (fun t => { t with started := false }) })).flushHeld 0).flushHeld 1)) ∧
    ((s.foggy = true ∨ 1400 < v.toNat) → exec (.fogSignal v) s = .next seen) ∧
    (s.foggy = true → s.power.mode ≠ .off → 1400 ≤ v.toNat → s.keeper.lowAt + 15625000 ≤ s.clk.now → ∃ u w : State, exec (.fogClear v) s = .next u.settle ∧ w.keeper.fog = false ∧ w.keeper.supply = v ∧
      w.out = .smbAlert s.safe :: .pwrWarn false :: s.out ∧ { w with keeper := s.keeper, out := s.out } = s ∧
      ∃ l, u.out = l ++ w.out ∧ u.keeper.fog = false) ∧
    ((s.foggy = false ∨ v.toNat < 1400 ∨ s.clk.now < s.keeper.lowAt + 15625000) → exec (.fogClear v) s = .next seen) ∧
    (v.toNat ≤ 3020 → exec (.overVoltage v) s = .next { s with keeper := { s.keeper with supply := v, overV := false } }) ∧
    (3020 < v.toNat → s.keeper.overV = true → exec (.overVoltage v) s = .next { s with keeper := { s.keeper with supply := v, overV := true } }) ∧
    (3020 < v.toNat → s.keeper.overV = false → s.data.inService = true → ∃ u : State, exec (.overVoltage v) s = .next u.settle ∧ u.keeper.overV = true ∧
      u.keeper.supply = v ∧ u.faults.next = s.faults.next + 1 ∧ u.queues = s.queues ∧ u.ports = s.ports)) ∧
  (∀ (v : BitVec 12) (s : State),
    let gone := fun (t : State) => t.power = {} ∧ t.queues = {} ∧ t.prog = {} ∧ t.list = {} ∧ t.vfs = [] ∧ t.evus = [] ∧ t.banks = [] ∧ t.boxes = [] ∧
      t.orders = {} ∧ t.therm = {} ∧ t.clk.running = false ∧ t.data.inService = false ∧ t.faults.log = [] ∧ t.faults.safe = none ∧ t.cores.tenderUp = false ∧
      (∀ p, t.oq p = {} ∧ t.fn (.pf p) = {} ∧ (t.host p).perst = (s.host p).perst ∧ (t.host p).link = false) ∧
      (∀ d, (t.port d).link = 0 ∧ (t.port d).exch = [] ∧ (t.port d).fences = [] ∧ ((s.port d).retired = true → (t.port d).retired = true))
    let kept := fun (t : State) => t.faults.record = s.faults.record ∧ t.faults.spares = s.faults.spares ∧ t.fw.imgA = s.fw.imgA ∧ t.fw.imgB = s.fw.imgB ∧
      t.fw.run = s.fw.run ∧ t.keeper.counter = s.keeper.counter ∧ t.keeper.wakeMask = s.keeper.wakeMask
    ((s.power.mode = .run ∨ s.power.mode = .idle ∨ s.power.mode = .doze) → v.toNat ≤ 1220 → ∃ t, exec (.moduleReset v) s = .next t ∧ gone t ∧ kept t ∧ t.keeper.supply = v ∧
      t.keeper.ret.rstCause = 2 ∧ retValid t.keeper.ret = true ∧ t.keeper.fog = true) ∧
    (s.keeper.pllLocked = true → (s.power.mode = .run ∨ s.power.mode = .idle) → ∃ t, exec .rootPllLockLoss s = .next t ∧ gone t ∧ kept t ∧
      t.keeper.ret.rstCause = 3) ∧
    (∃ t, exec .keeperReset s = .next t ∧ gone t ∧ t.keeper = {} ∧ t.side = { pins := s.side.pins } ∧ t.faults.record = s.faults.record ∧ t.fw.imgA = s.fw.imgA))

/-- R423, R446, R448, R456-R463, R467: bring-up. Power-good starts rails, PLL and boot timer; rails that failed are tried again each second, three times; the hub core, the
carrier links, the Tender's boot, the staging memory and readiness follow one another; a failed boot marks its image invalid and resets the module.
The model's: the retry and the boot timer (log 78); the fog signal at power-good (log 80); the retention file after a keeper reset (log 77); a mismatch of the hub core (log 83). -/
def Obligations.BringUp : Prop :=
  (∀ (v : BitVec 12) (s : State), s.power.mode = .off → 1220 ≤ v.toNat → (∀ x, s.keeper.railAt = some x → x ≤ s.clk.now) →
    ∃ t, exec (.powerGood v) s = .next t ∧ t.power.mode = .run ∧ t.keeper.supply = v ∧ t.keeper.pllLocked = true ∧ t.fw.rails = true ∧
      t.keeper.railAt = some (s.clk.now + 156250000) ∧ t.keeper.bootAt = some (s.clk.now + 15625000) ∧ retValid t.keeper.ret = true ∧
      t.keeper.ret.rstCause = s.keeper.rstCause ∧ (∀ n, t.domOn n = (decide (48 ≤ n) && decide (n < 62))) ∧
      ((s.keeper.rstCause = 1 ∨ s.keeper.rstCause = 2) → t.keeper.fog = true) ∧
      (∀ p, (s.host p).perst = false → .retryStatus p ∈ t.out) ∧ t.ports = s.ports ∧ t.queues = s.queues) ∧
  (∀ (good : Bool) (x : Nat) (s : State), s.keeper.railAt = some x → x ≤ s.clk.now → s.power.mode = .run → s.fw.hub = false → s.keeper.railTries < 3 →
    exec (.railRetry good) s = .next { s with
      keeper := { s.keeper with railTries := s.keeper.railTries + 1, pllLocked := good, railAt := some (s.clk.now + 156250000), bootAt := some (s.clk.now + 15625000) }
      fw := { s.fw with rails := good } }) ∧
  (∀ s : State, s.power.mode = .run → s.fw.rails = true → s.keeper.pllLocked = true → s.fw.hub = false →
    (∃ u : State, exec (.hubCoreRelease true) s = .next u.settle ∧ u.fw = { s.fw with hub := true } ∧ u.clk.hub = 0 ∧ u.clk.running = !s.keeper.waking ∧
      (∀ a i, u.acct a i = ⟨0, 0⟩) ∧ u.keeper = { s.keeper with railAt := none }) ∧
    (s.safe = false → ∃ u v : State, exec (.hubCoreRelease false) s = .next u.settle ∧ u = v.enterSafe 2 (dieSite 0) ∧ v.safe = false)) ∧
  (∀ (d : Die) (s : State), s.fw.hub = true → tfind s.fw.links d.val = none →
    (∃ t, exec (.carrierLinkTrained d true) s = .next t ∧ t = { s with
      fw := { s.fw with links := t.fw.links }, clk := { s.clk with dies := t.clk.dies } } ∧ tfind t.clk.dies d.val = some s.clk.hub ∧
      tfind t.fw.links d.val = some true ∧ ∀ e, e ≠ d.val → tfind t.clk.dies e = tfind s.clk.dies e) ∧
    (∃ u : State, exec (.carrierLinkTrained d false) s = .next u.settle ∧ d.val ∈ u.fw.dark ∧ u.domOn (48 + 2 * d.val) = false ∧ u.domOn (49 + 2 * d.val) = false)) ∧
  (∀ (d : Die) (s : State), s.fw.hub = true → ∃ v : State, exec (.carrierLinkFault d) s = .next ((v.actSite (linkSite d) 0 0).1).settle ∧
    (v.evu 0).isPend (258 + d.val) = true ∧ (s.evuOn ⟨d.val + 1, by omega⟩ = true → (v.evu ⟨d.val + 1, by omega⟩).isPend 256 = true) ∧ { v with evus := s.evus, power := s.power } = s) ∧
  (∀ s : State, s.fw.hub = true → s.fw.booted = false →
    (∀ b, (s.fw.slot b).valid = true → (b = s.fw.run ∨ (s.fw.slot s.fw.run).valid = false) → ∃ u : State, exec .tenderBoot s = .next u.settle ∧
      u.fw = { s.fw with booted := true, image := b, release := (s.fw.slot b).release } ∧ u.cores.tenderUp = true ∧ (u.pair tender).running = true ∧
      (u.pair tender).release = (s.fw.slot b).release ∧ u.keeper.bootAt = none) ∧
    (s.fw.imgA.valid = false → s.fw.imgB.valid = false → ∃ u : State, exec .tenderBoot s = .next u.settle ∧ u.fw.recovery = true ∧ u.fw.booted = true ∧
      u.cores.tenderUp = true) ∧
    (∀ x, s.keeper.bootAt = some x → x ≤ s.clk.now → (s.fw.slot s.fw.run).valid = true →
      ∃ t, exec .bootTimerExpiry s = .next t ∧ (t.fw.slot s.fw.run).valid = false ∧ t.fw.slot (!s.fw.run) = s.fw.slot (!s.fw.run) ∧ t.power.mode = .off ∧
        t.keeper.ret.rstCause = 4)) ∧
  (∀ s : State, s.fw.hub = true → s.domOn 56 = true → s.domOn 57 = true → s.fw.hbm = false →
    (∃ u : State, exec (.hbmTrained true) s = .next u.settle ∧ u.data = { s.data with inService := true } ∧ u.fw = { s.fw with hbm := true, bootFaults := [] } ∧
      (s.faults.log = [] → s.fw.bootFaults.length ≤ 4096 → u.faults.log.length = s.fw.bootFaults.length)) ∧
    exec (.hbmTrained false) s = .next (s.enterSafe 2 hbmSite).settle) ∧
  (∀ s : State, s.cores.tenderUp = true → s.fw.recovery = false → s.fw.hbm = true → s.fw.ready = false → (∀ d, d < 4 → (tfind s.fw.links d).isSome = true) →
    ∃ u : State, exec .moduleReadyForOrders s = .next u.settle ∧ u.fw = { s.fw with ready := true } ∧
      ∀ c : PairNum, c.val < 40 → s.domOn (pairDomain c) = true → (s.pair c).retired = false →
        (u.pair c).running = true ∧ (u.pair c).release = s.fw.release)

/-! ### Firmware, self-tests, the Trial Balance Unit -/

/-- R397, R398, R466-R470: firmware. STAGE-FIRMWARE reads the image; once read it is verified and the slot marked invalid, or refused with 0x014; once
written and read back the slot is valid and the order is answered with its release, PF vector 5 after it. ACTIVATE-FIRMWARE names the image in RUN and is
answered with its release, at once for the next reset, or after the roll of every die behind a spare and the Tender's restart into the new image.
The model's: the target marked invalid at the read (log 96); the read-back (log 69); the roll in one command (log 97); RSTCAUSE in recovery (log 82). -/
def Obligations.FirmwareOrders : Prop :=
  (∀ (p : HPort) (b : Bytes) (s : State), orderStands s p b → s.foggy = false →
    let refused := fun (i : Instr) (reason : W16) => ∃ u : State, exec i s = .next u.settle ∧ answers p b s.clk.hub (0x1000 + reason) [] s u ∧ onlyReply s u
    let x := s.fw.slot (!s.fw.image)
    (byteAt b 1 = 0x50 → (u64 b 0x10).toNat % 4096 = 0 → 4096 ≤ (u32 b 0x18).toNat → (u32 b 0x18).toNat ≤ 33554432 → allZero (bslice b 0x1C 0x64) = true →
      (s.otherActive p exclusive = false → ∃ u : State, exec (.stageFirmware p) s = .next u.settle ∧
        underWay p b (.stageRead (u64 b 0x10) (u32 b 0x18).toNat) u ∧ u.out = s.out ∧ onlyReply s u) ∧
      (s.otherActive p exclusive = true → refused (.stageFirmware p) 0x17)) ∧
    (byteAt b 1 = 0x51 → (byteAt b 0x10).toNat ≤ 1 → allZero (bslice b 0x11 0x6F) = true → s.otherActive p exclusive = false →
      (x.valid = false → refused (if byteAt b 0x10 = 1 then .activateFirmwareAtReset p else .activateFirmwareHitless p) 0x14) ∧
      (x.valid = true → byteAt b 0x10 = 1 → ∃ u : State, exec (.activateFirmwareAtReset p) s = .next ((u.pfVector 5).settle).settle ∧
        answers p b s.clk.hub 0 (le 4 x.release.toNat) s u ∧ u.fw = { s.fw with run := !s.fw.image } ∧ (u.evu 0).isPend 171 = true ∧
        u.cores.pairs = s.cores.pairs) ∧
      (x.valid = true → byteAt b 0x10 = 0 → s.fw.release ∉ Config.imageRollFrom x.release → refused (.activateFirmwareHitless p) 0x14) ∧
      (x.valid = true → byteAt b 0x10 = 0 → s.fw.release ∈ Config.imageRollFrom x.release →
        ((∃ d, d < 4 ∧ s.freeSpares d = []) → refused (.activateFirmwareHitless p) 0x15) ∧
        ((∀ d, d < 4 → s.freeSpares d ≠ []) → ∃ v : State, underWay p b .none v ∧ onlyReply s v ∧ v.out = s.out ∧
          exec (.activateFirmwareHitless p) s = .next (v.rollAll p).settle ∧ (v.nameRun p (!s.fw.image)).fw = { s.fw with run := !s.fw.image })))) ∧
  (∀ (p : HPort) (b : Bytes) (s : State), s.headSlot p = some (.packet b) → s.ringTurn p = true → s.pfMaster p = true → s.fw.recovery = true →
    headerBad b = false → s.foggy = false → byteAt b 1 = 0x51 → (byteAt b 0x10).toNat ≤ 1 → allZero (bslice b 0x11 0x6F) = true →
    s.otherActive p exclusive = false → (s.fw.slot (!s.fw.imgA.valid)).valid = true → ∃ u : State,
      exec (if byteAt b 0x10 = 1 then .activateFirmwareAtReset p else .activateFirmwareHitless p) s = .next (((u.pfVector 5).settle).moduleReset 4).settle ∧
      answers p b s.clk.hub 0 (le 4 (s.fw.slot (!s.fw.imgA.valid)).release.toNat) s u ∧ u.fw = { s.fw with run := !s.fw.imgA.valid }) ∧
  (∀ (p : HPort) (a : Active) (s : State), s.stager = some (p, a) → (s.oq p).active = some a → a.index = (s.oq p).head → byteAt a.packet 1 = a.opc →
    a.orphan = false → a.restarted = false → s.pfMaster p = true → s.cores.tenderUp = true →
    (∀ addr len, a.stage = .stageRead addr len → s.readOpen p (.image p) = true →
      (∀ data : Bytes, Config.imageVerifies (padTo len data) = true → ∃ u : State, exec (.flashOperationComplete (.imageRead (.ok data))) s = .next u.settle ∧
        (u.oq p).active = some { a with stage := .stageWrite (padTo len data) } ∧ u.fw.slot s.fw.target = {} ∧
        u.fw.slot (!s.fw.target) = s.fw.slot (!s.fw.target) ∧ ((s.host p).readQ = [] → u.out = s.out) ∧ (u.evu 0).isPend 171 = true) ∧
      (∀ data : Bytes, Config.imageVerifies (padTo len data) = false → ∃ u : State, exec (.flashOperationComplete (.imageRead (.ok data))) s = .next u.settle ∧
        answers p a.packet s.clk.hub 0x1014 [] s u ∧ u.fw.slot s.fw.target = {} ∧ u.fw.slot (!s.fw.target) = s.fw.slot (!s.fw.target)) ∧
      (∃ u : State, exec (.flashOperationComplete (.imageRead .failed)) s = .next u.settle ∧ answers p a.packet s.clk.hub 0x4002 [] s u ∧ u.fw = s.fw) ∧
      (∃ u : State, exec (.flashOperationComplete (.imageRead .refused)) s = .next u.settle ∧ answers p a.packet s.clk.hub 0x4001 [] s u ∧ u.fw = s.fw)) ∧
    (∀ img, a.stage = .stageWrite img →
      (∃ u : State, exec (.flashOperationComplete (.written true)) s = .next (u.pfVector 5).settle ∧
        answers p a.packet s.clk.hub 0 (le 4 (Config.imageRelease img).toNat) s u ∧
        u.fw.slot s.fw.target = { valid := true, release := Config.imageRelease img } ∧ u.fw.slot (!s.fw.target) = s.fw.slot (!s.fw.target)) ∧
      (∃ u : State, exec (.flashOperationComplete (.written false)) s = .next u.settle ∧ answers p a.packet s.clk.hub 0x1014 [] s u ∧ u.fw = s.fw))) ∧
  (∀ (p : HPort) (a : Active) (s : State), (s.oq p).active = some a → a.index = (s.oq p).head → byteAt a.packet 1 = a.opc → a.orphan = false →
    a.restarted = false → a.after = .none → a.effected = true → a.stage = .activate → s.pfMaster p = true → (s.oq (otherHost p)).active = none →
    (s.pair tender).running = true → s.cores.tenderUp = false → s.fw.hub = true → ∃ u : State, exec .tenderRestartComplete s = .next u.settle ∧
      answers p a.packet s.clk.hub 0 (le 4 s.fw.release.toNat) s u ∧ u.fw = s.fw ∧ u.cores.tenderUp = true) ∧
  (∀ (a c : PairNum) (k : Nat) (rel : W32) (s : State),
    ((s.loadPair c rel none).pair c).running = true ∧ ((s.loadPair c rel none).pair c).release = rel ∧ ((s.loadPair c rel none).pair c).slot = none ∧
      ((s.loadPair c rel none).pair c).pc = 0 ∧ (∀ x, x ≠ c → (s.loadPair c rel none).pair x = s.pair x) ∧
    (a ≠ c → (s.pair a).slot = some k → ((s.handOver a c).pair c).slot = some k ∧ ((s.handOver a c).pair a).slot = none ∧
      (∀ x, x ≠ a → x ≠ c → (s.handOver a c).pair x = s.pair x) ∧ (s.handOver a c).ports = s.ports))

/-- R392, R417, R463, R473-R483: self-tests. A completed run holds its domain's signature and fires the hub's source; a domain without a mismatch goes on to MBIST where
both kinds were asked, and else returns; a rotating test frees its unit, runs again after a first mismatch and returns the unit after MBIST; a mover that
cannot be freed within 1 s goes back to its work.
The model's: units not listed gave their golden signature (log 93); a fenced mover (log 94); a test not over changes nothing (log 32). -/
def Obligations.SelfTests : Prop :=
  (∀ (n : Dom) (mbist : Bool) (sigs : List (W32 × W64)) (t : TestRun) (s : State),
    s.fw.tests.find? (fun t => t.dom == n.val && t.started && t.mbist == mbist) = some t →
    let bad := s.mismatches (domainUnits n.val) mbist sigs
    (bad ≠ [] ∨ dieLevel mbist sigs = none) → ∃ v : State, exec (.selfTestComplete (.domain n) mbist sigs) s = .next (v.orderedDone t mbist bad).settle ∧
      (∃ h, tfind v.fw.sigs (2 * n.val + bnat mbist) = some h ∧ h.misr = s.domainSig (domainUnits n.val) mbist sigs ∧ h.time = s.clk.hub ∧
        h.release = s.fw.release) ∧ (v.evu 0).isPend 170 = true ∧ v.fw.tests = s.fw.tests ∧ { v with fw := s.fw, evus := s.evus, power := s.power } = s) ∧
  (∀ (t : TestRun) (mbist : Bool) (s : State),
    (t.both = true → mbist = false → s.orderedDone t mbist [] = { s with fw := { s.fw with
      tests := s.fw.tests.map (fun x => if x.dom == t.dom then { x with mbist := true, both := false } else x) } }) ∧
    ((t.both = false ∨ mbist = true) → ∃ v : State, s.orderedDone t mbist [] = ((if t.wasOn then v.requestOn t.dom else v).startTests).testReply ∧
      v.fw = { s.fw with tests := s.fw.tests.filter (fun x => x.dom != t.dom) } ∧ v.dom t.dom = { s.dom t.dom with testing := false } ∧
      { v with fw := s.fw, power := s.power } = s)) ∧
  (∀ (n : Dom) (mbist : Bool) (sigs : List (W32 × W64)) (s : State), s.fw.tests = [] → s.domOn n.val = true → tfind s.fw.sigs (2 * n.val + bnat mbist) = none →
    s.fw.hub = true → s.mismatches (domainUnits n.val) mbist sigs = [] → ∃ u : State, exec (.selfTestComplete (.domain n) mbist sigs) s = .next u.settle ∧
      (tfind u.fw.sigs (2 * n.val + bnat mbist)).isSome = true ∧ (u.evu 0).isPend 170 = true ∧ { u with fw := s.fw, evus := s.evus, power := s.power } = s) ∧
  (∀ (r : RotUnit) (sigs : List (W32 × W64)) (s : State), (∀ m, r = .mover m → (s.mover m).fenced = false) → s.fw.rotating.contains r = true → s.testReady r = true →
    let bad := fun (mbist : Bool) => s.mismatches (rotUnits r) mbist sigs
    (bad false = [] → s.fw.again.contains r = false → ∃ u : State, exec (.selfTestComplete (.unit r) false sigs) s = .next u.settle ∧ u.fw = s.fw ∧
      (u.evu 0).isPend 170 = true ∧ u.ports = s.ports ∧ u.out = s.out) ∧
    (bad true = [] → s.fw.again.contains r = false → ∃ v : State, exec (.selfTestComplete (.unit r) true sigs) s = .next (v.unitBack r).settle ∧
      v.fw = s.fw ∧ (v.evu 0).isPend 170 = true ∧ v.ports = s.ports ∧ v.out = s.out) ∧
    (∀ mbist, bad mbist ≠ [] → s.fw.again.contains r = false → ∃ u : State, exec (.selfTestComplete (.unit r) mbist sigs) s = .next u.settle ∧
      u.fw = { s.fw with again := s.fw.again ++ [r] } ∧ u.ports = s.ports ∧ u.out = s.out) ∧
    (∀ mbist, bad mbist ≠ [] → s.fw.again.contains r = true → ∃ v : State,
      exec (.selfTestComplete (.unit r) mbist sigs) s = .next ((((bad mbist).foldl (fun v site => v.failUnit site (rotDomain r) mbist) (v.unitFree r)).unitBack r)).settle ∧
      v.fw = s.fw ∧ v.ports = s.ports ∧ v.out = s.out)) ∧
  (∀ (m : MoverNum) (sigs : List (W32 × W64)) (s : State), (s.mover m).fenced = true → (s.mover m).retired = false → s.mismatches [moverSite m] true sigs = [] →
    ∃ v : State, exec (.selfTestComplete (.unit (.mover m)) true sigs) s = .next ((v.rebuildAcct 8 m.val 0 (moverSite m)).admitDescs).settle ∧
      (v.mover m) = { s.mover m with fenced := false } ∧ v.ports = s.ports ∧ v.out = s.out) ∧
  (∀ (r : RotUnit) (s : State), s.fw.ready = true → s.cores.tenderUp = true → s.fw.tests = [] → (s.power.mode = .run ∨ s.power.mode = .idle) →
    s.fw.rotating.contains r = false → s.canRotate r = true → ∃ v : State,
      exec (.rotatingTestStart r) s = .next (v.onFw (fun f => { f with rotating := f.rotating ++ [r] })).settle ∧
      (∀ c, r = .lampPair c → (v.pair c).testing = true ∧ (v.pair c).slot = none ∧ v.ports = s.ports ∧ v.fw = s.fw) ∧
      (∀ m, r = .mover m → v.fw = s.fw ∧ (busyChannels (s.mover m) = 0 → v.mover m = { s.mover m with testing := true }) ∧
        (busyChannels (s.mover m) ≠ 0 → v.mover m = { s.mover m with freeing := some (s.clk.now + 156250000) })) ∧
      (∀ d e, r = .columnizer d e → v = s.modPool d (fun k => { k with testing := k.testing ++ [e.val] })) ∧
      (∀ n, r = .portPair n → v = (s.requestOff n.val).modDom n.val (fun x => { x with testing := true }))) ∧
  (∀ (m : MoverNum) (x : Nat) (s : State), (s.mover m).freeing = some x → busyChannels (s.mover m) ≠ 0 →
    (s.clk.now < x → exec (.rotatingTestPutOff (.mover m)) s = .next s) ∧
    (x ≤ s.clk.now → ∃ v : State, exec (.rotatingTestPutOff (.mover m)) s = .next (v.admitDescs).settle ∧
      v.mover m = { s.mover m with testing := false, freeing := none } ∧ v.fw.rotating = s.fw.rotating.filter (· != .mover m) ∧ v.ports = s.ports))

/-- R411, R413-R416: a round of the Trial Balance Unit, one for each 15,625 ticks of the timebase. Nothing else happens while every account balances; an own disagreement puts the module in its safe state; a broken instance is logged with
its account, instance and difference and what R414 names is fenced, once.
The model's: sites and fences by instance (log 92). -/
def Obligations.BalanceRounds : Prop :=
  (∀ s : State, s.fw.hub = true → (s.power.mode = .run ∨ s.power.mode = .idle) →
    let broken := s.faults.accts.filter (fun (x : Nat × Acct) => x.2.debit != x.2.credit)
    let n := s.clk.hub.toNat / 15625
    let u : State := { s with faults := { s.faults with round := n } }
    (s.faults.round ≠ n →
      (broken = [] → exec (.balanceRound true) s = .next u) ∧
      exec (.balanceRound false) s = .next (u.enterSafe 1 tbuSite).settle ∧
      (broken ≠ [] → exec (.balanceRound true) s =
        .next (broken.foldl (fun v (x : Nat × Acct) => v.breakAcct (x.1 / 2 ^ 24) (x.1 % 2 ^ 24) x.2) u).settle)) ∧
    (s.faults.round = n → ∀ agree, exec (.balanceRound agree) s = .next s)) ∧
  (∀ (x : Acct) (s : State),
    (∀ (a : Nat) (d : DPort), (a = 1 ∨ a = 2 ∨ a = 4) → FenceCause.balance ∉ (s.port d).fences →
      s.breakAcct a d.val x = (s.logBalance a d.val x (portSite d)).balanceFencePort d (BitVec.ofNat 8 a)) ∧
    (∀ d : DPort, FenceCause.balance ∉ (s.port d).fences → s.breakAcct 3 (d.val + 1) x = (s.logBalance 3 (d.val + 1) x (portSite d)).balanceFencePort d 3) ∧
    (∀ d : DPort, FenceCause.balance ∈ (s.port d).fences → ∀ a, (a = 1 ∨ a = 2 ∨ a = 4) → s.breakAcct a d.val x = s) ∧
    (∀ i, (i = 0 ∨ 97 ≤ i) → s.safe = false → s.breakAcct 3 i x = (s.logBalance 3 i x hbmSite).enterSafe 3 hbmSite) ∧
    (∀ (t : Tenant) (q : QNum) (k : Sq), s.sq? t q = some k → k.fenced = false →
      s.breakAcct 5 (qIndex t q) x = (s.logBalance 5 (qIndex t q) x queueSite).fenceSq t q) ∧
    (∀ (t : Tenant) (q : QNum) (k : Cq), s.cq? t q = some k → k.fenced = false →
      s.breakAcct 6 (qIndex t q) x = (s.logBalance 6 (qIndex t q) x writerSite).fenceCq t q) ∧
    (∀ (i : Nat) (k : Token), s.token? i = some k → k.fenced = false → s.breakAcct 7 i x = (s.logBalance 7 i x tokenSite).fenceToken i) ∧
    (∀ m : MoverNum, (s.mover m).fenced = false → s.breakAcct 8 m.val x = (s.logBalance 8 m.val x (moverSite m)).fenceMover m) ∧
    (∀ m : MoverNum, (s.mover m).fenced = true → s.breakAcct 8 m.val x = s) ∧
    (∀ (a i : Nat) (site : W32), (s.logBalance a i x site).ports = s.ports ∧ (s.logBalance a i x site).queues = s.queues ∧
      ((s.logBalance a i x site).evu 0).isPend 168 = true) ∧
    (∀ (d : DPort) (site : W32), s.evuOn ⟨1 + d.val / 24, by omega⟩ = true →
      ((s.logBalance 1 d.val x site).evu ⟨1 + d.val / 24, by omega⟩).isPend (32 * (d.val % 24 / 3) + 27) = true)) ∧
  (∀ (cause : Nat) (site : W32) (s : State),
    (s.safe = true → s.enterSafe cause site = s) ∧
    (s.safe = false → (∀ d, (s.port d).exch = []) → (s.enterSafe cause site).faults.safe = some cause ∧ Out.smbAlert true ∈ (s.enterSafe cause site).out ∧
      (s.enterSafe cause site).ports = s.ports ∧ (s.enterSafe cause site).queues = s.queues ∧
      (s.cores.tenderUp = true → s.data.inService = true → (s.enterSafe cause site).faults.next = s.faults.next + 1)))

/-! ### Power limit, temperatures, side ports -/

/-- R103, R226, R227, R326, R391, R508, R509: the limits. A measurement is stored; an input power above PLIMIT for 100 ms, an inlet above INLET_MAX for 1 s and a die above 105 °C for 1 s
put ports at half rate, and the releases of those rules take it back; the inlet's are logged; an inlet above INLET_WARN and sensors that disagree are logged once; a die above 115 °C withdraws its
ports or, on the hub, makes the module safe. The staging memory's windows complete with the counters of R226 and R227.
The model's: each command is a sample (log 88). -/
def Obligations.LimitsAndTemperatures : Prop :=
  (∀ (w : W16) (s : State),
    let x := { s.power with input := w }
    let limit := s.power.plimit.toNat
    ((limit = 0 ∨ (s.power.mode ≠ .run ∧ s.power.mode ≠ .idle)) →
      exec (.powerLimitThrottle w) s = .next { s with power := { x with overSince := none, underSince := none } }) ∧
    (limit ≠ 0 → (s.power.mode = .run ∨ s.power.mode = .idle) → s.power.throttle = false →
      (w.toNat ≤ limit → exec (.powerLimitThrottle w) s = .next { s with power := { x with overSince := none } }) ∧
      (limit < w.toNat → s.power.overSince = none → exec (.powerLimitThrottle w) s = .next { s with power := { x with overSince := some s.clk.now } }) ∧
      (∀ k, limit < w.toNat → s.power.overSince = some k → s.clk.now < k + 15625000 → exec (.powerLimitThrottle w) s = .next { s with power := x }) ∧
      (∀ k, limit < w.toNat → s.power.overSince = some k → k + 15625000 ≤ s.clk.now → ∃ u v : State, exec (.powerLimitThrottle w) s = .next u.settle ∧
        u = v.pfVector 4 ∧ v.power = { x with throttle := true, overSince := none, underSince := none } ∧ (∀ d, (v.port d).throttle = true) ∧
        v.out = s.out ∧ v.prog = s.prog)) ∧
    (limit ≠ 0 → (s.power.mode = .run ∨ s.power.mode = .idle) → s.power.throttle = true →
      (limit < w.toNat + 10 → exec (.powerLimitThrottle w) s = .next { s with power := { x with underSince := none } }) ∧
      (w.toNat + 10 ≤ limit → s.power.underSince = none → exec (.powerLimitThrottle w) s = .next { s with power := { x with underSince := some s.clk.now } }) ∧
      (∀ k, w.toNat + 10 ≤ limit → s.power.underSince = some k → k + 9375000000 ≤ s.clk.now → ∃ u v : State, exec (.powerLimitThrottle w) s = .next u.settle ∧
        u = v.pfVector 4 ∧ v.power = { x with throttle := false, overSince := none, underSince := none } ∧
        (∀ d, (v.port d).throttle = (s.therm.throttle || tget false s.therm.dieThrottle (1 + d.val / 24))) ∧ v.out = s.out))) ∧
  (∀ (a b : W16) (s : State),
    let hot := if a.toInt < b.toInt then b else a
    let x := { s.therm with inletA := a, inletB := b }
    let logged := fun (v : State) => v.prog = s.prog ∧ v.queues = s.queues ∧ (s.data.inService = true → v.faults.next = s.faults.next + 1 ∧
      ∃ e ∈ v.faults.log, e.kind = 8 ∧ e.site = inletSite ∧ e.detail = BitVec.ofNat 64 (65536 * hot.toNat))
    (s.list.loaded = true → s.list.inletWarn.toInt < hot.toInt → s.therm.warned = false → s.data.inService = true →
      ∃ u : State, exec (.inletWarnCrossed a b) s = .next u.settle ∧ u.therm = { x with warned := true } ∧ u.faults.next = s.faults.next + 1 ∧ u.ports = s.ports) ∧
    ((s.list.loaded = false ∨ hot.toInt ≤ s.list.inletWarn.toInt) → exec (.inletWarnCrossed a b) s = .next { s with therm := { x with warned := false } }) ∧
    (s.list.loaded = true → s.list.inletMax.toInt < hot.toInt → s.therm.throttle = false → ∀ k, s.therm.overSince = some k →
      (s.clk.now < k + 156250000 → exec (.inletThrottle a b) s = .next { s with therm := x }) ∧
      (k + 156250000 ≤ s.clk.now → ∃ u v : State, exec (.inletThrottle a b) s = .next u.settle ∧ u = v.pfVector 4 ∧ logged v ∧
        v.therm = { x with throttle := true, overSince := none, underSince := none } ∧ ∀ d, (v.port d).throttle = true)) ∧
    ((s.list.loaded = false ∨ hot.toInt ≤ s.list.inletMax.toInt) → exec (.inletThrottle a b) s = .next { s with therm := { x with overSince := none } }) ∧
    (s.list.loaded = true → hot.toInt < s.list.inletWarn.toInt → s.therm.throttle = true → ∀ k, s.therm.underSince = some k →
      (s.clk.now < k + 9375000000 → exec (.inletThrottleRelease a b) s = .next { s with therm := x }) ∧
      (k + 9375000000 ≤ s.clk.now → ∃ u v : State, exec (.inletThrottleRelease a b) s = .next u.settle ∧ u = v.pfVector 4 ∧ logged v ∧
        v.therm = { x with throttle := false, overSince := none, underSince := none } ∧
        ∀ d, (v.port d).throttle = (s.power.throttle || tget false s.therm.dieThrottle (1 + d.val / 24)))) ∧
    (s.list.inletWarn.toInt ≤ hot.toInt → exec (.inletThrottleRelease a b) s = .next { s with therm := { x with underSince := none } }) ∧
    (50 < (a.toInt - b.toInt).natAbs → s.therm.disagreed = false → s.data.inService = true → ∀ k, s.therm.disagreeSince = some k →
      (s.clk.now < k + 1562500000 → exec (.inletSensorDisagree a b) s = .next { s with therm := x }) ∧
      (k + 1562500000 ≤ s.clk.now → ∃ u : State, exec (.inletSensorDisagree a b) s = .next u.settle ∧ u.therm = { x with disagreed := true } ∧
        u.faults.next = s.faults.next + 1 ∧ u.ports = s.ports)) ∧
    ((a.toInt - b.toInt).natAbs ≤ 50 → exec (.inletSensorDisagree a b) s = .next { s with therm := { x with disagreeSince := none, disagreed := false } })) ∧
  (∀ (die : Fin 5) (c : W16) (s : State),
    (c.toInt ≤ 1050 → 0 < die.val → ∃ u : State, exec (.dieOverTemperature die c) s = .next u.settle ∧ tfind u.therm.dieTemp die.val = some c ∧
      tfind u.therm.dieHotSince die.val = none ∧ u.ports = s.ports ∧ u.out = s.out ∧ { u with therm := s.therm } = s) ∧
    (0 < die.val → 1050 < c.toInt → c.toInt ≤ 1150 → tget false s.therm.dieThrottle die.val = false →
      ∀ k, tfind s.therm.dieHotSince die.val = some k → k + 156250000 ≤ s.clk.now → ∃ u : State, exec (.dieOverTemperature die c) s = .next u.settle ∧
        tget false u.therm.dieThrottle die.val = true ∧ (∀ d : DPort, 1 + d.val / 24 = die.val → (u.port d).throttle = true) ∧
        (u.evu 0).isPend (257 + die.val) = true ∧ u.out = s.out ∧ u.power.domains = s.power.domains) ∧
    (0 < die.val → 1150 < c.toInt → tget false s.therm.dieThrottle die.val = true → tget false s.therm.dieWithdrawn die.val = false →
      ∀ k, tfind s.therm.dieHotSince (8 + die.val) = some k → k + 156250000 ≤ s.clk.now → ∃ v : State,
        exec (.dieOverTemperature die c) s = .next (v.withdrawDie die.val).settle ∧ { v with therm := s.therm } = s ∧ tfind v.therm.dieTemp die.val = some c) ∧
    (die = 0 → 1150 < c.toInt → ∀ k, tfind s.therm.dieHotSince 8 = some k → k + 156250000 ≤ s.clk.now → ∃ v : State,
      exec (.dieOverTemperature die c) s = .next (v.enterSafe 2 (dieSite 0)).settle ∧ { v with therm := s.therm } = s ∧ tfind v.therm.dieTemp 0 = some c) ∧
    (950 ≤ c.toInt → ∃ t, exec (.dieTemperatureRelease die c) s = .next t ∧ tfind t.therm.dieTemp die.val = some c ∧ tfind t.therm.dieCoolSince die.val = none ∧
      { t with therm := s.therm } = s) ∧
    (c.toInt < 950 → tget false s.therm.dieThrottle die.val = true → tget false s.therm.dieWithdrawn die.val = false → s.power.throttle = false → s.therm.throttle = false →
      ∀ k, tfind s.therm.dieCoolSince die.val = some k → k + 9375000000 ≤ s.clk.now → ∃ u : State, exec (.dieTemperatureRelease die c) s = .next u.settle ∧
        tget false u.therm.dieThrottle die.val = false ∧ (∀ d : DPort, 1 + d.val / 24 = die.val → (u.port d).throttle = false) ∧ u.out = s.out)) ∧
  (∀ (c0 c1 : CtrlLoad) (counts : List Nat) (s : State), s.data.inService = true →
    (∃ t, exec (.smallBudgetWindow ⟨c0, c1⟩) s = .next t ∧ (t.data.smallHeld = s.data.smallHeld ↔
      (heldSmall c0 (tget [] s.data.smallQ 0) = [] ∧ heldSmall c1 (tget [] s.data.smallQ 1) = []) ∨ s.data.smallHeld = 0xFFFFFFFF)) ∧
    (∃ t, exec (.imbalanceWindow counts) s = .next t ∧ t.data.imbalPk =
      if s.data.imbalPk.setWidth 16 < t.data.imbal.setWidth 16 then t.data.imbal else s.data.imbalPk))

/-- R459, R486-R488, R505: the SMBus target and the test access port. The module reset is armed by 0x5A and confirmed by 0xA5 within 1 s; the reads answer with what R505
gives; in Hold nothing is served. An instruction that takes the pins switches the scan domains on, and Test-Logic-Reset after one resets the module; SAMPLE and the EXTEST kinds
capture a cell for every signal of R487, 0 in a domain that is off, and a cage's ModPrsL as it stands.
The model's: IDCODE after Test-Logic-Reset (log 11); the domains with scan cells (log 91); 10 ms without power (log 79); the order of the cells and the
levels of pins that others drive (log 135). -/
def Obligations.SidePorts : Prop :=
  (∀ (value : Byte) (s : State), s.power.mode ≠ .hold →
    let armed := fun (x : Option Nat) => ({ s with side := { s.side with armed := x } } : State)
    (s.side.armed = none → exec (.smbusResetArm true) s = .next (armed (some (s.clk.now + 156250000)))) ∧
    (s.side.armed ≠ none → exec (.smbusResetArm true) s = .next (armed none)) ∧
    exec (.smbusResetArm false) s = .next s ∧ exec (.smbusResetConfirm false) s = .next s ∧ exec (.smbusResetCancel value false) s = .next s ∧
    (∀ k, s.side.armed = some k → s.clk.now < k → ∃ t, exec (.smbusResetConfirm true) s = .next t ∧ t.keeper.railAt = some (s.clk.now + 1562500) ∧
      t.keeper.ret.rstCause = 4 ∧ t.side.armed = none ∧ t.power = {} ∧ t.queues = {} ∧ t.prog = {} ∧ t.list = {} ∧ ∀ d, (t.port d).link = 0) ∧
    (∀ k, s.side.armed = some k → k ≤ s.clk.now → exec (.smbusResetConfirm true) s = .next (armed none) ∧ exec .smbusResetArmTimeout s = .next (armed none)) ∧
    (s.side.armed = none → exec (.smbusResetConfirm true) s = .next s) ∧
    (value ≠ 0x5A → value ≠ 0xA5 → exec (.smbusResetCancel value true) s = .next (armed none)) ∧
    let reply := fun (i : Instr) (o : Out) => exec i s = .next { s with clk := { s.clk with free := s.clk.free + 1 }, out := o :: s.out }
    reply .smbusReadVoltage (.smbusWord (s.keeper.supply.setWidth 16)) ∧
    (s.power.mode ≠ .off →
      reply .smbusReadMode (.smbusByte (BitVec.ofNat 8 ((if s.power.mode = .run then 0 else if s.power.mode = .idle then 1 else 2) + (if s.foggy then 4 else 0) +
        (if s.safe then 8 else 0) + (if s.list.loaded then 16 else 0))))) ∧
    ((s.power.mode = .run ∨ s.power.mode = .idle) → reply .smbusReadPower (.smbusWord (BitVec.ofNat 16 (10 * s.power.input.toNat))) ∧
      reply .smbusReadInlet (.smbusWord (if s.therm.inletA.toInt < s.therm.inletB.toInt then s.therm.inletB else s.therm.inletA)) ∧
      (∀ x ∈ s.therm.dieTemp, (∀ y ∈ s.therm.dieTemp, y.2.toInt ≤ x.2.toInt) → reply .smbusReadDieTemp (.smbusWord x.2)) ∧
      reply .smbusReadBeacon (.smbusWord (s.side.beacon.setWidth 16))) ∧
    (s.power.mode = .doze → reply .smbusReadPower (.smbusWord 0x8000) ∧ reply .smbusReadInlet (.smbusWord 0x8000) ∧
      reply .smbusReadDieTemp (.smbusWord 0x8000) ∧ reply .smbusReadBeacon (.smbusWord 0x8000))) ∧
  (∀ (value : Byte) (good : Bool) (s : State), s.power.mode = .hold → let t := { s with out := .smbusNak :: s.out }
    exec (.smbusResetArm good) s = .next t ∧ exec (.smbusResetConfirm good) s = .next t ∧ exec (.smbusResetCancel value good) s = .next t) ∧
  (∀ s : State, s.power.mode ≠ .hold → s.power.mode ≠ .off →
    let loads := fun (n : Nat) => ({ s with side := { s.side with tap := n } } : State)
    let takes := fun (i : Instr) (n : Nat) => ∃ t, exec i s = .next t ∧ t.side = { s.side with tap := n, pinsTaken := true, cells := t.side.cells } ∧
      (∀ k, k < 62 → k ≠ 61 → t.dom k = { s.dom k with on := true }) ∧ t.dom 61 = s.dom 61 ∧
      { t with side := s.side, power := s.power, clk := { t.clk with free := s.clk.free } } = s ∧
      ((n = 4 ∨ n = 5) → t.side.cells = s.side.cells ∧ t.clk = s.clk) ∧
      (n ≠ 4 → n ≠ 5 → t.side.cells = ({ t with clk := s.clk } : State).capture ∧ t.clk.free = s.clk.free + 1)
    exec .bypass s = .next (loads 0) ∧
    exec .idcode s = .next { loads 1 with out := .tapIdcode ((List.range 6).map Config.idcode) :: s.out } ∧
    exec .samplePreload s = .next { s with
      clk := { s.clk with free := s.clk.free + 1 }, side := { s.side with tap := 2, cells := s.capture }, out := .tapSampled s.capture :: s.out } ∧
    takes .extest 3 ∧ takes .clamp 4 ∧ takes .highz 5 ∧ takes .extestPulse 6 ∧ takes .extestTrain 7 ∧
    (s.side.pinsTaken = false → exec .testLogicReset s = .next (loads 1)) ∧
    (s.side.pinsTaken = true → ∃ t, exec .testLogicReset s = .next t ∧ t.side.tap = 1 ∧ t.side.pinsTaken = false ∧ t.keeper.ret.rstCause = 4 ∧
      t.power = {} ∧ t.queues = {} ∧ t.prog = {} ∧ ∀ d, (t.port d).link = 0)) ∧
  (∀ s : State, s.capture.length = scanCells.length ∧
    (∀ (x : ScanSignal) (n k : Nat), scanCells[k]? = some x → x.domain = some n → s.domOn n = false → s.capture[k]? = some false) ∧
    (∀ (c : CageNum) (k : Nat), scanCells[k]? = some (.modPrsL c) → s.domOn 60 = true → s.capture[k]? = some (!(s.cage c).present)) ∧
    (∀ (p : HPort) (k : Nat), scanCells[k]? = some (.perst p) → s.capture[k]? = some (!(s.host p).perst)) ∧
    (∀ c : CageNum, ScanSignal.cageScl c ∈ scanCells ∧ ScanSignal.cageSda c ∈ scanCells ∧ ScanSignal.modPrsL c ∈ scanCells ∧ ScanSignal.intL c ∈ scanCells ∧
      ScanSignal.resetL c ∈ scanCells ∧ ScanSignal.lpMode c ∈ scanCells) ∧ .smbClk ∈ scanCells ∧ .smbDat ∈ scanCells ∧
    (∀ (d : DPort) (tx : Bool), ScanSignal.cageLane d tx ∈ scanCells) ∧ (∀ p l tx, ScanSignal.hostLane p l tx ∈ scanCells) ∧
    .wake ∈ scanCells ∧ .pwrWarnOut ∈ scanCells ∧ ∀ n, ScanSignal.sense n ∈ scanCells)

/-! ### Channel programs -/

/-- R125, R165-R168, R180-R184, R193, R196, R197, R218, R492: starts, waits and holds. A start becomes the subchannel's program and a path is chosen for it; a program that
waits takes a path that has become usable, and ends with PATH-LOST or IDENTITY-MISMATCH when its second is over; a HOLD step lets its copies go and holds with
its report; a busy answer is followed by the command again; 100 ms of quiet end what R197 names.
The model's: a timer not over, or a moment not come, changes nothing (log 32). -/
def Obligations.StartsWaitsAndHolds : Prop :=
  (∀ (sc : SC) (x : Start) (rest : List Start) (s : State), s.side.pinsTaken = false → (s.sub sc).prog = none → (s.sub sc).starts = x :: rest →
    ((∀ i, i < 4 → s.poisoned (4 * sc.toNat + i) = false) →
      ∃ v : State, exec (.startBegin sc .good) s = .next ((v.choose sc none).work).settle ∧ onlySub sc { s with data := v.data } v ∧
        (x.pre = none → v.data = s.data) ∧
        (∀ b, x.pre = some b → { v.data with granules := s.data.granules } = s.data ∧
          tfind v.data.granules (sliceGranule sc 0) = some ⟨padTo 64 b, 0, false⟩ ∧
          ∀ k, k ≠ sliceGranule sc 0 → tfind v.data.granules k = tfind s.data.granules k) ∧
        v.sub sc = { s.sub sc with
          starts := rest
          prog := some {
            start := x, flow := x.program, groups := (x.pre.map (fun b => [(groupOf x.program, b)])).getD []
            slots := (x.pre.map (fun _ => [groupOf x.program])).getD []
            asked := if x.preAsked && x.pre.isNone then [(groupOf x.program, false)] else [] } }) ∧
    (∃ v : State, exec (.startBegin sc .poison) s = .next (v.spoilSub sc).settle ∧ v.data.poisRd = satInc s.data.poisRd ∧ v.sub sc = s.sub sc ∧
      v.ports = s.ports)) ∧
  (∀ (sc : SC) (p : Prog) (x : Path) (s : State), s.prog? sc = some p → p.chain = none → s.slotFree x.port = true → (s.port x.port).headTag.isSome = true →
    s.turnOf sc x.port = true → ∃ v : State, s.takePath sc x = v.arrive sc ∧ onlySub sc s v ∧
      v.prog? sc = some { p with path := some x, phase := .running, tagWait := none, reached := true }) ∧
  (∀ (sc : SC) (p : Prog) (t : Nat) (s : State), s.prog? sc = some p → p.phase = .pathWait t →
    (∀ x, s.choosePath sc p.start.mask none = some x → exec (.pathWaitEnd sc) s = .next (s.takePath sc x).settle ∧
      (t ≤ s.clk.now → exec (.pathWaitTimeout sc) s = .next (s.takePath sc x).settle)) ∧
    (s.choosePath sc p.start.mask none = none →
      (s.noPath sc p.start.mask = .wait → exec (.pathWaitEnd sc) s = .next s ∧
        (t ≤ s.clk.now → exec (.pathWaitTimeout sc) s =
          .next (s.endProgram sc { code := 0x21, reason := BitVec.ofNat 8 p.tried.length, step := p.here } 2).settle)) ∧
      (s.noPath sc p.start.mask = .identity → exec (.pathWaitEnd sc) s = .next (s.endProgram sc { code := 0x23, step := p.here } 2).settle) ∧
      (s.noPath sc p.start.mask = .lost → exec (.pathWaitEnd sc) s =
        .next (s.endProgram sc { code := 0x21, reason := BitVec.ofNat 8 p.tried.length, step := p.here } 2).settle)) ∧
    (s.clk.now < t → exec (.pathWaitTimeout sc) s = .next s)) ∧
  (∀ (d : DPort) (sc : SC) (p : Prog) (x : Path) (t : Nat) (s : State), s.slotQueue d = some sc → s.prog? sc = some p → p.path = some x →
    (p.phase = .slotWait t → s.usable x = true → exec (.startSlotGranted d) s = .next (s.takePath sc x).settle) ∧
    (p.phase = .slotWait t → s.usable x = false → exec (.startSlotGranted d) s = .next (s.retry sc false).settle) ∧
    (p.phase = .running → exec (.startSlotGranted d) s = .next (s.sendChain sc).settle)) ∧
  (∀ (sc : SC) (p : Prog) (w : StepW) (s : State), s.stepDue sc = some (p, w) → opOf w.op ≠ .reserved →
    (w.fhold = true → p.pass ≠ some p.flow → ∃ v : State,
      (let u := ((v.planAhead sc).fireProg sc 0).lampServe sc .sequencer
       exec (.holdStepReached sc) s = .next (if u.goesOn sc then (u.closeKick sc).tryHold sc else u).settle) ∧
      onlySub sc { s with data := v.data } v ∧ { v.data with granules := s.data.granules } = s.data ∧
      (∀ i, i < p.slots.length → (tget {} v.data.granules (sliceGranule sc i)).poison = true) ∧
      v.prog? sc = some { p with phase := .holding, groups := [], asked := [], slots := [], seg := none, map := none, mapAsked := false }) ∧
    (w.fhold = false → exec (.holdStepReached sc) s = .next s)) ∧
  (∀ (sc : SC) (p : Prog) (k : Sq) (s : State), s.prog? sc = some p → p.phase = .holding → p.queuedW ≤ p.provenW → p.reports = [] →
    (s.sub sc).closing = [] → s.vfMaster p.start.tenant = true → s.sq? p.start.tenant p.start.sq = some k →
    let r := s.writeReport p.start.tenant k.cq { reportCpl p ⟨p.flow, true, p.digest, p.s, p.queuedW⟩ with sc := sc } p.start.ref p.flow
    (r.2 = true → exec (.holdReportSlotFreed sc) s = .next (r.1.modProg sc (fun p => { p with phase := .held, path := none, skipped := false })).settle) ∧
    (r.2 = false → exec (.holdReportSlotFreed sc) s = .next r.1.settle) ∧
    (∀ c, s.cq? p.start.tenant k.cq = some c → (r.2 = true ↔ 0 < c.free ∧ s.journalRoom p.start.tenant = true))) ∧
  (∀ (sc : SC) (p : Prog) (b : Busy) (s : State), s.prog? sc = some p → p.busy = some b → b.waiting = true →
    (s.clk.now < b.retryAt → exec (.busyRetryTimer sc) s = .next s) ∧
    (b.retryAt ≤ s.clk.now → ∃ v : State, exec (.busyRetryTimer sc) s = .next (v.sendChain sc).settle ∧ onlySub sc s v ∧
      v.prog? sc = some { p with busy := some { b with waiting := false } })) ∧
  (∀ (t : Tenant) (q : Nat) (s : State), (s.tenant t).quiet = some q →
    (s.clk.now < q + 15625000 → exec (.quietTimeout t) s = .next s) ∧
    (∀ (sc : SC) (since : Nat), q + 15625000 ≤ s.clk.now → s.waitersOf t = [(sc, since, true)] → ∃ v : State, exec (.quietTimeout t) s = .next v.settle ∧
      v = (s.endProgram sc { code := 0x18, reason := 0, step := (s.prog? sc).bind (·.here) } 2).modTenant t (fun k => { k with quiet := none })) ∧
    (∀ (sc : SC) (since : Nat), q + 15625000 ≤ s.clk.now → s.waitersOf t = [(sc, since, false)] → exec (.quietTimeout t) s =
      .next (s.endProgram sc { code := 0x18, reason := 1, step := (s.prog? sc).bind (·.here) } 2).settle))

/-- R142, R144-R149, R177, R178, R181, R218, R231, R234, R268, R269: device steps. A head step that passes its checks opens an exchange with the tag at the head of the free list and queues its
COMMAND; an indirect one first reads its segment list, a columnized one its map; a range outside the windows ends the program with ADDRESS-CHECK 2, a
failing check with STEP-CHECK, bad data of the step cache with INTEGRITY; a continuation step joins its chain; a freed engine goes to the longest waiter.
The model's: an engine that nobody waits for changes nothing (log 32). -/
def Obligations.DeviceSteps : Prop :=
  (∀ (sc : SC) (o : Op) (p : Prog) (w : StepW) (s : State), stepStands s sc o p w → o.isDevice = true → w.fguard = false →
    let i : Instr := match o with
      | .read => .readStep sc .good
      | .write => .writeStep sc .good
      | .sense => .senseStep sc .good
      | _ => .controlStep sc .good
    let input := o.isInput
    (∀ (x : Path) (g : Nat), w.fcolumn = false → w.findir = false → (w.count = 0 ∨ w.fskip = true ∨ s.inWindows p.start.tenant w.addr w.count = true) →
      p.path = some x → s.usable x = true → x ∈ s.groupPaths (s.sub sc).group → s.foggy = false → s.turnOf sc x.port = true →
      (s.port x.port).headTag = some g → g < 4096 →
      ∃ v : State, exec i s = .next (v.pushOutput sc).settle ∧
        let e : Exch := { owner := .prog sc, gen := (s.port x.port).nextGen g, cuaddr := x.addr, devaddr := (s.sub sc).devaddr, input := input, output := !input && decide (0 < w.count) }
        tfind (v.port x.port).exch g = some e ∧
        (v.port x.port).ctrlQ = (s.port x.port).ctrlQ ++ [⟨exchFrame { blank 1 with body := padTo 12 [w.op] } (BitVec.ofNat 12 g) e, some (BitVec.ofNat 12 g), []⟩] ∧
        (∀ y, y ≠ x.port → v.port y = s.port y) ∧ v.queues = s.queues ∧
        (p.pages = [] → p.reports = [] → (s.sub sc).closing = [] → v.out = s.out) ∧
        ∃ (q : Prog) (c : Chain), v.prog? sc = some q ∧
          q = { p with chain := some c, seg := none, tagWait := none, ahead := q.ahead, passage := q.passage, rb := q.rb } ∧ c.op = w.op ∧ c.input = input ∧
          c.parts.map (fun k => { k with passage := 0 }) = [⟨p.flow, w.count, w.fskip, if w.fskip || w.count = 0 then [] else [(w.addr, w.count)], 0⟩] ∧
          c.whole = !w.flink ∧ c.chain = (w.fchain && !w.flink) ∧ c.post = w.fpost ∧ c.last = p.flow ∧ c.tag = some (BitVec.ofNat 12 g) ∧ c.taken = 0 ∧
          c.queued = 0 ∧ c.sent = 0 ∧ c.cmdSent = false) ∧
    (w.fcolumn = false → w.findir = false → w.count ≠ 0 → w.fskip = false → s.inWindows p.start.tenant w.addr w.count = false →
      exec i s = .next ((s.seqException sc).endProgram sc { code := 0x13, reason := 2, step := some p.flow } 2).settle) ∧
    (∀ win, w.fcolumn = false → w.findir = true → p.seg = none → s.listWindow p.start.tenant w.addr = some win → inWindow w.addr 16 win = true →
      s.vfMaster p.start.tenant = true → ∃ u : State, exec i s = .next u.settle ∧
        (128 ≤ (s.host (hostOf p.start.tenant)).mrrs → 0 < (s.host (hostOf p.start.tenant)).tagsFree → Out.hostRead (hostOf p.start.tenant)
          (s.pasidOf p.start.tenant) (BitVec.ofNat 64 (w.addr / 64 * 64)) 64 (.segments sc) ∈ u.out) ∧
        u.prog? sc = some { p with seg := some { step := p.flow, addr := w.addr, asked := true } } ∧ u.ports = s.ports) ∧
    (∀ b, w.fcolumn = true → (s.tenant p.start.tenant).binding = some b → w.aux.toNat < b.nmaps → p.map = none → p.mapAsked = false →
      s.vfMaster p.start.tenant = true → ∃ u : State, exec i s = .next u.settle ∧
        (b.cmbase.toNat % 4096 = 0 → 0x240 ≤ (s.host (hostOf p.start.tenant)).mrrs → 0 < (s.host (hostOf p.start.tenant)).tagsFree →
          Out.hostRead (hostOf p.start.tenant) (s.pasidOf p.start.tenant) (b.cmbase + BitVec.ofNat 64 (1024 * w.aux.toNat)) 0x240 (.columnMap sc) ∈ u.out) ∧
        u.prog? sc = some { p with mapAsked := true } ∧ u.ports = s.ports) ∧
    (∀ b, w.fcolumn = true → (s.tenant p.start.tenant).binding = some b → b.nmaps ≤ w.aux.toNat →
      exec i s = .next ((s.seqException sc).endProgram sc { code := 0x11, reason := 6, step := some p.flow } 2).settle)) ∧
  (∀ (sc : SC) (p : Prog) (w : StepW) (s : State), s.stepDue sc = some (p, w) → holdsHere p w = false → p.guarded = none →
    let ends := fun (i : Instr) => stepSound s sc p.flow →
      (∀ n, earlyCheck w = some (.check n) → exec i s = .next ((s.seqException sc).endProgram sc { code := 0x11, reason := BitVec.ofNat 8 n, step := some p.flow } 2).settle) ∧
      (earlyCheck w = some .zero → exec i s = .next ((s.seqException sc).endProgram sc { code := 0x12, step := some p.flow } 2).settle)
    (opOf w.op = .read → ends (.readStep sc .good)) ∧ (opOf w.op = .write → ends (.writeStep sc .good)) ∧ (opOf w.op = .sense → ends (.senseStep sc .good)) ∧
      (opOf w.op = .control → ends (.controlStep sc .good)) ∧
    (opOf w.op = .read → ∃ v : State, exec (.readStep sc .poison) s = .next ((v.seqException sc).endIntegrity sc 6 (some p.flow)
        (s.granuleSite (s.stepGranule sc p.flow))).settle ∧
      v.data.poisRd = satInc s.data.poisRd ∧ v.prog = s.prog)) ∧
  (∀ (sc : SC) (p : Prog) (c : Chain) (a : W64) (w : StepW) (s : State), s.contDue sc = some (p, c, a, w) → earlyContCheck c.input c.col.isSome w = none →
    stepSound s sc a → c.col = none → w.fcolumn = false → w.findir = false → (w.fguard = false ∨ w.flink = true) →
    let part : Part := { step := a, count := w.count, skip := w.fskip, segs := if w.fskip || w.count = 0 then [] else [(w.addr, w.count)] }
    ((w.fskip = true ∨ s.inWindows p.start.tenant w.addr w.count = true) → ∃ (v : State) (k : Chain),
      exec (.continuationStep sc .good) s = .next (((v.route 1024 sc).pushOutput sc).chainOn sc).settle ∧ onlySub sc s v ∧
      v.prog? sc = some { p with seg := none, chain := some k, ahead := p.ahead.filter (fun x => x.part.step != a), passage := p.passage + 1 } ∧
      k = { c with
        parts := k.parts, nextRead := k.nextRead, redo := k.redo, staged := k.staged, landed := k.landed, whole := !w.flink, guard := false
        chain := w.fchain && !w.flink, post := c.post || w.fpost, last := a } ∧
      (p.aheadFor part = none → k.parts = c.parts ++ [{ part with passage := p.passage }] ∧ k.nextRead = c.nextRead ∧ k.redo = c.redo ∧
        k.staged = c.staged ∧ k.landed = c.landed) ∧
      (∀ x, p.aheadFor part = some x → k.parts = c.parts ++ [x.part])) ∧
    (w.fskip = false → s.inWindows p.start.tenant w.addr w.count = false →
      exec (.continuationStep sc .good) s = .next ((s.seqException sc).endProgram sc { code := 0x13, reason := 2, step := some a } 2).settle)) ∧
  (∀ (d : Die) (n : Nat) (rest : List Nat) (s : State),
    ((s.pool d).waiting = n :: rest → exec (.columnizerEngineGranted d) s = .next (s.sendChain (BitVec.ofNat 18 n)).settle) ∧
    ((s.pool d).waiting = [] → exec (.columnizerEngineGranted d) s = .next s) ∧
    (∀ (sc : SC) (e : Nat), (s.pool d).waiting = sc.toNat :: rest → (s.pool d).holders.any (fun h => h.2 == sc.toNat) = false →
      (s.data.pools.any (fun k => k.1 != d.val && (k.2.holders.any (fun h => h.2 == sc.toNat) || k.2.waiting.contains sc.toNat))) = false →
      (List.range 8).find? (fun e => (tfind (s.pool d).holders e).isNone && !(s.pool d).retired.contains e && !(s.pool d).testing.contains e) = some e →
      (s.claimEngine sc d).2 = true ∧ tfind ((s.claimEngine sc d).1.pool d).holders e = some sc.toNat ∧ sc.toNat ∉ ((s.claimEngine sc d).1.pool d).waiting))

/-- R143, R152-R155, R160, R170-R173: control operations. Each counts toward the limit of R155; GO and a taken TEST branch to the step's address plus 16 times AUX, every other goes on
with CHAIN or ends with OK; WAIT-TOKEN takes a unit or waits at the token's tail, POST-TOKEN gives one, MARK-TIME writes the die's timebase and with SEND a TIME
frame; a waiter that was given its unit goes on; a reserved operation ends with STEP-CHECK 1. -/
def Obligations.ControlOperations : Prop :=
  (∀ (sc : SC) (o : Op) (p : Prog) (w : StepW) (s : State), stepStands s sc o p w →
    let counted := s.modProg sc (fun p => { p with controls := p.controls + 1 })
    let post := fun (v : State) => if w.fpost then v.report sc p.flow else v
    let on := fun (v : State) => if w.fchain then (post v).goTo sc (p.flow + 16) else v.endOk sc p.flow
    let target := p.flow + 16 * w.aux.signExtend 64
    let n := w.aux.toNat
    (p.controls < 65536 →
      (o = .nop → exec (.nop sc .good) s = .next (on counted).settle) ∧
      (o = .go → exec (.go sc .good) s = .next ((post (counted.branch sc)).goTo sc target).settle) ∧
      (o = .test → (p.s &&& BitVec.ofNat 8 w.count) = BitVec.ofNat 8 (w.count / 256) → exec (.test sc .good) s =
        .next ((post (counted.branch sc)).goTo sc target).settle) ∧
      (o = .test → (p.s &&& BitVec.ofNat 8 w.count) ≠ BitVec.ofNat 8 (w.count / 256) → exec (.test sc .good) s = .next (on counted).settle) ∧
      (o = .mark → ∀ x, p.path = some x → s.inWindows p.start.tenant w.addr 8 = true →
        let v := State.writeOwn 8 counted sc p.xfer w.addr (le 8 (tget 0 s.clk.dies (portDie x.port).val).toNat) none
        (w.aux = 0 → exec (.markTime sc .good) s = .next (on v).settle) ∧
        (w.aux = 1 → exec (.markTime sc .good) s = .next (on (v.modPort x.port (fun q => { q with
          controls := q.controls ++ [⟨sealFrame (timeFrame x.addr (s.sub sc).devaddr (tget 0 s.clk.dies (portDie x.port).val)), none, []⟩] }))).settle)) ∧
      (∀ k, s.token? n = some k → k.owner = p.start.tenant → k.fenced = false → (∀ l, p.level = some l → l < k.rank) →
        (o = .wait → 0 < k.value → k.waiters = [] → ∃ v : State, exec (.waitToken sc .good) s = .next (on v).settle ∧
          v.token? n = some { k with value := k.value - 1 } ∧ (∀ m, m ≠ n → v.token? m = s.token? m) ∧
          v.prog? sc = some { p with controls := p.controls + 1, named := n :: p.named, level := some k.rank, waited := true } ∧
          (∀ x, x ≠ sc → v.sub x = s.sub x) ∧ { v with prog := s.prog } = s) ∧
        (o = .wait → (k.value = 0 ∨ k.waiters ≠ []) → ∃ u : State, exec (.waitToken sc .good) s = .next (u.planAhead sc).settle ∧
          u.token? n = some { k with waiters := k.waiters ++ [sc.toNat] } ∧ (∀ m, m ≠ n → u.token? m = s.token? m) ∧
          u.prog? sc = some { p with controls := p.controls + 1, named := n :: p.named, phase := .waiting s.clk.now, waitNo := s.prog.waits } ∧
          u.prog.waits = s.prog.waits + 1 ∧
          (∀ x, x ≠ sc → u.sub x = s.sub x) ∧ { u with prog := s.prog } = s) ∧
        (o = .post → p.queuedW ≤ p.provenW → k.waiters = [] → k.value < 65535 → ∃ v : State, exec (.postToken sc .good) s = .next (on v).settle ∧
          v.token? n = some { k with value := k.value + 1 } ∧ (v.acct 7 n).debit = (s.acct 7 n).debit + 1 ∧ (v.acct 7 n).credit = (s.acct 7 n).credit + 1 ∧
          v.prog? sc = some { p with controls := p.controls + 1, named := n :: p.named, postWait := false } ∧ v.ports = s.ports) ∧
        (∀ (y : SC) (rest : List Nat) (q : Prog), o = .post → p.queuedW ≤ p.provenW → k.waiters = y.toNat :: rest → y ≠ sc → s.prog? y = some q → q.path = none →
          ∃ v : State, exec (.postToken sc .good) s = .next (on v).settle ∧ v.token? n = some { k with waiters := rest } ∧
            v.prog? y = some { q with phase := .satisfied } ∧ v.ports = s.ports) ∧
        (o = .post → p.provenW < p.queuedW → (k.waiters ≠ [] ∨ k.value < 65535) → ∃ v : State, exec (.postToken sc .good) s = .next (v.closeKick sc).settle ∧
          v.prog? sc = some { p with controls := p.controls + 1, postWait := true } ∧ { v with prog := s.prog } = s ∧ v.prog.tokens = s.prog.tokens)) ∧
      (s.token? n = none → o = .wait → exec (.waitToken sc .good) s =
        .next ((counted.seqException sc).endProgram sc { code := 0x11, reason := 12, step := some p.flow } 2).settle)) ∧
    (65536 ≤ p.controls → o = .nop → exec (.nop sc .good) s =
      .next ((s.seqException sc).endProgram sc { code := 0x11, reason := 11, step := some p.flow } 2).settle)) ∧
  (∀ (sc : SC) (p : Prog) (w : StepW) (s : State), s.stepDue sc = some (p, w) → opOf w.op = .reserved → p.guarded = none →
    stepSound s sc p.flow → exec (.reservedControlOperation sc .good) s =
      .next (((s.seqException sc).endProgram sc { code := 0x11, reason := 1, step := some p.flow } 2).settle)) ∧
  (∀ (sc : SC) (p : Prog) (a : W64) (s : State), s.prog? sc = some p → p.stop = none → ∃ v : State, s.goTo sc a = v.arrive sc ∧ onlySub sc s v ∧
    v.prog? sc = some { p with flow := a, seg := none, map := none, pass := none }) ∧
  (∀ (sc : SC) (p : Prog) (n : Nat) (k : Token) (w : StepW) (s : State), s.prog? sc = some p → p.phase = .satisfied → p.waitToken = some n → s.token? n = some k →
    p.stepAt p.flow = some w → p.stop = none →
    let q : Prog := { p with level := some k.rank, waited := true, phase := .running, controls := 0 }
    (w.fchain = false → ∃ v : State, exec (.waiterResume sc) s = .next (v.endOk sc p.flow).settle ∧ onlySub sc s v ∧ v.prog? sc = some q) ∧
    (∀ x, w.fchain = true → w.fpost = false → p.path = some x → s.usable x = true → ∃ v : State, exec (.waiterResume sc) s = .next (v.takePath sc x).settle ∧
      onlySub sc s v ∧ v.prog? sc = some { q with flow := p.flow + 16, seg := none, map := none, pass := none })) ∧
  (∀ (sc : SC) (p : Prog) (n : Nat) (e : Ending) (w : StepW) (s : State), s.prog? sc = some p → p.phase = .satisfied → p.waitToken = some n →
    p.stepAt p.flow = some w → p.stop = some e → ∃ v : State, exec (.waiterResume sc) s = .next (v.stopAt sc e (some p.flow)).settle ∧ onlySub sc s v ∧
      ∃ q, v.prog? sc = some q ∧ q.stop = some e ∧ q.phase = .running) ∧
  (∀ (sc : SC) (p : Prog) (a : W64) (s : State), s.prog? sc = some p →
    ((p.s.getLsbD 6 = false ∨ p.residue = none) → s.endOk sc a = s.endProgram sc { code := 0, step := some a } 2) ∧
    (∀ g, p.s.getLsbD 6 = true → p.residue = some g →
      s.endOk sc a = s.endProgram sc { code := 1, reason := BitVec.ofNat 8 g.pos, step := some g.short, residual := g.residual } 2))

/-- R65, R156, R161-R164, R177, R178, R186, R200, R234, R245: the reads a program makes. A step group becomes a copy of the execution; an entry of a segment list is taken or
fails check 7; a column map is kept for its step; output lands in a staging buffer; a read-back that agrees lets what waited go on; a read that failed ends
the program with ADDRESS-CHECK 7 or INTEGRITY 4.
The model's: the oldest read of a key comes back (log 41). -/
def Obligations.ProgramReads : Prop :=
  (∀ (sc : SC) (p : Prog) (h : HPort) (s : State), s.prog? sc = some p →
    let quiet := fun (v : State) => v.ports = s.ports ∧ v.queues = s.queues ∧ ((s.host h).readQ = [] → v.out = s.out)
    let fails := fun (i : Dma → Instr) (step : W64) (p1 : Prog) =>
      (∃ v : State, exec (i .refused) s = .next ((v.seqException sc).endProgram sc { code := 0x13, reason := 7, step := some step } 2).settle ∧
        v.prog? sc = some p1 ∧ quiet v) ∧
      (∃ v : State, exec (i .failed) s = .next ((v.seqException sc).endIntegrity sc 4 (some step)
          (seqSite ((p.path.map (·.port)).getD 0))).settle ∧
        v.prog? sc = some p1 ∧ quiet v)
    (∀ (addr : W64) (arrived : Bool), tfind p.asked (groupOf addr) = some arrived → s.readPort (.group sc addr) = some h → s.readCount h (.group sc addr) = 1 →
      (∀ data : Bytes, p.groups.length < 64 → ∃ v : State,
        exec (.stepGroupReadComplete sc addr (.ok data)) s = .next ((if p.phase = .running then v.lookahead sc else v).pushOutput sc).settle ∧
        v.prog? sc = some { p with
          asked := tdel p.asked (groupOf addr), groups := tset p.groups (groupOf addr) (padTo 64 data)
          slots := if p.slots.contains (groupOf addr) then p.slots else p.slots ++ [groupOf addr] } ∧ quiet v) ∧
      (arrived = true → ∃ v : State, exec (.stepGroupReadComplete sc addr .refused) s =
          .next ((v.seqException sc).endProgram sc { code := 0x13, reason := 7, step := some (p.arrivedAt (groupOf addr)) } 2).settle ∧
        v.prog? sc = some { p with asked := tdel p.asked (groupOf addr) } ∧ quiet v)) ∧
    (∀ g : SegRead, p.seg = some g → g.asked = true → s.readPort (.segments sc) = some h → s.readCount h (.segments sc) = 1 →
      let count := ((p.stepAt g.step).map (fun (w : StepW) => w.count)).getD 0
      (∀ data : Bytes, segTake count g (padTo 16 data) = none → ∃ v : State, exec (.segmentListReadComplete sc (.ok data)) s =
          .next ((v.seqException sc).endProgram sc { code := 0x11, reason := 7, step := some g.step } 2).settle ∧ v.prog? sc = some p ∧ v.ports = s.ports) ∧
      (∀ (data : Bytes) (g1 : SegRead), segTake count g (padTo 16 data) = some g1 → ∃ v : State, exec (.segmentListReadComplete sc (.ok data)) s =
          .next (v.stepGoesOn sc).settle ∧ v.prog? sc = some { p with seg := some g1 } ∧ quiet v)) ∧
    (p.mapAsked = true → s.readPort (.columnMap sc) = some h → s.readCount h (.columnMap sc) = 1 →
      (∀ data : Bytes, ∃ v : State, exec (.columnMapReadComplete sc (.ok data)) s = .next (v.stepGoesOn sc).settle ∧
        v.prog? sc = some { p with map := some (p.flow, padTo 0x240 data), mapAsked := false } ∧ quiet v) ∧
      fails (.columnMapReadComplete sc) p.flow { p with mapAsked := false })) ∧
  (∀ (count : Nat) (g : SegRead) (b : Bytes),
    let len := (u16 b 8).toNat
    let sum := g.got.foldl (fun a x => a + x.2) 0 + len
    (len = 0 → segTake count g b = none) ∧ (count < sum → segTake count g b = none) ∧ (allZero (bslice b 10 6) = false → segTake count g b = none) ∧
    (len ≠ 0 → allZero (bslice b 10 6) = true → sum = count →
      segTake count g b = some { g with got := g.got ++ [((u64 b 0).toNat, len)], asked := false, done := true }) ∧
    (len ≠ 0 → allZero (bslice b 10 6) = true → sum < count → g.got.length < 63 →
      segTake count g b = some { g with got := g.got ++ [((u64 b 0).toNat, len)], asked := false, addr := g.addr + 16 }) ∧
    (sum < count → 63 ≤ g.got.length → segTake count g b = none)) ∧
  (∀ (sc : SC) (m ch : Nat) (d : Desc) (h : HPort) (s : State), s.outputMover sc = some (m, ch, d) → s.readPort (.output sc) = some h →
    s.readCount h (.output sc) ≤ 4096 → ∀ data : Bytes, ∃ (u : State) (x : Piece), exec (.outputReadComplete sc (.ok data)) s = .next u.settle ∧
      x.bytes = ((padTo (roundedRead d.addr d.len).2 data).drop (d.addr % 64)).take d.len ∧
      (tfind u.data.movers m).map (·.running) = some (some (ch, { d with bytes := x.bytes, run := some x.run }, true)) ∧
      tfind u.data.refs x.buf = some 1 ∧ u.data.freeBuf = s.data.freeBuf - 1 ∧ u.ports = s.ports ∧ u.prog = s.prog ∧
      ((s.host h).readQ = [] → u.out = s.out)) ∧
  (∀ (sc : SC) (p : Prog) (b : ReadBack) (h : HPort) (s : State), s.rbProg sc = some p → p.rb = some b →
    s.readPort (.readback sc) = some h → s.readCount h (.readback sc) = 1 →
    let quiet := fun (v : State) => v.ports = s.ports ∧ ((s.host h).readQ = [] → v.out = s.out) ∧ v.queues = s.queues ∧ v.data = s.data
    (∀ data : Bytes, rbMatches b.dw data = true → ∃ v : State, exec (.readbackComplete sc (.ok data) 0) s = .next (v.rbGood sc p b).settle ∧ quiet v) ∧
    (∀ data : Bytes, rbMatches b.dw data = false → ∃ v : State, exec (.readbackComplete sc (.ok data) 0) s = .next (v.rbFailed sc p).settle ∧ quiet v) ∧
    (∃ v : State, exec (.readbackComplete sc .failed 0) s = .next (v.rbFailed sc p).settle ∧ quiet v)) ∧
  (∀ (m : MoverNum) (ch : Nat) (d : Desc) (rest : List Desc) (s : State), (s.mover m).fenced = false → (s.mover m).retired = false →
    (s.mover m).testing = false → (s.mover m).running = none → s.data.inService = true → s.nextChannel (s.mover m) = some ch →
    (tget {} (s.mover m).channels ch).queue = d :: rest → d.kind = 1 →
    ∃ t, exec (.moverDescriptorBegin m .good) s = .next t ∧ (t.mover m).running = some (ch, d, false) ∧ t.prog = s.prog) ∧
  (∀ (m : MoverNum) (ch : Nat) (d : Desc) (s : State), (s.mover m).running = some (ch, d, true) → d.kind = 1 →
    ∃ v : State, exec (.moverDescriptorComplete m) s = .next (v.outputStored d).settle ∧ v = s.freeMover m.val) ∧
  (∀ (m : MoverNum) (s : State), (s.mover m).running = none → exec (.moverDescriptorComplete m) s = .next s)

/-! ### Data path -/

/-- R219, R226, R227, R240-R248, R306, R420, R484: block movers, patrols, windows. A free mover takes the next channel's head descriptor, pauses the channel by its share, and reads host
memory or the staging granules; a finished read is readable output, a finished write is sent to the host, all the bytes of its descriptors in one; the patrols count and repair what
they meet, each granule once a pass; the windows fill their counters, and small requests beyond a controller's budget wait for the next one.
The model's: a mover that runs takes nothing (log 32); a read whose data is not there is not complete (log 32); poison is logged as KIND 0x02 (log 17);
a granule that the pass has read (log 129); how the ratio is rounded (log 130), and its value in a window without requests (log 22). -/
def Obligations.StagingAndMovers : Prop :=
  (∀ (m : MoverNum) (ch : Nat) (d : Desc) (rest : List Desc) (s : State), (s.mover m).fenced = false → (s.mover m).retired = false → (s.mover m).testing = false →
    (s.mover m).running = none → s.data.inService = true → s.nextChannel (s.mover m) = some ch → (tget {} (s.mover m).channels ch).queue = d :: rest →
    let c := tget ({} : Channel) (s.mover m).channels ch
    let off := (d.run.map (fun r => r.off)).getD 0
    let granules := (off + d.len + 63) / 64 - off / 64
    let began := fun (t : State) => t.mover m = { s.mover m with
      running := some (ch, d, false), lastCh := ch
      channels := tset (s.mover m).channels ch { c with
        queue := rest, notBefore := 5 * s.clk.now + (16 * granules + c.share - 1) / c.share, grants := c.grants - 1 } }
    let host := s.host (hostOf d.tenant)
    let a := d.addr / 64 * 64
    let n := (d.addr + d.len + 63) / 64 * 64 - a
    (d.kind = 1 → ∃ t, exec (.moverDescriptorBegin m .good) s = .next t ∧ began t ∧ t.prog = s.prog ∧ t.ports = s.ports ∧
      (0 < host.tagsFree → t.readOpen (hostOf d.tenant) (.output d.sc) = true ∧
        (0 < d.len → a < 2 ^ 64 → n ≤ host.mrrs → a % 4096 + n ≤ 4096 →
          t.out = .hostRead (hostOf d.tenant) d.pasid (BitVec.ofNat 64 a) n (.output d.sc) :: s.out))) ∧
    (d.kind ≠ 1 → (d.run.map s.runPoison).getD false = false → ∃ u : State, exec (.moverDescriptorBegin m .good) s = .next u.settle ∧ began u ∧
      u.out = s.out ∧ u.prog = s.prog ∧ u.ports = s.ports) ∧
    (d.kind ≠ 1 → ∃ v : State, exec (.moverDescriptorBegin m .poison) s =
        .next (((v.freeMover m.val).dropRuns d.run.toList).poisonWrite d 6 (s.descSite d)).settle ∧
      began v ∧ v.data.poisRd = satInc s.data.poisRd ∧ v.prog = s.prog) ∧
    (d.kind ≠ 1 → (d.run.map s.runPoison).getD false = true → exec (.moverDescriptorBegin m .good) s = exec (.moverDescriptorBegin m .poison) s)) ∧
  (∀ (m : MoverNum) (s : State), (s.mover m).running = none → exec (.moverDescriptorComplete m) s = .next s) ∧
  (∀ (m : MoverNum) (ch : Nat) (d : Desc) (landed : Bool) (s : State), (s.mover m).running = some (ch, d, landed) →
    let spoilt := ((s.progX? d.sc d.xfer).map (fun p => p.spoilt && !d.head.isEmpty)).getD false
    exec (.moverDescriptorBegin m .good) s = .next s ∧
    (d.kind = 1 → landed = true → exec (.moverDescriptorComplete m) s = .next ((s.freeMover m.val).outputStored d).settle) ∧
    (d.kind = 1 → landed = false → exec (.moverDescriptorComplete m) s = .next s) ∧
    (d.kind ≠ 1 → spoilt = false → d.more = false → (s.host (hostOf d.tenant)).alive = true → ∃ v : State,
      exec (.moverDescriptorComplete m) s = .next (((v.dropRuns d.run.toList).freeMover m.val).writeIssued d).settle ∧
      v.out = .hostWrite (hostOf d.tenant) d.pasid (BitVec.ofNat 64 (d.addr - d.head.length)) (d.head ++ d.bytes) :: s.out ∧ v.prog = s.prog ∧
      v.data = s.data ∧ v.ports = s.ports) ∧
    (d.kind ≠ 1 → spoilt = false → d.more = true →
      exec (.moverDescriptorComplete m) s = .next (((s.dropRuns d.run.toList).freeMover m.val).writeIssued d).settle) ∧
    (d.kind ≠ 1 → spoilt = true →
      exec (.moverDescriptorComplete m) s = .next ((((s.dropRuns d.run.toList).freeMover m.val).skipWrite d).closeKick d.sc).settle)) ∧
  (∀ (g : BitVec 30) (e : Ecc) (r : BitVec 24) (b : BitVec 16) (s : State), s.data.inService = true → g.toNat < 0x30000000 →
    let next := fun (k : DataPath) =>
      if k.scrubbed.length + 1 = 0x30000000 then { k with scrubbed := [], scrubPass := satInc k.scrubPass }
      else { k with scrubbed := insertNat g.toNat k.scrubbed }
    (g.toNat ∈ s.data.scrubbed → exec (.scrubGranule g e) s = .next s) ∧
    (g.toNat ∉ s.data.scrubbed →
      exec (.scrubGranule g .good) s = .next { s with data := next s.data } ∧
      exec (.scrubGranule g .poison) s = .next { s with data := next s.data } ∧
      (∃ u : State, exec (.scrubGranule g (.corrected r b)) s = .next u.settle ∧ u.data = { next s.data with ceCnt := satInc s.data.ceCnt } ∧ u.prog = s.prog) ∧
      (∃ u : State, exec (.scrubGranule g (.uncorrectable r b)) s = .next u.settle ∧ u.data.ueCnt = satInc s.data.ueCnt ∧
        (∃ x, tfind u.data.granules g.toNat = some x ∧ x.poison = true) ∧ (∀ k, k ≠ g.toNat → tfind u.data.granules k = tfind s.data.granules k) ∧
        u.prog = s.prog)) ∧
    ∀ l : List Nat, ∀ k, k ∈ insertNat g.toNat l ↔ k = g.toNat ∨ k ∈ l) ∧
  (∀ (c0 c1 : CtrlLoad) (s : State), s.data.inService = true →
    let h0 := heldSmall c0 (tget [] s.data.smallQ 0)
    let h1 := heldSmall c1 (tget [] s.data.smallQ 1)
    exec (.smallBudgetWindow ⟨c0, c1⟩) s = .next { s with data := { s.data with
      smallQ := tset (tset s.data.smallQ 0 h0) 1 h1, smallHeld := if h0 = [] ∧ h1 = [] then s.data.smallHeld else satInc s.data.smallHeld } }) ∧
  (∀ (c : CtrlLoad) (q : List Nat), (c.bulkWaits = false → heldSmall c q = []) ∧
    ((∀ x ∈ c.reqs, smallRequest x = true) → c.bulkWaits = true → heldSmall c q = q ++ c.reqs.map (fun x => x.1.toNat)) ∧
    ((∀ x ∈ c.reqs, smallRequest x = false) → c.bulkWaits = true → heldSmall c q = q.drop (c.reqs.length / 15))) ∧
  (∀ (site : W32) (e : Ecc) (r : BitVec 24) (b : BitVec 16) (s : State),
    (patrolled site = false → exec (.sramPatrol site e) s = .next s) ∧ exec (.sramPatrol site .good) s = .next s ∧
    (patrolled site = true → s.data.inService = true → (s.faults.acts.any (fun a => a.1 == site)) = false →
      (∃ u : State, exec (.sramPatrol site (.corrected r b)) s = .next u.settle ∧ u.faults.next = s.faults.next + 1 ∧ u.data = s.data ∧ u.prog = s.prog ∧
        (∀ c, pairOfSite site = some c → u.pair c =
          if Config.programMacro (fieldOf site 11 0) then { s.pair c with eccp := satInc (s.pair c).eccp }
          else { s.pair c with eccd := satInc (s.pair c).eccd }) ∧
        (pairOfSite site = none → u.cores = s.cores)) ∧
      (∃ v : State, exec (.sramPatrol site (.uncorrectable r b)) s = .next (v.memoryFailure site).settle ∧ v.faults.next = s.faults.next + 1 ∧
        v.data = s.data ∧ v.prog = s.prog ∧ v.cores = s.cores))) ∧
  (∀ (site : W32) (s : State),
    (pairOfSite site = none → s.memoryFailure site = s) ∧
    (∀ c, pairOfSite site = some c → (s.pair c).running = true → s.memoryFailure site = s.failPair c .ecc) ∧
    (∀ c, pairOfSite site = some c → (s.pair c).running = false → s.memoryFailure site = s)) ∧
  (∀ (counts : List Nat) (i : Nat) (s : State), s.data.inService = true → i < 64 →
    (∀ j, j < 64 → counts.getD j 0 ≤ counts.getD i 0) → (∀ j, j < i → counts.getD j 0 < counts.getD i 0) → 0 < counts.getD i 0 →
    let sum := (List.range 64).foldl (fun a k => a + counts.getD k 0) 0
    let word := BitVec.ofNat 32 (min 0xFFFF (counts.getD i 0 * 64 * 256 / sum) + 65536 * i)
    exec (.imbalanceWindow counts) s = .next { s with data := { s.data with
      imbal := word, imbalPk := if s.data.imbalPk.setWidth 16 < word.setWidth 16 then word else s.data.imbalPk } }) ∧
  (∀ (counts : List Nat) (s : State), s.data.inService = true → (∀ j, j < 64 → counts.getD j 0 = 0) → ∃ t, exec (.imbalanceWindow counts) s = .next t ∧
    t = { s with
      clk := { s.clk with free := s.clk.free + 1 }, data := { s.data with imbal := t.data.imbal, imbalPk := t.data.imbalPk } } ∧
    t.data.imbal.toNat < 2 ^ 22)

/-! ### Cages -/

/-- R103, R259, R281, R284-R286, R464, R465, R513: cages. Its wave asks the domains of a cage on and powers it; the module that answers is checked and asked into high power, or fenced; when
it is ready the fences of the cage lift and its lanes are lit; one that is not ready in time is fenced and looked at again each 5 s; insertion, removal, an
interrupt, a poll and a tripped switch have the effects of R285, R284 and R513.
The model's: a timer not over, a module already there or a cage without power changes nothing (log 32); one entry per cage event (log 53). -/
def Obligations.Cages : Prop :=
  (∀ (c : CageNum) (t : Nat) (s : State), s.foggy = false → (c, t) ∈ s.list.waves → t ≤ s.clk.now →
    ((s.cageEntry c).state ≠ 1 → exec (.cageWaveStart c) s = .next { s with list := { s.list with waves := s.list.waves.filter (fun w => w.1 != c) } }) ∧
    ((s.cageEntry c).state = 1 → ∃ v : State,
      (let u := if [0, 1, 2, 3].any (fun i => v.domOn (4 * c.val + i) || ((v.dom (4 * c.val + i)).switching == some true && !v.onDarkDie (4 * c.val + i)))
        then v.powerCage c else v
       exec (.cageWaveStart c) s = .next (if (u.cage c).ready then (cagePorts c).foldl (fun v d => v.light d) u else u).settle) ∧
      v.list = { s.list with waves := s.list.waves.filter (fun w => w.1 != c) } ∧ v.ports = s.ports ∧ v.out = s.out ∧
      (s.hbmOn = true → ∀ i, i < 4 → tget false s.therm.dieWithdrawn (1 + (4 * c.val + i) / 12) = false → s.domOn (4 * c.val + i) = false →
        (v.dom (4 * c.val + i)).switching = some true))) ∧
  (∀ (c : CageNum) (s : State), (s.cage c).retired = false → (s.cage c).tripped = false → (s.cage c).powered = false →
    (s.powerCage c).cage c = { s.cage c with powered := true, checked := false, ready := false, failed := false, readyBy := some (s.clk.now + 62500000) }) ∧
  (∀ (c : CageNum) (f : FenceCause) (s : State), ∀ d ∈ cagePorts c, f ∈ ((s.fenceCage c f).port d).fences) ∧
  (∀ (c : CageNum) (ident media power : Byte) (s : State), (s.cage c).powered = true → (s.cage c).present = true → (s.cage c).checked = false →
    let e := s.cageEntry c
    let other := ident ≠ e.ident ∨ (e.media ≠ 0xFF ∧ media ≠ e.media)
    (¬ other → power.toNat ≤ min e.pmax.toNat 32 → ∃ u : State, exec (.moduleInLowPowerMode c ident media power) s = .next u.settle ∧
      u.cage c = { s.cage c with checked := true, failed := false, readyBy := some (s.clk.now + 46875000) } ∧ u.out = .cageHighPower c :: s.out ∧
      (∀ d ∈ cagePorts c, (u.port d).equaliser = some (Config.equaliser media)) ∧
      u.prog = s.prog ∧ u.queues = s.queues) ∧
    (other → ∃ v : State, exec (.moduleInLowPowerMode c ident media power) s = .next ((v.fenceCage c .cageType).logCage c none).settle ∧
      v.cage c = { s.cage c with failed := true, readyBy := none } ∧ v.out = s.out ∧ v.prog = s.prog) ∧
    (¬ other → min e.pmax.toNat 32 < power.toNat → ∃ v : State, exec (.moduleInLowPowerMode c ident media power) s =
        .next ((v.fenceCage c .cagePower).logCage c (some (power.setWidth 16))).settle ∧
      v.cage c = { s.cage c with failed := true, readyBy := none } ∧ v.out = s.out ∧ v.prog = s.prog)) ∧
  (∀ (c : CageNum) (s : State), (s.cage c).powered = true → (s.cage c).present = true → (s.cage c).checked = true → (s.cage c).ready = false →
    ∃ v : State, exec (.moduleReady c) s = .next ((cagePorts c).foldl (fun v d => v.light d) v).settle ∧
      v.cage c = { s.cage c with ready := true, readyBy := none, recheckAt := none } ∧
      ((s.cage c).tripped = false → (s.cage c).retired = false →
        ∀ d ∈ cagePorts c, FenceCause.cageAbsent ∉ (v.port d).fences ∧ FenceCause.cageType ∉ (v.port d).fences ∧ FenceCause.cagePower ∉ (v.port d).fences) ∧
      v.out = s.out ∧ v.prog = s.prog) ∧
  (∀ (c : CageNum) (d : DPort) (s : State), s.mayLight d = true → (s.port d).txOn = false → portCage d = c →
    (s.light d).port d = { s.port d with txOn := true, link := 2, fec := (s.cageEntry c).fec.getLsbD (d.val % 8) } ∧ ∀ x, x ≠ d → (s.light d).port x = s.port x) ∧
  (∀ (c : CageNum) (t : Nat) (s : State),
    ((s.cage c).readyBy = some t → t ≤ s.clk.now → (s.cage c).ready = false → ∃ v : State,
      exec (.cageReadyTimeout c) s = .next ((v.fenceCage c .cageAbsent).logCage c none).settle ∧
      v.cage c = { s.cage c with readyBy := none, recheckAt := some (s.clk.now + 781250000) } ∧ v.ports.ports = s.ports.ports ∧ v.out = s.out) ∧
    ((s.cage c).recheckAt = some t → t ≤ s.clk.now → ∃ u, exec (.cageRecheck c) s = .next u ∧
      u.cage c = { s.cage c with recheckAt := none, checked := false, readyBy := some (s.clk.now + 46875000) } ∧ (∀ x, x ≠ c → u.cage x = s.cage x) ∧
      { u with ports := s.ports } = s ∧ u.ports.ports = s.ports.ports) ∧
    ((s.cage c).recheckAt = some t → s.clk.now < t → exec (.cageRecheck c) s = .next s)) ∧
  (∀ (c : CageNum) (reading temp : W16) (rx : List W16) (s : State),
    ((s.cage c).present = false → (s.cageEntry c).state = 1 → (s.cage c).tripped = false → (s.cage c).powered = true → ∃ u : State,
      exec (.moduleInserted c) s = .next u.settle ∧ u.cage c = { s.cage c with
        present := true, reported := false, checked := false, ready := false, failed := false, recheckAt := none, readyBy := some (s.clk.now + 62500000) } ∧
      ((s.cage c).retired = false → ∀ d ∈ cagePorts c, FenceCause.cageAbsent ∉ (u.port d).fences) ∧ u.out = s.out) ∧
    ((s.cage c).present = false → (s.cageEntry c).state = 1 → (s.cage c).tripped = true → ∃ v : State, exec (.moduleInserted c) s =
        .next (if [0, 1, 2, 3].any (fun i => v.domOn (4 * c.val + i)) then v.powerCage c else v).settle ∧
      v.cage c = { s.cage c with present := true, reported := false, tripped := false } ∧ v.ports.ports = s.ports.ports ∧ v.out = s.out) ∧
    ((s.cage c).present = false → (s.cageEntry c).state ≠ 1 → s.list.loaded = true → ∃ v : State, exec (.moduleInserted c) s = .next (v.logCage c none).settle ∧
      v.cage c = { s.cage c with present := true, reported := true } ∧ v.ports.ports = s.ports.ports ∧ v.out = s.out) ∧
    ((s.cage c).present = true → exec (.moduleInserted c) s = .next s) ∧
    ((s.cage c).present = true → (s.cage c).powered = false → (s.cageEntry c).state ≠ 1 → ∃ t, exec (.moduleRemoved c) s = .next t ∧
      t.cage c = { s.cage c with present := false, checked := false, ready := false, failed := false, readyBy := none, recheckAt := none, reported := true } ∧
      { t with ports := s.ports, side := s.side, evus := s.evus, power := s.power } = s ∧ t.ports.ports = s.ports.ports ∧
      t.line (184 + c.val) = true) ∧
    ((s.cage c).present = true → (s.cage c).powered = false → (s.cageEntry c).state = 1 → ∃ v : State, exec (.moduleRemoved c) s =
        .next ((((cagePorts c).foldl (fun v d => (if (v.port d).txOn then v.retrain d else v).darken d) v).fenceCage c .cageAbsent).logCage c none).settle ∧
      v.cage c = { s.cage c with present := false, checked := false, ready := false, failed := false, readyBy := none, recheckAt := none, reported := true } ∧
      v.ports.ports = s.ports.ports ∧ v.out = s.out) ∧
    ((s.cage c).present = true → (s.cage c).powered = true → ∃ v : State, exec (.moduleRemoved c) s = .next ((((cagePorts c).foldl (fun v d =>
        ((if (v.port d).txOn then v.retrain d else v).darken d).awaitModule d) v).fenceCage c .cageAbsent).logCage c none).settle ∧
      v.cage c = { s.cage c with present := false, checked := false, ready := false, failed := false, readyBy := none, recheckAt := none, reported := true } ∧
      v.ports.ports = s.ports.ports ∧ v.out = s.out) ∧
    ((s.cage c).powered = true → (s.cage c).present = true → s.data.inService = true → (∃ u : State, exec (.cageIntl c reading) s = .next u.settle ∧
        u.faults.next = s.faults.next + 1 ∧ u.ports = s.ports ∧ u.prog = s.prog) ∧
      ∃ t, exec (.cmisMonitorPoll c temp rx) s = .next t ∧ t.cage c = { s.cage c with temp := temp, rx := rx.take 8 } ∧ { t with ports := s.ports } = s ∧
        t.ports.ports = s.ports.ports) ∧
    ((s.cage c).powered = true → exec (.cageSwitchTrip c) s =
      .next ((((s.unpowerCage c).modCage c (fun g => { g with tripped := true, tripAt := some s.clk.now })).fenceCage c .cagePower).logCage c none).settle) ∧
    ((s.cage c).powered = false → exec (.cageSwitchTrip c) s = .next s))

/-! ### Device ports -/

/-- R101, R103, R258-R263, R266, R278, R281: bringing a link up. Block lock starts HELLO, which goes again every 100 µs until the unit's has come; an accepted HELLO sets the credits of both
directions and starts the identifies, a refused one keeps the port fenced for 5 s; a lost lock and 1 ms of silence retrain; the idle and credit timers make
ECHO and CREDIT due; an absent path is asked again.
The model's: a timer not over changes nothing (log 32); silence counts in UP (log 49); frames that wait with the cause of a retrain reached the port in its
cycle and go before it (log 134). -/
def Obligations.LinkBringUp : Prop :=
  (∀ (d : DPort) (t : Nat) (s : State),
    let p := s.port d
    let set := fun (i : Instr) (q : Port) => ∃ u, exec i s = .next u ∧ u.port d = q ∧ onlyPort d s u
    (p.txOn = true → p.locked = false → p.refusedAt = none → ∃ u, exec (.blockLock d) s = .next u ∧
      u.port d = { p with locked := true, link := 3, helloDue := true, helloAt := some (s.clk.now + 15625) } ∧
      (∀ x, x ≠ d → u.port x = s.port x) ∧ { u with ports := s.ports, evus := s.evus, power := s.power } = s) ∧
    (p.txOn = true → p.locked = false → p.refusedAt ≠ none → ∃ u, exec (.blockLock d) s = .next u ∧ u.port d = { p with locked := true } ∧
      (∀ x, x ≠ d → u.port x = s.port x) ∧ { u with ports := s.ports, evus := s.evus } = s) ∧
    (p.txOn = true → p.locked = true → exec (.blockLock d) s = .next s) ∧
    (p.txOn = false → (s.portNamed d = true ∨ s.portDomainOn d = false) → exec (.blockLock d) s = .next s) ∧
    (p.txOn = false → s.portNamed d = false → s.portDomainOn d = true → s.data.inService = true →
      ∃ u, exec (.blockLock d) s = .next u ∧ u.faults.next = s.faults.next + 1 ∧ u.ports = s.ports ∧ u.prog = s.prog) ∧
    (p.locked = false → exec (.blockLockLoss d) s = .next s) ∧
    (s.waitingFrames d = [] →
      (p.locked = true → exec (.blockLockLoss d) s = .next (s.retrain d).settle) ∧
      (p.link = 5 → p.lastRx + 156250 ≤ s.clk.now → exec (.receiveSilence d) s = .next (s.retrain d).settle)) ∧
    (s.waitingFrames d ≠ [] → (p.locked = true → ∃ u : State, exec (.blockLockLoss d) s = .next u.settle ∧ u.port d = { p with retrainDue := true } ∧
      onlyPort d s u)) ∧
    ((p.link ≠ 5 ∨ s.clk.now < p.lastRx + 156250) → exec (.receiveSilence d) s = .next s) ∧
    (p.helloAt = some t → t ≤ s.clk.now → p.locked = true → p.helloSeen = false → p.refusedAt = none →
      set (.helloInterval d) { p with helloDue := true, helloAt := some (s.clk.now + 15625) }) ∧
    (p.helloAt = some t → s.clk.now < t → exec (.helloInterval d) s = .next s) ∧
    (p.refusedAt = some t → t ≤ s.clk.now → p.locked = true → ∃ u : State, exec (.helloRefusedRetry d) s = .next u.settle ∧ onlyPort d s u ∧
      u.port d = { p with fences := p.fences.filter (fun x => x != .helloRefused), refusedAt := none, link := 3, helloDue := true, helloAt := some (s.clk.now + 15625) }) ∧
    (p.refusedAt = some t → t ≤ s.clk.now → p.locked = false → ∃ u : State, exec (.helloRefusedRetry d) s = .next u.settle ∧ onlyPort d s u ∧
      u.port d = { p with fences := p.fences.filter (fun x => x != .helloRefused), refusedAt := none }) ∧
    (p.refusedAt = some t → s.clk.now < t → exec (.helloRefusedRetry d) s = .next s) ∧
    (p.txOn = true → p.helloSeen = true → p.lastTx + 15625 ≤ s.clk.now → set (.echoIdleTimer d) { p with echoDue := true }) ∧
    (p.waitSince = some t → t + 160 ≤ s.clk.now → set (.creditReturnTimer d) { p with creditDue := true }) ∧
    (p.waitSince = some t → s.clk.now < t + 160 → exec (.creditReturnTimer d) s = .next s)) ∧
  (∀ (d : DPort) (s : State), (s.port d).exch = [] → ((s.retrain d).port d).locked = false ∧ ((s.retrain d).port d).helloSeen = false ∧
    ((s.port d).txOn = true → ((s.retrain d).port d).link = if (s.port d).link = 5 then 6 else 2) ∧
    ((s.port d).link = 5 → ((s.retrain d).port d).retrains = satInc (s.port d).retrains) ∧ ∀ x, x ≠ d → (s.retrain d).port x = s.port x) ∧
  (∀ (d : DPort) (f : Frame) (s : State), f.typ = 6 → f.sub = 1 → (s.port d).txOn = true → (s.port d).locked = true → (s.port d).refusedAt = none →
    frameBad f = false →
    ((s.port d).link = 5 → exec (.hello d f) s = .next (s.retrain d).settle) ∧
    ((s.port d).link ≠ 5 → helloRefused (s.port d).fec f = 0 →
      exec (.hello d f) s = .next ((s.helloAccepted d f (s.port d).helloSeen).work).settle ∧
      ((s.port d).helloSeen = false → (s.port d).quar = [] → s.namedAddrs d = [] → ((s.helloAccepted d f false).port d).link = 5 ∧
        ((s.helloAccepted d f false).port d).helloSeen = true)) ∧
    ((s.port d).link ≠ 5 → helloRefused (s.port d).fec f ≠ 0 → exec (.hello d f) s = .next (s.helloRefusal d (helloRefused (s.port d).fec f)).settle ∧
      ((s.port d).exch = [] → (s.port d).owed = [] → ((s.helloRefusal d (helloRefused (s.port d).fec f)).port d) = { s.port d with
        link := 2, helloSeen := false, helloDue := false, helloAt := none, idLeft := [], refusedAt := some (s.clk.now + 781250000)
        fences := if (s.port d).fences.contains .helloRefused then (s.port d).fences else (s.port d).fences ++ [.helloRefused] })) ∧
    (s.helloCredits d f).port d = { s.port d with
      dinit := (u16 f.body 4).setWidth 32, dcumRx := (u16 f.body 4).setWidth 32, ccumRx := (u16 f.body 6).setWidth 32, dUsed := 0, cUsed := 0
      dcumTx := 1024, ccumTx := 256, dRecv := 0, cRecv := 0, dWait := 0, cWait := 0, waitSince := none, creditDue := false
      exmax := (u16 f.body 8).toNat } ∧
    (s.balanced 2 d.val = true → ((s.helloCredits d f).acct 2 d.val) = ⟨1280, 1280⟩)) ∧
  (∀ (d : DPort) (f : Frame) (s : State), f.typ = 5 → arrives s d f → ∃ v : State, exec (.credit d f) s = .next (v.dropCovered d).settle ∧
    (v.port d).dcumRx = (if newerCount (u32 f.body 0) (s.port d).dcumRx then u32 f.body 0 else (s.port d).dcumRx) ∧
    (v.port d).ccumRx = (if newerCount (u32 f.body 4) (s.port d).ccumRx then u32 f.body 4 else (s.port d).ccumRx) ∧
    (v.port d).lastRx = s.clk.now ∧ (v.port d).dRecv = (s.port d).dRecv ∧ (∀ x, x ≠ d → v.port x = s.port x) ∧
    { v with ports := s.ports, power := s.power, faults := s.faults } = s) ∧
  (∀ (d : DPort) (a : Byte) (t g : Nat) (s : State), (s.pathSt d a).retryAt = some t → (s.pathSt d a).absent = true → (s.pathSt d a).probing = false →
    (s.port d).link = 5 → (s.port d).muted = false → s.portDomainOn d = true →
    (s.clk.now < t → exec (.absentPathRetry d a) s = .next s) ∧
    (t ≤ s.clk.now → s.namedAddrs d = [a] → s.foggy = false → (s.port d).exch.any (fun e => e.2.owner == .ident a) = false → (s.port d).headTag = some g → g < 4096 →
      ∃ u : State, exec (.absentPathRetry d a) s = .next u.settle ∧ (u.pathSt d a).probing = true ∧ (u.pathSt d a).retryAt = none ∧ (u.pathSt d a).retries = 0 ∧
        let e : Exch := { owner := .ident a, gen := (s.port d).nextGen g, cuaddr := a, devaddr := 0, input := true, output := false }
        tfind (u.port d).exch g = some e ∧
        (u.port d).ctrlQ = (s.port d).ctrlQ ++ [⟨exchFrame { blank 1 with flags := 1, body := padTo 12 [0] } (BitVec.ofNat 12 g) e, some (BitVec.ofNat 12 g), []⟩] ∧
        u.prog = s.prog ∧ u.out = s.out))

/-- R190, R193, R263, R264, R269-R273, R276, R277, R280: frames that arrive. A good frame uses a credit of its class and starts the receive clock; one that names an open exchange has its
effect on it: DATA in its place is staged, one out of its place or with a bad PCRC is asked for again by RESEND, DATA-REQ raises what the unit wants, STATUS closes the
exchange, RESEND puts kept frames back, WORKING starts the timers anew, ABORT-ACK frees the tag, FREE sends busy commands again; frames that name nothing are
counted and discarded.
The model's: frames before their COMMAND or ABORT is sent (log 47); what a credit count covers (log 48). -/
def Obligations.FramesReceived : Prop :=
  (∀ (d : DPort) (f : Frame) (s : State), arrives s d f →
    let gone := fun (q : Port → Port) (u : State) => u.port d = q (takesFrame s.clk.now f (s.port d)) ∧ onlyPort d s u
    (f.typ = 6 → f.sub = 2 → ∃ u : State, exec (.echo d f) s = .next u.settle ∧ gone id u) ∧
    (∀ e, namesExch s d f e →
      let x := fun (accepts : Bool) => touched s.clk.now accepts e
      (f.typ = 6 → f.sub = 7 → ∃ u : State, exec (.working d f) s = .next u.settle ∧
        gone (fun p => { p with exch := tset (s.port d).exch f.tag.toNat (x false) }) u) ∧
      (f.typ = 6 → f.sub = 4 → ∃ u : State, exec (.abortAck d f) s = .next (u.kickIdents d).settle ∧ gone (fun p => { p with frmerr := satInc p.frmerr }) u) ∧
      (f.typ = 2 → e.input = false → ∃ u : State, exec (.data d f) s = .next u.settle ∧ gone (fun p => { p with frmerr := satInc p.frmerr }) u) ∧
      (f.typ = 2 → e.input = true → e.refuse = none →
        (f.pcrc = payloadCrc f.payload → f.seq = BitVec.ofNat 16 e.rxSeq → ∃ v : State, exec (.data d f) s = .next (v.takeData d f.tag e f.payload).settle ∧
          gone (fun p => { p with exch := tset (s.port d).exch f.tag.toNat (x true) }) v) ∧
        ((f.pcrc ≠ payloadCrc f.payload ∨ seqPlace f.seq e.rxSeq = .after) → e.gap = false → tget 0 e.named e.rxSeq < 3 → ∃ u : State,
          exec (.data d f) s = .next u.settle ∧ tfind (u.port d).exch f.tag.toNat =
            some { x true with named := tset e.named e.rxSeq (tget 0 e.named e.rxSeq + 1), gap := true } ∧
          (u.port d).resends = (s.port d).resends ++ [⟨exchFrame { control 6 with seq := BitVec.ofNat 16 e.rxSeq } f.tag
            { x true with named := tset e.named e.rxSeq (tget 0 e.named e.rxSeq + 1), gap := true }, some f.tag, []⟩] ∧
          (u.port d).resendTx = satInc (s.port d).resendTx ∧ onlyPort d s u) ∧
        (f.pcrc = payloadCrc f.payload → seqPlace f.seq e.rxSeq = .before → ∃ u : State, exec (.data d f) s = .next u.settle ∧
          gone (fun p => { p with exch := tset (s.port d).exch f.tag.toNat (x true) }) u)) ∧
      (∀ (sc : SC) (p : Prog) (c : Chain), f.typ = 3 → e.output = true → e.owner = .prog sc → s.prog? sc = some p → p.chain = some c → ∃ v : State,
        exec (.dataReq d f) s = .next ((v.pushOutput sc).chainOn sc).settle ∧ tfind (v.port d).exch f.tag.toNat = some (x true) ∧
        v.prog? sc = some { p with chain := some { c with wanted := max c.wanted (f.offset.toNat + (u32 f.body 0).toNat) } } ∧ v.out = s.out) ∧
      (f.typ = 4 → (f.tag.toNat, f.gen) ∉ (s.port d).early → statusInOrder e f = true → ∃ v : State, exec (.status d f) s = .next ((v.statusEnd d f.tag e f).kickIdents d).settle ∧
        gone (fun p => { p with exch := tset (s.port d).exch f.tag.toNat (x (!f.flags.getLsbD 0)) }) v) ∧
      (f.typ = 4 → (f.tag.toNat, f.gen) ∉ (s.port d).early → statusInOrder e f = false → e.gap = false → tget 0 e.named e.rxSeq < 3 → ∃ u : State, exec (.status d f) s = .next u.settle ∧
        (u.port d).resendTx = satInc (s.port d).resendTx ∧ onlyPort d s u) ∧
      (f.typ = 6 → f.sub = 6 → ((∃ k ∈ e.kept, k.2.1.seq = f.seq) ∨
          ((∃ i ∈ (s.port d).dataQ, i.tag = some f.tag ∧ i.frame.seq = f.seq) ∧ seqPlace f.seq e.txSent = .before)) →
        tget 0 e.unitNamed f.seq.toNat < 3 → ∃ u : State,
        exec (.resend d f) s = .next u.settle ∧ (u.port d).resendRx = satInc (s.port d).resendRx ∧
        (u.port d).dataQ = ((e.kept.filter (fun k => seqPlace k.2.1.seq f.seq.toNat != .before)).map (fun k => (⟨k.2.1, some f.tag, k.2.2⟩ : TxItem))) ++ (s.port d).dataQ ∧
        tfind (u.port d).exch f.tag.toNat = some { x false with
          unitNamed := tset e.unitNamed f.seq.toNat (tget 0 e.unitNamed f.seq.toNat + 1)
          kept := e.kept.filter (fun k => seqPlace k.2.1.seq f.seq.toNat == .before) } ∧ onlyPort d s u)) ∧
    (∀ q, f.typ = 6 → f.sub = 4 → tfind (s.port d).exch f.tag.toNat = none → tfind (s.port d).quar f.tag.toNat = some q → q.gen = f.gen → q.sent = true →
      q.retired = false → q.cuaddr = f.cuaddr → q.devaddr = f.devaddr → ∃ v : State, exec (.abortAck d f) s = .next ((v.quarFree d f.tag).kickIdents d).settle ∧
        gone id v ∧ ((v.quarFree d f.tag).port d).freed = (s.port d).freed ++ [f.tag.toNat] ∧ tfind ((v.quarFree d f.tag).port d).quar f.tag.toNat = none) ∧
    (f.typ = 6 → f.sub = 8 → f.cuaddr ∈ s.namedAddrs d → ∃ v : State, exec (.free d f) s = .next ((v.busyOn d f.cuaddr f.devaddr).foldl (fun v sc =>
        (v.modProg sc (fun p => { p with busy := p.busy.map (fun (b : Busy) => { b with waiting := false }) })).sendChain sc) v).settle ∧
      v.port d = takesFrame s.clk.now f (s.port d) ∧ { v with ports := s.ports, power := s.power, evus := s.evus } = s) ∧
    (f.typ = 6 → f.sub = 8 → f.cuaddr ∉ s.namedAddrs d → ∃ v : State, exec (.free d f) s = .next (v.noteUnnamed d f.cuaddr).settle ∧ gone id v ∧
      (v.noteUnnamed d f.cuaddr).port d = { v.port d with unnamed := satInc (v.port d).unnamed } ∧
      (s.data.inService = true → (v.noteUnnamed d f.cuaddr).faults.next = s.faults.next + 1)) ∧
    (f.typ = 4 → (f.tag.toNat, f.gen) ∈ (s.port d).early → ∃ v : State, exec (.status d f) s = .next (v.kickIdents d).settle ∧
      gone (fun p => { p with early := p.early.filter (fun x => x != (f.tag.toNat, f.gen)) }) v) ∧
    (∀ e, f.typ = 2 → tfind (s.port d).exch f.tag.toNat = some e → e.cuaddr = f.cuaddr → e.gen ≠ f.gen → ∃ u : State, exec (.data d f) s = .next u.settle ∧
      gone (fun p => { p with stale := satInc p.stale }) u)) ∧
  (∀ (d : DPort) (f : Frame) (s : State), (s.port d).txOn = true → (s.port d).locked = true → (s.port d).refusedAt = none → (s.port d).helloSeen = true →
    frameBad f = false → f.typ = 2 → (s.port d).dOut = 0 → ∃ v : State, exec (.data d f) s = .next (v.retrainBy d true).settle ∧
      v.port d = { s.port d with lastRx := s.clk.now } ∧ onlyPort d s v) ∧
  (∀ (d : DPort) (f : Frame) (s : State), (s.port d).txOn = true → (s.port d).locked = true → (s.port d).refusedAt ≠ none → (s.port d).retrainDue = false →
    f.typ = 2 → ∃ u, exec (.data d f) s = .next u ∧ u.port d = { s.port d with frmerr := satInc (s.port d).frmerr, lastRx := s.clk.now } ∧ onlyPort d s u) ∧
  (∀ (d : DPort) (cost : Nat) (ctrl : Bool) (s : State), (s.port d).txOn = true → (s.port d).locked = true → (s.port d).retrainDue = false →
    ∃ u : State, exec (.frameDiscarded d ⟨cost, ctrl⟩) s = .next u.settle ∧ onlyPort d s u ∧ (u.port d).frmerr = satInc (s.port d).frmerr ∧
      (u.port d).lastRx = s.clk.now ∧
      (u.port d).dRecv = (if (s.port d).helloSeen = true ∧ 64 < cost ∧ 0 < (s.port d).dOut then (s.port d).dRecv + 1 else (s.port d).dRecv) ∧
      (u.port d).cRecv = (if (s.port d).helloSeen = true ∧ cost ≤ 64 ∧ ctrl = true ∧ 0 < (s.port d).cOut then (s.port d).cRecv + 1 else (s.port d).cRecv)) ∧
  (∀ (d : DPort) (g : Tag) (e : Exch) (s : State), tfind (s.port d).exch g.toNat = some e →
    tfind ((s.closeExch d g).port d).exch g.toNat = none ∧ ((s.closeExch d g).port d).freed = (s.port d).freed ++ [g.toNat] ∧
    ∀ x, x ≠ d → (s.closeExch d g).port x = s.port x)

/-- R191, R192, R202, R262-R267, R273, R274, R278, R281-R283, R288: exchange timers and the transmitter. A command, inactivity or missing-data timer that is over has its effect; an ABORT is sent up to
four times; at a frame boundary RESEND goes before CREDIT, then HELLO, the other control frames, ECHO, and the two queues in turn, each frame with its
checks and its credit.
The model's: a timer not over changes nothing (log 32); CREDIT behind RESEND (log 46); the frames that reached the port in a command's cycle (log 134). -/
def Obligations.TimersAndTransmitter : Prop :=
  (∀ (d : DPort) (g : Tag) (e : Exch) (t : Nat) (s : State), tfind (s.port d).exch g.toNat = some e →
    let times := fun (i : Instr) (sc : SC) => ∃ v : State, exec i s = .next (v.exchFailed sc e.accepted true).settle ∧
      tfind (v.port d).exch g.toNat = none ∧ tfind (v.port d).quar g.toNat = some ⟨e.gen, e.cuaddr, e.devaddr, 3, 0, none, false, false⟩ ∧
      (⟨exchFrame { control 3 with body := padTo 12 [3] } g e, some g, []⟩ : TxItem) ∈ (v.port d).controls ∧ v.prog = s.prog ∧ v.out = s.out
    (∀ sc, e.cmdAt = some t → t ≤ s.clk.now → e.accepted = false → e.sent = true → e.owner = .prog sc → s.acceptWaits d g e = false →
      (s.statusWaits d g e = false → times (.commandTimeout d g) sc) ∧
      (s.statusWaits d g e = true → ∃ v : State, exec (.commandTimeout d g) s = .next (v.exchFailed sc e.accepted true).settle ∧
        tfind (v.port d).exch g.toNat = none ∧ (v.port d).early = (s.port d).early ++ [(g.toNat, e.gen)] ∧ (v.port d).quar = (s.port d).quar ∧
        v.prog = s.prog ∧ v.out = s.out)) ∧
    (s.acceptWaits d g e = true → exec (.commandTimeout d g) s = .next s) ∧
    (e.cmdAt = some t → s.clk.now < t → exec (.commandTimeout d g) s = .next s) ∧
    (∀ sc, e.inactAt = some t → t ≤ s.clk.now → e.accepted = true → e.sent = true → e.owner = .prog sc → s.owes d g e = false →
      s.frameWaits d g e = false → times (.inactivityTimeout d g) sc) ∧
    ((s.owes d g e = true ∨ s.frameWaits d g e = true) → exec (.inactivityTimeout d g) s = .next s) ∧
    (e.missAt = some t → t ≤ s.clk.now → e.input = true → ∃ u, exec (.missingDataTimeout d g) s = .next u ∧ onlyPort d s u ∧
      tfind (u.port d).exch g.toNat = some { e with missAt := some (s.clk.now + 156250) } ∧
      (u.port d).resends = (s.port d).resends ++ [⟨exchFrame { control 6 with seq := BitVec.ofNat 16 e.rxSeq } g e, some g, []⟩]) ∧
    (e.missAt = some t → s.clk.now < t → exec (.missingDataTimeout d g) s = .next s)) ∧
  (∀ (d : DPort) (g : Tag) (q : Quar) (t : Nat) (s : State), tfind (s.port d).quar g.toNat = some q → q.sent = true → q.expires = some t →
    (s.clk.now < t → exec (.abortTimeout d g) s = .next s) ∧
    (t ≤ s.clk.now → q.tries < 3 → ∃ u : State, exec (.abortTimeout d g) s = .next u.settle ∧
      tfind (u.port d).quar g.toNat = some { q with tries := q.tries + 1, expires := none } ∧
      (u.port d).controls = (s.port d).controls ++ [⟨{ control 3 with tag := g, gen := q.gen, cuaddr := q.cuaddr, devaddr := q.devaddr, body := padTo 12 [q.reason] }, some g, []⟩] ∧
      u.prog = s.prog ∧ u.out = s.out) ∧
    (t ≤ s.clk.now → 3 ≤ q.tries → ∃ u : State, exec (.abortTimeout d g) s = .next u.settle ∧
      tfind (u.port d).quar g.toNat = some { q with expires := none, retired := true } ∧ (u.port d).controls = (s.port d).controls ∧ u.out = s.out)) ∧
  (∀ (d : DPort) (s : State), (s.port d).txOn = true → (s.port d).locked = true → (s.port d).refusedAt = none → s.side.pinsTaken = false →
    s.waitingFrames d = [] →
    let p := s.port d
    let sends := fun (f : Frame) (q : Port) => ∃ u, exec (.transmitFrameBoundary d .good) s = .next u ∧ u.out = .frame d (sealFrame f) :: s.out ∧ u.port d = q ∧
      (∀ x, x ≠ d → u.port x = s.port x) ∧ { u with ports := s.ports, out := s.out } = s
    let q := { p with lastTx := s.clk.now, echoDue := false }
    (p.helloSeen = false → p.helloDue = true → sends (helloFrame p.fec) { q with helloDue := false }) ∧
    (p.helloSeen = false → p.helloDue = false → exec (.transmitFrameBoundary d .good) s = .next s) ∧
    (p.helloSeen = true →
      (∀ i rest, p.resends = i :: rest → 0 < p.cHand → sends i.frame { q with resends := rest, cUsed := p.cUsed + 1 }) ∧
      (p.resends = [] → p.creditDue = true → ∃ u, exec (.transmitFrameBoundary d .good) s = .next u ∧ u.out = .frame d (sealFrame (creditFrame (u.port d))) :: s.out ∧
        (u.port d).dcumTx = p.dcumTx + BitVec.ofNat 32 (s.grantable d) ∧ (u.port d).ccumTx = p.ccumTx + BitVec.ofNat 32 p.cWait ∧
        (u.port d).dWait = p.dWait - s.grantable d ∧ (u.port d).cWait = 0 ∧ (u.port d).creditDue = false ∧ (∀ x, x ≠ d → u.port x = s.port x)) ∧
      (p.resends = [] → p.creditDue = false →
        (p.helloDue = true → sends (helloFrame p.fec) { q with helloDue := false }) ∧
        (p.helloDue = false →
          (∀ i rest, p.controls = i :: rest → 0 < p.cHand → ∃ u : State, exec (.transmitFrameBoundary d .good) s = .next u.settle ∧
            u.out = .frame d (sealFrame i.frame) :: s.out ∧ (u.port d).controls = rest ∧ (u.port d).cUsed = p.cUsed + 1 ∧
            (∀ g x, i.tag = some g → i.frame.sub = 3 → tfind p.quar g.toNat = some x →
              tfind (u.port d).quar g.toNat = some { x with sent := true, expires := some (s.clk.now + 156250) })) ∧
          (p.controls = [] → p.echoDue = true → sends (control 2) q) ∧
          (p.controls = [] → p.echoDue = false → p.muted = false → s.foggy = false →
            (∀ i rest g e sc r, p.ctrlQ = i :: rest → 0 < p.cHand → (p.dataQ = [] ∨ p.lastCtrl = false) → i.tag = some g → tfind p.exch g.toNat = some e →
              e.owner = .prog sc → s.prog? sc = some r → ∃ u : State, exec (.transmitFrameBoundary d .good) s = .next u.settle ∧
              u.out = .frame d (sealFrame i.frame) :: s.out ∧ (u.port d).ctrlQ = rest ∧ (u.port d).cUsed = p.cUsed + 1 ∧ (u.port d).lastCtrl = true ∧
              tfind (u.port d).exch g.toNat = some { e with sent := true, cmdAt := some (s.clk.now + 781250), missAt := if e.input then some (s.clk.now + 156250) else none } ∧
              ∃ r1, u.prog? sc = some r1 ∧ (∀ x, r.path = some x → x ∈ r1.tried) ∧ r1.chain = r.chain.map (fun c => { c with cmdSent := true })) ∧
            (∀ i rest g e sc r, p.dataQ = i :: rest → 0 < p.dHand → p.throttle = false → (p.ctrlQ = [] ∨ p.lastCtrl = true) → i.tag = some g →
              (i.srcs.any s.runPoison) = false → tfind p.exch g.toNat = some e → e.owner = .prog sc → s.prog? sc = some r →
              e.txSent % 65536 = i.frame.seq.toNat → ∃ v : State, exec (.transmitFrameBoundary d .good) s = .next ((v.pushOutput sc).chainOn sc).settle ∧
              v.out = .frame d (sealFrame i.frame) :: s.out ∧ (v.port d).dataQ = rest ∧ (v.port d).dUsed = p.dUsed + 1 ∧
              tfind (v.port d).exch g.toNat = some { e with kept := e.kept ++ [(p.dUsed.toNat + 1, i.frame, i.srcs)], txSent := e.txSent + 1, inactAt := if e.accepted then some (s.clk.now + 156250000) else none } ∧
              v.prog? sc = some { r with
                digest := digest r.digest i.frame.payload
                chain := r.chain.map (fun c => { c with sent := c.sent + i.frame.payload.length, egress := digest c.egress i.frame.payload }) }) ∧
            (p.ctrlQ = [] → p.dataQ = [] → exec (.transmitFrameBoundary d .good) s = .next s))))))

/-! ### What follows every command -/

/-- R196: where nothing is left to be done, what follows a command finds the quiet of the tenants anew and changes nothing else.
The model's: what follows a command is the model's own form (log 108). -/
def Obligations.WhatFollows : Prop :=
  ∀ s : State, calm s → { s.settle with queues := s.queues } = s ∧ s.settle.queues.sqs = s.queues.sqs ∧ s.settle.queues.cqs = s.queues.cqs ∧
    ∀ t : Tenant, { (s.settle).tenant t with quiet := none } = { s.tenant t with quiet := none }
end

