-- ==== Sys2Proof/Laws/State.lean ====
section
/-! SUPPORT. Laws/State.lean: what each update of one part of the state leaves in every part. -/

namespace Sys2Proof.Machine

open Sys2Proof

/-! ### onOut -/

@[simp] theorem State.onOut_pending (s : State) (f) : (s.onOut f).pending = s.pending := rfl
@[simp] theorem State.onOut_out (s : State) (f) : (s.onOut f).out = f s.out := rfl
@[simp] theorem State.onOut_clk (s : State) (f) : (s.onOut f).clk = s.clk := rfl
@[simp] theorem State.onOut_keeper (s : State) (f) : (s.onOut f).keeper = s.keeper := rfl
@[simp] theorem State.onOut_power (s : State) (f) : (s.onOut f).power = s.power := rfl
@[simp] theorem State.onOut_therm (s : State) (f) : (s.onOut f).therm = s.therm := rfl
@[simp] theorem State.onOut_hosts (s : State) (f) : (s.onOut f).hosts = s.hosts := rfl
@[simp] theorem State.onOut_vfs (s : State) (f) : (s.onOut f).vfs = s.vfs := rfl
@[simp] theorem State.onOut_queues (s : State) (f) : (s.onOut f).queues = s.queues := rfl
@[simp] theorem State.onOut_list (s : State) (f) : (s.onOut f).list = s.list := rfl
@[simp] theorem State.onOut_prog (s : State) (f) : (s.onOut f).prog = s.prog := rfl
@[simp] theorem State.onOut_ports (s : State) (f) : (s.onOut f).ports = s.ports := rfl
@[simp] theorem State.onOut_data (s : State) (f) : (s.onOut f).data = s.data := rfl
@[simp] theorem State.onOut_cores (s : State) (f) : (s.onOut f).cores = s.cores := rfl
@[simp] theorem State.onOut_evus (s : State) (f) : (s.onOut f).evus = s.evus := rfl
@[simp] theorem State.onOut_banks (s : State) (f) : (s.onOut f).banks = s.banks := rfl
@[simp] theorem State.onOut_boxes (s : State) (f) : (s.onOut f).boxes = s.boxes := rfl
@[simp] theorem State.onOut_orders (s : State) (f) : (s.onOut f).orders = s.orders := rfl
@[simp] theorem State.onOut_faults (s : State) (f) : (s.onOut f).faults = s.faults := rfl
@[simp] theorem State.onOut_fw (s : State) (f) : (s.onOut f).fw = s.fw := rfl
@[simp] theorem State.onOut_side (s : State) (f) : (s.onOut f).side = s.side := rfl

/-! ### onClk -/

@[simp] theorem State.onClk_pending (s : State) (f) : (s.onClk f).pending = s.pending := rfl
@[simp] theorem State.onClk_out (s : State) (f) : (s.onClk f).out = s.out := rfl
@[simp] theorem State.onClk_clk (s : State) (f) : (s.onClk f).clk = f s.clk := rfl
@[simp] theorem State.onClk_keeper (s : State) (f) : (s.onClk f).keeper = s.keeper := rfl
@[simp] theorem State.onClk_power (s : State) (f) : (s.onClk f).power = s.power := rfl
@[simp] theorem State.onClk_therm (s : State) (f) : (s.onClk f).therm = s.therm := rfl
@[simp] theorem State.onClk_hosts (s : State) (f) : (s.onClk f).hosts = s.hosts := rfl
@[simp] theorem State.onClk_vfs (s : State) (f) : (s.onClk f).vfs = s.vfs := rfl
@[simp] theorem State.onClk_queues (s : State) (f) : (s.onClk f).queues = s.queues := rfl
@[simp] theorem State.onClk_list (s : State) (f) : (s.onClk f).list = s.list := rfl
@[simp] theorem State.onClk_prog (s : State) (f) : (s.onClk f).prog = s.prog := rfl
@[simp] theorem State.onClk_ports (s : State) (f) : (s.onClk f).ports = s.ports := rfl
@[simp] theorem State.onClk_data (s : State) (f) : (s.onClk f).data = s.data := rfl
@[simp] theorem State.onClk_cores (s : State) (f) : (s.onClk f).cores = s.cores := rfl
@[simp] theorem State.onClk_evus (s : State) (f) : (s.onClk f).evus = s.evus := rfl
@[simp] theorem State.onClk_banks (s : State) (f) : (s.onClk f).banks = s.banks := rfl
@[simp] theorem State.onClk_boxes (s : State) (f) : (s.onClk f).boxes = s.boxes := rfl
@[simp] theorem State.onClk_orders (s : State) (f) : (s.onClk f).orders = s.orders := rfl
@[simp] theorem State.onClk_faults (s : State) (f) : (s.onClk f).faults = s.faults := rfl
@[simp] theorem State.onClk_fw (s : State) (f) : (s.onClk f).fw = s.fw := rfl
@[simp] theorem State.onClk_side (s : State) (f) : (s.onClk f).side = s.side := rfl

/-! ### onKeeper -/

@[simp] theorem State.onKeeper_pending (s : State) (f) : (s.onKeeper f).pending = s.pending := rfl
@[simp] theorem State.onKeeper_out (s : State) (f) : (s.onKeeper f).out = s.out := rfl
@[simp] theorem State.onKeeper_clk (s : State) (f) : (s.onKeeper f).clk = s.clk := rfl
@[simp] theorem State.onKeeper_keeper (s : State) (f) : (s.onKeeper f).keeper = f s.keeper := rfl
@[simp] theorem State.onKeeper_power (s : State) (f) : (s.onKeeper f).power = s.power := rfl
@[simp] theorem State.onKeeper_therm (s : State) (f) : (s.onKeeper f).therm = s.therm := rfl
@[simp] theorem State.onKeeper_hosts (s : State) (f) : (s.onKeeper f).hosts = s.hosts := rfl
@[simp] theorem State.onKeeper_vfs (s : State) (f) : (s.onKeeper f).vfs = s.vfs := rfl
@[simp] theorem State.onKeeper_queues (s : State) (f) : (s.onKeeper f).queues = s.queues := rfl
@[simp] theorem State.onKeeper_list (s : State) (f) : (s.onKeeper f).list = s.list := rfl
@[simp] theorem State.onKeeper_prog (s : State) (f) : (s.onKeeper f).prog = s.prog := rfl
@[simp] theorem State.onKeeper_ports (s : State) (f) : (s.onKeeper f).ports = s.ports := rfl
@[simp] theorem State.onKeeper_data (s : State) (f) : (s.onKeeper f).data = s.data := rfl
@[simp] theorem State.onKeeper_cores (s : State) (f) : (s.onKeeper f).cores = s.cores := rfl
@[simp] theorem State.onKeeper_evus (s : State) (f) : (s.onKeeper f).evus = s.evus := rfl
@[simp] theorem State.onKeeper_banks (s : State) (f) : (s.onKeeper f).banks = s.banks := rfl
@[simp] theorem State.onKeeper_boxes (s : State) (f) : (s.onKeeper f).boxes = s.boxes := rfl
@[simp] theorem State.onKeeper_orders (s : State) (f) : (s.onKeeper f).orders = s.orders := rfl
@[simp] theorem State.onKeeper_faults (s : State) (f) : (s.onKeeper f).faults = s.faults := rfl
@[simp] theorem State.onKeeper_fw (s : State) (f) : (s.onKeeper f).fw = s.fw := rfl
@[simp] theorem State.onKeeper_side (s : State) (f) : (s.onKeeper f).side = s.side := rfl

/-! ### onPower -/

@[simp] theorem State.onPower_pending (s : State) (f) : (s.onPower f).pending = s.pending := rfl
@[simp] theorem State.onPower_out (s : State) (f) : (s.onPower f).out = s.out := rfl
@[simp] theorem State.onPower_clk (s : State) (f) : (s.onPower f).clk = s.clk := rfl
@[simp] theorem State.onPower_keeper (s : State) (f) : (s.onPower f).keeper = s.keeper := rfl
@[simp] theorem State.onPower_power (s : State) (f) : (s.onPower f).power = f s.power := rfl
@[simp] theorem State.onPower_therm (s : State) (f) : (s.onPower f).therm = s.therm := rfl
@[simp] theorem State.onPower_hosts (s : State) (f) : (s.onPower f).hosts = s.hosts := rfl
@[simp] theorem State.onPower_vfs (s : State) (f) : (s.onPower f).vfs = s.vfs := rfl
@[simp] theorem State.onPower_queues (s : State) (f) : (s.onPower f).queues = s.queues := rfl
@[simp] theorem State.onPower_list (s : State) (f) : (s.onPower f).list = s.list := rfl
@[simp] theorem State.onPower_prog (s : State) (f) : (s.onPower f).prog = s.prog := rfl
@[simp] theorem State.onPower_ports (s : State) (f) : (s.onPower f).ports = s.ports := rfl
@[simp] theorem State.onPower_data (s : State) (f) : (s.onPower f).data = s.data := rfl
@[simp] theorem State.onPower_cores (s : State) (f) : (s.onPower f).cores = s.cores := rfl
@[simp] theorem State.onPower_evus (s : State) (f) : (s.onPower f).evus = s.evus := rfl
@[simp] theorem State.onPower_banks (s : State) (f) : (s.onPower f).banks = s.banks := rfl
@[simp] theorem State.onPower_boxes (s : State) (f) : (s.onPower f).boxes = s.boxes := rfl
@[simp] theorem State.onPower_orders (s : State) (f) : (s.onPower f).orders = s.orders := rfl
@[simp] theorem State.onPower_faults (s : State) (f) : (s.onPower f).faults = s.faults := rfl
@[simp] theorem State.onPower_fw (s : State) (f) : (s.onPower f).fw = s.fw := rfl
@[simp] theorem State.onPower_side (s : State) (f) : (s.onPower f).side = s.side := rfl

/-! ### onTherm -/

@[simp] theorem State.onTherm_pending (s : State) (f) : (s.onTherm f).pending = s.pending := rfl
@[simp] theorem State.onTherm_out (s : State) (f) : (s.onTherm f).out = s.out := rfl
@[simp] theorem State.onTherm_clk (s : State) (f) : (s.onTherm f).clk = s.clk := rfl
@[simp] theorem State.onTherm_keeper (s : State) (f) : (s.onTherm f).keeper = s.keeper := rfl
@[simp] theorem State.onTherm_power (s : State) (f) : (s.onTherm f).power = s.power := rfl
@[simp] theorem State.onTherm_therm (s : State) (f) : (s.onTherm f).therm = f s.therm := rfl
@[simp] theorem State.onTherm_hosts (s : State) (f) : (s.onTherm f).hosts = s.hosts := rfl
@[simp] theorem State.onTherm_vfs (s : State) (f) : (s.onTherm f).vfs = s.vfs := rfl
@[simp] theorem State.onTherm_queues (s : State) (f) : (s.onTherm f).queues = s.queues := rfl
@[simp] theorem State.onTherm_list (s : State) (f) : (s.onTherm f).list = s.list := rfl
@[simp] theorem State.onTherm_prog (s : State) (f) : (s.onTherm f).prog = s.prog := rfl
@[simp] theorem State.onTherm_ports (s : State) (f) : (s.onTherm f).ports = s.ports := rfl
@[simp] theorem State.onTherm_data (s : State) (f) : (s.onTherm f).data = s.data := rfl
@[simp] theorem State.onTherm_cores (s : State) (f) : (s.onTherm f).cores = s.cores := rfl
@[simp] theorem State.onTherm_evus (s : State) (f) : (s.onTherm f).evus = s.evus := rfl
@[simp] theorem State.onTherm_banks (s : State) (f) : (s.onTherm f).banks = s.banks := rfl
@[simp] theorem State.onTherm_boxes (s : State) (f) : (s.onTherm f).boxes = s.boxes := rfl
@[simp] theorem State.onTherm_orders (s : State) (f) : (s.onTherm f).orders = s.orders := rfl
@[simp] theorem State.onTherm_faults (s : State) (f) : (s.onTherm f).faults = s.faults := rfl
@[simp] theorem State.onTherm_fw (s : State) (f) : (s.onTherm f).fw = s.fw := rfl
@[simp] theorem State.onTherm_side (s : State) (f) : (s.onTherm f).side = s.side := rfl

/-! ### onHosts -/

@[simp] theorem State.onHosts_pending (s : State) (f) : (s.onHosts f).pending = s.pending := rfl
@[simp] theorem State.onHosts_out (s : State) (f) : (s.onHosts f).out = s.out := rfl
@[simp] theorem State.onHosts_clk (s : State) (f) : (s.onHosts f).clk = s.clk := rfl
@[simp] theorem State.onHosts_keeper (s : State) (f) : (s.onHosts f).keeper = s.keeper := rfl
@[simp] theorem State.onHosts_power (s : State) (f) : (s.onHosts f).power = s.power := rfl
@[simp] theorem State.onHosts_therm (s : State) (f) : (s.onHosts f).therm = s.therm := rfl
@[simp] theorem State.onHosts_hosts (s : State) (f) : (s.onHosts f).hosts = f s.hosts := rfl
@[simp] theorem State.onHosts_vfs (s : State) (f) : (s.onHosts f).vfs = s.vfs := rfl
@[simp] theorem State.onHosts_queues (s : State) (f) : (s.onHosts f).queues = s.queues := rfl
@[simp] theorem State.onHosts_list (s : State) (f) : (s.onHosts f).list = s.list := rfl
@[simp] theorem State.onHosts_prog (s : State) (f) : (s.onHosts f).prog = s.prog := rfl
@[simp] theorem State.onHosts_ports (s : State) (f) : (s.onHosts f).ports = s.ports := rfl
@[simp] theorem State.onHosts_data (s : State) (f) : (s.onHosts f).data = s.data := rfl
@[simp] theorem State.onHosts_cores (s : State) (f) : (s.onHosts f).cores = s.cores := rfl
@[simp] theorem State.onHosts_evus (s : State) (f) : (s.onHosts f).evus = s.evus := rfl
@[simp] theorem State.onHosts_banks (s : State) (f) : (s.onHosts f).banks = s.banks := rfl
@[simp] theorem State.onHosts_boxes (s : State) (f) : (s.onHosts f).boxes = s.boxes := rfl
@[simp] theorem State.onHosts_orders (s : State) (f) : (s.onHosts f).orders = s.orders := rfl
@[simp] theorem State.onHosts_faults (s : State) (f) : (s.onHosts f).faults = s.faults := rfl
@[simp] theorem State.onHosts_fw (s : State) (f) : (s.onHosts f).fw = s.fw := rfl
@[simp] theorem State.onHosts_side (s : State) (f) : (s.onHosts f).side = s.side := rfl

/-! ### onVfs -/

@[simp] theorem State.onVfs_pending (s : State) (f) : (s.onVfs f).pending = s.pending := rfl
@[simp] theorem State.onVfs_out (s : State) (f) : (s.onVfs f).out = s.out := rfl
@[simp] theorem State.onVfs_clk (s : State) (f) : (s.onVfs f).clk = s.clk := rfl
@[simp] theorem State.onVfs_keeper (s : State) (f) : (s.onVfs f).keeper = s.keeper := rfl
@[simp] theorem State.onVfs_power (s : State) (f) : (s.onVfs f).power = s.power := rfl
@[simp] theorem State.onVfs_therm (s : State) (f) : (s.onVfs f).therm = s.therm := rfl
@[simp] theorem State.onVfs_hosts (s : State) (f) : (s.onVfs f).hosts = s.hosts := rfl
@[simp] theorem State.onVfs_vfs (s : State) (f) : (s.onVfs f).vfs = f s.vfs := rfl
@[simp] theorem State.onVfs_queues (s : State) (f) : (s.onVfs f).queues = s.queues := rfl
@[simp] theorem State.onVfs_list (s : State) (f) : (s.onVfs f).list = s.list := rfl
@[simp] theorem State.onVfs_prog (s : State) (f) : (s.onVfs f).prog = s.prog := rfl
@[simp] theorem State.onVfs_ports (s : State) (f) : (s.onVfs f).ports = s.ports := rfl
@[simp] theorem State.onVfs_data (s : State) (f) : (s.onVfs f).data = s.data := rfl
@[simp] theorem State.onVfs_cores (s : State) (f) : (s.onVfs f).cores = s.cores := rfl
@[simp] theorem State.onVfs_evus (s : State) (f) : (s.onVfs f).evus = s.evus := rfl
@[simp] theorem State.onVfs_banks (s : State) (f) : (s.onVfs f).banks = s.banks := rfl
@[simp] theorem State.onVfs_boxes (s : State) (f) : (s.onVfs f).boxes = s.boxes := rfl
@[simp] theorem State.onVfs_orders (s : State) (f) : (s.onVfs f).orders = s.orders := rfl
@[simp] theorem State.onVfs_faults (s : State) (f) : (s.onVfs f).faults = s.faults := rfl
@[simp] theorem State.onVfs_fw (s : State) (f) : (s.onVfs f).fw = s.fw := rfl
@[simp] theorem State.onVfs_side (s : State) (f) : (s.onVfs f).side = s.side := rfl

/-! ### onQueues -/

@[simp] theorem State.onQueues_pending (s : State) (f) : (s.onQueues f).pending = s.pending := rfl
@[simp] theorem State.onQueues_out (s : State) (f) : (s.onQueues f).out = s.out := rfl
@[simp] theorem State.onQueues_clk (s : State) (f) : (s.onQueues f).clk = s.clk := rfl
@[simp] theorem State.onQueues_keeper (s : State) (f) : (s.onQueues f).keeper = s.keeper := rfl
@[simp] theorem State.onQueues_power (s : State) (f) : (s.onQueues f).power = s.power := rfl
@[simp] theorem State.onQueues_therm (s : State) (f) : (s.onQueues f).therm = s.therm := rfl
@[simp] theorem State.onQueues_hosts (s : State) (f) : (s.onQueues f).hosts = s.hosts := rfl
@[simp] theorem State.onQueues_vfs (s : State) (f) : (s.onQueues f).vfs = s.vfs := rfl
@[simp] theorem State.onQueues_queues (s : State) (f) : (s.onQueues f).queues = f s.queues := rfl
@[simp] theorem State.onQueues_list (s : State) (f) : (s.onQueues f).list = s.list := rfl
@[simp] theorem State.onQueues_prog (s : State) (f) : (s.onQueues f).prog = s.prog := rfl
@[simp] theorem State.onQueues_ports (s : State) (f) : (s.onQueues f).ports = s.ports := rfl
@[simp] theorem State.onQueues_data (s : State) (f) : (s.onQueues f).data = s.data := rfl
@[simp] theorem State.onQueues_cores (s : State) (f) : (s.onQueues f).cores = s.cores := rfl
@[simp] theorem State.onQueues_evus (s : State) (f) : (s.onQueues f).evus = s.evus := rfl
@[simp] theorem State.onQueues_banks (s : State) (f) : (s.onQueues f).banks = s.banks := rfl
@[simp] theorem State.onQueues_boxes (s : State) (f) : (s.onQueues f).boxes = s.boxes := rfl
@[simp] theorem State.onQueues_orders (s : State) (f) : (s.onQueues f).orders = s.orders := rfl
@[simp] theorem State.onQueues_faults (s : State) (f) : (s.onQueues f).faults = s.faults := rfl
@[simp] theorem State.onQueues_fw (s : State) (f) : (s.onQueues f).fw = s.fw := rfl
@[simp] theorem State.onQueues_side (s : State) (f) : (s.onQueues f).side = s.side := rfl

/-! ### onList -/

@[simp] theorem State.onList_pending (s : State) (f) : (s.onList f).pending = s.pending := rfl
@[simp] theorem State.onList_out (s : State) (f) : (s.onList f).out = s.out := rfl
@[simp] theorem State.onList_clk (s : State) (f) : (s.onList f).clk = s.clk := rfl
@[simp] theorem State.onList_keeper (s : State) (f) : (s.onList f).keeper = s.keeper := rfl
@[simp] theorem State.onList_power (s : State) (f) : (s.onList f).power = s.power := rfl
@[simp] theorem State.onList_therm (s : State) (f) : (s.onList f).therm = s.therm := rfl
@[simp] theorem State.onList_hosts (s : State) (f) : (s.onList f).hosts = s.hosts := rfl
@[simp] theorem State.onList_vfs (s : State) (f) : (s.onList f).vfs = s.vfs := rfl
@[simp] theorem State.onList_queues (s : State) (f) : (s.onList f).queues = s.queues := rfl
@[simp] theorem State.onList_list (s : State) (f) : (s.onList f).list = f s.list := rfl
@[simp] theorem State.onList_prog (s : State) (f) : (s.onList f).prog = s.prog := rfl
@[simp] theorem State.onList_ports (s : State) (f) : (s.onList f).ports = s.ports := rfl
@[simp] theorem State.onList_data (s : State) (f) : (s.onList f).data = s.data := rfl
@[simp] theorem State.onList_cores (s : State) (f) : (s.onList f).cores = s.cores := rfl
@[simp] theorem State.onList_evus (s : State) (f) : (s.onList f).evus = s.evus := rfl
@[simp] theorem State.onList_banks (s : State) (f) : (s.onList f).banks = s.banks := rfl
@[simp] theorem State.onList_boxes (s : State) (f) : (s.onList f).boxes = s.boxes := rfl
@[simp] theorem State.onList_orders (s : State) (f) : (s.onList f).orders = s.orders := rfl
@[simp] theorem State.onList_faults (s : State) (f) : (s.onList f).faults = s.faults := rfl
@[simp] theorem State.onList_fw (s : State) (f) : (s.onList f).fw = s.fw := rfl
@[simp] theorem State.onList_side (s : State) (f) : (s.onList f).side = s.side := rfl

/-! ### onProg -/

@[simp] theorem State.onProg_pending (s : State) (f) : (s.onProg f).pending = s.pending := rfl
@[simp] theorem State.onProg_out (s : State) (f) : (s.onProg f).out = s.out := rfl
@[simp] theorem State.onProg_clk (s : State) (f) : (s.onProg f).clk = s.clk := rfl
@[simp] theorem State.onProg_keeper (s : State) (f) : (s.onProg f).keeper = s.keeper := rfl
@[simp] theorem State.onProg_power (s : State) (f) : (s.onProg f).power = s.power := rfl
@[simp] theorem State.onProg_therm (s : State) (f) : (s.onProg f).therm = s.therm := rfl
@[simp] theorem State.onProg_hosts (s : State) (f) : (s.onProg f).hosts = s.hosts := rfl
@[simp] theorem State.onProg_vfs (s : State) (f) : (s.onProg f).vfs = s.vfs := rfl
@[simp] theorem State.onProg_queues (s : State) (f) : (s.onProg f).queues = s.queues := rfl
@[simp] theorem State.onProg_list (s : State) (f) : (s.onProg f).list = s.list := rfl
@[simp] theorem State.onProg_prog (s : State) (f) : (s.onProg f).prog = f s.prog := rfl
@[simp] theorem State.onProg_ports (s : State) (f) : (s.onProg f).ports = s.ports := rfl
@[simp] theorem State.onProg_data (s : State) (f) : (s.onProg f).data = s.data := rfl
@[simp] theorem State.onProg_cores (s : State) (f) : (s.onProg f).cores = s.cores := rfl
@[simp] theorem State.onProg_evus (s : State) (f) : (s.onProg f).evus = s.evus := rfl
@[simp] theorem State.onProg_banks (s : State) (f) : (s.onProg f).banks = s.banks := rfl
@[simp] theorem State.onProg_boxes (s : State) (f) : (s.onProg f).boxes = s.boxes := rfl
@[simp] theorem State.onProg_orders (s : State) (f) : (s.onProg f).orders = s.orders := rfl
@[simp] theorem State.onProg_faults (s : State) (f) : (s.onProg f).faults = s.faults := rfl
@[simp] theorem State.onProg_fw (s : State) (f) : (s.onProg f).fw = s.fw := rfl
@[simp] theorem State.onProg_side (s : State) (f) : (s.onProg f).side = s.side := rfl

/-! ### onPorts -/

@[simp] theorem State.onPorts_pending (s : State) (f) : (s.onPorts f).pending = s.pending := rfl
@[simp] theorem State.onPorts_out (s : State) (f) : (s.onPorts f).out = s.out := rfl
@[simp] theorem State.onPorts_clk (s : State) (f) : (s.onPorts f).clk = s.clk := rfl
@[simp] theorem State.onPorts_keeper (s : State) (f) : (s.onPorts f).keeper = s.keeper := rfl
@[simp] theorem State.onPorts_power (s : State) (f) : (s.onPorts f).power = s.power := rfl
@[simp] theorem State.onPorts_therm (s : State) (f) : (s.onPorts f).therm = s.therm := rfl
@[simp] theorem State.onPorts_hosts (s : State) (f) : (s.onPorts f).hosts = s.hosts := rfl
@[simp] theorem State.onPorts_vfs (s : State) (f) : (s.onPorts f).vfs = s.vfs := rfl
@[simp] theorem State.onPorts_queues (s : State) (f) : (s.onPorts f).queues = s.queues := rfl
@[simp] theorem State.onPorts_list (s : State) (f) : (s.onPorts f).list = s.list := rfl
@[simp] theorem State.onPorts_prog (s : State) (f) : (s.onPorts f).prog = s.prog := rfl
@[simp] theorem State.onPorts_ports (s : State) (f) : (s.onPorts f).ports = f s.ports := rfl
@[simp] theorem State.onPorts_data (s : State) (f) : (s.onPorts f).data = s.data := rfl
@[simp] theorem State.onPorts_cores (s : State) (f) : (s.onPorts f).cores = s.cores := rfl
@[simp] theorem State.onPorts_evus (s : State) (f) : (s.onPorts f).evus = s.evus := rfl
@[simp] theorem State.onPorts_banks (s : State) (f) : (s.onPorts f).banks = s.banks := rfl
@[simp] theorem State.onPorts_boxes (s : State) (f) : (s.onPorts f).boxes = s.boxes := rfl
@[simp] theorem State.onPorts_orders (s : State) (f) : (s.onPorts f).orders = s.orders := rfl
@[simp] theorem State.onPorts_faults (s : State) (f) : (s.onPorts f).faults = s.faults := rfl
@[simp] theorem State.onPorts_fw (s : State) (f) : (s.onPorts f).fw = s.fw := rfl
@[simp] theorem State.onPorts_side (s : State) (f) : (s.onPorts f).side = s.side := rfl

/-! ### onData -/

@[simp] theorem State.onData_pending (s : State) (f) : (s.onData f).pending = s.pending := rfl
@[simp] theorem State.onData_out (s : State) (f) : (s.onData f).out = s.out := rfl
@[simp] theorem State.onData_clk (s : State) (f) : (s.onData f).clk = s.clk := rfl
@[simp] theorem State.onData_keeper (s : State) (f) : (s.onData f).keeper = s.keeper := rfl
@[simp] theorem State.onData_power (s : State) (f) : (s.onData f).power = s.power := rfl
@[simp] theorem State.onData_therm (s : State) (f) : (s.onData f).therm = s.therm := rfl
@[simp] theorem State.onData_hosts (s : State) (f) : (s.onData f).hosts = s.hosts := rfl
@[simp] theorem State.onData_vfs (s : State) (f) : (s.onData f).vfs = s.vfs := rfl
@[simp] theorem State.onData_queues (s : State) (f) : (s.onData f).queues = s.queues := rfl
@[simp] theorem State.onData_list (s : State) (f) : (s.onData f).list = s.list := rfl
@[simp] theorem State.onData_prog (s : State) (f) : (s.onData f).prog = s.prog := rfl
@[simp] theorem State.onData_ports (s : State) (f) : (s.onData f).ports = s.ports := rfl
@[simp] theorem State.onData_data (s : State) (f) : (s.onData f).data = f s.data := rfl
@[simp] theorem State.onData_cores (s : State) (f) : (s.onData f).cores = s.cores := rfl
@[simp] theorem State.onData_evus (s : State) (f) : (s.onData f).evus = s.evus := rfl
@[simp] theorem State.onData_banks (s : State) (f) : (s.onData f).banks = s.banks := rfl
@[simp] theorem State.onData_boxes (s : State) (f) : (s.onData f).boxes = s.boxes := rfl
@[simp] theorem State.onData_orders (s : State) (f) : (s.onData f).orders = s.orders := rfl
@[simp] theorem State.onData_faults (s : State) (f) : (s.onData f).faults = s.faults := rfl
@[simp] theorem State.onData_fw (s : State) (f) : (s.onData f).fw = s.fw := rfl
@[simp] theorem State.onData_side (s : State) (f) : (s.onData f).side = s.side := rfl

/-! ### onCores -/

@[simp] theorem State.onCores_pending (s : State) (f) : (s.onCores f).pending = s.pending := rfl
@[simp] theorem State.onCores_out (s : State) (f) : (s.onCores f).out = s.out := rfl
@[simp] theorem State.onCores_clk (s : State) (f) : (s.onCores f).clk = s.clk := rfl
@[simp] theorem State.onCores_keeper (s : State) (f) : (s.onCores f).keeper = s.keeper := rfl
@[simp] theorem State.onCores_power (s : State) (f) : (s.onCores f).power = s.power := rfl
@[simp] theorem State.onCores_therm (s : State) (f) : (s.onCores f).therm = s.therm := rfl
@[simp] theorem State.onCores_hosts (s : State) (f) : (s.onCores f).hosts = s.hosts := rfl
@[simp] theorem State.onCores_vfs (s : State) (f) : (s.onCores f).vfs = s.vfs := rfl
@[simp] theorem State.onCores_queues (s : State) (f) : (s.onCores f).queues = s.queues := rfl
@[simp] theorem State.onCores_list (s : State) (f) : (s.onCores f).list = s.list := rfl
@[simp] theorem State.onCores_prog (s : State) (f) : (s.onCores f).prog = s.prog := rfl
@[simp] theorem State.onCores_ports (s : State) (f) : (s.onCores f).ports = s.ports := rfl
@[simp] theorem State.onCores_data (s : State) (f) : (s.onCores f).data = s.data := rfl
@[simp] theorem State.onCores_cores (s : State) (f) : (s.onCores f).cores = f s.cores := rfl
@[simp] theorem State.onCores_evus (s : State) (f) : (s.onCores f).evus = s.evus := rfl
@[simp] theorem State.onCores_banks (s : State) (f) : (s.onCores f).banks = s.banks := rfl
@[simp] theorem State.onCores_boxes (s : State) (f) : (s.onCores f).boxes = s.boxes := rfl
@[simp] theorem State.onCores_orders (s : State) (f) : (s.onCores f).orders = s.orders := rfl
@[simp] theorem State.onCores_faults (s : State) (f) : (s.onCores f).faults = s.faults := rfl
@[simp] theorem State.onCores_fw (s : State) (f) : (s.onCores f).fw = s.fw := rfl
@[simp] theorem State.onCores_side (s : State) (f) : (s.onCores f).side = s.side := rfl

/-! ### onEvus -/

@[simp] theorem State.onEvus_pending (s : State) (f) : (s.onEvus f).pending = s.pending := rfl
@[simp] theorem State.onEvus_out (s : State) (f) : (s.onEvus f).out = s.out := rfl
@[simp] theorem State.onEvus_clk (s : State) (f) : (s.onEvus f).clk = s.clk := rfl
@[simp] theorem State.onEvus_keeper (s : State) (f) : (s.onEvus f).keeper = s.keeper := rfl
@[simp] theorem State.onEvus_power (s : State) (f) : (s.onEvus f).power = s.power := rfl
@[simp] theorem State.onEvus_therm (s : State) (f) : (s.onEvus f).therm = s.therm := rfl
@[simp] theorem State.onEvus_hosts (s : State) (f) : (s.onEvus f).hosts = s.hosts := rfl
@[simp] theorem State.onEvus_vfs (s : State) (f) : (s.onEvus f).vfs = s.vfs := rfl
@[simp] theorem State.onEvus_queues (s : State) (f) : (s.onEvus f).queues = s.queues := rfl
@[simp] theorem State.onEvus_list (s : State) (f) : (s.onEvus f).list = s.list := rfl
@[simp] theorem State.onEvus_prog (s : State) (f) : (s.onEvus f).prog = s.prog := rfl
@[simp] theorem State.onEvus_ports (s : State) (f) : (s.onEvus f).ports = s.ports := rfl
@[simp] theorem State.onEvus_data (s : State) (f) : (s.onEvus f).data = s.data := rfl
@[simp] theorem State.onEvus_cores (s : State) (f) : (s.onEvus f).cores = s.cores := rfl
@[simp] theorem State.onEvus_evus (s : State) (f) : (s.onEvus f).evus = f s.evus := rfl
@[simp] theorem State.onEvus_banks (s : State) (f) : (s.onEvus f).banks = s.banks := rfl
@[simp] theorem State.onEvus_boxes (s : State) (f) : (s.onEvus f).boxes = s.boxes := rfl
@[simp] theorem State.onEvus_orders (s : State) (f) : (s.onEvus f).orders = s.orders := rfl
@[simp] theorem State.onEvus_faults (s : State) (f) : (s.onEvus f).faults = s.faults := rfl
@[simp] theorem State.onEvus_fw (s : State) (f) : (s.onEvus f).fw = s.fw := rfl
@[simp] theorem State.onEvus_side (s : State) (f) : (s.onEvus f).side = s.side := rfl

/-! ### onBanks -/

@[simp] theorem State.onBanks_pending (s : State) (f) : (s.onBanks f).pending = s.pending := rfl
@[simp] theorem State.onBanks_out (s : State) (f) : (s.onBanks f).out = s.out := rfl
@[simp] theorem State.onBanks_clk (s : State) (f) : (s.onBanks f).clk = s.clk := rfl
@[simp] theorem State.onBanks_keeper (s : State) (f) : (s.onBanks f).keeper = s.keeper := rfl
@[simp] theorem State.onBanks_power (s : State) (f) : (s.onBanks f).power = s.power := rfl
@[simp] theorem State.onBanks_therm (s : State) (f) : (s.onBanks f).therm = s.therm := rfl
@[simp] theorem State.onBanks_hosts (s : State) (f) : (s.onBanks f).hosts = s.hosts := rfl
@[simp] theorem State.onBanks_vfs (s : State) (f) : (s.onBanks f).vfs = s.vfs := rfl
@[simp] theorem State.onBanks_queues (s : State) (f) : (s.onBanks f).queues = s.queues := rfl
@[simp] theorem State.onBanks_list (s : State) (f) : (s.onBanks f).list = s.list := rfl
@[simp] theorem State.onBanks_prog (s : State) (f) : (s.onBanks f).prog = s.prog := rfl
@[simp] theorem State.onBanks_ports (s : State) (f) : (s.onBanks f).ports = s.ports := rfl
@[simp] theorem State.onBanks_data (s : State) (f) : (s.onBanks f).data = s.data := rfl
@[simp] theorem State.onBanks_cores (s : State) (f) : (s.onBanks f).cores = s.cores := rfl
@[simp] theorem State.onBanks_evus (s : State) (f) : (s.onBanks f).evus = s.evus := rfl
@[simp] theorem State.onBanks_banks (s : State) (f) : (s.onBanks f).banks = f s.banks := rfl
@[simp] theorem State.onBanks_boxes (s : State) (f) : (s.onBanks f).boxes = s.boxes := rfl
@[simp] theorem State.onBanks_orders (s : State) (f) : (s.onBanks f).orders = s.orders := rfl
@[simp] theorem State.onBanks_faults (s : State) (f) : (s.onBanks f).faults = s.faults := rfl
@[simp] theorem State.onBanks_fw (s : State) (f) : (s.onBanks f).fw = s.fw := rfl
@[simp] theorem State.onBanks_side (s : State) (f) : (s.onBanks f).side = s.side := rfl

/-! ### onBoxes -/

@[simp] theorem State.onBoxes_pending (s : State) (f) : (s.onBoxes f).pending = s.pending := rfl
@[simp] theorem State.onBoxes_out (s : State) (f) : (s.onBoxes f).out = s.out := rfl
@[simp] theorem State.onBoxes_clk (s : State) (f) : (s.onBoxes f).clk = s.clk := rfl
@[simp] theorem State.onBoxes_keeper (s : State) (f) : (s.onBoxes f).keeper = s.keeper := rfl
@[simp] theorem State.onBoxes_power (s : State) (f) : (s.onBoxes f).power = s.power := rfl
@[simp] theorem State.onBoxes_therm (s : State) (f) : (s.onBoxes f).therm = s.therm := rfl
@[simp] theorem State.onBoxes_hosts (s : State) (f) : (s.onBoxes f).hosts = s.hosts := rfl
@[simp] theorem State.onBoxes_vfs (s : State) (f) : (s.onBoxes f).vfs = s.vfs := rfl
@[simp] theorem State.onBoxes_queues (s : State) (f) : (s.onBoxes f).queues = s.queues := rfl
@[simp] theorem State.onBoxes_list (s : State) (f) : (s.onBoxes f).list = s.list := rfl
@[simp] theorem State.onBoxes_prog (s : State) (f) : (s.onBoxes f).prog = s.prog := rfl
@[simp] theorem State.onBoxes_ports (s : State) (f) : (s.onBoxes f).ports = s.ports := rfl
@[simp] theorem State.onBoxes_data (s : State) (f) : (s.onBoxes f).data = s.data := rfl
@[simp] theorem State.onBoxes_cores (s : State) (f) : (s.onBoxes f).cores = s.cores := rfl
@[simp] theorem State.onBoxes_evus (s : State) (f) : (s.onBoxes f).evus = s.evus := rfl
@[simp] theorem State.onBoxes_banks (s : State) (f) : (s.onBoxes f).banks = s.banks := rfl
@[simp] theorem State.onBoxes_boxes (s : State) (f) : (s.onBoxes f).boxes = f s.boxes := rfl
@[simp] theorem State.onBoxes_orders (s : State) (f) : (s.onBoxes f).orders = s.orders := rfl
@[simp] theorem State.onBoxes_faults (s : State) (f) : (s.onBoxes f).faults = s.faults := rfl
@[simp] theorem State.onBoxes_fw (s : State) (f) : (s.onBoxes f).fw = s.fw := rfl
@[simp] theorem State.onBoxes_side (s : State) (f) : (s.onBoxes f).side = s.side := rfl

/-! ### onOrders -/

@[simp] theorem State.onOrders_pending (s : State) (f) : (s.onOrders f).pending = s.pending := rfl
@[simp] theorem State.onOrders_out (s : State) (f) : (s.onOrders f).out = s.out := rfl
@[simp] theorem State.onOrders_clk (s : State) (f) : (s.onOrders f).clk = s.clk := rfl
@[simp] theorem State.onOrders_keeper (s : State) (f) : (s.onOrders f).keeper = s.keeper := rfl
@[simp] theorem State.onOrders_power (s : State) (f) : (s.onOrders f).power = s.power := rfl
@[simp] theorem State.onOrders_therm (s : State) (f) : (s.onOrders f).therm = s.therm := rfl
@[simp] theorem State.onOrders_hosts (s : State) (f) : (s.onOrders f).hosts = s.hosts := rfl
@[simp] theorem State.onOrders_vfs (s : State) (f) : (s.onOrders f).vfs = s.vfs := rfl
@[simp] theorem State.onOrders_queues (s : State) (f) : (s.onOrders f).queues = s.queues := rfl
@[simp] theorem State.onOrders_list (s : State) (f) : (s.onOrders f).list = s.list := rfl
@[simp] theorem State.onOrders_prog (s : State) (f) : (s.onOrders f).prog = s.prog := rfl
@[simp] theorem State.onOrders_ports (s : State) (f) : (s.onOrders f).ports = s.ports := rfl
@[simp] theorem State.onOrders_data (s : State) (f) : (s.onOrders f).data = s.data := rfl
@[simp] theorem State.onOrders_cores (s : State) (f) : (s.onOrders f).cores = s.cores := rfl
@[simp] theorem State.onOrders_evus (s : State) (f) : (s.onOrders f).evus = s.evus := rfl
@[simp] theorem State.onOrders_banks (s : State) (f) : (s.onOrders f).banks = s.banks := rfl
@[simp] theorem State.onOrders_boxes (s : State) (f) : (s.onOrders f).boxes = s.boxes := rfl
@[simp] theorem State.onOrders_orders (s : State) (f) : (s.onOrders f).orders = f s.orders := rfl
@[simp] theorem State.onOrders_faults (s : State) (f) : (s.onOrders f).faults = s.faults := rfl
@[simp] theorem State.onOrders_fw (s : State) (f) : (s.onOrders f).fw = s.fw := rfl
@[simp] theorem State.onOrders_side (s : State) (f) : (s.onOrders f).side = s.side := rfl

/-! ### onFaults -/

@[simp] theorem State.onFaults_pending (s : State) (f) : (s.onFaults f).pending = s.pending := rfl
@[simp] theorem State.onFaults_out (s : State) (f) : (s.onFaults f).out = s.out := rfl
@[simp] theorem State.onFaults_clk (s : State) (f) : (s.onFaults f).clk = s.clk := rfl
@[simp] theorem State.onFaults_keeper (s : State) (f) : (s.onFaults f).keeper = s.keeper := rfl
@[simp] theorem State.onFaults_power (s : State) (f) : (s.onFaults f).power = s.power := rfl
@[simp] theorem State.onFaults_therm (s : State) (f) : (s.onFaults f).therm = s.therm := rfl
@[simp] theorem State.onFaults_hosts (s : State) (f) : (s.onFaults f).hosts = s.hosts := rfl
@[simp] theorem State.onFaults_vfs (s : State) (f) : (s.onFaults f).vfs = s.vfs := rfl
@[simp] theorem State.onFaults_queues (s : State) (f) : (s.onFaults f).queues = s.queues := rfl
@[simp] theorem State.onFaults_list (s : State) (f) : (s.onFaults f).list = s.list := rfl
@[simp] theorem State.onFaults_prog (s : State) (f) : (s.onFaults f).prog = s.prog := rfl
@[simp] theorem State.onFaults_ports (s : State) (f) : (s.onFaults f).ports = s.ports := rfl
@[simp] theorem State.onFaults_data (s : State) (f) : (s.onFaults f).data = s.data := rfl
@[simp] theorem State.onFaults_cores (s : State) (f) : (s.onFaults f).cores = s.cores := rfl
@[simp] theorem State.onFaults_evus (s : State) (f) : (s.onFaults f).evus = s.evus := rfl
@[simp] theorem State.onFaults_banks (s : State) (f) : (s.onFaults f).banks = s.banks := rfl
@[simp] theorem State.onFaults_boxes (s : State) (f) : (s.onFaults f).boxes = s.boxes := rfl
@[simp] theorem State.onFaults_orders (s : State) (f) : (s.onFaults f).orders = s.orders := rfl
@[simp] theorem State.onFaults_faults (s : State) (f) : (s.onFaults f).faults = f s.faults := rfl
@[simp] theorem State.onFaults_fw (s : State) (f) : (s.onFaults f).fw = s.fw := rfl
@[simp] theorem State.onFaults_side (s : State) (f) : (s.onFaults f).side = s.side := rfl

/-! ### onFw -/

@[simp] theorem State.onFw_pending (s : State) (f) : (s.onFw f).pending = s.pending := rfl
@[simp] theorem State.onFw_out (s : State) (f) : (s.onFw f).out = s.out := rfl
@[simp] theorem State.onFw_clk (s : State) (f) : (s.onFw f).clk = s.clk := rfl
@[simp] theorem State.onFw_keeper (s : State) (f) : (s.onFw f).keeper = s.keeper := rfl
@[simp] theorem State.onFw_power (s : State) (f) : (s.onFw f).power = s.power := rfl
@[simp] theorem State.onFw_therm (s : State) (f) : (s.onFw f).therm = s.therm := rfl
@[simp] theorem State.onFw_hosts (s : State) (f) : (s.onFw f).hosts = s.hosts := rfl
@[simp] theorem State.onFw_vfs (s : State) (f) : (s.onFw f).vfs = s.vfs := rfl
@[simp] theorem State.onFw_queues (s : State) (f) : (s.onFw f).queues = s.queues := rfl
@[simp] theorem State.onFw_list (s : State) (f) : (s.onFw f).list = s.list := rfl
@[simp] theorem State.onFw_prog (s : State) (f) : (s.onFw f).prog = s.prog := rfl
@[simp] theorem State.onFw_ports (s : State) (f) : (s.onFw f).ports = s.ports := rfl
@[simp] theorem State.onFw_data (s : State) (f) : (s.onFw f).data = s.data := rfl
@[simp] theorem State.onFw_cores (s : State) (f) : (s.onFw f).cores = s.cores := rfl
@[simp] theorem State.onFw_evus (s : State) (f) : (s.onFw f).evus = s.evus := rfl
@[simp] theorem State.onFw_banks (s : State) (f) : (s.onFw f).banks = s.banks := rfl
@[simp] theorem State.onFw_boxes (s : State) (f) : (s.onFw f).boxes = s.boxes := rfl
@[simp] theorem State.onFw_orders (s : State) (f) : (s.onFw f).orders = s.orders := rfl
@[simp] theorem State.onFw_faults (s : State) (f) : (s.onFw f).faults = s.faults := rfl
@[simp] theorem State.onFw_fw (s : State) (f) : (s.onFw f).fw = f s.fw := rfl
@[simp] theorem State.onFw_side (s : State) (f) : (s.onFw f).side = s.side := rfl

/-! ### onSide -/

@[simp] theorem State.onSide_pending (s : State) (f) : (s.onSide f).pending = s.pending := rfl
@[simp] theorem State.onSide_out (s : State) (f) : (s.onSide f).out = s.out := rfl
@[simp] theorem State.onSide_clk (s : State) (f) : (s.onSide f).clk = s.clk := rfl
@[simp] theorem State.onSide_keeper (s : State) (f) : (s.onSide f).keeper = s.keeper := rfl
@[simp] theorem State.onSide_power (s : State) (f) : (s.onSide f).power = s.power := rfl
@[simp] theorem State.onSide_therm (s : State) (f) : (s.onSide f).therm = s.therm := rfl
@[simp] theorem State.onSide_hosts (s : State) (f) : (s.onSide f).hosts = s.hosts := rfl
@[simp] theorem State.onSide_vfs (s : State) (f) : (s.onSide f).vfs = s.vfs := rfl
@[simp] theorem State.onSide_queues (s : State) (f) : (s.onSide f).queues = s.queues := rfl
@[simp] theorem State.onSide_list (s : State) (f) : (s.onSide f).list = s.list := rfl
@[simp] theorem State.onSide_prog (s : State) (f) : (s.onSide f).prog = s.prog := rfl
@[simp] theorem State.onSide_ports (s : State) (f) : (s.onSide f).ports = s.ports := rfl
@[simp] theorem State.onSide_data (s : State) (f) : (s.onSide f).data = s.data := rfl
@[simp] theorem State.onSide_cores (s : State) (f) : (s.onSide f).cores = s.cores := rfl
@[simp] theorem State.onSide_evus (s : State) (f) : (s.onSide f).evus = s.evus := rfl
@[simp] theorem State.onSide_banks (s : State) (f) : (s.onSide f).banks = s.banks := rfl
@[simp] theorem State.onSide_boxes (s : State) (f) : (s.onSide f).boxes = s.boxes := rfl
@[simp] theorem State.onSide_orders (s : State) (f) : (s.onSide f).orders = s.orders := rfl
@[simp] theorem State.onSide_faults (s : State) (f) : (s.onSide f).faults = s.faults := rfl
@[simp] theorem State.onSide_fw (s : State) (f) : (s.onSide f).fw = s.fw := rfl
@[simp] theorem State.onSide_side (s : State) (f) : (s.onSide f).side = f s.side := rfl

/-! ### modHost -/

@[simp] theorem State.modHost_pending (s : State) (p : HPort) (f) : (s.modHost p f).pending = s.pending := rfl
@[simp] theorem State.modHost_out (s : State) (p : HPort) (f) : (s.modHost p f).out = s.out := rfl
@[simp] theorem State.modHost_clk (s : State) (p : HPort) (f) : (s.modHost p f).clk = s.clk := rfl
@[simp] theorem State.modHost_keeper (s : State) (p : HPort) (f) : (s.modHost p f).keeper = s.keeper := rfl
@[simp] theorem State.modHost_power (s : State) (p : HPort) (f) : (s.modHost p f).power = s.power := rfl
@[simp] theorem State.modHost_therm (s : State) (p : HPort) (f) : (s.modHost p f).therm = s.therm := rfl
@[simp] theorem State.modHost_vfs (s : State) (p : HPort) (f) : (s.modHost p f).vfs = s.vfs := rfl
@[simp] theorem State.modHost_queues (s : State) (p : HPort) (f) : (s.modHost p f).queues = s.queues := rfl
@[simp] theorem State.modHost_list (s : State) (p : HPort) (f) : (s.modHost p f).list = s.list := rfl
@[simp] theorem State.modHost_prog (s : State) (p : HPort) (f) : (s.modHost p f).prog = s.prog := rfl
@[simp] theorem State.modHost_ports (s : State) (p : HPort) (f) : (s.modHost p f).ports = s.ports := rfl
@[simp] theorem State.modHost_data (s : State) (p : HPort) (f) : (s.modHost p f).data = s.data := rfl
@[simp] theorem State.modHost_cores (s : State) (p : HPort) (f) : (s.modHost p f).cores = s.cores := rfl
@[simp] theorem State.modHost_evus (s : State) (p : HPort) (f) : (s.modHost p f).evus = s.evus := rfl
@[simp] theorem State.modHost_banks (s : State) (p : HPort) (f) : (s.modHost p f).banks = s.banks := rfl
@[simp] theorem State.modHost_boxes (s : State) (p : HPort) (f) : (s.modHost p f).boxes = s.boxes := rfl
@[simp] theorem State.modHost_orders (s : State) (p : HPort) (f) : (s.modHost p f).orders = s.orders := rfl
@[simp] theorem State.modHost_faults (s : State) (p : HPort) (f) : (s.modHost p f).faults = s.faults := rfl
@[simp] theorem State.modHost_fw (s : State) (p : HPort) (f) : (s.modHost p f).fw = s.fw := rfl
@[simp] theorem State.modHost_side (s : State) (p : HPort) (f) : (s.modHost p f).side = s.side := rfl

/-! ### modTenant -/

@[simp] theorem State.modTenant_pending (s : State) (p : Tenant) (f) : (s.modTenant p f).pending = s.pending := rfl
@[simp] theorem State.modTenant_out (s : State) (p : Tenant) (f) : (s.modTenant p f).out = s.out := rfl
@[simp] theorem State.modTenant_clk (s : State) (p : Tenant) (f) : (s.modTenant p f).clk = s.clk := rfl
@[simp] theorem State.modTenant_keeper (s : State) (p : Tenant) (f) : (s.modTenant p f).keeper = s.keeper := rfl
@[simp] theorem State.modTenant_power (s : State) (p : Tenant) (f) : (s.modTenant p f).power = s.power := rfl
@[simp] theorem State.modTenant_therm (s : State) (p : Tenant) (f) : (s.modTenant p f).therm = s.therm := rfl
@[simp] theorem State.modTenant_hosts (s : State) (p : Tenant) (f) : (s.modTenant p f).hosts = s.hosts := rfl
@[simp] theorem State.modTenant_vfs (s : State) (p : Tenant) (f) : (s.modTenant p f).vfs = s.vfs := rfl
@[simp] theorem State.modTenant_list (s : State) (p : Tenant) (f) : (s.modTenant p f).list = s.list := rfl
@[simp] theorem State.modTenant_prog (s : State) (p : Tenant) (f) : (s.modTenant p f).prog = s.prog := rfl
@[simp] theorem State.modTenant_ports (s : State) (p : Tenant) (f) : (s.modTenant p f).ports = s.ports := rfl
@[simp] theorem State.modTenant_data (s : State) (p : Tenant) (f) : (s.modTenant p f).data = s.data := rfl
@[simp] theorem State.modTenant_cores (s : State) (p : Tenant) (f) : (s.modTenant p f).cores = s.cores := rfl
@[simp] theorem State.modTenant_evus (s : State) (p : Tenant) (f) : (s.modTenant p f).evus = s.evus := rfl
@[simp] theorem State.modTenant_banks (s : State) (p : Tenant) (f) : (s.modTenant p f).banks = s.banks := rfl
@[simp] theorem State.modTenant_boxes (s : State) (p : Tenant) (f) : (s.modTenant p f).boxes = s.boxes := rfl
@[simp] theorem State.modTenant_orders (s : State) (p : Tenant) (f) : (s.modTenant p f).orders = s.orders := rfl
@[simp] theorem State.modTenant_faults (s : State) (p : Tenant) (f) : (s.modTenant p f).faults = s.faults := rfl
@[simp] theorem State.modTenant_fw (s : State) (p : Tenant) (f) : (s.modTenant p f).fw = s.fw := rfl
@[simp] theorem State.modTenant_side (s : State) (p : Tenant) (f) : (s.modTenant p f).side = s.side := rfl

/-! ### modSub -/

@[simp] theorem State.modSub_pending (s : State) (p : SC) (f) : (s.modSub p f).pending = s.pending := rfl
@[simp] theorem State.modSub_out (s : State) (p : SC) (f) : (s.modSub p f).out = s.out := rfl
@[simp] theorem State.modSub_clk (s : State) (p : SC) (f) : (s.modSub p f).clk = s.clk := rfl
@[simp] theorem State.modSub_keeper (s : State) (p : SC) (f) : (s.modSub p f).keeper = s.keeper := rfl
@[simp] theorem State.modSub_power (s : State) (p : SC) (f) : (s.modSub p f).power = s.power := rfl
@[simp] theorem State.modSub_therm (s : State) (p : SC) (f) : (s.modSub p f).therm = s.therm := rfl
@[simp] theorem State.modSub_hosts (s : State) (p : SC) (f) : (s.modSub p f).hosts = s.hosts := rfl
@[simp] theorem State.modSub_vfs (s : State) (p : SC) (f) : (s.modSub p f).vfs = s.vfs := rfl
@[simp] theorem State.modSub_queues (s : State) (p : SC) (f) : (s.modSub p f).queues = s.queues := rfl
@[simp] theorem State.modSub_list (s : State) (p : SC) (f) : (s.modSub p f).list = s.list := rfl
@[simp] theorem State.modSub_ports (s : State) (p : SC) (f) : (s.modSub p f).ports = s.ports := rfl
@[simp] theorem State.modSub_data (s : State) (p : SC) (f) : (s.modSub p f).data = s.data := rfl
@[simp] theorem State.modSub_cores (s : State) (p : SC) (f) : (s.modSub p f).cores = s.cores := rfl
@[simp] theorem State.modSub_evus (s : State) (p : SC) (f) : (s.modSub p f).evus = s.evus := rfl
@[simp] theorem State.modSub_banks (s : State) (p : SC) (f) : (s.modSub p f).banks = s.banks := rfl
@[simp] theorem State.modSub_boxes (s : State) (p : SC) (f) : (s.modSub p f).boxes = s.boxes := rfl
@[simp] theorem State.modSub_orders (s : State) (p : SC) (f) : (s.modSub p f).orders = s.orders := rfl
@[simp] theorem State.modSub_faults (s : State) (p : SC) (f) : (s.modSub p f).faults = s.faults := rfl
@[simp] theorem State.modSub_fw (s : State) (p : SC) (f) : (s.modSub p f).fw = s.fw := rfl
@[simp] theorem State.modSub_side (s : State) (p : SC) (f) : (s.modSub p f).side = s.side := rfl

/-! ### modPort -/

@[simp] theorem State.modPort_pending (s : State) (p : DPort) (f) : (s.modPort p f).pending = s.pending := rfl
@[simp] theorem State.modPort_out (s : State) (p : DPort) (f) : (s.modPort p f).out = s.out := rfl
@[simp] theorem State.modPort_clk (s : State) (p : DPort) (f) : (s.modPort p f).clk = s.clk := rfl
@[simp] theorem State.modPort_keeper (s : State) (p : DPort) (f) : (s.modPort p f).keeper = s.keeper := rfl
@[simp] theorem State.modPort_power (s : State) (p : DPort) (f) : (s.modPort p f).power = s.power := rfl
@[simp] theorem State.modPort_therm (s : State) (p : DPort) (f) : (s.modPort p f).therm = s.therm := rfl
@[simp] theorem State.modPort_hosts (s : State) (p : DPort) (f) : (s.modPort p f).hosts = s.hosts := rfl
@[simp] theorem State.modPort_vfs (s : State) (p : DPort) (f) : (s.modPort p f).vfs = s.vfs := rfl
@[simp] theorem State.modPort_queues (s : State) (p : DPort) (f) : (s.modPort p f).queues = s.queues := rfl
@[simp] theorem State.modPort_list (s : State) (p : DPort) (f) : (s.modPort p f).list = s.list := rfl
@[simp] theorem State.modPort_prog (s : State) (p : DPort) (f) : (s.modPort p f).prog = s.prog := rfl
@[simp] theorem State.modPort_data (s : State) (p : DPort) (f) : (s.modPort p f).data = s.data := rfl
@[simp] theorem State.modPort_cores (s : State) (p : DPort) (f) : (s.modPort p f).cores = s.cores := rfl
@[simp] theorem State.modPort_evus (s : State) (p : DPort) (f) : (s.modPort p f).evus = s.evus := rfl
@[simp] theorem State.modPort_banks (s : State) (p : DPort) (f) : (s.modPort p f).banks = s.banks := rfl
@[simp] theorem State.modPort_boxes (s : State) (p : DPort) (f) : (s.modPort p f).boxes = s.boxes := rfl
@[simp] theorem State.modPort_orders (s : State) (p : DPort) (f) : (s.modPort p f).orders = s.orders := rfl
@[simp] theorem State.modPort_faults (s : State) (p : DPort) (f) : (s.modPort p f).faults = s.faults := rfl
@[simp] theorem State.modPort_fw (s : State) (p : DPort) (f) : (s.modPort p f).fw = s.fw := rfl
@[simp] theorem State.modPort_side (s : State) (p : DPort) (f) : (s.modPort p f).side = s.side := rfl

/-! ### modCage -/

@[simp] theorem State.modCage_pending (s : State) (p : CageNum) (f) : (s.modCage p f).pending = s.pending := rfl
@[simp] theorem State.modCage_out (s : State) (p : CageNum) (f) : (s.modCage p f).out = s.out := rfl
@[simp] theorem State.modCage_clk (s : State) (p : CageNum) (f) : (s.modCage p f).clk = s.clk := rfl
@[simp] theorem State.modCage_keeper (s : State) (p : CageNum) (f) : (s.modCage p f).keeper = s.keeper := rfl
@[simp] theorem State.modCage_power (s : State) (p : CageNum) (f) : (s.modCage p f).power = s.power := rfl
@[simp] theorem State.modCage_therm (s : State) (p : CageNum) (f) : (s.modCage p f).therm = s.therm := rfl
@[simp] theorem State.modCage_hosts (s : State) (p : CageNum) (f) : (s.modCage p f).hosts = s.hosts := rfl
@[simp] theorem State.modCage_vfs (s : State) (p : CageNum) (f) : (s.modCage p f).vfs = s.vfs := rfl
@[simp] theorem State.modCage_queues (s : State) (p : CageNum) (f) : (s.modCage p f).queues = s.queues := rfl
@[simp] theorem State.modCage_list (s : State) (p : CageNum) (f) : (s.modCage p f).list = s.list := rfl
@[simp] theorem State.modCage_prog (s : State) (p : CageNum) (f) : (s.modCage p f).prog = s.prog := rfl
@[simp] theorem State.modCage_data (s : State) (p : CageNum) (f) : (s.modCage p f).data = s.data := rfl
@[simp] theorem State.modCage_cores (s : State) (p : CageNum) (f) : (s.modCage p f).cores = s.cores := rfl
@[simp] theorem State.modCage_evus (s : State) (p : CageNum) (f) : (s.modCage p f).evus = s.evus := rfl
@[simp] theorem State.modCage_banks (s : State) (p : CageNum) (f) : (s.modCage p f).banks = s.banks := rfl
@[simp] theorem State.modCage_boxes (s : State) (p : CageNum) (f) : (s.modCage p f).boxes = s.boxes := rfl
@[simp] theorem State.modCage_orders (s : State) (p : CageNum) (f) : (s.modCage p f).orders = s.orders := rfl
@[simp] theorem State.modCage_faults (s : State) (p : CageNum) (f) : (s.modCage p f).faults = s.faults := rfl
@[simp] theorem State.modCage_fw (s : State) (p : CageNum) (f) : (s.modCage p f).fw = s.fw := rfl
@[simp] theorem State.modCage_side (s : State) (p : CageNum) (f) : (s.modCage p f).side = s.side := rfl

/-! ### modMover -/

@[simp] theorem State.modMover_pending (s : State) (p : MoverNum) (f) : (s.modMover p f).pending = s.pending := rfl
@[simp] theorem State.modMover_out (s : State) (p : MoverNum) (f) : (s.modMover p f).out = s.out := rfl
@[simp] theorem State.modMover_clk (s : State) (p : MoverNum) (f) : (s.modMover p f).clk = s.clk := rfl
@[simp] theorem State.modMover_keeper (s : State) (p : MoverNum) (f) : (s.modMover p f).keeper = s.keeper := rfl
@[simp] theorem State.modMover_power (s : State) (p : MoverNum) (f) : (s.modMover p f).power = s.power := rfl
@[simp] theorem State.modMover_therm (s : State) (p : MoverNum) (f) : (s.modMover p f).therm = s.therm := rfl
@[simp] theorem State.modMover_hosts (s : State) (p : MoverNum) (f) : (s.modMover p f).hosts = s.hosts := rfl
@[simp] theorem State.modMover_vfs (s : State) (p : MoverNum) (f) : (s.modMover p f).vfs = s.vfs := rfl
@[simp] theorem State.modMover_queues (s : State) (p : MoverNum) (f) : (s.modMover p f).queues = s.queues := rfl
@[simp] theorem State.modMover_list (s : State) (p : MoverNum) (f) : (s.modMover p f).list = s.list := rfl
@[simp] theorem State.modMover_prog (s : State) (p : MoverNum) (f) : (s.modMover p f).prog = s.prog := rfl
@[simp] theorem State.modMover_ports (s : State) (p : MoverNum) (f) : (s.modMover p f).ports = s.ports := rfl
@[simp] theorem State.modMover_cores (s : State) (p : MoverNum) (f) : (s.modMover p f).cores = s.cores := rfl
@[simp] theorem State.modMover_evus (s : State) (p : MoverNum) (f) : (s.modMover p f).evus = s.evus := rfl
@[simp] theorem State.modMover_banks (s : State) (p : MoverNum) (f) : (s.modMover p f).banks = s.banks := rfl
@[simp] theorem State.modMover_boxes (s : State) (p : MoverNum) (f) : (s.modMover p f).boxes = s.boxes := rfl
@[simp] theorem State.modMover_orders (s : State) (p : MoverNum) (f) : (s.modMover p f).orders = s.orders := rfl
@[simp] theorem State.modMover_faults (s : State) (p : MoverNum) (f) : (s.modMover p f).faults = s.faults := rfl
@[simp] theorem State.modMover_fw (s : State) (p : MoverNum) (f) : (s.modMover p f).fw = s.fw := rfl
@[simp] theorem State.modMover_side (s : State) (p : MoverNum) (f) : (s.modMover p f).side = s.side := rfl

/-! ### modPool -/

@[simp] theorem State.modPool_pending (s : State) (p : Die) (f) : (s.modPool p f).pending = s.pending := rfl
@[simp] theorem State.modPool_out (s : State) (p : Die) (f) : (s.modPool p f).out = s.out := rfl
@[simp] theorem State.modPool_clk (s : State) (p : Die) (f) : (s.modPool p f).clk = s.clk := rfl
@[simp] theorem State.modPool_keeper (s : State) (p : Die) (f) : (s.modPool p f).keeper = s.keeper := rfl
@[simp] theorem State.modPool_power (s : State) (p : Die) (f) : (s.modPool p f).power = s.power := rfl
@[simp] theorem State.modPool_therm (s : State) (p : Die) (f) : (s.modPool p f).therm = s.therm := rfl
@[simp] theorem State.modPool_hosts (s : State) (p : Die) (f) : (s.modPool p f).hosts = s.hosts := rfl
@[simp] theorem State.modPool_vfs (s : State) (p : Die) (f) : (s.modPool p f).vfs = s.vfs := rfl
@[simp] theorem State.modPool_queues (s : State) (p : Die) (f) : (s.modPool p f).queues = s.queues := rfl
@[simp] theorem State.modPool_list (s : State) (p : Die) (f) : (s.modPool p f).list = s.list := rfl
@[simp] theorem State.modPool_prog (s : State) (p : Die) (f) : (s.modPool p f).prog = s.prog := rfl
@[simp] theorem State.modPool_ports (s : State) (p : Die) (f) : (s.modPool p f).ports = s.ports := rfl
@[simp] theorem State.modPool_cores (s : State) (p : Die) (f) : (s.modPool p f).cores = s.cores := rfl
@[simp] theorem State.modPool_evus (s : State) (p : Die) (f) : (s.modPool p f).evus = s.evus := rfl
@[simp] theorem State.modPool_banks (s : State) (p : Die) (f) : (s.modPool p f).banks = s.banks := rfl
@[simp] theorem State.modPool_boxes (s : State) (p : Die) (f) : (s.modPool p f).boxes = s.boxes := rfl
@[simp] theorem State.modPool_orders (s : State) (p : Die) (f) : (s.modPool p f).orders = s.orders := rfl
@[simp] theorem State.modPool_faults (s : State) (p : Die) (f) : (s.modPool p f).faults = s.faults := rfl
@[simp] theorem State.modPool_fw (s : State) (p : Die) (f) : (s.modPool p f).fw = s.fw := rfl
@[simp] theorem State.modPool_side (s : State) (p : Die) (f) : (s.modPool p f).side = s.side := rfl

/-! ### modPair -/

@[simp] theorem State.modPair_pending (s : State) (p : PairNum) (f) : (s.modPair p f).pending = s.pending := rfl
@[simp] theorem State.modPair_out (s : State) (p : PairNum) (f) : (s.modPair p f).out = s.out := rfl
@[simp] theorem State.modPair_clk (s : State) (p : PairNum) (f) : (s.modPair p f).clk = s.clk := rfl
@[simp] theorem State.modPair_keeper (s : State) (p : PairNum) (f) : (s.modPair p f).keeper = s.keeper := rfl
@[simp] theorem State.modPair_power (s : State) (p : PairNum) (f) : (s.modPair p f).power = s.power := rfl
@[simp] theorem State.modPair_therm (s : State) (p : PairNum) (f) : (s.modPair p f).therm = s.therm := rfl
@[simp] theorem State.modPair_hosts (s : State) (p : PairNum) (f) : (s.modPair p f).hosts = s.hosts := rfl
@[simp] theorem State.modPair_vfs (s : State) (p : PairNum) (f) : (s.modPair p f).vfs = s.vfs := rfl
@[simp] theorem State.modPair_queues (s : State) (p : PairNum) (f) : (s.modPair p f).queues = s.queues := rfl
@[simp] theorem State.modPair_list (s : State) (p : PairNum) (f) : (s.modPair p f).list = s.list := rfl
@[simp] theorem State.modPair_prog (s : State) (p : PairNum) (f) : (s.modPair p f).prog = s.prog := rfl
@[simp] theorem State.modPair_ports (s : State) (p : PairNum) (f) : (s.modPair p f).ports = s.ports := rfl
@[simp] theorem State.modPair_data (s : State) (p : PairNum) (f) : (s.modPair p f).data = s.data := rfl
@[simp] theorem State.modPair_evus (s : State) (p : PairNum) (f) : (s.modPair p f).evus = s.evus := rfl
@[simp] theorem State.modPair_banks (s : State) (p : PairNum) (f) : (s.modPair p f).banks = s.banks := rfl
@[simp] theorem State.modPair_boxes (s : State) (p : PairNum) (f) : (s.modPair p f).boxes = s.boxes := rfl
@[simp] theorem State.modPair_orders (s : State) (p : PairNum) (f) : (s.modPair p f).orders = s.orders := rfl
@[simp] theorem State.modPair_faults (s : State) (p : PairNum) (f) : (s.modPair p f).faults = s.faults := rfl
@[simp] theorem State.modPair_fw (s : State) (p : PairNum) (f) : (s.modPair p f).fw = s.fw := rfl
@[simp] theorem State.modPair_side (s : State) (p : PairNum) (f) : (s.modPair p f).side = s.side := rfl

/-! ### modEvu -/

@[simp] theorem State.modEvu_pending (s : State) (p : EvUnit) (f) : (s.modEvu p f).pending = s.pending := rfl
@[simp] theorem State.modEvu_out (s : State) (p : EvUnit) (f) : (s.modEvu p f).out = s.out := rfl
@[simp] theorem State.modEvu_clk (s : State) (p : EvUnit) (f) : (s.modEvu p f).clk = s.clk := rfl
@[simp] theorem State.modEvu_keeper (s : State) (p : EvUnit) (f) : (s.modEvu p f).keeper = s.keeper := rfl
@[simp] theorem State.modEvu_power (s : State) (p : EvUnit) (f) : (s.modEvu p f).power = s.power := rfl
@[simp] theorem State.modEvu_therm (s : State) (p : EvUnit) (f) : (s.modEvu p f).therm = s.therm := rfl
@[simp] theorem State.modEvu_hosts (s : State) (p : EvUnit) (f) : (s.modEvu p f).hosts = s.hosts := rfl
@[simp] theorem State.modEvu_vfs (s : State) (p : EvUnit) (f) : (s.modEvu p f).vfs = s.vfs := rfl
@[simp] theorem State.modEvu_queues (s : State) (p : EvUnit) (f) : (s.modEvu p f).queues = s.queues := rfl
@[simp] theorem State.modEvu_list (s : State) (p : EvUnit) (f) : (s.modEvu p f).list = s.list := rfl
@[simp] theorem State.modEvu_prog (s : State) (p : EvUnit) (f) : (s.modEvu p f).prog = s.prog := rfl
@[simp] theorem State.modEvu_ports (s : State) (p : EvUnit) (f) : (s.modEvu p f).ports = s.ports := rfl
@[simp] theorem State.modEvu_data (s : State) (p : EvUnit) (f) : (s.modEvu p f).data = s.data := rfl
@[simp] theorem State.modEvu_cores (s : State) (p : EvUnit) (f) : (s.modEvu p f).cores = s.cores := rfl
@[simp] theorem State.modEvu_banks (s : State) (p : EvUnit) (f) : (s.modEvu p f).banks = s.banks := rfl
@[simp] theorem State.modEvu_boxes (s : State) (p : EvUnit) (f) : (s.modEvu p f).boxes = s.boxes := rfl
@[simp] theorem State.modEvu_orders (s : State) (p : EvUnit) (f) : (s.modEvu p f).orders = s.orders := rfl
@[simp] theorem State.modEvu_faults (s : State) (p : EvUnit) (f) : (s.modEvu p f).faults = s.faults := rfl
@[simp] theorem State.modEvu_fw (s : State) (p : EvUnit) (f) : (s.modEvu p f).fw = s.fw := rfl
@[simp] theorem State.modEvu_side (s : State) (p : EvUnit) (f) : (s.modEvu p f).side = s.side := rfl

/-! ### modBank -/

@[simp] theorem State.modBank_pending (s : State) (p : BankNum) (f) : (s.modBank p f).pending = s.pending := rfl
@[simp] theorem State.modBank_out (s : State) (p : BankNum) (f) : (s.modBank p f).out = s.out := rfl
@[simp] theorem State.modBank_clk (s : State) (p : BankNum) (f) : (s.modBank p f).clk = s.clk := rfl
@[simp] theorem State.modBank_keeper (s : State) (p : BankNum) (f) : (s.modBank p f).keeper = s.keeper := rfl
@[simp] theorem State.modBank_power (s : State) (p : BankNum) (f) : (s.modBank p f).power = s.power := rfl
@[simp] theorem State.modBank_therm (s : State) (p : BankNum) (f) : (s.modBank p f).therm = s.therm := rfl
@[simp] theorem State.modBank_hosts (s : State) (p : BankNum) (f) : (s.modBank p f).hosts = s.hosts := rfl
@[simp] theorem State.modBank_vfs (s : State) (p : BankNum) (f) : (s.modBank p f).vfs = s.vfs := rfl
@[simp] theorem State.modBank_queues (s : State) (p : BankNum) (f) : (s.modBank p f).queues = s.queues := rfl
@[simp] theorem State.modBank_list (s : State) (p : BankNum) (f) : (s.modBank p f).list = s.list := rfl
@[simp] theorem State.modBank_prog (s : State) (p : BankNum) (f) : (s.modBank p f).prog = s.prog := rfl
@[simp] theorem State.modBank_ports (s : State) (p : BankNum) (f) : (s.modBank p f).ports = s.ports := rfl
@[simp] theorem State.modBank_data (s : State) (p : BankNum) (f) : (s.modBank p f).data = s.data := rfl
@[simp] theorem State.modBank_cores (s : State) (p : BankNum) (f) : (s.modBank p f).cores = s.cores := rfl
@[simp] theorem State.modBank_evus (s : State) (p : BankNum) (f) : (s.modBank p f).evus = s.evus := rfl
@[simp] theorem State.modBank_boxes (s : State) (p : BankNum) (f) : (s.modBank p f).boxes = s.boxes := rfl
@[simp] theorem State.modBank_orders (s : State) (p : BankNum) (f) : (s.modBank p f).orders = s.orders := rfl
@[simp] theorem State.modBank_faults (s : State) (p : BankNum) (f) : (s.modBank p f).faults = s.faults := rfl
@[simp] theorem State.modBank_fw (s : State) (p : BankNum) (f) : (s.modBank p f).fw = s.fw := rfl
@[simp] theorem State.modBank_side (s : State) (p : BankNum) (f) : (s.modBank p f).side = s.side := rfl

/-! ### modMbx -/

@[simp] theorem State.modMbx_pending (s : State) (p : Nat) (f) : (s.modMbx p f).pending = s.pending := rfl
@[simp] theorem State.modMbx_out (s : State) (p : Nat) (f) : (s.modMbx p f).out = s.out := rfl
@[simp] theorem State.modMbx_clk (s : State) (p : Nat) (f) : (s.modMbx p f).clk = s.clk := rfl
@[simp] theorem State.modMbx_keeper (s : State) (p : Nat) (f) : (s.modMbx p f).keeper = s.keeper := rfl
@[simp] theorem State.modMbx_power (s : State) (p : Nat) (f) : (s.modMbx p f).power = s.power := rfl
@[simp] theorem State.modMbx_therm (s : State) (p : Nat) (f) : (s.modMbx p f).therm = s.therm := rfl
@[simp] theorem State.modMbx_hosts (s : State) (p : Nat) (f) : (s.modMbx p f).hosts = s.hosts := rfl
@[simp] theorem State.modMbx_vfs (s : State) (p : Nat) (f) : (s.modMbx p f).vfs = s.vfs := rfl
@[simp] theorem State.modMbx_queues (s : State) (p : Nat) (f) : (s.modMbx p f).queues = s.queues := rfl
@[simp] theorem State.modMbx_list (s : State) (p : Nat) (f) : (s.modMbx p f).list = s.list := rfl
@[simp] theorem State.modMbx_prog (s : State) (p : Nat) (f) : (s.modMbx p f).prog = s.prog := rfl
@[simp] theorem State.modMbx_ports (s : State) (p : Nat) (f) : (s.modMbx p f).ports = s.ports := rfl
@[simp] theorem State.modMbx_data (s : State) (p : Nat) (f) : (s.modMbx p f).data = s.data := rfl
@[simp] theorem State.modMbx_cores (s : State) (p : Nat) (f) : (s.modMbx p f).cores = s.cores := rfl
@[simp] theorem State.modMbx_evus (s : State) (p : Nat) (f) : (s.modMbx p f).evus = s.evus := rfl
@[simp] theorem State.modMbx_banks (s : State) (p : Nat) (f) : (s.modMbx p f).banks = s.banks := rfl
@[simp] theorem State.modMbx_orders (s : State) (p : Nat) (f) : (s.modMbx p f).orders = s.orders := rfl
@[simp] theorem State.modMbx_faults (s : State) (p : Nat) (f) : (s.modMbx p f).faults = s.faults := rfl
@[simp] theorem State.modMbx_fw (s : State) (p : Nat) (f) : (s.modMbx p f).fw = s.fw := rfl
@[simp] theorem State.modMbx_side (s : State) (p : Nat) (f) : (s.modMbx p f).side = s.side := rfl

/-! ### modDomain -/

@[simp] theorem State.modDomain_pending (s : State) (p : Dom) (f) : (s.modDomain p f).pending = s.pending := rfl
@[simp] theorem State.modDomain_out (s : State) (p : Dom) (f) : (s.modDomain p f).out = s.out := rfl
@[simp] theorem State.modDomain_clk (s : State) (p : Dom) (f) : (s.modDomain p f).clk = s.clk := rfl
@[simp] theorem State.modDomain_keeper (s : State) (p : Dom) (f) : (s.modDomain p f).keeper = s.keeper := rfl
@[simp] theorem State.modDomain_therm (s : State) (p : Dom) (f) : (s.modDomain p f).therm = s.therm := rfl
@[simp] theorem State.modDomain_hosts (s : State) (p : Dom) (f) : (s.modDomain p f).hosts = s.hosts := rfl
@[simp] theorem State.modDomain_vfs (s : State) (p : Dom) (f) : (s.modDomain p f).vfs = s.vfs := rfl
@[simp] theorem State.modDomain_queues (s : State) (p : Dom) (f) : (s.modDomain p f).queues = s.queues := rfl
@[simp] theorem State.modDomain_list (s : State) (p : Dom) (f) : (s.modDomain p f).list = s.list := rfl
@[simp] theorem State.modDomain_prog (s : State) (p : Dom) (f) : (s.modDomain p f).prog = s.prog := rfl
@[simp] theorem State.modDomain_ports (s : State) (p : Dom) (f) : (s.modDomain p f).ports = s.ports := rfl
@[simp] theorem State.modDomain_data (s : State) (p : Dom) (f) : (s.modDomain p f).data = s.data := rfl
@[simp] theorem State.modDomain_cores (s : State) (p : Dom) (f) : (s.modDomain p f).cores = s.cores := rfl
@[simp] theorem State.modDomain_evus (s : State) (p : Dom) (f) : (s.modDomain p f).evus = s.evus := rfl
@[simp] theorem State.modDomain_banks (s : State) (p : Dom) (f) : (s.modDomain p f).banks = s.banks := rfl
@[simp] theorem State.modDomain_boxes (s : State) (p : Dom) (f) : (s.modDomain p f).boxes = s.boxes := rfl
@[simp] theorem State.modDomain_orders (s : State) (p : Dom) (f) : (s.modDomain p f).orders = s.orders := rfl
@[simp] theorem State.modDomain_faults (s : State) (p : Dom) (f) : (s.modDomain p f).faults = s.faults := rfl
@[simp] theorem State.modDomain_fw (s : State) (p : Dom) (f) : (s.modDomain p f).fw = s.fw := rfl
@[simp] theorem State.modDomain_side (s : State) (p : Dom) (f) : (s.modDomain p f).side = s.side := rfl

/-! ### modToken -/

@[simp] theorem State.modToken_pending (s : State) (p : Nat) (f) : (s.modToken p f).pending = s.pending := rfl
@[simp] theorem State.modToken_out (s : State) (p : Nat) (f) : (s.modToken p f).out = s.out := rfl
@[simp] theorem State.modToken_clk (s : State) (p : Nat) (f) : (s.modToken p f).clk = s.clk := rfl
@[simp] theorem State.modToken_keeper (s : State) (p : Nat) (f) : (s.modToken p f).keeper = s.keeper := rfl
@[simp] theorem State.modToken_power (s : State) (p : Nat) (f) : (s.modToken p f).power = s.power := rfl
@[simp] theorem State.modToken_therm (s : State) (p : Nat) (f) : (s.modToken p f).therm = s.therm := rfl
@[simp] theorem State.modToken_hosts (s : State) (p : Nat) (f) : (s.modToken p f).hosts = s.hosts := rfl
@[simp] theorem State.modToken_vfs (s : State) (p : Nat) (f) : (s.modToken p f).vfs = s.vfs := rfl
@[simp] theorem State.modToken_queues (s : State) (p : Nat) (f) : (s.modToken p f).queues = s.queues := rfl
@[simp] theorem State.modToken_list (s : State) (p : Nat) (f) : (s.modToken p f).list = s.list := rfl
@[simp] theorem State.modToken_ports (s : State) (p : Nat) (f) : (s.modToken p f).ports = s.ports := rfl
@[simp] theorem State.modToken_data (s : State) (p : Nat) (f) : (s.modToken p f).data = s.data := rfl
@[simp] theorem State.modToken_cores (s : State) (p : Nat) (f) : (s.modToken p f).cores = s.cores := rfl
@[simp] theorem State.modToken_evus (s : State) (p : Nat) (f) : (s.modToken p f).evus = s.evus := rfl
@[simp] theorem State.modToken_banks (s : State) (p : Nat) (f) : (s.modToken p f).banks = s.banks := rfl
@[simp] theorem State.modToken_boxes (s : State) (p : Nat) (f) : (s.modToken p f).boxes = s.boxes := rfl
@[simp] theorem State.modToken_orders (s : State) (p : Nat) (f) : (s.modToken p f).orders = s.orders := rfl
@[simp] theorem State.modToken_faults (s : State) (p : Nat) (f) : (s.modToken p f).faults = s.faults := rfl
@[simp] theorem State.modToken_fw (s : State) (p : Nat) (f) : (s.modToken p f).fw = s.fw := rfl
@[simp] theorem State.modToken_side (s : State) (p : Nat) (f) : (s.modToken p f).side = s.side := rfl

end Sys2Proof.Machine
end

