-- ==== Sys2Proof/Laws/Table.lean ====
section
/-! SUPPORT. Laws/Table.lean: reading after writing in sparse maps and memories, and that every operation keeps their canonical
form. -/

namespace Sys2Proof.Machine

variable {α : Type}

/-! ### Reading after writing -/

@[simp] theorem tfind_nil (k : Nat) : tfind ([] : Table α) k = none := rfl

@[simp] theorem tfind_tset_same (t : Table α) (k : Nat) (v : α) : tfind (tset t k v) k = some v := by
  induction t with
  | nil => simp [tset, tfind]
  | cons x t ih =>
    obtain ⟨a, w⟩ := x
    by_cases h : a = k
    · simp [tset, tfind, h]
    · by_cases h2 : k < a
      · simp [tset, tfind, h, h2]
      · simp [tset, tfind, h, h2, ih]

theorem tfind_tset_ne (t : Table α) (k j : Nat) (v : α) (h : j ≠ k) : tfind (tset t k v) j = tfind t j := by
  induction t with
  | nil => simp [tset, tfind, Ne.symm h]
  | cons x t ih =>
    obtain ⟨a, w⟩ := x
    by_cases ha : a = k
    · subst ha; simp [tset, tfind, Ne.symm h]
    · by_cases h2 : k < a
      · simp [tset, tfind, ha, h2, Ne.symm h]
      · simp [tset, tfind, ha, h2, ih]

@[simp] theorem tfind_tdel_same (t : Table α) (k : Nat) : tfind (tdel t k) k = none := by
  induction t with
  | nil => rfl
  | cons x t ih =>
    obtain ⟨a, w⟩ := x
    by_cases h : a = k
    · simp [tdel, h, ih]
    · simp [tdel, tfind, h, ih]

theorem tfind_tdel_ne (t : Table α) (k j : Nat) (h : j ≠ k) : tfind (tdel t k) j = tfind t j := by
  induction t with
  | nil => rfl
  | cons x t ih =>
    obtain ⟨a, w⟩ := x
    by_cases ha : a = k
    · subst ha; simp [tdel, tfind, ih, Ne.symm h]
    · simp [tdel, tfind, ha, ih]

@[simp] theorem tget_tset_same (d : α) (t : Table α) (k : Nat) (v : α) : tget d (tset t k v) k = v := by simp [tget]

theorem tget_tset_ne (d : α) (t : Table α) (k j : Nat) (v : α) (h : j ≠ k) : tget d (tset t k v) j = tget d t j := by
  simp [tget, tfind_tset_ne t k j v h]

@[simp] theorem tget_tdel_same (d : α) (t : Table α) (k : Nat) : tget d (tdel t k) k = d := by simp [tget]

theorem tget_tdel_ne (d : α) (t : Table α) (k j : Nat) (h : j ≠ k) : tget d (tdel t k) j = tget d t j := by
  simp [tget, tfind_tdel_ne t k j h]

@[simp] theorem tget_tmod_same (d : α) (t : Table α) (k : Nat) (f : α → α) : tget d (tmod d t k f) k = f (tget d t k) := by
  simp [tmod]

theorem tget_tmod_ne (d : α) (t : Table α) (k j : Nat) (f : α → α) (h : j ≠ k) :
    tget d (tmod d t k f) j = tget d t j := tget_tset_ne d t k j _ h

/-! ### The canonical form -/

theorem tAbove_tset (t : Table α) (lo k : Nat) (v : α) (h : tAbove lo t) (hk : lo < k) : tAbove lo (tset t k v) := by
  induction t generalizing lo with
  | nil => simp [tset, tAbove, hk]
  | cons x t ih =>
    obtain ⟨a, w⟩ := x
    simp [tAbove] at h
    by_cases ha : a = k
    · subst ha; simp [tset, tAbove, h]
    · by_cases h2 : k < a
      · simp [tset, tAbove, ha, h2, hk, h]
      · simp only [tset, ha, h2, if_false, tAbove, h.1, decide_true, Bool.true_and]
        exact ih a h.2 (by omega)

theorem tAbove_mono (t : Table α) (lo hi : Nat) (h : tAbove hi t) (hl : lo ≤ hi) : tAbove lo t := by
  cases t with
  | nil => rfl
  | cons x t =>
    obtain ⟨a, w⟩ := x
    simp [tAbove] at h ⊢
    exact ⟨by omega, h.2⟩

theorem tAbove_tdel (t : Table α) (lo k : Nat) (h : tAbove lo t) : tAbove lo (tdel t k) := by
  induction t generalizing lo with
  | nil => rfl
  | cons x t ih =>
    obtain ⟨a, w⟩ := x
    simp [tAbove] at h
    by_cases ha : a = k
    · simp only [tdel, ha, if_true]
      exact tAbove_mono _ lo a (ih a h.2) (by omega)
    · simp [tdel, ha, tAbove, h, ih a h.2]

theorem tWf_tset (t : Table α) (k : Nat) (v : α) (h : tWf t) : tWf (tset t k v) := by
  cases t with
  | nil => rfl
  | cons x t =>
    obtain ⟨a, w⟩ := x
    by_cases ha : a = k
    · subst ha; simpa [tset, tWf] using h
    · by_cases h2 : k < a
      · simp [tset, ha, h2, tWf, tAbove]; exact h
      · simp only [tset, ha, h2, if_false, tWf]
        exact tAbove_tset t a k v h (by omega)

theorem tWf_of_tAbove (t : Table α) (lo : Nat) (h : tAbove lo t) : tWf t := by
  cases t with
  | nil => rfl
  | cons x t => obtain ⟨a, w⟩ := x; simp [tAbove] at h; exact h.2

theorem tWf_tdel (t : Table α) (k : Nat) (h : tWf t) : tWf (tdel t k) := by
  cases t with
  | nil => rfl
  | cons x t =>
    obtain ⟨a, w⟩ := x
    by_cases ha : a = k
    · simp only [tdel, ha, if_true]
      exact tWf_of_tAbove _ a (tAbove_tdel t a k h)
    · simp only [tdel, ha, if_false, tWf]
      exact tAbove_tdel t a k h

/-! ### Memories -/

@[simp] theorem Memory.read_write_same (m : Memory) (a : Nat) (b : Byte) : (m.write a b).read a = b := by
  by_cases h : b = 0
  · rw [Memory.write, if_pos h, Memory.read, tget_tdel_same, h]
  · rw [Memory.write, if_neg h, Memory.read, tget_tset_same]

theorem Memory.read_write_ne (m : Memory) (a x : Nat) (b : Byte) (h : x ≠ a) : (m.write a b).read x = m.read x := by
  by_cases hb : b = 0
  · rw [Memory.write, if_pos hb, Memory.read, tget_tdel_ne _ _ _ _ h]; rfl
  · rw [Memory.write, if_neg hb, Memory.read, tget_tset_ne _ _ _ _ _ h]; rfl

theorem all_tset (t : Table α) (p : Nat × α → Bool) (k : Nat) (v : α) (h : t.all p) (hv : p (k, v)) :
    (tset t k v).all p := by
  induction t with
  | nil => simp [tset, hv]
  | cons x t ih =>
    obtain ⟨a, w⟩ := x
    simp at h
    by_cases ha : a = k
    · simp [tset, ha, hv]; exact fun a b hab => h.2 a b hab
    · by_cases h2 : k < a
      · simp [tset, ha, h2, hv, h.1]; exact fun a b hab => h.2 a b hab
      · simp only [tset, ha, h2, if_false, List.all_cons, h.1, Bool.true_and]
        exact ih (by simpa using fun a b hab => h.2 a b hab)

theorem all_tdel (t : Table α) (p : Nat × α → Bool) (k : Nat) (h : t.all p) : (tdel t k).all p := by
  induction t with
  | nil => rfl
  | cons x t ih =>
    obtain ⟨a, w⟩ := x
    simp only [List.all_cons, Bool.and_eq_true] at h
    by_cases ha : a = k
    · simp only [tdel, ha, if_true]; exact ih h.2
    · simp only [tdel, ha, if_false, List.all_cons, h.1, Bool.true_and]; exact ih h.2

/-- A write keeps the canonical form. -/
theorem Memory.wf_write (m : Memory) (a : Nat) (b : Byte) (h : m.wf) : (m.write a b).wf := by
  simp only [Memory.wf, Bool.and_eq_true] at h
  by_cases hb : b = 0
  · simp only [Memory.write, hb, if_true, Memory.wf, Bool.and_eq_true]
    exact ⟨tWf_tdel m a h.1, all_tdel m _ a h.2⟩
  · simp only [Memory.write, hb, if_false, Memory.wf, Bool.and_eq_true]
    exact ⟨tWf_tset m a b h.1, all_tset m _ a b h.2 (by simpa using hb)⟩

/-- A store of a run of bytes keeps the canonical form of the pair's data memory. -/
theorem Pair.wf_store (p : Pair) (a : Nat) (b : Bytes) (h : p.dmem.wf) : (p.store a b).dmem.wf := by
  unfold Pair.store
  generalize b.zip (List.range b.length) = l
  simp only
  generalize p.dmem = m at h
  induction l generalizing m with
  | nil => exact h
  | cons x l ih => exact ih _ (Memory.wf_write m _ _ h)

/-- A store writes nothing of a pair but its data memory. -/
theorem Pair.store_frame (p : Pair) (a : Nat) (b : Bytes) : p.store a b = { p with dmem := (p.store a b).dmem } := rfl

end Sys2Proof.Machine
end

