-- ==== Sys2Proof/Laws/Ops.lean ====
section
/-! SUPPORT. Laws/Ops.lean: what the shared operations do, each said once: reading a record back, sending, vectors, sources, the fault log. -/

namespace Sys2Proof.Machine

open Sys2Proof

/-! ### A record read back -/

@[simp] theorem State.host_modHost (s : State) (p : HPort) (f) : (s.modHost p f).host p = f (s.host p) := by
  simp [State.host, State.modHost]
theorem State.host_modHost_ne (s : State) (p q : HPort) (f) (h : q ≠ p) : (s.modHost p f).host q = s.host q := by
  simp only [State.host, State.modHost, State.onHosts_hosts]
  exact tget_tmod_ne _ _ _ _ _ (by intro e; exact h (Fin.ext e))
@[simp] theorem State.port_modPort (s : State) (d : DPort) (f) : (s.modPort d f).port d = f (s.port d) := by
  simp [State.port, State.modPort]
theorem State.port_modPort_ne (s : State) (d e : DPort) (f) (h : e ≠ d) : (s.modPort d f).port e = s.port e := by
  simp only [State.port, State.modPort, State.onPorts_ports]
  exact tget_tmod_ne _ _ _ _ _ (by intro x; exact h (Fin.ext x))
@[simp] theorem State.cage_modCage (s : State) (c : CageNum) (f) : (s.modCage c f).cage c = f (s.cage c) := by
  simp [State.cage, State.modCage]
@[simp] theorem State.sub_modSub (s : State) (sc : SC) (f) : (s.modSub sc f).sub sc = f (s.sub sc) := by
  simp [State.sub, State.modSub]
theorem State.sub_modSub_ne (s : State) (sc x : SC) (f) (h : x ≠ sc) : (s.modSub sc f).sub x = s.sub x := by
  simp only [State.sub, State.modSub, State.onProg_prog]
  exact tget_tmod_ne _ _ _ _ _ (by intro e; exact h (BitVec.eq_of_toNat_eq e))
@[simp] theorem State.prog_modProg (s : State) (sc : SC) (f) : (s.modProg sc f).prog? sc = (s.prog? sc).map f := by
  simp [State.prog?, State.modProg]
@[simp] theorem State.tenant_modTenant (s : State) (t : Tenant) (f) : (s.modTenant t f).tenant t = f (s.tenant t) := by
  simp [State.tenant, State.modTenant]
@[simp] theorem State.mover_modMover (s : State) (m : MoverNum) (f) : (s.modMover m f).mover m = f (s.mover m) := by
  simp [State.mover, State.modMover]
@[simp] theorem State.pool_modPool (s : State) (d : Die) (f) : (s.modPool d f).pool d = f (s.pool d) := by
  simp [State.pool, State.modPool]
@[simp] theorem State.evu_modEvu (s : State) (u : EvUnit) (f) : (s.modEvu u f).evu u = f (s.evu u) := by
  simp [State.evu, State.modEvu]

/-! ### Sending -/

theorem State.sendWrite_eq (s : State) (p : HPort) (pasid) (a : W64) (b : Bytes) :
    s.sendWrite p pasid a b = { (s.exitL1 p) with out := .hostWrite p pasid a b :: s.out } := rfl

theorem State.exitL1_host (s : State) (p : HPort) : (s.exitL1 p).host p = { s.host p with l1 := .l0, txIdle := s.clk.now } := by
  simp [State.exitL1]

/-- A vector of a function changes only its host port's record, its own record and what is sent, which it only adds to. -/
theorem State.vector_frame (s : State) (fn : Fn) (v : Nat) :
    { s.vector fn v with out := s.out, hosts := s.hosts, vfs := s.vfs } = s ∧ ∃ l, (s.vector fn v).out = l ++ s.out := by
  unfold State.vector
  simp only []
  split
  · exact ⟨rfl, [], rfl⟩
  · split
    · refine ⟨?_, [_], rfl⟩
      cases fn <;> rfl
    · split
      · refine ⟨?_, [.pme fn], ?_⟩ <;> cases fn <;> rfl
      · refine ⟨?_, [], ?_⟩ <;> cases fn <;> rfl

/-- An update of a host port that leaves its order ring leaves every order ring. -/
theorem State.oq_modHost (s : State) (p q : HPort) (f : HostPort → HostPort) (h : ∀ x, (f x).oq = x.oq) :
    ((s.modHost q f).host p).oq = (s.host p).oq := by
  by_cases e : p = q
  · subst e; rw [State.host_modHost, h]
  · rw [State.host_modHost_ne _ _ _ _ e]

/-- A vector leaves the order rings. -/
theorem State.vector_oq (s : State) (fn : Fn) (v : Nat) (p : HPort) : ((s.vector fn v).host p).oq = (s.host p).oq := by
  have vf : ∀ (x : State) (t : Tenant) f, ((x.modFn (.vf t) f).host p).oq = (x.host p).oq := fun _ _ _ => rfl
  have pf : ∀ (x : State) (q : HPort) f, ((x.modFn (.pf q) f).host p).oq = (x.host p).oq :=
    fun x q f => State.oq_modHost x p q _ (fun _ => rfl)
  have ex : ∀ (x : State) (q : HPort), ((x.exitL1 q).host p).oq = (x.host p).oq := fun x q => State.oq_modHost x p q _ (fun _ => rfl)
  have em : ∀ (x : State) o, ((x.emit o).host p).oq = (x.host p).oq := fun _ _ => rfl
  unfold State.vector
  simp only [State.sendVector]
  split
  · rfl
  · split
    · rw [em, ex]
    · cases fn <;> split <;> simp only [em, ex, pf, vf]

/-- A read of some ranges, issued or left waiting for a tag, changes its host port's record but for the order ring, and only adds to what is sent. -/
theorem State.sendReads_facts (s : State) (p : HPort) (pasid) (ranges : List (W64 × Nat)) (key : ReadKey) :
    { s.sendReads p pasid ranges key with out := s.out, hosts := s.hosts } = s ∧ (∃ l, (s.sendReads p pasid ranges key).out = l ++ s.out) ∧
      ∀ q, ((s.sendReads p pasid ranges key).host q).oq = (s.host q).oq := by
  unfold State.sendReads
  split
  · unfold State.issueRead
    refine ⟨rfl, ⟨_, rfl⟩, fun q => ?_⟩
    have e : ((s.exitL1 p).host q).oq = (s.host q).oq := State.oq_modHost s q p _ (fun _ => rfl)
    rw [← e]
    exact State.oq_modHost (s.exitL1 p) q p (fun h => { h with
      reads := h.reads ++ [⟨key, s.clk.now + h.cto, min (s.readTlps p key ranges).length h.tagsFree⟩] }) (fun _ => rfl)
  · exact ⟨rfl, ⟨[], rfl⟩, fun q => State.oq_modHost _ q p _ (fun _ => rfl)⟩

/-! ### Notes -/

/-- An error noted in AER changes that function's record and nothing else. -/
theorem State.aerNote_frame (s : State) (fn : Fn) (bit : Nat) : { s.aerNote fn bit with hosts := s.hosts, vfs := s.vfs } = s := by
  unfold State.aerNote; split
  · cases fn <;> rfl
  · rfl

/-- Reserved bits written zero are not logged. -/
theorem State.ioReserved_clear (s : State) (site : W32) (off : Nat) (rsv v : W32) (hr : rsv ≠ BitVec.allOnes 32) (hv : v &&& rsv = 0) :
    s.ioReserved site off rsv v = s := by
  unfold State.ioReserved
  exact if_pos (by rw [decide_eq_true hr, decide_eq_true hv]; rfl)

/-! ### Sources, books -/

/-- A source that exists, of a unit with power, fires: it is pending, and the module is no longer idle; nothing else changes. -/
theorem State.fire_real (s : State) (u : EvUnit) (n : Nat) (h : sourceReal u n = true) (hp : s.evuOn u = true) :
    s.fire u n = (s.modEvu u (fun e => { e with pend := tset e.pend n true })).work := by simp [State.fire, h, hp]

/-- In a unit without power nothing is pending (R428). -/
theorem State.fire_unpowered (s : State) (u : EvUnit) (n : Nat) (hp : s.evuOn u = false) : s.fire u n = s := by simp [State.fire, hp]

theorem State.fire_frame (s : State) (u : EvUnit) (n : Nat) : { s.fire u n with evus := s.evus, power := s.power } = s := by
  unfold State.fire; split <;> rfl

/-- Units that move change the two counters of one instance, and nothing else. -/
theorem State.book_frame (s : State) (a i : Nat) (n : Int) :
    { s.book a i n with faults := s.faults } = s ∧ { (s.book a i n).faults with accts := s.faults.accts } = s.faults := ⟨rfl, rfl⟩

end Sys2Proof.Machine
end

