-- ==== Sys2Proof/Laws/Orders.lean ====
section
/-! SUPPORT. Laws/Orders.lean: what beginning an order and writing its reply do, and the one way an order goes through. -/

namespace Sys2Proof.Machine

open Sys2Proof

@[simp] theorem State.oq_modOq (s : State) (p : HPort) (f) : (s.modOq p f).oq p = f (s.oq p) := by
  simp [State.oq, State.modOq]

/-- The slot at the head is read only while no order of the ring is being carried out. -/
theorem State.headSlot_active (s : State) (p : HPort) (x : OrderSlot) (h : s.headSlot p = some x) : (s.oq p).active = none := by
  unfold State.headSlot at h
  simp only [] at h
  split at h
  · next h1 => simpa using h1
  · cases h

/-- An order begun: it stands in its ring, its ring was the last taken, the module is at work. -/
theorem State.beginOrder_oq (s : State) (p : HPort) (b : Bytes) :
    (s.beginOrder p b).oq p =
      { s.oq p with active := some { opc := byteAt b 1, packet := b, index := (s.oq p).head, stage := .none } } := by
  have : (s.beginOrder p b).oq p = (s.modOq p (fun o => { o with active := some { opc := byteAt b 1, packet := b, index := o.head, stage := .none } })).oq p := rfl
  rw [this, State.oq_modOq]

theorem State.beginOrder_frame (s : State) (p : HPort) (b : Bytes) :
    { s.beginOrder p b with hosts := s.hosts, orders := s.orders, power := s.power } = s := rfl

theorem State.effected_oq (s : State) (p : HPort) :
    (s.effected p).oq p = { s.oq p with active := (s.oq p).active.map (fun a => { a with effected := true }) } := by
  simp [State.effected]

/-- What an order brings about once its reply is posted is set down in the ring, and nothing else changes. -/
theorem State.onceReplied_oq (s : State) (p : HPort) (x : AfterReply) :
    (s.onceReplied p x).oq p = { s.oq p with active := (s.oq p).active.map (fun a => { a with after := x }) } := by simp [State.onceReplied]
theorem State.onceReplied_frame (s : State) (p : HPort) (x : AfterReply) : { s.onceReplied p x with hosts := s.hosts } = s := rfl

/-- Reading order slots changes the ring's read and what is sent. -/
theorem State.fetchOrders_facts (s : State) (p : HPort) :
    { s.fetchOrders p with out := s.out, hosts := s.hosts } = s ∧ (∃ l, (s.fetchOrders p).out = l ++ s.out) ∧
      ((s.fetchOrders p).oq p).active = (s.oq p).active ∧ ((s.fetchOrders p).oq p).head = (s.oq p).head ∧
      ((s.fetchOrders p).oq p).slots = (s.oq p).slots ∧ ((s.fetchOrders p).oq p).fetch = (s.oq p).fetch ∧
      ((s.fetchOrders p).oq p).tail = (s.oq p).tail ∧ ((s.fetchOrders p).oq p).markWait = (s.oq p).markWait := by
  unfold State.fetchOrders
  simp only []
  split
  · generalize hn : min ((s.oq p).tail - (s.oq p).fetch) ((s.oq p).size - (s.oq p).fetch % (s.oq p).size) = n
    generalize hy : s.modOq p (fun o => { o with reading := some (o.fetch, n) }) = y
    have yq : y.oq p = { s.oq p with reading := some ((s.oq p).fetch, n) } := by subst hy; exact State.oq_modOq s p _
    have yf : { y with hosts := s.hosts } = s := by subst hy; rfl
    have yo : y.out = s.out := by subst hy; rfl
    obtain ⟨rf, ⟨l, ro⟩, rq⟩ := State.sendReads_facts y p none
      [((s.oq p).obase + BitVec.ofNat 64 (128 * ((s.oq p).fetch % (s.oq p).size)), 128 * n)] (.orderSlot p)
    have e : ∀ g : State → State, g { y.sendReads p none [((s.oq p).obase + BitVec.ofNat 64 (128 * ((s.oq p).fetch % (s.oq p).size)), 128 * n)]
        (.orderSlot p) with out := y.out, hosts := y.hosts } = g y := fun g => congrArg g rf
    have h := (rq p).trans (show (y.host p).oq = _ from yq)
    refine ⟨?_, ⟨l, by rw [← yo]; exact ro⟩, ?_⟩
    · exact (e (fun v => { v with out := s.out, hosts := s.hosts })).trans ((by rw [← yo] : _ = { y with hosts := s.hosts }).trans yf)
    · exact ⟨congrArg (·.active) h, congrArg (·.head) h, congrArg (·.slots) h, congrArg (·.fetch) h, congrArg (·.tail) h, congrArg (·.markWait) h⟩
  · exact ⟨rfl, ⟨[], rfl⟩, rfl, rfl, rfl, rfl, rfl, rfl⟩

/-- A reply that can be written while the Tender runs, of an order that brings nothing about after it: the order is over, the ring goes on, and the reply is among what is sent; nothing else changes. -/
theorem State.putReply_facts (s : State) (p : HPort) (a : Active) (time : W64) (status : W16) (result : Bytes)
    (ha : (s.oq p).active = some a) (ho : a.orphan = false) (hr : a.restarted = false) (he : a.after = .none) (hm : s.pfMaster p = true)
    (ht : s.cores.tenderUp = true) :
    ((s.putReply p time status result).oq p).active = none ∧ ((s.putReply p time status result).oq p).head = a.index + 1 ∧
      Out.hostWrite p none ((s.oq p).rbase + BitVec.ofNat 64 (64 * (a.index % (s.oq p).size)))
        (replyBytes a (passBit (s.oq p).size a.index) time status result) ∈ (s.putReply p time status result).out ∧
      { s.putReply p time status result with out := s.out, hosts := s.hosts } = s ∧
      ∃ l, (s.putReply p time status result).out = l ++ s.out := by
  unfold State.putReply
  simp only [ha, ho, hr, he, hm, ht, Bool.not_true, Bool.false_eq_true, if_false, State.afterReply]
  generalize hw : (s.sendWrite p none ((s.oq p).rbase + BitVec.ofNat 64 (64 * (a.index % (s.oq p).size)))
    (replyBytes a (passBit (s.oq p).size a.index) time status result)) = w
  generalize hx : w.modOq p (fun o => { o with active := none, head := a.index + 1, slots := tdel o.slots a.index }) = x
  have xo : (x.oq p).active = none ∧ (x.oq p).head = a.index + 1 := by subst hx; simp
  have xout : x.out = Out.hostWrite p none ((s.oq p).rbase + BitVec.ofNat 64 (64 * (a.index % (s.oq p).size)))
        (replyBytes a (passBit (s.oq p).size a.index) time status result) :: s.out := by subst hx; subst hw; rfl
  have xf : { x with out := s.out, hosts := s.hosts } = s := by subst hx; subst hw; rfl
  obtain ⟨vf, vl, vo⟩ := State.vector_frame x (.pf p) 0
  have vq := State.vector_oq x (.pf p) 0 p
  obtain ⟨ff, ⟨fl, fo⟩, fa, fh, -⟩ := State.fetchOrders_facts (x.vector (.pf p) 0) p
  have vvfs : (x.vector (.pf p) 0).vfs = x.vfs := by
    unfold State.vector; simp only []
    split
    · rfl
    · split
      · rfl
      · split <;> rfl
  refine ⟨by rw [fa]; show ((x.vector (.pf p) 0).host p).oq.active = none; rw [vq]; exact xo.1,
    by rw [fh]; show ((x.vector (.pf p) 0).host p).oq.head = _; rw [vq]; exact xo.2, ?_, ?_, ?_⟩
  · rw [fo, vo, xout]; simp
  · have e1 : { (x.vector (.pf p) 0).fetchOrders p with out := s.out, hosts := s.hosts } = { x.vector (.pf p) 0 with out := s.out, hosts := s.hosts } := by
      conv => rhs; rw [← ff]
    have e2 : { x.vector (.pf p) 0 with out := s.out, hosts := s.hosts } = { x with out := s.out, hosts := s.hosts } := by
      conv => rhs; rw [← vf]
      rw [← vvfs]
    rw [e1, e2, xf]
  · exact ⟨fl ++ (vl ++ [Out.hostWrite p none ((s.oq p).rbase + BitVec.ofNat 64 (64 * (a.index % (s.oq p).size)))
        (replyBytes a (passBit (s.oq p).size a.index) time status result)]), by rw [fo, vo, xout]; simp⟩

/-- An order that is due, in no recovery, passes every check: it is begun and acts. -/
theorem State.runOrder_acts (s : State) (p : HPort) (b : Bytes) (want fields list fogOk tenant refusal act)
    (hs : s.headSlot p = some (.packet b)) (ht : s.ringTurn p = true) (hw : want b = true) (hv : s.fw.recovery = false) (hh : headerBad b = false)
    (hf : firstBad b (fields b) = none) (hc : (s.beginOrder p b).columnRefusal p b list fogOk tenant = none)
    (hr : refusal (s.beginOrder p b) b = none) :
    s.runOrder p want fields list fogOk tenant refusal act = act (s.beginOrder p b) b := by
  have hv' : (s.beginOrder p b).fw.recovery = false := hv
  simp [State.runOrder, State.orderDue, hs, ht, hw, hv', hh, hf, hc, hr]

/-- An order with a parameter out of range is answered with its offset (R373). -/
theorem State.runOrder_bad (s : State) (p : HPort) (b : Bytes) (n : Nat) (want fields list fogOk tenant refusal act)
    (hs : s.headSlot p = some (.packet b)) (ht : s.ringTurn p = true) (hw : want b = true) (hv : s.fw.recovery = false) (hh : headerBad b = false)
    (hf : firstBad b (fields b) = some n) :
    s.runOrder p want fields list fogOk tenant refusal act = (s.beginOrder p b).badOrder p n := by
  have hv' : (s.beginOrder p b).fw.recovery = false := hv
  simp [State.runOrder, State.orderDue, hs, ht, hw, hv', hh, hf]

/-- An order that is refused is answered with the reason. -/
theorem State.runOrder_refused (s : State) (p : HPort) (b : Bytes) (n : Nat) (want fields list fogOk tenant refusal act)
    (hs : s.headSlot p = some (.packet b)) (ht : s.ringTurn p = true) (hw : want b = true) (hv : s.fw.recovery = false) (hh : headerBad b = false)
    (hf : firstBad b (fields b) = none) (hc : (s.beginOrder p b).columnRefusal p b list fogOk tenant = none)
    (hr : refusal (s.beginOrder p b) b = some n) :
    s.runOrder p want fields list fogOk tenant refusal act = (s.beginOrder p b).refuse p n := by
  have hv' : (s.beginOrder p b).fw.recovery = false := hv
  simp [State.runOrder, State.orderDue, hs, ht, hw, hv', hh, hf, hc, hr]

/-- In no fog and with a list, only a tenant of the other host port is in the way of R374's columns. -/
theorem State.columnRefusal_none (s : State) (p : HPort) (b : Bytes) (list fogOk : Bool) (tenant : Option Nat)
    (hl : list = true → s.list.loaded = true) (hf : fogOk = false → s.foggy = false)
    (ht : ∀ off, tenant = some off → hostOf (tenantAt b off) = p) : s.columnRefusal p b list fogOk tenant = none := by
  unfold State.columnRefusal
  cases list <;> cases fogOk <;> simp_all
  all_goals (cases tenant <;> simp_all)

end Sys2Proof.Machine
end

