-- ==== Sys2Proof/Laws/Pairs.lean ====
section
/-! SUPPORT. Laws/Pairs.lean: the shared operations of the Hild-14 pairs: registers, memory, the clock, products, issue, entries. -/

namespace Sys2Proof.Machine

open Sys2Proof

/-! ### One pair of the state -/

@[simp] theorem State.pair_modPair (s : State) (c : PairNum) (f : Pair → Pair) : (s.modPair c f).pair c = f (s.pair c) := by
  simp [State.modPair, State.pair]

theorem State.pair_modPair_ne (s : State) (c d : PairNum) (f : Pair → Pair) (h : d ≠ c) : (s.modPair c f).pair d = s.pair d := by
  simp only [State.modPair, State.pair, State.onCores_cores]
  exact tget_tmod_ne _ _ _ _ _ (fun e => h (Fin.ext e))

theorem State.modPair_frame (s : State) (c : PairNum) (f : Pair → Pair) :
    { s.modPair c f with cores := { (s.modPair c f).cores with pairs := s.cores.pairs } } = s := rfl

theorem onlyPair_modPair (s : State) (c : PairNum) (f : Pair → Pair) : onlyPair c s (s.modPair c f) :=
  ⟨fun d h => State.pair_modPair_ne s c d f h, rfl⟩

theorem onlyPair_trans {s t u : State} {c : PairNum} (h : onlyPair c s t) (k : onlyPair c t u) : onlyPair c s u := by
  obtain ⟨h1, h2⟩ := h
  obtain ⟨k1, k2⟩ := k
  refine ⟨fun d hd => (k1 d hd).trans (h1 d hd), ?_⟩
  have e : ∀ (f : State → State), f { u with cores := { u.cores with pairs := t.cores.pairs } } = f t := fun f => congrArg f k2
  calc { u with cores := { u.cores with pairs := s.cores.pairs } }
      = { t with cores := { t.cores with pairs := s.cores.pairs } } :=
        e (fun v => { v with cores := { v.cores with pairs := s.cores.pairs } })
    _ = s := h2

/-! ### General registers -/

theorem tget_put (t : Table W32) (k j : Nat) (v : W32) :
    tget 0 (if v = 0 then tdel t k else tset t k v) j = if j = k then v else tget 0 t j := by
  by_cases hv : v = 0
  · rw [if_pos hv]
    by_cases hj : j = k
    · rw [if_pos hj, hj, tget_tdel_same, hv]
    · rw [if_neg hj, tget_tdel_ne _ _ _ _ hj]
  · rw [if_neg hv]
    by_cases hj : j = k
    · rw [if_pos hj, hj, tget_tset_same]
    · rw [if_neg hj, tget_tset_ne _ _ _ _ _ hj]

theorem Pair.gr_gw (p : Pair) (ra r : Reg) (v : W32) : (p.gw ra v).gr r = if r = ra ∧ ra ≠ 0 then v else p.gr r := by
  by_cases h0 : ra = 0
  · rw [Pair.gw, if_pos h0, if_neg (fun e => e.2 h0)]
  · have e : (p.gw ra v).gr r = if r = 0 then 0 else if r.toNat = ra.toNat then v else tget 0 p.g r.toNat := by
      rw [← tget_put, Pair.gw, if_neg h0]; rfl
    rw [e, Pair.gr]
    by_cases hr : r = ra
    · subst hr; rw [if_neg h0, if_pos rfl, if_pos ⟨rfl, h0⟩]
    · have hn : r.toNat ≠ ra.toNat := fun e => hr (BitVec.eq_of_toNat_eq e)
      have hf : ¬(r = ra ∧ ra ≠ 0) := fun e => hr e.1
      rw [if_neg hn, if_neg hf]

theorem Pair.gw_frame (p : Pair) (ra : Reg) (v : W32) : p.gw ra v = { p with g := (p.gw ra v).g } := by
  unfold Pair.gw; split <;> rfl

/-! ### Time, products, issue -/

theorem Pair.landed_frame (p : Pair) : p.landed = { p with products := p.landed.products, mh := p.landed.mh, ml := p.landed.ml } := by
  unfold Pair.landed
  generalize p.products.filter (fun x => x.1 < p.cyc.toNat) = l
  generalize hp0 : ({ p with products := p.products.filter (fun x => !(x.1 < p.cyc.toNat)) } : Pair) = p0
  have h0 : p0 = { p with products := p0.products, mh := p0.mh, ml := p0.ml } := by subst hp0; rfl
  clear hp0
  induction l generalizing p0 with
  | nil => exact h0
  | cons x l ih => exact ih _ (by rw [h0])

theorem Pair.landed_nil (p : Pair) (h : p.products = []) : p.landed = p := by
  unfold Pair.landed
  rw [h]
  cases p
  simp_all

theorem Pair.landed_gr (p : Pair) (r : Reg) : p.landed.gr r = p.gr r := by rw [p.landed_frame]; rfl

/-- What the issue of an instruction does to a pair before the instruction's own effect. -/
theorem Pair.issued_frame (p : Pair) (reads : List Reg) :
    p.issued reads = { p with
      cyc := p.cyc + BitVec.ofNat 64 (stallOf p reads), loaded := none, waiting := false, wdog := (p.issued reads).wdog
      wdogSub := (p.issued reads).wdogSub, wdogDue := (p.issued reads).wdogDue, products := (p.issued reads).products
      mh := (p.issued reads).mh, ml := (p.issued reads).ml } := by
  unfold Pair.issued stallOf
  cases h : p.loaded with
  | none => simp only [Bool.false_eq_true, if_false]; rw [p.landed_frame]; simp
  | some r =>
    simp only []
    by_cases hr : reads.contains r
    · rw [if_pos hr, if_pos hr, (p.spend 1).landed_frame]; rfl
    · rw [if_neg hr, if_neg hr, p.landed_frame]; simp

theorem Pair.issued_products_nil (p : Pair) (reads : List Reg) (h : p.products = []) :
    (p.issued reads).products = [] ∧ (p.issued reads).mh = p.mh ∧ (p.issued reads).ml = p.ml := by
  have key : ∀ q : Pair, q.products = [] → q.mh = p.mh → q.ml = p.ml →
      q.landed.products = [] ∧ q.landed.mh = p.mh ∧ q.landed.ml = p.ml := by
    intro q h1 h2 h3
    rw [q.landed_nil h1]
    exact ⟨h1, h2, h3⟩
  refine key (if (match p.loaded with
      | some r => reads.contains r
      | none => false) = true then p.spend 1 else p) ?_ ?_ ?_ <;> cases p.loaded <;> simp only [] <;>
    first | exact h | rfl | (split <;> first | exact h | rfl)

@[simp] theorem Pair.issued_gr (p : Pair) (reads : List Reg) (r : Reg) : (p.issued reads).gr r = p.gr r := by
  rw [p.issued_frame reads]; rfl

/-- An instruction that can issue has its effect on the pair as issued. -/
theorem State.issue_eq (s : State) (c : PairNum) (w : BitVec 14) (takes : Bool) (reads : List Reg) (body : State → State)
    (h : issues s c takes) : s.issue c w takes reads body = body (s.modPair c (fun p => p.issued reads)) := by
  obtain ⟨h1, h2⟩ := h
  have hp : ((s.modPair c (fun p => p.issued reads)).pair c).prn = (s.pair c).prn := by
    rw [State.pair_modPair, (s.pair c).issued_frame reads]
  unfold State.issue
  rw [if_pos h1]
  rcases h2 with h2 | h2
  · simp [h2]
  · simp only [hp, h2]; simp

/-- The same of an instruction whose effect is on the pair alone. -/
theorem State.issueLocal_pair (s : State) (c : PairNum) (w : BitVec 14) (takes : Bool) (reads : List Reg) (f : Pair → Pair)
    (h : issues s c takes) : (s.issueLocal c w takes reads f).pair c = f ((s.pair c).issued reads) := by
  rw [State.issueLocal, State.issue_eq s c w takes reads _ h, State.pair_modPair, State.pair_modPair]

theorem State.issueLocal_only (s : State) (c : PairNum) (w : BitVec 14) (takes : Bool) (reads : List Reg) (f : Pair → Pair)
    (h : issues s c takes) : onlyPair c s (s.issueLocal c w takes reads f) := by
  rw [State.issueLocal, State.issue_eq s c w takes reads _ h]
  exact onlyPair_trans (onlyPair_modPair s c _) (onlyPair_modPair _ c f)

/-- An instruction that writes one register and goes on in line. -/
theorem State.issueLocal_writes (s : State) (c : PairNum) (w : BitVec 14) (takes : Bool) (reads : List Reg) (ra : Reg) (n : Nat)
    (v : Pair → W32) (hv : v ((s.pair c).issued reads) = v (s.pair c)) (h : issues s c takes) :
    writesRegister c ra (v (s.pair c)) reads n s (s.issueLocal c w takes reads (fun p => (p.gw ra (v p)).next n)) := by
  refine ⟨s.issueLocal_only c w takes reads _ h, ?_, ?_, ?_⟩
  · rw [s.issueLocal_pair c w takes reads _ h, Pair.gw_frame, (s.pair c).issued_frame reads]
    refine ⟨rfl, rfl, rfl, rfl, rfl, rfl, rfl, rfl, rfl, rfl, fun _ => rfl, rfl, rfl, rfl, rfl, rfl, rfl, rfl, fun hp => ?_⟩
    have := (s.pair c).issued_products_nil reads hp
    exact this
  · intro r
    rw [s.issueLocal_pair c w takes reads _ h, hv]
    show ((Pair.gw _ _ _).next n).gr r = _
    have hn : ∀ q : Pair, (q.next n).gr r = q.gr r := fun _ => rfl
    rw [hn, Pair.gr_gw, Pair.issued_gr]
  · rw [s.issueLocal_pair c w takes reads _ h, Pair.gw_frame]
    rw [(s.pair c).issued_frame reads]
    refine ⟨rfl, rfl, rfl, ?_, rfl⟩
    show (s.pair c).cyc + BitVec.ofNat 64 (stallOf (s.pair c) reads) + BitVec.ofNat 64 n = _
    rw [BitVec.add_assoc, ← BitVec.ofNat_add, Nat.add_comm]

/-! ### Flags and entries -/

theorem setFlag_getLsbD (fl : W32) (n i : Nat) (v : Bool) (hi : i < 32) :
    (setFlag fl n v).getLsbD i = if i = n then v else fl.getLsbD i := by
  unfold setFlag
  cases v
  · by_cases h : i = n
    · subst h; simp [hi]
    · by_cases h2 : i < n
      · simp [h, hi, h2]
      · have : i - n ≠ 0 := by omega
        simp [h, hi, this]
  · by_cases h : i = n
    · subst h; simp [hi]
    · by_cases h2 : i < n
      · simp [h, hi, h2]
      · have : i - n ≠ 0 := by omega
        simp [h, hi, this]

/-- What an entry does to a pair (R320). -/
theorem Pair.entry_enters (p : Pair) (vec : BitVec 15) (w : BitVec 14) (code detail : Nat) (ret : BitVec 15) (reads : List Reg)
    (q : Pair) (hq : q = p.issued reads) :
    entersVector vec w (BitVec.ofNat 16 (code + 256 * detail)) ret reads p (q.entry vec w code detail ret) := by
  subst hq
  have hf : (p.issued reads).fl = p.fl := by rw [p.issued_frame reads]
  refine ⟨⟨rfl, rfl, rfl, ?_, rfl⟩, ?_, rfl, rfl, rfl, ?_, ?_, ?_, ?_, ?_, ?_, ?_, ?_, ?_, ?_, ?_, ?_⟩
  · rw [p.issued_frame reads]
    show p.cyc + BitVec.ofNat 64 (stallOf p reads) + BitVec.ofNat 64 3 = _
    rw [BitVec.add_assoc, ← BitVec.ofNat_add, Nat.add_comm]
  · exact hf
  · rw [p.issued_frame reads]; rfl
  · show (setFlag (setFlag _ flIE false) flInTrap true).getLsbD flIE = false
    rw [setFlag_getLsbD _ _ _ _ (by decide), if_neg (by decide), setFlag_getLsbD _ _ _ _ (by decide), if_pos rfl]
  · show (setFlag (setFlag _ flIE false) flInTrap true).getLsbD flInTrap = true
    rw [setFlag_getLsbD _ _ _ _ (by decide), if_pos rfl]
  · intro i hi hn
    show (setFlag (setFlag _ flIE false) flInTrap true).getLsbD i = _
    rw [setFlag_getLsbD _ _ _ _ hi, if_neg (by simp_all), setFlag_getLsbD _ _ _ _ hi, if_neg (by simp_all), hf]
  all_goals rw [p.issued_frame reads]; intros; rfl

/-- A synchronous trap outside a trap handler (R320, R322). -/
theorem State.coreTrap_enters (s : State) (c : PairNum) (vec : BitVec 15) (w : BitVec 14) (code detail : Nat) (ret : BitVec 15)
    (h : (s.pair c).fl.getLsbD flInTrap = false) :
    s.coreTrap c vec w code detail ret = s.modPair c (fun p => p.entry vec w code detail ret) := by
  rw [State.coreTrap, if_neg (by rw [h]; exact Bool.false_ne_true)]

/-- A reserved encoding at issue, outside a trap handler and in one (R313, R322). -/
theorem State.issued_trap (s : State) (c : PairNum) (vec : BitVec 15) (w : BitVec 14) (code detail : Nat) (reads : List Reg) :
    ((s.pair c).fl.getLsbD flInTrap = false →
      onlyPair c s ((s.modPair c (fun p => p.issued reads)).coreTrap c vec w code detail (s.pair c).pc) ∧
      entersVector vec w (BitVec.ofNat 16 (code + 256 * detail)) (s.pair c).pc reads (s.pair c)
        (((s.modPair c (fun p => p.issued reads)).coreTrap c vec w code detail (s.pair c).pc).pair c)) ∧
    ((s.pair c).fl.getLsbD flInTrap = true →
      (s.modPair c (fun p => p.issued reads)).coreTrap c vec w code detail (s.pair c).pc =
        ((s.modPair c (fun p => p.issued reads)).failPair c .doubleTrap).settle) := by
  have hf : ((s.modPair c (fun p => p.issued reads)).pair c).fl = (s.pair c).fl := by
    rw [State.pair_modPair, (s.pair c).issued_frame reads]
  refine ⟨fun h => ?_, fun h => ?_⟩
  · rw [State.coreTrap_enters _ _ _ _ _ _ _ (by rw [hf]; exact h)]
    refine ⟨onlyPair_trans (onlyPair_modPair s c _) (onlyPair_modPair _ c _), ?_⟩
    rw [State.pair_modPair, State.pair_modPair]
    exact Pair.entry_enters _ _ _ _ _ _ _ _ rfl
  · rw [State.coreTrap, if_pos (by rw [hf]; exact h)]

end Sys2Proof.Machine
end

