-- ==== Sys2Proof/Tests/Slice0.lean ====
section
/-! SUPPORT. Tests/Slice0.lean: the model's own tests, and for every statement of Certificates/Slice0 a state and operands that meet its
hypotheses. Expected values are the manual's worked examples or hand calculation from its rules. -/

namespace Sys2Proof.Tests

set_option Elab.async false

open Sys2Proof Sys2Proof.Machine

/-! ### Ill-formed operands are refused -/

theorem test_wf_write_offset : (Instr.registerWrite (.mem (.pf 0) 2 [some 0, some 0, some 0, some 0])).wf = false := by decide
theorem test_wf_write_outside : (Instr.registerWrite (.mem (.vf 0) 65536 [some 0, some 0, some 0, some 0])).wf = false := by decide
theorem test_wf_num_vfs : (Instr.registerWrite (.cfg (.pf 0) (.numVfs 2049))).wf = false := by decide
theorem test_wf_payload_size : (Instr.registerWrite (.cfg (.pf 0) (.maxPayload 100))).wf = false := by decide
theorem test_wf_read_size : (Instr.registerWrite (.cfg (.pf 0) (.maxReadRequest 100))).wf = false := by decide
theorem test_wf_misaligned_read : (Instr.misalignedRead (.pf 0) 2 [true, false, false, false]).wf = false := by decide
theorem test_wf_dmwr : (Instr.dmwrMbxSend (.pf 0) 0x20040 []).wf = false := by decide
theorem test_wf_unmask : (Instr.msixUnmask (.vf 0) (some 16)).wf = false := by decide
theorem test_wf_push : (Instr.buoyPush 0 0 0 []).wf = false := by decide
theorem test_wf_group : (Instr.stepGroupReadComplete 0 0 (.ok [])).wf = false := by decide
theorem test_wf_window : (Instr.imbalanceWindow []).wf = false := by decide
theorem test_wf_poll : (Instr.cmisMonitorPoll 0 0 []).wf = false := by decide
theorem test_wf_cost : (Instr.frameDiscarded 0 ⟨0, false⟩).wf = false := by decide
theorem test_wf_selftest_pair : (Instr.pairSelftestComplete 40 true).wf = false := by decide
theorem test_wf_rotating : (Instr.rotatingTestStart (.lampPair 40)).wf = false := by decide
theorem test_wf_source : (Instr.sourceFire 1 288).wf = false := by decide
theorem test_wf_good : (Instr.sourceFire 0 1023).wf = true ∧ (Instr.registerWrite (.mem (.pf 0) 4 [some 0, none, none, none])).wf = true := by decide
theorem test_wf_frame : (Frame.mk 6 1 0 0 0 0 2 0 0 0 0 [] 0 [] 0).wf = false := by decide
theorem test_wf_frames (d : DPort) (f : Frame) (h : f.wf = false) : (Instr.hello d f).wf = false ∧ (Instr.echo d f).wf = false ∧
    (Instr.credit d f).wf = false ∧ (Instr.data d f).wf = false ∧ (Instr.dataReq d f).wf = false ∧ (Instr.status d f).wf = false ∧
    (Instr.abortAck d f).wf = false ∧ (Instr.resend d f).wf = false ∧ (Instr.working d f).wf = false ∧ (Instr.free d f).wf = false := by
  simp [Instr.wf, h]

/-! ### Words of the Hild-14, field by field (R308, R309, R311) -/

/-- Major 0x04, ra 3, rb 5: X = 0 ADD, X = 1 SUB. -/
theorem test_decode_alu : decodeCore 0 0b00100001101010#14 = some (.add 0 3 5) ∧ decodeCore 0 0b00100001101011#14 = some (.sub 0 3 5) := by decide
/-- Major 0x03 and 0x02, RA 1, IMM5 −1 (R308 format I). -/
theorem test_decode_imm : decodeCore 0 0b00011000111111#14 = some (.addi 0 1 31) ∧ decodeCore 0 0b00010000111111#14 = some (.movi 0 1 31) := by decide
/-- The two words worked bit by bit in the manual: 0x2BBA is B AL, −6; 0x300A is CRCB G5. -/
theorem test_decode_worked : decodeCore 0 0x2BBA#14 = some (.b 0 6 0x3A) ∧ decodeCore 0 0x300A#14 = some (.crcb 0 0 5) := by decide
/-- Words of the manual's CRC routine. -/
theorem test_decode_routine : decodeCore 0 0x0305#14 = some (.pfx 0 0x105) ∧ decodeCore 0 0x2885#14 = some (.wrs 0 4 5) ∧
    decodeCore 0 0x1840#14 = some (.cmpi 0 2 0) ∧ decodeCore 0 0x20A3#14 = some (.ldb 0 5 1) ∧ decodeCore 0 0x2664#14 = some (.rds 0 3 4) ∧
    decodeCore 0 0x0C68#14 = some (.xor 0 3 4) ∧ decodeCore 0 0x2E1E#14 = some (.jalr 0 0 15) := by decide
/-- SYS SUB 2 is TRAP with its operand; EVT OP 1 is DONE; MBX OP 2 is MSTAT; major 0x1B X = 1 is IOW; major 0x1C is reserved. -/
theorem test_decode_system : decodeCore 0 0b00000001000111#14 = some (.trap 0 7) ∧ decodeCore 0 0b11001010000001#14 = some (.evtDone 0 4) ∧
    decodeCore 0 0b11010010000010#14 = some (.mstat 0 4) ∧ decodeCore 0 0b11011001000111#14 = some (.iow 0 2 3) ∧
    decodeCore 0 0b11100000000000#14 = none := by decide

/-! ### Hild-14 pairs -/

/-- Lamp pair 0 runs with what `p` holds. -/
def core (p : Pair) : State := { cores := { pairs := [(0, { p with running := true })] } }

/-- What a command leaves. -/
def after (i : Instr) (s : State) : State :=
  match exec i s with
  | .next t => t
  | _ => s

theorem test_sub_wraps : ((after (.sub 0 1 2) (core { g := [(1, 1), (2, 3)] })).pair 0).gr 1 = 0xFFFFFFFE := by decide
theorem test_g0_discards : ((after (.addi 0 0 5) (core {})).pair 0).gr 0 = 0 := by decide
theorem test_sar_sign : ((after (.sar 0 1 2) (core { g := [(1, 0x80000000), (2, 36)] })).pair 0).gr 1 = 0xF8000000 := by decide
theorem test_ror : ((after (.ror 0 1 1) (core { g := [(1, 0x00000001)] })).pair 0).gr 1 = 0x80000000 := by decide
/-- Three prefixes and an IMM5 make any 32-bit value: PFX 0x105, 0x1D8, 0x1DB, MOVI 0x18 give 0x82F63B78 (the manual's routine). -/
theorem test_movi_prefixed : ((after (.movi 0 4 0x18) (core { pr := 0b100000101111011000111011011#27, prn := 3 })).pair 0).gr 4 = 0x82F63B78 := by decide
theorem test_cmp_flags : ((after (.cmp 0 1 2) (core { g := [(1, 0x80000000), (2, 1)] })).pair 0).fl = 8 := by decide
theorem test_branch_worked : ((after (.b 0 6 0x3A) (core { pc := 0x110 })).pair 0).pc = 0x10A := by decide
theorem test_stw_sth : (((after (.sth 0 1 2) (core { g := [(1, 0x1234ABCD), (2, 0x10)] })).pair 0).dmem = [(16, 0xCD), (17, 0xAB)]) := by decide

theorem test_hyp_coreRegisterResults : issues (core {}) 0 false ∧ issues (core { pr := 1, prn := 1 }) 0 true := by
  unfold issues; decide
theorem test_hyp_parity : issues (core { g := [(2, 0x80000001)] }) 0 false := by unfold issues; decide
theorem test_hyp_prefixed : ((core { pr := 0x7FFFFFF, prn := 2 }).coreReady 0 = true ∧ ((core { pr := 0x7FFFFFF, prn := 2 }).pair 0).prn < 3) ∧
    (({ pr := (0x1FF#9).setWidth 27, prn := 1 } : Pair).pr = (0x1FF#9).setWidth 27) ∧ ({ prn := 3, pr := 0x7FFFFFF } : Pair).prn = 3 := by decide
theorem test_hyp_compareFlags : issues (core { g := [(1, 0x7FFFFFFF), (2, 0xFFFFFFFF)] }) 0 false ∧ issues (core { prn := 3 }) 0 true := by
  unfold issues; decide
theorem test_hyp_branches : issues (core { pc := 0x7FFF, fl := 0x1F }) 0 true ∧ issues (core { pc := 0x7FFF }) 0 false ∧
    (let f := ((core { fl := 0x1D }).pair 0).fl
     f.getLsbD flZ = true ∧ f.getLsbD flN ≠ f.getLsbD flV ∧ f.getLsbD flC = true ∧ f.getLsbD flEarly = true) ∧
    (let f := ((core {}).pair 0).fl
     f.getLsbD flZ = false ∧ f.getLsbD flN = f.getLsbD flV ∧ f.getLsbD flC = false ∧ f.getLsbD flEarly = false) := by unfold issues; decide
theorem test_hyp_multiplier : issues (core { g := [(1, 0xFFFFFFFF)] }) 0 false ∧
    (let p := (core { products := [(2, 7)], cyc := 3 }).pair 0
     p.running = true ∧ p.products = [(2, 7)] ∧ 2 < p.cyc.toNat) := by unfold issues; decide
theorem test_hyp_loads : (let s := core { g := [(2, 0xFFFC)] }
     let p := s.pair 0
     let a := (p.gr 2 + BitVec.ofNat 32 p.pr.toNat).toNat % 65536
     issues s 0 true ∧ a = 65532 ∧ a % 4 = 0 ∧ a % 2 = 0) ∧
    (let s := core { g := [(2, 0xFFFF)] }
     let p := s.pair 0
     let a := (p.gr 2 + BitVec.ofNat 32 p.pr.toNat).toNat % 65536
     a % 4 ≠ 0 ∧ a % 2 ≠ 0 ∧ canTrap s 0) := by unfold issues canTrap; decide
theorem test_hyp_stores : (let s := core { g := [(2, 0x1FFFC)], pr := 4, prn := 1 }
     let p := s.pair 0
     let a := (p.gr 2 + BitVec.ofNat 32 p.pr.toNat).toNat % 65536
     issues s 0 true ∧ a = 0 ∧ a % 4 = 0 ∧ a % 2 = 0) ∧
    (let s := core { g := [(2, 1)] }
     let p := s.pair 0
     let a := (p.gr 2 + BitVec.ofNat 32 p.pr.toNat).toNat % 65536
     a % 4 ≠ 0 ∧ a % 2 ≠ 0 ∧ canTrap s 0) := by unfold issues canTrap; decide
theorem test_hyp_crc : (issues (core { cm := 0x20, cp := 0x82F63B78 }) 0 false ∧ ((core { cm := 0x20 }).pair 0).cm.toNat % 32 = 0) ∧
    (issues (core { cm := 8, cp := 7 }) 0 false ∧ 8 ≤ ((core { cm := 8 }).pair 0).cm.toNat % 32) := by unfold issues; decide
theorem test_hyp_system : issues (core { fl := 0x40 }) 0 false ∧ (issues (core {}) 0 false ∧ ((core {}).pair 0).fl.getLsbD flInTrap = false) := by
  unfold issues; decide
theorem test_hyp_specials : (issues (core {}) 0 false ∧ (((core {}).pair 0).issued []).products = [] ∧ (((core {}).pair 0).issued [1]).products = []) ∧
    (let s := core { products := [(2, 7)], g := [(1, 0x000000FF)] }
     issues s 0 false ∧ ((s.pair 0).issued []).products ≠ [] ∧ ((s.pair 0).issued [1]).products ≠ [] ∧ ((s.pair 0).gr 1).setWidth 24 ≠ (0 : BitVec 24)) := by
  unfold issues; decide
theorem test_hyp_reserved : (let s := core {}
     s.coreReady 0 = true ∧ (s.pair 0).fl.getLsbD flInTrap = false ∧ decodeCore 0 0x3FFF#14 = none ∧ (s.pair 0).prn = 0 ∧
       0x15 ≤ (0x15 : BitVec 5).toNat ∧ (1 : BitVec 5).toNat ∉ [0x00, 0x02, 0x03, 0x04, 0x05, 0x06, 0x08, 0x09, 0x13] ∧ (1 : Reg) ≠ 0) ∧
    (let s := core { fl := 0x40, prn := 3, cm := 7 }
     s.coreReady 0 = true ∧ (s.pair 0).fl.getLsbD flInTrap = true ∧ (s.pair 0).prn ≠ 0 ∧ 3 ≤ (s.pair 0).prn) ∧
    (let p := (core { cm := 7 }).pair 0
     1 ≤ p.cm.toNat % 32 ∧ p.cm.toNat % 32 ≤ 7 ∧ p.prn = 0) := by decide
theorem test_hyp_entries : (let s := { core { fl := 0x20 } with evus := [(1, { pend := [(24, true)], unmasked := [(24, true)] })] }
     (s.pair 0).running = true ∧ (s.pair 0).prn = 0 ∧ (s.pair 0).fl.getLsbD flInTrap = false ∧ (s.pair 0).fl.getLsbD flIE = true ∧ s.eventInput 0 = true) ∧
    (let s := core { wdogDue := true }
     (s.pair 0).running = true ∧ (s.pair 0).prn = 0 ∧ (s.pair 0).fl.getLsbD flInTrap = false ∧ (s.pair 0).wdogDue = true ∧ (s.pair 0).wdogHits = 0) := by decide


/-! ### Event units, mailboxes, IO, failures -/

/-- Pair 0 runs and source 24 of its unit is pending and unmasked. -/
def claimable : State := { core { g := [(1, 24)] } with evus := [(1, { pend := [(24, true)], unmasked := [(24, true)] })] }

theorem eligible_of_claimable (m : Nat) (h : eligibleFor claimable 0 m) : m = 24 := by
  have hp : (claimable.evu (pairUnit 0)).isPend m = (if 24 = m then some true else none).getD false := rfl
  have h1 := h.1
  rw [hp] at h1
  split at h1
  · omega
  · cases h1

theorem test_claim_takes : ((after (.evtClaim 0 3) claimable).pair 0).gr 3 = 24 := by decide
theorem test_claim_empty : ((after (.evtClaim 0 3) (core {})).pair 0).evcur = 0x3FF := by decide

theorem test_hyp_claim : issues claimable 0 false ∧ tWf (claimable.evu (pairUnit 0)).pend = true ∧ eligibleFor claimable 0 24 ∧
    (∀ m, eligibleFor claimable 0 m → (claimable.evu 1).prio 1 24 < (claimable.evu 1).prio 1 m ∨
      ((claimable.evu 1).prio 1 24 = (claimable.evu 1).prio 1 m ∧ 24 ≤ m)) := by
  refine ⟨by unfold issues; decide, by decide, by unfold eligibleFor; decide, fun m h => ?_⟩
  rw [eligible_of_claimable m h]; exact .inr ⟨rfl, Nat.le_refl _⟩
theorem test_hyp_claim_none : issues (core {}) 0 false ∧ tWf ((core {}).evu (pairUnit 0)).pend = true ∧ (∀ m, ¬eligibleFor (core {}) 0 m) := by
  refine ⟨by unfold issues; decide, by decide, fun m h => ?_⟩
  have h1 := h.1
  rw [show ((core {}).evu (pairUnit 0)).isPend m = false from rfl] at h1
  cases h1
theorem test_hyp_done : (let s : State := { core { g := [(1, 24)] } with evus := [(1, { act := [(24, true)] })] }
     issues s 0 false ∧ tWf (s.evu (pairUnit 0)).pend = true ∧ (s.evu 1).isAct ((s.pair 0).gr 1).toNat = true) ∧
    (let s := core { g := [(1, 0x3FF)] }
     (s.evu 1).isAct ((s.pair 0).gr 1).toNat = false ∧ ((s.pair 0).gr 1).toNat = 0x3FF) ∧
    (let s := core { g := [(1, 0x400)] }
     (s.evu 1).isAct ((s.pair 0).gr 1).toNat = false ∧ ((s.pair 0).gr 1).toNat ≠ 0x3FF) := by unfold issues; decide

/-- Lamp pair 0 serves slot 0; mailbox 32 is its own. G1 names mailbox 32 and the buffer at 0x100. -/
def boxed (m : Mbx) (h1 : Byte) : State :=
  { core { g := [(1, 0x01000020)], slot := some 0, dmem := [(0x101, h1)] } with boxes := [(32, m)] }

theorem test_msend : ((after (.msend 0 1) (boxed {} 64)).mbx 32).toT = [(0x4000, List.replicate 64 0)] := by decide

theorem test_hyp_mailboxInstructions : (let s := boxed {} 64
     let p := s.pair 0
     let r := p.gr 1
     let byte := fun (i : Nat) => p.dmem.read ((r.toNat / 65536 + i) % 65536)
     let hdr : W32 := byte 3 ++ byte 2 ++ byte 1 ++ byte 0
     issues s 0 false ∧ r.toNat % 64 = 32 ∧ s.mayBox 0 32 = true ∧ r.toNat / 65536 % 4 = 0 ∧ hdr.toNat / 256 % 128 ≤ 64 ∧ (s.mbx 32).toT.length < 4 ∧
       (s.mbx 32).fromT = []) ∧
    (let s := boxed { toT := List.replicate 4 (0, []) } 0
     issues s 0 false ∧ s.mayBox 0 32 = true ∧ (s.mbx 32).toT.length ≥ 4 ∧ (s.pair 0).fl.getLsbD flInTrap = false) ∧
    (let s := boxed { fromT := [(5, List.replicate 64 7)] } 0
     issues s 0 false ∧ s.mayBox 0 32 = true ∧ (s.mbx 32).fromT = [(5, List.replicate 64 7)] ∧ (List.replicate 64 (7 : Byte)).length = 64) := by
  unfold issues; decide

theorem test_hyp_io : (let s := core { g := [(2, 0x00010000)] }
     issues s 0 true ∧ (s.pair 0).fl.getLsbD flInTrap = false) := by unfold issues; decide

theorem test_hyp_pairFailure : (((core {}).pair 0).running = true ∧ (1 : W64) ≠ 2) ∧
    (let s : State := { cores := { pairs := [(40, { running := true })] } }
     (s.pair 40).running = true ∧ (40 : PairNum) = tender) ∧
    (let s : State := { cores := { pairs := [(0, { testing := true })] }, power := { domains := [(48, { on := true })] } }
     (s.pair 0).testing = true ∧ (s.pair 0).retired = false ∧ s.pairPowered 0 = true ∧ (0 : PairNum) ≠ tender) ∧
    (let s : State := { fw := { hub := true, booted := true } }
     s.tenderDown = true) ∧
    (let s : State := { cores := { pairs := [(40, { running := true })] }, fw := { hub := true } }
     (s.pair tender).running = true ∧ s.cores.tenderUp = false ∧ s.fw.hub = true) := by decide

theorem test_hyp_coreDecodeEncode : ((0x14 : BitVec 5).toNat < 0x15) ∧ (0x13 : BitVec 5).toNat ∈ [0x00, 0x02, 0x03, 0x04, 0x05, 0x06, 0x08, 0x09, 0x13] ∧
    decodeCore 0 0x3000#14 = some (.crcb 0 0 0) := by decide

theorem test_reset_canonical : canonical State.reset := by
  refine ⟨fun c => ?_, fun u => ?_⟩
  · rw [show State.reset.pair c = {} from rfl]; decide
  · rw [show State.reset.evu u = {} from rfl]; decide
theorem test_hyp_canonicalStep : step { core {} with pending := [.addi 0 1 5] } = .next (after (.addi 0 1 5) (core {})) := rfl

theorem test_hyp_eventUnits : sourceReal 0 161 = true ∧ sourceReal 0 1023 = false ∧ sourceReal 1 251 = true := by decide
/-- The hub is clocked, and its event unit is `e`. -/
def lines (e : Evu) : State := { clk := { running := true }, evus := [(0, e)] }
theorem test_hyp_sources : sourceReal 1 251 = true ∧ ({ power := { domains := [(48, { on := true })] } } : State).evuOn 1 = true ∧
    ({} : State).evuOn 1 = false ∧ sourceExternal 0 195 = true ∧ (lines {}).clk.running = true ∧
    tfind ((lines {}).evu 0).level 195 = none ∧ tfind ((lines { level := [(195, true)] }).evu 0).level 195 = some true ∧
    tget 0 ((lines { tgt := [(195, 0x20400)] }).evu 0).shown 195 + 1 < ((lines { tgt := [(195, 0x20400)] }).evu 0).filt 0 195 ∧
    ((lines {}).evu 0).filt 0 195 ≤ tget 0 ((lines {}).evu 0).shown 195 + 1 := by decide
theorem test_line_filter : ((after (.externalLineEdge 195 false) (lines { level := [(195, true)], tgt := [(195, 0x21400)] })).evu 0).level = [(195, true)] ∧
    ((after (.externalLineEdge 195 false) (lines { level := [(195, true)], shown := [(195, 1)], tgt := [(195, 0x21400)] })).evu 0).isPend 195 = true := by decide

/-! ### Timers -/

/-- Bank 0 has power and its channel 3 is `c`. -/
def timer (c : Chan) : State := { power := { domains := [(60, { on := true })] }, banks := [(0, { chans := [(3, c)] })] }

theorem test_cmp_passed : ((after (.tmrCmpCommit 0 3 0) (timer { cnt := 5, cmpLo := some 5 })).chan 0 3).passed = true := by decide
theorem test_cmp_ahead : ((after (.tmrCmpCommit 0 3 0) (timer { cnt := 5, cmpLo := some 6 })).chan 0 3).passed = false := by decide

theorem test_hyp_timerCommits : (let s := timer {}
     s.bankOn 0 = true ∧ (s.chan 0 3).resetDue = false ∧ (s.chan 0 3).catchup = none ∧ (s.chan 0 3).capDue = false ∧ (s.chan 0 3).equal = false ∧
       (s.chan 0 3).late = false) ∧
    (let s := timer { equal := true }
     (s.chan 0 3).resetDue = false ∧ (s.chan 0 3).catchup = none ∧ (s.chan 0 3).capDue = false ∧ (s.chan 0 3).equal = true ∧ (s.chan 0 3).act = 0) := by decide
theorem test_hyp_timerEvents : ((timer { equal := true, act := 1 }).chan 0 3).equal = true ∧ ((timer { act := 1 }).chan 0 3).act.getLsbD 0 = true ∧
    (let c := (timer { late := true, cnt := 7, ivl := 1 }).chan 0 3
     c.equal = false ∧ c.late = true ∧ c.ivl ≠ 0) ∧
    ((timer { catchup := some (0, 9, 2) }).chan 0 3).catchup = some (0, 9, 2) ∧ ((timer { capDue := true, act := 2 }).chan 0 3).capDue = true ∧
    ((timer { act := 2 }).chan 0 3).act.getLsbD 1 = true ∧ ((timer { resetDue := true }).chan 0 3).resetDue = true := by decide

/-! ### Host ports and functions -/

/-- A host port with its link up, its PF enabled, one VF and the order ring `o`. -/
def hostUp (o : OrderRing) : HostPort :=
  { perst := false, link := true, numVfs := 1, vfEn := true, oq := o, pf := { mse := true, bme := true, msixEn := true } }

/-- Host port 0 up, tenant 0 enabled with 64 KiB at 0x1000, the module ready and a Light List loaded. -/
def up (o : OrderRing) : State :=
  { hosts := [(0, hostUp o)], vfs := [(0, { mse := true, bme := true, msixEn := true })]
    queues := { tenants := [(0, { binding := some ⟨none, [⟨0x1000, 0x10FFF⟩], 0x100000, 4096, 0, 0⟩ })] }
    power := { mode := .run, domains := (List.range 62).map (fun n => (n, { on := true })) }
    list := { loaded := true }, data := { inService := true }, cores := { tenderUp := true }
    clk := { now := 1000000000, dies := [(0, 0), (1, 0), (2, 0), (3, 0)] }
    fw := { rails := true, hub := true, booted := true, hbm := true, ready := true, links := [(0, true), (1, true), (2, true), (3, true)] } }

theorem test_misaligned : (after (.misalignedRead (.pf 0) 4 [false, true, true, false]) (up {})).out = [.completerAbort (.pf 0)] := by decide

theorem test_hyp_registerReads : (up {}).reachable (.pf 0) = true ∧ (up {}).reachable (.pf 1) = false ∧ (up {}).reachable (.vf 0) = true := by decide
theorem test_hyp_registerWrites : (up {}).reachable (.pf 0) = true ∧ ((up {}).oq 0).en = false ∧
    (let s : State := { hosts := [(0, { hostUp {} with vfEn := false })] }
     s.reachable (.pf 0) = true ∧ (s.host 0).vfEn = false) := by decide
theorem test_hyp_hostMailboxes : (up {}).reachable (.pf 0) = true ∧ (0x4000#32).getLsbD 15 = false ∧ ((up {}).mbx 0).toT.length < 4 ∧
    (0x4000#32).toNat / 256 % 128 ≤ 64 ∧ 64 < (0x4100#32).toNat / 256 % 128 ∧ (0x4100#32).getLsbD 15 = false ∧
    (let s : State := { up {} with boxes := [(0, { toT := List.replicate 4 (0, []), fromT := [(0, [])] })] }
     s.reachable (.pf 0) = true ∧ 4 ≤ (s.mbx 0).toT.length ∧ (s.mbx 0).fromT = [(0, [])]) := by decide

/-- The same with what is given of the PF, the VF and the host port. -/
def upFn (f : HostPort → HostPort) (v : FnState) : State := { up {} with hosts := [(0, f (hostUp {}))], vfs := [(0, v)] }

theorem test_hyp_functionStates : ((up {}).fnLive (.pf 0) = true ∧ ((up {}).fn (.pf 0)).d3 = false) ∧
    (let s := upFn (fun h => { h with pf := { d3 := true } }) { d3 := true }
     s.fnLive (.pf 0) = true ∧ (s.fn (.pf 0)).d3 = true ∧ s.fnLive (.vf 0) = true ∧ (s.fn (.vf 0)).d3 = true) ∧
    (let s := upFn (fun h => { h with aspmL11 := true, txIdle := 999998437 }) {}
     (s.host 0).alive = true ∧ (s.host 0).l1 = .l0 ∧ (s.host 0).txIdle + 1563 ≤ s.clk.now ∧ (s.host 0).aspmL11 = true) ∧
    (let s := upFn (fun h => { h with aspmL1 := true }) {}
     (s.host 0).alive = true ∧ (s.host 0).l1 = .l0 ∧ (s.host 0).txIdle + 1563 ≤ s.clk.now ∧ (s.host 0).aspmL11 = false ∧ (s.host 0).aspmL1 = true) ∧
    (((up {}).host 0).perst = false ∧ (up {}).domOn 58 = true ∧ ((up {}).host 0).link = true ∧
      { (up {}).keeper with wakeUntil := some 5 }.wakeUntil.isSome = true) ∧
    (let s := upFn id { mse := true, bme := true, msixEn := true, pba := 0x8000, msix := [(15, { addr := 0x100, masked := true })] }
     let f := s.fn (.vf 0)
     s.fnLive (.vf 0) = true ∧ (15 : Fin 64).val < fnVectors (.vf 0) ∧ f.d3 = false ∧ f.msixEn = true ∧ f.fmask = false ∧ f.bme = true ∧
       f.pba.getLsbD (15 : Fin 64).val = true ∧ f.pba.getLsbD (0 : Fin 64).val = false) := by decide
theorem test_hyp_functionResets : ((up {}).fnLive (.vf 0) = true ∧ ((up {}).tenant 0).flrDrain = none ∧ (up {}).fnLive (.pf 0) = true ∧
      ((up {}).host 0).perst = false ∧ (({} : State).host 0).perst = true) ∧
    (let s : State := { up {} with queues := { tenants := [(0, { flrDrain := some 1000000000, stopped := true })] } }
     (s.tenant 0).flrDrain = some 1000000000 ∧ 1000000000 ≤ s.clk.now) ∧
    (let s : State := { up {} with orders := { sleeping := true } }
     s.orders.sleeping = true ∧ (up {}).orders.sleeping = false) := by decide
theorem test_hyp_timeouts : (let s := upFn (fun h => { h with reads := [⟨.group 0 0, 1000000000, 1⟩] }) {}
     s.timedOut 0 (.group 0 0) = true) := by decide

/-! ### Work queues -/

/-- `up` with tenant 0's queues 0, subchannel 5 with one path, and an outstanding read of the submission queue. -/
def queued (k : Sq) (c : Cq) : State :=
  let s := up {}
  { s with
    queues := { s.queues with sqs := [(0, k)], cqs := [(0, c)] }
    hosts := [(0, { hostUp {} with reads := [⟨.entry 0 0, 2000000000, 1⟩] })]
    list := { s.list with groups := [(0, { cu := 0, paths := [⟨0, 1⟩] })] }
    prog := { subs := [(5, { named := true, enable := true })] } }
def sq0 : Sq := { base := 0x1000, depth := 4, cq := 0, cls := 0 }
def cq0 : Cq := { base := 0x2000, depth := 4, interval := 0, threshold := 0 }
/-- A start of subchannel 5 at 0x3000 with MARK 1 (R112). -/
def entry5 : Bytes := [1, 1, 0, 0, 5, 0, 0, 0, 0, 0x30, 0, 0, 0, 0, 0, 0] ++ List.replicate 8 7 ++ [1] ++ List.replicate 39 0

theorem test_doorbell_moves : ((after (.sqDoorbell 0 0 3) (queued sq0 cq0)).sq? 0 0).map (·.tail) = some 3 := by decide
theorem test_doorbell_full : ((after (.sqDoorbell 0 0 3) (queued { sq0 with outst := 1 } cq0)).sq? 0 0).map (·.tail) = some 0 := by decide
theorem test_entry_handed : ((after (.entryFetchComplete 0 0 (.ok entry5) []) (queued { sq0 with tail := 1, reading := some (0, 1) } cq0)).sub 5).starts.map (·.program)
    = [0x3000] := by decide

theorem test_hyp_doorbells : (let s := queued sq0 cq0
     s.reachable (.vf 0) = true ∧ s.foggy = false ∧ (3#32).toNat < 65536 ∧ s.sq? 0 0 = some sq0 ∧ sq0.resetting = false ∧ sq0.fenced = false ∧
       (3#32).toNat < sq0.depth ∧ sq0.outst + (3 + sq0.depth - sq0.tail % sq0.depth) % sq0.depth ≤ sq0.depth - 1 ∧ sq0.depth ≤ (4#32).toNat ∧ s.sq? 0 1 = none ∧
       s.cq? 0 0 = some cq0 ∧ cq0.tail - cq0.head < (1 + cq0.depth - cq0.head % cq0.depth) % cq0.depth) ∧
    (let k := { sq0 with outst := 1 }
     (queued k cq0).sq? 0 0 = some k ∧ k.depth - 1 < k.outst + (3 + k.depth - k.tail % k.depth) % k.depth) ∧
    (let c := { cq0 with tail := 3 }
     (queued sq0 c).cq? 0 0 = some c ∧ (3 + c.depth - c.head % c.depth) % c.depth ≤ c.tail - c.head) ∧
    (entry5.length = 64 ∧ sq0.buoy ≠ 0 ∧ sq0.tail % sq0.depth % 4 = (0 : Fin 4).val ∧ sq0.outst + 1 ≤ sq0.depth - 1 ∧
      sq0.tail % sq0.depth % 4 ≠ (1 : Fin 4).val ∧ { sq0 with buoy := 0 }.buoy = 0) := by decide
theorem test_hyp_arbitration : (let k := { sq0 with tail := 1 }
     let s := queued k cq0
     tWf s.queues.sqs = true ∧ (∀ x ∈ s.queues.sqs, x.1 < 32768) ∧ s.winner = some 0 ∧ s.queues.arb.grant = none ∧ tfind s.queues.sqs 0 = some k ∧
       tfind k.copies k.fetch = none) ∧
    (queued sq0 cq0).winner = none := by decide
theorem test_hyp_entryFetch : (let k := { sq0 with tail := 1, reading := some (0, 1) }
     let s := queued k cq0
     s.sq? 0 0 = some k ∧ s.cq? 0 k.cq = some cq0 ∧ k.reading = some (k.fetch, 1) ∧ s.readOpen (hostOf 0) (.entry 0 0) = true ∧ k.resetting = false ∧
       k.fenced = false ∧ (s.tenant 0).stopped = false ∧ entry5.length = 64 ∧ entryMark entry5 = passBit k.depth k.fetch ∧ k.fetch < k.tail ∧
       0 < cq0.free ∧ entryBat entry5 = 0 ∧ k.pushed.contains k.fetch = false ∧
       s.entryCheck 0 entry5 false none ((k.batches.find? (fun b => !b.closed)).map (·.count)) = 0 ∧
       entryMark (List.replicate 64 0) ≠ passBit k.depth k.fetch ∧ k.markWait = none) ∧
    (let k := { sq0 with tail := 1, markWait := some (999843750, 999843910) }
     let s := queued k cq0
     s.sq? 0 0 = some k ∧ k.markWait.isSome = true ∧ s.queues.arb.grant = none ∧ s.eligible 0 0 = true ∧ tfind k.copies k.fetch = none ∧
       k.markWait = some (999843750, 999843910) ∧ 999843750 + 156250 ≤ s.clk.now ∧ k.reading = none ∧ s.mayServe 0 k = true ∧ 0 < cq0.free ∧
       cq0.fenced = false ∧ k.batches.all (·.closed) = true) := by decide
theorem test_hyp_completionTimers : (let w : WaitingCpl := ⟨{ sq := 0, entry := 0, sc := 5, code := 8, detail := 0, count := 0 }, 0, 0, 1, 0⟩
     let c := { cq0 with waiting := [w] }
     let s := queued sq0 c
     s.cq? 0 0 = some c ∧ c.waiting = [w] ∧ 0 < c.free ∧ s.vfMaster 0 = true ∧ s.journalRoom 0 = true ∧ s.safe = false ∧ s.side.pinsTaken = false ∧
       c.fenced = false) ∧
    (let c := { cq0 with expiry := some 1000000000 }
     let s := queued sq0 c
     s.cq? 0 0 = some c ∧ c.expiry = some 1000000000 ∧ 1000000000 ≤ s.clk.now ∧ s.fnLive (.vf 0) = true ∧ (s.fn (.vf 0)).pba.getLsbD 0 = false ∧
       s.mayVector (.vf 0) = true) ∧
    (let s := upFn id { mse := true, bme := true, msixEn := true, msix := [(0, { masked := false })] }
     (tget {} (s.fn (.vf 0)).msix 0).masked = false) ∧
    ((up {}).host 0).held.length < 16777216 := by decide

/-! ### Orders -/

/-- An order packet: opcode, and its parameter bytes by offset (R369). -/
def packet (opc : Byte) (l : Table Byte) : Bytes := (List.range 128).map (fun i => if i = 1 then opc else tget 0 l i)
/-- The order `b` stands at the head of ring 0 of `up`. -/
def ordered (b : Bytes) : State := up { en := true, dlog := 2, tail := 1, fetch := 1, slots := [(0, .packet b)] }
/-- The order `b` of ring 0 is under way in stage `g`. -/
def working (b : Bytes) (g : Stage) : State :=
  up { en := true, dlog := 2, tail := 1, fetch := 1, slots := [(0, .packet b)], active := some { opc := byteAt b 1, packet := b, index := 0, stage := g } }

theorem test_nop_echo : ((after (.nopEcho 0) (ordered (packet 0x7F [(0x10, 0xAB)]))).oq 0).head = 1 := by decide
theorem test_create_cq : ((after (.createQueueCq 0) (ordered (packet 5 [(0x12, 1), (0x13, 2), (0x14, 8), (0x19, 0x10), (0x22, 1)]))).cq? 0 2).map (·.depth)
    = some 8 := by decide +kernel

theorem test_hyp_orderRings : (let s := up { en := true, dlog := 2 }
     s.reachable (.pf 0) = true ∧ (3#32).toNat < 65536 ∧ (s.oq 0).en = true ∧ (3#32).toNat < (s.oq 0).size ∧
       (s.oq 0).tail - (s.oq 0).head + (3 + (s.oq 0).size - (s.oq 0).tail % (s.oq 0).size) % (s.oq 0).size ≤ (s.oq 0).size - 1 ∧ (s.oq 0).size ≤ (4#32).toNat ∧
       (3 : BitVec 4) ≠ (s.oq 0).dlog ∧ (2 : BitVec 4) = (s.oq 0).dlog) ∧
    (let o : OrderRing := { en := true, dlog := 2, tail := 1 }
     o.size - 1 < o.tail - o.head + (0 + o.size - o.tail % o.size) % o.size) ∧
    (let s := up {}
     (s.oq 0).en = false ∧ (s.oq 0).obase.toNat % 4096 = 0 ∧ (s.oq 0).rbase.toNat % 4096 = 0 ∧ 1 ≤ (8 : BitVec 4).toNat ∧ (8 : BitVec 4).toNat ≤ 8 ∧
       8 < (9 : BitVec 4).toNat ∧ (up { obase := 8 }).oq 0 = { obase := 8 } ∧ (8 : W64).toNat % 4096 ≠ 0) ∧
    (let s := upFn (fun h => { h with oq := { en := true, dlog := 2, tail := 1, reading := some (0, 1) }, reads := [⟨.orderSlot 0, 2000000000, 1⟩] }) {}
     (s.oq 0).reading = some (0, 1) ∧ s.readOpen 0 (.orderSlot 0) = true ∧ (packet 1 [(0, 1)]).length = 128 ∧
       (byteAt (packet 1 [(0, 1)]) 0).getLsbD 0 = passBit (s.oq 0).size 0 ∧ (byteAt (packet 1 []) 0).getLsbD 0 ≠ passBit (s.oq 0).size 0) ∧
    (let s := up { en := true, dlog := 2, tail := 1, markWait := some (999843750, 1000000000) }
     (s.oq 0).markWait = some (999843750, 1000000000) ∧ 1000000000 ≤ s.clk.now ∧ (s.oq 0).reading = none ∧ 999843750 + 156250 ≤ s.clk.now) ∧
    (let s := up { en := true, dlog := 2, tail := 1, markWait := some (999843751, 1000000000) }
     (s.oq 0).markWait = some (999843751, 1000000000) ∧ s.clk.now < 999843751 + 156250 ∧ s.pfMaster 0 = true) := by decide +kernel

theorem retSeal_valid (r : Retention) : retValid (retSeal r) = true := by simp [retValid, retSeal, retBody]
theorem test_hyp_timeBridge : (let b := packet 0x61 []
    let s : State := { ordered b with keeper := { ret := retSeal { kb := 1 } } }
    orderStands s 0 b ∧ allZero (bslice b 0x10 0x70) = true ∧ retValid s.keeper.ret = true ∧ s.keeper.ret.kb ≠ 0 ∧ (ordered b).keeper.ret.kb = 0) :=
  ⟨by unfold orderStands; decide +kernel, by decide +kernel, retSeal_valid _, by decide, by decide⟩
theorem test_hyp_smallOrders : orderStands (ordered (packet 0x7F [])) 0 (packet 0x7F []) ∧ opcodeReal (byteAt (packet 0 []) 1) = false ∧
    orderStands (ordered (packet 0 [])) 0 (packet 0 []) ∧ allZero (bslice (packet 0x7F []) 0x40 0x40) = true ∧
    firstBad (packet 0x7F [(0x7F, 1)]) [(0x10, 0x30, true)] = some 0x7F ∧ orderStands (ordered (packet 0x7F [(0x7F, 1)])) 0 (packet 0x7F [(0x7F, 1)]) ∧
    (let b := packet 1 []
     orderStands (ordered b) 0 b ∧ byteAt b 1 = 1 ∧ allZero (bslice b 0x10 0x70) = true) ∧
    (let b := packet 0x60 [(0x10, 1)]
     orderStands (ordered b) 0 b ∧ (ordered b).foggy = false ∧ u64 b 0x10 ≠ 0 ∧ allZero (bslice b 0x18 0x68) = true) := by
  unfold orderStands; decide +kernel

/-- A bind of tenant 0 to 4 KiB at 0x1000 with its journal at 0x100000 (R95, R380). -/
def bind0 : Bytes := packet 3 [(0x13, 1), (0x1A, 0x10), (0x21, 0x10), (0x31, 0x10), (0x38, 0xFF), (0x39, 0x1F)]
/-- `ordered` with tenant 0's queues 0. -/
def orderedQ (b : Bytes) (k : Sq) : State :=
  let s := ordered b
  { s with queues := { s.queues with sqs := [(0, k)], cqs := [(0, cq0)] } }

theorem test_hyp_tenantBindings : (let s : State := { ordered bind0 with queues := {} }
     orderStands s 0 bind0 ∧ s.list.loaded = true ∧ s.foggy = false ∧ hostOf (tenantAt bind0 0x10) = 0 ∧ byteAt bind0 1 = 3 ∧
       firstBad bind0 (bindFields bind0) = none ∧ (s.tenant (tenantAt bind0 0x10)).binding = none ∧ s.vfOn (tenantAt bind0 0x10) = true ∧ s.safe = false ∧
       (s.host 0).held = []) ∧
    (orderStands (ordered bind0) 0 bind0 ∧ ((ordered bind0).tenant 0).binding.isSome = true) ∧
    (let b := packet 4 []
     orderStands (orderedQ b sq0) 0 b ∧ byteAt b 0x12 = 0 ∧ firstBad b (unbindFields b) = none ∧ ((orderedQ b sq0).tenant 0).binding.isSome = true ∧
       (orderedQ b sq0).outstanding 0 = 0 ∧ (orderedQ b { sq0 with outst := 1 }).outstanding 0 ≠ 0 ∧ orderStands (orderedQ b { sq0 with outst := 1 }) 0 b) ∧
    (let b := packet 4 [(0x12, 1)]
     orderStands (orderedQ b sq0) 0 b ∧ byteAt b 0x12 = 1 ∧ firstBad b (unbindFields b) = none ∧ (orderedQ b sq0).sq? 0 0 = some sq0) ∧
    (let b := packet 4 []
     let s : State := { ordered b with queues := { tenants := [(0, { unbindDrain := some 1000000000 })] } }
     orderStands s 0 b ∧ (s.tenant 0).unbindDrain = some 1000000000 ∧ 1000000000 ≤ s.clk.now) := by
  unfold orderStands; decide +kernel

/-- `ordered` with subchannel 5 of tenant 0 and what it holds, and the token 9. -/
def orderedP (b : Bytes) (x : Sub) (k : Token) : State := { ordered b with prog := { subs := [(5, { x with named := true })], tokens := [(9, k)] } }
def start5 : Start := { tenant := 0, sq := 0, index := 0, entry := 0, program := 0x3000, ref := 7, mask := 1 }
def token9 : Token := { rank := 1, owner := 0, value := 1, waiters := [] }

theorem test_hyp_createSq : let b := packet 5 [(0x14, 2), (0x19, 0x10), (0x21, 7)]
    let s := orderedQ b sq0
    let f := [tenantField b 0x10, (0x12, 1, true), (0x13, 1, true), (0x14, 4, powerIn 1 16 (num b 0x14 4)), (0x18, 8, s.baseOk b 64),
      (0x20, 1, decide ((byteAt b 0x20).toNat ≤ 7)), (0x21, 1, decide ((byteAt b 0x21).toNat ≤ 7)), (0x22, 2, num b 0x22 2 == 0), (0x24, 4, num b 0x24 4 == 0)]
    orderStands s 0 b ∧ s.list.loaded = true ∧ s.foggy = false ∧ hostOf (tenantAt b 0x10) = 0 ∧ (s.tenant (tenantAt b 0x10)).binding.isSome = true ∧
      byteAt b 0x12 = 0 ∧ (byteAt b 0x13).toNat = (0 : QNum).val ∧ firstBad b f = none ∧ (s.sq? 0 0).isSome = true ∧ (0 : QNum).val = (byteAt b 0x20).toNat ∧
      (s.cq? 0 0).isSome = true ∧ s.sq? 0 7 = none := by
  unfold orderStands; decide +kernel
theorem test_hyp_createCq : let b := packet 5 [(0x12, 1), (0x13, 7), (0x14, 2), (0x19, 0x10), (0x22, 1), (0x24, 255), (0x25, 255), (0x26, 255)]
    let s := orderedQ b sq0
    let f := [tenantField b 0x10, (0x12, 1, true), (0x13, 1, true), (0x14, 4, powerIn 1 16 (num b 0x14 4)), (0x18, 8, s.baseOk b 32),
      (0x20, 1, byteAt b 0x20 == 0), (0x21, 1, byteAt b 0x21 == 0), (0x22, 2, num b 0x22 2 != 0), (0x24, 4, decide (num b 0x24 4 < 2 ^ 24))]
    orderStands s 0 b ∧ byteAt b 0x12 = 1 ∧ (byteAt b 0x13).toNat = (7 : QNum).val ∧ firstBad b f = none ∧ s.cq? 0 7 = none ∧ (s.cq? 0 0).isSome = true := by
  unfold orderStands; decide +kernel
theorem test_hyp_priority : let b := packet 7 [(0x13, 7)]
    orderStands (orderedQ b sq0) 0 b ∧ (byteAt b 0x12).toNat = (0 : QNum).val ∧ (byteAt b 0x13).toNat ≤ 7 ∧
      firstBad b [tenantField b 0x10, (0x12, 1, true), (0x13, 1, true)] = none ∧ (orderedQ b sq0).sq? 0 0 = some sq0 ∧ (ordered b).sq? 0 0 = none := by
  unfold orderStands; decide +kernel
theorem test_hyp_resetQueue : let b := packet 6 []
    orderStands (orderedQ b sq0) 0 b ∧ orderStands (ordered b) 0 b ∧ (byteAt b 0x12).toNat = (0 : QNum).val ∧
      firstBad b [tenantField b 0x10, (0x12, 1, true)] = none := by
  unfold orderStands; decide +kernel
theorem test_hyp_releaseHold : let b := packet 8 [(0x12, 1), (0x14, 5)]
    let s := orderedP b { prog := some { start := start5, phase := .held, flow := 0x3000 } } token9
    orderStands s 0 b ∧ (byteAt b 0x12).toNat ≤ 1 ∧ (u32 b 0x14).toNat = (5 : SC).toNat ∧ firstBad b [tenantField b 0x10, (0x12, 1, true), (0x14, 4, true)] = none ∧
      (s.sub 5).named = true ∧ (s.sub 5).tenant = tenantAt b 0x10 ∧ (s.prog? 5).map (·.phase) = some .held ∧ ((ordered b).sub 5).named = false ∧
      (orderedP b {} token9).prog? 5 = none := by
  unfold orderStands; decide +kernel
theorem test_hyp_tokenCreate : let b := packet 0x70 [(0x10, 8), (0x14, 255), (0x16, 255), (0x17, 255)]
    let s := orderedP b {} token9
    orderStands s 0 b ∧ hostOf (tenantAt b 0x12) = 0 ∧ firstBad b (tokenFields b ++ [(0x14, 1, true), (0x16, 2, true)]) = none ∧
      (s.tenant (tenantAt b 0x12)).binding.isSome = true ∧ s.token? 8 = none ∧ (s.token? 9).isSome = true := by
  unfold orderStands; decide +kernel
theorem test_hyp_tokenDestroy : let b := packet 0x71 [(0x10, 9)]
    orderStands (orderedP b {} token9) 0 b ∧ firstBad b (tokenFields b) = none ∧ (orderedP b {} token9).token? (u16 b 0x10).toNat = some token9 ∧
      token9.owner = tenantAt b 0x12 ∧ token9.waiters = [] ∧ (orderedP b {} token9).namers 9 = 0 ∧
      (orderedP b {} { token9 with waiters := [5] }).token? 9 = some { token9 with waiters := [5] } ∧ { token9 with waiters := [5] }.waiters ≠ [] := by
  unfold orderStands; decide +kernel
theorem test_hyp_tokenRead : let b := packet 0x72 [(0x10, 9)]
    orderStands (orderedP b {} token9) 0 b ∧ firstBad b (tokenFields b) = none ∧ token9.fenced = false ∧ (ordered b).token? 9 = none := by
  unfold orderStands; decide +kernel

/-- A Light List of no entries with the digest `d` (R83, R84), for a cooling variant of the module. -/
def listWith (air : Bool) (d : W64) : Bytes :=
  ([0x40, 0x96, 0x4C, 0x4C, 1, 0, 0, if air then 2 else 1, 0, 1, 0, 0] ++ List.replicate 12 0 ++ [0x5E, 1, 0x90, 1] ++ List.replicate 20 0) ++
    le 8 d.toNat ++ List.replicate 200 0
def plainList (air : Bool) : Bytes := listWith air (llDigest (listWith air 0))
theorem listWith_digest (air : Bool) (d : W64) : llDigest (listWith air d) = llDigest (listWith air 0) :=
  congrArg (digest 0) (show _ = _ by cases air <;> rfl)
theorem listWith_field (air : Bool) (d : W64) : u64 (listWith air d) 0x30 = d := by
  have h : bslice (listWith air d) 0x30 8 = le 8 d.toNat := rfl
  rw [u64, h]
  apply BitVec.eq_of_toNat_eq
  have := d.isLt
  simp only [ule, le, BitVec.toNat_ofNat]
  omega

/-- The list is read for ring 0's order, with no Light List before and no tenant bound. -/
def listing : State :=
  let s := working (packet 2 []) (.listRead 0 256)
  { s with queues := {}, list := {}, hosts := [(0, { s.host 0 with reads := [⟨.lightList 0, 2000000000, 1⟩] })] }
set_option maxRecDepth 20000 in
theorem plainList_checked (air : Bool) (h : Config.coolingIsAir = air) :
    (plainList air).length = 256 ∧ listing.listCheck (plainList air) = none := by
  refine ⟨rfl, ?_⟩
  have hc : Config.cooling = if air then 2 else 1 := by rw [Config.cooling, h]
  have hl : Config.inletLimit = if air then 400 else 500 := by rw [Config.inletLimit, h]
  have hd : rejectIf (u64 (plainList air) 0x30 != llDigest (plainList air)) 3 0x30 = none := by
    rw [plainList, listWith_field, listWith_digest air (llDigest _)]; simp [rejectIf]
  simp only [State.listCheck, hc, State.llThermal, hl, hd]
  generalize hp : llDigest (listWith air 0) = d
  rw [plainList, hp]
  clear hc hl h hd hp
  cases air <;> rfl
/-- A list of no bytes fails the first check. -/
theorem test_hyp_listRead : (listing.oq 0).active = some { opc := 2, packet := packet 2 [], index := 0, stage := .listRead 0 256 } ∧
    (0 = (listing.oq 0).head ∧ byteAt (packet 2 []) 1 = 2) ∧ listing.pfMaster 0 = true ∧ listing.cores.tenderUp = true ∧ listing.readOpen 0 (.lightList 0) = true ∧
    listing.listCheck (List.replicate 256 0) = some (1, 0) ∧ byteAt (plainList true) 6 = 0 := by
  refine ⟨by decide +kernel, by decide +kernel, by decide +kernel, by decide +kernel, by decide +kernel, ?_, by decide +kernel⟩
  have h : llShape (List.replicate 256 0) = some (1, 0) := by decide +kernel
  rw [State.listCheck, h]; rfl

/-! ### Ports, modules, power -/

/-- `ordered` with port 0 as `x`, cage 0 populated, and path group 4 of one path. -/
def orderedPort (b : Bytes) (x : Port) : State :=
  let s := ordered b
  { s with ports := { ports := [(0, x)] }, list := { loaded := true, cages := [(0, { state := 1, pmax := 16 })], groups := [(4, { cu := 0, paths := [⟨0, 1⟩] })] } }
/-- A port that is up, with credits. -/
def portUp : Port := { link := 5, txOn := true, locked := true, helloSeen := true, exmax := 64, dcumRx := 16, ccumRx := 16, dcumTx := 1024, ccumTx := 256 }

theorem test_port_fence : FenceCause.order ∈ ((after (.portFence 0) (orderedPort (packet 0x11 []) portUp)).port 0).fences := by decide +kernel

theorem test_hyp_portEnable : (let b := packet 0x10 []
    let s := orderedPort b { fences := [.order] }
    orderStands s 0 b ∧ s.foggy = false ∧ s.list.loaded = true ∧ (byteAt b 0x10).toNat = (0 : DPort).val ∧ allZero (bslice b 0x11 0x6F) = true ∧
      (s.port 0).retired = false ∧ .order ∈ (s.port 0).fences) ∧
    (let x := (orderedPort (packet 0x10 []) { fences := [.domain] }).port 0
     x.fences ≠ [] ∧ .identity ∉ x.fences ∧ .order ∉ x.fences ∧ .balance ∉ x.fences) ∧
    ((orderedPort (packet 0x10 []) { retired := true }).port 0).retired = true ∧ ((orderedPort (packet 0x10 []) portUp).port 0).fences = [] := by
  unfold orderStands; decide +kernel
theorem test_hyp_portFence : (let b := packet 0x11 [(0x10, 95)]
    orderStands (orderedPort b portUp) 0 b ∧ (byteAt b 0x10).toNat = (95 : DPort).val ∧ allZero (bslice b 0x11 0x6F) = true) := by
  unfold orderStands; decide +kernel
theorem test_hyp_groupEdit : (let b := packet 0x12 [(0x10, 4), (0x16, 1), (0x19, 2)]
    let s := orderedPort b portUp
    orderStands s 0 b ∧ s.list.loaded = true ∧ firstBad b (s.editFields b) = none ∧
      tfind s.list.groups (u32 b 0x10).toNat = some { cu := 0, paths := [⟨0, 1⟩] } ∧
      (∀ x ∈ editPaths b, ∀ h ∈ s.list.groups, x ∈ h.2.paths → h.2.cu = 0)) ∧
    (let b := packet 0x12 [(0x10, 5), (0x16, 1), (0x19, 2)]
     orderStands (orderedPort b portUp) 0 b ∧ firstBad b ((orderedPort b portUp).editFields b) = none ∧
       tfind (orderedPort b portUp).list.groups (u32 b 0x10).toNat = none) := by unfold orderStands; decide +kernel
theorem test_hyp_loadList : (let b := packet 2 [(0x19, 1), (0x1A, 0x70)]
    orderStands (ordered b) 0 b ∧ (u64 b 0x10).toNat % 64 = 0 ∧ 64 ≤ (u32 b 0x18).toNat ∧ (u32 b 0x18).toNat ≤ 7340288 ∧
      allZero (bslice b 0x1C 0x64) = true) := by unfold orderStands; decide +kernel
theorem test_hyp_portEnableTimeout : (let s := working (packet 0x10 []) (.portUp 0 1000000000 [])
    (s.oq 0).active = some { opc := 0x10, packet := packet 0x10 [], index := 0, stage := .portUp 0 1000000000 [] } ∧ 0 = (s.oq 0).head ∧
      byteAt (packet 0x10 []) 1 = 0x10 ∧ s.pfMaster 0 = true ∧ s.cores.tenderUp = true ∧ 1000000000 ≤ s.clk.now) := by decide +kernel

theorem test_hyp_supplyPolicy : (let b := packet 0x22 [(0x10, 190), (0x12, 1)]
    orderStands (ordered b) 0 b ∧ (ordered b).foggy = false ∧ 190 ≤ (u16 b 0x10).toNat ∧ (u16 b 0x10).toNat ≤ 330 ∧ (byteAt b 0x12).toNat ≤ 1 ∧
      allZero (bslice b 0x13 0x6D) = true) ∧
    (let b := packet 0x22 []
     orderStands (ordered b) 0 b ∧ (u16 b 0x10).toNat = 0) := by unfold orderStands; decide +kernel
theorem test_hyp_readSignature : (let b := packet 0x31 [(0x10, 61), (0x11, 2)]
    let s : State := { ordered b with fw := { (ordered b).fw with sigs := [(123, ⟨1, 2, 3⟩)] } }
    orderStands s 0 b ∧ (byteAt b 0x10).toNat ≤ 61 ∧ byteAt b 0x11 = 2 ∧ allZero (bslice b 0x12 0x6E) = true ∧ tfind s.fw.sigs 123 = some ⟨1, 2, 3⟩ ∧
      2 * (byteAt b 0x10).toNat + (if byteAt b 0x11 = 2 then 1 else 0) = 123 ∧ tfind (ordered b).fw.sigs 123 = none) ∧
    (let b := packet 0x31 [(0x11, 1)]
     orderStands (ordered b) 0 b ∧ byteAt b 0x11 = 1) := by unfold orderStands; decide +kernel
theorem test_hyp_faultWindow : (let b := packet 0x40 [(0x13, 0x20), (0x15, 255), (0x18, 0x80), (0x19, 0x51), (0x1A, 1)]
    orderStands (ordered b) 0 b ∧ byteAt b 0x15 ≠ 0 ∧ 1 ≤ (u32 b 0x18).toNat ∧ (u32 b 0x18).toNat ≤ 86400 ∧ allZero (bslice b 0x16 2) = true ∧
      allZero (bslice b 0x1C 0x64) = true ∧ byteAt b 0x14 = 0 ∧ 1 ≤ fieldOf (u32 b 0x10) 31 29) ∧
    (let b := packet 0x40 [(0x14, 1), (0x15, 1), (0x18, 1)]
     orderStands (ordered b) 0 b ∧ byteAt b 0x14 = 1 ∧ u32 b 0x10 = 0) := by unfold orderStands; decide +kernel
theorem test_hyp_readFaultLog : (let b := packet 0x41 [(0x1D, 0x10)]
    orderStands (ordered b) 0 b ∧ (u64 b 0x10).toNat % 4096 = 0 ∧ (u32 b 0x1C).toNat ≤ 4096 ∧ allZero (bslice b 0x20 0x60) = true) := by
  unfold orderStands; decide +kernel
theorem test_hyp_retireSite : (let b := packet 0x42 [(0x10, 0xFF), (0x11, 0x0F), (0x12, 0x42), (0x13, 0x60)]
    orderStands (ordered b) 0 b ∧ allZero (bslice b 0x14 0x6C) = true ∧ (ordered b).siteRefused (u32 b 0x10) = false) ∧
    (let b := packet 0x42 []
     orderStands (ordered b) 0 b ∧ (ordered b).siteRefused (u32 b 0x10) = true) := by unfold orderStands; decide +kernel
theorem test_hyp_startSelfTest : (let b := packet 0x30 [(0x10, 1), (0x18, 3)]
    orderStands (ordered b) 0 b ∧ u64 b 0x10 ≠ 0 ∧ (u64 b 0x10).toNat < 2 ^ 62 ∧ 1 ≤ (byteAt b 0x18).toNat ∧ (byteAt b 0x18).toNat ≤ 3 ∧
      allZero (bslice b 0x19 0x67) = true ∧ (ordered b).otherActive 0 exclusive = false ∧
      (∀ n, n < 64 → (u64 b 0x10).getLsbD n = true → (ordered b).offRefusal 0 n = none)) := by unfold orderStands; decide +kernel

/-- `ordered` with the power domains given. -/
def orderedDom (b : Bytes) (l : Table Domain) : State := { ordered b with power := { mode := .run, domains := l } }

theorem test_hyp_domainPower : (let b := packet 0x20 [(0x11, 1)]
    let s := orderedDom b [(56, { on := true }), (57, { on := true })]
    orderStands s 0 b ∧ s.foggy = false ∧ (byteAt b 0x10).toNat = (0 : Dom).val ∧ allZero (bslice b 0x12 0x6E) = true ∧ byteAt b 0x11 = 1 ∧
      s.onRefusal 0 = none ∧ s.domOn 0 = false ∧ (orderedDom b []).onRefusal 0 = some 0xD ∧ (ordered b).onRefusal 0 = none ∧ (ordered b).domOn 0 = true) ∧
    (let b := packet 0x20 []
     let s := ordered b
     orderStands s 0 b ∧ byteAt b 0x11 = 0 ∧ s.offRefusal 0 0 = none ∧ s.domOn 0 = true ∧ (s.dom 0).switching = none ∧ (orderedDom b []).domOn 0 = false) ∧
    (let b := packet 0x20 [(0x10, 60)]
     orderStands (ordered b) 0 b ∧ (byteAt b 0x10).toNat = (60 : Dom).val ∧ (ordered b).offRefusal 0 60 = some 0xD ∧ (ordered b).list.loaded = true) := by
  unfold orderStands; decide +kernel
theorem test_hyp_domains : (let s := orderedDom [] [(48, { on := true })]
    48 ≤ (48 : Dom).val ∧ (57 : Dom).val < 58 ∧ (s.dom 48).on = true ∧ (s.dom 48).switching = none) ∧
    (orderedDom [] [(0, { on := true, switching := some false })]).switchDue 0 = true ∧
    ((orderedDom [] [(0, { on := true, drainUntil := some 1000000000 })]).dom 0).drainUntil = some 1000000000 ∧
    1000000000 ≤ (orderedDom [] []).clk.now := by decide +kernel

theorem test_hyp_enterSleep : (let b := packet 0x21 [(0x10, 3), (0x14, 0x1F), (0x1D, 0xFF)]
    orderStands (ordered b) 0 b ∧ (ordered b).foggy = false ∧ byteAt b 0x10 = (3 : BitVec 2).setWidth 8 ∧ allZero (bslice b 0x11 3) = true ∧
      u32 b 0x14 ≠ 0 ∧ (u32 b 0x14).toNat ≤ 0x1F ∧ (u64 b 0x18).toNat < 2 ^ 48 ∧ allZero (bslice b 0x20 0x60) = true ∧
      (ordered b).otherActive 0 exclusive = false ∧ (ordered b).maySleep = false ∧ (orderedDom b []).maySleep = true ∧ orderStands (orderedDom b []) 0 b) := by
  unfold orderStands; decide +kernel
/-- ENTER-SLEEP to Hold stands at the commit edge, with the wake sources of `mask`. -/
def sleepy (mask : W32) : State :=
  { working (packet 0x21 []) (.sleep 3) with keeper := { wakeMask := mask, sleepReq := 3 }, orders := { sleeping := true } }
theorem test_hyp_sleepCommit : (let s := sleepy 2
    s.sleeper = some (0, 3) ∧ (s.oq 0).active = some { opc := 0x21, packet := packet 0x21 [], index := 0, stage := .sleep 3 } ∧ 0 = (s.oq 0).head ∧
      byteAt (packet 0x21 []) 1 = 0x21 ∧ s.pfMaster 0 = true ∧ s.cores.tenderUp = true ∧ s.keeper.pendingWake true false = true ∧ s.keeper.pendingWake false false = false) := by
  decide +kernel
/-- Asleep in Doze with wake source 1 enabled and a retention file. -/
def dozing (k : Keeper) : State := { power := { mode := .doze }, keeper := { k with wakeMask := 2 }, clk := { now := 1000000000 } }
theorem test_hyp_asleep : (let s := dozing { decide := 1, sleepReq := 2 }
    s.keeper.decide = 1 ∧ s.keeper.sleepReq = 2 ∧ s.keeper.wakeCause &&& s.keeper.wakeMask = 0 ∧ s.power.mode = .doze ∧ s.keeper.wakes (1 : Fin 5).val = true ∧
      s.foggy = false ∧ s.keeper.waking = false) ∧
    ({ dozing {} with power := { mode := .hold } }.keeper.wakes (1 : Fin 5).val = true) ∧ (dozing { fog := true }).foggy = true ∧
    (dozing { waking := true }).keeper.waking = true ∧ ({ decide := 1, sleepReq := 3 } : Keeper).sleepReq = 3 := by decide
theorem test_hyp_bridge : (let s := dozing { waking := true, pllLocked := true, ret := retSeal { mode := 2 } }
    s.power.mode = .doze ∧ s.keeper.waking = true ∧ s.keeper.pllLocked = true ∧ retValid s.keeper.ret = true ∧ s.keeper.ret.mode ≠ 0) :=
  ⟨rfl, rfl, rfl, retSeal_valid _, by decide⟩
theorem test_hyp_wakeRelease : (let s := dozing { wakeUntil := some 1000000000 }
    s.keeper.wakeUntil = some 1000000000 ∧ 1000000000 ≤ s.clk.now) ∧
    (let s : State := { power := { mode := .run }, clk := { now := 15625 } }
     s.power.mode = .run ∧ s.idleNow = true ∧ s.power.quietAt + 15625 ≤ s.clk.now) := by decide

theorem test_fog_pin : Out.pwrWarn true ∈ (after (.fogSignal 5) { power := { mode := .doze } }).out := by decide +kernel
theorem test_hyp_fog : (up {}).power.mode = .run ∧ (up {}).foggy = false ∧
    (let s : State := { up {} with keeper := { fog := true } }
     s.foggy = true ∧ s.power.mode ≠ .off ∧ s.keeper.lowAt + 15625000 ≤ s.clk.now) ∧ (1400 : BitVec 12).toNat = 1400 ∧ (1220 : BitVec 12).toNat = 1220 ∧ (3020 : BitVec 12).toNat ≤ 3020 ∧ 3020 < (3021 : BitVec 12).toNat ∧ (up {}).keeper.overV = false ∧
    (up {}).data.inService = true ∧ ({ overV := true } : Keeper).overV = true ∧ retValid (retSeal {}) = true :=
  ⟨by decide, by decide, by decide, by decide, by decide, by decide, by decide, by decide, by decide, by decide, retSeal_valid _⟩
theorem test_hyp_resets : (let s : State := { up {} with keeper := { pllLocked := true } }
    s.keeper.pllLocked = true ∧ s.power.mode = .run) := by decide

/-- Power is good and the keeper is `k`. -/
def booting (k : Keeper) (f : Firmware) : State :=
  { power := { mode := .run, domains := (List.range 14).map (fun n => (48 + n, { on := true })) }, keeper := k, fw := { f with rails := true }, clk := { now := 5 } }
theorem test_hyp_bringUp : (({} : State).power.mode = .off ∧ ({} : State).keeper.railAt = none) ∧
    (let s := booting { railAt := some 5, railTries := 2 } {}
     s.keeper.railAt = some 5 ∧ 5 ≤ s.clk.now ∧ s.power.mode = .run ∧ s.fw.hub = false ∧ s.keeper.railTries < 3) ∧
    (let s := booting { pllLocked := true } {}
     s.power.mode = .run ∧ s.fw.rails = true ∧ s.keeper.pllLocked = true ∧ s.fw.hub = false ∧ s.safe = false) ∧
    (let s := booting {} { hub := true }
     s.fw.hub = true ∧ tfind s.fw.links (3 : Die).val = none ∧ s.fw.booted = false ∧ (s.fw.slot false).valid = true ∧ false = s.fw.run ∧
       s.domOn 56 = true ∧ s.domOn 57 = true ∧ s.fw.hbm = false ∧ s.faults.log = [] ∧ s.fw.bootFaults.length ≤ 4096) ∧
    (let s := booting {} { hub := true, imgA := {}, imgB := { valid := true } }
     (s.fw.slot true).valid = true ∧ (s.fw.slot s.fw.run).valid = false) ∧
    (let s := booting {} { hub := true, imgA := {} }
     s.fw.imgA.valid = false ∧ s.fw.imgB.valid = false ∧ s.fw.booted = false) ∧
    (let s := booting { bootAt := some 5 } { hub := true }
     s.keeper.bootAt = some 5 ∧ 5 ≤ s.clk.now ∧ (s.fw.slot s.fw.run).valid = true) ∧
    (let s : State := { up {} with fw := { (up {}).fw with ready := false } }
     s.cores.tenderUp = true ∧ s.fw.recovery = false ∧ s.fw.hbm = true ∧ s.fw.ready = false ∧ (∀ d, d < 4 → (tfind s.fw.links d).isSome = true) ∧
       (0 : PairNum).val < 40 ∧ s.domOn (pairDomain 0) = true ∧ (s.pair 0).retired = false) := by decide

/-! ### Firmware, self-tests, the Trial Balance Unit -/

/-- `ordered` with image B valid at release `r`, and spares on the dies listed. -/
def orderedFw (b : Bytes) (r : W32) (spares : List Nat) : State :=
  let s := ordered b
  { s with fw := { s.fw with imgB := { valid := true, release := r } }
           cores := { s.cores with pairs := spares.map (fun d => (10 * d, { running := true })) } }

theorem test_hyp_stage : (let b := packet 0x50 [(0x11, 0x10), (0x1B, 2)]
    orderStands (ordered b) 0 b ∧ (ordered b).foggy = false ∧ (u64 b 0x10).toNat % 4096 = 0 ∧ 4096 ≤ (u32 b 0x18).toNat ∧ (u32 b 0x18).toNat ≤ 33554432 ∧
      allZero (bslice b 0x1C 0x64) = true ∧ (ordered b).otherActive 0 exclusive = false) ∧
    (let b := packet 0x50 [(0x11, 0x10), (0x19, 0x10)]
     let h := hostUp { en := true, active := some { opc := 0x51, packet := [], index := 0, stage := .none } }
     let s : State := { ordered b with hosts := (ordered b).hosts ++ [(1, h)] }
     orderStands s 0 b ∧ s.otherActive 0 exclusive = true ∧ 4096 ≤ (u32 b 0x18).toNat) := by unfold orderStands; decide +kernel
theorem test_hyp_activate : (let b := packet 0x51 [(0x10, 1)]
    orderStands (orderedFw b 7 []) 0 b ∧ (byteAt b 0x10).toNat ≤ 1 ∧ allZero (bslice b 0x11 0x6F) = true ∧ (orderedFw b 7 []).otherActive 0 exclusive = false ∧
      ((orderedFw b 7 []).fw.slot (!(orderedFw b 7 []).fw.image)).valid = true ∧ byteAt b 0x10 = 1 ∧
      ((ordered b).fw.slot (!(ordered b).fw.image)).valid = false ∧ orderStands (ordered b) 0 b) := by unfold orderStands; decide +kernel
/-- Whether the running release is among those that an image rolls from is the image's own: the state below meets one of the two clauses. -/
theorem test_hyp_roll : (let b := packet 0x51 []
    orderStands (orderedFw b 7 []) 0 b ∧ byteAt b 0x10 = 0 ∧ ((orderedFw b 7 []).fw.slot true).valid = true ∧
      (∃ d, d < 4 ∧ (orderedFw b 7 []).freeSpares d = []) ∧ orderStands (orderedFw b 7 [0, 1, 2, 3]) 0 b ∧
      (∀ d, d < 4 → (orderedFw b 7 [0, 1, 2, 3]).freeSpares d ≠ [])) :=
  ⟨by unfold orderStands; decide +kernel, by decide, by decide, ⟨3, by decide, by decide +kernel⟩, by unfold orderStands; decide +kernel, by decide +kernel⟩
theorem test_hyp_recoveryActivate : (let b := packet 0x51 []
    let s : State := { orderedFw b 7 [] with fw := { (orderedFw b 7 []).fw with recovery := true } }
    s.headSlot 0 = some (.packet b) ∧ s.ringTurn 0 = true ∧ s.pfMaster 0 = true ∧ s.fw.recovery = true ∧ headerBad b = false ∧ s.foggy = false ∧
      s.otherActive 0 exclusive = false ∧ (s.fw.slot (!s.fw.imgA.valid)).valid = true) := by decide +kernel
theorem test_hyp_flash : (let a : Active := { opc := 0x50, packet := packet 0x50 [], index := 0, stage := .stageRead 0 4096 }
    let s0 := working (packet 0x50 []) (.stageRead 0 4096)
    let s : State := { s0 with hosts := [(0, { s0.host 0 with reads := [⟨.image 0, 2000000000, 1⟩] })] }
    s.stager = some (0, a) ∧ (s.oq 0).active = some a ∧ a.index = (s.oq 0).head ∧ byteAt a.packet 1 = a.opc ∧ a.orphan = false ∧ a.restarted = false ∧
      s.pfMaster 0 = true ∧ s.cores.tenderUp = true ∧ s.readOpen 0 (.image 0) = true) ∧
    (working (packet 0x50 []) (.stageWrite [1])).stager.map (·.2.stage) = some (.stageWrite [1]) := by decide +kernel
theorem test_hyp_activated : (let a : Active := { opc := 0x51, packet := packet 0x51 [], index := 0, stage := .activate, effected := true }
    let s0 := working (packet 0x51 []) .activate
    let s : State := { s0 with hosts := [(0, { s0.host 0 with oq := { s0.oq 0 with active := some a } })], cores := { pairs := [(40, { running := true })] }, fw := { s0.fw with hub := true } }
    (s.oq 0).active = some a ∧ a.index = (s.oq 0).head ∧ byteAt a.packet 1 = a.opc ∧ s.pfMaster 0 = true ∧ (s.oq (otherHost 0)).active = none ∧
      (s.pair tender).running = true ∧ s.cores.tenderUp = false ∧ s.fw.hub = true) := by decide +kernel
theorem test_hyp_handOver : (0 : PairNum) ≠ 1 ∧ ((core { slot := some 3 }).pair 0).slot = some 3 := by decide

theorem test_hyp_selfTest : (let t : TestRun := { dom := 5, mbist := false, started := true }
    let s : State := { up {} with fw := { (up {}).fw with tests := [t] } }
    s.fw.tests.find? (fun t => t.dom == (5 : Dom).val && t.started && t.mbist == false) = some t) ∧ dieLevel true [] = none ∧
    dieLevel false [] = none ∧ ({ dom := 5, mbist := false, both := true } : TestRun).both = true ∧ ({ dom := 5, mbist := true } : TestRun).both = false := by decide
/-- A run that lists no unit gave every unit its golden value; one that lists a unit with another value is a mismatch. -/
theorem test_hyp_mismatches (s : State) (units : List W32) (mbist : Bool) : s.mismatches units mbist [] = [] := by
  simp [State.mismatches, State.unitSig]
theorem test_hyp_mismatch : (let s := up {}
    s.mismatches [moverSite 0] true [(moverSite 0, s.goldenOf (moverSite 0) true + 1)] ≠ []) := by
  intro s
  have h : s.unitSig true [(moverSite 0, s.goldenOf (moverSite 0) true + 1#64)] (moverSite 0) = (moverSite 0, s.goldenOf (moverSite 0) true + 1#64) := by
    simp [State.unitSig, inUnit, show s.unitRetired (moverSite 0) = false from by decide]
  have h1 : s.goldenOf (moverSite 0) true + 1#64 ≠ s.goldenOf (moverSite 0) true := by bv_omega
  simp [State.mismatches, h, h1]
theorem test_hyp_startTest : (let s := up {}
    s.fw.tests = [] ∧ s.domOn (5 : Dom).val = true ∧ tfind s.fw.sigs (2 * (5 : Dom).val + bnat false) = none ∧ s.fw.hub = true) := by decide
theorem test_hyp_rotating : (let s0 := up {}
    let s : State := { s0 with fw := { s0.fw with rotating := [.mover 0] }, data := { s0.data with movers := [(0, { testing := true })] } }
    (s.mover 0).fenced = false ∧ s.fw.rotating.contains (.mover 0) = true ∧ s.testReady (.mover 0) = true ∧ s.fw.again.contains (.mover 0) = false ∧
      { s.fw with again := [.mover 0] }.again.contains (.mover 0) = true) ∧
    (let s : State := { up {} with data := { (up {}).data with movers := [(0, { fenced := true })] } }
     (s.mover 0).fenced = true ∧ (s.mover 0).retired = false) ∧
    (let s := up {}
     s.fw.ready = true ∧ s.cores.tenderUp = true ∧ s.fw.tests = [] ∧ s.power.mode = .run ∧ s.fw.rotating.contains (.mover 0) = false ∧ s.canRotate (.mover 0) = true ∧
       busyChannels (s.mover 0) = 0 ∧ s.canRotate (.columnizer 0 0) = true ∧ s.canRotate (.portPair 0) = true) ∧
    (let s : State := { up {} with data := { (up {}).data with movers := [(0, { freeing := some 1000000000, channels := [(0, { queue := [{ kind := 2, tenant := 0, addr := 0, len := 4, sc := 5, xfer := (0, 0) }] })] })] } }
     (s.mover 0).freeing = some 1000000000 ∧ busyChannels (s.mover 0) ≠ 0 ∧ 1000000000 ≤ s.clk.now) := by decide +kernel
theorem test_hyp_rotatingPair : ({ up {} with cores := { tenderUp := true, pairs := [(0, { running := true }), (1, { running := true }), (2, { running := true })] } } : State).canRotate
    (.lampPair 0) = true := by decide +kernel
theorem test_hyp_balance : (let s := up {}
    s.fw.hub = true ∧ s.power.mode = .run ∧ s.faults.accts.filter (fun (x : Nat × Acct) => x.2.debit != x.2.credit) = [] ∧ FenceCause.balance ∉ (s.port 0).fences ∧
      s.safe = false ∧ (s.mover 15).fenced = false ∧ (∀ d, (s.port d).exch = []) ∧ s.cores.tenderUp = true ∧ s.data.inService = true) ∧
    (let s : State := { up {} with faults := { accts := [(acctKey 7 9, ⟨1, 2⟩)] } }
     s.faults.accts.filter (fun (x : Nat × Acct) => x.2.debit != x.2.credit) ≠ []) ∧
    FenceCause.balance ∈ ((orderedPort [] { fences := [.balance] }).port 0).fences ∧ (orderedP [] {} token9).token? 9 = some token9 ∧ token9.fenced = false ∧
    (queued sq0 cq0).sq? 0 0 = some sq0 ∧ (queued sq0 cq0).cq? 0 0 = some cq0 ∧ sq0.fenced = false ∧ cq0.fenced = false ∧
    ({ faults := { safe := some 1 } } : State).safe = true ∧ (let s : State := { up {} with clk := { hub := 15625 } }
     s.faults.round ≠ s.clk.hub.toNat / 15625) ∧ (let s : State := { power := { domains := [(48, { on := true })] } }
     s.evuOn 1 = true) := by decide +kernel

/-! ### Limits, temperatures, side ports -/

/-- `up` with a power limit of 200 W and what the limit has seen. -/
def limited (p : Power) : State := { up {} with power := { p with mode := .run, plimit := 200 }, clk := { now := 10000000000 } }
theorem test_hyp_powerLimit : (up {}).power.plimit.toNat = 0 ∧
    (let s := limited { overSince := some 9984375000 }
     s.power.plimit.toNat ≠ 0 ∧ s.power.mode = .run ∧ s.power.throttle = false ∧ (200 : W16).toNat ≤ s.power.plimit.toNat ∧
       s.power.plimit.toNat < (201 : W16).toNat ∧ s.power.overSince = some 9984375000 ∧ 9984375000 + 15625000 ≤ s.clk.now) ∧
    (limited { overSince := some 9984375001 }).clk.now < 9984375001 + 15625000 ∧ (limited {}).power.overSince = none ∧
    (let s := limited { throttle := true, underSince := some 625000000 }
     s.power.throttle = true ∧ s.power.plimit.toNat < (191 : W16).toNat + 10 ∧ (190 : W16).toNat + 10 ≤ s.power.plimit.toNat ∧
       s.power.underSince = some 625000000 ∧ 625000000 + 9375000000 ≤ s.clk.now) ∧ (limited { throttle := true }).power.underSince = none := by decide +kernel
/-- A loaded list with an inlet warning at 35.0 °C and a limit at 40.0 °C, and what the sensors have shown. -/
def warmed (t : Thermal) : State :=
  { up {} with list := { loaded := true, inletWarn := 350, inletMax := 400 }, therm := t, clk := { now := 10000000000 } }
theorem test_hyp_inlet : (let s := warmed {}
    let hot : W16 := if (351 : W16).toInt < (350 : W16).toInt then 350 else 351
    s.list.loaded = true ∧ s.list.inletWarn.toInt < hot.toInt ∧ s.therm.warned = false ∧ s.data.inService = true ∧ (350 : W16).toInt ≤ s.list.inletWarn.toInt ∧
      (400 : W16).toInt ≤ s.list.inletMax.toInt ∧ s.list.inletMax.toInt < (401 : W16).toInt ∧ s.therm.throttle = false ∧ s.list.inletWarn.toInt ≤ (350 : W16).toInt) ∧
    (let s := warmed { overSince := some 9843750000 }
     s.therm.overSince = some 9843750000 ∧ 9843750000 + 156250000 ≤ s.clk.now) ∧ (warmed {}).clk.now < 9843750001 + 156250000 ∧
    (let s := warmed { throttle := true, underSince := some 625000000 }
     (349 : W16).toInt < s.list.inletWarn.toInt ∧ s.therm.throttle = true ∧ s.therm.underSince = some 625000000 ∧ 625000000 + 9375000000 ≤ s.clk.now) ∧
    (let s := warmed { disagreeSince := some 8437500000 }
     50 < ((351 : W16).toInt - (300 : W16).toInt).natAbs ∧ s.therm.disagreed = false ∧ s.therm.disagreeSince = some 8437500000 ∧ 8437500000 + 1562500000 ≤ s.clk.now ∧
       ((350 : W16).toInt - (300 : W16).toInt).natAbs ≤ 50) := by decide +kernel
theorem test_hyp_dies : (1050 : W16).toInt ≤ 1050 ∧ 0 < (1 : Fin 5).val ∧
    (let s := warmed { dieHotSince := [(1, 9843750000), (8, 9843750000), (9, 9843750000)] }
     1050 < (1150 : W16).toInt ∧ (1150 : W16).toInt ≤ 1150 ∧ 1150 < (1151 : W16).toInt ∧ tget false s.therm.dieThrottle (1 : Fin 5).val = false ∧
       tfind s.therm.dieHotSince (1 : Fin 5).val = some 9843750000 ∧ tfind s.therm.dieHotSince 8 = some 9843750000 ∧
       tfind s.therm.dieHotSince (8 + (1 : Fin 5).val) = some 9843750000 ∧ 9843750000 + 156250000 ≤ s.clk.now) ∧
    (let s := warmed { dieThrottle := [(1, true)], dieCoolSince := [(1, 625000000)] }
     tget false s.therm.dieThrottle (1 : Fin 5).val = true ∧ tget false s.therm.dieWithdrawn (1 : Fin 5).val = false ∧ s.power.throttle = false ∧
       s.therm.throttle = false ∧ (949 : W16).toInt < 950 ∧ 950 ≤ (950 : W16).toInt ∧ tfind s.therm.dieCoolSince (1 : Fin 5).val = some 625000000 ∧
       625000000 + 9375000000 ≤ s.clk.now) := by decide +kernel
theorem test_hyp_sidePorts : (up {}).power.mode ≠ .hold ∧ (up {}).power.mode ≠ .off ∧ (up {}).side.armed = none ∧ (up {}).side.pinsTaken = false ∧
    (let s : State := { up {} with side := { armed := some 1000000001, pinsTaken := true }, therm := { dieTemp := [(1, 400)] } }
     s.side.armed = some 1000000001 ∧ s.clk.now < 1000000001 ∧ 1000000000 ≤ s.clk.now ∧ s.side.pinsTaken = true ∧
       (1, 400) ∈ s.therm.dieTemp ∧ (∀ y ∈ s.therm.dieTemp, y.2.toInt ≤ (400 : W16).toInt)) ∧
    (0 : Byte) ≠ 0x5A ∧ (0 : Byte) ≠ 0xA5 ∧ (dozing {}).power.mode = .doze ∧ ({ power := { mode := .hold } } : State).power.mode = .hold := by decide +kernel

/-! ### Channel programs -/

/-- A step (R141): OP, FLAGS, COUNT, AUX below 256, ADDR. -/
def stepBytes (op flags : Byte) (count : Nat) (aux : Byte) (addr : Nat) : Bytes := [op, flags] ++ le 2 count ++ [aux, 0, 0, 0] ++ le 8 addr
/-- `up` with port 0 as `x`, subchannel 5 of one path there, and the program `p` at 0x3000 whose step group begins with `w`. -/
def programmed (x : Port) (w : Bytes) (p : Prog) : State :=
  let s := up {}
  { s with
    queues := { s.queues with sqs := [(0, sq0)], cqs := [(0, cq0)] }
    list := { loaded := true, cages := [(0, { state := 1, pmax := 16 })], groups := [(0, { cu := 0, paths := [⟨0, 1⟩] })], paths := [(1, { good := true })] }
    ports := { ports := [(0, x)] }
    prog := { subs := [(5, { named := true, enable := true, prog := some { p with groups := [(0xC0, padTo 64 w)] } })], tokens := [(9, token9)] } }
def prog5 : Prog := { start := start5, flow := 0x3000, reached := true, path := some ⟨0, 1⟩ }
/-- The same with the program running at the step `w` with the port up. -/
def atStep (w : Bytes) : State := programmed portUp w prog5
/-- That program as the state holds it. -/
def prog5w (w : Bytes) : Prog := { prog5 with groups := [(0xC0, padTo 64 w)] }

theorem test_go : ((after (.go 5 .good) (atStep (stepBytes 0xF1 0 0 3 0))).prog? 5).map (·.flow) = some 0x3030 := by decide +kernel
theorem test_read_sends : (((after (.readStep 5 .good) (atStep (stepBytes 2 0 64 0 0x1000))).port 0).ctrlQ.map (fun i => i.frame.typ)) = [1] := by decide +kernel

theorem test_hyp_startBegin : (let s0 := atStep []
    let s : State := { s0 with prog := { subs := [(5, { named := true, enable := true, starts := [start5] })] } }
    s.side.pinsTaken = false ∧ (s.sub 5).prog = none ∧ (s.sub 5).starts = [start5]) := by decide +kernel
theorem test_hyp_takePath : (let s := programmed portUp [] { prog5 with path := none, phase := .pathWait 1000000000 }
    let p := { prog5w [] with path := none, phase := .pathWait 1000000000 }
    s.prog? 5 = some p ∧ p.chain = none ∧ s.slotFree 0 = true ∧ (s.port 0).headTag.isSome = true ∧ s.turnOf 5 0 = true ∧
      s.choosePath 5 p.start.mask none = some ⟨0, 1⟩ ∧ 1000000000 ≤ s.clk.now) := by decide +kernel
theorem test_hyp_pathWait : (let t := fun (x : Port) => programmed x [] { prog5 with path := none, phase := .pathWait 1000000001 }
    let s := t { link := 3, txOn := true }
    s.choosePath 5 1 none = none ∧ s.noPath 5 1 = .wait ∧ s.clk.now < 1000000001 ∧ (t { fences := [.identity] }).noPath 5 1 = .identity ∧
      (t { fences := [.identity] }).choosePath 5 1 none = none ∧ (t { fences := [.order] }).noPath 5 1 = .lost ∧
      (t { fences := [.order] }).choosePath 5 1 none = none) := by decide +kernel
theorem test_hyp_slotGranted : (let s := programmed portUp [] { prog5 with phase := .slotWait 7 }
    s.slotQueue 0 = some 5 ∧ (s.prog? 5).map (·.phase) = some (.slotWait 7) ∧ s.usable ⟨0, 1⟩ = true) ∧
    (programmed {} [] { prog5 with phase := .slotWait 7 }).usable ⟨0, 1⟩ = false ∧
    (let s := programmed portUp [] { prog5 with tagWait := some 7 }
     s.slotQueue 0 = some 5 ∧ (s.prog? 5).map (·.phase) = some .running) := by decide +kernel
theorem test_hyp_holdStep : (let w := stepBytes 0xF5 0x80 0 0 0
    let s := atStep w
    s.stepDue 5 = some (prog5w w, parseStep w) ∧ opOf (parseStep w).op ≠ .reserved ∧ (parseStep w).fhold = true ∧ (prog5w w).pass ≠ some (prog5w w).flow) ∧
    (parseStep (stepBytes 0xF5 0 0 0 0)).fhold = false := by decide +kernel
theorem test_hyp_holdReport : (let p := { prog5w [] with phase := .holding }
    let s := programmed portUp [] { prog5 with phase := .holding }
    s.prog? 5 = some p ∧ p.queuedW ≤ p.provenW ∧ p.reports = [] ∧ (s.sub 5).closing = [] ∧ s.vfMaster p.start.tenant = true ∧
      s.sq? p.start.tenant p.start.sq = some sq0 ∧ s.cq? 0 sq0.cq = some cq0) := by decide +kernel
theorem test_hyp_busyRetry : (let b : Busy := ⟨1, 1000000000, true, 1⟩
    let s := programmed portUp [] { prog5 with busy := some b }
    s.prog? 5 = some { prog5w [] with busy := some b } ∧ b.waiting = true ∧ b.retryAt ≤ s.clk.now ∧ s.clk.now < b.retryAt + 1) := by decide +kernel
/-- Tenant 0 has been quiet since `q` with the program waiting on token 9. -/
def quietSince (q : Nat) (more : List Start) : State :=
  let s := programmed portUp [] { prog5 with phase := .waiting 1, waitNo := 3, named := [9] }
  { s with queues := { s.queues with tenants := [(0, { quiet := some q })] }, prog := { subs := s.prog.subs.map (fun b => (b.1, { b.2 with starts := more })) } }
theorem test_hyp_quiet : (let s := quietSince 984375000 [start5]
    (s.tenant 0).quiet = some 984375000 ∧ 984375000 + 15625000 ≤ s.clk.now ∧ s.waitersOf 0 = [(5, 3, true)] ∧
      (quietSince 984375000 []).waitersOf 0 = [(5, 3, false)] ∧ s.clk.now < 984375001 + 15625000) := by decide +kernel

theorem test_hyp_deviceStep : (let w := stepBytes 2 0 64 0 0x1000
    let s := atStep w
    let x : Path := ⟨0, 1⟩
    stepStands s 5 .read (prog5w w) (parseStep w) ∧ (parseStep w).fguard = false ∧ (parseStep w).fcolumn = false ∧ (parseStep w).findir = false ∧
      s.inWindows 0 0x1000 64 = true ∧ (prog5w w).path = some x ∧ s.usable x = true ∧ x ∈ s.groupPaths (s.sub 5).group ∧ s.foggy = false ∧
      s.turnOf 5 x.port = true ∧ (s.port x.port).headTag = some 0) := by unfold stepStands; decide +kernel
theorem test_hyp_deviceClasses : (let t := fun (o : Op) (op : Byte) (count : Nat) =>
      (stepStands (atStep (stepBytes op 0 count 0 0)) 5 o (prog5w (stepBytes op 0 count 0 0)) (parseStep (stepBytes op 0 count 0 0)) ∧
        (parseStep (stepBytes op 0 count 0 0)).fguard = false)
    t .write 0x41 1 ∧ t .sense 0x84 1 ∧ t .control 0xC3 0) := by unfold stepStands; decide +kernel
theorem test_hyp_stepOutside : (let w := stepBytes 2 0 2 0 0x10FFF
    stepStands (atStep w) 5 .read (prog5w w) (parseStep w) ∧ (atStep w).inWindows 0 0x10FFF 2 = false ∧ (parseStep w).count ≠ 0 ∧ (parseStep w).fskip = false) := by
  unfold stepStands; decide +kernel
theorem test_hyp_stepIndirect : (let w := stepBytes 2 0x10 64 0 0x10FF0
    let s := atStep w
    stepStands s 5 .read (prog5w w) (parseStep w) ∧ (parseStep w).findir = true ∧ (parseStep w).fcolumn = false ∧ (prog5w w).seg = none ∧
      s.listWindow 0 0x10FF0 = some ⟨0x1000, 0x10FFF⟩ ∧ inWindow 0x10FF0 16 ⟨0x1000, 0x10FFF⟩ = true ∧ s.vfMaster 0 = true) := by
  unfold stepStands; decide +kernel
theorem test_hyp_stepColumn : (let w := stepBytes 2 8 64 3 0x1000
    let b : Binding := ⟨none, [⟨0x1000, 0x10FFF⟩], 0x100000, 4096, 4, 0x8000⟩
    let s : State := { atStep w with queues := { (atStep w).queues with tenants := [(0, { binding := some b })] } }
    stepStands s 5 .read (prog5w w) (parseStep w) ∧ (parseStep w).fcolumn = true ∧ (s.tenant 0).binding = some b ∧ (parseStep w).aux.toNat < b.nmaps ∧
      (prog5w w).map = none ∧ (prog5w w).mapAsked = false ∧ s.vfMaster 0 = true ∧ (atStep w).tenant 0 = (up {}).tenant 0 ∧
      ((up {}).tenant 0).binding.map (·.nmaps) = some 0) := by unfold stepStands; decide +kernel
theorem test_hyp_stepChecks : (let t := fun (op flags : Byte) (count : Nat) (aux : Byte) =>
      (let w := stepBytes op flags count aux 0
       (atStep w).stepDue 5 = some (prog5w w, parseStep w) ∧ holdsHere (prog5w w) (parseStep w) = false)
    t 2 0 64 1 ∧ earlyCheck (parseStep (stepBytes 2 0 64 1 0)) = some (.check 4) ∧ t 2 0 0 0 ∧ earlyCheck (parseStep (stepBytes 2 0 0 0 0)) = some .zero ∧
      (prog5w []).guarded = none ∧ opOf 2 = .read) := by decide +kernel
/-- A read chain of one part, all of it taken, whose second step at 0x3010 is read. -/
def chain5 : Chain := { op := 2, input := true, output := false, parts := [⟨0x3000, 64, false, [(0x1000, 64)], 0⟩], whole := false, guard := false,
                         chain := false, post := false, last := 0x3000, tag := some 0, taken := 64 }
theorem test_hyp_continuation : (let w := stepBytes 2 4 64 0 0x1000 ++ stepBytes 2 0 64 0 0x1040
    let s := programmed portUp w { prog5 with chain := some chain5 }
    let c := parseStep (stepBytes 2 0 64 0 0x1040)
    s.contDue 5 = some ({ prog5w w with chain := some chain5 }, chain5, 0x3010, c) ∧ earlyContCheck true false c = none ∧ chain5.col = none ∧ c.fcolumn = false ∧
      c.findir = false ∧ c.fguard = false ∧ s.inWindows 0 c.addr c.count = true ∧ s.inWindows 0 0x10FFF 2 = false ∧ c.fskip = false) := by decide +kernel
theorem test_hyp_engine : (let s : State := { atStep [] with data := { (atStep []).data with pools := [(0, { waiting := [5] })] } }
    (s.pool 0).waiting = [(5 : SC).toNat] ∧ (s.pool 0).holders.any (fun h => h.2 == (5 : SC).toNat) = false ∧
      (s.data.pools.any (fun k => k.1 != (0 : Die).val && (k.2.holders.any (fun h => h.2 == (5 : SC).toNat) || k.2.waiting.contains (5 : SC).toNat))) = false ∧
      (List.range 8).find? (fun e => (tfind (s.pool 0).holders e).isNone && !(s.pool 0).retired.contains e && !(s.pool 0).testing.contains e) = some 0 ∧
      (s.pool 1).waiting = []) := by decide +kernel

theorem test_hyp_controlSteps : (let t := fun (o : Op) (op : Byte) (count : Nat) (aux : Byte) =>
      (let w := stepBytes op 0 count aux 0
       stepStands (atStep w) 5 o (prog5w w) (parseStep w))
    t .nop 0xF5 0 0 ∧ t .go 0xF1 0 1 ∧ t .test 0xF0 0x0404 1 ∧ t .test 0xF0 0x0004 1 ∧ t .wait 0xF2 0 9 ∧ t .post 0xF3 0 9 ∧ t .wait 0xF2 0 8 ∧
      (prog5w []).controls < 65536 ∧ ((prog5w []).s &&& BitVec.ofNat 8 0x0404) ≠ BitVec.ofNat 8 (0x0404 / 256) ∧
      ((prog5w []).s &&& BitVec.ofNat 8 0x0004) = BitVec.ofNat 8 (0x0004 / 256)) := by unfold stepStands; decide +kernel
theorem test_hyp_markTime : (let w := stepBytes 0xF4 0 0 1 0x10FF8
    stepStands (atStep w) 5 .mark (prog5w w) (parseStep w) ∧ (atStep w).inWindows 0 0x10FF8 8 = true ∧ (parseStep w).aux = 1 ∧
      (parseStep (stepBytes 0xF4 0 0 0 0x1000)).aux = 0) := by unfold stepStands; decide +kernel
theorem test_hyp_tokens : (let s := atStep []
    s.token? 9 = some token9 ∧ token9.owner = (prog5w []).start.tenant ∧ token9.fenced = false ∧ (∀ l, (prog5w []).level = some l → l < token9.rank) ∧
      0 < token9.value ∧ token9.waiters = [] ∧ { token9 with value := 0 }.value = 0 ∧ (prog5w []).queuedW ≤ (prog5w []).provenW ∧ token9.value < 65535 ∧
      ({ prog5w [] with queuedW := 1 }).provenW < ({ prog5w [] with queuedW := 1 }).queuedW ∧ s.token? 8 = none) :=
  ⟨by decide +kernel, by decide, by decide, fun l h => by simp [prog5w, prog5] at h, by decide, by decide, by decide, by decide, by decide, by decide, by decide +kernel⟩
theorem test_hyp_postToWaiter : (let w := stepBytes 0xF3 0 0 9 0
    let s0 := atStep w
    let q := { prog5w [] with path := none, phase := .waiting 3, named := [9] }
    let s : State := { s0 with prog := { subs := s0.prog.subs ++ [(6, { named := true, prog := some q })], tokens := [(9, { token9 with waiters := [6] })] } }
    stepStands s 5 .post (prog5w w) (parseStep w) ∧ s.token? 9 = some { token9 with waiters := [(6 : SC).toNat] } ∧ (6 : SC) ≠ 5 ∧ s.prog? 6 = some q ∧ q.path = none) := by
  unfold stepStands; decide +kernel
theorem test_hyp_controlLimit : (let w := stepBytes 0xF5 0 0 0 0
    let s := programmed portUp w { prog5 with controls := 65536 }
    stepStands s 5 .nop { prog5w w with controls := 65536 } (parseStep w) ∧ 65536 ≤ ({ prog5w w with controls := 65536 }).controls) := by
  unfold stepStands; decide +kernel
theorem test_hyp_reservedOperation : (let w := stepBytes 0xFF 0 0 0 0
    (atStep w).stepDue 5 = some (prog5w w, parseStep w) ∧ opOf (parseStep w).op = .reserved ∧ (prog5w w).guarded = none ∧ (prog5w w).stop = none) := by
  decide +kernel
theorem test_hyp_resume : (let w := stepBytes 0xF2 1 0 9 0
    let s := programmed portUp w { prog5 with phase := .satisfied, named := [9] }
    let p := { prog5w w with phase := .satisfied, named := [9] }
    s.prog? 5 = some p ∧ p.waitToken = some 9 ∧ s.token? 9 = some token9 ∧ p.stepAt p.flow = some (parseStep w) ∧ (parseStep w).fchain = true ∧
      (parseStep w).fpost = false ∧ p.path = some ⟨0, 1⟩ ∧ s.usable ⟨0, 1⟩ = true ∧ (parseStep (stepBytes 0xF2 0 0 9 0)).fchain = false) := by decide +kernel

/-- The program waits for a read of `key`. -/
def reading (key : ReadKey) (p : Prog) : State :=
  let s := programmed portUp [] p
  { s with hosts := [(0, { hostUp {} with reads := [⟨key, 2000000000, 1⟩] })] }
theorem test_hyp_groupRead : (let s := reading (.group 5 0x3040) { prog5 with asked := [(0xC1, true)] }
    let p := { prog5w [] with asked := [(0xC1, true)] }
    s.prog? 5 = some p ∧ tfind p.asked (groupOf 0x3040) = some true ∧ s.readPort (.group 5 0x3040) = some 0 ∧ s.readCount 0 (.group 5 0x3040) = 1 ∧
      p.groups.length < 64) := by decide +kernel
theorem test_hyp_segmentRead : (let g : SegRead := { step := 0x3000, addr := 0x1000, asked := true }
    let w := stepBytes 2 0x10 64 0 0x1000
    let s0 := programmed portUp w { prog5 with seg := some g }
    let s : State := { s0 with hosts := [(0, { hostUp {} with reads := [⟨.segments 5, 2000000000, 1⟩] })] }
    let one : Bytes := le 8 0x2000 ++ le 2 64 ++ List.replicate 6 0
    s.prog? 5 = some { prog5w w with seg := some g } ∧ s.readPort (.segments 5) = some 0 ∧ s.readCount 0 (.segments 5) = 1 ∧
      (({ prog5w w with seg := some g }).stepAt g.step).map (fun (w : StepW) => w.count) = some 64 ∧ segTake 64 g (padTo 16 one) = some { g with got := [(0x2000, 64)], asked := false, done := true } ∧
      segTake 64 g (List.replicate 16 0) = none ∧ (u16 one 8).toNat ≠ 0 ∧ allZero (bslice one 10 6) = true ∧ 63 < (u16 one 8).toNat ∧ g.got.length < 63 ∧
      allZero (bslice (List.replicate 16 1) 10 6) = false) := by decide +kernel
theorem test_hyp_mapRead : (let s := reading (.columnMap 5) { prog5 with mapAsked := true }
    s.prog? 5 = some { prog5w [] with mapAsked := true } ∧ s.readPort (.columnMap 5) = some 0 ∧ s.readCount 0 (.columnMap 5) = 1) := by decide +kernel
def out5 : Desc := { kind := 1, tenant := 0, addr := 0x1000, len := 512, sc := 5, xfer := (0, 0) }
theorem test_hyp_outputRead : (let s0 := reading (.output 5) prog5
    let s : State := { s0 with data := { s0.data with movers := [(0, { running := some (3, out5, false) })] } }
    s.outputMover 5 = some (0, 3, out5) ∧ s.readPort (.output 5) = some 0 ∧ s.readCount 0 (.output 5) ≤ 4096) := by decide +kernel
theorem test_hyp_readback : (let p := { prog5 with rb := some ⟨2, 0x1000, [some 7, none], false⟩ }
    let s := reading (.readback 5) p
    s.rbProg 5 = some { p with groups := [(0xC0, padTo 64 [])] } ∧ p.rb = some ⟨2, 0x1000, [some 7, none], false⟩ ∧ s.readPort (.readback 5) = some 0 ∧ s.readCount 0 (.readback 5) = 1 ∧
      rbMatches [some 7, none] [7, 9] = true ∧ rbMatches [some 7, none] [8, 9] = false) := by decide +kernel

/-! ### Data path, cages, links -/

theorem test_hyp_movers : (let d := out5
    let t := fun (d : Desc) => ({ up {} with data := { (up {}).data with movers := [(0, { channels := [(3, { queue := [d] })] })] } } : State)
    let s := t d
    (s.mover 0).fenced = false ∧ (s.mover 0).retired = false ∧ (s.mover 0).testing = false ∧ (s.mover 0).running = none ∧ s.data.inService = true ∧
      s.nextChannel (s.mover 0) = some 3 ∧ (tget {} (s.mover 0).channels 3).queue = [d] ∧ d.kind = 1 ∧ ({ d with kind := 2 }).kind ≠ 1 ∧
      (t { d with kind := 2 }).nextChannel ((t { d with kind := 2 }).mover 0) = some 3 ∧ (d.run.map s.runPoison).getD false = false ∧ 0 < (s.host (hostOf d.tenant)).tagsFree ∧ 0 < d.len ∧ d.addr / 64 * 64 < 2 ^ 64 ∧
      (d.addr + d.len + 63) / 64 * 64 - d.addr / 64 * 64 ≤ (s.host (hostOf d.tenant)).mrrs ∧
      d.addr / 64 * 64 % 4096 + ((d.addr + d.len + 63) / 64 * 64 - d.addr / 64 * 64) ≤ 4096) ∧
    (let r : Run := ⟨0, 1, 0, 64⟩
     (({ out5 with kind := 2, run := some r } : Desc).run.map (up {}).runPoison).getD false = true) ∧
    (let s : State := { up {} with data := { (up {}).data with movers := [(0, { running := some (3, out5, true) })] } }
     (s.mover 0).running = some (3, out5, true) ∧ (s.host (hostOf out5.tenant)).alive = true) := by decide +kernel
theorem test_hyp_patrols : (up {}).data.inService = true ∧ (0x2FFFFFFF : BitVec 30).toNat < 0x30000000 ∧
    ((up {}).faults.acts.any (fun a => a.1 == moverSite 0)) = false := by decide +kernel
theorem test_hyp_imbalance : (let counts := (5 : Nat) :: List.replicate 63 5
    (∀ j, j < 64 → counts.getD j 0 ≤ counts.getD 0 0) ∧ (∀ j, j < 0 → counts.getD j 0 < counts.getD 0 0) ∧ 0 < counts.getD 0 0) := by decide +kernel

/-- `up` with cage 0 as `g` and its port 0 as `x`, populated for modules of identity 0x18. -/
def caged (g : Cage) (x : Port) : State :=
  { up {} with ports := { ports := [(0, x)], cages := [(0, g)] }
               list := { loaded := true, cages := [(0, { state := 1, ident := 0x18, media := 0xFF, pmax := 16 })], waves := [(0, 1000000000)]
                         groups := [(0, { cu := 0, paths := [⟨0, 1⟩] })] } }
theorem test_hyp_cageWave : (let s := caged {} {}
    s.foggy = false ∧ ((0 : CageNum), 1000000000) ∈ s.list.waves ∧ 1000000000 ≤ s.clk.now ∧ (s.cageEntry 0).state = 1 ∧ (s.cageEntry 1).state ≠ 1 ∧
      (s.cage 0).retired = false ∧ (s.cage 0).tripped = false ∧ (s.cage 0).powered = false) := by decide +kernel
theorem test_hyp_cageModule : (let s := caged { powered := true, readyBy := some 1000000000 } {}
    let e := s.cageEntry 0
    (s.cage 0).powered = true ∧ (s.cage 0).present = true ∧ (s.cage 0).checked = false ∧ ((0x18 : Byte) = e.ident ∧ e.media = 0xFF) ∧
      (16 : Byte).toNat ≤ min e.pmax.toNat 32 ∧ min e.pmax.toNat 32 < (17 : Byte).toNat ∧ (0x19 : Byte) ≠ e.ident ∧ (s.cage 0).ready = false ∧
      (s.cage 0).readyBy = some 1000000000 ∧ 1000000000 ≤ s.clk.now ∧ s.data.inService = true) ∧
    (let s := caged { powered := true, checked := true, ready := true } {}
     (s.cage 0).checked = true ∧ s.mayLight 0 = true ∧ (s.port 0).txOn = false ∧ portCage 0 = 0) ∧
    ((caged { powered := true, checked := true } {}).cage 0).ready = false ∧
    ((caged { recheckAt := some 1000000000 } {}).cage 0).recheckAt = some 1000000000 ∧ (caged {} {}).clk.now < 1000000001 ∧
    (let s := caged { powered := true, present := false } {}
     (s.cage 0).present = false ∧ (s.cage 0).tripped = false ∧ (s.cage 0).powered = true ∧ s.list.loaded = true) ∧
    (let s : State := { caged {} {} with ports := { cages := [(1, { present := false })] } }
     (s.cage 1).present = false ∧ (s.cageEntry 1).state ≠ 1 ∧ (s.cage 1).powered = false ∧ (s.cage 2).present = true ∧ (s.cage 2).powered = false) := by decide +kernel

/-- `up` with port 0 as `x`. -/
def linked (x : Port) : State := caged { powered := true, checked := true, ready := true } x
theorem test_hyp_lock : (let x : Port := { txOn := true, link := 2 }
    x.locked = false ∧ x.refusedAt = none ∧ (linked x).port 0 = x) ∧ (linked portUp).port 0 = portUp ∧ portUp.lastRx + 156250 ≤ (linked portUp).clk.now ∧
    (linked portUp).clk.now < ({ portUp with lastRx := 999843751 }).lastRx + 156250 ∧ ({ portUp with link := 3 }).link ≠ 5 ∧
    (let x : Port := { txOn := true, locked := true, link := 3, helloAt := some 1000000000 }
     (linked x).port 0 = x ∧ x.helloAt = some 1000000000 ∧ 1000000000 ≤ (linked x).clk.now ∧ x.helloSeen = false ∧ x.refusedAt = none ∧
       (linked x).clk.now < 1000000001) ∧
    (let x : Port := { txOn := true, locked := true, refusedAt := some 1000000000 }
     (linked x).port 0 = x ∧ x.refusedAt = some 1000000000) ∧ portUp.lastTx + 15625 ≤ (linked portUp).clk.now ∧
    (let x := { portUp with waitSince := some 999999840 }
     x.waitSince = some 999999840 ∧ 999999840 + 160 ≤ (linked x).clk.now ∧ (linked x).clk.now < 999999841 + 160) ∧ portUp.exch = [] := by decide +kernel


/-- A sealed frame passes checks 1 to 3 of R271 when its own fields do. -/
theorem sealed_good (f : Frame) (h : (f.len.toNat != f.payload.length || f.ver != 1 ||
    (if f.typ = 2 then f.len.toNat < 1 || 2048 < f.len.toNat else f.len != 0) || (f.len = 0 && payloadCrc f.payload != 0)) = false) :
    frameBad (sealFrame f) = false := by
  have e : frameHeader (sealFrame f) = frameHeader f := rfl
  simp only [frameBad, e, show (sealFrame f).hcrc = crc32c (frameHeader f) from rfl, bne_self_eq_false, Bool.or_false]
  exact h
theorem xor_one_ne (x : W32) : x ^^^ 1#32 ≠ x := fun h => by
  have := congrArg (fun y => y.getLsbD 0) h
  simp at this
/-- A HELLO of a unit (R258) with 16 credits of each class and 64 exchanges; `v` its version. -/
def hello0 (v : Byte) : Frame := sealFrame { control 1 with body := [v, 1, 0, 0, 16, 0, 16, 0, 64, 0, 0, 0] }
theorem test_hyp_hello : (hello0 1).typ = 6 ∧ (hello0 1).sub = 1 ∧ frameBad (hello0 1) = false ∧ frameBad (hello0 2) = false ∧
    helloRefused false (hello0 1) = 0 ∧ helloRefused false (hello0 2) ≠ 0 ∧ (linked { txOn := true, locked := true, link := 3 }).port 1 = {} ∧
    (linked {}).namedAddrs 1 = [] ∧ (linked {}).balanced 2 0 = true :=
  ⟨rfl, rfl, sealed_good _ rfl, sealed_good _ rfl, by decide, by decide, by decide, by decide, by decide⟩
/-- A CREDIT frame arrives at a port that is up. -/
theorem test_hyp_credit : (sealFrame { blank 5 with body := [32, 0, 0, 0, 32, 0, 0, 0, 0, 0, 0, 0] }).typ = 5 ∧
    arrives (linked portUp) 0 (sealFrame { blank 5 with body := [32, 0, 0, 0, 32, 0, 0, 0, 0, 0, 0, 0] }) :=
  ⟨rfl, by decide, by decide, by decide, by decide, sealed_good _ rfl, by decide, fun b h => by cases h⟩
theorem test_hyp_absentRetry : (let s0 := linked { portUp with freed := [] }
    let s : State := { s0 with list := { s0.list with paths := [(1, { absent := true, retryAt := some 1000000000 })] } }
    (s.pathSt 0 1).retryAt = some 1000000000 ∧ (s.pathSt 0 1).absent = true ∧ (s.pathSt 0 1).probing = false ∧ (s.port 0).link = 5 ∧ (s.port 0).muted = false ∧
      1000000000 ≤ s.clk.now ∧ s.namedAddrs 0 = [1] ∧ s.foggy = false ∧ (s.port 0).exch.any (fun e => e.2.owner == .ident 1) = false ∧
      (s.port 0).headTag = some 0 ∧ s.clk.now < 1000000001) := by decide +kernel

/-- Exchange 7 of the program, with what is given; the port that has it; the frame `f` of it. -/
def exch7 : Exch := { owner := .prog 5, gen := 0, cuaddr := 1, devaddr := 0, input := true, output := false, sent := true }
def talking (e : Exch) : State := programmed { portUp with exch := [(7, e)] } [] { prog5 with chain := some chain5 }
def of7 (f : Frame) : Frame := sealFrame { f with tag := 7, cuaddr := 1 }
theorem arrives_talking (e : Exch) (f : Frame) (h : frameBad f = false) : arrives (talking e) 0 f :=
  ⟨rfl, rfl, rfl, rfl, h, rfl, fun b _ => by
    cases b
    · exact (by decide : portUp.cOut ≠ 0)
    · exact (by decide : portUp.dOut ≠ 0)⟩
theorem names_talking (e : Exch) (f : Frame) (ht : f.tag = 7) (hg : e.gen = f.gen) (hs : e.sent = true) (hc : e.cuaddr = f.cuaddr)
    (hd : e.devaddr = f.devaddr) : namesExch (talking e) 0 f e := ⟨by rw [ht]; rfl, hg, hs, hc, hd⟩

theorem test_hyp_controlFrames : (∀ sub ∈ [2, 4, 6, 7, 8], arrives (talking exch7) 0 (of7 (control sub)) ∧ namesExch (talking exch7) 0 (of7 (control sub)) exch7 ∧
      (of7 (control sub)).typ = 6 ∧ (of7 (control sub)).sub = sub) ∧
    (1 : Byte) ∈ (talking exch7).namedAddrs 0 ∧ (2 : Byte) ∉ (talking exch7).namedAddrs 0 := by
  refine ⟨fun sub h => ⟨arrives_talking _ _ (sealed_good _ rfl), names_talking _ _ rfl rfl rfl rfl rfl, rfl, rfl⟩, by decide +kernel, by decide +kernel⟩
/-- DATA in its place, after its place, before it, and with a PCRC that does not fit. -/
theorem test_hyp_data : (let f := fun (seq : W16) => of7 { blank 2 with seq := seq, len := 4, payload := [1, 2, 3, 4] }
    let e := { exch7 with rxSeq := 5 }
    let bad : Frame := { f 5 with pcrc := (f 5).pcrc ^^^ 1 }
    (∀ n, arrives (talking e) 0 (f n) ∧ namesExch (talking e) 0 (f n) e ∧ (f n).typ = 2 ∧ (f n).pcrc = payloadCrc (f n).payload) ∧
      (f 5).seq = BitVec.ofNat 16 e.rxSeq ∧ seqPlace (f 6).seq e.rxSeq = .after ∧ seqPlace (f 4).seq e.rxSeq = .before ∧ e.input = true ∧ e.refuse = none ∧
      e.gap = false ∧ tget 0 e.named e.rxSeq < 3 ∧ tget 0 { e with named := [(5, 2)] }.named e.rxSeq < 3 ∧ bad.pcrc ≠ payloadCrc bad.payload ∧
      ({ exch7 with input := false }).input = false ∧ ({ exch7 with gen := 1 }).gen ≠ (f 5).gen) := by
  refine ⟨fun n => ⟨arrives_talking _ _ (sealed_good _ rfl), names_talking _ _ rfl rfl rfl rfl rfl, rfl, rfl⟩, by decide, by decide +kernel, by decide +kernel, rfl, rfl,
    rfl, by decide, by decide, ?_, rfl, by decide⟩
  exact xor_one_ne _
theorem test_hyp_dataReq : (let e := { exch7 with input := false, output := true }
    let f := of7 { blank 3 with offset := 0, body := [64, 0, 0, 0, 0, 0, 0, 0, 0, 0, 0, 0] }
    arrives (talking e) 0 f ∧ namesExch (talking e) 0 f e ∧ f.typ = 3 ∧ e.output = true ∧ e.owner = .prog 5 ∧
      (talking e).prog? 5 = some { prog5w [] with chain := some chain5 }) :=
  ⟨arrives_talking _ _ (sealed_good _ rfl), names_talking _ _ rfl rfl rfl rfl rfl, rfl, rfl, rfl, by decide +kernel⟩
theorem test_hyp_status : (let f := fun (seq : W16) => of7 { blank 4 with seq := seq }
    (∀ n, arrives (talking exch7) 0 (f n) ∧ namesExch (talking exch7) 0 (f n) exch7 ∧ (f n).typ = 4) ∧ statusInOrder exch7 (f 0) = true ∧
      statusInOrder exch7 (f 1) = false ∧ exch7.gap = false ∧ tget 0 exch7.named exch7.rxSeq < 3) :=
  ⟨fun n => ⟨arrives_talking _ _ (sealed_good _ rfl), names_talking _ _ rfl rfl rfl rfl rfl, rfl⟩, by decide +kernel, by decide +kernel, rfl, by decide⟩
theorem test_hyp_resend : (let k := (1, exchFrame { blank 2 with len := 4, payload := [1, 2, 3, 4] } 7 exch7, ([⟨0, 0, 0, 4⟩] : List Run))
    let e := { exch7 with output := true, kept := [k] }
    let f := of7 (control 6)
    arrives (talking e) 0 f ∧ namesExch (talking e) 0 f e ∧ f.typ = 6 ∧ f.sub = 6 ∧ (∃ x ∈ e.kept, x.2.1.seq = f.seq) ∧
      tget 0 e.unitNamed f.seq.toNat < 3) :=
  ⟨arrives_talking _ _ (sealed_good _ rfl), names_talking _ _ rfl rfl rfl rfl rfl, rfl, rfl, by decide +kernel, by decide⟩
/-- ABORT 7 stands unanswered. -/
def quar7 : Quar := ⟨0, 1, 0, 3, 3, some 1000000000, true, false⟩
def aborted7 (q : Quar) : State := programmed { portUp with quar := [(7, q)] } [] prog5
theorem test_hyp_abortAck : (let f := of7 (control 4)
    arrives (aborted7 quar7) 0 f ∧ f.typ = 6 ∧ f.sub = 4 ∧ tfind ((aborted7 quar7).port 0).exch f.tag.toNat = none ∧
      tfind ((aborted7 quar7).port 0).quar f.tag.toNat = some quar7 ∧ quar7.gen = f.gen ∧ quar7.sent = true ∧ quar7.retired = false ∧ quar7.cuaddr = f.cuaddr ∧
      quar7.devaddr = f.devaddr) :=
  ⟨⟨rfl, rfl, rfl, rfl, sealed_good _ rfl, rfl, fun b _ => by cases b <;> decide⟩, rfl, rfl, by decide +kernel, by decide +kernel, rfl, rfl, rfl, rfl, rfl⟩
theorem test_hyp_noCredit : (let f := of7 { blank 2 with len := 4, payload := [1, 2, 3, 4] }
    let s := linked { portUp with dcumTx := 0 }
    (s.port 0).txOn = true ∧ (s.port 0).locked = true ∧ (s.port 0).refusedAt = none ∧ (s.port 0).helloSeen = true ∧ frameBad f = false ∧ f.typ = 2 ∧ (s.port 0).dOut = 0) :=
  ⟨rfl, rfl, rfl, rfl, sealed_good _ rfl, rfl, by decide⟩

theorem test_hyp_exchTimers : (let e := { exch7 with cmdAt := some 1000000000, missAt := some 1000000000 }
    let s := talking e
    tfind (s.port 0).exch (7 : Tag).toNat = some e ∧ e.cmdAt = some 1000000000 ∧ 1000000000 ≤ s.clk.now ∧ e.accepted = false ∧ e.sent = true ∧ e.owner = .prog 5 ∧
      e.missAt = some 1000000000 ∧ e.input = true ∧ s.clk.now < 1000000001) ∧
    (let e := { exch7 with accepted := true, inactAt := some 1000000000 }
     tfind ((talking e).port 0).exch 7 = some e ∧ (talking e).owes 0 7 e = false) ∧
    (let e := { exch7 with input := false, output := true }
     let s := programmed { portUp with exch := [(7, e)], dataQ := [⟨blank 2, some 7, []⟩] } [] prog5
     s.owes 0 7 e = true) := by decide +kernel
theorem test_hyp_abortTimers : tfind ((aborted7 quar7).port 0).quar (7 : Tag).toNat = some quar7 ∧ quar7.expires = some 1000000000 ∧
    1000000000 ≤ (aborted7 quar7).clk.now ∧ 3 ≤ quar7.tries ∧ { quar7 with tries := 2 }.tries < 3 ∧ (aborted7 quar7).clk.now < 1000000001 := by decide +kernel
theorem test_hyp_transmit : (let p := { portUp with resends := [⟨control 6, some 7, []⟩] }
    (linked p).port 0 = p ∧ p.txOn = true ∧ p.locked = true ∧ p.refusedAt = none ∧ (linked p).side.pinsTaken = false ∧ p.helloSeen = true ∧ 0 < p.cHand) ∧
    ({ portUp with helloSeen := false, helloDue := true }).helloDue = true ∧ ({ portUp with creditDue := true }).resends = [] ∧
    (let p := { portUp with controls := [⟨control 3, some 7, []⟩], quar := [(7, quar7)] }
     p.controls = [⟨control 3, some 7, []⟩] ∧ 0 < p.cHand ∧ (control 3).sub = 3 ∧ tfind p.quar 7 = some quar7 ∧ p.creditDue = false ∧ p.helloDue = false) ∧
    ({ portUp with echoDue := true }).controls = [] ∧
    (let i : TxItem := ⟨exchFrame (blank 1) 7 exch7, some 7, []⟩
     let s := programmed { portUp with exch := [(7, exch7)], ctrlQ := [i] } [] prog5
     let p := s.port 0
     p.controls = [] ∧ p.echoDue = false ∧ p.muted = false ∧ s.foggy = false ∧ p.ctrlQ = [i] ∧ 0 < p.cHand ∧ p.dataQ = [] ∧ i.tag = some 7 ∧
       tfind p.exch 7 = some exch7 ∧ exch7.owner = .prog 5 ∧ s.prog? 5 = some (prog5w [])) ∧
    (let e := { exch7 with input := false, output := true }
     let i : TxItem := ⟨exchFrame { blank 2 with len := 4, payload := [1, 2, 3, 4] } 7 e, some 7, []⟩
     let s := programmed { portUp with exch := [(7, e)], dataQ := [i] } [] prog5
     let p := s.port 0
     p.dataQ = [i] ∧ 0 < p.dHand ∧ p.throttle = false ∧ p.ctrlQ = [] ∧ (i.srcs.any s.runPoison) = false ∧ tfind p.exch 7 = some e ∧
       e.txSent % 65536 = i.frame.seq.toNat) := by decide +kernel
theorem test_hyp_calm : calm (up {}) := by
  have hp : ∀ d, (up {}).port d = {} := fun d => rfl
  have hs : ∀ d, (up {}).spill d = 0 := fun d => by rw [State.spill, hp, show (up {}).prog.subs = [] from rfl]; simp
  refine ⟨fun d => .inl ?_, fun d => .inl ?_, fun d => ⟨?_, fun h => ?_, fun _ => ?_⟩, by decide, rfl, fun p => ?_⟩
  · rw [hp]; decide
  · rw [hp]
  · rw [hp, hs]; rfl
  · rw [hp] at h; cases h
  · rw [hs]; decide
  · have h : ∀ p : HPort, (((up {}).oq p).active = none ∧ ((up {}).oq p).waitPrior = (up {}).waitsPrior p) ∧ (up {}).headSlot p = none := by decide
    exact ⟨(h p).1.1, (h p).1.2, fun st b => by rw [(h p).2]; exact fun h => nomatch h⟩

/-! ### Conditions that stand beside those above -/

theorem test_hyp_lockstep : ((core { cyc := 1024 }).pair 0).running = true ∧ ((core { cyc := 1024 }).pair 0).sigAt + 1024 ≤ ((core { cyc := 1024 }).pair 0).cyc.toNat ∧
    ((core {}).pair 0).cyc.toNat < ((core {}).pair 0).sigAt + 1024 ∧ ((core {}).pair 0).signature [] ^^^ 1 ≠ ((core {}).pair 0).signature [] := by
  refine ⟨by decide, by decide, by decide, fun h => ?_⟩
  have := congrArg (fun y => y.getLsbD 0) h
  simp at this
theorem test_hyp_pairPatrol : (let s : State := { core {} with data := { inService := true } }
    let site := siteCode 1 1 0 64 0
    pairOfSite site = some 0 ∧ patrolled site = true ∧ s.data.inService = true ∧ s.faults.acts.any (fun a => a.1 == site) = false ∧ (s.pair 0).running = true ∧
      (0 : BitVec 30).toNat < 0x30000000 ∧ (0 : BitVec 30).toNat ∉ s.data.scrubbed ∧ s.data.scrubbed.length < 0x2FFFFFFF ∧
      (0 : BitVec 30).toNat ∈ ({ scrubbed := [0] } : DataPath).scrubbed ∧ patrolled (moverSite 0) = false ∧ pairOfSite (moverSite 0) = none ∧
      (({} : State).pair 0).running = false) := by decide +kernel

theorem test_hyp_reads : (up {}).reachable (.pf 0) = true ∧ readGood 4 [true, true] = true ∧ readGood 4 [false, true, true, false] = false ∧
    8 ≤ ((up {}).host 0).mps ∧ (1 : Byte) ≠ 0 ∧ 2 ≤ (5 : Fin 6).val ∧ (up {}).reachable (.vf 0) = true := by decide +kernel
theorem test_hyp_unmask : (let s := upFn id { mse := true, bme := true, msixEn := true, pba := 0x8000, msix := [(15, { addr := 0x100, masked := true })] }
    s.reachable (.vf 0) = true ∧ (s.fn (.vf 0)).pba.getLsbD 15 = true) := by decide +kernel
theorem test_hyp_markReread : (let k := { sq0 with tail := 1, markWait := some (999843750, 999843910) }
    let s := queued k cq0
    k.markWait.isSome = true ∧ s.queues.arb.grant = none ∧ s.winner = some (qIndex 0 0) ∧ s.eligible 0 0 = true ∧ tfind k.copies k.fetch = none) := by decide +kernel
theorem test_hyp_orderReads : (let s := up { en := true, dlog := 2, tail := 1, markWait := some (999843751, 1000000000) }
    (s.oq 0).obase.toNat % 4096 = 0 ∧ 128 ≤ (s.host 0).mrrs ∧ 0 < (s.host 0).tagsFree ∧ (s.host 0).readQ = []) := by decide +kernel
theorem test_hyp_orderAfter : ((working (packet 0x10 []) (.portUp 0 1000000000 [])).oq 0).active.map (·.after) = some .none ∧
    ((listing.oq 0).active.map (·.after)) = some .none := by decide +kernel
theorem test_hyp_sites : siteNamed (u32 (packet 0x42 [(0x10, 0xFF), (0x11, 0x0F), (0x12, 0x42), (0x13, 0x60)]) 0x10) = true ∧
    siteNamed (u32 (packet 0x42 []) 0x10) = false ∧ orderStands (ordered (packet 0x42 [])) 0 (packet 0x42 []) ∧
    (let b := packet 0x42 [(0x10, 0xFF), (0x11, 0x1F), (0x12, 0x43), (0x13, 0x60)]
     siteNamed (u32 b 0x10) = true ∧ (ordered b).siteRefused (u32 b 0x10) = true ∧ orderStands (ordered b) 0 b) ∧
    (let b := packet 0x40 [(0x10, 0xFF), (0x11, 0x0F), (0x12, 0x42), (0x13, 0x60), (0x15, 1), (0x18, 1)]
     byteAt b 0x14 = 0 ∧ siteNamed (u32 b 0x10) = true ∧ orderStands (ordered b) 0 b) ∧
    siteNamed (u32 (packet 0x40 [(0x15, 255), (0x18, 1)]) 0x10) = false ∧ orderStands (ordered (packet 0x40 [(0x15, 255), (0x18, 1)])) 0 (packet 0x40 [(0x15, 255), (0x18, 1)]) := by unfold orderStands; decide +kernel
theorem test_hyp_pins : (let s := up {}
    s.domOn 60 = true ∧ ({} : State).domOn 60 = false ∧ scanCells.contains (.modPrsL 3) = true ∧ scanCells.contains (.perst 1) = true ∧
      (ScanSignal.hostLane 0 0 true).domain = some 58) := by decide +kernel

/-- `atStep` with the places of its step group in the step cache known. -/
def slotted (w : Bytes) (p : Prog) : State := programmed portUp w { p with slots := [0xC0] }
theorem test_hyp_starts : (let s0 := atStep []
    let x := { start5 with pre := some (List.replicate 64 0) }
    let s : State := { s0 with prog := { subs := [(5, { named := true, enable := true, starts := [x] })] } }
    (s.sub 5).starts = [x] ∧ x.pre = some (List.replicate 64 0) ∧ start5.pre = none ∧ s.poisoned (4 * (5 : SC).toNat) = false) ∧
    (∀ i, i < 4 → (atStep []).poisoned (4 * (5 : SC).toNat + i) = false) :=
  ⟨by decide +kernel, fun _ _ => rfl⟩
theorem test_hyp_holdPasses : (let w := stepBytes 0xF5 0x80 0 0 0
    (slotted w prog5).stepDue 5 = some ({ prog5w w with slots := [0xC0] }, parseStep w) ∧ 0 < ({ prog5w w with slots := [0xC0] } : Prog).slots.length) := by
  decide +kernel
theorem test_hyp_stepReads : (let s := atStep []
    128 ≤ (s.host 0).mrrs ∧ 0 < (s.host 0).tagsFree ∧ (s.host 0).readQ = [] ∧ (prog5w []).pages = [] ∧ (prog5w []).reports = [] ∧ (s.sub 5).closing = [] ∧
      (0x8000 : W64).toNat % 4096 = 0 ∧ 0x240 ≤ 1024) ∧
    (let s0 := atStep []
     let s : State := { s0 with hosts := [(0, { hostUp {} with mrrs := 1024 })] }
     0x240 ≤ (s.host 0).mrrs) := by decide +kernel
/-- A write chain of one part with output read ahead for the step at 0x3010. -/
def aheadOf (part : Part) : Ahead := { part := { part with passage := 7 } }
theorem test_hyp_ahead : (let part : Part := { step := 0x3010, count := 64, skip := false, segs := [(0x1040, 64)] }
    (prog5w []).aheadFor part = none ∧ ({ prog5w [] with ahead := [aheadOf part] }).aheadFor part = some (aheadOf part)) ∧
    stepSound (atStep []) 5 0x3010 := by unfold stepSound; decide +kernel
theorem test_hyp_stops : (let e : Ending := { code := 0x08, reason := 1 }
    let w := stepBytes 0xF2 1 0 9 0
    let s := programmed portUp w { prog5 with phase := .satisfied, named := [9], stop := some e }
    let p := { prog5w w with phase := .satisfied, named := [9], stop := some e }
    s.prog? 5 = some p ∧ p.waitToken = some 9 ∧ p.stepAt p.flow = some (parseStep w) ∧ p.stop = some e) ∧ (prog5w []).stop = none ∧
    (let g : Guarded := ⟨0x3000, false, 5, 0x3000, 0⟩
     let p := { prog5w [] with s := 0x40, residue := some g }
     (programmed portUp [] { prog5 with s := 0x40, residue := some g }).prog? 5 = some p ∧ p.s.getLsbD 6 = true ∧ p.residue = some g ∧ (prog5w []).s.getLsbD 6 = false ∧
       (prog5w []).residue = none) := by decide +kernel
theorem test_hyp_moverStates : (let t := fun (d : Desc) => ({ up {} with data := { (up {}).data with movers := [(0, { running := some (3, d, true) })] } } : State)
    let d := { out5 with kind := 2 }
    ((t d).mover 0).running = some (3, d, true) ∧ (((t d).progX? d.sc d.xfer).map (fun p => p.spoilt && !d.head.isEmpty)).getD false = false ∧ d.more = false ∧
      ((t d).host (hostOf d.tenant)).alive = true ∧ ({ d with more := true }).more = true ∧ ((up {}).mover 0).running = none) ∧
    (let d := { out5 with kind := 2, head := [1] }
     let s := programmed portUp [] { prog5 with spoilt := true }
     ((s.progX? d.sc d.xfer).map (fun p => p.spoilt && !d.head.isEmpty)).getD false = true) := by decide +kernel
theorem test_hyp_windows : (∀ x ∈ (⟨[(64, true)], true⟩ : CtrlLoad).reqs, smallRequest x = true) ∧
    (∀ x ∈ (⟨[(20000000, false)], true⟩ : CtrlLoad).reqs, smallRequest x = false) ∧ (⟨[], true⟩ : CtrlLoad).bulkWaits = true ∧
    (⟨[], false⟩ : CtrlLoad).bulkWaits = false ∧ (∀ j, j < 64 → (List.replicate 64 0).getD j 0 = 0) := by
  refine ⟨fun x h => ?_, fun x h => ?_, rfl, rfl, by decide⟩
  · rw [List.mem_singleton.mp h]; decide
  · rw [List.mem_singleton.mp h]; decide

theorem test_hyp_cages : (let s := caged { tripped := true, present := false } {}
    (s.cage 0).tripped = true ∧ (s.cage 0).present = false ∧ (s.cageEntry 0).state = 1 ∧ (s.cage 0).retired = false) ∧
    (let s := caged {} {}
     (s.cage 0).present = true ∧ (s.cage 0).powered = false ∧ (s.cageEntry 0).state = 1 ∧ (s.cage 1).powered = false ∧ (s.cageEntry 1).state ≠ 1) ∧
    (let s0 := caged {} {}
     let s : State := { s0 with power := { s0.power with domains := [(56, { on := true }), (57, { on := true })] } }
     s.hbmOn = true ∧ s.domOn 0 = false ∧ tget false s.therm.dieWithdrawn (1 + (4 * (0 : CageNum).val + 0) / 12) = false) := by decide +kernel

theorem test_hyp_waits : ((linked portUp).waitingFrames 0 = []) ∧ (linked portUp).portNamed 0 = true ∧ (linked portUp).portNamed 1 = false ∧
    (linked portUp).portDomainOn 1 = true ∧ (linked portUp).portDomainOn 0 = true ∧ (linked portUp).data.inService = true ∧
    (let x : Port := { txOn := true, refusedAt := some 1000000000 }
     x.txOn = true ∧ x.locked = false ∧ x.refusedAt ≠ none) ∧ portUp.quar = [] ∧ portUp.owed = [] ∧ portUp.exch = [] ∧
    ({ txOn := true, locked := true, link := 3 } : Port).link ≠ 5 ∧ portUp.retrainDue = false ∧ ((linked {}).port 1).txOn = false := by decide +kernel
/-- `s` with the command of the frame `f` at port 0 waiting in the queue. -/
def queueing (s : State) (f : Frame) : State := { s with pending := [.status 0 f] }
theorem test_hyp_sameCycle : (let e := { exch7 with cmdAt := some 1000000000 }
    let busy := of7 { blank 4 with flags := 1 }
    (queueing (talking e) busy).statusWaits 0 7 e = true ∧ (queueing (talking e) busy).acceptWaits 0 7 e = false ∧
      (queueing (talking e) (of7 (blank 4))).acceptWaits 0 7 e = true ∧ (queueing (talking e) busy).frameWaits 0 7 e = true ∧
      (queueing (talking e) busy).waitingFrames 0 ≠ [] ∧ (talking e).statusWaits 0 7 e = false ∧ (talking e).acceptWaits 0 7 e = false ∧
      (talking e).frameWaits 0 7 e = false ∧ ((queueing (talking e) busy).port 0).locked = true) := by decide +kernel
theorem test_hyp_frames : (let f := of7 (blank 4)
    (f.tag.toNat, f.gen) ∈ ({ portUp with early := [(7, 0)] } : Port).early ∧ (f.tag.toNat, f.gen) ∉ portUp.early ∧ f.typ = 4) ∧
    (let k : TxItem := ⟨exchFrame { blank 2 with len := 4, payload := [1, 2, 3, 4] } 7 exch7, some 7, []⟩
     (∃ i ∈ [k], i.tag = some (of7 (control 6)).tag ∧ i.frame.seq = (of7 (control 6)).seq) ∧ seqPlace (of7 (control 6)).seq 1 = .before) ∧
    (of7 { blank 2 with seq := 0, len := 4 }).typ = 2 ∧ (2 : Byte) ∉ (talking exch7).namedAddrs 0 := by decide +kernel
theorem arrives_early (f : Frame) (h : frameBad f = false) :
    arrives (programmed { portUp with early := [(7, 0)] } [] prog5) 0 f :=
  ⟨rfl, rfl, rfl, rfl, h, rfl, fun b _ => by
    cases b
    · exact (by decide : portUp.cOut ≠ 0)
    · exact (by decide : portUp.dOut ≠ 0)⟩
theorem test_hyp_boundary : (programmed portUp [] prog5).waitingFrames 0 = [] ∧ (linked portUp).waitingFrames 0 = [] ∧
    ({ portUp with ctrlQ := [], dataQ := [] } : Port).lastCtrl = false := by decide +kernel
end Sys2Proof.Tests
end

/-! ### Hild-14: parity and bit reverse, branches and calls (R312, R318)

Both obligations rest on `State.issueLocal_pair` and `State.issueLocal_only`: the instruction's effect is that of a function on the
pair as issued, and every other part of the state stands. What remains is what that function does. -/

namespace Sys2Proof.Machine

open Sys2Proof

/-! ### The values of PARW and BREV -/

/-- An XOR over a list is the parity of the number of its members that are set. -/
theorem foldl_xor_eq_countP_odd (f : Nat → Bool) (l : List Nat) (a : Bool) :
    l.foldl (fun x i => x ^^ f i) a = (a ^^ decide (l.countP f % 2 = 1)) := by
  induction l generalizing a with
  | nil => simp
  | cons i l ih =>
    rw [List.foldl_cons, ih, List.countP_cons]
    rcases Nat.mod_two_eq_zero_or_one (l.countP f) with h | h <;> cases f i <;> simp [h, Nat.add_mod]

theorem parity_eq_xor (x : W32) :
    parity x = if (List.range 32).foldl (fun a i => a ^^ x.getLsbD i) false then 1 else 0 := by
  rw [foldl_xor_eq_countP_odd (fun i => x.getLsbD i), Bool.false_xor, parity]
  rcases Nat.mod_two_eq_zero_or_one ((List.range 32).countP fun i => x.getLsbD i) with h | h <;> simp [h]

theorem bitReverse_getLsbD (x : W32) (i : Nat) (hi : i < 32) : (bitReverse x).getLsbD i = x.getLsbD (31 - i) := by
  rw [bitReverse, BitVec.getLsbD_reverse, BitVec.getMsbD, decide_eq_true hi, Bool.true_and]

/-- An instruction of one source register and one destination writes `f` of the source, in one cycle. -/
theorem State.alu1_writes (s : State) (c : PairNum) (i : Instr) (ra rb : Reg) (f : W32 → W32) (h : issues s c false) :
    writesRegister c ra (f ((s.pair c).gr rb)) [rb] 1 s (s.alu1 c i ra rb f) :=
  s.issueLocal_writes c (coreWord i) false [rb] ra 1 (fun p => f (p.gr rb)) (congrArg f (Pair.issued_gr _ _ _)) h

/-- Settles O3: PARW and BREV are one-source instructions whose values are the parity and the reversal of the source. -/
theorem parityAndBitReverse : Obligations.ParityAndBitReverse := by
  intro c ra rb s h b
  refine ⟨⟨doParw c ra rb s, rfl, ?_⟩, ⟨doBrev c ra rb s, bitReverse b, rfl, bitReverse_getLsbD b, s.alu1_writes c _ ra rb bitReverse h⟩⟩
  rw [← parity_eq_xor]
  exact s.alu1_writes c _ ra rb parity h

/-! ### What the issue leaves of a pair -/

@[simp] theorem Pair.issued_pc (p : Pair) (reads : List Reg) : (p.issued reads).pc = p.pc := by rw [p.issued_frame reads]
@[simp] theorem Pair.issued_fl (p : Pair) (reads : List Reg) : (p.issued reads).fl = p.fl := by rw [p.issued_frame reads]
@[simp] theorem Pair.issued_waiting (p : Pair) (reads : List Reg) : (p.issued reads).waiting = false := rfl
@[simp] theorem Pair.issued_cyc (p : Pair) (reads : List Reg) :
    (p.issued reads).cyc = p.cyc + BitVec.ofNat 64 (stallOf p reads) := by rw [p.issued_frame reads]
@[simp] theorem Pair.issued_imm {w : Nat} (p : Pair) (reads : List Reg) (low : BitVec w) : (p.issued reads).imm low = p.imm low := by
  rw [p.issued_frame reads]; rfl
@[simp] theorem Pair.issued_target {w : Nat} (p : Pair) (reads : List Reg) (low : BitVec w) :
    (p.issued reads).target low = p.target low := by
  rw [Pair.target, Pair.issued_pc, Pair.issued_imm, Pair.target]

@[simp] theorem Pair.gw_cyc (p : Pair) (ra : Reg) (v : W32) : (p.gw ra v).cyc = p.cyc := by rw [p.gw_frame]
@[simp] theorem Pair.gw_waiting (p : Pair) (ra : Reg) (v : W32) : (p.gw ra v).waiting = p.waiting := by rw [p.gw_frame]

/-! ### Only registers, flow and clock -/

section
variable {p q : Pair}

theorem onlyRegisters_issued (p : Pair) (reads : List Reg) : onlyRegisters p (p.issued reads) := by
  have hnil := p.issued_products_nil reads
  rw [p.issued_frame reads]
  exact ⟨rfl, rfl, rfl, rfl, rfl, rfl, rfl, rfl, rfl, rfl, fun _ => rfl, rfl, rfl, rfl, rfl, rfl, rfl, rfl, hnil⟩

theorem onlyRegisters_gw (h : onlyRegisters p q) (ra : Reg) (v : W32) : onlyRegisters p (q.gw ra v) := by
  rw [q.gw_frame]
  exact h

theorem onlyRegisters_jump (h : onlyRegisters p q) (target : BitVec 15) (n : Nat) : onlyRegisters p (q.jump target n) := h

theorem onlyRegisters_next (h : onlyRegisters p q) (n : Nat) : onlyRegisters p (q.next n) := h

theorem onlyFlow_issued_jump (p : Pair) (reads : List Reg) (target : BitVec 15) (n : Nat) :
    onlyFlow p ((p.issued reads).jump target n) :=
  ⟨onlyRegisters_jump (onlyRegisters_issued p reads) target n, p.issued_gr reads⟩

theorem onlyFlow_issued_next (p : Pair) (reads : List Reg) (n : Nat) : onlyFlow p ((p.issued reads).next n) :=
  ⟨onlyRegisters_next (onlyRegisters_issued p reads) n, p.issued_gr reads⟩

/-- The clock after the stall of the issue and the `n` cycles of the instruction. -/
theorem Pair.spend_cyc {m : Nat} (hc : q.cyc = p.cyc + BitVec.ofNat 64 m) (n : Nat) :
    (q.spend n).cyc = p.cyc + BitVec.ofNat 64 (n + m) := by
  show q.cyc + BitVec.ofNat 64 n = _
  rw [hc, BitVec.add_assoc, ← BitVec.ofNat_add, Nat.add_comm]

theorem jumps_jump {reads : List Reg} (hc : q.cyc = (p.issued reads).cyc) (hw : q.waiting = false) (target : BitVec 15) (n : Nat) :
    jumps target n reads p (q.jump target n) :=
  ⟨rfl, rfl, rfl, Pair.spend_cyc (hc.trans (p.issued_cyc reads)) n, hw⟩

theorem advances_issued_next (p : Pair) (reads : List Reg) (n : Nat) : advances n reads p ((p.issued reads).next n) :=
  ⟨congrArg (· + 1) (p.issued_pc reads), rfl, rfl, Pair.spend_cyc (p.issued_cyc reads) n, rfl⟩

end

/-! ### Branches and calls -/

/-- An instruction that writes one register and jumps: CALL and JALR (R312). -/
theorem State.issueLocal_links (s : State) (c : PairNum) (w : BitVec 14) (takes : Bool) (reads : List Reg) (ra : Reg) (n : Nat)
    (v : Pair → W32) (target : Pair → BitVec 15) (hv : v ((s.pair c).issued reads) = v (s.pair c))
    (ht : target ((s.pair c).issued reads) = target (s.pair c)) (h : issues s c takes) :
    let t := s.issueLocal c w takes reads (fun p => (p.gw ra (v p)).jump (target p) n)
    onlyPair c s t ∧ onlyRegisters (s.pair c) (t.pair c) ∧ setsRegister ra (v (s.pair c)) (s.pair c) (t.pair c) ∧
      jumps (target (s.pair c)) n reads (s.pair c) (t.pair c) := by
  refine ⟨s.issueLocal_only c w takes reads _ h, ?_⟩
  rw [s.issueLocal_pair c w takes reads _ h, hv, ht]
  refine ⟨onlyRegisters_jump (onlyRegisters_gw (onlyRegisters_issued _ reads) ra _) _ n, fun r => ?_, ?_⟩
  · show (Pair.gw _ ra _).gr r = _
    rw [Pair.gr_gw, Pair.issued_gr]
  · exact jumps_jump (Pair.gw_cyc _ ra _) (Pair.gw_waiting _ ra _) _ n

section
variable (s : State) (c : PairNum) (cond : BitVec 3) (off : BitVec 6) (h : issues s c true)
include h

theorem doB_only : onlyPair c s (doB c cond off s) := s.issueLocal_only c _ true [] _ h

/-- The pair after B: the condition is that of FL before it. -/
theorem doB_pair : (doB c cond off s).pair c =
    if condHolds (s.pair c).fl cond then ((s.pair c).issued []).jump ((s.pair c).target off) 2 else ((s.pair c).issued []).next 1 := by
  rw [doB, s.issueLocal_pair c _ true [] _ h, Pair.issued_fl, Pair.issued_target]

theorem doB_taken (hc : condHolds (s.pair c).fl cond = true) :
    onlyFlow (s.pair c) ((doB c cond off s).pair c) ∧ jumps ((s.pair c).target off) 2 [] (s.pair c) ((doB c cond off s).pair c) := by
  rw [doB_pair s c cond off h, if_pos hc]
  exact ⟨onlyFlow_issued_jump _ [] _ 2, jumps_jump rfl rfl _ 2⟩

theorem doB_untaken (hc : ¬condHolds (s.pair c).fl cond = true) :
    onlyFlow (s.pair c) ((doB c cond off s).pair c) ∧ advances 1 [] (s.pair c) ((doB c cond off s).pair c) := by
  rw [doB_pair s c cond off h, if_neg hc]
  exact ⟨onlyFlow_issued_next _ [] 1, advances_issued_next _ [] 1⟩

end

/-- Settles O6: B by whether its condition holds, which is R312's table row by row; CALL and JALR as the instructions that link. -/
theorem branchesAndCalls : Obligations.BranchesAndCalls := by
  intro c cond off6 off9 ra rb s p taken
  have htaken : taken ↔ condHolds p.fl cond = true := by
    unfold taken condHolds
    rcases cond.toNat with _ | _ | _ | _ | _ | _ | _ | n <;> simp
  refine ⟨fun h => ⟨fun hc => ?_, fun hc => ?_, ?_⟩, fun h => ?_⟩
  · exact ⟨doB c cond off6 s, rfl, doB_only s c cond off6 h, doB_taken s c cond off6 h (htaken.mp hc)⟩
  · exact ⟨doB c cond off6 s, rfl, doB_only s c cond off6 h, doB_untaken s c cond off6 h (fun k => hc (htaken.mpr k))⟩
  · exact ⟨doCall c off9 s, rfl, s.issueLocal_links c _ true [] 15 2 (fun p => (p.pc + 1).setWidth 32) (fun p => p.target off9)
      (by rw [Pair.issued_pc]) (Pair.issued_target _ _ _) h⟩
  · exact ⟨doJalr c ra rb s, rfl, s.issueLocal_links c _ false [rb] ra 2 (fun p => (p.pc + 1).setWidth 32)
      (fun p => (p.gr rb).setWidth 15) (by rw [Pair.issued_pc]) (by rw [Pair.issued_gr]) h⟩

end Sys2Proof.Machine

/-! ### Orders that are answered at once (R373, R378, R399, R400, R404)

Each of these orders is begun, does its work and is answered in one command. `carriesOut.putReply_answers` says once what the answer of
an order being carried out is, and `carriesOut.putReply_onlyReply` what it leaves as it was; what remains of each order is that its packet
passes the checks, and what its result holds. -/

namespace Sys2Proof.Machine

open Sys2Proof

/-! ### Fields of a byte string -/

theorem byteAt_of_allZero {b : Bytes} {off n i : Nat} (h : allZero (bslice b off n) = true) (h1 : off ≤ i) (h2 : i < off + n) :
    byteAt b i = 0 := by
  by_cases hl : i < b.length
  · have hm : b[i] ∈ bslice b off n :=
      List.mem_take_iff_getElem.mpr ⟨i - off, by rw [List.length_drop]; omega, by simp [Nat.add_sub_cancel' h1]⟩
    rw [byteAt, List.getD_eq_getElem b 0 hl]
    exact eq_of_beq (List.all_eq_true.mp h _ hm)
  · exact List.getD_eq_default b 0 (by omega)

@[simp] theorem length_le (n v : Nat) : (le n v).length = n := by
  induction n generalizing v with
  | zero => rfl
  | succ n ih => rw [le, List.length_cons, ih]

theorem ule_le (n v : Nat) : ule (le n v) = v % 256 ^ n := by
  induction n generalizing v with
  | zero => rw [le, ule, Nat.pow_zero, Nat.mod_one]
  | succ n ih => rw [le, ule, ih, BitVec.toNat_ofNat, Nat.pow_succ' (m := 256), Nat.mod_mul]

/-- The field at the front of a byte string. -/
theorem bslice_le (n v : Nat) (r : Bytes) : bslice (le n v ++ r) 0 n = le n v := by
  rw [bslice, List.drop_zero, List.take_left' (length_le n v)]

/-- A field past a first part of a byte string is a field of the rest. -/
theorem bslice_append {x r : Bytes} {off : Nat} (n : Nat) (h : x.length ≤ off) :
    bslice (x ++ r) off n = bslice r (off - x.length) n := by
  rw [bslice, bslice, List.drop_append, List.drop_eq_nil_of_le h, List.nil_append]

theorem byteAt_append {x r : Bytes} {off : Nat} (h : x.length ≤ off) : byteAt (x ++ r) off = byteAt r (off - x.length) :=
  List.getD_append_right x r 0 off h

theorem u16_le (v : Nat) (r : Bytes) : u16 (le 2 v ++ r) 0 = BitVec.ofNat 16 v := by
  rw [u16, bslice_le, ule_le]; exact BitVec.eq_of_toNat_eq (by simp)
theorem u32_le (v : Nat) (r : Bytes) : u32 (le 4 v ++ r) 0 = BitVec.ofNat 32 v := by
  rw [u32, bslice_le, ule_le]; exact BitVec.eq_of_toNat_eq (by simp)
theorem u64_le (v : Nat) (r : Bytes) : u64 (le 8 v ++ r) 0 = BitVec.ofNat 64 v := by
  rw [u64, bslice_le, ule_le]; exact BitVec.eq_of_toNat_eq (by simp)

/-- The same of a field that is the whole of a byte string. -/
theorem u32_le_last (v : Nat) : u32 (le 4 v) 0 = BitVec.ofNat 32 v := by
  rw [← u32_le v [], List.append_nil]

theorem u16_append {x r : Bytes} {off : Nat} (h : x.length ≤ off) : u16 (x ++ r) off = u16 r (off - x.length) := by
  rw [u16, bslice_append 2 h, u16]
theorem u32_append {x r : Bytes} {off : Nat} (h : x.length ≤ off) : u32 (x ++ r) off = u32 r (off - x.length) := by
  rw [u32, bslice_append 4 h, u32]
theorem u64_append {x r : Bytes} {off : Nat} (h : x.length ≤ off) : u64 (x ++ r) off = u64 r (off - x.length) := by
  rw [u64, bslice_append 8 h, u64]

/-! ### A packet whose parameters are in range -/

/-- R373: with every field in range and every byte outside the fields zero, a packet has no offending byte. -/
theorem firstBad_none {b : Bytes} {fields : List (Nat × Nat × Bool)} (hin : ∀ f ∈ fields, f.2.2 = true)
    (hz : ∀ i, 16 ≤ i → i < 128 → (∃ f ∈ fields, f.1 ≤ i ∧ i < f.1 + f.2.1) ∨ byteAt b i = 0) : firstBad b fields = none := by
  have hbad : fields.filter (fun f => !f.2.2) = [] := List.filter_eq_nil_iff.mpr (by simpa using hin)
  have hrsv : (List.range 112).find?
      (fun i => !fields.any (fun f => f.1 ≤ 16 + i && 16 + i < f.1 + f.2.1) && byteAt b (16 + i) != 0) = none := by
    rw [List.find?_eq_none]
    intro i hi
    have hi : i < 112 := List.mem_range.mp hi
    rcases hz (16 + i) (by omega) (by omega) with ⟨f, hf, h1, h2⟩ | h0
    · have hused : fields.any (fun f => f.1 ≤ 16 + i && 16 + i < f.1 + f.2.1) = true := List.any_eq_true.mpr ⟨f, hf, by simp [h1, h2]⟩
      simp [hused]
    · simp [h0]
  simp only [firstBad, hbad, hrsv, List.map_nil, Option.map_none, Option.toList_none, List.append_nil, List.foldl_nil]

/-- The same of a packet without parameters. -/
theorem firstBad_nil {b : Bytes} (h : allZero (bslice b 0x10 0x70) = true) : firstBad b [] = none :=
  firstBad_none (fun _ hf => nomatch hf) (fun _ h1 h2 => .inr (byteAt_of_allZero h h1 h2))

/-! ### An order just begun, and its answer -/

/-- In `w` the packet `b`, which stood at the head of the ring in `s`, is being carried out: nothing of it has been answered, nothing
waits for its answer, and the answer can be written. -/
structure carriesOut (p : HPort) (b : Bytes) (s w : State) : Prop where
  active : ∃ a : Active, w.oq p = { s.oq p with active := some a } ∧ a.opc = byteAt b 1 ∧ a.packet = b ∧ a.index = (s.oq p).head ∧
    a.orphan = false ∧ a.restarted = false ∧ a.after = .none
  master : w.pfMaster p = true
  tender : w.cores.tenderUp = true

section
variable {s w : State} {p : HPort} {b : Bytes}

theorem orderStands.tenderUp (h : orderStands s p b) : s.cores.tenderUp = true := by
  obtain ⟨hs, ht, -⟩ := h
  simp only [State.ringTurn, State.canBegin, hs, Bool.and_eq_true] at ht
  obtain ⟨⟨⟨htender, -⟩, -⟩, -⟩ := ht
  exact htender

/-- What stands in the order ring has no part in whether the PF may make requests. -/
theorem State.modOq_pfMaster (s : State) (p : HPort) (f : OrderRing → OrderRing) : (s.modOq p f).pfMaster p = s.pfMaster p := by
  rw [State.pfMaster, State.modOq, State.host_modHost]; rfl

theorem orderStands.beginOrder (h : orderStands s p b) : carriesOut p b s (s.beginOrder p b) := by
  have htender := h.tenderUp
  obtain ⟨-, -, hmaster, -⟩ := h
  refine ⟨⟨_, s.beginOrder_oq p b, rfl, rfl, rfl, rfl, rfl, rfl⟩, Eq.trans ?_ hmaster, htender⟩
  exact s.modOq_pfMaster p (fun o => { o with active := some { opc := byteAt b 1, packet := b, index := o.head, stage := .none } })

theorem carriesOut.effected (h : carriesOut p b s w) : carriesOut p b s (w.effected p) := by
  obtain ⟨a, hq, ha⟩ := h.active
  exact ⟨⟨{ a with effected := true }, by rw [State.effected_oq, hq]; rfl, ha⟩, (w.modOq_pfMaster p _).trans h.master, h.tender⟩

theorem carriesOut.setTimebase (h : carriesOut p b s w) (v : W64) : carriesOut p b s (w.setTimebase v) :=
  ⟨h.active, h.master, h.tender⟩

/-- R370: the answer of an order being carried out. -/
theorem carriesOut.putReply_answers (h : carriesOut p b s w) (time : W64) (status : W16) (result : Bytes) :
    answers p b time status result s (w.putReply p time status result) := by
  obtain ⟨a, hq, hopc, hpkt, hidx, ho, hr, he⟩ := h.active
  obtain ⟨hactive, hhead, hout, -⟩ := w.putReply_facts p a time status result (by rw [hq]) ho hr he h.master h.tender
  rw [hq, hidx, replyBytes, hopc, hpkt] at hout
  exact ⟨hactive, by rw [hhead, hidx], hout⟩

/-- What an answer leaves as it was. -/
theorem carriesOut.putReply_frame (h : carriesOut p b s w) (time : W64) (status : W16) (result : Bytes) :
    { w.putReply p time status result with out := w.out, hosts := w.hosts } = w := by
  obtain ⟨a, hq, -, -, -, ho, hr, he⟩ := h.active
  obtain ⟨-, -, -, hframe, -⟩ := w.putReply_facts p a time status result (by rw [hq]) ho hr he h.master h.tender
  exact hframe

theorem carriesOut.putReply_onlyReply (h : carriesOut p b s w) {t : State} (ht : onlyReply t w) (time : W64) (status : W16) (result : Bytes) :
    onlyReply t (w.putReply p time status result) := by
  rw [onlyReply] at ht ⊢
  exact (congrArg (fun v : State => { v with out := t.out, hosts := t.hosts, orders := t.orders, power := t.power })
    (h.putReply_frame time status result)).trans ht

/-- An order that is begun and answered changes nothing else. -/
theorem orderStands.putReply_beginOrder (h : orderStands s p b) (status : W16) (result : Bytes) :
    answers p b s.clk.hub status result s ((s.beginOrder p b).putReply p s.clk.hub status result) ∧
      onlyReply s ((s.beginOrder p b).putReply p s.clk.hub status result) :=
  ⟨h.beginOrder.putReply_answers _ _ _, h.beginOrder.putReply_onlyReply (show onlyReply s (s.beginOrder p b) from rfl) _ _ _⟩

/-! ### What each order does -/

/-- An order of these passes the checks: it is begun and acts. -/
theorem orderStands.runOrder_acts (h : orderStands s p b) {n : Byte} (hn : byteAt b 1 = n) {fields fogOk} (hf : firstBad b (fields b) = none)
    (hfog : fogOk = false → s.foggy = false) (act : State → Bytes → State) :
    s.runOrder p (isOpc n) fields false fogOk none noRefusal act = act (s.beginOrder p b) b := by
  obtain ⟨hs, ht, -, hv, hh⟩ := h
  exact s.runOrder_acts p b _ _ _ _ _ _ _ hs ht (by rw [isOpc, hn, beq_self_eq_true]) hv hh hf
    (State.columnRefusal_none _ _ _ _ _ _ (fun k => nomatch k) hfog (fun _ k => nomatch k)) rfl

/-- R373: a reserved opcode has detail 0x001. -/
theorem exec_reservedOrderOpcode (h : orderStands s p b) (hr : opcodeReal (byteAt b 1) = false) :
    exec (.reservedOrderOpcode p) s = .next ((s.beginOrder p b).putReply p s.clk.hub 0x2001 []).settle := by
  obtain ⟨hs, ht, -, hv, -⟩ := h
  have hv' : (s.beginOrder p b).fw.recovery = false := hv
  rw [show exec (.reservedOrderOpcode p) s = .next (doReservedOrderOpcode p s) from rfl]
  simp only [doReservedOrderOpcode, State.orderDue, hs, ht, hr, hv', Bool.not_false, Bool.and_self, if_true, Bool.false_eq_true, if_false]
  rfl

theorem exec_nopEcho (h : orderStands s p b) (hop : byteAt b 1 = 0x7F) (hz : allZero (bslice b 0x40 0x40) = true) :
    exec (.nopEcho p) s = .next ((s.beginOrder p b).putReply p s.clk.hub 0 (bslice b 0x10 0x30)).settle := by
  have hf : firstBad b [(0x10, 0x30, true)] = none := by
    refine firstBad_none (by simp) fun i h1 h2 => ?_
    by_cases hi : i < 0x40
    · exact .inl ⟨_, List.mem_singleton_self _, h1, hi⟩
    · exact .inr (byteAt_of_allZero hz (by omega) (by omega))
  rw [show exec (.nopEcho p) s = .next (doNopEcho p s) from rfl, doNopEcho, h.runOrder_acts hop hf (by simp)]
  rfl

theorem exec_nopEcho_bad (h : orderStands s p b) (hop : byteAt b 1 = 0x7F) {n : Nat}
    (hf : firstBad b [(0x10, 0x30, true)] = some n) :
    exec (.nopEcho p) s = .next ((s.beginOrder p b).putReply p s.clk.hub (0x2000 + BitVec.ofNat 16 n) []).settle := by
  obtain ⟨hs, ht, -, hv, hh⟩ := h
  rw [show exec (.nopEcho p) s = .next (doNopEcho p s) from rfl, doNopEcho,
    s.runOrder_bad p b n _ _ _ _ _ _ _ hs ht (by rw [isOpc, hop]; rfl) hv hh hf, State.badOrder, BitVec.ofNat_add]
  rfl

theorem exec_identify (h : orderStands s p b) (hop : byteAt b 1 = 1) (hz : allZero (bslice b 0x10 0x70) = true) :
    exec (.identify p) s = .next ((s.beginOrder p b).putReply p s.clk.hub 0 s.identifyResult).settle := by
  rw [show exec (.identify p) s = .next (doIdentify p s) from rfl, doIdentify, h.runOrder_acts hop (firstBad_nil hz) (by simp)]
  rfl

theorem exec_readTimeBridge (h : orderStands s p b) (hop : byteAt b 1 = 0x61) (hz : allZero (bslice b 0x10 0x70) = true) :
    exec (.readTimeBridge p) s = .next ((s.beginOrder p b).putReply p s.clk.hub 0 s.bridgeResult).settle := by
  rw [show exec (.readTimeBridge p) s = .next (doReadTimeBridge p s) from rfl, doReadTimeBridge, h.runOrder_acts hop (firstBad_nil hz) (by simp)]
  rfl

/-- R399, with the answer at the new time (log 107). -/
theorem exec_setTime (h : orderStands s p b) (hop : byteAt b 1 = 0x60) (hfog : s.foggy = false) (hv : u64 b 0x10 ≠ 0)
    (hz : allZero (bslice b 0x18 0x68) = true) :
    exec (.setTime p) s = .next
      ((((s.beginOrder p b).setTimebase (u64 b 0x10)).effected p).putReply p (u64 b 0x10) 0 (le 8 s.clk.hub.toNat)).settle := by
  have hf : firstBad b [(0x10, 8, num b 0x10 8 != 0)] = none := by
    refine firstBad_none (fun f hf => ?_) fun i h1 h2 => ?_
    · rw [List.mem_singleton.mp hf]
      exact bne_iff_ne.mpr fun h0 => hv (congrArg (BitVec.ofNat 64) h0)
    · by_cases hi : i < 0x18
      · exact .inl ⟨_, List.mem_singleton_self _, h1, hi⟩
      · exact .inr (byteAt_of_allZero hz (by omega) (by omega))
  rw [show exec (.setTime p) s = .next (doSetTime p s) from rfl, doSetTime, h.runOrder_acts hop hf (fun _ => hfog)]
  rfl

end

/-! ### Results -/

theorem byteOf_bnat (b : Bool) : BitVec.ofNat 8 (bnat b) = if b then 1 else 0 := by cases b <;> rfl

/-- The result of IDENTIFY, field by field (R378). -/
theorem State.identifyResult_fields (s : State) (hv : s.fw.recovery = false) :
    let r := s.identifyResult
    u32 r 0 = Config.hifId ∧ u32 r 4 = s.fw.release ∧ byteAt r 8 = (if s.fw.image then 1 else 0) ∧ byteAt r 9 = Config.cooling ∧
      byteAt r 0xA = (if s.fw.imgA.valid then 1 else 0) + (if s.fw.imgB.valid then 2 else 0) ∧ u64 r 0x10 = Config.serialNumber ∧
      u16 r 0x20 = BitVec.ofNat 16 s.portsUp ∧ u16 r 0x22 = BitVec.ofNat 16 s.tenantsBound ∧
      u32 r 0x24 = BitVec.ofNat 32 s.faults.record.length := by
  have hrel : s.fw.rel = s.fw.release := by rw [Firmware.rel, hv]; rfl
  simp only [State.identifyResult, zeros, List.append_assoc, hrel, u16_le, u32_le, u32_le_last, u64_le, u16_append, u32_append, u64_append,
    byteAt_append, length_le, List.length_replicate, List.length_cons, List.length_nil, Nat.reduceAdd, Nat.reduceSub, Nat.reduceLeDiff]
  refine ⟨rfl, by simp, byteOf_bnat _, rfl, ?_, by simp, trivial, trivial, trivial⟩
  show BitVec.ofNat 8 (bnat s.fw.imgA.valid + 2 * bnat s.fw.imgB.valid) = _
  cases s.fw.imgA.valid <;> cases s.fw.imgB.valid <;> rfl

/-- The result of READ-TIME-BRIDGE once a bridge has been made, field by field (R400). -/
theorem State.bridgeResult_fields (s : State) (hv : retValid s.keeper.ret = true) (hb : s.keeper.ret.t2 ≠ 0 ∨ s.keeper.ret.kb ≠ 0) :
    let r := s.bridgeResult
    u64 r 0 = s.keeper.ret.t1 ∧ u64 r 8 = s.keeper.ret.t2 ∧ u64 r 0x10 = s.keeper.ret.kb.setWidth 64 ∧ u32 r 0x18 = s.keeper.ret.frac ∧
      byteAt r 0x1C = (if s.clk.bridged then 1 else 0) ∧ u32 r 0x20 = s.keeper.ret.bridges := by
  have hif : (retValid s.keeper.ret && (s.keeper.ret.t2 != 0 || s.keeper.ret.kb != 0)) = true := by simpa [hv] using hb
  simp only [State.bridgeResult, hif, if_true, List.append_assoc, u32_le, u32_le_last, u64_le, u32_append, u64_append, byteAt_append, length_le,
    List.length_cons, List.length_nil, Nat.reduceAdd, Nat.reduceSub, Nat.reduceLeDiff]
  exact ⟨by simp, by simp, by simp, by simp, byteOf_bnat _, by simp⟩

theorem State.bridgeResult_none (s : State) (h2 : s.keeper.ret.t2 = 0) (hk : s.keeper.ret.kb = 0) : s.bridgeResult = [] := by
  simp [State.bridgeResult, h2, hk]

/-- Every index listed in a table whose records are all set to `c`, as SET-TIME sets the copies of the timebase (R399), has `c`. -/
theorem tfind_map_const {α : Type} (t : Table α) (c v : α) (d : Nat) (h : (d, v) ∈ t) : tfind (t.map (fun x => (x.1, c))) d = some c := by
  induction t with
  | nil => exact nomatch h
  | cons x t ih =>
    rw [List.map_cons, tfind]
    split
    · rfl
    · next hne => exact ih ((List.mem_cons.mp h).resolve_left fun e => hne (e ▸ rfl))

/-- SET-TIME's work (R399) and its answer, of any result, at the new time: every copy of the timebase is set. -/
theorem setTime_reply {s : State} {p : HPort} {b : Bytes} (h : orderStands s p b) (v : W64) (result : Bytes) :
    let u := (((s.beginOrder p b).setTimebase v).effected p).putReply p v 0 result
    answers p b v 0 result s u ∧ u.clk.hub = v ∧ u.clk.bridged = false ∧
      (∀ d, (∃ x, (d, x) ∈ s.clk.dies) → tfind u.clk.dies d = some v) ∧ onlyReply { s with clk := u.clk, keeper := u.keeper } u := by
  intro u
  have hw : carriesOut p b s (((s.beginOrder p b).setTimebase v).effected p) := (h.beginOrder.setTimebase v).effected
  have hframe := hw.putReply_frame v 0 result
  have hclk : u.clk = ((s.beginOrder p b).setTimebase v).clk := (congrArg State.clk hframe :)
  have hkeeper : u.keeper = ((s.beginOrder p b).setTimebase v).keeper := (congrArg State.keeper hframe :)
  rw [hclk, hkeeper]
  exact ⟨hw.putReply_answers v 0 result, rfl, rfl, fun d ⟨x, hx⟩ => tfind_map_const s.clk.dies v x d hx,
    hw.putReply_onlyReply (by rw [onlyReply]; rfl) v 0 result⟩

/-- Settles O37: each order passes its checks, and is begun and answered with the result that its lemma above gives. -/
theorem smallOrders : Obligations.SmallOrders := by
  intro p b s h
  refine ⟨fun hr => ?_, fun hop hz => ?_, fun hop n hf => ?_, fun hop hz => ?_, fun hop hz => ⟨fun hv hb => ?_, fun h2 hk => ?_⟩,
    fun hop hfog hv hz => ?_⟩
  · exact ⟨_, exec_reservedOrderOpcode h hr, h.putReply_beginOrder _ _⟩
  · exact ⟨_, exec_nopEcho h hop hz, h.putReply_beginOrder _ _⟩
  · exact ⟨_, exec_nopEcho_bad h hop hf, h.putReply_beginOrder _ _⟩
  · have ⟨_, _, _, hrecovery, _⟩ := h
    exact ⟨_, ⟨_, exec_identify h hop hz, h.putReply_beginOrder _ _⟩, s.identifyResult_fields hrecovery⟩
  · exact ⟨_, ⟨_, exec_readTimeBridge h hop hz, h.putReply_beginOrder _ _⟩, s.bridgeResult_fields hv hb⟩
  · rw [← s.bridgeResult_none h2 hk]
    exact ⟨_, exec_readTimeBridge h hop hz, h.putReply_beginOrder _ _⟩
  · exact ⟨_, exec_setTime h hop hfog hv hz, setTime_reply h _ _⟩

end Sys2Proof.Machine

/-! ### The Hild-14's instruction words (R308, R311, R313)

A word is put together from its fields and taken apart into them again; `decodeCore` reads fields alone, so both directions of O19 come
down to these two facts, one format at a time. -/

namespace Sys2Proof.Machine

open Sys2Proof

/-! ### Fields of a word put together -/

section
variable (major : BitVec 5) (ra rb : Reg) (x : BitVec 1) (imm : BitVec 5) (cond : BitVec 3) (off6 : BitVec 6) (off9 : BitVec 9)

@[simp] theorem majorOf_wordR : majorOf (wordR major ra rb x) = major := by
  ext i hi; simp [majorOf, wordR]
  grind
@[simp] theorem raOf_wordR : raOf (wordR major ra rb x) = ra := by
  ext i hi; simp [raOf, wordR]
  grind
@[simp] theorem rbOf_wordR : rbOf (wordR major ra rb x) = rb := by
  ext i hi; simp [rbOf, wordR]
  grind
@[simp] theorem xOf_wordR : xOf (wordR major ra rb x) = x := by
  ext i hi; simp [xOf, wordR]
  grind
@[simp] theorem majorOf_wordI : majorOf (wordI major ra imm) = major := by
  ext i hi; simp [majorOf, wordI]
  grind
@[simp] theorem raOf_wordI : raOf (wordI major ra imm) = ra := by
  ext i hi; simp [raOf, wordI]
  grind
@[simp] theorem immOf_wordI : immOf (wordI major ra imm) = imm := by
  ext i hi; simp [immOf, wordI]
  grind
@[simp] theorem majorOf_wordB : majorOf (wordB major cond off6) = major := by
  ext i hi; simp [majorOf, wordB]
  grind
@[simp] theorem condOf_wordB : condOf (wordB major cond off6) = cond := by
  ext i hi; simp [condOf, wordB]
  grind
@[simp] theorem off6Of_wordB : off6Of (wordB major cond off6) = off6 := by
  ext i hi; simp [off6Of, wordB]
  grind
@[simp] theorem majorOf_wordJ : majorOf (wordJ major off9) = major := by
  ext i hi; simp [majorOf, wordJ]
  grind
@[simp] theorem off9Of_wordJ : off9Of (wordJ major off9) = off9 := by
  ext i hi; simp [off9Of, wordJ]
  grind
end

/-! ### A word put together from its fields -/

theorem wordR_fields (w : BitVec 14) : wordR (majorOf w) (raOf w) (rbOf w) (xOf w) = w := by
  ext i hi; simp [majorOf, raOf, rbOf, xOf, wordR]
  grind
theorem wordI_fields (w : BitVec 14) : wordI (majorOf w) (raOf w) (immOf w) = w := by
  ext i hi; simp [majorOf, raOf, immOf, wordI]
  grind
theorem wordB_fields (w : BitVec 14) : wordB (majorOf w) (condOf w) (off6Of w) = w := by
  ext i hi; simp [majorOf, condOf, off6Of, wordB]
  grind
theorem wordJ_fields (w : BitVec 14) : wordJ (majorOf w) (off9Of w) = w := by
  ext i hi; simp [majorOf, off9Of, wordJ]
  grind


/-! ### Encoding what was decoded -/

section
variable {c : PairNum} {w : BitVec 14} {i : Instr} {m : BitVec 5}

theorem majorOf_eq {n : Nat} (h : (majorOf w).toNat = n) : majorOf w = BitVec.ofNat 5 n := by
  rw [← h, BitVec.ofNat_toNat, BitVec.setWidth_eq]

theorem raOf_eq {n : Nat} (h : (raOf w).toNat = n) : raOf w = BitVec.ofNat 4 n := by
  rw [← h, BitVec.ofNat_toNat, BitVec.setWidth_eq]

theorem xOf_eq_one (h : xOf w ≠ 0) : xOf w = 1 := by
  generalize xOf w = x at h
  revert x
  decide

theorem encodeCore_of_some {j : Instr} (h : some j = some i) {v : BitVec 14} (hj : encodeCore j = some v) (hv : v = w) :
    encodeCore i = some w := by
  rw [← Option.some.inj h, hj, hv]

theorem wordI_of_major (hm : majorOf w = m) : wordI m (raOf w) (immOf w) = w := hm ▸ wordI_fields w
theorem wordI_of_major_imm {v : BitVec 5} (hm : majorOf w = m) (hv : immOf w = v) : wordI m (raOf w) v = w :=
  hv ▸ wordI_of_major hm
theorem wordR_of_major (hm : majorOf w = m) {x : BitVec 1} (hx : xOf w = x) : wordR m (raOf w) (rbOf w) x = w :=
  hm ▸ hx ▸ wordR_fields w
theorem wordJ_of_major (hm : majorOf w = m) : wordJ m (off9Of w) = w := hm ▸ wordJ_fields w
theorem wordB_of_major (hm : majorOf w = m) : wordB m (condOf w) (off6Of w) = w := hm ▸ wordB_fields w

/-- Of two operations by X the word is that of the one chosen. -/
theorem encodeCore_byX (hm : majorOf w = m) {f g : Reg → Reg → Instr} (h : byX w f g = some i)
    (hf : encodeCore (f (raOf w) (rbOf w)) = some (wordR m (raOf w) (rbOf w) 0))
    (hg : encodeCore (g (raOf w) (rbOf w)) = some (wordR m (raOf w) (rbOf w) 1)) : encodeCore i = some w := by
  unfold byX at h
  split at h
  · next hx => exact encodeCore_of_some h hf (wordR_of_major hm hx)
  · next hx => exact encodeCore_of_some h hg (wordR_of_major hm (xOf_eq_one hx))

theorem encodeCore_decodeSys (hm : majorOf w = 0) (h : decodeSys c w = some i) : encodeCore i = some w := by
  have sub {n : Nat} {v : BitVec 5} (hn : (raOf w).toNat = n) (hv : immOf w = v) : wordI 0 (BitVec.ofNat 4 n) v = w :=
    raOf_eq hn ▸ wordI_of_major_imm hm hv
  simp only [decodeSys] at h
  split at h
  · next h2 => exact encodeCore_of_some h rfl (sub h2 rfl)
  · split at h
    · cases h
    · next himm =>
      have himm := not_not.mp himm
      split at h
      · next hn => exact encodeCore_of_some h rfl (sub hn himm)
      · next hn => exact encodeCore_of_some h rfl (sub hn himm)
      · next hn => exact encodeCore_of_some h rfl (sub hn himm)
      · next hn => exact encodeCore_of_some h rfl (sub hn himm)
      · next hn => exact encodeCore_of_some h rfl (sub hn himm)
      · next hn => exact encodeCore_of_some h rfl (sub hn himm)
      · cases h

/-- A word that decodes to an instruction is that instruction's word: the field of every branch of the decoder is kept. -/
theorem encodeCore_decodeCore (h : decodeCore c w = some i) : encodeCore i = some w := by
  unfold decodeCore at h
  split at h
  · next hn => exact encodeCore_decodeSys (majorOf_eq hn) h
  · next hn => exact encodeCore_of_some h rfl (wordJ_of_major (majorOf_eq hn))
  · next hn => exact encodeCore_of_some h rfl (wordI_of_major (majorOf_eq hn))
  · next hn => exact encodeCore_of_some h rfl (wordI_of_major (majorOf_eq hn))
  · next hn => exact encodeCore_byX (majorOf_eq hn) h rfl rfl
  · next hn => exact encodeCore_byX (majorOf_eq hn) h rfl rfl
  · next hn => exact encodeCore_byX (majorOf_eq hn) h rfl rfl
  · next hn => exact encodeCore_byX (majorOf_eq hn) h rfl rfl
  · next hn => exact encodeCore_byX (majorOf_eq hn) h rfl rfl
  · next hn => exact encodeCore_of_some h rfl (wordI_of_major (majorOf_eq hn))
  · next hn => exact encodeCore_of_some h rfl (wordI_of_major (majorOf_eq hn))
  · next hn => exact encodeCore_byX (majorOf_eq hn) h rfl rfl
  · next hn => exact encodeCore_of_some h rfl (wordI_of_major (majorOf_eq hn))
  · next hn => exact encodeCore_byX (majorOf_eq hn) h rfl rfl
  · next hn => exact encodeCore_byX (majorOf_eq hn) h rfl rfl
  · next hn => exact encodeCore_byX (majorOf_eq hn) h rfl rfl
  · next hn => exact encodeCore_byX (majorOf_eq hn) h rfl rfl
  · next hn => exact encodeCore_byX (majorOf_eq hn) h rfl rfl
  · next hn => exact encodeCore_byX (majorOf_eq hn) h rfl rfl
  · next hn =>
    split at h
    · exact encodeCore_of_some h rfl (wordI_of_major (majorOf_eq hn))
    · cases h
  · next hn =>
    split at h
    · exact encodeCore_of_some h rfl (wordI_of_major (majorOf_eq hn))
    · cases h
  · next hn => exact encodeCore_of_some h rfl (wordB_of_major (majorOf_eq hn))
  · next hn => exact encodeCore_of_some h rfl (wordJ_of_major (majorOf_eq hn))
  · next hn =>
    split at h
    · next hx => exact encodeCore_of_some h rfl (wordR_of_major (majorOf_eq hn) hx)
    · cases h
  · next hn =>
    split at h
    · exact encodeCore_byX (majorOf_eq hn) h rfl rfl
    · cases h
  · next hn =>
    split at h
    · next hv => exact encodeCore_of_some h rfl (wordI_of_major_imm (majorOf_eq hn) hv)
    · split at h
      · next hv => exact encodeCore_of_some h rfl (wordI_of_major_imm (majorOf_eq hn) hv)
      · cases h
  · next hn =>
    split at h
    · next hv => exact encodeCore_of_some h rfl (wordI_of_major_imm (majorOf_eq hn) hv)
    · split at h
      · next hv => exact encodeCore_of_some h rfl (wordI_of_major_imm (majorOf_eq hn) hv)
      · split at h
        · next hv => exact encodeCore_of_some h rfl (wordI_of_major_imm (majorOf_eq hn) hv)
        · cases h
  · next hn => exact encodeCore_byX (majorOf_eq hn) h rfl rfl
  · cases h
end

/-! ### Decoding what was encoded -/

/-- Settles O19. Decoding reads the fields that encoding put together, branch by branch; the converse is `encodeCore_decodeCore`. -/
theorem coreDecodeEncode : Obligations.CoreDecodeEncode := by
  refine ⟨fun c ra rb n x cond off i h => ?_, fun c w i h => encodeCore_decodeCore h⟩
  rcases h with h | ⟨hn, rfl⟩ | ⟨hn, rfl⟩
  · revert i
    repeat' refine List.forall_mem_cons.mpr ⟨?_, ?_⟩
    all_goals simp [encodeCore, decodeCore, decodeSys, byX]
  · have hr : specialReal n = true := decide_eq_true hn
    simp [encodeCore, decodeCore, hr]
  · have hr : specialWritable n = true := by simpa [specialWritable] using hn
    simp [encodeCore, decodeCore, hr]

end Sys2Proof.Machine

/-! ### Hild-14: arithmetic and logic, prefixed immediates, compares, multiplier, CRC (R307-R310, R314-R317)

As for the branches, each instruction is a function on the pair as issued. -/

namespace Sys2Proof.Machine

open Sys2Proof

/-! ### What the issue leaves of a pair -/

@[simp] theorem stallOf_nil (p : Pair) : stallOf p [] = 0 := by
  unfold stallOf
  cases p.loaded <;> rfl

section
variable (p : Pair) (reads : List Reg)

@[simp] theorem Pair.issued_pr : (p.issued reads).pr = p.pr := by rw [p.issued_frame]
@[simp] theorem Pair.issued_prn : (p.issued reads).prn = p.prn := by rw [p.issued_frame]
@[simp] theorem Pair.issued_g : (p.issued reads).g = p.g := by rw [p.issued_frame]
@[simp] theorem Pair.issued_dmem : (p.issued reads).dmem = p.dmem := by rw [p.issued_frame]
@[simp] theorem Pair.issued_cs : (p.issued reads).cs = p.cs := by rw [p.issued_frame]
@[simp] theorem Pair.issued_cp : (p.issued reads).cp = p.cp := by rw [p.issued_frame]
@[simp] theorem Pair.issued_cm : (p.issued reads).cm = p.cm := by rw [p.issued_frame]
@[simp] theorem Pair.issued_dataAddr (rb : Reg) : (p.issued reads).dataAddr rb = p.dataAddr rb := by
  rw [Pair.dataAddr, Pair.issued_gr, Pair.offset, Pair.issued_pr]; rfl
@[simp] theorem Pair.issued_load (a n : Nat) : (p.issued reads).load a n = p.load a n := by
  rw [Pair.load, Pair.issued_dmem]; rfl

end

@[simp] theorem Pair.next_gr (p : Pair) (n : Nat) (r : Reg) : (p.next n).gr r = p.gr r := rfl
@[simp] theorem Pair.startProduct_gr (p : Pair) (v : W64) (r : Reg) : (p.startProduct v).gr r = p.gr r := rfl

/-- What remains of an instruction in line once it has had its effect on the issued pair: the PC, the prefixes and the clock. -/
theorem advances_next {p q : Pair} {reads : List Reg} (hpc : q.pc = p.pc) (hcyc : q.cyc = (p.issued reads).cyc)
    (hw : q.waiting = false) (n : Nat) : advances n reads p (q.next n) :=
  ⟨congrArg (· + 1) hpc, rfl, rfl, Pair.spend_cyc (hcyc.trans (p.issued_cyc reads)) n, hw⟩

/-! ### Registers from registers and immediates (R309) -/

theorem fieldOf_low {w : Nat} (b : BitVec w) (hi : Nat) : fieldOf b hi 0 = b.toNat % 2 ^ (hi + 1) := by
  simp [fieldOf]

/-- An instruction of two source registers and one destination writes `f` of the sources, in one cycle. -/
theorem State.alu2_writes (s : State) (c : PairNum) (i : Instr) (ra rb : Reg) (f : W32 → W32 → W32) (h : issues s c false) :
    writesRegister c ra (f ((s.pair c).gr ra) ((s.pair c).gr rb)) [ra, rb] 1 s (s.alu2 c i ra rb f) :=
  s.issueLocal_writes c (coreWord i) false [ra, rb] ra 1 (fun p => f (p.gr ra) (p.gr rb))
    (by rw [Pair.issued_gr, Pair.issued_gr]) h

/-- Settles O2: the two-source, one-source and immediate instructions, each with the value of its rule. -/
theorem coreRegisterResults : Obligations.CoreRegisterResults := by
  intro c ra rb n imm s a b
  refine ⟨fun h => ?_, fun h => ?_⟩
  · have amount : fieldOf b 4 0 = b.toNat % 32 := fieldOf_low b 4
    have two := fun i f => s.alu2_writes c i ra rb f h
    have shift := fun (i : Instr) (f : W32 → W32) =>
      s.issueLocal_writes c (coreWord i) false [ra] ra 1 (fun p => f (p.gr ra)) (by rw [Pair.issued_gr]) h
    rw [← amount]
    exact ⟨⟨_, rfl, two _ _⟩, ⟨_, rfl, two _ _⟩, ⟨_, rfl, two _ _⟩, ⟨_, rfl, two _ _⟩, ⟨_, rfl, two _ _⟩, ⟨_, rfl, two _ _⟩,
      ⟨_, rfl, two _ (fun x y => x <<< fieldOf y 4 0)⟩, ⟨_, rfl, two _ (fun x y => x >>> fieldOf y 4 0)⟩,
      ⟨_, rfl, two _ (fun x y => x.sshiftRight (fieldOf y 4 0))⟩, ⟨_, rfl, two _ (fun x y => x.rotateRight (fieldOf y 4 0))⟩,
      ⟨_, rfl, shift _ (· <<< n.toNat)⟩, ⟨_, rfl, shift _ (· >>> n.toNat)⟩,
      ⟨_, rfl, s.alu1_writes c _ ra rb (fun x => x) h⟩, ⟨_, rfl, s.alu1_writes c _ ra rb (fun x => 0 - x) h⟩⟩
  · exact ⟨⟨_, rfl, s.issueLocal_writes c _ true [] ra 1 (fun p => p.imm imm) (Pair.issued_imm _ _ _) h⟩,
      ⟨_, rfl, s.issueLocal_writes c _ true [ra] ra 1 (fun p => p.gr ra + p.imm imm) (by rw [Pair.issued_gr, Pair.issued_imm]) h⟩⟩

/-! ### Prefixed immediates (R310) -/

/-- The immediate is the sign extension of the bits that the prefixes and IMM spell. -/
theorem Pair.imm_eq_signExtend (p : Pair) {w n : Nat} (low : BitVec w) (v : BitVec n) (hn : n = w + 9 * p.prn) (hw : 0 < n)
    (hv : v.toNat = (p.pr.toNat * 2 ^ w + low.toNat) % 2 ^ n) : p.imm low = v.signExtend 32 := by
  have hlt : v.toNat < 2 ^ (n - 1) ↔ 2 * v.toNat < 2 ^ n := by
    rw [← Nat.two_pow_pred_add_two_pow_pred hw]; omega
  rw [BitVec.signExtend, BitVec.toInt_eq_toNat_cond, Pair.imm, ← hn, ← hv]
  simp only [hlt]
  split
  · rw [BitVec.ofInt_natCast]
  · rw [Nat.cast_pow, Nat.cast_ofNat]

theorem toNat_append_eq {v w : Nat} (x : BitVec v) (y : BitVec w) : (x ++ y).toNat = x.toNat * 2 ^ w + y.toNat := by
  rw [BitVec.toNat_append, ← Nat.shiftLeft_add_eq_or_of_lt y.isLt, Nat.shiftLeft_eq]

/-- With PR holding `x`, the bits of the prefixes are `x`. -/
theorem Pair.imm_append (p : Pair) {v : Nat} (x : BitVec v) (imm : BitVec 5) (hv : v = 9 * p.prn) (hx : p.pr.toNat = x.toNat) :
    p.imm imm = (x ++ imm).signExtend 32 := by
  refine p.imm_eq_signExtend imm (x ++ imm) (by omega) (by omega) ?_
  rw [toNat_append_eq, hx, ← toNat_append_eq, Nat.mod_eq_of_lt (x ++ imm).isLt]

/-- A PFX puts its bits into PR: the pair goes on in line with one more PFX before it. -/
def Pair.prefixed (p : Pair) (x : BitVec 9) : Pair :=
  { p.spend 1 with pc := p.pc + 1, pr := (p.pr <<< 9) ||| x.setWidth 27, prn := p.prn + 1 }

theorem doPfx_eq (c : PairNum) (x : BitVec 9) (s : State) (hr : s.coreReady c = true) (hn : (s.pair c).prn < 3) :
    doPfx c x s = (s.modPair c (fun p => p.issued [])).modPair c (fun p => p.prefixed x) := by
  rw [doPfx, s.issue_eq c _ true [] _ ⟨hr, Or.inl rfl⟩, if_neg]
  · rfl
  · rw [State.pair_modPair, (s.pair c).issued_frame]
    exact Nat.not_le.mpr hn

/-- Settles O4. The bits that the prefixes spell are PR's low bits before IMM5; a PFX shifts nine more in. -/
theorem prefixedImmediates : Obligations.PrefixedImmediates := by
  refine ⟨fun p imm => ⟨fun h0 hp => ?_, fun x h1 hp => ?_, fun x h2 hp => ?_, fun h3 => ?_⟩, fun c x s hr hn => ?_⟩
  · refine p.imm_eq_signExtend imm imm (by omega) (by omega) ?_
    rw [hp, show (0 : BitVec 27).toNat = 0 from rfl, Nat.zero_mul, Nat.zero_add, Nat.mod_eq_of_lt imm.isLt]
  · exact p.imm_append x imm (by omega) (by rw [hp, BitVec.toNat_setWidth_of_le (by omega)])
  · exact p.imm_append x imm (by omega) (by rw [hp, BitVec.toNat_setWidth_of_le (by omega)])
  · rw [p.imm_append p.pr imm (by omega) rfl, BitVec.signExtend_eq]
  · refine ⟨_, rfl, ?_⟩
    rw [doPfx_eq c x s hr hn]
    refine ⟨onlyPair_trans (onlyPair_modPair s c _) (onlyPair_modPair _ c _), ?_⟩
    rw [State.pair_modPair, State.pair_modPair]
    have hcyc : ((s.pair c).issued []).cyc = (s.pair c).cyc := by simp
    exact ⟨⟨onlyRegisters_issued _ [], (s.pair c).issued_gr []⟩, congrArg (· + 1) ((s.pair c).issued_pc []),
      by rw [Pair.prefixed, Pair.issued_pr], congrArg (· + 1) ((s.pair c).issued_prn []), congrArg (· + 1) hcyc⟩

/-! ### Compares (R307) -/

theorem setZncv_getLsbD (fl : W32) (z n cy v : Bool) (i : Nat) (hi : i < 32) :
    (setZncv fl z n cy v).getLsbD i =
      if i = flV then v else if i = flC then cy else if i = flN then n else if i = flZ then z else fl.getLsbD i := by
  simp only [setZncv, setFlag_getLsbD _ _ _ _ hi]

theorem sub_toInt_ne_iff (x y : W32) :
    (x - y).toInt ≠ x.toInt - y.toInt ↔ x.toInt - y.toInt < -2147483648 ∨ 2147483647 < x.toInt - y.toInt := by
  have := x.toInt_lt
  have := y.toInt_lt
  have := x.le_toInt
  have := y.le_toInt
  rw [BitVec.toInt_sub, Int.bmod_def]
  omega

/-- Z and N, C and V of a compare, as the difference and the two orders give them. -/
theorem cmpFlags_eq (fl x y : W32) : cmpFlags fl x y = setZncv fl (x == y) (x - y).msb (decide (x < y))
    (decide (x.toInt - y.toInt < -2147483648 ∨ 2147483647 < x.toInt - y.toInt)) := by
  have hz : (x - y == 0) = (x == y) := by
    rw [Bool.eq_iff_iff, beq_iff_eq, beq_iff_eq]
    exact sub_eq_zero
  simp only [cmpFlags, hz, sub_toInt_ne_iff, BitVec.lt_def]

/-- An instruction that writes only Z, N, C and V and goes on in line. -/
theorem State.issueLocal_zncv (s : State) (c : PairNum) (w : BitVec 14) (takes : Bool) (reads : List Reg) (f : Pair → W32)
    (z n cy v : Bool) (hf : f ((s.pair c).issued reads) = setZncv (s.pair c).fl z n cy v) (h : issues s c takes) :
    let t := s.issueLocal c w takes reads (fun p => ({ p with fl := f p }).next 1)
    onlyPair c s t ∧ advances 1 reads (s.pair c) (t.pair c) ∧ (t.pair c).fl.getLsbD flZ = z ∧ (t.pair c).fl.getLsbD flN = n ∧
      (t.pair c).fl.getLsbD flC = cy ∧ (t.pair c).fl.getLsbD flV = v ∧ keepsFlags [flZ, flN, flC, flV] (s.pair c) (t.pair c) ∧
      onlyFlags (s.pair c) (t.pair c) := by
  refine ⟨s.issueLocal_only c w takes reads _ h, ?_⟩
  rw [s.issueLocal_pair c w takes reads _ h, hf]
  have bit := setZncv_getLsbD (s.pair c).fl z n cy v
  refine ⟨advances_next (Pair.issued_pc _ _) rfl rfl 1, bit flZ (by decide), bit flN (by decide), bit flC (by decide),
    bit flV (by decide), fun i hi hn => ?_, ?_, (s.pair c).issued_gr reads⟩
  · refine (bit i hi).trans ?_
    simp only [List.mem_cons, not_or] at hn
    obtain ⟨hz, hn, hc, hv, -⟩ := hn
    rw [if_neg hv, if_neg hc, if_neg hn, if_neg hz]
  · obtain ⟨-, rest⟩ := onlyRegisters_issued (s.pair c) reads
    exact ⟨rfl, rest⟩

/-- Settles O5: CMP and CMPI write the flags of `cmpFlags_eq`, TST those of the AND. -/
theorem compareFlags : Obligations.CompareFlags := by
  intro c ra rb imm s a flags overflow
  refine ⟨fun h => ⟨⟨_, rfl, ?_⟩, ⟨_, rfl, ?_⟩⟩, fun h => ⟨_, rfl, ?_⟩⟩
  · refine s.issueLocal_zncv c _ false [ra, rb] (fun p => cmpFlags p.fl (p.gr ra) (p.gr rb)) _ _ _ _ ?_ h
    rw [Pair.issued_fl, Pair.issued_gr, Pair.issued_gr, cmpFlags_eq]
  · refine s.issueLocal_zncv c _ false [ra, rb] (fun p => tstFlags p.fl (p.gr ra) (p.gr rb)) _ _ _ _ ?_ h
    rw [Pair.issued_fl, Pair.issued_gr, Pair.issued_gr, tstFlags]
  · refine s.issueLocal_zncv c _ true [ra] (fun p => cmpFlags p.fl (p.gr ra) (p.imm imm)) _ _ _ _ ?_ h
    rw [Pair.issued_fl, Pair.issued_gr, Pair.issued_imm, cmpFlags_eq]

/-! ### Multiplier (R314) -/

/-- An instruction that starts a product and goes on in line. -/
theorem State.issueLocal_startsProduct (s : State) (c : PairNum) (w : BitVec 14) (reads : List Reg) (f : Pair → W64) (v : W64)
    (hf : f ((s.pair c).issued reads) = v) (h : issues s c false) :
    let t := s.issueLocal c w false reads (fun p => (p.startProduct (f p)).next 1)
    onlyPair c s t ∧ advances 1 reads (s.pair c) (t.pair c) ∧ (∀ r, (t.pair c).gr r = (s.pair c).gr r) ∧ (t.pair c).fl = (s.pair c).fl ∧
      (t.pair c).products = ((s.pair c).issued reads).products ++ [(((s.pair c).issued reads).cyc.toNat + 2, v)] := by
  refine ⟨s.issueLocal_only c w false reads _ h, ?_⟩
  rw [s.issueLocal_pair c w false reads _ h, hf]
  exact ⟨advances_next (Pair.issued_pc _ _) rfl rfl 1, fun r => by simp, (s.pair c).issued_fl reads, rfl⟩

theorem Pair.landed_single (p : Pair) {x : Nat} {v : W64} (hp : p.products = [(x, v)]) (hx : x < p.cyc.toNat) :
    p.landed = { p with mh := (v >>> 32).setWidth 32, ml := v.setWidth 32, products := [] } := by
  simp [Pair.landed, hp, hx]

theorem halves_append (v : W64) : ((v >>> 32).setWidth 32 : W32) ++ (v.setWidth 32 : W32) = v := by
  ext i hi
  simp [BitVec.getElem_append]
  grind

/-- Settles O7. The products are those of 64-bit arithmetic on the extended operands. -/
theorem multiplierProducts : Obligations.MultiplierProducts := by
  intro c ra rb s p a b starts
  refine ⟨fun h => ⟨⟨_, rfl, ?_⟩, ⟨_, rfl, ?_⟩⟩, fun x v hrun hp hx => ?_⟩
  · refine s.issueLocal_startsProduct c _ [ra, rb] (fun p => BitVec.ofNat 64 ((p.gr ra).toNat * (p.gr rb).toNat)) _ ?_ h
    simp only [Pair.issued_gr, BitVec.ofNat_mul, BitVec.ofNat_toNat]
    rfl
  · refine s.issueLocal_startsProduct c _ [ra, rb] (fun p => BitVec.ofInt 64 ((p.gr ra).toInt * (p.gr rb).toInt)) _ ?_ h
    rw [Pair.issued_gr, Pair.issued_gr, BitVec.ofInt_mul]
    rfl
  · refine ⟨s.modPair c (fun p => p.landed), congrArg Host.Outcome.next (if_pos hrun), onlyPair_modPair s c _, ?_⟩
    rw [State.pair_modPair, Pair.landed_single _ hp hx]
    exact ⟨halves_append v, rfl, rfl⟩

end Sys2Proof.Machine

/-! ### Hild-14: loads and stores, CRC (R304, R309, R316, R317) -/

namespace Sys2Proof.Machine

open Sys2Proof

/-! ### Traps at issue (R319, R320) -/

theorem State.busTrap_issued (s : State) (c : PairNum) (reads : List Reg) (w : BitVec 14) (code detail : Nat) :
    (s.modPair c (fun p => p.issued reads)).busTrap c w code detail =
      (s.modPair c (fun p => p.issued reads)).coreTrap c 8 w code detail (s.pair c).pc := by
  rw [State.busTrap, State.pair_modPair, Pair.issued_pc]

theorem State.reservedTrap_issued (s : State) (c : PairNum) (reads : List Reg) (w : BitVec 14) :
    (s.modPair c (fun p => p.issued reads)).reservedTrap c w =
      (s.modPair c (fun p => p.issued reads)).coreTrap c 4 w 1 0 (s.pair c).pc := by
  rw [State.reservedTrap, State.pair_modPair, Pair.issued_pc]

/-- A trap at vector 0x0008 outside a trap handler. -/
theorem State.busTrap_enters (s : State) (c : PairNum) (reads : List Reg) (w : BitVec 14) (code detail : Nat)
    (h : (s.pair c).fl.getLsbD flInTrap = false) :
    let t := (s.modPair c (fun p => p.issued reads)).busTrap c w code detail
    onlyPair c s t ∧ entersVector 8 w (BitVec.ofNat 16 (code + 256 * detail)) (s.pair c).pc reads (s.pair c) (t.pair c) := by
  rw [s.busTrap_issued]
  exact (s.issued_trap c 8 w code detail reads).1 h

theorem canTrap.issues {s : State} {c : PairNum} (h : canTrap s c) : Machine.issues s c true := ⟨h.1, Or.inl rfl⟩

/-! ### Data memory (R304) -/

theorem getD_le (n v i : Nat) (hi : i < n) : (le n v).getD i 0 = BitVec.ofNat 8 (v / 256 ^ i) := by
  induction n generalizing v i with
  | zero => omega
  | succ n ih =>
    cases i with
    | zero => simp [le]
    | succ i => rw [le, List.getD_cons_succ, ih _ _ (by omega), Nat.div_div_eq_div_mul, pow_succ, Nat.mul_comm]

/-- The bytes of a run written one after another from `a`, addresses modulo 65,536. -/
def Memory.writeRun (m : Memory) (a : Nat) : Bytes → Memory
  | [] => m
  | b :: r => (m.write (a % 65536) b).writeRun (a + 1) r

theorem Pair.store_dmem (p : Pair) (a : Nat) (b : Bytes) : (p.store a b).dmem = Memory.writeRun p.dmem a b := by
  have run : ∀ (b : Bytes) (k : Nat) (m : Memory),
      (b.zip (List.range' k b.length)).foldl (fun m x => Memory.write m ((a + x.2) % 65536) x.1) m = m.writeRun (a + k) b := by
    intro b
    induction b with
    | nil => intro k m; rfl
    | cons x r ih => intro k m; exact ih (k + 1) _
  rw [Pair.store, List.range_eq_range']
  exact run b 0 p.dmem

theorem Memory.read_writeRun_ne (m : Memory) (a x : Nat) (b : Bytes) (h : ∀ i, i < b.length → x ≠ (a + i) % 65536) :
    (m.writeRun a b).read x = m.read x := by
  induction b generalizing m a with
  | nil => rfl
  | cons y r ih =>
    rw [Memory.writeRun, ih, Memory.read_write_ne _ _ _ _ (by simpa using h 0 (Nat.zero_lt_succ _))]
    intro i hi
    rw [Nat.add_assoc, Nat.add_comm 1]
    exact h (i + 1) (Nat.succ_lt_succ hi)

theorem Memory.read_writeRun_same (m : Memory) (a i : Nat) (b : Bytes) (hb : b.length ≤ 65536) (hi : i < b.length) :
    (m.writeRun a b).read ((a + i) % 65536) = b.getD i 0 := by
  induction b generalizing m a i with
  | nil => exact absurd hi (Nat.not_lt_zero _)
  | cons y r ih =>
    rw [List.length_cons] at hb hi
    cases i with
    | zero =>
      rw [Memory.writeRun, Memory.read_writeRun_ne, Nat.add_zero, Memory.read_write_same, List.getD_cons_zero]
      intro i hi
      omega
    | succ i =>
      rw [Memory.writeRun, Nat.add_comm i, ← Nat.add_assoc, ih _ _ _ (by omega) (by omega), Nat.add_comm 1, List.getD_cons_succ]

/-- The data address of a load or store. -/
theorem Pair.dataAddr_lt (p : Pair) (rb : Reg) : p.dataAddr rb < 65536 := Nat.mod_lt _ (by decide)

/-- Bytes that do not run over the end of the memory are at their own addresses. -/
theorem Pair.load_eq (p : Pair) (a n : Nat) (h : a + n ≤ 65536) : p.load a n = (List.range n).map (fun i => p.dmem.read (a + i)) := by
  refine List.map_congr_left fun i hi => ?_
  rw [List.mem_range] at hi
  rw [Nat.mod_eq_of_lt (by omega)]

/-! ### Loads -/

theorem State.modPair_congr (s : State) (c : PairNum) {f g : Pair → Pair} (h : f (s.pair c) = g (s.pair c)) :
    s.modPair c f = s.modPair c g := by
  simp only [State.modPair, State.onCores, tmod]
  exact congrArg (fun x => { s with cores := { s.cores with pairs := tset s.cores.pairs c.val x } }) h

/-- What a load does to the issued pair. -/
def Pair.loadTo (p : Pair) (ra rb : Reg) (n : Nat) : Pair :=
  { (p.gw ra (BitVec.ofNat 32 (ule (p.load (p.dataAddr rb) n)))).next 1 with loaded := if ra = 0 then none else some ra }

section
variable (s : State) (c : PairNum) (i : Instr) (ra rb : Reg) (n : Nat)

theorem State.coreLoad_aligned (h : issues s c true) (ha : (s.pair c).dataAddr rb % n = 0) :
    s.coreLoad c i ra rb n = s.issueLocal c (coreWord i) true [rb] (fun p => p.loadTo ra rb n) := by
  rw [State.coreLoad, State.issueLocal, s.issue_eq c _ true _ _ h, s.issue_eq c _ true _ _ h]
  have ha' : ((s.modPair c (fun p => p.issued [rb])).pair c).dataAddr rb % n = 0 := by simpa using ha
  rw [if_neg (not_not.mpr ha')]
  exact State.modPair_congr _ _ rfl

theorem State.coreLoad_misaligned (h : canTrap s c) (ha : (s.pair c).dataAddr rb % n ≠ 0) :
    s.coreLoad c i ra rb n = (s.modPair c (fun p => p.issued [rb])).busTrap c (coreWord i) 2 0 := by
  rw [State.coreLoad, s.issue_eq c _ true _ _ h.issues]
  have ha' : ((s.modPair c (fun p => p.issued [rb])).pair c).dataAddr rb % n ≠ 0 := by simpa using ha
  exact if_pos ha'

/-- An aligned load writes the value of its bytes and notes the register. -/
theorem State.coreLoad_loads (h : issues s c true) (ha : (s.pair c).dataAddr rb % n = 0) :
    writesRegister c ra (BitVec.ofNat 32 (ule ((s.pair c).load ((s.pair c).dataAddr rb) n))) [rb] 1 s (s.coreLoad c i ra rb n) ∧
      ((s.coreLoad c i ra rb n).pair c).loaded = if ra = 0 then none else some ra := by
  rw [s.coreLoad_aligned c i ra rb n h ha]
  refine ⟨⟨s.issueLocal_only c _ true [rb] _ h, ?_⟩, by rw [s.issueLocal_pair c _ true [rb] _ h]; rfl⟩
  rw [s.issueLocal_pair c _ true [rb] _ h, Pair.loadTo, Pair.issued_dataAddr, Pair.issued_load]
  refine ⟨onlyRegisters_gw (onlyRegisters_issued _ [rb]) ra _, fun r => ?_, ?_⟩
  · exact (Pair.gr_gw _ ra r _).trans (by rw [Pair.issued_gr])
  · exact advances_next (p := s.pair c) (by rw [Pair.gw_frame]; exact Pair.issued_pc _ _) (Pair.gw_cyc _ ra _)
      (Pair.gw_waiting _ ra _) 1

end

/-- Settles O8: the aligned loads by `State.coreLoad_loads`, with the bytes put together; the others by the bus trap. -/
theorem loadsReadMemory : Obligations.LoadsReadMemory := by
  intro c ra rb s p a m loads traps
  have ha : p.dataAddr rb = a := rfl
  have hlt : a < 65536 := p.dataAddr_lt rb
  have bytes : ∀ n, a + n ≤ 65536 → p.load a n = (List.range n).map m := fun n h => p.load_eq a n h
  have aligned : ∀ (i : Instr) (n : Nat) (v : W32), issues s c true → a % n = 0 → BitVec.ofNat 32 (ule (p.load a n)) = v →
      loads v (s.coreLoad c i ra rb n) := fun i n v h hn hv => hv ▸ s.coreLoad_loads c i ra rb n h hn
  have misaligned : ∀ (i : Instr) (n : Nat), exec i s = .next (s.coreLoad c i ra rb n) → a % n ≠ 0 → traps i := fun i n hi hn h =>
    ⟨_, hi, by rw [s.coreLoad_misaligned c i ra rb n h hn]; exact s.busTrap_enters c [rb] _ 2 0 h.2⟩
  refine ⟨fun h h4 => ⟨_, rfl, aligned _ 4 _ h h4 ?_⟩, fun h h2 => ⟨_, rfl, aligned _ 2 _ h h2 ?_⟩,
    fun h => ⟨_, rfl, aligned _ 1 _ h (Nat.mod_one a) ?_⟩, misaligned _ 4 rfl, misaligned _ 2 rfl⟩
  · rw [bytes 4 (by omega)]
    refine BitVec.eq_of_toNat_eq ?_
    simp only [List.range_succ, List.range_zero, List.nil_append, List.cons_append, List.map_cons, List.map_nil, ule,
      BitVec.toNat_ofNat, toNat_append_eq]
    omega
  · rw [bytes 2 (by omega)]
    refine BitVec.eq_of_toNat_eq ?_
    simp only [List.range_succ, List.range_zero, List.nil_append, List.cons_append, List.map_cons, List.map_nil, ule,
      BitVec.toNat_ofNat, BitVec.toNat_setWidth, toNat_append_eq]
    omega
  · rw [bytes 1 (by omega)]
    exact BitVec.eq_of_toNat_eq (by simp [ule])

/-! ### Stores -/

section
variable (s : State) (c : PairNum) (i : Instr) (ra rb : Reg) (n : Nat)

@[simp] theorem Pair.store_gr (p : Pair) (a : Nat) (b : Bytes) (r : Reg) : (p.store a b).gr r = p.gr r := rfl

@[simp] theorem Pair.store_pc (p : Pair) (a : Nat) (b : Bytes) : (p.store a b).pc = p.pc := rfl
@[simp] theorem Pair.store_cyc (p : Pair) (a : Nat) (b : Bytes) : (p.store a b).cyc = p.cyc := rfl
@[simp] theorem Pair.store_waiting (p : Pair) (a : Nat) (b : Bytes) : (p.store a b).waiting = p.waiting := rfl

theorem onlyMemory_store {p q : Pair} (h : onlyRegisters p q) (hg : ∀ r, q.gr r = p.gr r) (a : Nat) (b : Bytes) (n : Nat) :
    onlyMemory p ((q.store a b).next n) := by
  obtain ⟨hfl, hcs, hcp, hcm, hw, hpc, htf, hcause, hpr, hcur, -, rest⟩ := h
  exact ⟨⟨hfl, hcs, hcp, hcm, hw, hpc, htf, hcause, hpr, hcur, fun _ => rfl, rest⟩, hg⟩

/-- What a store does to the issued pair. -/
def Pair.storeFrom (p : Pair) (ra rb : Reg) (n : Nat) : Pair := (p.store (p.dataAddr rb) (le n (p.gr ra).toNat)).next 1

theorem State.coreStore_aligned (h : issues s c true) (ha : (s.pair c).dataAddr rb % n = 0) :
    s.coreStore c i ra rb n = s.issueLocal c (coreWord i) true [ra, rb] (fun p => p.storeFrom ra rb n) := by
  rw [State.coreStore, State.issueLocal, s.issue_eq c _ true _ _ h, s.issue_eq c _ true _ _ h]
  have ha' : ((s.modPair c (fun p => p.issued [ra, rb])).pair c).dataAddr rb % n = 0 := by simpa using ha
  rw [if_neg (not_not.mpr ha')]
  exact State.modPair_congr _ _ rfl

theorem State.coreStore_misaligned (h : canTrap s c) (ha : (s.pair c).dataAddr rb % n ≠ 0) :
    s.coreStore c i ra rb n = (s.modPair c (fun p => p.issued [ra, rb])).busTrap c (coreWord i) 2 0 := by
  rw [State.coreStore, s.issue_eq c _ true _ _ h.issues]
  have ha' : ((s.modPair c (fun p => p.issued [ra, rb])).pair c).dataAddr rb % n ≠ 0 := by simpa using ha
  exact if_pos ha'

/-- An aligned store changes the data memory alone, and that by the run of its bytes. -/
theorem State.coreStore_stores (h : issues s c true) (ha : (s.pair c).dataAddr rb % n = 0) :
    let t := s.coreStore c i ra rb n
    onlyPair c s t ∧ onlyMemory (s.pair c) (t.pair c) ∧ advances 1 [ra, rb] (s.pair c) (t.pair c) ∧
      (t.pair c).dmem = Memory.writeRun (s.pair c).dmem ((s.pair c).dataAddr rb) (le n ((s.pair c).gr ra).toNat) := by
  rw [s.coreStore_aligned c i ra rb n h ha]
  refine ⟨s.issueLocal_only c _ true _ _ h, ?_⟩
  rw [s.issueLocal_pair c _ true _ _ h, Pair.storeFrom, Pair.issued_dataAddr, Pair.issued_gr]
  refine ⟨onlyMemory_store (onlyRegisters_issued _ _) ((s.pair c).issued_gr _) _ _ 1, advances_next (by simp) (by simp) (by simp) 1, ?_⟩
  exact (Pair.store_dmem _ _ _).trans (by rw [Pair.issued_dmem])

end

/-- Settles O9: the aligned stores by `State.coreStore_stores`, byte by byte; the others by the bus trap. -/
theorem storesWriteMemory : Obligations.StoresWriteMemory := by
  intro c ra rb s p a v stores traps
  have hlt : a < 65536 := p.dataAddr_lt rb
  have aligned : ∀ (i : Instr) (n : Nat), issues s c true → a % n = 0 → a + n ≤ 65536 → stores n (s.coreStore c i ra rb n) := by
    intro i n h hn hend
    obtain ⟨hpair, hmem, hadv, hrun⟩ := s.coreStore_stores c i ra rb n h hn
    rw [show (s.pair c).dataAddr rb = a from rfl] at hrun
    refine ⟨hpair, hmem, hadv, fun k hk => ?_, fun x hx => ?_⟩ <;> rw [hrun]
    · have same := Memory.read_writeRun_same p.dmem a k (le n v.toNat) (by rw [length_le]; omega) (by rw [length_le]; exact hk)
      rw [Nat.mod_eq_of_lt (by omega)] at same
      refine same.trans ((getD_le n _ k hk).trans ?_)
      rw [BitVec.extractLsb', Nat.shiftRight_eq_div_pow, Nat.pow_mul]
    · refine Memory.read_writeRun_ne _ _ _ _ fun k hk => ?_
      rw [length_le] at hk
      rw [Nat.mod_eq_of_lt (by omega)]
      omega
  have misaligned : ∀ (i : Instr) (n : Nat), exec i s = .next (s.coreStore c i ra rb n) → a % n ≠ 0 → traps i := fun i n hi hn h =>
    ⟨_, hi, by rw [s.coreStore_misaligned c i ra rb n h hn]; exact s.busTrap_enters c [ra, rb] _ 2 0 h.2⟩
  exact ⟨fun h h4 => ⟨_, rfl, aligned _ 4 h h4 (by omega)⟩, fun h h2 => ⟨_, rfl, aligned _ 2 h h2 (by omega)⟩,
    fun h => ⟨_, rfl, aligned _ 1 h (Nat.mod_one a) (by omega)⟩, misaligned _ 4 rfl, misaligned _ 2 rfl⟩

/-! ### CRC (R316, R317) -/

theorem laneOf_eq (x : W32) (i : Nat) : laneOf x i = x.extractLsb' (8 * i) 8 := by
  rw [laneOf, BitVec.extractLsb', Nat.shiftRight_eq_div_pow]

section
variable (s : State) (c : PairNum) (i : Instr) (rb : Reg) (n k : Nat)

/-- A CRC instruction with RA 0 and a width that is not reserved takes `n` bytes of rb through CS. -/
theorem State.crcOp_steps (h : issues s c false) (hw : crcReserved (s.pair c).cm = false) :
    let t := s.crcOp c i 0 rb n k
    let p := s.pair c
    let v := (List.range n).foldl (fun x j => coreCrcByte p.cm p.cp x (laneOf (p.gr rb) j)) p.cs
    onlyPair c s t ∧ (t.pair c).cs = v ∧ advances k [rb] p (t.pair c) ∧ onlyRegisters { p with cs := v } (t.pair c) ∧
      ∀ r, (t.pair c).gr r = p.gr r := by
  intro t p v
  have ht : t = (s.modPair c (fun p => p.issued [rb])).modPair c (fun q => ({ q with cs := v }).next k) := by
    refine (s.issue_eq c _ false _ _ h).trans ?_
    have hcm : ((s.modPair c (fun p => p.issued [rb])).pair c).cm = (s.pair c).cm := by simp
    rw [hcm, hw, if_neg (by decide)]
    refine State.modPair_congr _ _ ?_
    simp [v, p]
  rw [ht, State.pair_modPair, State.pair_modPair]
  refine ⟨onlyPair_trans (onlyPair_modPair s c _) (onlyPair_modPair _ c _), rfl,
    advances_next (Pair.issued_pc _ _) rfl rfl k, ?_, (s.pair c).issued_gr [rb]⟩
  obtain ⟨hfl, -, rest⟩ := onlyRegisters_issued (s.pair c) [rb]
  exact ⟨hfl, rfl, rest⟩

end

/-- Settles O10: the unit's byte step is R317's procedure, and each instruction takes its bytes through it in order. -/
theorem crcUnitSteps : Obligations.CrcUnitSteps := by
  intro c rb s h hcm p w bit crcb lane becomes
  have hwidth : crcWidth p.cm = w := by simp only [crcWidth, fieldOf_low, w]; rfl
  have hreserved : crcReserved p.cm = false := by
    have hf : fieldOf p.cm 4 0 = p.cm.toNat % 32 := fieldOf_low _ 4
    simp only [crcReserved, hf, Bool.and_eq_false_iff, decide_eq_false_iff_not, not_le]
    exact hcm.imp (fun h0 => (by simp [p, h0])) (fun h8 => (Nat.lt_of_succ_le h8 : 7 < _))
  have hbit : ∀ x, coreCrcBit p.cm p.cp x = bit x := by
    intro x
    simp only [coreCrcBit, hwidth, bit]
    split <;> split <;> simp
  have hbyte : ∀ x j, coreCrcByte p.cm p.cp x (laneOf (p.gr rb) j) = crcb x (lane j) := by
    intro x j
    simp only [coreCrcByte, hbit, hwidth, laneOf_eq]
    rfl
  have steps := fun i n k => s.crcOp_steps c i rb n k h hreserved
  refine ⟨⟨_, rfl, ?_⟩, ⟨_, rfl, ?_⟩⟩
  · have := steps (.crcb c 0 rb) 1 1
    simp only [List.range_succ, List.range_zero, List.nil_append, List.cons_append, List.foldl_cons, List.foldl_nil] at this
    rw [hbyte] at this
    exact this
  · have := steps (.crcw c 0 rb) 4 2
    simp only [List.range_succ, List.range_zero, List.nil_append, List.cons_append, List.foldl_cons, List.foldl_nil] at this
    rw [hbyte, hbyte, hbyte, hbyte] at this
    exact this

end Sys2Proof.Machine

/-! ### Hild-14: SYS operations, special registers, reserved encodings, entries (R306, R307, R311, R313, R319-R323) -/

namespace Sys2Proof.Machine

open Sys2Proof

/-! ### SYS (R311) -/

section
variable {p q : Pair}

theorem onlyFlags_next (h : onlyRegisters p q) (hg : ∀ r, q.gr r = p.gr r) (fl : W32) (n : Nat) :
    onlyFlags p (({ q with fl := fl }).next n) := by
  obtain ⟨-, rest⟩ := h
  exact ⟨⟨rfl, rest⟩, hg⟩

theorem onlyFlags_jump (h : onlyRegisters p q) (hg : ∀ r, q.gr r = p.gr r) (fl : W32) (t : BitVec 15) (n : Nat) :
    onlyFlags p { q.jump t n with fl := fl } := by
  obtain ⟨-, rest⟩ := h
  exact ⟨⟨rfl, rest⟩, hg⟩

end

/-- EI and DI: one flag set or cleared, and the next instruction in line. -/
theorem State.issueLocal_setFlag (s : State) (c : PairNum) (w : BitVec 14) (n : Nat) (v : Bool) (hn : n < 32) (h : issues s c false) :
    let t := s.issueLocal c w false [] (fun p => ({ p with fl := setFlag p.fl n v }).next 1)
    onlyPair c s t ∧ onlyFlags (s.pair c) (t.pair c) ∧ keepsFlags [n] (s.pair c) (t.pair c) ∧ (t.pair c).fl.getLsbD n = v ∧
      advances 1 [] (s.pair c) (t.pair c) := by
  refine ⟨s.issueLocal_only c w false [] _ h, ?_⟩
  rw [s.issueLocal_pair c w false [] _ h, Pair.issued_fl]
  refine ⟨onlyFlags_next (onlyRegisters_issued _ []) ((s.pair c).issued_gr []) _ 1, fun i hi hin => ?_, ?_,
    advances_next (Pair.issued_pc _ _) rfl rfl 1⟩
  · exact (setFlag_getLsbD _ n i v hi).trans (if_neg (fun e => hin (List.mem_singleton.mpr e)))
  · exact (setFlag_getLsbD _ n n v hn).trans (if_pos rfl)

@[simp] theorem Pair.issued_trappc (p : Pair) (reads : List Reg) : (p.issued reads).trappc = p.trappc := by rw [p.issued_frame]
@[simp] theorem Pair.issued_trapfl (p : Pair) (reads : List Reg) : (p.issued reads).trapfl = p.trapfl := by rw [p.issued_frame]
@[simp] theorem Pair.issued_rettFlags (p : Pair) (reads : List Reg) : (p.issued reads).rettFlags = p.rettFlags := by
  rw [Pair.rettFlags, Pair.issued_trapfl, Pair.issued_fl, Pair.rettFlags]

/-- The bits of FL after RETT (R311, log 112). -/
theorem Pair.rettFlags_getLsbD (p : Pair) (i : Nat) :
    p.rettFlags.getLsbD i = ((decide (i < 6) && p.trapfl.getLsbD i) || (decide (i = flEarly) && p.fl.getLsbD i)) := by
  by_cases hi : i < 32
  · have hmask : ∀ x : W32, (x &&& flMask).getLsbD i = (decide (i < 7) && x.getLsbD i) := by
      intro x
      rw [BitVec.getLsbD_and, Bool.and_comm, flMask]
      congr 1
      interval_cases i <;> rfl
    have hearly : (p.fl &&& 0x10).getLsbD i = (decide (i = flEarly) && p.fl.getLsbD i) := by
      rw [BitVec.getLsbD_and, Bool.and_comm]
      congr 1
      interval_cases i <;> rfl
    rw [Pair.rettFlags, BitVec.getLsbD_or, setFlag_getLsbD _ _ _ _ hi, hmask, hearly]
    congr 1
    by_cases h6 : i = flInTrap
    · subst h6; rfl
    · have : i ≠ 6 := h6
      rw [if_neg h6]
      congr 1
      exact decide_eq_decide.mpr (by omega)
  · simp [BitVec.getLsbD_of_ge _ _ (Nat.not_lt.mp hi)]

/-- Settles O11. -/
theorem systemOperations : Obligations.SystemOperations := by
  intro c n s p
  refine ⟨fun h => ⟨⟨_, rfl, ?_⟩, ⟨_, rfl, ?_⟩, ⟨_, rfl, s.issueLocal_setFlag c _ flIE true (by decide) h⟩,
    ⟨_, rfl, s.issueLocal_setFlag c _ flIE false (by decide) h⟩, ⟨_, rfl, ?_⟩, ⟨_, rfl, ?_⟩⟩, fun h htrap => ⟨_, rfl, ?_⟩⟩
  · refine ⟨s.issueLocal_only c _ false [] _ h, ?_⟩
    rw [doSysNop, s.issueLocal_pair c _ false [] _ h]
    exact ⟨onlyFlow_issued_next _ [] 1, advances_issued_next _ [] 1⟩
  · refine ⟨s.issueLocal_only c _ false [] _ h, ?_⟩
    rw [doSync, s.issueLocal_pair c _ false [] _ h]
    exact ⟨onlyFlow_issued_next _ [] 1, advances_issued_next _ [] 1⟩
  · refine ⟨s.issueLocal_only c _ false [] _ h, ?_⟩
    rw [doWaite, s.issueLocal_pair c _ false [] _ h]
    exact ⟨onlyFlow_issued_next p [] 2, congrArg (· + 1) (p.issued_pc []), rfl⟩
  · refine ⟨s.issueLocal_only c _ false [] _ h, ?_⟩
    have hpair : (doRett c s).pair c = { (p.issued []).jump p.trappc 2 with fl := p.rettFlags } := by
      rw [doRett, s.issueLocal_pair c _ false [] _ h, Pair.issued_trappc, Pair.issued_rettFlags]
    rw [hpair]
    have bit := p.rettFlags_getLsbD
    refine ⟨onlyFlags_jump (onlyRegisters_issued p []) (p.issued_gr []) _ _ 2, jumps_jump rfl rfl _ 2, (bit _).trans rfl,
      fun i hi hne => (bit i).trans (by simp [hi, hne]), (bit _).trans (by simp [flEarly]), fun i hi => (bit i).trans ?_⟩
    have h6 : ¬i < 6 := by omega
    have h4 : i ≠ flEarly := fun e => absurd (e ▸ hi) (by decide)
    simp [h6, h4]
  · have ht : doTrap c n s = (s.modPair c (fun p => p.issued [])).modPair c
        (fun p => p.entry 0xC (coreWord (.trap c n)) 8 n.toNat ((s.pair c).pc + 1)) := by
      rw [doTrap, s.issue_eq c _ false [] _ h, State.coreTrap_enters, State.pair_modPair, Pair.issued_pc]
      rw [State.pair_modPair, Pair.issued_fl]
      exact htrap
    rw [ht]
    refine ⟨onlyPair_trans (onlyPair_modPair s c _) (onlyPair_modPair _ c _), ?_⟩
    rw [State.pair_modPair, State.pair_modPair]
    exact Pair.entry_enters _ _ _ _ _ _ _ _ rfl

/-! ### Special registers (R306, R307, R315, R316, R323) -/

section
variable (p : Pair) (reads : List Reg)

@[simp] theorem Pair.issued_trapw : (p.issued reads).trapw = p.trapw := by rw [p.issued_frame]
@[simp] theorem Pair.issued_cause : (p.issued reads).cause = p.cause := by rw [p.issued_frame]
@[simp] theorem Pair.issued_trappr : (p.issued reads).trappr = p.trappr := by rw [p.issued_frame]
@[simp] theorem Pair.issued_evcur : (p.issued reads).evcur = p.evcur := by rw [p.issued_frame]
@[simp] theorem Pair.issued_cychi : (p.issued reads).cychi = p.cychi := by rw [p.issued_frame]
@[simp] theorem Pair.issued_tbhi : (p.issued reads).tbhi = p.tbhi := by rw [p.issued_frame]
@[simp] theorem Pair.issued_eccd : (p.issued reads).eccd = p.eccd := by rw [p.issued_frame]
@[simp] theorem Pair.issued_eccp : (p.issued reads).eccp = p.eccp := by rw [p.issued_frame]
@[simp] theorem Pair.issued_slot : (p.issued reads).slot = p.slot := by rw [p.issued_frame]

/-- An instruction that reads no register never stalls, so that no cycle passes at its issue. -/
@[simp] theorem Pair.issued_nil_wdog : (p.issued []).wdog = p.wdog := by
  have h : (p.issued []).wdog = p.landed.wdog := by
    unfold Pair.issued
    cases p.loaded <;> rfl
  rw [h, p.landed_frame]

end

@[simp] theorem State.coreId_modPair_issued (s : State) (c : PairNum) (reads : List Reg) :
    (s.modPair c (fun p => p.issued reads)).coreId c = s.coreId c := by
  rw [State.coreId, State.pair_modPair, Pair.issued_slot, State.coreId]

section
variable {p q : Pair} (h : onlyRegisters p q)
include h

/-! One special register written alike in both pairs. -/

theorem onlyRegisters_fl (x : W32) : onlyRegisters { p with fl := x } { q with fl := x } := by
  obtain ⟨-, rest⟩ := h
  exact ⟨rfl, rest⟩
theorem onlyRegisters_cs (x : W32) : onlyRegisters { p with cs := x } { q with cs := x } := by
  obtain ⟨hfl, -, rest⟩ := h
  exact ⟨hfl, rfl, rest⟩
theorem onlyRegisters_cp (x : W32) : onlyRegisters { p with cp := x } { q with cp := x } := by
  obtain ⟨hfl, hcs, -, rest⟩ := h
  exact ⟨hfl, hcs, rfl, rest⟩
theorem onlyRegisters_cm (x : W32) : onlyRegisters { p with cm := x } { q with cm := x } := by
  obtain ⟨hfl, hcs, hcp, -, rest⟩ := h
  exact ⟨hfl, hcs, hcp, rfl, rest⟩
theorem onlyRegisters_trappc (x : BitVec 15) : onlyRegisters { p with trappc := x } { q with trappc := x } := by
  obtain ⟨hfl, hcs, hcp, hcm, hw, -, rest⟩ := h
  exact ⟨hfl, hcs, hcp, hcm, hw, rfl, rest⟩
theorem onlyRegisters_trapfl (x : W32) : onlyRegisters { p with trapfl := x } { q with trapfl := x } := by
  obtain ⟨hfl, hcs, hcp, hcm, hw, hpc, -, rest⟩ := h
  exact ⟨hfl, hcs, hcp, hcm, hw, hpc, rfl, rest⟩
theorem onlyRegisters_cychi (x : W32) : onlyRegisters { p with cychi := x } { q with cychi := x } := by
  obtain ⟨hfl, hcs, hcp, hcm, hw, hpc, htf, hcause, hpr, hcur, hd, hpm, -, rest⟩ := h
  exact ⟨hfl, hcs, hcp, hcm, hw, hpc, htf, hcause, hpr, hcur, hd, hpm, rfl, rest⟩
theorem onlyRegisters_tbhi (x : W32) : onlyRegisters { p with tbhi := x } { q with tbhi := x } := by
  obtain ⟨hfl, hcs, hcp, hcm, hw, hpc, htf, hcause, hpr, hcur, hd, hpm, hcyc, -, rest⟩ := h
  exact ⟨hfl, hcs, hcp, hcm, hw, hpc, htf, hcause, hpr, hcur, hd, hpm, hcyc, rfl, rest⟩
theorem onlyRegisters_ecc (x y : W16) : onlyRegisters { p with eccd := x, eccp := y } { q with eccd := x, eccp := y } := by
  obtain ⟨hfl, hcs, hcp, hcm, hw, hpc, htf, hcause, hpr, hcur, hd, hpm, hcyc, htb, -, -, rest⟩ := h
  exact ⟨hfl, hcs, hcp, hcm, hw, hpc, htf, hcause, hpr, hcur, hd, hpm, hcyc, htb, rfl, rfl, rest⟩
theorem onlyRegisters_mh (x : W32) : onlyRegisters { p with mh := x } { q with mh := x } := by
  obtain ⟨hfl, hcs, hcp, hcm, hw, hpc, htf, hcause, hpr, hcur, hd, hpm, hcyc, htb, hed, hep, hs, hr, hm⟩ := h
  exact ⟨hfl, hcs, hcp, hcm, hw, hpc, htf, hcause, hpr, hcur, hd, hpm, hcyc, htb, hed, hep, hs, hr, fun hn => ⟨(hm hn).1, rfl, (hm hn).2.2⟩⟩
theorem onlyRegisters_ml (x : W32) : onlyRegisters { p with ml := x } { q with ml := x } := by
  obtain ⟨hfl, hcs, hcp, hcm, hw, hpc, htf, hcause, hpr, hcur, hd, hpm, hcyc, htb, hed, hep, hs, hr, hm⟩ := h
  exact ⟨hfl, hcs, hcp, hcm, hw, hpc, htf, hcause, hpr, hcur, hd, hpm, hcyc, htb, hed, hep, hs, hr, fun hn => ⟨(hm hn).1, (hm hn).2.1, rfl⟩⟩

end

theorem setFlag_flEarly (fl : W32) : setFlag fl flEarly true = fl ||| 0x10 := rfl

/-- EARLY set where a product is in flight (R315). -/
def Pair.noteEarly (p : Pair) : Pair := { p with fl := if p.products.isEmpty then p.fl else setFlag p.fl flEarly true }

theorem State.readSpecial_mh (s : State) (c : PairNum) : s.readSpecial c 2 = ((s.pair c).mh, (s.pair c).noteEarly) := rfl
theorem State.readSpecial_ml (s : State) (c : PairNum) : s.readSpecial c 3 = ((s.pair c).ml, (s.pair c).noteEarly) := rfl

section
variable {p : Pair}

theorem Pair.writeSpecial_mh (v : W32) : p.writeSpecial 2 v = { p.noteEarly with mh := v } := rfl
theorem Pair.writeSpecial_ml (v : W32) : p.writeSpecial 3 v = { p.noteEarly with ml := v } := rfl

theorem Pair.noteEarly_of_nil (h : p.products = []) : p.noteEarly = p := by
  rw [Pair.noteEarly, if_pos (List.isEmpty_iff.mpr h)]

theorem Pair.noteEarly_of_ne (h : p.products ≠ []) : p.noteEarly = { p with fl := p.fl ||| 0x10 } := by
  rw [Pair.noteEarly, if_neg (by simpa using h), setFlag_flEarly]

/-- A count that has just been written is not over after the cycle of the instruction that wrote it. -/
theorem Pair.next_wdog (hs : p.wdogSub = 0) (hw : p.wdog ≠ 0) : (p.next 1).wdog = p.wdog := by
  have h0 : ¬p.wdog.toNat ≤ 0 := fun e => hw (BitVec.eq_of_toNat_eq (Nat.le_zero.mp e))
  simp [Pair.next, Pair.spend, hs, h0]

end

/-- The pair as RDS leaves it before it goes on: special `n` read, its value in ra. -/
theorem State.doRds_eq (s : State) (c : PairNum) (ra : Reg) (n : BitVec 5) (hn : specialReal n = true) (h : issues s c false) :
    let x := (s.modPair c (fun p => p.issued [])).readSpecial c n.toNat
    doRds c ra n s = (s.modPair c (fun p => p.issued [])).modPair c (fun _ => (x.2.gw ra x.1).next 1) := by
  intro x
  rw [doRds, s.issue_eq c _ false [] _ h, if_pos hn]

/-- RDS where reading leaves the pair `f` of the issued one, `f` having changed none of the registers, the PC or the clock. -/
theorem State.doRds_reads (s : State) (c : PairNum) (ra : Reg) (n : BitVec 5) (v : W32) (p q : Pair) (h : issues s c false)
    (hn : specialReal n = true) (hx : (s.modPair c (fun p => p.issued [])).readSpecial c n.toNat = (v, q)) (hf : onlyRegisters p q)
    (hg : ∀ r, q.gr r = (s.pair c).gr r) (hpc : q.pc = (s.pair c).pc) (hcyc : q.cyc = ((s.pair c).issued []).cyc) (hw : q.waiting = false) :
    let t := doRds c ra n s
    onlyPair c s t ∧ setsRegister ra v (s.pair c) (t.pair c) ∧ advances 1 [] (s.pair c) (t.pair c) ∧ onlyRegisters p (t.pair c) := by
  intro t
  have ht : t = _ := s.doRds_eq c ra n hn h
  rw [hx] at ht
  rw [ht, State.pair_modPair]
  refine ⟨onlyPair_trans (onlyPair_modPair s c _) (onlyPair_modPair _ c _), fun r => ?_,
    advances_next (by rw [Pair.gw_frame]; exact hpc) ((Pair.gw_cyc _ _ _).trans hcyc) ((Pair.gw_waiting _ _ _).trans hw) 1,
    onlyRegisters_next (onlyRegisters_gw hf ra v) 1⟩
  rw [Pair.next_gr, Pair.gr_gw, hg]

/-- WRS where writing leaves the pair `q` of the issued one, `q` having changed none of the registers, the PC or the clock. -/
theorem State.doWrs_writes (s : State) (c : PairNum) (ra : Reg) (n : BitVec 5) (p q : Pair) (h : issues s c false)
    (hn : specialWritable n = true) (hx : ((s.pair c).issued [ra]).writeSpecial n.toNat ((s.pair c).gr ra) = q) (hf : onlyRegisters p q)
    (hg : ∀ r, q.gr r = (s.pair c).gr r) (hpc : q.pc = (s.pair c).pc) (hcyc : q.cyc = ((s.pair c).issued [ra]).cyc) (hw : q.waiting = false) :
    let t := doWrs c ra n s
    onlyPair c s t ∧ advances 1 [ra] (s.pair c) (t.pair c) ∧ (∀ r, (t.pair c).gr r = (s.pair c).gr r) ∧ onlyRegisters p (t.pair c) ∧
      t.pair c = q.next 1 := by
  intro t
  have ht : t = (s.modPair c (fun p => p.issued [ra])).modPair c (fun p => (p.writeSpecial n.toNat (p.gr ra)).next 1) := by
    simp only [t, doWrs, s.issue_eq c _ false [ra] _ h, if_pos hn]
  have hp : t.pair c = q.next 1 := by
    rw [ht, State.pair_modPair, State.pair_modPair, Pair.issued_gr, hx]
  refine ⟨ht ▸ onlyPair_trans (onlyPair_modPair s c _) (onlyPair_modPair _ c _), ?_⟩
  rw [hp]
  exact ⟨advances_next hpc hcyc hw 1, hg, onlyRegisters_next hf 1, rfl⟩


/-- Settles O12. A special that is only read leaves the issued pair as it is; of each other, what it changes is named. -/
theorem specialRegisters : Obligations.SpecialRegisters := by
  intro c ra s h p time reads readsAnd writes v early
  have issued := onlyRegisters_issued p
  have hgr := p.issued_gr
  have hpc := p.issued_pc
  have read : ∀ n v, specialReal n = true → (s.modPair c (fun p => p.issued [])).readSpecial c n.toNat = (v, p.issued []) → reads n v := by
    intro n v hn hx
    obtain ⟨h1, h2, h3, h4⟩ := s.doRds_reads c ra n v p (p.issued []) h hn hx (issued []) (hgr []) (hpc []) rfl rfl
    exact ⟨_, rfl, h1, h4, h2, h3⟩
  have readAnd : ∀ n v f q, specialReal n = true → (s.modPair c (fun p => p.issued [])).readSpecial c n.toNat = (v, q) → onlyRegisters f q →
      q.g = p.g → q.pc = p.pc → q.cyc = (p.issued []).cyc → q.waiting = false → readsAnd n v f := by
    intro n v f q hn hx hf hg hpc hcyc hw
    exact ⟨_, rfl, s.doRds_reads c ra n v f q h hn hx hf (fun r => by rw [Pair.gr, hg, Pair.gr]) hpc hcyc hw⟩
  have write : ∀ n f (P : Pair → Prop) q, specialWritable n = true → (p.issued [ra]).writeSpecial n.toNat v = q → onlyRegisters f q →
      q.g = p.g → q.pc = p.pc → q.cyc = (p.issued [ra]).cyc → q.waiting = false → P (q.next 1) → writes n f P := by
    intro n f P q hn hx hf hg hpc hcyc hw hP
    obtain ⟨h1, h2, h3, h4, h5⟩ := s.doWrs_writes c ra n f q h hn hx hf (fun r => by rw [Pair.gr, hg, Pair.gr]) hpc hcyc hw
    exact ⟨_, rfl, h1, h2, h3, h4, h5 ▸ hP⟩
  refine ⟨⟨read _ _ rfl ?_, read _ _ rfl ?_, read _ _ rfl ?_, read _ _ rfl ?_, read _ _ rfl ?_, read _ _ rfl ?_, read _ _ rfl ?_,
    read _ _ rfl ?_, read _ _ rfl ?_, read _ _ rfl ?_, read _ _ rfl ?_, read _ _ rfl ?_, read _ _ rfl ?_, read _ _ rfl ?_,
    read _ _ rfl ?_, read _ _ rfl ?_⟩, ?_, ?_, ?_, fun he => ⟨read _ _ rfl ?_, read _ _ rfl ?_⟩, fun he => ⟨?_, ?_⟩, ?_,
    fun he => ⟨?_, ?_⟩, fun he => ⟨?_, ?_⟩, ?_, ?_, ?_, ?_, ?_, fun hv => ?_⟩
  iterate 16 simp [State.readSpecial, p]
  · refine readAnd _ _ _ { p.issued [] with cychi := (p.cyc >>> 32).setWidth 32 } rfl ?_ (onlyRegisters_cychi (issued []) _)
      (p.issued_g []) (hpc []) rfl rfl
    simp [State.readSpecial, p]
  · refine readAnd _ _ _ { p.issued [] with tbhi := (time >>> 32).setWidth 32 } rfl ?_ (onlyRegisters_tbhi (issued []) _)
      (p.issued_g []) (hpc []) rfl rfl
    simp [State.readSpecial, State.coreTime, pairDie, time, p]
  · refine readAnd _ _ _ { p.issued [] with eccd := 0, eccp := 0 } rfl ?_ (onlyRegisters_ecc (issued []) 0 0)
      (p.issued_g []) (hpc []) rfl rfl
    have hecc : BitVec.ofNat 32 (p.eccd.toNat + 65536 * p.eccp.toNat) = p.eccp ++ p.eccd :=
      BitVec.eq_of_toNat_eq (by rw [toNat_append_eq, BitVec.toNat_ofNat]; omega)
    simp [State.readSpecial, p] at hecc ⊢
    exact hecc
  · rw [show (2 : BitVec 5).toNat = 2 from rfl, State.readSpecial_mh, State.pair_modPair, Pair.noteEarly_of_nil he]
  · rw [show (3 : BitVec 5).toNat = 3 from rfl, State.readSpecial_ml, State.pair_modPair, Pair.noteEarly_of_nil he]
  · refine readAnd _ _ _ { p.issued [] with fl := early } rfl ?_ (onlyRegisters_fl (issued []) _) (p.issued_g []) (hpc []) rfl rfl
    rw [show (2 : BitVec 5).toNat = 2 from rfl, State.readSpecial_mh, State.pair_modPair, Pair.noteEarly_of_ne he, Pair.issued_fl]
  · refine readAnd _ _ _ { p.issued [] with fl := early } rfl ?_ (onlyRegisters_fl (issued []) _) (p.issued_g []) (hpc []) rfl rfl
    rw [show (3 : BitVec 5).toNat = 3 from rfl, State.readSpecial_ml, State.pair_modPair, Pair.noteEarly_of_ne he, Pair.issued_fl]
  · exact write _ _ (fun _ => True) { p.issued [ra] with fl := v &&& 0x7F } rfl rfl (onlyRegisters_fl (issued [ra]) _) (p.issued_g _) (hpc _) rfl rfl trivial
  · refine write _ _ (fun q => q.mh = v) { p.issued [ra] with mh := v } rfl ?_ (onlyRegisters_mh (issued [ra]) _) (p.issued_g _) (hpc _) rfl rfl rfl
    rw [show (2 : BitVec 5).toNat = 2 from rfl, Pair.writeSpecial_mh, Pair.noteEarly_of_nil he]
  · refine write _ _ (fun q => q.ml = v) { p.issued [ra] with ml := v } rfl ?_ (onlyRegisters_ml (issued [ra]) _) (p.issued_g _) (hpc _) rfl rfl rfl
    rw [show (3 : BitVec 5).toNat = 3 from rfl, Pair.writeSpecial_ml, Pair.noteEarly_of_nil he]
  · refine write _ _ (fun q => q.mh = v) { p.issued [ra] with fl := early, mh := v } rfl ?_ (onlyRegisters_mh (onlyRegisters_fl (issued [ra]) _) _)
      (p.issued_g _) (hpc _) rfl rfl rfl
    rw [show (2 : BitVec 5).toNat = 2 from rfl, Pair.writeSpecial_mh, Pair.noteEarly_of_ne he, Pair.issued_fl]
  · refine write _ _ (fun q => q.ml = v) { p.issued [ra] with fl := early, ml := v } rfl ?_ (onlyRegisters_ml (onlyRegisters_fl (issued [ra]) _) _)
      (p.issued_g _) (hpc _) rfl rfl rfl
    rw [show (3 : BitVec 5).toNat = 3 from rfl, Pair.writeSpecial_ml, Pair.noteEarly_of_ne he, Pair.issued_fl]
  · exact write _ _ (fun _ => True) { p.issued [ra] with cs := v } rfl rfl (onlyRegisters_cs (issued [ra]) _) (p.issued_g _) (hpc _) rfl rfl trivial
  · exact write _ _ (fun _ => True) { p.issued [ra] with cp := v } rfl rfl (onlyRegisters_cp (issued [ra]) _) (p.issued_g _) (hpc _) rfl rfl trivial
  · exact write _ _ (fun _ => True) { p.issued [ra] with cm := v &&& 0x3F } rfl rfl (onlyRegisters_cm (issued [ra]) _) (p.issued_g _) (hpc _) rfl rfl trivial
  · exact write _ _ (fun _ => True) { p.issued [ra] with trappc := v.setWidth 15 } rfl rfl (onlyRegisters_trappc (issued [ra]) _) (p.issued_g _) (hpc _)
      rfl rfl trivial
  · exact write _ _ (fun _ => True) { p.issued [ra] with trapfl := v } rfl rfl (onlyRegisters_trapfl (issued [ra]) _) (p.issued_g _) (hpc _) rfl rfl trivial
  · exact write _ _ (fun q => q.wdog = v.setWidth 24 ∧ q.wdogOn = true ∧ q.wdogHits = 0) { p.issued [ra] with wdog := v.setWidth 24, wdogSub := 0, wdogOn := true, wdogHits := 0 } rfl (if_neg hv)
      (issued [ra]) (p.issued_g _) (hpc _) rfl rfl ⟨Pair.next_wdog rfl hv, rfl, rfl⟩

/-! ### Reserved encodings (R313) -/

theorem byX_isSome (w : BitVec 14) (f g : Reg → Reg → Instr) : (byX w f g).isSome = true := rfl

theorem decodeSys_isNone (c d : PairNum) (w : BitVec 14) : (decodeSys c w).isNone = (decodeSys d w).isNone := by
  simp only [decodeSys]
  split
  · rfl
  · split
    · rfl
    · split <;> rfl

/-- Whether a word is reserved does not depend on the pair. -/
theorem decodeCore_isNone (c d : PairNum) (w : BitVec 14) : (decodeCore c w).isNone = (decodeCore d w).isNone := by
  simp only [decodeCore]
  split
  all_goals repeat' first | rfl | exact decodeSys_isNone c d w | split

/-- A reserved encoding met at issue: the trap outside a trap handler, a pair failure in one. -/
theorem State.reservedTrap_cases (s : State) (c : PairNum) (i : Instr) (w : BitVec 14) (reads : List Reg)
    (hi : exec i s = .next ((s.modPair c (fun p => p.issued reads)).reservedTrap c w)) :
    ((s.pair c).fl.getLsbD flInTrap = false →
      ∃ t, exec i s = .next t ∧ onlyPair c s t ∧ entersVector 4 w 1 (s.pair c).pc reads (s.pair c) (t.pair c)) ∧
    ((s.pair c).fl.getLsbD flInTrap = true → exec i s = .next ((s.modPair c (fun p => p.issued reads)).failPair c .doubleTrap).settle) := by
  rw [s.reservedTrap_issued] at hi
  obtain ⟨clear, set⟩ := s.issued_trap c 4 w 1 0 reads
  exact ⟨fun h => ⟨_, hi, clear h⟩, fun h => hi.trans (congrArg _ (set h))⟩

/-- A PFX before an instruction that takes none (R310). -/
theorem State.issue_prefixed (s : State) (c : PairNum) (w : BitVec 14) (reads : List Reg) (body : State → State)
    (hr : s.coreReady c = true) (hn : (s.pair c).prn ≠ 0) :
    s.issue c w false reads body = (s.modPair c (fun p => p.issued reads)).reservedTrap c w := by
  have hn' : ((s.modPair c (fun p => p.issued reads)).pair c).prn ≠ 0 := by rwa [State.pair_modPair, Pair.issued_prn]
  rw [State.issue, if_pos hr, if_pos (by simpa using hn')]

/-- Settles O13: each of these is the reserved trap on the issued pair. -/
theorem reservedEncodingsTrap : Obligations.ReservedEncodingsTrap := by
  intro c ra rb n x w s hr p traps
  have trapped := fun i w reads hi => s.reservedTrap_cases c i w reads hi
  have issue : ∀ w reads body, p.prn = 0 → s.issue c w false reads body = body (s.modPair c (fun p => p.issued reads)) :=
    fun w reads body h0 => s.issue_eq c w false reads body ⟨hr, Or.inr h0⟩
  refine ⟨fun hw => trapped _ _ _ ?_, fun hn => ⟨trapped _ _ _ ?_, trapped _ _ _ ?_⟩, fun h3 => trapped _ _ _ ?_,
    fun hn h0 => trapped _ _ _ ?_, fun hn h0 => trapped _ _ _ ?_, fun ha h0 => trapped _ _ _ ?_, fun h1 h7 h0 => trapped _ _ _ ?_⟩
  · have hres : reservedWord w = true := by rw [reservedWord, decodeCore_isNone 0 c, hw]; rfl
    exact congrArg Host.Outcome.next ((if_pos hres).trans (s.issue_eq c w true [] _ ⟨hr, Or.inl rfl⟩))
  · exact congrArg Host.Outcome.next (by rw [doAdd, State.alu2, State.issueLocal, s.issue_prefixed c _ _ _ hr hn])
  · exact congrArg Host.Outcome.next (by rw [doSysNop, State.issueLocal, s.issue_prefixed c _ _ _ hr hn])
  · have h3' : 3 ≤ ((s.modPair c (fun p => p.issued [])).pair c).prn := by rwa [State.pair_modPair, Pair.issued_prn]
    exact congrArg Host.Outcome.next ((s.issue_eq c _ true [] _ ⟨hr, Or.inl rfl⟩).trans (if_pos h3'))
  · have hs : ¬specialReal n = true := by simpa [specialReal] using hn
    exact congrArg Host.Outcome.next (by rw [doRds, issue _ _ _ h0, if_neg hs])
  · have hs : ¬specialWritable n = true := by simpa [specialWritable] using hn
    exact congrArg Host.Outcome.next (by rw [doWrs, issue _ _ _ h0, if_neg hs])
  · exact congrArg Host.Outcome.next (by rw [doCrcb, State.crcOp, issue _ _ _ h0, if_pos (by rw [bne_iff_ne.mpr ha, Bool.true_or])])
  · have hw : crcReserved ((s.modPair c (fun p => p.issued [rb])).pair c).cm = true := by
      rw [State.pair_modPair, Pair.issued_cm, crcReserved, fieldOf_low, Bool.and_eq_true, decide_eq_true_eq, decide_eq_true_eq]
      exact ⟨h1, h7⟩
    exact congrArg Host.Outcome.next (by rw [doCrcw, State.crcOp, issue _ _ _ h0, if_pos (by rw [hw, Bool.or_true])])

/-! ### Entries (R320, R323) -/

theorem Pair.landed_loaded (p : Pair) (x : Option Reg) : ({ p with loaded := x } : Pair).landed = { p.landed with loaded := x } := by
  simp only [Pair.landed]
  generalize p.products.filter (fun x => decide (x.1 < p.cyc.toNat)) = l
  generalize p.products.filter (fun x => !decide (x.1 < p.cyc.toNat)) = rest
  generalize hq : ({ p with products := rest } : Pair) = q
  have hq' : ({ p with products := rest, loaded := x } : Pair) = { q with loaded := x } := by rw [← hq]
  rw [hq']
  clear hq hq'
  induction l generalizing q with
  | nil => rfl
  | cons y l ih => exact ih { q with mh := (y.2 >>> 32).setWidth 32, ml := y.2.setWidth 32 }

/-- An entry between instructions: products that are due land first, and no stall is taken. -/
theorem Pair.landed_entry_enters (p : Pair) (vec : BitVec 15) (w : BitVec 14) (code : Nat) :
    entersVector vec w (BitVec.ofNat 16 (code + 256 * 0)) p.pc [] { p with loaded := none } (p.landed.entry vec w code 0 p.pc) := by
  have h := Pair.entry_enters { p with loaded := none } vec w code 0 p.pc [] _ rfl
  have hq : ({ p with loaded := none } : Pair).issued [] = { p.landed with loaded := none, waiting := false } := by
    show { ({ p with loaded := none } : Pair).landed with loaded := none, waiting := false } = _
    rw [p.landed_loaded]
  rw [hq] at h
  exact h

/-- Settles O14. -/
theorem eventAndWatchdogEntry : Obligations.EventAndWatchdogEntry := by
  intro c s p
  have boundary : p.running = true → p.prn = 0 → p.fl.getLsbD flInTrap = false → p.atBoundary = true := fun hrun hprn htrap => by
    simp [Pair.atBoundary, hrun, hprn, htrap]
  refine ⟨fun hrun hprn htrap hie hev => ?_, fun hrun hprn htrap hdue hhits => ?_⟩
  · refine ⟨s.useFree.modPair c (fun p => p.landed.entry 0x10 (s.freeVal.setWidth 14) 0x10 0 p.pc), ?_, onlyPair_modPair s.useFree c _, ?_⟩
    · exact congrArg Host.Outcome.next (if_pos (by rw [boundary hrun hprn htrap, hie, hev]; rfl))
    · rw [State.pair_modPair]
      exact p.landed_entry_enters _ _ _
  · have hfirst : ¬(p.running && p.wdogOn && p.wdog == 0 && p.wdogHits != 0) = true := by simp [hhits]
    refine ⟨s.useFree.modPair c (fun p => { p.landed.entry 0x14 (s.freeVal.setWidth 14) 0x11 0 p.pc with wdogDue := false, wdogHits := 1 }),
      ?_, onlyPair_modPair s.useFree c _, ?_⟩
    · exact congrArg Host.Outcome.next ((if_neg hfirst).trans (if_pos (by rw [boundary hrun hprn htrap, hdue]; rfl)))
    · rw [State.pair_modPair]
      exact ⟨rfl, rfl, p.landed_entry_enters _ _ _⟩

end Sys2Proof.Machine

/-! ### Event units (R325-R336) -/

namespace Sys2Proof.Machine

open Sys2Proof

/-! ### One event unit of the state -/

theorem State.evu_modEvu_ne (s : State) (u w : EvUnit) (f : Evu → Evu) (h : w ≠ u) : (s.modEvu u f).evu w = s.evu w := by
  simp only [State.evu, State.modEvu, State.onEvus_evus]
  exact tget_tmod_ne _ _ _ _ _ (fun e => h (Fin.ext e))

theorem onlyEvu_refl (u : EvUnit) (s : State) : onlyEvu u s s := ⟨fun _ _ => rfl, rfl⟩

theorem onlyEvu_modEvu (s : State) (u : EvUnit) (f : Evu → Evu) : onlyEvu u s (s.modEvu u f) :=
  ⟨fun w h => s.evu_modEvu_ne u w f h, rfl⟩

theorem onlyEvu_trans {s t v : State} {u : EvUnit} (h : onlyEvu u s t) (k : onlyEvu u t v) : onlyEvu u s v := by
  obtain ⟨h1, h2⟩ := h
  obtain ⟨k1, k2⟩ := k
  refine ⟨fun w hw => (k1 w hw).trans (h1 w hw), ?_⟩
  have e : { v with evus := s.evus } = { t with evus := s.evus } := congrArg (fun x : State => { x with evus := s.evus }) k2
  exact e.trans h2

/-! ### Sets of sources -/

theorem tget_setBit (t : Table Bool) (n m : Nat) (v : Bool) : tget false (setBit t n v) m = if m = n then v else tget false t m := by
  by_cases h : m = n
  · subst h; cases v <;> simp [setBit]
  · cases v
    · simpa [setBit, h] using tget_tdel_ne false t n m h
    · simpa [setBit, h] using tget_tset_ne false t n m true h

/-! ### Levels (R334) -/

/-- A source that its low line holds pending is pending after `relevel`; nothing else changes. -/
theorem State.relevel_eq (s : State) (u : EvUnit) (n : Nat) :
    s.relevel u n = if lineHolds (s.evu u) u n then s.modEvu u (fun e => { e with pend := setBit e.pend n true }) else s := rfl

theorem onlyEvu_relevel (s : State) (u : EvUnit) (n : Nat) : onlyEvu u s (s.relevel u n) := by
  rw [State.relevel_eq]
  split
  · exact onlyEvu_modEvu s u _
  · exact onlyEvu_refl u s

theorem State.relevel_evu (s : State) (u : EvUnit) (n : Nat) :
    (s.relevel u n).evu u = { s.evu u with pend := ((s.relevel u n).evu u).pend } := by
  rw [State.relevel_eq]
  split
  · rw [State.evu_modEvu]
  · rfl

theorem State.relevel_isPend (s : State) (u : EvUnit) (n m : Nat) :
    ((s.relevel u n).evu u).isPend m = ((s.evu u).isPend m || (m == n && lineHolds (s.evu u) u n)) := by
  rw [State.relevel_eq]
  split
  · next h =>
    rw [State.evu_modEvu, Evu.isPend, tget_setBit, h]
    by_cases hm : m = n <;> simp [hm, Evu.isPend]
  · next h =>
    rw [Bool.not_eq_true] at h
    simp [h]

/-- What holds a source pending reads its target, its active bit and its line, which no command on pending and mask bits writes. -/
theorem lineHolds_congr {e f : Evu} (u : EvUnit) (n : Nat) (ht : f.tgt = e.tgt) (ha : f.isAct n = e.isAct n) (hl : f.level = e.level) :
    lineHolds f u n = lineHolds e u n := by
  simp only [lineHolds, Evu.edge, Evu.target, ht, ha, hl]

/-! ### Single-source commands (R330) -/

/-- A command on one source: its pending and mask bits as written, then held by the line; the other sources as before. -/
theorem State.evuCmd_real (s : State) (u : EvUnit) (n : Nat) (f : Evu → Evu) (hr : sourceReal u n = true)
    (hf : ∀ e, f e = { e with pend := (f e).pend, unmasked := (f e).unmasked })
    (hm : ∀ e m, m ≠ n → (f e).isPend m = e.isPend m ∧ (f e).isMasked m = e.isMasked m) :
    let e := s.evu u
    let t := s.evuCmd u n f
    onlyEvu u s t ∧ (t.evu u).isPend n = ((f e).isPend n || lineHolds e u n) ∧ (t.evu u).isMasked n = (f e).isMasked n ∧
      (t.evu u).act = e.act ∧ (t.evu u).err = e.err ∧ (t.evu u).spur = e.spur ∧ (t.evu u).tgt = e.tgt ∧
      ∀ m, m ≠ n → (t.evu u).isPend m = e.isPend m ∧ (t.evu u).isMasked m = e.isMasked m := by
  intro e t
  have ht : t = (s.modEvu u f).relevel u n := if_pos hr
  have held : lineHolds (f e) u n = lineHolds e u n := by rw [hf e]; exact lineHolds_congr u n rfl rfl rfl
  have pend := (s.modEvu u f).relevel_isPend u n
  have rest := (s.modEvu u f).relevel_evu u n
  rw [State.evu_modEvu] at pend rest
  rw [← ht] at pend rest
  have frame : t.evu u = { e with pend := (t.evu u).pend, unmasked := (f e).unmasked } := rest.trans (by rw [hf (s.evu u)])
  have masked : ∀ m, (t.evu u).isMasked m = (f e).isMasked m := fun m => by rw [frame]; rfl
  refine ⟨ht ▸ onlyEvu_trans (onlyEvu_modEvu s u f) (onlyEvu_relevel _ u n), by rw [pend, held]; simp [e], masked n,
    by rw [frame], by rw [frame], by rw [frame], by rw [frame], fun m h => ⟨?_, by rw [masked, (hm e m h).2]⟩⟩
  rw [pend, (hm (s.evu u) m h).1, beq_false_of_ne h]
  simp [e]

/-- Settles O22: what each command writes of its source, with the bit that its low line holds. -/
theorem eventUnitCommands : Obligations.EventUnitCommands := by
  intro u k s n e held one
  refine ⟨fun hr => ?_, fun hr i hi => ?_⟩
  · have write : ∀ (i : Instr) (f : Evu → Evu) (pend masked : Bool), exec i s = .next (s.evuCmd u n f) →
        (∀ e, f e = { e with pend := (f e).pend, unmasked := (f e).unmasked }) →
        (∀ e m, m ≠ n → (f e).isPend m = e.isPend m ∧ (f e).isMasked m = e.isMasked m) →
        ((f e).isPend n || held) = pend → (f e).isMasked n = masked → one i pend masked := by
      intro i f pend masked hi hf hm hp hk
      obtain ⟨h1, h2, h3, rest⟩ := s.evuCmd_real u n f hr hf hm
      exact ⟨_, hi, h1, h2.trans hp, h3.trans hk, rest⟩
    have pend : ∀ (e : Evu) (v : Bool), ({ e with pend := setBit e.pend n v } : Evu).isPend n = v := fun e v => by simp [Evu.isPend, tget_setBit]
    have mask : ∀ (e : Evu) (v : Bool), ({ e with unmasked := setBit e.unmasked n v } : Evu).isMasked n = !v := fun e v => by
      simp [Evu.isMasked, tget_setBit]
    have keep : ∀ (t : Table Bool) (m : Nat) (v : Bool), m ≠ n → tget false (setBit t n v) m = tget false t m := fun t m v h => by
      rw [tget_setBit, if_neg h]
    refine ⟨write _ _ _ _ rfl (fun _ => rfl) (fun e m h => ⟨keep e.pend m true h, rfl⟩) ?_ rfl,
      write _ _ _ _ rfl (fun _ => rfl) (fun e m h => ⟨keep e.pend m false h, rfl⟩) ?_ rfl,
      write _ _ _ _ rfl (fun _ => rfl) (fun e m h => ⟨rfl, congrArg _ (keep e.unmasked m false h)⟩) rfl (mask e false),
      write _ _ _ _ rfl (fun _ => rfl) (fun e m h => ⟨rfl, congrArg _ (keep e.unmasked m true h)⟩) rfl (mask e true),
      write _ _ _ _ rfl (fun _ => rfl) (fun e m h => ⟨keep e.pend m false h, congrArg _ (keep e.unmasked m false h)⟩) ?_ (mask e false)⟩
    · exact congrArg (· || held) (pend e true)
    · exact congrArg (· || held) (pend e false)
    · exact congrArg (· || held) (pend e false)
  · simp only [List.mem_cons, List.not_mem_nil, or_false] at hi
    have err : ∀ f, s.evuCmd u n f = s.modEvu u (fun e => { e with err := satInc e.err }) := fun f => if_neg (by rw [hr]; decide)
    refine ⟨s.modEvu u (fun e => { e with err := satInc e.err }), ?_, onlyEvu_modEvu s u _, State.evu_modEvu s u _⟩
    rcases hi with rfl | rfl | rfl | rfl | rfl <;> exact congrArg Host.Outcome.next (err _)

/-! ### Eligibility and the claim (R331, R332) -/

theorem mem_keys_of_tget {t : Table Bool} {n : Nat} (h : tget false t n = true) : n ∈ t.map (fun (x : Nat × Bool) => x.1) := by
  induction t with
  | nil => cases h
  | cons x t ih =>
    obtain ⟨a, v⟩ := x
    by_cases ha : a = n
    · exact List.mem_cons.mpr (Or.inl ha.symm)
    · refine List.mem_cons.mpr (Or.inr (ih ?_))
      rwa [tget, tfind, if_neg ha] at h

theorem keys_pairwise_of_tAbove {t : Table Bool} {lo : Nat} (h : tAbove lo t = true) :
    (t.map (fun (x : Nat × Bool) => x.1)).Pairwise (· < ·) ∧ ∀ n ∈ t.map (fun (x : Nat × Bool) => x.1), lo < n := by
  induction t generalizing lo with
  | nil => exact ⟨List.Pairwise.nil, fun n hn => (List.not_mem_nil hn).elim⟩
  | cons x t ih =>
    obtain ⟨a, v⟩ := x
    rw [tAbove, Bool.and_eq_true, decide_eq_true_eq] at h
    obtain ⟨hp, ha⟩ := ih h.2
    refine ⟨List.pairwise_cons.mpr ⟨ha, hp⟩, fun n hn => ?_⟩
    rcases List.mem_cons.mp hn with rfl | hn
    · exact h.1
    · exact Nat.lt_trans h.1 (ha n hn)

/-- In canonical form the numbers of a set rise strictly. -/
theorem keys_pairwise_of_tWf {t : Table Bool} (h : tWf t = true) : (t.map (fun (x : Nat × Bool) => x.1)).Pairwise (· < ·) := by
  cases t with
  | nil => exact List.Pairwise.nil
  | cons x t =>
    obtain ⟨hp, ha⟩ := keys_pairwise_of_tAbove (show tAbove x.1 t = true from h)
    exact List.pairwise_cons.mpr ⟨ha, hp⟩

/-- `k` comes before `m` in the order of a claim: lower PRIO, or the same PRIO and no higher number. -/
def Evu.before (e : Evu) (u : EvUnit) (k m : Nat) : Prop := e.prio u k < e.prio u m ∨ (e.prio u k = e.prio u m ∧ k ≤ m)

/-- One step of the search for the source to claim: a later number is taken only at a lower PRIO. -/
def Evu.better (e : Evu) (u : EvUnit) (b : Option Nat) (n : Nat) : Option Nat :=
  match b with
  | some m => if e.prio u n < e.prio u m then some n else b
  | none => some n

theorem Evu.foldl_better (e : Evu) (u : EvUnit) (k : Nat) (l : List Nat) (m : Nat) (hk : k = m ∨ k ∈ l) (hl : (m :: l).Pairwise (· < ·))
    (hmin : ∀ n ∈ m :: l, e.before u k n) : l.foldl (e.better u) (some m) = some k := by
  induction l generalizing m with
  | nil =>
    rcases hk with rfl | hk
    · rfl
    · exact (List.not_mem_nil hk).elim
  | cons n l ih =>
    obtain ⟨hm, hnl⟩ := List.pairwise_cons.mp hl
    obtain ⟨hn, hl'⟩ := List.pairwise_cons.mp hnl
    have hmn : m < n := hm n (List.mem_cons_self)
    have bm : e.before u k m := hmin m List.mem_cons_self
    have bn : e.before u k n := hmin n (List.mem_cons_of_mem _ List.mem_cons_self)
    have brest : ∀ x ∈ l, e.before u k x := fun x hx => hmin x (List.mem_cons_of_mem _ (List.mem_cons_of_mem _ hx))
    rw [List.foldl_cons, Evu.better]
    unfold Evu.before at bm bn
    split
    · next hlt =>
      have hkm : k ≠ m := fun e => by subst e; omega
      have hkl : k = n ∨ k ∈ l := (List.mem_cons.mp (hk.resolve_left hkm))
      refine ih n hkl hnl fun x hx => ?_
      exact hmin x (List.mem_cons_of_mem _ hx)
    · next hge =>
      have hkn : k ≠ n := fun e => by subst e; omega
      have hkl : k = m ∨ k ∈ l := hk.imp_right (fun h => (List.mem_cons.mp h).resolve_left hkn)
      refine ih m hkl (List.pairwise_cons.mpr ⟨fun x hx => hm x (List.mem_cons_of_mem _ hx), hl'⟩) fun x hx => ?_
      rcases List.mem_cons.mp hx with rfl | hx
      · exact bm
      · exact brest x hx

/-- The search finds the source that comes before every other of a rising list. -/
theorem Evu.foldl_better_none (e : Evu) (u : EvUnit) (k : Nat) (l : List Nat) (hk : k ∈ l) (hl : l.Pairwise (· < ·))
    (hmin : ∀ n ∈ l, e.before u k n) : l.foldl (e.better u) none = some k := by
  cases l with
  | nil => exact (List.not_mem_nil hk).elim
  | cons m l => exact e.foldl_better u k l m (List.mem_cons.mp hk) hl hmin

theorem Evu.pick_eq (e : Evu) (u : EvUnit) (i : Nat) : e.pick u i = (e.eligibleFor u i).foldl (e.better u) none := by
  rw [Evu.pick]
  congr 1

theorem pairIndex_exists (c : PairNum) : (if pairUnit c = 0 then pairIndex c = 0 else pairIndex c < 10) := by
  revert c
  decide

theorem mem_eligibleFor (s : State) (c : PairNum) (m : Nat) :
    m ∈ (s.evu (pairUnit c)).eligibleFor (pairUnit c) (pairIndex c) ↔ eligibleFor s c m := by
  have hi := pairIndex_exists c
  rw [Evu.eligibleFor, List.mem_filter, Bool.and_eq_true, beq_iff_eq, Evu.eligible]
  constructor
  · rintro ⟨-, he, hp⟩
    simp only [Bool.and_eq_true, Bool.not_eq_true'] at he
    obtain ⟨⟨⟨h1, h2⟩, h3⟩, -⟩ := he
    exact ⟨h1, h2, h3, hp⟩
  · rintro ⟨h1, h2, h3, hp⟩
    refine ⟨mem_keys_of_tget h1, ?_, hp⟩
    rw [h1, h2, h3, hp]
    split at hi
    · next hu => simp [hu, hi]
    · next hu => simp [hu, hi]

theorem State.pick_of_first (s : State) (c : PairNum) (k : Nat) (hwf : tWf (s.evu (pairUnit c)).pend = true) (hk : eligibleFor s c k)
    (hmin : ∀ m, eligibleFor s c m → (s.evu (pairUnit c)).before (pairUnit c) k m) :
    (s.evu (pairUnit c)).pick (pairUnit c) (pairIndex c) = some k := by
  rw [Evu.pick_eq]
  exact Evu.foldl_better_none _ _ k _ ((mem_eligibleFor s c k).mpr hk) (List.Pairwise.filter _ (keys_pairwise_of_tWf hwf))
    fun m hm => hmin m ((mem_eligibleFor s c m).mp hm)

theorem State.pick_of_none (s : State) (c : PairNum) (h : ∀ m, ¬eligibleFor s c m) :
    (s.evu (pairUnit c)).pick (pairUnit c) (pairIndex c) = none := by
  rw [Evu.pick_eq, List.eq_nil_iff_forall_not_mem.mpr fun m hm => h m ((mem_eligibleFor s c m).mp hm)]
  rfl

/-! ### CLAIM and DONE by a pair -/

@[simp] theorem State.evu_modPair (s : State) (c : PairNum) (f : Pair → Pair) (u : EvUnit) : (s.modPair c f).evu u = s.evu u := rfl
@[simp] theorem State.pair_modEvu (s : State) (c : PairNum) (f : Evu → Evu) (u : EvUnit) : (s.modEvu u f).pair c = s.pair c := rfl

/-- An instruction that acts on its event unit and on its own pair. -/
theorem State.issue_evu {s v : State} {c : PairNum} {reads : List Reg} {u : EvUnit} (hv : onlyEvu u (s.modPair c (fun p => p.issued reads)) v)
    (f : Pair → Pair) :
    let t := v.modPair c f
    t.pair c = f ((s.pair c).issued reads) ∧ (∀ d, d ≠ c → t.pair d = s.pair d) ∧ (∀ w, w ≠ u → t.evu w = s.evu w) ∧
      { t with cores := { t.cores with pairs := s.cores.pairs }, evus := s.evus } = s := by
  obtain ⟨hothers, hframe⟩ := hv
  have hcores : v.cores = (s.modPair c (fun p => p.issued reads)).cores := (congrArg State.cores hframe :)
  have hpair : ∀ d, v.pair d = (s.modPair c (fun p => p.issued reads)).pair d := fun d => by rw [State.pair, hcores]; rfl
  refine ⟨by rw [State.pair_modPair, hpair, State.pair_modPair], fun d hd => ?_, fun w hw => hothers w hw, ?_⟩
  · rw [State.pair_modPair_ne _ _ _ _ hd, hpair, State.pair_modPair_ne _ _ _ _ hd]
  · exact (congrArg (fun x : State => { x with cores := { x.cores with pairs := s.cores.pairs } }) hframe :)

theorem onlyRegisters_evcur {p q : Pair} (h : onlyRegisters p q) (x : BitVec 10) :
    onlyRegisters { p with evcur := x } { q with evcur := x } := by
  obtain ⟨hfl, hcs, hcp, hcm, hw, hpc, htf, hcause, hpr, -, rest⟩ := h
  exact ⟨hfl, hcs, hcp, hcm, hw, hpc, htf, hcause, hpr, rfl, rest⟩

/-- What CLAIM does to the issued pair. -/
theorem pairWrites_claimed (p : Pair) (ra : Reg) (v : BitVec 10) :
    pairWrites ra (v.setWidth 32) [] 4 { p with evcur := v } { ((p.issued []).gw ra (v.setWidth 32)).next 4 with evcur := v } := by
  have hadv : advances 4 [] p (((p.issued []).gw ra (v.setWidth 32)).next 4) :=
    advances_next (by rw [Pair.gw_frame]; exact p.issued_pc []) (Pair.gw_cyc _ ra _) (Pair.gw_waiting _ ra _) 4
  refine ⟨onlyRegisters_evcur (onlyRegisters_next (onlyRegisters_gw (onlyRegisters_issued p []) ra _) 4) v, fun r => ?_, hadv⟩
  exact (Pair.gr_gw _ ra r _).trans (by rw [Pair.issued_gr]; rfl)

section
variable (s : State) (c : PairNum) (ra : Reg)

theorem State.claim_of_some {k : Nat} (h : (s.evu (pairUnit c)).pick (pairUnit c) (pairIndex c) = some k) :
    s.claim c = (s.modEvu (pairUnit c) (fun e => { e with
      pend := setBit e.pend k false, act := setBit e.act k true, holder := tset e.holder k c.val }), BitVec.ofNat 10 k) := by
  simp only [State.claim, h]

theorem State.claim_of_none (h : (s.evu (pairUnit c)).pick (pairUnit c) (pairIndex c) = none) :
    s.claim c = (s.modEvu (pairUnit c) (fun e => { e with spur := satInc e.spur }), 0x3FF) := by
  simp only [State.claim, h]

theorem State.doneSource_active {u : EvUnit} {n : Nat} (h : (s.evu u).isAct n = true) :
    s.doneSource u n = (s.modEvu u (fun e => { e with act := setBit e.act n false, holder := tdel e.holder n })).relevel u n := if_pos h

theorem State.doneSource_inactive {u : EvUnit} {n : Nat} (h : (s.evu u).isAct n = false) :
    s.doneSource u n = if n = 0x3FF then s else s.modEvu u (fun e => { e with err := satInc e.err }) := if_neg (by rw [h]; decide)

/-- The command CLAIM: its unit's part, then the pair's. -/
theorem doEvtClaim_eq (h : issues s c false) :
    let x := (s.modPair c (fun p => p.issued [])).claim c
    doEvtClaim c ra s = x.1.modPair c (fun p => { (p.gw ra (x.2.setWidth 32)).next 4 with evcur := x.2 }) :=
  s.issue_eq c (coreWord (.evtClaim c ra)) false [] _ h

theorem doEvtDone_eq (h : issues s c false) :
    doEvtDone c ra s = ((s.modPair c (fun p => p.issued [ra])).doneSource (pairUnit c) ((s.pair c).gr ra).toNat).modPair c (fun p => p.next 1) := by
  rw [doEvtDone, s.issue_eq c _ false [ra] _ h, State.pair_modPair, Pair.issued_gr]

end

/-- Settles O15: the claim is that of the first eligible source, DONE clears its active bit and leaves what its line holds. -/
theorem claimAndDone : Obligations.ClaimAndDone := by
  intro c ra s h hwf u e p takes n done
  have claimed : ∀ {v : State} {x : BitVec 10}, onlyEvu u (s.modPair c (fun p => p.issued [])) v →
      takes x (v.modPair c (fun p => { (p.gw ra (x.setWidth 32)).next 4 with evcur := x })) := by
    intro v x hv
    obtain ⟨hpair, rest⟩ := State.issue_evu hv (fun p => { (p.gw ra (x.setWidth 32)).next 4 with evcur := x })
    exact ⟨hpair ▸ pairWrites_claimed p ra x, rest⟩
  have finished : ∀ {v : State}, onlyEvu u (s.modPair c (fun p => p.issued [ra])) v → done (v.modPair c (fun p => p.next 1)) := by
    intro v hv
    obtain ⟨hpair, -, rest⟩ := State.issue_evu hv (fun p => p.next 1)
    exact ⟨hpair ▸ onlyFlow_issued_next p [ra] 1, hpair ▸ advances_issued_next p [ra] 1, rest⟩
  have claim : exec (.evtClaim c ra) s = .next _ := congrArg Host.Outcome.next (doEvtClaim_eq s c ra h)
  have dones : exec (.evtDone c ra) s = .next _ := congrArg Host.Outcome.next (doEvtDone_eq s c ra h)
  refine ⟨fun k hk hel hmin => ⟨_, claim, ?_⟩, fun hnone => ⟨_, claim, ?_⟩, fun ha => ⟨_, dones, ?_⟩, fun ha hn => ⟨_, dones, ?_⟩,
    fun ha hn => ⟨_, dones, ?_⟩⟩
  · rw [State.claim_of_some (s.modPair c (fun p => p.issued [])) c (s.pick_of_first c k hwf hel hmin)]
    refine ⟨claimed (onlyEvu_modEvu _ u _), ?_⟩
    rw [State.evu_modPair, State.evu_modEvu _ u]
    have pend : ∀ m, tget false (setBit e.pend k false) m = if m = k then false else e.isPend m := fun m => tget_setBit _ _ _ _
    have act : ∀ m, tget false (setBit e.act k true) m = if m = k then true else e.isAct m := fun m => tget_setBit _ _ _ _
    exact ⟨(pend k).trans (if_pos rfl), (act k).trans (if_pos rfl), fun m hm => ⟨(pend m).trans (if_neg hm), (act m).trans (if_neg hm)⟩⟩
  · rw [State.claim_of_none (s.modPair c (fun p => p.issued [])) c (s.pick_of_none c hnone)]
    refine ⟨claimed (onlyEvu_modEvu _ u _), ?_⟩
    rw [State.evu_modPair, State.evu_modEvu _ u]
    rfl
  · rw [State.doneSource_active (s.modPair c (fun p => p.issued [ra])) ha]
    refine ⟨finished (onlyEvu_trans (onlyEvu_modEvu _ u _) (onlyEvu_relevel _ u _)), ?_⟩
    have act : ∀ m, (((s.modPair c (fun p => p.issued [ra])).modEvu u (fun e => { e with act := setBit e.act n false, holder := tdel e.holder n })).relevel
        u n |>.evu u).isAct m = tget false (setBit e.act n false) m := by
      intro m
      rw [State.relevel_evu, State.evu_modEvu]
      rfl
    refine ⟨(act n).trans ((tget_setBit _ _ _ _).trans (if_pos rfl)), fun m hm =>
      ⟨(act m).trans ((tget_setBit _ _ _ _).trans (if_neg hm)), (State.relevel_isPend _ u n m).trans ?_⟩⟩
    rw [State.evu_modEvu, beq_false_of_ne hm, Bool.false_and, Bool.or_false]
    rfl
  · rw [State.doneSource_inactive (s.modPair c (fun p => p.issued [ra])) ha, if_neg hn]
    refine ⟨finished (onlyEvu_modEvu _ u _), ?_⟩
    rw [State.evu_modPair, State.evu_modEvu]
    rfl
  · rw [State.doneSource_inactive (s.modPair c (fun p => p.issued [ra])) ha, if_pos hn]
    exact ⟨finished (onlyEvu_refl u _), rfl⟩

end Sys2Proof.Machine

/-! ### Sources and lines (R327-R329, R331, R334, R335) -/

namespace Sys2Proof.Machine

open Sys2Proof

/-! ### A source that fires -/

theorem State.evu_work (s : State) (u : EvUnit) : s.work.evu u = s.evu u := rfl

theorem State.work_mode_ne_idle (s : State) : s.work.power.mode ≠ .idle := by
  by_cases h : s.power.mode = .idle <;> simp [State.work, h]

theorem State.evuOn_hub (s : State) : s.evuOn 0 = true := rfl

theorem sourceReal_of_external {n : Nat} (h : sourceExternal 0 n = true) : sourceReal 0 n = true := by
  simp only [sourceExternal, sourceReal, Bool.and_eq_true, Bool.or_eq_true, decide_eq_true_eq, beq_iff_eq, if_true] at h ⊢
  omega

theorem State.fire_evu (s : State) (u : EvUnit) (n : Nat) (h : sourceReal u n = true) (hp : s.evuOn u = true) :
    (s.fire u n).evu u = { s.evu u with pend := tset (s.evu u).pend n true } := by
  rw [State.fire_real s u n h hp, State.evu_work, State.evu_modEvu]

theorem State.fire_evu_ne (s : State) (u w : EvUnit) (n : Nat) (hw : w ≠ u) : (s.fire u n).evu w = s.evu w := by
  unfold State.fire
  split
  · rw [State.evu_work, State.evu_modEvu_ne _ _ _ _ hw]
  · rfl

theorem isPend_tset (e : Evu) (n m : Nat) : ({ e with pend := tset e.pend n true } : Evu).isPend m = (e.isPend m || m == n) := by
  have h := tget_setBit e.pend n m true
  rw [setBit, if_pos rfl] at h
  rw [Evu.isPend, h]
  by_cases hm : m = n <;> simp [hm, Evu.isPend]

/-- A source that fires, in its unit. -/
theorem State.fire_isPend (s : State) (u : EvUnit) (n m : Nat) (h : sourceReal u n = true) (hp : s.evuOn u = true) :
    ((s.fire u n).evu u).isPend m = ((s.evu u).isPend m || m == n) := by
  rw [s.fire_evu u n h hp, isPend_tset]

/-! ### An external line (R334)

What every sample leaves: only the hub's unit, the power mode and the pins change, no active bit, no target, and of the pending bits
only the line's own. -/

/-- The state after a sample of external line `n`. -/
structure Sampled (n : Nat) (s t : State) : Prop where
  frame : { t with evus := s.evus, power := s.power } = s
  act : (t.evu 0).act = (s.evu 0).act
  tgt : (t.evu 0).tgt = (s.evu 0).tgt
  pend : ∀ m, m ≠ n → (t.evu 0).isPend m = (s.evu 0).isPend m

theorem Sampled.refl (n : Nat) (s : State) : Sampled n s s := ⟨rfl, rfl, rfl, fun _ _ => rfl⟩

theorem Sampled.trans {n : Nat} {s t v : State} (h : Sampled n s t) (k : Sampled n t v) : Sampled n s v := by
  refine ⟨?_, k.act.trans h.act, k.tgt.trans h.tgt, fun m hm => (k.pend m hm).trans (h.pend m hm)⟩
  have e : { v with evus := s.evus, power := s.power } = { t with evus := s.evus, power := s.power } :=
    congrArg (fun x : State => { x with evus := s.evus, power := s.power }) k.frame
  exact e.trans h.frame

theorem Sampled.modEvu {n : Nat} (s : State) (f : Evu → Evu) (ha : (f (s.evu 0)).act = (s.evu 0).act) (ht : (f (s.evu 0)).tgt = (s.evu 0).tgt)
    (hp : (f (s.evu 0)).pend = (s.evu 0).pend) : Sampled n s (s.modEvu 0 f) := by
  refine ⟨rfl, ?_, ?_, fun m _ => ?_⟩
  · rw [State.evu_modEvu, ha]
  · rw [State.evu_modEvu, ht]
  · rw [State.evu_modEvu, Evu.isPend, hp, Evu.isPend]

theorem Sampled.relevel (s : State) (n : Nat) : Sampled n s (s.relevel 0 n) := by
  refine ⟨?_, ?_, ?_, fun m hm => ?_⟩
  · rw [State.relevel_eq]
    split <;> rfl
  · rw [State.relevel_evu]
  · rw [State.relevel_evu]
  · rw [State.relevel_isPend, beq_false_of_ne hm, Bool.false_and, Bool.or_false]

theorem Sampled.fire (s : State) {n : Nat} (h : sourceReal 0 n = true) : Sampled n s (s.fire 0 n) := by
  refine ⟨s.fire_frame 0 n, ?_, ?_, fun m hm => ?_⟩
  · rw [s.fire_evu 0 n h s.evuOn_hub]
  · rw [s.fire_evu 0 n h s.evuOn_hub]
  · rw [s.fire_isPend 0 n m h s.evuOn_hub, beq_false_of_ne hm, Bool.or_false]

/-- The unit with a new filtered level. -/
def Evu.levelled (e : Evu) (n : Nat) (level : Bool) : Evu := { e with level := tset e.level n level, shown := tdel e.shown n }

theorem State.lineChange_eq (s : State) (n : Nat) (level : Bool) :
    let v := s.modEvu 0 (fun e => e.levelled n level)
    let edge := (s.evu 0).edge 0 n
    s.lineChange n level = if (edge == 0 && level) || (edge == 1 && !level) || edge == 2 then v.fire 0 n else v.relevel 0 n := by
  have h : ((s.modEvu 0 (fun e => e.levelled n level)).evu 0).edge 0 n = (s.evu 0).edge 0 n := by rw [State.evu_modEvu]; rfl
  rw [← h]
  rfl

theorem lineHolds_levelled (e : Evu) {n : Nat} (level : Bool) (hx : sourceExternal 0 n = true) :
    lineHolds (e.levelled n level) 0 n = (e.edge 0 n == 3 && !level && !e.isAct n) := by
  have hl : (tfind (tset e.level n level) n == some false) = !level := by rw [tfind_tset_same]; cases level <;> rfl
  show (sourceExternal 0 n && e.edge 0 n == 3 && !e.isAct n && (tfind (tset e.level n level) n == some false)) = _
  rw [hl, hx, Bool.true_and, Bool.and_assoc, Bool.and_assoc, Bool.and_comm (!e.isAct n)]

theorem Evu.edge_lt (e : Evu) (u : EvUnit) (n : Nat) : e.edge u n < 4 := Nat.mod_lt _ (by decide)

/-- A new level that has passed the filter: stored, and the source pending on the edges that EDGE chooses, or while low. -/
theorem State.lineChange_facts (s : State) {n : Nat} (level : Bool) (hx : sourceExternal 0 n = true) :
    let t := s.lineChange n level
    Sampled n s t ∧ tfind (t.evu 0).level n = some level ∧
      (t.evu 0).isPend n = ((s.evu 0).isPend n || (match (s.evu 0).edge 0 n with
        | 0 => level
        | 1 => !level
        | 2 => true
        | _ => !level && !(s.evu 0).isAct n)) := by
  intro t
  have hreal := sourceReal_of_external hx
  have level_stored : ∀ {v : State}, v.evu 0 = { (s.evu 0).levelled n level with pend := (v.evu 0).pend } → tfind (v.evu 0).level n = some level := by
    intro v hv
    rw [hv]
    exact tfind_tset_same _ _ _
  have start : Sampled n s (s.modEvu 0 (fun e => e.levelled n level)) := Sampled.modEvu s _ rfl rfl rfl
  have fired : let v := (s.modEvu 0 (fun e => e.levelled n level)).fire 0 n
      Sampled n s v ∧ tfind (v.evu 0).level n = some level ∧ (v.evu 0).isPend n = true := by
    refine ⟨start.trans (Sampled.fire _ hreal), level_stored ?_, ?_⟩
    · rw [State.fire_evu _ 0 n hreal (State.evuOn_hub _), State.evu_modEvu]
    · rw [State.fire_isPend _ 0 n n hreal (State.evuOn_hub _), beq_self_eq_true, Bool.or_true]
  have held : let v := (s.modEvu 0 (fun e => e.levelled n level)).relevel 0 n
      Sampled n s v ∧ tfind (v.evu 0).level n = some level ∧
        (v.evu 0).isPend n = ((s.evu 0).isPend n || ((s.evu 0).edge 0 n == 3 && !level && !(s.evu 0).isAct n)) := by
    refine ⟨start.trans (Sampled.relevel _ n), level_stored ?_, ?_⟩
    · rw [State.relevel_evu, State.evu_modEvu]
    · rw [State.relevel_isPend, State.evu_modEvu, lineHolds_levelled _ level hx, beq_self_eq_true, Bool.true_and]
      rfl
  have ht : t = _ := s.lineChange_eq n level
  have hlt := (s.evu 0).edge_lt 0 n
  rw [ht]
  generalize (s.evu 0).edge 0 n = edge at held hlt ⊢
  rcases edge with _ | _ | _ | _ | edge
  · cases level
    · simpa using held
    · simpa using fired
  · cases level
    · simpa using fired
    · simpa using held
  · cases level <;> simpa using fired
  · cases level <;> simpa using held
  · omega

/-! ### Samples of a pin -/

section
variable (s : State) {n : Nat}

/-- The first sample is the filter's value. -/
theorem State.sampleLine_first (hx : sourceExternal 0 n = true) (h : tfind (s.evu 0).level n = none) :
    let t := s.sampleLine n
    Sampled n s t ∧ tfind (t.evu 0).level n = some (s.line n) ∧
      (t.evu 0).isPend n = ((s.evu 0).isPend n || ((s.evu 0).edge 0 n == 3 && !(s.line n) && !(s.evu 0).isAct n)) := by
  intro t
  have ht : t = (s.modEvu 0 (fun e => e.levelled n (s.line n))).relevel 0 n := by simp only [t, State.sampleLine, h]; rfl
  rw [ht]
  refine ⟨(Sampled.modEvu s _ rfl rfl rfl).trans (Sampled.relevel _ n), ?_, ?_⟩
  · rw [State.relevel_evu, State.evu_modEvu]
    exact tfind_tset_same _ _ _
  · rw [State.relevel_isPend, State.evu_modEvu, lineHolds_levelled _ _ hx, beq_self_eq_true, Bool.true_and]
    rfl

/-- A sample of the level that stands begins the count anew. -/
theorem State.sampleLine_same (h : tfind (s.evu 0).level n = some (s.line n)) :
    let t := s.sampleLine n
    Sampled n s t ∧ tfind (t.evu 0).level n = some (s.line n) ∧ tfind (t.evu 0).shown n = none ∧ (t.evu 0).pend = (s.evu 0).pend := by
  intro t
  have ht : t = if tfind (s.evu 0).shown n = none then s else s.modEvu 0 (fun e => { e with shown := tdel e.shown n }) := by
    simp only [t, State.sampleLine, h, if_true]
  rw [ht]
  split
  · next hs => exact ⟨Sampled.refl n s, h, hs, rfl⟩
  · rw [State.evu_modEvu]
    exact ⟨Sampled.modEvu s _ rfl rfl rfl, h, tfind_tdel_same _ _, rfl⟩

/-- A sample of the other level counts, and at the filter's number changes the line. -/
theorem State.sampleLine_other (h : tfind (s.evu 0).level n = some (!s.line n)) :
    s.sampleLine n = if (s.evu 0).filt 0 n ≤ tget 0 (s.evu 0).shown n + 1 then s.lineChange n (s.line n)
      else s.modEvu 0 (fun e => { e with shown := tset e.shown n (tget 0 (s.evu 0).shown n + 1) }) := by
  have hne : s.line n ≠ !s.line n := fun e => by cases hl : s.line n <;> rw [hl] at e <;> cases e
  simp only [State.sampleLine, h, if_neg hne]

/-- Every sample keeps to its line. -/
theorem State.sampleLine_sampled (hx : sourceExternal 0 n = true) : Sampled n s (s.sampleLine n) := by
  cases h : tfind (s.evu 0).level n with
  | none => exact (s.sampleLine_first hx h).1
  | some l =>
    by_cases hl : l = s.line n
    · exact (s.sampleLine_same (hl ▸ h)).1
    · have hl' : l = !s.line n := Bool.eq_not_of_ne hl
      rw [s.sampleLine_other (hl' ▸ h)]
      split
      · exact (s.lineChange_facts _ hx).1
      · exact Sampled.modEvu s _ rfl rfl rfl

end

/-- The pins after one of them has taken a level. -/
def State.pinned (s : State) (n : Nat) (level : Bool) : State :=
  s.onSide (fun x => { x with pins := if level = pinRest n then tdel x.pins n else tset x.pins n level })

@[simp] theorem State.pinned_evu (s : State) (n : Nat) (level : Bool) (u : EvUnit) : (s.pinned n level).evu u = s.evu u := rfl

theorem State.pinned_line (s : State) (n m : Nat) (level : Bool) :
    (s.pinned n level).line m = if m = n then level && (n != 167 || s.keeper.wakeUntil.isNone) else s.line m := by
  simp only [State.line, State.pinned, State.onSide_side, State.onSide_keeper]
  by_cases hm : m = n
  · subst hm
    rw [if_pos rfl]
    split
    · next h => rw [tget_tdel_same, h]
    · rw [tget_tset_same]
  · rw [if_neg hm]
    split
    · rw [tget_tdel_ne _ _ _ _ hm]
    · rw [tget_tset_ne _ _ _ _ _ hm]

theorem State.pinShows_eq (s : State) (n : Nat) (level : Bool) :
    s.pinShows n level = if s.clk.running then (s.pinned n level).sampleLine n else s.pinned n level := rfl

/-- A sample leaves the pins and WAKE#. -/
theorem Sampled.line {n : Nat} {s t : State} (h : Sampled n s t) (m : Nat) : t.line m = s.line m := by
  have hside : t.side = s.side := (congrArg State.side h.frame :)
  have hkeeper : t.keeper = s.keeper := (congrArg State.keeper h.frame :)
  rw [State.line, hside, hkeeper, State.line]

/-! ### EVU_TGT (R329) -/

theorem tgtRsv_ne_allOnes (u : EvUnit) (n : Nat) (h : sourceReal u n = true) : tgtRsv u n ≠ BitVec.allOnes 32 := by
  rw [tgtRsv, h]
  cases sourceExternal u n <;> decide

/-- Settles O23. -/
theorem sourcesAndLines : Obligations.SourcesAndLines := by
  intro u k level v s n e
  refine ⟨fun hr hp => ?_, fun hr => ?_, s.evuOn_hub, fun hx => ?_, fun hr => ?_⟩
  · refine ⟨s.fire u n, rfl, ?_, fun m => s.fire_isPend u n m hr hp, fun w hw => s.fire_evu_ne u w n hw, ?_, s.fire_frame u n⟩
    · rw [s.fire_evu u n hr hp]
    · rw [s.fire_real u n hr hp]
      exact State.work_mode_ne_idle _
  · refine congrArg Host.Outcome.next (if_neg ?_)
    rcases hr with hr | hp
    · simp [hr, n]
    · simp [hp]
  · refine ⟨s.pinShows n level, congrArg Host.Outcome.next (if_pos hx), ?_⟩
    have hw : s.pinShows n level = if s.clk.running then (s.pinned n level).sampleLine n else s.pinned n level := s.pinShows_eq n level
    have sampled : Sampled n (s.pinned n level) (s.pinShows n level) := by
      rw [hw]
      split
      · exact (s.pinned n level).sampleLine_sampled hx
      · exact Sampled.refl n _
    have hline : ∀ m, (s.pinShows n level).line m = (s.pinned n level).line m := sampled.line
    refine ⟨(congrArg (fun x : State => { x with side := s.side }) sampled.frame :), sampled.act, sampled.pend, fun h167 => ?_, fun m hm => ?_,
      fun hrun => ?_, fun hrun hlevel => ⟨fun h => ?_, fun h => ?_, fun h hlt => ?_, fun h hle => ?_⟩⟩
    · rw [hline, s.pinned_line, if_pos rfl, bne_iff_ne.mpr h167, Bool.true_or, Bool.and_true]
    · rw [hline, s.pinned_line, if_neg hm]
    · rw [hw, hrun]
      rfl
    all_goals
      rw [hline] at hlevel
      rw [hw, if_pos hrun]
    · obtain ⟨-, h1, h2⟩ := (s.pinned n level).sampleLine_first hx h
      rw [hlevel] at h1 h2
      exact ⟨h1, h2⟩
    · obtain ⟨-, h1, h2, h3⟩ := (s.pinned n level).sampleLine_same (h.trans (congrArg some hlevel.symm))
      rw [hlevel] at h1
      exact ⟨h1, h2, h3⟩
    · rw [(s.pinned n level).sampleLine_other (h.trans (by rw [hlevel])), State.pinned_evu, if_neg (Nat.not_le.mpr hlt), State.evu_modEvu]
      exact ⟨h, tget_tset_same _ _ _ _, rfl⟩
    · rw [(s.pinned n level).sampleLine_other (h.trans (by rw [hlevel])), State.pinned_evu, if_pos hle, hlevel]
      exact ((s.pinned n level).lineChange_facts level hx).2
  · intro bits rsv
    have hmask : tgtMask u n = bits := if_neg (by rw [hr]; decide)
    have hrsv : tgtRsv u n = rsv := if_neg (by rw [hr]; decide)
    let v1 := s.modEvu u (fun e => { e with tgt := tset e.tgt n ((e.target u n &&& ~~~tgtMask u n) ||| (v &&& tgtMask u n)) })
    have frame : (v1.relevel u n).evu u = { s.evu u with
        tgt := tset e.tgt n ((e.target u n &&& ~~~bits) ||| (v &&& bits)), pend := ((v1.relevel u n).evu u).pend } := by
      rw [State.relevel_evu, State.evu_modEvu, hmask]
    refine ⟨v1.relevel u n, ?_, fun hv => ?_, onlyEvu_trans (onlyEvu_modEvu s u _) (onlyEvu_relevel _ u n), ?_, fun m hm => ?_, ?_, ?_⟩
    · rw [← hrsv]
      exact congrArg Host.Outcome.next (by simp only [doEvuTgtWrite, show sourceReal u k.toNat = true from hr, if_true]; rfl)
    · rw [← hrsv] at hv ⊢
      exact State.ioReserved_clear _ _ _ _ _ (tgtRsv_ne_allOnes u n hr) hv
    · rw [frame]
      exact tget_tset_same _ _ _ _
    · rw [frame]
      exact tget_tset_ne _ _ _ _ _ hm
    · rw [frame]
    · rw [frame]

end Sys2Proof.Machine

/-! ### The queue, and the state after a keeper reset (R455, R457, R458) -/

namespace Sys2Proof.Machine

open Sys2Proof

/-- Settles O1: `step` matches on the queue. -/
theorem stepRunsFront : Obligations.StepRunsFront := fun _ _ _ => rfl

/-- Settles O21: every map is empty at reset, so that each of these values is its field's own at reset. -/
theorem resetState : Obligations.ResetState := by
  exact ⟨⟨fun _ => rfl, fun _ => rfl⟩, rfl, rfl, rfl, rfl, rfl, rfl, rfl, rfl, fun _ => rfl, rfl, rfl, rfl, rfl, rfl, rfl,
    fun _ => ⟨rfl, rfl, rfl⟩, fun _ _ => rfl, rfl, rfl, fun _ => rfl⟩

end Sys2Proof.Machine

/-! ### The canonical form and the updates of one part of the state (log 9) -/

namespace Sys2Proof.Machine

open Sys2Proof

variable {s : State}

/-- The canonical form speaks of the pairs' memories and of the units' pending sets alone. -/
theorem canonical_congr {t : State} (h : canonical s) (hc : t.cores.pairs = s.cores.pairs) (he : t.evus = s.evus) : canonical t := by
  obtain ⟨hm, hp⟩ := h
  exact ⟨fun c => by simpa [State.pair, hc] using hm c, fun u => by simpa [State.evu, he] using hp u⟩

theorem canonical_dmem (h : canonical s) (c : PairNum) : (s.pair c).dmem.wf = true := h.1 c
theorem canonical_pend (h : canonical s) (u : EvUnit) : tWf (s.evu u).pend = true := h.2 u

theorem canonical_onOut (h : canonical s) (f) : canonical (s.onOut f) := h
theorem canonical_onClk (h : canonical s) (f) : canonical (s.onClk f) := h
theorem canonical_onKeeper (h : canonical s) (f) : canonical (s.onKeeper f) := h
theorem canonical_onPower (h : canonical s) (f) : canonical (s.onPower f) := h
theorem canonical_onTherm (h : canonical s) (f) : canonical (s.onTherm f) := h
theorem canonical_onHosts (h : canonical s) (f) : canonical (s.onHosts f) := h
theorem canonical_onVfs (h : canonical s) (f) : canonical (s.onVfs f) := h
theorem canonical_onQueues (h : canonical s) (f) : canonical (s.onQueues f) := h
theorem canonical_onList (h : canonical s) (f) : canonical (s.onList f) := h
theorem canonical_onProg (h : canonical s) (f) : canonical (s.onProg f) := h
theorem canonical_onPorts (h : canonical s) (f) : canonical (s.onPorts f) := h
theorem canonical_onData (h : canonical s) (f) : canonical (s.onData f) := h
theorem canonical_onBanks (h : canonical s) (f) : canonical (s.onBanks f) := h
theorem canonical_onBoxes (h : canonical s) (f) : canonical (s.onBoxes f) := h
theorem canonical_onOrders (h : canonical s) (f) : canonical (s.onOrders f) := h
theorem canonical_onFaults (h : canonical s) (f) : canonical (s.onFaults f) := h
theorem canonical_onFw (h : canonical s) (f) : canonical (s.onFw f) := h
theorem canonical_onSide (h : canonical s) (f) : canonical (s.onSide f) := h

/-- An update of the cores that leaves the pairs' records keeps the form. -/
theorem canonical_onCores (h : canonical s) (f : Cores → Cores) (hf : (f s.cores).pairs = s.cores.pairs) : canonical (s.onCores f) :=
  canonical_congr h hf rfl

theorem canonical_modPair (h : canonical s) (c) (f : Pair → Pair) (hf : (f (s.pair c)).dmem.wf = true) : canonical (s.modPair c f) := by
  refine ⟨fun d => ?_, h.2⟩
  by_cases hd : d = c
  · subst hd; simpa using hf
  · rw [State.pair_modPair_ne _ _ _ _ hd]; exact h.1 d

theorem canonical_modEvu (h : canonical s) (u) (f : Evu → Evu) (hf : tWf (f (s.evu u)).pend = true) : canonical (s.modEvu u f) := by
  refine ⟨h.1, fun v => ?_⟩
  by_cases hv : v = u
  · subst hv; simpa using hf
  · rw [State.evu_modEvu_ne _ _ _ _ hv]; exact h.2 v

theorem canonical_ite {t : State} {p : Prop} [Decidable p] (hs : p → canonical s) (ht : ¬p → canonical t) :
    canonical (if p then s else t) := by
  split
  · exact hs ‹_›
  · exact ht ‹_›

theorem tWf_setBit (t : Table Bool) (k : Nat) (b : Bool) (h : tWf t = true) : tWf (setBit t k b) = true := by
  cases b
  · exact tWf_tdel t k h
  · exact tWf_tset t k true h

theorem tWf_foldl {α β : Type} {t : Table β} (l : List α) (g : Table β → α → Table β) (h : tWf t = true)
    (hg : ∀ t a, tWf t = true → tWf (g t a) = true) : tWf (l.foldl g t) = true := by
  induction l generalizing t with
  | nil => exact h
  | cons a l ih => exact ih (hg t a h)

theorem tWf_putWord (u : EvUnit) (t : Table Bool) (w : Nat) (v : W32) (inv : Bool) (h : tWf t = true) : tWf (putWord u t w v inv) = true :=
  tWf_foldl _ _ h fun t i ht => by split <;> simp [tWf_setBit, ht]

/-- What every stage of a fold keeps, the fold keeps. -/
theorem canonical_foldl {α : Type} {f : State → α → State} (h : canonical s) (l : List α) (hf : ∀ s a, canonical s → canonical (f s a)) :
    canonical (l.foldl f s) := by
  induction l generalizing s with
  | nil => exact h
  | cons a l ih => exact ih (hf s a h)

/-- The same for a fold that carries something beside the state. -/
theorem canonical_foldl_fst {α β : Type} {f : State × β → α → State × β} (h : canonical s) (l : List α) (b : β)
    (hf : ∀ r a, canonical r.1 → canonical (f r a).1) : canonical (l.foldl f (s, b)).1 := by
  suffices hr : ∀ r : State × β, canonical r.1 → canonical (l.foldl f r).1 from hr (s, b) h
  induction l with
  | nil => exact fun _ hr => hr
  | cons a l ih => exact fun r hr => ih _ (hf r a hr)

/-! ### The data memory under the operations of a pair -/

@[simp] theorem Pair.spend_dmem (p : Pair) (n : Nat) : (p.spend n).dmem = p.dmem := rfl
@[simp] theorem Pair.next_dmem (p : Pair) (n : Nat) : (p.next n).dmem = p.dmem := rfl
@[simp] theorem Pair.jump_dmem (p : Pair) (t : BitVec 15) (n : Nat) : (p.jump t n).dmem = p.dmem := rfl
@[simp] theorem Pair.entry_dmem (p : Pair) (vec : BitVec 15) (w : BitVec 14) (code detail : Nat) (ret : BitVec 15) :
    (p.entry vec w code detail ret).dmem = p.dmem := rfl
@[simp] theorem Pair.startProduct_dmem (p : Pair) (v : W64) : (p.startProduct v).dmem = p.dmem := rfl
@[simp] theorem Pair.gw_dmem (p : Pair) (r : Reg) (v : W32) : (p.gw r v).dmem = p.dmem := by
  unfold Pair.gw; split <;> rfl
@[simp] theorem Pair.landed_dmem (p : Pair) : p.landed.dmem = p.dmem := by
  have hfold : ∀ (l : List (Nat × W64)) (q : Pair),
      (l.foldl (fun p (x : Nat × W64) => { p with mh := (x.2 >>> 32).setWidth 32, ml := x.2.setWidth 32 }) q).dmem = q.dmem := by
    intro l
    induction l with
    | nil => exact fun _ => rfl
    | cons x l ih => exact fun q => ih _
  exact hfold _ _
@[simp] theorem Pair.writeWdog_dmem (p : Pair) (v : W32) : (p.writeWdog v).dmem = p.dmem := by
  simp only [Pair.writeWdog]; split <;> rfl
@[simp] theorem Pair.writeSpecial_dmem (p : Pair) (n : Nat) (v : W32) : (p.writeSpecial n v).dmem = p.dmem := by
  unfold Pair.writeSpecial; grind [Pair.writeWdog_dmem]
@[simp] theorem State.readSpecial_dmem (s : State) (c : PairNum) (n : Nat) : (s.readSpecial c n).2.dmem = (s.pair c).dmem := by
  unfold State.readSpecial; split <;> rfl

/-! ### Maps over every pair, and a unit taken away -/

/-- Where every record of a map has a sound memory, so has the one read at any index. -/
theorem dmem_of_mem (t : Table Pair) (ht : ∀ x ∈ t, x.2.dmem.wf = true) (k : Nat) : (tget {} t k).dmem.wf = true := by
  induction t with
  | nil => rfl
  | cons x t ih =>
    by_cases hx : x.1 = k
    · simpa [tget, tfind, hx] using ht x (by simp)
    · simpa [tget, tfind, hx] using ih fun y hy => ht y (by simp [hy])

/-- A map of the records that leaves indices and memories leaves the memory read at any index. -/
theorem dmem_of_map (t : Table Pair) (f : Nat × Pair → Nat × Pair) (hf : ∀ x, (f x).1 = x.1 ∧ (f x).2.dmem = x.2.dmem) (k : Nat)
    (h : (tget {} t k).dmem.wf = true) : (tget {} (t.map f) k).dmem.wf = true := by
  induction t with
  | nil => exact h
  | cons x t ih =>
    obtain ⟨hk, hd⟩ := hf x
    by_cases hx : x.1 = k
    · simpa [tget, tfind, hx, hk, hd] using h
    · have hx' : ¬(f x).1 = k := by rwa [hk]
      simpa [tget, tfind, hx, hx'] using ih (by simpa [tget, tfind, hx] using h)

theorem canonical_evus_tdel (h : canonical s) (k : Nat) : canonical (s.onEvus (fun t => tdel t k)) := by
  refine ⟨h.1, fun u => ?_⟩
  by_cases hu : u.val = k
  · simp [State.evu, hu, tWf]
  · simpa [State.evu, tget_tdel_ne _ _ _ _ hu] using h.2 u

theorem Evu.ioRead_pend (e : Evu) (u : EvUnit) (off : Nat) : (e.ioRead u off).2.pend = e.pend := by
  unfold Evu.ioRead; grind

end Sys2Proof.Machine

/-! ### The canonical form is kept: Operations of State, staging and links -/

namespace Sys2Proof.Machine

open Sys2Proof

-- The automated proofs below are checked one after another: side by side they need too much memory.
set_option Elab.async false

variable {s : State}

/-! #### Machine/Access.lean -/

theorem canonical_modHost (h : canonical s) (p) (f) : canonical (s.modHost p f) := by grind [State.modHost, canonical_onHosts]

theorem canonical_modFn (h : canonical s) (fn) (f) : canonical (s.modFn fn f) := by
  unfold State.modFn
  split <;> grind [canonical_modHost, canonical_onVfs]

theorem canonical_modTenant (h : canonical s) (t) (f) : canonical (s.modTenant t f) := by grind [State.modTenant, canonical_onQueues]

theorem canonical_modSq (h : canonical s) (t) (q) (f) : canonical (s.modSq t q f) := by grind [State.modSq, canonical_onQueues]

theorem canonical_modCq (h : canonical s) (t) (q) (f) : canonical (s.modCq t q f) := by grind [State.modCq, canonical_onQueues]

theorem canonical_modSub (h : canonical s) (sc) (f) : canonical (s.modSub sc f) := by grind [State.modSub, canonical_onProg]

theorem canonical_modProg (h : canonical s) (sc) (f) : canonical (s.modProg sc f) := by grind [State.modProg, canonical_modSub]

theorem canonical_modToken (h : canonical s) (n) (f) : canonical (s.modToken n f) := by grind [State.modToken, canonical_onProg]

theorem canonical_modPort (h : canonical s) (d) (f) : canonical (s.modPort d f) := by grind [State.modPort, canonical_onPorts]

theorem canonical_modCage (h : canonical s) (c) (f) : canonical (s.modCage c f) := by grind [State.modCage, canonical_onPorts]

theorem canonical_modExch (h : canonical s) (d) (g) (f) : canonical (s.modExch d g f) := by grind [State.modExch, canonical_modPort]

theorem canonical_modMover (h : canonical s) (m) (f) : canonical (s.modMover m f) := by grind [State.modMover, canonical_onData]

theorem canonical_modPool (h : canonical s) (d) (f) : canonical (s.modPool d f) := by grind [State.modPool, canonical_onData]

theorem canonical_modBank (h : canonical s) (k) (f) : canonical (s.modBank k f) := by grind [State.modBank, canonical_onBanks]

theorem canonical_modChan (h : canonical s) (k) (c) (f) : canonical (s.modChan k c f) := by grind [State.modChan, canonical_modBank]

theorem canonical_modMbx (h : canonical s) (m) (f) : canonical (s.modMbx m f) := by grind [State.modMbx, canonical_onBoxes]

theorem canonical_modDomain (h : canonical s) (n) (f) : canonical (s.modDomain n f) := by grind [State.modDomain, canonical_onPower]

/-! #### Machine/Ops.lean -/

theorem canonical_emit (h : canonical s) (o) : canonical (s.emit o) := by grind [State.emit, canonical_onOut]

theorem canonical_exitL1 (h : canonical s) (p) : canonical (s.exitL1 p) := by grind [State.exitL1, canonical_modHost]

theorem canonical_sendWrite (h : canonical s) (p) (pasid) (addr) (b) : canonical (s.sendWrite p pasid addr b) := by
  grind [State.sendWrite, canonical_exitL1, canonical_emit]

theorem canonical_complete (h : canonical s) (fn) (o) : canonical (s.complete fn o) := by grind [State.complete, canonical_exitL1, canonical_emit]

theorem canonical_aerNote (h : canonical s) (fn) (bit) : canonical (s.aerNote fn bit) := by grind [State.aerNote, canonical_modFn]

theorem canonical_sayUnsupported (h : canonical s) (fn) : canonical (s.sayUnsupported fn) := by
  grind [State.sayUnsupported, canonical_aerNote, canonical_complete]

theorem canonical_sayAbort (h : canonical s) (fn) : canonical (s.sayAbort fn) := by grind [State.sayAbort, canonical_aerNote, canonical_complete]

theorem canonical_issueRead (h : canonical s) (p) (pasid) (ranges) (key) : canonical (s.issueRead p pasid ranges key) := by
  grind [State.issueRead, canonical_exitL1, canonical_modHost, canonical_onOut]

theorem canonical_sendReads (h : canonical s) (p) (pasid) (ranges) (key) : canonical (s.sendReads p pasid ranges key) := by
  grind [State.sendReads, canonical_issueRead, canonical_modHost]

theorem canonical_sendRead (h : canonical s) (p) (pasid) (addr) (len) (key) : canonical (s.sendRead p pasid addr len key) := by
  grind [State.sendRead, canonical_sendReads]

theorem canonical_issueWaiting (h : canonical s) (n) (p) : canonical (State.issueWaiting n s p) := by
  induction n generalizing s with
  | zero => exact h
  | succ n ih => grind [State.issueWaiting, canonical_modHost, canonical_issueRead]

theorem canonical_kickReads (h : canonical s) (p) : canonical (s.kickReads p) := by grind [State.kickReads, canonical_issueWaiting]

theorem canonical_endRead (h : canonical s) (p) (key) : canonical (s.endRead p key) := by
  grind [State.endRead, canonical_modHost, canonical_kickReads]

theorem canonical_dropKeys (h : canonical s) (p) (f) : canonical (s.dropKeys p f) := by grind [State.dropKeys, canonical_modHost]

theorem canonical_useFree (h : canonical s) : canonical s.useFree := by grind [State.useFree, canonical_onClk]

theorem canonical_work (h : canonical s) : canonical s.work := by grind [State.work, canonical_onPower]

theorem canonical_sendVector (h : canonical s) (fn) (v) : canonical (s.sendVector fn v) := by
  grind [State.sendVector, canonical_exitL1, canonical_emit]

theorem canonical_vector (h : canonical s) (fn) (v) : canonical (s.vector fn v) := by
  grind [State.vector, canonical_sendVector, canonical_modFn, canonical_exitL1, canonical_emit]

theorem canonical_flushVector (h : canonical s) (fn) (v) : canonical (s.flushVector fn v) := by
  grind [State.flushVector, canonical_modFn, canonical_sendVector]

theorem canonical_flushVectors (h : canonical s) (fn) : canonical (s.flushVectors fn) := by
  grind [State.flushVectors, canonical_flushVector, canonical_foldl]

theorem canonical_pfVector (h : canonical s) (v) : canonical (s.pfVector v) := by grind [State.pfVector, canonical_vector]

theorem canonical_vfVectors (h : canonical s) (v) : canonical (s.vfVectors v) := by grind [State.vfVectors, canonical_vector, canonical_foldl]

theorem canonical_fire (h : canonical s) (u) (n) : canonical (s.fire u n) := by
  grind [State.fire, canonical_modEvu, canonical_work, canonical_pend, tWf_tset]

theorem canonical_firePort (h : canonical s) (d) (e) : canonical (s.firePort d e) := by grind [State.firePort, canonical_fire]

theorem canonical_fireSlots (h : canonical s) (n) : canonical (s.fireSlots n) := by grind [State.fireSlots, canonical_fire, canonical_foldl]

theorem canonical_logEntry (h : canonical s) (kind) (cls) (wcount) (site) (who) (detail) : canonical (s.logEntry kind cls wcount site who detail) := by
  grind [State.logEntry, canonical_onFw, canonical_onFaults, canonical_pfVector]

theorem canonical_countEvent (h : canonical s) (site) : canonical (s.countEvent site).1 := by grind [State.countEvent, canonical_onFaults]

theorem canonical_fireReport (h : canonical s) (site) : canonical (s.fireReport site) := by grind [State.fireReport, canonical_fire]

theorem canonical_logFault (h : canonical s) (kind) (site) (who) (detail) : canonical (s.logFault kind site who detail) := by
  grind [State.logFault, canonical_fireReport, canonical_countEvent, canonical_logEntry, canonical_onFaults]

theorem canonical_countOnly (h : canonical s) (site) : canonical (s.countOnly site) := by
  grind [State.countOnly, canonical_countEvent, canonical_onFaults]

theorem canonical_accessError (h : canonical s) (fn) (off) (form) : canonical (s.accessError fn off form) := by
  grind [State.accessError, canonical_modFn, canonical_logFault]

theorem canonical_ioReserved (h : canonical s) (site) (off) (rsv) (v) : canonical (s.ioReserved site off rsv v) := by
  grind [State.ioReserved, canonical_logFault]

theorem canonical_findEarly (h : canonical s) (c) : canonical (s.findEarly c) := by
  grind [State.findEarly, canonical_modPair, canonical_logFault, canonical_dmem]

theorem canonical_logAction (h : canonical s) (k) (u) : canonical (s.logAction k u) := by grind [State.logAction, canonical_onCores]

theorem canonical_takeAction (h : canonical s) (k) : canonical (s.takeAction k) := by grind [State.takeAction, canonical_onCores]

theorem canonical_lampAction (h : canonical s) (k) (u) : canonical (s.lampAction k u) := by
  grind [State.lampAction, canonical_logAction, canonical_takeAction, canonical_findEarly]

theorem canonical_book (h : canonical s) (a) (i) (n) : canonical (s.book a i n) := by grind [State.book, canonical_onFaults]

theorem canonical_zeroAcct (h : canonical s) (a) (i) : canonical (s.zeroAcct a i) := by grind [State.zeroAcct, canonical_onFaults]

theorem canonical_dropAcct (h : canonical s) (a) (i) : canonical (s.dropAcct a i) := by grind [State.dropAcct, canonical_onFaults]

theorem canonical_journal (h : canonical s) (t) (typ) (body) (ref) (step) : canonical (s.journal t typ body ref step) := by
  grind [State.journal, canonical_modTenant, canonical_sendWrite, canonical_modHost]

/-! #### Machine/Events.lean -/

theorem canonical_relevel (h : canonical s) (u) (n) : canonical (s.relevel u n) := by
  grind [State.relevel, canonical_modEvu, canonical_pend, tWf_setBit]

theorem canonical_claim (h : canonical s) (c) : canonical (s.claim c).1 := by grind [State.claim, canonical_modEvu, canonical_pend, tWf_setBit]

theorem canonical_doneSource (h : canonical s) (u) (n) : canonical (s.doneSource u n) := by
  grind [State.doneSource, canonical_modEvu, canonical_relevel, canonical_pend, tWf_setBit]

theorem canonical_evuCmd (h : canonical s) (u) (n) (f : Evu → Evu) (hf : ∀ e, tWf e.pend = true → tWf (f e).pend = true) :
    canonical (s.evuCmd u n f) := by
  grind [State.evuCmd, canonical_relevel, canonical_modEvu, canonical_pend]

theorem canonical_doSetPending (h : canonical s) (u) (n) : canonical (doSetPending u n s) := by grind [doSetPending, canonical_evuCmd, tWf_setBit]

theorem canonical_doClearPending (h : canonical s) (u) (n) : canonical (doClearPending u n s) := by
  grind [doClearPending, canonical_evuCmd, tWf_setBit]

theorem canonical_doMask (h : canonical s) (u) (n) : canonical (doMask u n s) := by grind [doMask, canonical_evuCmd, tWf_setBit]

theorem canonical_doUnmask (h : canonical s) (u) (n) : canonical (doUnmask u n s) := by grind [doUnmask, canonical_evuCmd, tWf_setBit]

theorem canonical_doMaskAndClearPending (h : canonical s) (u) (n) : canonical (doMaskAndClearPending u n s) := by
  grind [doMaskAndClearPending, canonical_evuCmd, tWf_setBit]

theorem canonical_doEvuTgtWrite (h : canonical s) (u) (n) (value) : canonical (doEvuTgtWrite u n value s) := by
  grind [doEvuTgtWrite, canonical_modEvu, canonical_relevel, canonical_ioReserved, canonical_pend]

theorem canonical_lineChange (h : canonical s) (k) (level) : canonical (s.lineChange k level) := by
  grind [State.lineChange, canonical_modEvu, canonical_fire, canonical_relevel, canonical_pend]

theorem canonical_sampleLine (h : canonical s) (k) : canonical (s.sampleLine k) := by
  grind [State.sampleLine, canonical_modEvu, canonical_relevel, canonical_lineChange, canonical_pend]

theorem canonical_pinShows (h : canonical s) (k) (level) : canonical (s.pinShows k level) := by
  grind [State.pinShows, canonical_onSide, canonical_sampleLine]

theorem canonical_sampleLines (h : canonical s) : canonical s.sampleLines := by grind [State.sampleLines, canonical_sampleLine, canonical_foldl]

theorem canonical_doExternalLineEdge (h : canonical s) (n) (level) : canonical (doExternalLineEdge n level s) := by
  grind [doExternalLineEdge, canonical_pinShows]

theorem canonical_evuIoWrite (h : canonical s) (u) (off) (v) : canonical (s.evuIoWrite u off v) := by
  unfold State.evuIoWrite
  grind [canonical_ioReserved, canonical_doSetPending, canonical_doClearPending, canonical_doMask, canonical_doUnmask,
    canonical_doMaskAndClearPending, canonical_doEvuTgtWrite, canonical_modEvu, canonical_pend, tWf_putWord]

/-! #### Machine/Completion.lean -/

theorem canonical_signal (h : canonical s) (t) (q) : canonical (s.signal t q) := by grind [State.signal, canonical_modCq, canonical_vector]

theorem canonical_moderate (h : canonical s) (t) (q) (code) : canonical (s.moderate t q code) := by
  grind [State.moderate, canonical_signal, canonical_modCq]

theorem canonical_writeCpl (h : canonical s) (t) (q) (c) (ref) (step) : canonical (s.writeCpl t q c ref step) := by
  grind [State.writeCpl, canonical_journal, canonical_sendWrite, canonical_modCq, canonical_moderate]

theorem canonical_entriesEnd (h : canonical s) (t) (q) (n) : canonical (s.entriesEnd t q n) := by
  grind [State.entriesEnd, canonical_modSq, canonical_book]

theorem canonical_unreserve (h : canonical s) (t) (q) (n) : canonical (s.unreserve t q n) := by grind [State.unreserve, canonical_modCq]

theorem canonical_deferCpl (h : canonical s) (t) (cq) (w) : canonical (s.deferCpl t cq w) := by grind [State.deferCpl, canonical_modCq]

theorem canonical_writeInto (h : canonical s) (t) (cq) (w) : canonical (s.writeInto t cq w) := by
  grind [State.writeInto, canonical_unreserve, canonical_book, canonical_writeCpl, canonical_entriesEnd]

theorem canonical_writeReserved (h : canonical s) (t) (cq) (n) (w) : canonical (s.writeReserved t cq n w) := by
  grind [State.writeReserved, canonical_writeInto, canonical_deferCpl]

theorem canonical_writeFinal (h : canonical s) (t) (cq) (c) (ref) (step) : canonical (s.writeFinal t cq c ref step) := by
  grind [State.writeFinal, canonical_writeReserved]

theorem canonical_writeWaiting (h : canonical s) (t) (cq) (w) : canonical (s.writeWaiting t cq w) := by
  grind [State.writeWaiting, canonical_writeInto, canonical_deferCpl]

theorem canonical_writeOneWaiting (h : canonical s) (t) (cq) : canonical (s.writeOneWaiting t cq) := by
  grind [State.writeOneWaiting, canonical_modCq, canonical_writeInto]

theorem canonical_modBatch (h : canonical s) (t) (q) (id) (f) : canonical (s.modBatch t q id f) := by grind [State.modBatch, canonical_modSq]

theorem canonical_closeBatch (h : canonical s) (t) (q) (id) : canonical (s.closeBatch t q id) := by
  grind [State.closeBatch, canonical_modSq, canonical_writeWaiting, canonical_writeReserved]

theorem canonical_endEntry (h : canonical s) (t) (q) (batch) (c) (ref) (step) : canonical (s.endEntry t q batch c ref step) := by
  grind [State.endEntry, canonical_writeFinal, canonical_journal, canonical_modBatch, canonical_closeBatch]

theorem canonical_breakBatch (h : canonical s) (t) (q) (b) : canonical (s.breakBatch t q b) := by
  grind [State.breakBatch, canonical_modSq, canonical_writeFinal, canonical_foldl]

theorem canonical_writeReport (h : canonical s) (t) (cq) (c) (ref) (step) : canonical (s.writeReport t cq c ref step).1 := by
  grind [State.writeReport, canonical_book, canonical_writeCpl]

/-! #### Machine/Staging.lean -/

theorem canonical_eccEvent (h : canonical s) (site) (e) : canonical (s.eccEvent site e) := by
  unfold State.eccEvent
  split <;> grind [canonical_onData, canonical_logFault]

theorem canonical_allocBuf (h : canonical s) (p) (b) : canonical (s.allocBuf p b).1 := by grind [State.allocBuf, canonical_onData, canonical_book]

theorem canonical_dropRef (h : canonical s) (b) : canonical (s.dropRef b) := by
  grind [State.dropRef, canonical_onData, canonical_book, canonical_foldl]

theorem canonical_dropRuns (h : canonical s) (l) : canonical (s.dropRuns l) := by grind [State.dropRuns, canonical_dropRef, canonical_foldl]

theorem canonical_dropPieces (h : canonical s) (l) : canonical (s.dropPieces l) := by grind [State.dropPieces, canonical_dropRef, canonical_foldl]

theorem canonical_addRef (h : canonical s) (b) : canonical (s.addRef b) := by grind [State.addRef, canonical_onData]

theorem canonical_cutRef (h : canonical s) (c) : canonical (s.cutRef c) := by
  unfold State.cutRef
  split <;> grind [canonical_addRef]

theorem canonical_readHeld (h : canonical s) (p) (k) : canonical (s.readHeld p k) := by grind [State.readHeld, canonical_eccEvent]

theorem canonical_flushHeld (h : canonical s) (p) : canonical (s.flushHeld p) := by
  grind [State.flushHeld, canonical_readHeld, canonical_sendWrite, canonical_modHost, canonical_foldl]

theorem canonical_putDesc (h : canonical s) (at1) (d) : canonical (s.putDesc at1 d) := by grind [State.putDesc, canonical_onData, canonical_book]

theorem canonical_admitDesc (h : canonical s) (d) : canonical (s.admitDesc d) := by grind [State.admitDesc, canonical_onData, canonical_putDesc]

theorem canonical_admitDescs (h : canonical s) : canonical s.admitDescs := by
  grind [State.admitDescs, canonical_admitDesc, canonical_onData, canonical_foldl]

theorem canonical_queueDesc (h : canonical s) (d) : canonical (s.queueDesc d) := by grind [State.queueDesc, canonical_onData, canonical_admitDescs]

theorem canonical_dropReads (h : canonical s) (x) : canonical (s.dropReads x) := by
  grind [State.dropReads, canonical_onData, canonical_book, canonical_foldl]

theorem canonical_repace (h : canonical s) : canonical s.repace := by grind [State.repace, canonical_onData]

/-! #### Machine/Link.lean -/

theorem canonical_addFence (h : canonical s) (d) (c) : canonical (s.addFence d c) := by grind [State.addFence, canonical_modPort]

theorem canonical_liftFence (h : canonical s) (d) (c) : canonical (s.liftFence d c) := by grind [State.liftFence, canonical_modPort]

theorem canonical_logLink (h : canonical s) (d) (field) (addr) (fwrev) : canonical (s.logLink d field addr fwrev) := by
  grind [State.logLink, canonical_logFault]

theorem canonical_portEvent (h : canonical s) (d) : canonical (s.portEvent d) := by
  grind [State.portEvent, canonical_vector, canonical_pfVector, canonical_foldl]

theorem canonical_modPath (h : canonical s) (d) (addr) (f) : canonical (s.modPath d addr f) := by grind [State.modPath, canonical_onList]

theorem canonical_openExch (h : canonical s) (d) (owner) (cuaddr) (devaddr) (input) (output) (ident) (op) : canonical (s.openExch d owner cuaddr devaddr input output ident op).1 := by
  grind [State.openExch, canonical_modPort, canonical_book, canonical_work]

theorem canonical_unqueue (h : canonical s) (d) (g) : canonical (s.unqueue d g) := by
  grind [State.unqueue, canonical_modPort, canonical_dropRuns, canonical_foldl]

theorem canonical_freeTag (h : canonical s) (d) (g) : canonical (s.freeTag d g) := by
  grind [State.freeTag, canonical_modPort, canonical_book, canonical_dropAcct]

theorem canonical_dropKept (h : canonical s) (e) : canonical (s.dropKept e) := by grind [State.dropKept, canonical_dropRuns, canonical_foldl]

theorem canonical_closeExch (h : canonical s) (d) (g) : canonical (s.closeExch d g) := by
  grind [State.closeExch, canonical_unqueue, canonical_modPort, canonical_freeTag]

theorem canonical_dropOwed (h : canonical s) (d) : canonical (s.dropOwed d) := by
  grind [State.dropOwed, canonical_dropRuns, canonical_modPort, canonical_foldl]

theorem canonical_abortExch (h : canonical s) (d) (g) (reason) : canonical (s.abortExch d g reason) := by
  grind [State.abortExch, canonical_closeExch, canonical_modPort, canonical_unqueue, canonical_dropKept, canonical_dropAcct]

theorem canonical_quarFree (h : canonical s) (d) (g) : canonical (s.quarFree d g) := by grind [State.quarFree, canonical_modPort, canonical_freeTag]

theorem canonical_useCredit (h : canonical s) (d) (isData) : canonical (s.useCredit d isData) := by grind [State.useCredit, canonical_modPort]

theorem canonical_grantCredits (h : canonical s) (d) : canonical (s.grantCredits d).1 := by
  grind [State.grantCredits, canonical_modPort, canonical_book]

theorem canonical_queueHello (h : canonical s) (d) : canonical (s.queueHello d) := by grind [State.queueHello, canonical_modPort]

theorem canonical_stallCheck (h : canonical s) (d) : canonical (s.stallCheck d) := by grind [State.stallCheck, canonical_modPort]

end Sys2Proof.Machine

/-! ### The canonical form is kept: Programs, ports and queues -/

namespace Sys2Proof.Machine

open Sys2Proof

-- The automated proofs below are checked one after another: side by side they need too much memory.
set_option Elab.async false

variable {s : State}

/-! #### Machine/Transfer.lean -/

theorem canonical_modXfer (h : canonical s) (sc) (x) (f) : canonical (s.modXfer sc x f) := by grind [State.modXfer, canonical_modSub]

theorem canonical_modChain (h : canonical s) (sc) (f) : canonical (s.modChain sc f) := by grind [State.modChain, canonical_modProg]

theorem canonical_keepGroup (h : canonical s) (sc) (k) (b) : canonical (s.keepGroup sc k b) := by
  grind [State.keepGroup, canonical_modProg, canonical_onData]

theorem canonical_emptySlice (h : canonical s) (sc) : canonical (s.emptySlice sc) := by
  grind [State.emptySlice, canonical_modProg, canonical_onData, canonical_foldl]

theorem canonical_queueWrite (h : canonical s) (sc) (p) (addr) (l) : canonical (s.queueWrite sc p addr l) := by
  grind [State.queueWrite, canonical_modXfer, canonical_queueDesc, canonical_foldl]

theorem canonical_writeOwn (h : canonical s) (n) (sc) (x) (addr) (b) (frees) : canonical (State.writeOwn n s sc x addr b frees) := by
  induction n generalizing s addr b with
  | zero => exact h
  | succ n ih => grind [State.writeOwn, canonical_queueWrite]

theorem canonical_emitChunk (h : canonical s) (sc) (x) (st) (k) (col) : canonical (s.emitChunk sc x st k col).1 := by
  grind [State.emitChunk, canonical_cutRef, canonical_queueWrite]

theorem canonical_emitChunks (h : canonical s) (n) (sc) (x) (mps) (st) (col) (all) :
    canonical (State.emitChunks n s sc x mps st col all).1 := by
  induction n generalizing s st with
  | zero => exact h
  | succ n ih => grind [State.emitChunks, canonical_emitChunk]

theorem canonical_markLast (h : canonical s) (x) : canonical (s.markLast x).1 := by grind [State.markLast, canonical_onData]

theorem canonical_colTake (h : canonical s) (n) (sc) (x) (c) (l) : canonical (State.colTake n s sc x c l).1 := by
  induction n generalizing s c l with
  | zero => exact canonical_dropPieces h l
  | succ n ih => grind [State.colTake, canonical_dropPieces, canonical_cutRef, canonical_emitChunks, canonical_modXfer]

theorem canonical_route (h : canonical s) (n) (sc) : canonical (State.route n s sc) := by
  induction n generalizing s with
  | zero => exact h
  | succ n ih =>
    have htaken : ∀ b f, canonical ((s.cutRef b).modChain sc f) := fun b f => canonical_modChain (canonical_cutRef h b) sc f
    unfold State.route
    split
    · exact h
    split
    · exact h
    dsimp only
    split
    · exact h
    split
    · exact h
    split
    · exact ih (canonical_dropPieces (htaken _ _) _)
    split
    · exact ih (canonical_modChain (canonical_colTake (htaken _ _) _ _ _ _ _) _ _)
    · exact ih (canonical_modChain (canonical_modProg (canonical_emitChunks (htaken _ _) _ _ _ _ _ _ _) _ _) _ _)

theorem canonical_stageInput (h : canonical s) (sc) (d) (b) : canonical (s.stageInput sc d b) := by
  grind [State.stageInput, canonical_allocBuf, canonical_dropRef, canonical_modChain, canonical_route]

theorem canonical_releaseEngine (h : canonical s) (sc) : canonical (s.releaseEngine sc) := by grind [State.releaseEngine, canonical_onData]

theorem canonical_freeEngine (h : canonical s) (e) : canonical (s.freeEngine e) := by
  unfold State.freeEngine
  split <;> grind [canonical_onData]

theorem canonical_keepEngine (h : canonical s) (sc) : canonical (s.keepEngine sc).1 := by grind [State.keepEngine, canonical_onData]

theorem canonical_claimEngine (h : canonical s) (sc) (d) : canonical (s.claimEngine sc d).1 := by
  grind [State.claimEngine, canonical_releaseEngine, canonical_modPool, canonical_modChain]

theorem canonical_compareInput (h : canonical s) (sc) (p) : canonical (s.compareInput sc p).1 := by
  grind [State.compareInput, canonical_markLast, canonical_modXfer]

theorem canonical_finishWrites (h : canonical s) (sc) (trusted) : canonical (s.finishWrites sc trusted).1 := by
  unfold State.finishWrites
  split
  · exact h
  split
  · exact h
  have hdrop : ∀ l, canonical (s.dropPieces l) := canonical_dropPieces h
  dsimp only
  split
  · split
    · exact canonical_compareInput (canonical_modChain (canonical_emitChunks (hdrop _) _ _ _ _ _ _ _) _ _) _ _
    · exact canonical_modChain (canonical_emitChunks (hdrop _) _ _ _ _ _ _ _) _ _
  · split
    · refine canonical_writeOwn (canonical_keepEngine (canonical_modChain (canonical_foldl_fst (hdrop _) _ _ ?_) _ _) _) _ _ _ _ _ _
      exact fun r st hr => canonical_emitChunks hr _ _ _ _ _ _ _
    · refine canonical_releaseEngine (canonical_modChain (canonical_foldl_fst (hdrop _) _ _ ?_) _ _) _
      exact fun r st hr => canonical_emitChunks hr _ _ _ _ _ _ _

theorem canonical_dropAhead (h : canonical s) (l) : canonical (s.dropAhead l) := by grind [State.dropAhead, canonical_dropPieces]

theorem canonical_planAhead (h : canonical s) (sc) : canonical (s.planAhead sc) := by grind [State.planAhead, canonical_dropAhead, canonical_modProg]

theorem canonical_joinPart (h : canonical s) (sc) (part) : canonical (s.joinPart sc part) := by
  grind [State.joinPart, canonical_modProg, canonical_modChain, canonical_foldl]

theorem canonical_noteRead (h : canonical s) (sc) (d) : canonical (s.noteRead sc d) := by grind [State.noteRead, canonical_modProg]

theorem canonical_readOutput (h : canonical s) (n) (sc) : canonical (State.readOutput n s sc) := by
  induction n generalizing s with
  | zero => exact h
  | succ n ih => grind [State.readOutput, canonical_noteRead, canonical_queueDesc]

theorem canonical_redoOutput (h : canonical s) (sc) : canonical (s.redoOutput sc) := by
  grind [State.redoOutput, canonical_queueDesc, canonical_modChain, canonical_foldl]

theorem canonical_landOutput (h : canonical s) (d) (piece) : canonical (s.landOutput d piece) := by
  grind [State.landOutput, canonical_dropRef, canonical_modProg, canonical_modChain]

theorem canonical_missOutput (h : canonical s) (d) : canonical (s.missOutput d).1 := by
  grind [State.missOutput, canonical_modProg, canonical_modChain]

theorem canonical_feed (h : canonical s) (n) (sc) : canonical (State.feed n s sc) := by
  induction n generalizing s with
  | zero => exact h
  | succ n ih =>
    have hcut : ∀ (b : Bool) i f, canonical ((if b then s.addRef i else s).modChain sc f) := fun b i f =>
      canonical_modChain (canonical_ite (fun _ => canonical_addRef h i) fun _ => h) sc f
    unfold State.feed
    repeat' split
    all_goals first | exact h | exact ih (canonical_modPort (hcut _ _ _) _ _)

/-! #### Machine/Program.lean -/

theorem canonical_rbIssue (h : canonical s) (sc) (p) : canonical (s.rbIssue sc p) := by grind [State.rbIssue, canonical_modXfer, canonical_sendRead]

theorem canonical_rbKick (h : canonical s) (sc) : canonical (s.rbKick sc) := by grind [State.rbKick, canonical_rbIssue, canonical_foldl]

theorem canonical_pushOutput (h : canonical s) (sc) : canonical (s.pushOutput sc) := by
  grind [State.pushOutput, canonical_readOutput, canonical_planAhead, canonical_redoOutput, canonical_rbKick, canonical_feed]

theorem canonical_postReports (h : canonical s) (n) (sc) (x) : canonical (State.postReports n s sc x) := by
  induction n generalizing s with
  | zero => exact h
  | succ n ih => grind [State.postReports, canonical_writeReport, canonical_modXfer]

theorem canonical_logIntegrity (h : canonical s) (sc) (p) (reason) (site) : canonical (s.logIntegrity sc p reason site) := by
  grind [State.logIntegrity, canonical_logFault]

theorem canonical_finish (h : canonical s) (sc) (p) (e) : canonical (s.finish sc p e) := by grind [State.finish, canonical_endEntry]

theorem canonical_postOldest (h : canonical s) (sc) : canonical (s.postOldest sc) := by grind [State.postOldest, canonical_postReports]

theorem canonical_tryFinish (h : canonical s) (n) (sc) : canonical (State.tryFinish n s sc) := by
  induction n generalizing s with
  | zero => exact h
  | succ n ih => grind [State.tryFinish, canonical_postOldest, canonical_modSub, canonical_finish]

theorem canonical_closeKick (h : canonical s) (sc) : canonical (s.closeKick sc) := by grind [State.closeKick, canonical_tryFinish, canonical_rbKick]

theorem canonical_fireProg (h : canonical s) (sc) (e) : canonical (s.fireProg sc e) := by grind [State.fireProg, canonical_firePort]

theorem canonical_giveUnit (h : canonical s) (n) : canonical (s.giveUnit n) := by
  grind [State.giveUnit, canonical_modToken, canonical_modProg, canonical_fireProg]

theorem canonical_unwait (h : canonical s) (sc) (p) : canonical (s.unwait sc p) := by
  grind [State.unwait, canonical_modToken, canonical_fireProg, canonical_giveUnit]

theorem canonical_endProgram (h : canonical s) (sc) (e) (reason) : canonical (s.endProgram sc e reason) := by
  unfold State.endProgram
  split <;> grind [canonical_unwait, canonical_finishWrites, canonical_logIntegrity, canonical_abortExch, canonical_dropPieces,
    canonical_dropAhead, canonical_dropReads, canonical_releaseEngine, canonical_emptySlice, canonical_modSub, canonical_closeKick]

theorem canonical_endIntegrity (h : canonical s) (sc) (reason) (step) (site) : canonical (s.endIntegrity sc reason step site) := by
  grind [State.endIntegrity, canonical_logIntegrity, canonical_endProgram]

theorem canonical_lampServe (h : canonical s) (sc) (u) : canonical (s.lampServe sc u) := by
  grind [State.lampServe, canonical_endProgram, canonical_lampAction]

theorem canonical_seqException (h : canonical s) (sc) : canonical (s.seqException sc) := by
  grind [State.seqException, canonical_firePort, canonical_lampServe]

theorem canonical_stepCheck (h : canonical s) (sc) (step) (n) : canonical (s.stepCheck sc step n) := by
  grind [State.stepCheck, canonical_seqException, canonical_endProgram]

theorem canonical_addressCheck (h : canonical s) (sc) (step) (n) : canonical (s.addressCheck sc step n) := by
  grind [State.addressCheck, canonical_seqException, canonical_endProgram]

theorem canonical_failStep (h : canonical s) (sc) (step) (f) : canonical (s.failStep sc step f) := by
  unfold State.failStep
  split <;> grind [canonical_stepCheck, canonical_seqException, canonical_endProgram]

theorem canonical_askGroup (h : canonical s) (sc) (p) (k) (arrived) : canonical (s.askGroup sc p k arrived) := by
  grind [State.askGroup, canonical_modProg, canonical_sendRead]

theorem canonical_lookahead (h : canonical s) (sc) : canonical (s.lookahead sc) := by grind [State.lookahead, canonical_askGroup, canonical_foldl]

theorem canonical_needStep (h : canonical s) (sc) (a) : canonical (s.needStep sc a).1 := by
  grind [State.needStep, canonical_addressCheck, canonical_stepCheck, canonical_askGroup]

theorem canonical_arrive (h : canonical s) (sc) : canonical (s.arrive sc) := by
  grind [State.arrive, canonical_needStep, canonical_lookahead, canonical_pushOutput]

theorem canonical_stopAt (h : canonical s) (sc) (e) (step) : canonical (s.stopAt sc e step) := by grind [State.stopAt, canonical_endProgram]

theorem canonical_goTo (h : canonical s) (sc) (a) : canonical (s.goTo sc a) := by
  grind [State.goTo, canonical_stopAt, canonical_modProg, canonical_arrive]

theorem canonical_report (h : canonical s) (sc) (step) : canonical (s.report sc step) := by
  grind [State.report, canonical_modProg, canonical_closeKick]

theorem canonical_goOn (h : canonical s) (sc) (a) (step) (post) : canonical (s.goOn sc a step post) := by
  grind [State.goOn, canonical_report, canonical_goTo]

theorem canonical_endOk (h : canonical s) (sc) (step) : canonical (s.endOk sc step) := by grind [State.endOk, canonical_endProgram]

theorem canonical_controlEnd (h : canonical s) (sc) (w) : canonical (s.controlEnd sc w) := by
  grind [State.controlEnd, canonical_goOn, canonical_endOk]

theorem canonical_unguarded (h : canonical s) (sc) (g) (chain) (from1) : canonical (s.unguarded sc g chain from1) := by
  grind [State.unguarded, canonical_endProgram, canonical_goOn]

theorem canonical_deviceEnd (h : canonical s) (sc) (c) (st) (g) : canonical (s.deviceEnd sc c st g) := by
  grind [State.deviceEnd, canonical_modProg, canonical_goOn, canonical_endOk, canonical_seqException, canonical_goTo, canonical_unguarded]

theorem canonical_judge (h : canonical s) (sc) : canonical (s.judge sc) := by
  grind [State.judge, canonical_needStep, canonical_finishWrites, canonical_endIntegrity, canonical_dropPieces, canonical_deviceEnd]

theorem canonical_pathEnd (h : canonical s) (sc) : canonical (s.pathEnd sc) := by grind [State.pathEnd, canonical_endProgram]

theorem canonical_openChainAs (h : canonical s) (sc) (turn) : canonical (s.openChainAs sc turn) := by
  grind [State.openChainAs, canonical_endProgram, canonical_claimEngine, canonical_modProg, canonical_openExch, canonical_pushOutput]

theorem canonical_openChain (h : canonical s) (sc) : canonical (s.openChain sc) := by grind [State.openChain, canonical_openChainAs]

theorem canonical_takePath (h : canonical s) (sc) (x) : canonical (s.takePath sc x) := by
  grind [State.takePath, canonical_modProg, canonical_openChainAs, canonical_arrive]

theorem canonical_choose (h : canonical s) (sc) (avoid) : canonical (s.choose sc avoid) := by
  grind [State.choose, canonical_takePath, canonical_modProg, canonical_pathEnd]

theorem canonical_retry (h : canonical s) (sc) (timedOut) : canonical (s.retry sc timedOut) := by
  grind [State.retry, canonical_modProg, canonical_stopAt, canonical_endProgram, canonical_choose]

theorem canonical_exchFailed (h : canonical s) (sc) (accepted) (timedOut) : canonical (s.exchFailed sc accepted timedOut) := by
  grind [State.exchFailed, canonical_lampServe, canonical_retry, canonical_modProg, canonical_endProgram]

theorem canonical_moveAway (h : canonical s) (sc) (d) : canonical (s.moveAway sc d) := by
  grind [State.moveAway, canonical_takePath, canonical_onPower, canonical_endProgram]

theorem canonical_sendChain (h : canonical s) (sc) : canonical (s.sendChain sc) := by
  grind [State.sendChain, canonical_openChain, canonical_moveAway, canonical_retry]

theorem canonical_overrun (h : canonical s) (sc) : canonical (s.overrun sc) := by
  unfold State.overrun
  split <;> grind [canonical_modPort, canonical_modChain, canonical_abortExch]

theorem canonical_chainOn (h : canonical s) (sc) : canonical (s.chainOn sc) := by
  grind [State.chainOn, canonical_lookahead, canonical_overrun, canonical_stopAt, canonical_judge, canonical_needStep]

theorem canonical_requiet (h : canonical s) : canonical s.requiet := by grind [State.requiet, canonical_onQueues]

/-! #### Machine/Ports.lean -/

theorem canonical_allExch (h : canonical s) (d) (f : State → Tag → State) (hf : ∀ s g, canonical s → canonical (f s g)) :
    canonical (s.allExch d f) :=
  canonical_foldl h _ fun s _ hs => hf s _ hs

theorem canonical_identDrop (h : canonical s) (d) (a) : canonical (s.identDrop d a) := by grind [State.identDrop, canonical_modPath]

theorem canonical_loseExch (h : canonical s) (d) (g) : canonical (s.loseExch d g) := by
  grind [State.loseExch, canonical_unqueue, canonical_dropKept, canonical_modPort, canonical_dropAcct, canonical_exchFailed,
    canonical_identDrop]

theorem canonical_abortPath (h : canonical s) (d) (reason) (g) : canonical (s.abortPath d reason g) := by
  grind [State.abortPath, canonical_abortExch, canonical_exchFailed, canonical_identDrop]

theorem canonical_abortEnd (h : canonical s) (d) (reason) (code) (detail) (g) : canonical (s.abortEnd d reason code detail g) := by
  grind [State.abortEnd, canonical_endProgram, canonical_abortExch, canonical_identDrop]

theorem canonical_retrainBy (h : canonical s) (d) (beyond) : canonical (s.retrainBy d beyond) := by
  grind [State.retrainBy, canonical_modPort, canonical_allExch, canonical_loseExch, canonical_dropOwed, canonical_firePort,
    canonical_logLink, canonical_portEvent]

theorem canonical_retrain (h : canonical s) (d) : canonical (s.retrain d) := by grind [State.retrain, canonical_retrainBy]

theorem canonical_retrainCause (h : canonical s) (d) : canonical (s.retrainCause d) := by
  grind [State.retrainCause, canonical_retrain, canonical_modPort]

theorem canonical_quarCheck (h : canonical s) : canonical s.quarCheck := by grind [State.quarCheck, canonical_retrain, canonical_foldl]

theorem canonical_darken (h : canonical s) (d) : canonical (s.darken d) := by
  grind [State.darken, canonical_modPort, canonical_allExch, canonical_loseExch, canonical_dropOwed, canonical_firePort]

theorem canonical_light (h : canonical s) (d) : canonical (s.light d) := by grind [State.light, canonical_modPort]

theorem canonical_fence (h : canonical s) (d) (c) (addr) (fwrev) : canonical (s.fence d c addr fwrev) := by
  grind [State.fence, canonical_addFence, canonical_logLink, canonical_portEvent, canonical_firePort]

theorem canonical_fireAcct (h : canonical s) (a) (i) : canonical (s.fireAcct a i) := by grind [State.fireAcct, canonical_fire]

theorem canonical_logBalance (h : canonical s) (a) (i) (x) (site) : canonical (s.logBalance a i x site) := by
  grind [State.logBalance, canonical_fire, canonical_fireAcct, canonical_logFault]

theorem canonical_balanceFencePort (h : canonical s) (d) (account) : canonical (s.balanceFencePort d account) := by
  grind [State.balanceFencePort, canonical_fence, canonical_allExch, canonical_abortEnd, canonical_darken]

theorem canonical_kickIdents (h : canonical s) (d) : canonical (s.kickIdents d) := by grind [State.kickIdents, canonical_openExch, canonical_foldl]

theorem canonical_startIdent (h : canonical s) (d) (a) : canonical (s.startIdent d a) := by
  grind [State.startIdent, canonical_modPath, canonical_kickIdents]

theorem canonical_upIfDone (h : canonical s) (d) : canonical (s.upIfDone d) := by grind [State.upIfDone, canonical_modPort, canonical_firePort]

theorem canonical_identityFence (h : canonical s) (d) (a) (fwrev) : canonical (s.identityFence d a fwrev) := by
  grind [State.identityFence, canonical_modPath, canonical_modPort, canonical_fence, canonical_allExch, canonical_abortEnd]

theorem canonical_noteFwrev (h : canonical s) (cu) (fwrev) : canonical (s.noteFwrev cu fwrev) := by grind [State.noteFwrev, canonical_onProg]

theorem canonical_identResult (h : canonical s) (d) (a) (id) : canonical (s.identResult d a id) := by
  unfold State.identResult
  dsimp only
  (repeat' split) <;> grind [canonical_modPath, canonical_modPort, canonical_firePort, canonical_onList, canonical_noteFwrev,
    canonical_logLink, canonical_identityFence, canonical_upIfDone]

theorem canonical_identifyPort (h : canonical s) (d) : canonical (s.identifyPort d) := by
  grind [State.identifyPort, canonical_modPort, canonical_modPath, canonical_kickIdents, canonical_upIfDone, canonical_foldl]

theorem canonical_helloCredits (h : canonical s) (d) (f) : canonical (s.helloCredits d f) := by
  grind [State.helloCredits, canonical_modPort, canonical_zeroAcct, canonical_book]

theorem canonical_freeQuars (h : canonical s) (d) : canonical (s.freeQuars d) := by grind [State.freeQuars, canonical_quarFree, canonical_foldl]

theorem canonical_helloAccepted (h : canonical s) (d) (f) (again) : canonical (s.helloAccepted d f again) := by
  grind [State.helloAccepted, canonical_allExch, canonical_loseExch, canonical_helloCredits, canonical_freeQuars, canonical_modPort,
    canonical_identifyPort]

theorem canonical_helloRefusal (h : canonical s) (d) (field) : canonical (s.helloRefusal d field) := by
  grind [State.helloRefusal, canonical_allExch, canonical_loseExch, canonical_dropOwed, canonical_modPort, canonical_addFence,
    canonical_logLink, canonical_portEvent, canonical_firePort]

/-! #### Machine/Lamps.lean -/

theorem canonical_loadPair (h : canonical s) (c) (rel) (slot) : canonical (s.loadPair c rel slot) :=
  canonical_modPair h _ _ rfl

theorem canonical_stopPair (h : canonical s) (c) : canonical (s.stopPair c) := by grind [State.stopPair, canonical_modPair, canonical_dmem]

theorem canonical_retarget (h : canonical s) (a) (b) : canonical (s.retarget a b) :=
  canonical_modEvu h _ _ (tWf_foldl _ _ (canonical_pend h _) fun t n ht => tWf_setBit t n true ht)

theorem canonical_noPairPorts (h : canonical s) (k) : canonical (s.noPairPorts k) := by
  grind [State.noPairPorts, canonical_addFence, canonical_logLink, canonical_portEvent, canonical_foldl]

theorem canonical_handOver (h : canonical s) (a) (b) : canonical (s.handOver a b) := by
  grind [State.handOver, canonical_retarget, canonical_modPair, canonical_dmem]

theorem canonical_takeover (h : canonical s) (c) : canonical (s.takeover c) := by
  grind [State.takeover, canonical_handOver, canonical_takeAction, canonical_modPair, canonical_noPairPorts, canonical_dmem]

theorem canonical_retirePair (h : canonical s) (c) : canonical (s.retirePair c) := by
  grind [State.retirePair, canonical_takeover, canonical_stopPair, canonical_modPair, canonical_dmem]

/-! #### Machine/Sites.lean -/

theorem canonical_cageEvent (h : canonical s) (c) : canonical (s.cageEvent c) := by
  grind [State.cageEvent, canonical_vector, canonical_pfVector, canonical_foldl]

theorem canonical_logCage (h : canonical s) (c) (reading) : canonical (s.logCage c reading) := by
  grind [State.logCage, canonical_useFree, canonical_logFault]

theorem canonical_fenceCage (h : canonical s) (c) (f) : canonical (s.fenceCage c f) := by
  grind [State.fenceCage, canonical_addFence, canonical_firePort, canonical_cageEvent, canonical_foldl]

theorem canonical_awaitModule (h : canonical s) (d) : canonical (s.awaitModule d) := by grind [State.awaitModule, canonical_modPort]

theorem canonical_liftCage (h : canonical s) (c) : canonical (s.liftCage c) := by grind [State.liftCage, canonical_liftFence, canonical_foldl]

theorem canonical_unpowerCage (h : canonical s) (c) : canonical (s.unpowerCage c) := by
  grind [State.unpowerCage, canonical_darken, canonical_modCage, canonical_emit, canonical_foldl]

theorem canonical_powerCage (h : canonical s) (c) : canonical (s.powerCage c) := by
  grind [State.powerCage, canonical_modCage, canonical_liftCage, canonical_fenceCage, canonical_logCage, canonical_awaitModule,
    canonical_foldl]

theorem canonical_dropDescs (h : canonical s) (x) : canonical (s.dropDescs x) := by
  grind [State.dropDescs, canonical_book, canonical_onData, canonical_dropRuns, canonical_freeEngine, canonical_foldl]

theorem canonical_fenceTransfer (h : canonical s) (account) (d) : canonical (s.fenceTransfer account d) := by
  grind [State.fenceTransfer, canonical_dropDescs, canonical_modXfer, canonical_endProgram, canonical_closeKick]

theorem canonical_fenceMover (h : canonical s) (m) : canonical (s.fenceMover m) := by
  grind [State.fenceMover, canonical_modMover, canonical_fenceTransfer, canonical_dropAcct, canonical_admitDescs, canonical_foldl]

theorem canonical_retireMover (h : canonical s) (m) : canonical (s.retireMover m) := by
  grind [State.retireMover, canonical_modMover, canonical_book, canonical_onData, canonical_admitDescs]

theorem canonical_takeStarts (h : canonical s) (f) : canonical (s.takeStarts f).1 := by grind [State.takeStarts, canonical_onProg]

theorem canonical_stopProg (h : canonical s) (sc) (e) : canonical (s.stopProg sc e) := by
  grind [State.stopProg, canonical_modProg, canonical_endProgram]

theorem canonical_endStart (h : canonical s) (sc) (x) (code) (detail) : canonical (s.endStart sc x code detail) := by
  grind [State.endStart, canonical_endEntry]

theorem canonical_fenceSq (h : canonical s) (t) (q) : canonical (s.fenceSq t q) := by
  grind [State.fenceSq, canonical_modSq, canonical_takeStarts, canonical_endStart, canonical_endProgram, canonical_foldl]

theorem canonical_fenceCq (h : canonical s) (t) (q) : canonical (s.fenceCq t q) := by
  grind [State.fenceCq, canonical_modCq, canonical_modSq, canonical_stopProg, canonical_foldl]

theorem canonical_fenceToken (h : canonical s) (n) : canonical (s.fenceToken n) := by
  grind [State.fenceToken, canonical_modToken, canonical_endProgram, canonical_foldl]

theorem canonical_enterSafe (h : canonical s) (cause) (site) : canonical (s.enterSafe cause site) := by
  grind [State.enterSafe, canonical_onFaults, canonical_emit, canonical_allExch, canonical_abortEnd, canonical_logFault,
    canonical_pfVector, canonical_foldl]

theorem canonical_retirePort (h : canonical s) (d) : canonical (s.retirePort d) := by
  grind [State.retirePort, canonical_modPort, canonical_darken, canonical_portEvent]

theorem canonical_withholdRow (h : canonical s) (site) (row) : canonical (s.withholdRow site row) := by
  grind [State.withholdRow, canonical_onData, canonical_foldl]

theorem canonical_retireUnit (h : canonical s) (site) (row) (u) : canonical (s.retireUnit site row u).1 := by
  unfold State.retireUnit
  split <;> grind [canonical_withholdRow, canonical_retirePair, canonical_onCores, canonical_retirePort, canonical_retireMover,
    canonical_modPool, canonical_modCage, canonical_unpowerCage, canonical_fenceCage, canonical_onFw, canonical_enterSafe]

theorem canonical_recordSite (h : canonical s) (site) (action) (by1) : canonical (s.recordSite site action by1) := by
  grind [State.recordSite, canonical_onFaults, canonical_logEntry]

theorem canonical_actSite (h : canonical s) (site) (row) (by1) : canonical (s.actSite site row by1).1 := by
  grind [State.actSite, canonical_onFaults, canonical_retireUnit, canonical_recordSite]

theorem canonical_actSites (h : canonical s) (n) : canonical (State.actSites n s) := by
  induction n generalizing s with
  | zero => exact h
  | succ n ih => grind [State.actSites, canonical_actSite, canonical_onFaults]

/-! #### Machine/QueueOps.lean -/

theorem canonical_joinBatch (h : canonical s) (t) (q) (closes) (index) (sc) (ref) : canonical (s.joinBatch t q closes index sc ref).1 := by
  grind [State.joinBatch, canonical_modBatch, canonical_modSq]

theorem canonical_reserveSlot (h : canonical s) (t) (cq) : canonical (s.reserveSlot t cq) := by
  grind [State.reserveSlot, canonical_modCq, canonical_book]

theorem canonical_preRead (h : canonical s) (sc) (x) : canonical (s.preRead sc x).1 := by grind [State.preRead, canonical_sendRead]

theorem canonical_handOn (h : canonical s) (t) (q) (b) (wait) (bad) : canonical (s.handOn t q b wait bad) := by
  grind [State.handOn, canonical_modSq, canonical_reserveSlot, canonical_joinBatch, canonical_endEntry, canonical_preRead, canonical_modSub]

theorem canonical_readSpill (h : canonical s) (t) (q) (i) (e) : canonical (s.readSpill t q i e).1 := by grind [State.readSpill, canonical_eccEvent]

theorem canonical_writeSpill (h : canonical s) (t) (q) (i) : canonical (s.writeSpill t q i) := by grind [State.writeSpill, canonical_onData]

theorem canonical_handCopies (h : canonical s) (n) (t) (q) : canonical (State.handCopies n s t q).1 := by
  induction n generalizing s with
  | zero => exact h
  | succ n ih => grind [State.handCopies, canonical_readSpill, canonical_handOn]

theorem canonical_issueEntryRead (h : canonical s) (t) (q) (n) : canonical (s.issueEntryRead t q n) := by
  grind [State.issueEntryRead, canonical_modSq, canonical_sendReads]

theorem canonical_grant (h : canonical s) (t) (q) : canonical (s.grant t q) := by
  grind [State.grant, canonical_onQueues, canonical_handCopies, canonical_issueEntryRead]

theorem canonical_releaseGrant (h : canonical s) (t) (q) : canonical (s.releaseGrant t q) := by
  grind [State.releaseGrant, canonical_onQueues, canonical_grant]

theorem canonical_keepCopy (h : canonical s) (t) (q) (i) (b) (e) : canonical (s.keepCopy t q i b e) := by
  grind [State.keepCopy, canonical_modSq, canonical_writeSpill]

theorem canonical_takeEntries (h : canonical s) (n) (t) (q) (i) (b) (es) : canonical (State.takeEntries n s t q i b es) := by
  induction n generalizing s i b es with
  | zero => exact h
  | succ n ih => grind [State.takeEntries, canonical_modSq, canonical_eccEvent, canonical_handOn, canonical_keepCopy]

theorem canonical_abortUnread (h : canonical s) (t) (q) (code) (detail) : canonical (s.abortUnread t q code detail) := by
  grind [State.abortUnread, canonical_modSq, canonical_writeWaiting, canonical_foldl]

theorem canonical_abortProgs (h : canonical s) (mine) (code) (detail) (reason) (now) : canonical (s.abortProgs mine code detail reason now) := by
  grind [State.abortProgs, canonical_endProgram, canonical_stopProg, canonical_foldl]

theorem canonical_abortSq (h : canonical s) (t) (q) (code) (detail) (reason) (now) : canonical (s.abortSq t q code detail reason now) := by
  grind [State.abortSq, canonical_abortProgs, canonical_breakBatch, canonical_takeStarts, canonical_modSq, canonical_endStart,
    canonical_abortUnread, canonical_foldl]

theorem canonical_rebuildAcct (h : canonical s) (a) (i) (n) (site) : canonical (s.rebuildAcct a i n site) := by
  grind [State.rebuildAcct, canonical_onFaults, canonical_countOnly]

theorem canonical_deleteQueues (h : canonical s) (t) : canonical (s.deleteQueues t) := by
  grind [State.deleteQueues, canonical_rebuildAcct, canonical_book, canonical_dropAcct, canonical_onQueues, canonical_grant,
    canonical_dropKeys, canonical_foldl]

/-! #### Machine/OrderOps.lean -/

theorem canonical_modOq (h : canonical s) (p) (f) : canonical (s.modOq p f) := by grind [State.modOq, canonical_modHost]

theorem canonical_fetchOrders (h : canonical s) (p) : canonical (s.fetchOrders p) := by grind [State.fetchOrders, canonical_modOq, canonical_sendRead]

theorem canonical_beginOrder (h : canonical s) (p) (b) : canonical (s.beginOrder p b) := by
  grind [State.beginOrder, canonical_modOq, canonical_onOrders, canonical_work]

theorem canonical_setStage (h : canonical s) (p) (g) : canonical (s.setStage p g) := by grind [State.setStage, canonical_modOq]

theorem canonical_effected (h : canonical s) (p) : canonical (s.effected p) := by grind [State.effected, canonical_modOq]

theorem canonical_dueCage (h : canonical s) (c) : canonical (s.dueCage c) := by grind [State.dueCage, canonical_onList]

theorem canonical_startWaves (h : canonical s) (first) (due) : canonical (s.startWaves first due) := by
  grind [State.startWaves, canonical_onList, canonical_dueCage, canonical_foldl]

theorem canonical_bindTenant (h : canonical s) (t) (x) : canonical (s.bindTenant t x) := by
  grind [State.bindTenant, canonical_modTenant, canonical_journal]

theorem canonical_afterReply (h : canonical s) (x) : canonical (s.afterReply x) := by
  unfold State.afterReply
  split <;> grind [canonical_startWaves, canonical_bindTenant]

theorem canonical_onceReplied (h : canonical s) (p) (x) : canonical (s.onceReplied p x) := by grind [State.onceReplied, canonical_modOq]

theorem canonical_putReply (h : canonical s) (p) (time) (status0) (result0) : canonical (s.putReply p time status0 result0) := by
  grind [State.putReply, canonical_modOq, canonical_afterReply, canonical_setStage, canonical_sendWrite, canonical_vector,
    canonical_fetchOrders]

theorem canonical_done (h : canonical s) (p) (result) : canonical (s.done p result) := by grind [State.done, canonical_putReply]

theorem canonical_refuse (h : canonical s) (p) (reason) : canonical (s.refuse p reason) := by grind [State.refuse, canonical_putReply]

theorem canonical_badOrder (h : canonical s) (p) (detail) : canonical (s.badOrder p detail) := by grind [State.badOrder, canonical_putReply]

theorem canonical_runOrder (h : canonical s) (p) (want) (fields) (list) (fogOk) (tenant) (refusal) (act : State → Bytes → State)
    (hact : ∀ s b, canonical s → canonical (act s b)) : canonical (s.runOrder p want fields list fogOk tenant refusal act) := by
  grind [State.runOrder, canonical_beginOrder, canonical_putReply, canonical_badOrder, canonical_refuse]

theorem canonical_unbindFinish (h : canonical s) (p) (t) (mode) (aborted) : canonical (s.unbindFinish p t mode aborted) := by
  grind [State.unbindFinish, canonical_journal, canonical_deleteQueues, canonical_modTenant, canonical_effected, canonical_done]

theorem canonical_settleOrder (h : canonical s) (p) : canonical (s.settleOrder p) := by
  grind [State.settleOrder, canonical_putReply, canonical_sendRead, canonical_rebuildAcct, canonical_modSq, canonical_done,
    canonical_unbindFinish]

theorem canonical_answerFailed (h : canonical s) (p) : canonical (s.answerFailed p) := by
  grind [State.answerFailed, canonical_beginOrder, canonical_putReply]

theorem canonical_noteWait (h : canonical s) (p) : canonical (s.noteWait p) := by grind [State.noteWait, canonical_modOq]

theorem canonical_settleOrders (h : canonical s) (n) : canonical (State.settleOrders n s) := by
  induction n generalizing s with
  | zero => exact h
  | succ n ih => grind [State.settleOrders, canonical_settleOrder, canonical_answerFailed, canonical_noteWait]

/-! #### Machine/Settle.lean -/

theorem canonical_dimPorts (h : canonical s) : canonical s.dimPorts := by grind [State.dimPorts, canonical_darken, canonical_foldl]

theorem canonical_stallPorts (h : canonical s) : canonical s.stallPorts := by grind [State.stallPorts, canonical_stallCheck, canonical_foldl]

theorem canonical_bookTo (h : canonical s) (i) (n) : canonical (s.bookTo i n) := by grind [State.bookTo, canonical_book]

theorem canonical_bookSpill (h : canonical s) : canonical s.bookSpill := by grind [State.bookSpill, canonical_bookTo, canonical_foldl]

theorem canonical_settle (h : canonical s) : canonical s.settle := by
  grind [State.settle, canonical_quarCheck, canonical_dimPorts, canonical_stallPorts, canonical_bookSpill, canonical_actSites,
    canonical_requiet, canonical_settleOrders]

/-! #### Machine/Queues.lean -/

theorem canonical_doQueueArbitration (h : canonical s) : canonical (doQueueArbitration s) := by grind [doQueueArbitration, canonical_grant]

theorem canonical_doMarkReread (h : canonical s) (t) (q) : canonical (doMarkReread t q s) := by grind [doMarkReread, canonical_grant]

theorem canonical_doMarkWaitTimeout (h : canonical s) (t) (q) : canonical (doMarkWaitTimeout t q s) := by grind [doMarkWaitTimeout, canonical_handOn]

theorem canonical_doEntryFetchComplete (h : canonical s) (t) (q) (r) (es) : canonical (doEntryFetchComplete t q r es s) := by
  grind [doEntryFetchComplete, canonical_endRead, canonical_releaseGrant, canonical_modSq, canonical_takeEntries, canonical_settle,
    canonical_logFault]

theorem canonical_refuseWork (h : canonical s) (t) (off) (form) : canonical (s.refuseWork t off form) := by
  grind [State.refuseWork, canonical_modTenant, canonical_logFault, canonical_accessError]

end Sys2Proof.Machine

/-! ### The canonical form is kept: Host ports, steps, domains and orders -/

namespace Sys2Proof.Machine

open Sys2Proof

-- The automated proofs below are checked one after another: side by side they need too much memory.
set_option Elab.async false

variable {s : State}

/-! #### Machine/Queues.lean -/

theorem canonical_noteReserved (h : canonical s) (fn) (off) (bits) : canonical (s.noteReserved fn off bits) := by
  grind [State.noteReserved, canonical_accessError]

theorem canonical_unquiet (h : canonical s) (t) : canonical (s.unquiet t) := by grind [State.unquiet, canonical_modTenant]

theorem canonical_doSqDoorbell (h : canonical s) (t) (q) (value) : canonical (doSqDoorbell t q value s) := by
  grind [doSqDoorbell, canonical_noteReserved, canonical_work, canonical_unquiet, canonical_refuseWork, canonical_settle, canonical_modSq,
    canonical_book, canonical_onOrders]

theorem canonical_doCqDoorbell (h : canonical s) (t) (q) (value) : canonical (doCqDoorbell t q value s) := by
  grind [doCqDoorbell, canonical_noteReserved, canonical_work, canonical_unquiet, canonical_refuseWork, canonical_settle, canonical_modCq,
    canonical_book]

theorem canonical_doBuoyPush (h : canonical s) (t) (q) (slot) (entry) : canonical (doBuoyPush t q slot entry s) := by
  grind [doBuoyPush, canonical_work, canonical_refuseWork, canonical_settle, canonical_modSq, canonical_book, canonical_onOrders,
    canonical_unquiet, canonical_writeSpill, canonical_grant]

theorem canonical_doCompletionWriteSlotFreed (h : canonical s) (t) (q) : canonical (doCompletionWriteSlotFreed t q s) := by
  grind [doCompletionWriteSlotFreed, canonical_writeOneWaiting, canonical_settle]

theorem canonical_doModerationExpiry (h : canonical s) (t) (q) : canonical (doModerationExpiry t q s) := by
  grind [doModerationExpiry, canonical_signal]

theorem canonical_doJournalAreaRoom (h : canonical s) (p) : canonical (doJournalAreaRoom p s) := by
  grind [doJournalAreaRoom, canonical_modHost, canonical_closeKick, canonical_settle, canonical_foldl]

/-! #### Machine/HostPorts.lean -/

theorem canonical_resumeTenants (h : canonical s) (f) : canonical (s.resumeTenants f) := by
  grind [State.resumeTenants, canonical_arrive, canonical_pushOutput, canonical_chainOn, canonical_closeKick, canonical_writeOneWaiting,
    canonical_foldl]

theorem canonical_fireFunction (h : canonical s) (p) : canonical (s.fireFunction p) := by grind [State.fireFunction, canonical_fire]

theorem canonical_flrFinish (h : canonical s) (t) : canonical (s.flrFinish t) := by
  grind [State.flrFinish, canonical_onPower, canonical_endProgram, canonical_journal, canonical_dropDescs, canonical_deleteQueues,
    canonical_onVfs, canonical_modTenant, canonical_foldl]

theorem canonical_flrBegin (h : canonical s) (t) : canonical (s.flrBegin t) := by
  grind [State.flrBegin, canonical_modTenant, canonical_onQueues, canonical_takeStarts, canonical_onProg, canonical_closeKick,
    canonical_stopProg, canonical_fireFunction, canonical_flrFinish, canonical_foldl]

theorem canonical_doVfFlr (h : canonical s) (t) : canonical (doVfFlr t s) := by grind [doVfFlr, canonical_flrBegin, canonical_settle]

theorem canonical_doFlrDrainExpiry (h : canonical s) (t) : canonical (doFlrDrainExpiry t s) := by
  grind [doFlrDrainExpiry, canonical_flrFinish, canonical_settle]

theorem canonical_resetHost (h : canonical s) (p) (cut) : canonical (s.resetHost p cut) := by
  grind [State.resetHost, canonical_modTenant, canonical_dropKeys, canonical_modHost, canonical_onVfs, canonical_flrBegin,
    canonical_fireFunction, canonical_foldl]

theorem canonical_doPfFlr (h : canonical s) (p) : canonical (doPfFlr p s) := by
  grind [doPfFlr, canonical_resetHost, canonical_repace, canonical_settle]

theorem canonical_perstOn (h : canonical s) (p) : canonical (s.perstOn p) := by
  grind [State.perstOn, canonical_modHost, canonical_resetHost, canonical_repace]

theorem canonical_doPerstAssert (h : canonical s) (p) : canonical (doPerstAssert p s) := by grind [doPerstAssert, canonical_perstOn, canonical_settle]

theorem canonical_doPerstRelease (h : canonical s) (p) : canonical (doPerstRelease p s) := by
  grind [doPerstRelease, canonical_modHost, canonical_onKeeper, canonical_emit]

theorem canonical_doHostLinkUp (h : canonical s) (p) (rate) (width) : canonical (doHostLinkUp p rate width s) := by
  grind [doHostLinkUp, canonical_modHost, canonical_onKeeper, canonical_emit, canonical_repace, canonical_resumeTenants, canonical_settle]

theorem canonical_doHostLinkDown (h : canonical s) (p) : canonical (doHostLinkDown p s) := by
  grind [doHostLinkDown, canonical_modHost, canonical_repace, canonical_settle]

theorem canonical_doL1Entry (h : canonical s) (p) : canonical (doL1Entry p s) := by grind [doL1Entry, canonical_modHost]

theorem canonical_pfGoesOn (h : canonical s) (p) : canonical (s.pfGoesOn p) := by
  grind [State.pfGoesOn, canonical_flushHeld, canonical_kickReads, canonical_flushVectors, canonical_repace, canonical_resumeTenants]

theorem canonical_vfGoesOn (h : canonical s) (t) : canonical (s.vfGoesOn t) := by
  grind [State.vfGoesOn, canonical_flushVectors, canonical_kickReads, canonical_repace, canonical_resumeTenants]

theorem canonical_doBusMasterEnableSet (h : canonical s) (p) : canonical (doBusMasterEnableSet p s) := by
  grind [doBusMasterEnableSet, canonical_modFn, canonical_fireFunction, canonical_pfGoesOn, canonical_settle]

theorem canonical_doBusMasterEnableClear (h : canonical s) (p) : canonical (doBusMasterEnableClear p s) := by
  grind [doBusMasterEnableClear, canonical_modFn, canonical_fireFunction, canonical_repace, canonical_settle]

theorem canonical_doVfEnableClear (h : canonical s) (p) : canonical (doVfEnableClear p s) := by
  grind [doVfEnableClear, canonical_modHost, canonical_fireFunction, canonical_repace, canonical_settle]

theorem canonical_doVfEnableSet (h : canonical s) (p) : canonical (doVfEnableSet p s) := by
  grind [doVfEnableSet, canonical_modHost, canonical_fireFunction, canonical_flushVectors, canonical_repace, canonical_resumeTenants,
    canonical_settle, canonical_foldl]

theorem canonical_doEnterD3hot (h : canonical s) (fn) : canonical (doEnterD3hot fn s) := by
  grind [doEnterD3hot, canonical_modFn, canonical_fireFunction, canonical_repace, canonical_settle]

theorem canonical_doReturnToD0 (h : canonical s) (fn) : canonical (doReturnToD0 fn s) := by
  grind [doReturnToD0, canonical_modFn, canonical_fireFunction, canonical_pfGoesOn, canonical_vfGoesOn, canonical_settle]

theorem canonical_doMsixUnmask (h : canonical s) (fn) (which) : canonical (doMsixUnmask fn which s) := by
  unfold doMsixUnmask
  split <;> grind [canonical_modFn, canonical_flushVector, canonical_flushVectors]

theorem canonical_doMsixEnableSet (h : canonical s) (fn) : canonical (doMsixEnableSet fn s) := by
  grind [doMsixEnableSet, canonical_modFn, canonical_flushVectors]

theorem canonical_cfgWrite (h : canonical s) (fn) (w) : canonical (s.cfgWrite fn w) := by
  unfold State.cfgWrite
  split <;> grind [canonical_modFn, canonical_modHost, canonical_vfGoesOn, canonical_settle, canonical_repace]

/-! #### Machine/StepCmds.lean -/

theorem canonical_takeRead (h : canonical s) (key) (live) : canonical (s.takeRead key live).1 := by grind [State.takeRead, canonical_endRead]

theorem canonical_readFailed (h : canonical s) (sc) (step) (r) : canonical (s.readFailed sc step r) := by
  unfold State.readFailed
  split <;> grind [canonical_seqException, canonical_endProgram, canonical_endIntegrity]

theorem canonical_stepEcc (h : canonical s) (sc) (a) (e) : canonical (s.stepEcc sc a e).1 := by
  grind [State.stepEcc, canonical_eccEvent, canonical_seqException, canonical_endIntegrity]

theorem canonical_carryOut (h : canonical s) (sc) (e) (want) (k : State → Prog → StepW → State)
    (hk : ∀ s p w, canonical s → canonical (k s p w)) : canonical (s.carryOut sc e want k) := by
  grind [State.carryOut, canonical_stepEcc, canonical_failStep, canonical_modProg, canonical_unguarded]

theorem canonical_segNext (h : canonical s) (sc) (listAt) : canonical (s.segNext sc listAt) := by
  grind [State.segNext, canonical_done, canonical_modProg, canonical_sendRead]

theorem canonical_segments (h : canonical s) (sc) (step) (w) : canonical (s.segments sc step w).1 := by
  grind [State.segments, canonical_done, canonical_segNext, canonical_modProg]

theorem canonical_columnMap (h : canonical s) (sc) (p) (w) : canonical (s.columnMap sc p w).1 := by
  grind [State.columnMap, canonical_stepCheck, canonical_modProg, canonical_sendRead]

theorem canonical_guardLook (h : canonical s) (sc) (step) (w) : canonical (s.guardLook sc step w).1 := by
  grind [State.guardLook, canonical_needStep, canonical_stepCheck]

theorem canonical_headStep (h : canonical s) (sc) (p) (w) : canonical (s.headStep sc p w) := by
  grind [State.headStep, canonical_columnMap, canonical_segments, canonical_guardLook, canonical_addressCheck, canonical_modProg,
    canonical_joinPart, canonical_pushOutput, canonical_sendChain]

theorem canonical_extendChain (h : canonical s) (sc) (a) (w) (seg) : canonical (s.extendChain sc a w seg) := by
  grind [State.extendChain, canonical_modProg, canonical_joinPart, canonical_modChain, canonical_route, canonical_pushOutput,
    canonical_chainOn]

theorem canonical_contStep (h : canonical s) (sc) (p) (c) (a) (w) : canonical (s.contStep sc p c a w) := by
  grind [State.contStep, canonical_failStep, canonical_stepCheck, canonical_segments, canonical_guardLook, canonical_addressCheck,
    canonical_extendChain]

theorem canonical_doContinuationStep (h : canonical s) (sc) (e) : canonical (doContinuationStep sc e s) := by
  grind [doContinuationStep, canonical_stepEcc, canonical_contStep]

theorem canonical_stepGoesOn (h : canonical s) (sc) : canonical (s.stepGoesOn sc) := by
  grind [State.stepGoesOn, canonical_contStep, canonical_headStep]

theorem canonical_controlStep (h : canonical s) (sc) (p) (k : State → State) (hk : ∀ s, canonical s → canonical (k s)) :
    canonical (s.controlStep sc p k) := by
  grind [State.controlStep, canonical_stepCheck, canonical_modProg]

theorem canonical_branch (h : canonical s) (sc) : canonical (s.branch sc) := by grind [State.branch, canonical_dropAhead, canonical_modProg]

theorem canonical_testStep (h : canonical s) (sc) (p) (w) : canonical (s.testStep sc p w) := by
  grind [State.testStep, canonical_branch, canonical_goOn, canonical_controlEnd, canonical_modProg, canonical_report, canonical_unguarded]

theorem canonical_waitDone (h : canonical s) (sc) (n) : canonical (s.waitDone sc n) := by grind [State.waitDone, canonical_modProg]

theorem canonical_waitStep (h : canonical s) (sc) (p) (w) : canonical (s.waitStep sc p w) := by
  grind [State.waitStep, canonical_seqException, canonical_endProgram, canonical_modProg, canonical_modToken, canonical_waitDone,
    canonical_controlEnd, canonical_onProg, canonical_planAhead]

theorem canonical_postEffect (h : canonical s) (sc) : canonical (s.postEffect sc) := by
  grind [State.postEffect, canonical_modProg, canonical_seqException, canonical_endProgram, canonical_book, canonical_giveUnit,
    canonical_controlEnd]

theorem canonical_postStep (h : canonical s) (sc) (p) (w) : canonical (s.postStep sc p w) := by
  grind [State.postStep, canonical_seqException, canonical_endProgram, canonical_postEffect, canonical_modProg, canonical_closeKick]

theorem canonical_markStep (h : canonical s) (sc) (p) (w) : canonical (s.markStep sc p w) := by
  grind [State.markStep, canonical_writeOwn, canonical_modPort, canonical_controlEnd]

theorem canonical_spoilSub (h : canonical s) (sc) : canonical (s.spoilSub sc) := by
  grind [State.spoilSub, canonical_endProgram, canonical_modSub, canonical_endStart, canonical_closeKick, canonical_foldl]

theorem canonical_doStartBegin (h : canonical s) (sc) (e) : canonical (doStartBegin sc e s) := by
  grind [doStartBegin, canonical_eccEvent, canonical_spoilSub, canonical_settle, canonical_modSub, canonical_keepGroup, canonical_choose,
    canonical_work]

theorem canonical_doPathWaitEnd (h : canonical s) (sc) : canonical (doPathWaitEnd sc s) := by
  grind [doPathWaitEnd, canonical_takePath, canonical_settle, canonical_pathEnd]

theorem canonical_doPathWaitTimeout (h : canonical s) (sc) : canonical (doPathWaitTimeout sc s) := by
  grind [doPathWaitTimeout, canonical_takePath, canonical_settle, canonical_pathEnd]

theorem canonical_doStartSlotGranted (h : canonical s) (d) : canonical (doStartSlotGranted d s) := by
  grind [doStartSlotGranted, canonical_takePath, canonical_retry, canonical_settle, canonical_sendChain]

theorem canonical_tryHold (h : canonical s) (sc) : canonical (s.tryHold sc) := by grind [State.tryHold, canonical_writeReport, canonical_modProg]

theorem canonical_doHoldStepReached (h : canonical s) (sc) : canonical (doHoldStepReached sc s) := by
  grind [doHoldStepReached, canonical_emptySlice, canonical_modProg, canonical_planAhead, canonical_fireProg, canonical_lampServe,
    canonical_closeKick, canonical_tryHold, canonical_settle]

theorem canonical_doHoldReportSlotFreed (h : canonical s) (sc) : canonical (doHoldReportSlotFreed sc s) := by
  grind [doHoldReportSlotFreed, canonical_tryHold, canonical_settle]

theorem canonical_doWaiterResume (h : canonical s) (sc) : canonical (doWaiterResume sc s) := by
  unfold doWaiterResume
  split <;> grind [canonical_waitDone, canonical_modProg, canonical_stopAt, canonical_settle, canonical_endOk, canonical_report,
    canonical_takePath, canonical_choose]

theorem canonical_doBusyRetryTimer (h : canonical s) (sc) : canonical (doBusyRetryTimer sc s) := by
  grind [doBusyRetryTimer, canonical_modProg, canonical_sendChain, canonical_settle]

theorem canonical_fogBound (h : canonical s) (detail) (sc) : canonical (s.fogBound detail sc) := by grind [State.fogBound, canonical_endProgram]

theorem canonical_doQuietTimeout (h : canonical s) (t) : canonical (doQuietTimeout t s) := by
  unfold doQuietTimeout
  split
  · exact h
  split
  · refine canonical_settle ?_
    split
    · exact canonical_modTenant (canonical_fogBound h _ _) _ _
    · exact canonical_foldl h _ fun _ _ hs => canonical_fogBound hs _ _
  · exact h

theorem canonical_doStepGroupReadComplete (h : canonical s) (sc) (addr) (r) : canonical (doStepGroupReadComplete sc addr r s) := by
  unfold doStepGroupReadComplete
  dsimp only
  split
  · exact canonical_takeRead h _ _
  split
  · split
    · exact canonical_takeRead h _ _
    · refine canonical_settle ?_
      grind [canonical_takeRead, canonical_modProg, canonical_keepGroup, canonical_lookahead, canonical_pushOutput, canonical_stepCheck,
        canonical_chainOn, canonical_arrive, canonical_readFailed]
  · exact canonical_modSub (canonical_takeRead h _ _) _ _

theorem canonical_doSegmentListReadComplete (h : canonical s) (sc) (r) : canonical (doSegmentListReadComplete sc r s) := by
  unfold doSegmentListReadComplete
  split <;> grind [canonical_takeRead, canonical_segments, canonical_stepCheck, canonical_modProg, canonical_stepGoesOn,
    canonical_readFailed, canonical_settle]

theorem canonical_doColumnMapReadComplete (h : canonical s) (sc) (r) : canonical (doColumnMapReadComplete sc r s) := by
  grind [doColumnMapReadComplete, canonical_takeRead, canonical_columnMap, canonical_modProg, canonical_stepGoesOn, canonical_readFailed,
    canonical_settle]

theorem canonical_freeMover (h : canonical s) (m) : canonical (s.freeMover m) := by
  grind [State.freeMover, canonical_onData, canonical_book, canonical_admitDescs]

theorem canonical_doOutputReadComplete (h : canonical s) (sc) (r) : canonical (doOutputReadComplete sc r s) := by
  grind [doOutputReadComplete, canonical_takeRead, canonical_allocBuf, canonical_onData, canonical_freeMover, canonical_missOutput,
    canonical_readFailed, canonical_settle]

theorem canonical_rbFailed (h : canonical s) (sc) (p) : canonical (s.rbFailed sc p) := by
  grind [State.rbFailed, canonical_logIntegrity, canonical_modXfer, canonical_closeKick, canonical_endProgram, canonical_endIntegrity]

theorem canonical_rbGood (h : canonical s) (sc) (p) (r) : canonical (s.rbGood sc p r) := by
  grind [State.rbGood, canonical_modXfer, canonical_closeKick, canonical_postEffect, canonical_tryHold, canonical_pushOutput,
    canonical_chainOn]

theorem canonical_rbDone (h : canonical s) (sc) (r) : canonical (s.rbDone sc r) := by
  grind [State.rbDone, canonical_modXfer, canonical_rbGood, canonical_rbFailed]

theorem canonical_doReadbackComplete (h : canonical s) (sc) (r) (hashMisses) : canonical (doReadbackComplete sc r hashMisses s) := by
  grind [doReadbackComplete, canonical_takeRead, canonical_rbDone, canonical_settle, canonical_countOnly, canonical_enterSafe,
    canonical_foldl]

theorem canonical_doColumnizerEngineGranted (h : canonical s) (d) : canonical (doColumnizerEngineGranted d s) := by
  grind [doColumnizerEngineGranted, canonical_sendChain, canonical_settle]

/-! #### Machine/Movers.lean -/

theorem canonical_skipWrite (h : canonical s) (d) : canonical (s.skipWrite d) := by grind [State.skipWrite, canonical_modXfer]

theorem canonical_poisonWrite (h : canonical s) (d) (reason) (site) : canonical (s.poisonWrite d reason site) := by
  grind [State.poisonWrite, canonical_skipWrite, canonical_modXfer, canonical_endIntegrity, canonical_closeKick]

theorem canonical_doMoverDescriptorBegin (h : canonical s) (m) (e) : canonical (doMoverDescriptorBegin m e s) := by
  grind [doMoverDescriptorBegin, canonical_modMover, canonical_sendRead, canonical_eccEvent, canonical_freeMover, canonical_dropRuns,
    canonical_poisonWrite, canonical_settle]

theorem canonical_outputStored (h : canonical s) (d) : canonical (s.outputStored d) := by
  grind [State.outputStored, canonical_landOutput, canonical_pushOutput, canonical_chainOn]

theorem canonical_compareDue (h : canonical s) (d) : canonical (s.compareDue d) := by
  grind [State.compareDue, canonical_modXfer, canonical_logIntegrity, canonical_endIntegrity]

theorem canonical_writeIssued (h : canonical s) (d) : canonical (s.writeIssued d) := by
  grind [State.writeIssued, canonical_modXfer, canonical_compareDue, canonical_freeEngine, canonical_closeKick, canonical_tryHold]

theorem canonical_doMoverDescriptorComplete (h : canonical s) (m) : canonical (doMoverDescriptorComplete m s) := by
  grind [doMoverDescriptorComplete, canonical_freeMover, canonical_outputStored, canonical_settle, canonical_dropRuns, canonical_skipWrite,
    canonical_closeKick, canonical_sendWrite, canonical_writeIssued]

theorem canonical_doScrubGranule (h : canonical s) (g) (e) : canonical (doScrubGranule g e s) := by
  grind [doScrubGranule, canonical_onData, canonical_eccEvent, canonical_settle]

theorem canonical_doSmallBudgetWindow (h : canonical s) (w) : canonical (doSmallBudgetWindow w s) := by grind [doSmallBudgetWindow, canonical_onData]

theorem canonical_doImbalanceWindow (h : canonical s) (counts) : canonical (doImbalanceWindow counts s) := by
  grind [doImbalanceWindow, canonical_useFree, canonical_onData]

/-! #### Machine/Domains.lean -/

theorem canonical_modDom (h : canonical s) (n) (f) : canonical (s.modDom n f) := by grind [State.modDom, canonical_onPower]

theorem canonical_requestOn (h : canonical s) (n) : canonical (s.requestOn n) := by grind [State.requestOn, canonical_modDom, canonical_foldl]

theorem canonical_chooseAgain (h : canonical s) (d) : canonical (s.chooseAgain d) := by
  grind [State.chooseAgain, canonical_choose, canonical_moveAway, canonical_foldl]

theorem canonical_requestOff (h : canonical s) (n) : canonical (s.requestOff n) := by
  grind [State.requestOff, canonical_modDom, canonical_firePort, canonical_chooseAgain, canonical_resetHost, canonical_repace,
    canonical_foldl]

theorem canonical_rethrottle (h : canonical s) : canonical s.rethrottle := by grind [State.rethrottle, canonical_modPort, canonical_foldl]

theorem canonical_portOff (h : canonical s) (d) : canonical (s.portOff d) := by
  grind [State.portOff, canonical_darken, canonical_modPort, canonical_addFence, canonical_zeroAcct]

theorem canonical_cageIfIdle (h : canonical s) (n) : canonical (s.cageIfIdle n) := by grind [State.cageIfIdle, canonical_unpowerCage]

theorem canonical_clusterOff (h : canonical s) (n) : canonical (s.clusterOff n) := by
  have hoff : ∀ (l : List PairNum), canonical (l.foldl (fun s c => s.modPair c (fun p => { retired := p.retired, failures := p.failures })) s) :=
    fun l => canonical_foldl h l fun _ _ hs => canonical_modPair hs _ _ rfl
  unfold State.clusterOff
  dsimp only
  split
  · exact hoff _
  · exact canonical_onBanks (canonical_evus_tdel (hoff _) _) _

theorem canonical_dropStaging (h : canonical s) : canonical s.dropStaging := by
  grind [State.dropStaging, canonical_onData, canonical_onFaults, canonical_onHosts]

theorem canonical_poolsFresh (h : canonical s) : canonical s.poolsFresh := by grind [State.poolsFresh, canonical_onData]

theorem canonical_domainOff (h : canonical s) (n) : canonical (s.domainOff n) := by
  grind [State.domainOff, canonical_modDom, canonical_portOff, canonical_cageIfIdle, canonical_clusterOff, canonical_dropStaging,
    canonical_onFw, canonical_poolsFresh, canonical_foldl]

theorem canonical_startPair (h : canonical s) (c) : canonical (s.startPair c) := by grind [State.startPair, canonical_loadPair]

theorem canonical_portOn (h : canonical s) (d) : canonical (s.portOn d) := by
  grind [State.portOn, canonical_liftFence, canonical_modPort, canonical_light, canonical_awaitModule]

theorem canonical_domainOn (h : canonical s) (n) : canonical (s.domainOn n) := by
  grind [State.domainOn, canonical_modDom, canonical_portOn, canonical_powerCage, canonical_startPair, canonical_emit,
    canonical_poolsFresh, canonical_foldl]

theorem canonical_domainReply (h : canonical s) (n) (ended) : canonical (s.domainReply n ended) := by
  grind [State.domainReply, canonical_done, canonical_foldl]

theorem canonical_startTests (h : canonical s) : canonical s.startTests := by grind [State.startTests, canonical_onFw, canonical_foldl]

theorem canonical_testReply (h : canonical s) : canonical s.testReply := by grind [State.testReply, canonical_done, canonical_foldl]

theorem canonical_doDomainSwitchComplete (h : canonical s) (n) : canonical (doDomainSwitchComplete n s) := by
  grind [doDomainSwitchComplete, canonical_domainOn, canonical_domainOff, canonical_fire, canonical_domainReply, canonical_startTests,
    canonical_testReply, canonical_settle]

theorem canonical_doDomainDrainExpiry (h : canonical s) (n) : canonical (doDomainDrainExpiry n s) := by
  grind [doDomainDrainExpiry, canonical_modDom, canonical_allExch, canonical_abortEnd, canonical_settle, canonical_foldl]

/-! #### Machine/Cages.lean -/

theorem canonical_rewave (h : canonical s) : canonical s.rewave := by grind [State.rewave, canonical_onList]

theorem canonical_doCageWaveStart (h : canonical s) (c) : canonical (doCageWaveStart c s) := by
  grind [doCageWaveStart, canonical_onList, canonical_requestOn, canonical_powerCage, canonical_light, canonical_settle, canonical_foldl]

theorem canonical_doModuleInLowPowerMode (h : canonical s) (c) (ident) (media) (power) : canonical (doModuleInLowPowerMode c ident media power s) := by
  grind [doModuleInLowPowerMode, canonical_liftFence, canonical_modCage, canonical_fenceCage, canonical_logCage, canonical_modPort,
    canonical_emit, canonical_settle, canonical_foldl]

theorem canonical_doModuleReady (h : canonical s) (c) : canonical (doModuleReady c s) := by
  grind [doModuleReady, canonical_modCage, canonical_liftCage, canonical_light, canonical_settle, canonical_foldl]

theorem canonical_doCageReadyTimeout (h : canonical s) (c) : canonical (doCageReadyTimeout c s) := by
  grind [doCageReadyTimeout, canonical_modCage, canonical_fenceCage, canonical_logCage, canonical_settle]

theorem canonical_doCageRecheck (h : canonical s) (c) : canonical (doCageRecheck c s) := by grind [doCageRecheck, canonical_modCage]

theorem canonical_doModuleInserted (h : canonical s) (c) : canonical (doModuleInserted c s) := by
  grind [doModuleInserted, canonical_pinShows, canonical_modCage, canonical_logCage, canonical_settle, canonical_powerCage,
    canonical_liftCage]

theorem canonical_doModuleRemoved (h : canonical s) (c) : canonical (doModuleRemoved c s) := by
  grind [doModuleRemoved, canonical_pinShows, canonical_modCage, canonical_retrain, canonical_darken, canonical_awaitModule,
    canonical_fenceCage, canonical_logCage, canonical_settle, canonical_foldl]

theorem canonical_doCageIntl (h : canonical s) (c) (reading) : canonical (doCageIntl c reading s) := by
  grind [doCageIntl, canonical_logCage, canonical_settle]

theorem canonical_doCmisMonitorPoll (h : canonical s) (c) (temp) (rx) : canonical (doCmisMonitorPoll c temp rx s) := by
  grind [doCmisMonitorPoll, canonical_modCage]

theorem canonical_doCageSwitchTrip (h : canonical s) (c) : canonical (doCageSwitchTrip c s) := by
  grind [doCageSwitchTrip, canonical_unpowerCage, canonical_modCage, canonical_fenceCage, canonical_logCage, canonical_settle]

/-! #### Machine/Keeper.lean -/

theorem canonical_kprRead (h : canonical s) (off) : canonical (s.kprRead off).1 := by
  unfold State.kprRead
  split <;> grind [canonical_onKeeper]

theorem canonical_kprWrite (h : canonical s) (off) (v) : canonical (s.kprWrite off v) := by
  unfold State.kprWrite
  split <;> grind [canonical_ioReserved, canonical_onKeeper]

theorem canonical_smcClear (h : canonical s) (off) : canonical (s.smcClear off) := by grind [State.smcClear, canonical_onData]

theorem canonical_slpClear (h : canonical s) (d) (off) : canonical (s.slpClear d off) := by grind [State.slpClear, canonical_modPort]

/-! #### Machine/Pairs.lean -/

theorem canonical_logPair (h : canonical s) (c) (cause) (taker) : canonical (s.logPair c cause taker) := by grind [State.logPair, canonical_logFault]

theorem canonical_dropPairTest (h : canonical s) (x) : canonical (s.dropPairTest x) := by grind [State.dropPairTest, canonical_onFw]

theorem canonical_stopPairTests (h : canonical s) (c) : canonical (s.stopPairTests c) := by
  grind [State.stopPairTests, canonical_dropPairTest, canonical_modPair, canonical_loadPair, canonical_foldl, canonical_dmem]

theorem canonical_dropTenderReads (h : canonical s) : canonical s.dropTenderReads := by grind [State.dropTenderReads, canonical_dropKeys]

theorem canonical_spoilActivation (h : canonical s) (p) : canonical (s.spoilActivation p) := by grind [State.spoilActivation, canonical_modOq]

theorem canonical_tenderStops (h : canonical s) : canonical s.tenderStops := by
  grind [State.tenderStops, canonical_onCores, canonical_dropTenderReads, canonical_stopPair]

theorem canonical_failPair (h : canonical s) (c) (cause) : canonical (s.failPair c cause) := by
  grind [State.failPair, canonical_tenderStops, canonical_spoilActivation, canonical_logPair, canonical_takeover, canonical_stopPair,
    canonical_modPair, canonical_dropPairTest, canonical_stopPairTests, canonical_dmem]

theorem canonical_doPairFailure (h : canonical s) (c) (cause) : canonical (doPairFailure c cause s) := by
  grind [doPairFailure, canonical_failPair, canonical_settle]

theorem canonical_logMismatch (h : canonical s) (site) (dom) (mbist) : canonical (s.logMismatch site dom mbist) := by
  grind [State.logMismatch, canonical_fireReport, canonical_logEntry]

theorem canonical_doPairSelftestComplete (h : canonical s) (c) (pass) : canonical (doPairSelftestComplete c pass s) := by
  grind [doPairSelftestComplete, canonical_fire, canonical_modPair, canonical_loadPair, canonical_logMismatch, canonical_actSite,
    canonical_settle, canonical_dmem]

theorem canonical_countEcc (h : canonical s) (site) : canonical (s.countEcc site) := by grind [State.countEcc, canonical_modPair, canonical_dmem]

theorem canonical_memoryFailure (h : canonical s) (site) : canonical (s.memoryFailure site) := by grind [State.memoryFailure, canonical_failPair]

theorem canonical_doSramPatrol (h : canonical s) (site) (e) : canonical (doSramPatrol site e s) := by
  unfold doSramPatrol
  split <;> grind [canonical_countEcc, canonical_logFault, canonical_settle, canonical_memoryFailure]

theorem canonical_doTenderRestart (h : canonical s) (pass) : canonical (doTenderRestart pass s) := by
  grind [doTenderRestart, canonical_spoilActivation, canonical_logMismatch, canonical_countOnly, canonical_settle, canonical_loadPair]

theorem canonical_setImage (h : canonical s) (b) (x) : canonical (s.setImage b x) := by grind [State.setImage, canonical_onFw]

theorem canonical_restartOrder (h : canonical s) (p) : canonical (s.restartOrder p) := by
  grind [State.restartOrder, canonical_effected, canonical_done, canonical_pfVector, canonical_modOq, canonical_onOrders,
    canonical_setImage, canonical_onceReplied, canonical_putReply]

theorem canonical_doTenderRestartComplete (h : canonical s) : canonical (doTenderRestartComplete s) := by
  grind [doTenderRestartComplete, canonical_onCores, canonical_restartOrder, canonical_fetchOrders, canonical_settle]

/-! #### Machine/Rings.lean -/

theorem canonical_doOqDb (h : canonical s) (p) (value) : canonical (doOqDb p value s) := by
  grind [doOqDb, canonical_noteReserved, canonical_work, canonical_accessError, canonical_settle, canonical_modOq, canonical_fire,
    canonical_fetchOrders]

theorem canonical_oqCtl (h : canonical s) (p) (value) : canonical (s.oqCtl p value) := by
  grind [State.oqCtl, canonical_noteReserved, canonical_accessError, canonical_dropKeys, canonical_modOq]

theorem canonical_doOqEnable (h : canonical s) (p) (value) : canonical (doOqEnable p value s) := by
  grind [doOqEnable, canonical_oqCtl, canonical_settle]

theorem canonical_doOqDisable (h : canonical s) (p) (value) : canonical (doOqDisable p value s) := by
  grind [doOqDisable, canonical_oqCtl, canonical_settle]

theorem canonical_landSlots (h : canonical s) (p) (r) : canonical (s.landSlots p r) := by
  grind [State.landSlots, canonical_endRead, canonical_modOq, canonical_fetchOrders, canonical_settle]

theorem canonical_doOrderFetchComplete (h : canonical s) (p) (r) : canonical (doOrderFetchComplete p r s) := by
  grind [doOrderFetchComplete, canonical_landSlots]

theorem canonical_doOrderMarkReread (h : canonical s) (p) : canonical (doOrderMarkReread p s) := by
  grind [doOrderMarkReread, canonical_modOq, canonical_fetchOrders, canonical_settle, canonical_sendRead]

theorem canonical_doReservedOrderOpcode (h : canonical s) (p) : canonical (doReservedOrderOpcode p s) := by
  grind [doReservedOrderOpcode, canonical_beginOrder, canonical_putReply, canonical_badOrder, canonical_settle]

theorem canonical_doNopEcho (h : canonical s) (p) : canonical (doNopEcho p s) := by
  grind [doNopEcho, canonical_runOrder, canonical_done, canonical_settle]

theorem canonical_doIdentify (h : canonical s) (p) : canonical (doIdentify p s) := by
  grind [doIdentify, canonical_runOrder, canonical_done, canonical_settle]

theorem canonical_setTimebase (h : canonical s) (v) : canonical (s.setTimebase v) := by grind [State.setTimebase, canonical_onClk, canonical_onKeeper]

theorem canonical_doSetTime (h : canonical s) (p) : canonical (doSetTime p s) := by
  grind [doSetTime, canonical_runOrder, canonical_setTimebase, canonical_effected, canonical_done, canonical_settle]

theorem canonical_doReadTimeBridge (h : canonical s) (p) : canonical (doReadTimeBridge p s) := by
  grind [doReadTimeBridge, canonical_runOrder, canonical_done, canonical_settle]

theorem canonical_doSetSupplyPolicy (h : canonical s) (p) : canonical (doSetSupplyPolicy p s) := by
  grind [doSetSupplyPolicy, canonical_runOrder, canonical_onPower, canonical_rethrottle, canonical_pfVector, canonical_effected,
    canonical_done, canonical_settle]

theorem canonical_doReadSignature (h : canonical s) (p) : canonical (doReadSignature p s) := by
  grind [doReadSignature, canonical_runOrder, canonical_done, canonical_settle]

theorem canonical_doSetFaultWindow (h : canonical s) (p) : canonical (doSetFaultWindow p s) := by
  grind [doSetFaultWindow, canonical_runOrder, canonical_onFaults, canonical_effected, canonical_done, canonical_settle]

theorem canonical_writeRun (h : canonical s) (p) (n) (a) (b) : canonical (State.writeRun p n s a b) := by
  induction n generalizing s a b with
  | zero => exact h
  | succ n ih => grind [State.writeRun, canonical_sendWrite]

theorem canonical_doReadFaultLog (h : canonical s) (p) (readback) : canonical (doReadFaultLog p readback s) := by
  grind [doReadFaultLog, canonical_runOrder, canonical_writeRun, canonical_exitL1, canonical_emit, canonical_slpClear, canonical_smcClear,
    canonical_onFaults, canonical_effected, canonical_done, canonical_putReply, canonical_settle, canonical_foldl]

theorem canonical_doRetireSite (h : canonical s) (p) : canonical (doRetireSite p s) := by
  grind [doRetireSite, canonical_runOrder, canonical_actSite, canonical_effected, canonical_done, canonical_settle]

/-! #### Machine/TenantOrders.lean -/

theorem canonical_doBindTenant (h : canonical s) (p) : canonical (doBindTenant p s) := by
  grind [doBindTenant, canonical_runOrder, canonical_onceReplied, canonical_effected, canonical_done, canonical_settle]

theorem canonical_doUnbindTenantGentle (h : canonical s) (p) : canonical (doUnbindTenantGentle p s) := by
  grind [doUnbindTenantGentle, canonical_runOrder, canonical_unbindFinish, canonical_settle]

theorem canonical_haltSq (h : canonical s) (t) (q) : canonical (s.haltSq t q) := by
  grind [State.haltSq, canonical_modSq, canonical_releaseGrant, canonical_dropKeys]

theorem canonical_trueCount (h : canonical s) (t) (q) : canonical (s.trueCount t q) := by grind [State.trueCount, canonical_modSq]

theorem canonical_doUnbindTenantForce (h : canonical s) (p) : canonical (doUnbindTenantForce p s) := by
  grind [doUnbindTenantForce, canonical_runOrder, canonical_modTenant, canonical_effected, canonical_haltSq, canonical_trueCount,
    canonical_abortSq, canonical_setStage, canonical_settle, canonical_foldl]

theorem canonical_doUnbindDrainExpiry (h : canonical s) (t) : canonical (doUnbindDrainExpiry t s) := by
  grind [doUnbindDrainExpiry, canonical_endProgram, canonical_settle, canonical_foldl]

theorem canonical_doCreateQueueSq (h : canonical s) (p) : canonical (doCreateQueueSq p s) := by
  grind [doCreateQueueSq, canonical_runOrder, canonical_onQueues, canonical_effected, canonical_done, canonical_settle]

theorem canonical_doCreateQueueCq (h : canonical s) (p) : canonical (doCreateQueueCq p s) := by
  grind [doCreateQueueCq, canonical_runOrder, canonical_onQueues, canonical_effected, canonical_done, canonical_settle]

theorem canonical_doResetQueue (h : canonical s) (p) : canonical (doResetQueue p s) := by
  grind [doResetQueue, canonical_runOrder, canonical_haltSq, canonical_trueCount, canonical_effected, canonical_abortSq,
    canonical_setStage, canonical_settle]

theorem canonical_doSetQueuePriority (h : canonical s) (p) : canonical (doSetQueuePriority p s) := by
  grind [doSetQueuePriority, canonical_runOrder, canonical_modSq, canonical_effected, canonical_done, canonical_settle]

theorem canonical_release (h : canonical s) (sc) (pass) : canonical (s.release sc pass) := by
  grind [State.release, canonical_modProg, canonical_choose, canonical_fireProg]

theorem canonical_doReleaseHold (h : canonical s) (p) : canonical (doReleaseHold p s) := by
  grind [doReleaseHold, canonical_runOrder, canonical_effected, canonical_done, canonical_release, canonical_settle]

theorem canonical_doTokenCreate (h : canonical s) (p) : canonical (doTokenCreate p s) := by
  grind [doTokenCreate, canonical_runOrder, canonical_onProg, canonical_zeroAcct, canonical_book, canonical_effected, canonical_done,
    canonical_settle]

theorem canonical_doTokenDestroy (h : canonical s) (p) : canonical (doTokenDestroy p s) := by
  grind [doTokenDestroy, canonical_runOrder, canonical_onProg, canonical_rebuildAcct, canonical_dropAcct, canonical_effected,
    canonical_done, canonical_settle]

theorem canonical_doTokenRead (h : canonical s) (p) : canonical (doTokenRead p s) := by
  grind [doTokenRead, canonical_runOrder, canonical_done, canonical_settle]

end Sys2Proof.Machine

/-! ### The canonical form is kept: Lists, resets, supply and tests -/

namespace Sys2Proof.Machine

open Sys2Proof

-- The automated proofs below are checked one after another: side by side they need too much memory.
set_option Elab.async false

variable {s : State}

/-! #### Machine/Lists.lean -/

theorem canonical_listRecords (h : canonical s) (b) : canonical (s.listRecords b) := by grind [State.listRecords, canonical_onList, canonical_foldl]

theorem canonical_listSubs (h : canonical s) (b) : canonical (s.listSubs b) := by
  grind [State.listSubs, canonical_onProg, canonical_modSub, canonical_foldl]

theorem canonical_keepPort (h : canonical s) (b) (d) (was) : canonical (s.keepPort b d was) := by
  grind [State.keepPort, canonical_modPort, canonical_retrain, canonical_startIdent, canonical_identifyPort, canonical_foldl]

theorem canonical_applyList (h : canonical s) (b) : canonical (s.applyList b).1 := by
  grind [State.applyList, canonical_listRecords, canonical_listSubs, canonical_liftCage, canonical_unpowerCage, canonical_onList,
    canonical_darken, canonical_keepPort, canonical_setTimebase, canonical_modCage, canonical_logCage, canonical_foldl]

theorem canonical_doLoadLightList (h : canonical s) (p) : canonical (doLoadLightList p s) := by
  grind [doLoadLightList, canonical_runOrder, canonical_setStage, canonical_settle]

theorem canonical_listRead (h : canonical s) (p) (got) (whole) : canonical (s.listRead p got whole) := by
  grind [State.listRead, canonical_endRead, canonical_putReply, canonical_settle, canonical_applyList, canonical_effected,
    canonical_onceReplied, canonical_done]

theorem canonical_doLightListReadComplete (h : canonical s) (p) (got) (whole) : canonical (doLightListReadComplete p got whole s) := by
  grind [doLightListReadComplete, canonical_listRead]

/-! #### Machine/PortOrders.lean -/

theorem canonical_rebuildPort (h : canonical s) (d) : canonical (s.rebuildPort d) := by
  grind [State.rebuildPort, canonical_modPort, canonical_onFaults, canonical_rebuildAcct]

theorem canonical_enablePort (h : canonical s) (d) : canonical (s.enablePort d) := by
  grind [State.enablePort, canonical_liftFence, canonical_rebuildPort, canonical_retrain, canonical_light, canonical_firePort]

theorem canonical_doPortEnable (h : canonical s) (p) : canonical (doPortEnable p s) := by
  grind [doPortEnable, canonical_runOrder, canonical_effected, canonical_enablePort, canonical_setStage, canonical_settle]

theorem canonical_doPortEnableTimeout (h : canonical s) (p) : canonical (doPortEnableTimeout p s) := by
  grind [doPortEnableTimeout, canonical_done, canonical_settle]

theorem canonical_doPortFence (h : canonical s) (p) : canonical (doPortFence p s) := by
  grind [doPortFence, canonical_runOrder, canonical_effected, canonical_fence, canonical_firePort, canonical_allExch, canonical_abortPath,
    canonical_setStage, canonical_settle]

theorem canonical_newPath (h : canonical s) (x) : canonical (s.newPath x) := by
  grind [State.newPath, canonical_startIdent, canonical_modPort, canonical_modPath, canonical_light]

theorem canonical_editGroup (h : canonical s) (pg) (paths) : canonical (s.editGroup pg paths) := by
  grind [State.editGroup, canonical_onList, canonical_newPath, canonical_choose, canonical_foldl]

theorem canonical_doPathGroupEdit (h : canonical s) (p) : canonical (doPathGroupEdit p s) := by
  grind [doPathGroupEdit, canonical_runOrder, canonical_effected, canonical_editGroup, canonical_setStage, canonical_settle]

/-! #### Machine/PowerOrders.lean -/

theorem canonical_doDomainPowerOn (h : canonical s) (p) : canonical (doDomainPowerOn p s) := by
  grind [doDomainPowerOn, canonical_runOrder, canonical_requestOn, canonical_effected, canonical_done, canonical_setStage, canonical_settle]

theorem canonical_doDomainPowerOff (h : canonical s) (p) : canonical (doDomainPowerOff p s) := by
  grind [doDomainPowerOff, canonical_runOrder, canonical_modDom, canonical_effected, canonical_done, canonical_requestOff,
    canonical_setStage, canonical_settle]

theorem canonical_beginSleep (h : canonical s) (p) (b) : canonical (s.beginSleep p b) := by
  grind [State.beginSleep, canonical_onOrders, canonical_onKeeper, canonical_setStage]

theorem canonical_sleepOrder (h : canonical s) (p) (want) : canonical (s.sleepOrder p want) := by
  grind [State.sleepOrder, canonical_runOrder, canonical_beginSleep, canonical_settle]

theorem canonical_doEnterSleepDoze (h : canonical s) (p) : canonical (doEnterSleepDoze p s) := by grind [doEnterSleepDoze, canonical_sleepOrder]

theorem canonical_doEnterSleepHold (h : canonical s) (p) : canonical (doEnterSleepHold p s) := by grind [doEnterSleepHold, canonical_sleepOrder]

theorem canonical_dropBells (h : canonical s) : canonical s.dropBells := by
  grind [State.dropBells, canonical_accessError, canonical_modSq, canonical_book, canonical_onOrders, canonical_foldl]

theorem canonical_sleepHost (h : canonical s) (p) : canonical (s.sleepHost p) := by grind [State.sleepHost, canonical_resetHost, canonical_domainOff]

theorem canonical_doSleepCommitEdge (h : canonical s) (wakeLow) (sense0Low) : canonical (doSleepCommitEdge wakeLow sense0Low s) := by
  grind [doSleepCommitEdge, canonical_fire, canonical_onKeeper, canonical_onOrders, canonical_putReply, canonical_settle,
    canonical_effected, canonical_done, canonical_flushHeld, canonical_dropBells, canonical_sleepHost, canonical_repace]

theorem canonical_doIdleEntry (h : canonical s) : canonical (doIdleEntry s) := by grind [doIdleEntry, canonical_onPower]

/-! #### Machine/Resets.lean -/

theorem canonical_readSupply (h : canonical s) (v) : canonical (s.readSupply v) := by grind [State.readSupply, canonical_onKeeper]

theorem canonical_alertOut (h : canonical s) : canonical s.alertOut := by grind [State.alertOut, canonical_emit]

theorem canonical_fogOn (h : canonical s) : canonical s.fogOn := by grind [State.fogOn, canonical_onKeeper, canonical_emit, canonical_alertOut]

theorem canonical_raiseFog (h : canonical s) : canonical s.raiseFog := by grind [State.raiseFog, canonical_onKeeper, canonical_fogOn]

theorem canonical_logSensor (h : canonical s) (site) (reading) : canonical (s.logSensor site reading) := by
  grind [State.logSensor, canonical_useFree, canonical_logFault]

theorem canonical_unpowered (s : State) : canonical s.unpowered := by
  refine ⟨fun c => ?_, fun u => rfl⟩
  refine dmem_of_mem _ (fun x hx => ?_) c
  obtain ⟨y, -, rfl⟩ := List.mem_map.mp hx
  rfl

theorem canonical_stampCause (h : canonical s) (cause) : canonical (s.stampCause cause) := by grind [State.stampCause, canonical_onKeeper]

theorem canonical_moduleReset (h : canonical s) (cause) : canonical (s.moduleReset cause) := by
  grind [State.moduleReset, canonical_unpowered, canonical_stampCause, canonical_alertOut]

theorem canonical_doModuleReset (h : canonical s) (supply) : canonical (doModuleReset supply s) := by
  grind [doModuleReset, canonical_readSupply, canonical_raiseFog, canonical_moduleReset]

theorem canonical_doKeeperReset (s : State) : canonical (doKeeperReset s) := canonical_unpowered s

theorem canonical_doRootPllLockLoss (h : canonical s) : canonical (doRootPllLockLoss s) := by grind [doRootPllLockLoss, canonical_moduleReset]

theorem canonical_readRetention (h : canonical s) : canonical s.readRetention := by
  grind [State.readRetention, canonical_logSensor, canonical_onKeeper]

theorem canonical_startUp (h : canonical s) : canonical s.startUp := by
  grind [State.startUp, canonical_readRetention, canonical_onPower, canonical_onKeeper, canonical_onFw, canonical_emit, canonical_foldl]

theorem canonical_doPowerGood (h : canonical s) (supply) : canonical (doPowerGood supply s) := by
  grind [doPowerGood, canonical_readSupply, canonical_fogOn, canonical_startUp]

theorem canonical_doRailRetry (h : canonical s) (good) : canonical (doRailRetry good s) := by grind [doRailRetry, canonical_onKeeper, canonical_onFw]

theorem canonical_doHubCoreRelease (h : canonical s) (mbistPass) : canonical (doHubCoreRelease mbistPass s) := by
  grind [doHubCoreRelease, canonical_onFw, canonical_onKeeper, canonical_onClk, canonical_onFaults, canonical_logMismatch,
    canonical_enterSafe, canonical_settle]

theorem canonical_dieAlarm (h : canonical s) (d) : canonical (s.dieAlarm d) := by grind [State.dieAlarm, canonical_fire]

theorem canonical_doCarrierLinkTrained (h : canonical s) (d) (dieAnswers) : canonical (doCarrierLinkTrained d dieAnswers s) := by
  grind [doCarrierLinkTrained, canonical_onFw, canonical_onClk, canonical_domainOff, canonical_settle]

theorem canonical_doCarrierLinkFault (h : canonical s) (d) : canonical (doCarrierLinkFault d s) := by
  grind [doCarrierLinkFault, canonical_dieAlarm, canonical_actSite, canonical_settle]

theorem canonical_doTenderBoot (h : canonical s) : canonical (doTenderBoot s) := by
  grind [doTenderBoot, canonical_onKeeper, canonical_onCores, canonical_onFw, canonical_release, canonical_loadPair, canonical_settle]

theorem canonical_dropImage (h : canonical s) (b) : canonical (s.dropImage b) := by grind [State.dropImage, canonical_onFw]

theorem canonical_logBoot (h : canonical s) (b) : canonical (s.logBoot b) := by grind [State.logBoot, canonical_useFree, canonical_logEntry]

theorem canonical_doBootTimerExpiry (h : canonical s) : canonical (doBootTimerExpiry s) := by
  grind [doBootTimerExpiry, canonical_dropImage, canonical_logBoot, canonical_moduleReset]

theorem canonical_bootLog (h : canonical s) : canonical s.bootLog := by
  grind [State.bootLog, canonical_onFw, canonical_onFaults, canonical_pfVector, canonical_foldl]

theorem canonical_doHbmTrained (h : canonical s) (trained) : canonical (doHbmTrained trained s) := by
  grind [doHbmTrained, canonical_onFw, canonical_onData, canonical_bootLog, canonical_actSite, canonical_settle]

theorem canonical_assignSlot (h : canonical s) (k) : canonical (s.assignSlot k) := by
  grind [State.assignSlot, canonical_modPair, canonical_noPairPorts, canonical_dmem]

theorem canonical_doModuleReadyForOrders (h : canonical s) : canonical (doModuleReadyForOrders s) := by
  grind [doModuleReadyForOrders, canonical_startPair, canonical_assignSlot, canonical_onFw, canonical_work, canonical_settle,
    canonical_foldl]

/-! #### Machine/Wakes.lean -/

theorem canonical_latchWake (h : canonical s) (source) : canonical (s.latchWake source) := by grind [State.latchWake, canonical_onKeeper]

theorem canonical_beginWake (h : canonical s) : canonical s.beginWake := by
  grind [State.beginWake, canonical_onKeeper, canonical_fire, canonical_startUp]

theorem canonical_doTimebaseFreeze (h : canonical s) : canonical (doTimebaseFreeze s) := by
  grind [doTimebaseFreeze, canonical_onKeeper, canonical_unpowered, canonical_onPower, canonical_onClk, canonical_beginWake]

theorem canonical_doWakeFromDoze (h : canonical s) (source) : canonical (doWakeFromDoze source s) := by
  grind [doWakeFromDoze, canonical_latchWake, canonical_beginWake]

theorem canonical_doWakeFromHold (h : canonical s) (source) : canonical (doWakeFromHold source s) := by
  grind [doWakeFromHold, canonical_latchWake, canonical_beginWake]

theorem canonical_doPllLock (h : canonical s) : canonical (doPllLock s) := by grind [doPllLock, canonical_onKeeper]

theorem canonical_bridgeTime (h : canonical s) : canonical s.bridgeTime := by
  grind [State.bridgeTime, canonical_onKeeper, canonical_onClk, canonical_logSensor]

theorem canonical_driveWake (h : canonical s) : canonical s.driveWake := by grind [State.driveWake, canonical_onKeeper, canonical_emit]

theorem canonical_doTimebaseBridge (h : canonical s) : canonical (doTimebaseBridge s) := by
  grind [doTimebaseBridge, canonical_bridgeTime, canonical_onClk, canonical_onKeeper, canonical_onPower, canonical_onOrders,
    canonical_domainOn, canonical_driveWake, canonical_settle]

theorem canonical_doWakeDriveTimeout (h : canonical s) : canonical (doWakeDriveTimeout s) := by
  grind [doWakeDriveTimeout, canonical_onKeeper, canonical_emit]

/-! #### Machine/Supply.lean -/

theorem canonical_fogExchanges (h : canonical s) : canonical s.fogExchanges := by
  grind [State.fogExchanges, canonical_allExch, canonical_abortExch, canonical_modPath, canonical_abortEnd, canonical_foldl]

theorem canonical_bookTrips (h : canonical s) (cs) : canonical (s.bookTrips cs) := by
  grind [State.bookTrips, canonical_modCage, canonical_liftCage, canonical_foldl]

theorem canonical_shedPower (h : canonical s) : canonical s.shedPower := by
  grind [State.shedPower, canonical_unpowerCage, canonical_bookTrips, canonical_onPower, canonical_foldl]

theorem canonical_fogSleep (h : canonical s) : canonical s.fogSleep := by
  grind [State.fogSleep, canonical_onOrders, canonical_onKeeper, canonical_refuse]

theorem canonical_doFogSignal (h : canonical s) (supply) : canonical (doFogSignal supply s) := by
  grind [doFogSignal, canonical_readSupply, canonical_raiseFog, canonical_fire, canonical_fireSlots, canonical_pfVector,
    canonical_vfVectors, canonical_fogSleep, canonical_shedPower, canonical_abortSq, canonical_fogExchanges, canonical_onFw,
    canonical_flushHeld, canonical_settle, canonical_foldl]

theorem canonical_doFogClear (h : canonical s) (supply) : canonical (doFogClear supply s) := by
  grind [doFogClear, canonical_readSupply, canonical_onKeeper, canonical_emit, canonical_alertOut, canonical_pfVector, canonical_vfVectors,
    canonical_onQueues, canonical_rewave, canonical_dueCage, canonical_onPower, canonical_kickIdents, canonical_startTests,
    canonical_beginWake, canonical_settle, canonical_foldl]

theorem canonical_doOverVoltage (h : canonical s) (supply) : canonical (doOverVoltage supply s) := by
  grind [doOverVoltage, canonical_onKeeper, canonical_logSensor, canonical_settle]

theorem canonical_powerHold (h : canonical s) (on) : canonical (s.powerHold on) := by
  grind [State.powerHold, canonical_onPower, canonical_rethrottle, canonical_pfVector, canonical_settle]

theorem canonical_doPowerLimitThrottle (h : canonical s) (power) : canonical (doPowerLimitThrottle power s) := by
  have hin : ∀ f, canonical (s.onPower f) := canonical_onPower h
  have hheld : ∀ f on, canonical ((s.onPower f).powerHold on) := fun f => canonical_powerHold (hin f)
  have hset : ∀ f g, canonical ((s.onPower f).onPower g) := fun f => canonical_onPower (hin f)
  unfold doPowerLimitThrottle
  dsimp only
  repeat' split
  all_goals simp only [hin, hheld, hset]

/-! #### Machine/Sensors.lean -/

theorem canonical_measureInlet (h : canonical s) (a) (b) : canonical (s.measureInlet a b) := by grind [State.measureInlet, canonical_onTherm]

theorem canonical_doInletWarnCrossed (h : canonical s) (a) (b) : canonical (doInletWarnCrossed a b s) := by
  grind [doInletWarnCrossed, canonical_measureInlet, canonical_onTherm, canonical_logSensor, canonical_settle]

theorem canonical_inletHold (h : canonical s) (on) (reading) : canonical (s.inletHold on reading) := by
  grind [State.inletHold, canonical_logFault, canonical_onTherm, canonical_rethrottle, canonical_pfVector, canonical_settle]

theorem canonical_doInletThrottle (h : canonical s) (a) (b) : canonical (doInletThrottle a b s) := by
  grind [doInletThrottle, canonical_measureInlet, canonical_onTherm, canonical_inletHold]

theorem canonical_doInletThrottleRelease (h : canonical s) (a) (b) : canonical (doInletThrottleRelease a b s) := by
  grind [doInletThrottleRelease, canonical_measureInlet, canonical_onTherm, canonical_inletHold]

theorem canonical_doInletSensorDisagree (h : canonical s) (a) (b) : canonical (doInletSensorDisagree a b s) := by
  grind [doInletSensorDisagree, canonical_measureInlet, canonical_onTherm, canonical_logSensor, canonical_settle]

theorem canonical_withdrawDie (h : canonical s) (die) : canonical (s.withdrawDie die) := by
  grind [State.withdrawDie, canonical_onTherm, canonical_requestOff, canonical_modDom, canonical_foldl]

theorem canonical_doDieOverTemperature (h : canonical s) (die) (temp) : canonical (doDieOverTemperature die temp s) := by
  grind [doDieOverTemperature, canonical_onTherm, canonical_dieAlarm, canonical_rethrottle, canonical_withdrawDie, canonical_settle,
    canonical_enterSafe]

theorem canonical_returnDie (h : canonical s) (die) : canonical (s.returnDie die) := by
  grind [State.returnDie, canonical_onTherm, canonical_dueCage, canonical_modDom, canonical_foldl]

theorem canonical_doDieTemperatureRelease (h : canonical s) (die) (temp) : canonical (doDieTemperatureRelease die temp s) := by
  grind [doDieTemperatureRelease, canonical_onTherm, canonical_rethrottle, canonical_returnDie, canonical_settle]

/-! #### Machine/Smbus.lean -/

theorem canonical_doSmbusResetArm (h : canonical s) (pecGood) : canonical (doSmbusResetArm pecGood s) := by
  grind [doSmbusResetArm, canonical_emit, canonical_onSide]

theorem canonical_doSmbusResetConfirm (h : canonical s) (pecGood) : canonical (doSmbusResetConfirm pecGood s) := by
  grind [doSmbusResetConfirm, canonical_emit, canonical_onSide, canonical_moduleReset, canonical_onKeeper]

theorem canonical_doSmbusResetArmTimeout (h : canonical s) : canonical (doSmbusResetArmTimeout s) := by
  grind [doSmbusResetArmTimeout, canonical_onSide]

theorem canonical_doSmbusResetCancel (h : canonical s) (value) (pecGood) : canonical (doSmbusResetCancel value pecGood s) := by
  grind [doSmbusResetCancel, canonical_emit, canonical_onSide]

theorem canonical_smbusReply (h : canonical s) (o) : canonical (s.smbusReply o) := by grind [State.smbusReply, canonical_useFree, canonical_emit]

theorem canonical_hubWord (h : canonical s) (v) : canonical (s.hubWord v) := by grind [State.hubWord, canonical_smbusReply]

theorem canonical_doSmbusReadMode (h : canonical s) : canonical (doSmbusReadMode s) := by grind [doSmbusReadMode, canonical_smbusReply]

theorem canonical_doSmbusReadVoltage (h : canonical s) : canonical (doSmbusReadVoltage s) := by grind [doSmbusReadVoltage, canonical_smbusReply]

theorem canonical_doSmbusReadPower (h : canonical s) : canonical (doSmbusReadPower s) := by grind [doSmbusReadPower, canonical_hubWord]

theorem canonical_doSmbusReadInlet (h : canonical s) : canonical (doSmbusReadInlet s) := by grind [doSmbusReadInlet, canonical_hubWord]

theorem canonical_doSmbusReadDieTemp (h : canonical s) : canonical (doSmbusReadDieTemp s) := by grind [doSmbusReadDieTemp, canonical_hubWord]

theorem canonical_doSmbusReadBeacon (h : canonical s) : canonical (doSmbusReadBeacon s) := by grind [doSmbusReadBeacon, canonical_hubWord]

theorem canonical_tapLoad (h : canonical s) (n) : canonical (s.tapLoad n) := by grind [State.tapLoad, canonical_onSide]

theorem canonical_sample (h : canonical s) : canonical s.sample := by grind [State.sample, canonical_useFree, canonical_onSide]

theorem canonical_tapTake (h : canonical s) (n) : canonical (s.tapTake n) := by
  grind [State.tapTake, canonical_onSide, canonical_onPower, canonical_sample, canonical_foldl]

theorem canonical_doBypass (h : canonical s) : canonical (doBypass s) := by grind [doBypass, canonical_tapLoad]

theorem canonical_doIdcode (h : canonical s) : canonical (doIdcode s) := by grind [doIdcode, canonical_tapLoad, canonical_emit]

theorem canonical_doSamplePreload (h : canonical s) : canonical (doSamplePreload s) := by
  grind [doSamplePreload, canonical_tapLoad, canonical_sample, canonical_emit]

theorem canonical_doExtest (h : canonical s) : canonical (doExtest s) := by grind [doExtest, canonical_tapTake]

theorem canonical_doClamp (h : canonical s) : canonical (doClamp s) := by grind [doClamp, canonical_tapTake]

theorem canonical_doHighz (h : canonical s) : canonical (doHighz s) := by grind [doHighz, canonical_tapTake]

theorem canonical_doExtestPulse (h : canonical s) : canonical (doExtestPulse s) := by grind [doExtestPulse, canonical_tapTake]

theorem canonical_doExtestTrain (h : canonical s) : canonical (doExtestTrain s) := by grind [doExtestTrain, canonical_tapTake]

theorem canonical_doTestLogicReset (h : canonical s) : canonical (doTestLogicReset s) := by
  grind [doTestLogicReset, canonical_onSide, canonical_moduleReset]

/-! #### Machine/Balance.lean -/

theorem canonical_fenceXfer (h : canonical s) (i) : canonical (s.fenceXfer i) := by grind [State.fenceXfer, canonical_onFaults, canonical_endProgram]

theorem canonical_breakAcct (h : canonical s) (a) (i) (x) : canonical (s.breakAcct a i x) := by
  unfold State.breakAcct
  split <;> grind [canonical_logBalance, canonical_fenceSq, canonical_fenceCq, canonical_fenceToken, canonical_fenceMover,
    canonical_fenceXfer, canonical_balanceFencePort, canonical_enterSafe]

theorem canonical_doBalanceRound (h : canonical s) (agree) : canonical (doBalanceRound agree s) := by
  grind [doBalanceRound, canonical_onFaults, canonical_enterSafe, canonical_settle, canonical_breakAcct, canonical_foldl]

/-! #### Machine/Boxes.lean -/

theorem canonical_mbxVector (h : canonical s) (m) : canonical (s.mbxVector m) := by grind [State.mbxVector, canonical_vector]

theorem canonical_fireSlot (h : canonical s) (m) (n) : canonical (s.fireSlot m n) := by grind [State.fireSlot, canonical_fire]

theorem canonical_commitTo (h : canonical s) (m) (h) (b) : canonical (s.commitTo m h b) := by grind [State.commitTo, canonical_modMbx, canonical_fire]

theorem canonical_commitFrom (h : canonical s) (m) (h) (b) : canonical (s.commitFrom m h b) := by
  grind [State.commitFrom, canonical_modMbx, canonical_mbxVector, canonical_fireSlot]

theorem canonical_takeTo (h : canonical s) (m) : canonical (s.takeTo m) := by
  grind [State.takeTo, canonical_modMbx, canonical_mbxVector, canonical_fireSlot]

theorem canonical_takeFrom (h : canonical s) (m) : canonical (s.takeFrom m) := by grind [State.takeFrom, canonical_modMbx, canonical_fire]

theorem canonical_doMbxSend (h : canonical s) (p) (j) (h) : canonical (doMbxSend p j h s) := by
  grind [doMbxSend, canonical_commitTo, canonical_accessError, canonical_settle]

theorem canonical_doMbxTake (h : canonical s) (p) (j) (v) : canonical (doMbxTake p j v s) := by
  grind [doMbxTake, canonical_takeFrom, canonical_accessError, canonical_settle]

/-! #### Machine/SelfTests.lean -/

theorem canonical_failUnit (h : canonical s) (site) (n) (mbist) : canonical (s.failUnit site n mbist) := by
  grind [State.failUnit, canonical_logMismatch, canonical_actSite]

theorem canonical_holdSig (h : canonical s) (n) (mbist) (sig) : canonical (s.holdSig n mbist sig) := by
  grind [State.holdSig, canonical_onFw, canonical_release]

theorem canonical_unitFree (h : canonical s) (u) : canonical (s.unitFree u) := by
  unfold State.unitFree
  split <;> grind [canonical_modPair, canonical_modMover, canonical_modPool, canonical_modDom, canonical_dmem]

theorem canonical_rotDrop (h : canonical s) (u) : canonical (s.rotDrop u) := by grind [State.rotDrop, canonical_unitFree, canonical_onFw]

theorem canonical_withdrawForTest (h : canonical s) (kind) (n) : canonical (s.withdrawForTest kind n) := by
  grind [State.withdrawForTest, canonical_rotDrop, canonical_requestOff, canonical_modDom, canonical_onFw, canonical_foldl]

theorem canonical_doStartSelfTest (h : canonical s) (p) : canonical (doStartSelfTest p s) := by
  grind [doStartSelfTest, canonical_runOrder, canonical_onFw, canonical_withdrawForTest, canonical_effected, canonical_setStage,
    canonical_startTests, canonical_settle, canonical_foldl]

theorem canonical_orderedDone (h : canonical s) (t) (mbist) (bad) : canonical (s.orderedDone t mbist bad) := by
  grind [State.orderedDone, canonical_failUnit, canonical_onFw, canonical_modDom, canonical_requestOn, canonical_startTests,
    canonical_testReply, canonical_foldl]

theorem canonical_startupDone (h : canonical s) (n) (mbist) (bad) : canonical (s.startupDone n mbist bad) := by
  grind [State.startupDone, canonical_logMismatch, canonical_actSite, canonical_domainOff, canonical_enterSafe, canonical_foldl]

theorem canonical_domainTested (h : canonical s) (n) (mbist) (sigs) : canonical (s.domainTested n mbist sigs) := by
  grind [State.domainTested, canonical_holdSig, canonical_fire, canonical_logMismatch, canonical_actSite, canonical_onFw,
    canonical_orderedDone, canonical_settle, canonical_startupDone, canonical_foldl]

theorem canonical_freeUnit (h : canonical s) (u) : canonical (s.freeUnit u) := by
  unfold State.freeUnit
  split <;> grind [canonical_handOver, canonical_modPair, canonical_modMover, canonical_modPool, canonical_requestOff, canonical_modDom,
    canonical_dmem]

theorem canonical_doRotatingTestStart (h : canonical s) (u) : canonical (doRotatingTestStart u s) := by
  grind [doRotatingTestStart, canonical_freeUnit, canonical_onFw, canonical_settle]

theorem canonical_unitBack (h : canonical s) (u) : canonical (s.unitBack u) := by
  unfold State.unitBack
  split <;> grind [canonical_rotDrop, canonical_loadPair, canonical_release, canonical_admitDescs, canonical_requestOn]

theorem canonical_doRotatingTestPutOff (h : canonical s) (u) : canonical (doRotatingTestPutOff u s) := by
  unfold doRotatingTestPutOff
  split <;> grind [canonical_unitBack, canonical_settle]

theorem canonical_rotTested (h : canonical s) (u) (mbist) (bad) : canonical (s.rotTested u mbist bad) := by
  grind [State.rotTested, canonical_logEntry, canonical_onFw, canonical_unitBack, canonical_failUnit, canonical_unitFree, canonical_foldl]

theorem canonical_unitTested (h : canonical s) (u) (mbist) (sigs) : canonical (s.unitTested u mbist sigs) := by
  unfold State.unitTested
  split <;> grind [canonical_fire, canonical_failUnit, canonical_modMover, canonical_rebuildAcct, canonical_admitDescs, canonical_settle,
    canonical_rotTested, canonical_foldl]

theorem canonical_doSelfTestComplete (h : canonical s) (subject) (mbist) (sigs) : canonical (doSelfTestComplete subject mbist sigs s) := by
  unfold doSelfTestComplete
  split <;> grind [canonical_domainTested, canonical_unitTested]

/-! #### Machine/FirmwareOrders.lean -/

theorem canonical_doStageFirmware (h : canonical s) (p) : canonical (doStageFirmware p s) := by
  grind [doStageFirmware, canonical_runOrder, canonical_setStage, canonical_settle]

theorem canonical_firmwareDone (h : canonical s) (p) (rel) : canonical (s.firmwareDone p rel) := by
  grind [State.firmwareDone, canonical_done, canonical_pfVector, canonical_settle]

theorem canonical_doFlashOperationComplete (h : canonical s) (r) : canonical (doFlashOperationComplete r s) := by
  grind [doFlashOperationComplete, canonical_endRead, canonical_fire, canonical_putReply, canonical_setImage, canonical_setStage,
    canonical_refuse, canonical_settle, canonical_effected, canonical_firmwareDone]

theorem canonical_nameRun (h : canonical s) (p) (b) : canonical (s.nameRun p b) := by
  grind [State.nameRun, canonical_onFw, canonical_effected, canonical_fire]

theorem canonical_rollPairs (h : canonical s) (rel) (l) (spare) : canonical (rollPairs rel l spare s).1 := by
  induction l generalizing s spare with
  | nil => exact h
  | cons c rest ih => grind [rollPairs, canonical_handOver, canonical_loadPair]

theorem canonical_rollCluster (h : canonical s) (rel) (dom) (spare) : canonical (s.rollCluster rel dom spare).1 := by
  grind [State.rollCluster, canonical_rollPairs, canonical_loadPair]

theorem canonical_rollDie (h : canonical s) (rel) (d) : canonical (s.rollDie rel d) := by grind [State.rollDie, canonical_rollCluster]

theorem canonical_rollAll (h : canonical s) (p) : canonical (s.rollAll p) := by
  grind [State.rollAll, canonical_release, canonical_rollDie, canonical_nameRun, canonical_onFw, canonical_tenderStops, canonical_setStage,
    canonical_foldl]

theorem canonical_recoverRun (h : canonical s) (p) : canonical (s.recoverRun p) := by
  grind [State.recoverRun, canonical_nameRun, canonical_firmwareDone, canonical_release, canonical_moduleReset]

theorem canonical_doActivateFirmwareHitless (h : canonical s) (p) : canonical (doActivateFirmwareHitless p s) := by
  grind [doActivateFirmwareHitless, canonical_runOrder, canonical_recoverRun, canonical_rollAll, canonical_settle]

theorem canonical_doActivateFirmwareAtReset (h : canonical s) (p) : canonical (doActivateFirmwareAtReset p s) := by
  grind [doActivateFirmwareAtReset, canonical_runOrder, canonical_recoverRun, canonical_nameRun, canonical_firmwareDone, canonical_release,
    canonical_settle]

end Sys2Proof.Machine

/-! ### The canonical form is kept: The cores, the timers, frames and registers -/

namespace Sys2Proof.Machine

open Sys2Proof

-- The automated proofs below are checked one after another: side by side they need too much memory.
set_option Elab.async false

variable {s : State}

/-! #### Machine/HildCore.lean -/

theorem canonical_coreTrap (h : canonical s) (c) (vec) (w) (code) (detail) (ret) : canonical (s.coreTrap c vec w code detail ret) := by
  grind [State.coreTrap, canonical_failPair, canonical_settle, canonical_modPair, canonical_dmem, Pair.entry_dmem]

theorem canonical_reservedTrap (h : canonical s) (c) (w) : canonical (s.reservedTrap c w) := by simp [State.reservedTrap, canonical_coreTrap, h]

theorem canonical_busTrap (h : canonical s) (c) (w) (code) (detail) : canonical (s.busTrap c w code detail) := by
  simp [State.busTrap, canonical_coreTrap, h]

theorem canonical_issue (h : canonical s) (c) (w) (takes) (reads) (body : State → State) (hb : ∀ s, canonical s → canonical (body s)) :
    canonical (s.issue c w takes reads body) := by
  grind [State.issue, canonical_modPair, canonical_dmem, Pair.issued_dmem, canonical_reservedTrap]

theorem canonical_issueLocal (h : canonical s) (c) (w) (takes) (reads) (f : Pair → Pair)
    (hf : ∀ p, p.dmem.wf = true → (f p).dmem.wf = true) : canonical (s.issueLocal c w takes reads f) :=
  canonical_issue h _ _ _ _ _ fun _ hs => canonical_modPair hs _ _ (hf _ (canonical_dmem hs c))

/-! #### Machine/HildAlu.lean -/

theorem canonical_alu2 (h : canonical s) (c) (i) (ra) (rb) (f) : canonical (s.alu2 c i ra rb f) := by simp [State.alu2, canonical_issueLocal, h]

theorem canonical_alu1 (h : canonical s) (c) (i) (ra) (rb) (f) : canonical (s.alu1 c i ra rb f) := by simp [State.alu1, canonical_issueLocal, h]

theorem canonical_alu0 (h : canonical s) (c) (i) (ra) (rb) (f) : canonical (s.alu0 c i ra rb f) := by
  simp +contextual [State.alu0, canonical_issueLocal, h]

theorem canonical_doPfx (h : canonical s) (c) (imm) : canonical (doPfx c imm s) := by
  refine canonical_issue h _ _ _ _ _ fun s hs => ?_
  split
  · exact canonical_reservedTrap hs _ _
  · exact canonical_modPair hs _ _ (by simpa using canonical_dmem hs c)

theorem canonical_doMovi (h : canonical s) (c) (ra) (imm) : canonical (doMovi c ra imm s) := by simp [doMovi, canonical_issueLocal, h]

theorem canonical_doAddi (h : canonical s) (c) (ra) (imm) : canonical (doAddi c ra imm s) := by simp [doAddi, canonical_issueLocal, h]

theorem canonical_doAdd (h : canonical s) (c) (ra) (rb) : canonical (doAdd c ra rb s) := by simp [doAdd, canonical_alu2, h]

theorem canonical_doSub (h : canonical s) (c) (ra) (rb) : canonical (doSub c ra rb s) := by simp [doSub, canonical_alu2, h]

theorem canonical_doAnd (h : canonical s) (c) (ra) (rb) : canonical (doAnd c ra rb s) := by simp [doAnd, canonical_alu2, h]

theorem canonical_doOr (h : canonical s) (c) (ra) (rb) : canonical (doOr c ra rb s) := by simp [doOr, canonical_alu2, h]

theorem canonical_doXor (h : canonical s) (c) (ra) (rb) : canonical (doXor c ra rb s) := by simp [doXor, canonical_alu2, h]

theorem canonical_doAndn (h : canonical s) (c) (ra) (rb) : canonical (doAndn c ra rb s) := by simp [doAndn, canonical_alu2, h]

theorem canonical_doShl (h : canonical s) (c) (ra) (rb) : canonical (doShl c ra rb s) := by simp [doShl, canonical_alu2, h]

theorem canonical_doShr (h : canonical s) (c) (ra) (rb) : canonical (doShr c ra rb s) := by simp [doShr, canonical_alu2, h]

theorem canonical_doSar (h : canonical s) (c) (ra) (rb) : canonical (doSar c ra rb s) := by simp [doSar, canonical_alu2, h]

theorem canonical_doRor (h : canonical s) (c) (ra) (rb) : canonical (doRor c ra rb s) := by simp [doRor, canonical_alu2, h]

theorem canonical_doShli (h : canonical s) (c) (ra) (n) : canonical (doShli c ra n s) := by simp [doShli, canonical_issueLocal, h]

theorem canonical_doShri (h : canonical s) (c) (ra) (n) : canonical (doShri c ra n s) := by simp [doShri, canonical_issueLocal, h]

theorem canonical_doCmp (h : canonical s) (c) (ra) (rb) : canonical (doCmp c ra rb s) := by simp [doCmp, canonical_alu0, h]

theorem canonical_doTst (h : canonical s) (c) (ra) (rb) : canonical (doTst c ra rb s) := by simp [doTst, canonical_alu0, h]

theorem canonical_doCmpi (h : canonical s) (c) (ra) (imm) : canonical (doCmpi c ra imm s) := by simp +contextual [doCmpi, canonical_issueLocal, h]

theorem canonical_doMov (h : canonical s) (c) (ra) (rb) : canonical (doMov c ra rb s) := by simp [doMov, canonical_alu1, h]

theorem canonical_doNeg (h : canonical s) (c) (ra) (rb) : canonical (doNeg c ra rb s) := by simp [doNeg, canonical_alu1, h]

theorem canonical_doParw (h : canonical s) (c) (ra) (rb) : canonical (doParw c ra rb s) := by simp [doParw, canonical_alu1, h]

theorem canonical_doBrev (h : canonical s) (c) (ra) (rb) : canonical (doBrev c ra rb s) := by simp [doBrev, canonical_alu1, h]

theorem canonical_doB (h : canonical s) (c) (cond) (off) : canonical (doB c cond off s) :=
  canonical_issueLocal h _ _ _ _ _ fun p hp => by split <;> simpa using hp

theorem canonical_doCall (h : canonical s) (c) (off) : canonical (doCall c off s) := by simp [doCall, canonical_issueLocal, h]

theorem canonical_doJalr (h : canonical s) (c) (ra) (rb) : canonical (doJalr c ra rb s) := by simp [doJalr, canonical_issueLocal, h]

theorem canonical_doMul (h : canonical s) (c) (ra) (rb) : canonical (doMul c ra rb s) := by simp +contextual [doMul, canonical_issueLocal, h]

theorem canonical_doMuls (h : canonical s) (c) (ra) (rb) : canonical (doMuls c ra rb s) := by simp +contextual [doMuls, canonical_issueLocal, h]

theorem canonical_doMulProductWrite (h : canonical s) (c) : canonical (doMulProductWrite c s) := by
  grind [doMulProductWrite, canonical_modPair, canonical_dmem, Pair.landed_dmem]

theorem canonical_crcOp (h : canonical s) (c) (i) (ra) (rb) (n) (k) : canonical (s.crcOp c i ra rb n k) := by
  grind [State.crcOp, canonical_issue, canonical_reservedTrap, canonical_modPair, canonical_foldl, canonical_dmem, Pair.next_dmem,
    Pair.jump_dmem, Pair.gw_dmem]

theorem canonical_doCrcb (h : canonical s) (c) (ra) (rb) : canonical (doCrcb c ra rb s) := by simp [doCrcb, canonical_crcOp, h]

theorem canonical_doCrcw (h : canonical s) (c) (ra) (rb) : canonical (doCrcw c ra rb s) := by simp [doCrcw, canonical_crcOp, h]

/-! #### Machine/Timers.lean -/

theorem canonical_fireChan (h : canonical s) (k) (ch) : canonical (s.fireChan k ch) := by grind [State.fireChan, canonical_fire]

theorem canonical_tmrErr (h : canonical s) (k) : canonical (s.tmrErr k) := by simp [State.tmrErr, canonical_modBank, h]

theorem canonical_grantMover (h : canonical s) (k) (n) : canonical (s.grantMover k n) := by
  grind [State.grantMover, canonical_onData, canonical_tmrErr]

theorem canonical_doMatch (h : canonical s) (k) (ch) (add) : canonical (s.doMatch k ch add) := by
  grind [State.doMatch, canonical_modChan, canonical_fireChan, canonical_grantMover]

theorem canonical_matchIfDue (h : canonical s) (k) (ch) (add) : canonical (s.matchIfDue k ch add) := by grind [State.matchIfDue, canonical_doMatch]

theorem canonical_catchIfDue (h : canonical s) (k) (ch) : canonical (s.catchIfDue k ch) := by grind [State.catchIfDue, canonical_modChan]

theorem canonical_captureIfDue (h : canonical s) (k) (ch) : canonical (s.captureIfDue k ch) := by
  grind [State.captureIfDue, canonical_modChan, canonical_fireChan]

theorem canonical_resetIfDue (h : canonical s) (k) (ch) : canonical (s.resetIfDue k ch) := by grind [State.resetIfDue, canonical_modChan]

theorem canonical_flushChan (h : canonical s) (k) (ch) : canonical (s.flushChan k ch) := by
  grind [State.flushChan, canonical_resetIfDue, canonical_matchIfDue, canonical_catchIfDue, canonical_captureIfDue]

theorem canonical_chanReserved (h : canonical s) (k) (ch) (off) (v) : canonical (s.chanReserved k ch off v) := by
  simp [State.chanReserved, canonical_ioReserved, h]

theorem canonical_loseStep (h : canonical s) (k) (ch) : canonical (s.loseStep k ch) := by
  simp [State.loseStep, canonical_resetIfDue, canonical_modChan, h]

theorem canonical_doTmrCntCommit (h : canonical s) (k) (ch) (value) : canonical (doTmrCntCommit k ch value s) := by
  grind [doTmrCntCommit, canonical_chanReserved, canonical_loseStep, canonical_flushChan, canonical_modChan]

theorem canonical_doTmrCmpCommit (h : canonical s) (k) (ch) (value) : canonical (doTmrCmpCommit k ch value s) := by
  grind [doTmrCmpCommit, canonical_chanReserved, canonical_resetIfDue, canonical_matchIfDue, canonical_catchIfDue, canonical_captureIfDue,
    canonical_modChan]

theorem canonical_doTmrIvlCommit (h : canonical s) (k) (ch) (value) : canonical (doTmrIvlCommit k ch value s) := by
  grind [doTmrIvlCommit, canonical_chanReserved, canonical_modChan]

theorem canonical_doTmrDivWrite (h : canonical s) (k) (ch) (value) : canonical (doTmrDivWrite k ch value s) := by
  grind [doTmrDivWrite, canonical_modChan]

theorem canonical_doTimerMatch (h : canonical s) (k) (ch) : canonical (doTimerMatch k ch s) := by simp [doTimerMatch, canonical_matchIfDue, h]

theorem canonical_doTimerCatchup (h : canonical s) (k) (ch) : canonical (doTimerCatchup k ch s) := by simp [doTimerCatchup, canonical_catchIfDue, h]

theorem canonical_doTimerCapture (h : canonical s) (k) (ch) : canonical (doTimerCapture k ch s) := by simp [doTimerCapture, canonical_captureIfDue, h]

theorem canonical_doTimerSlaveReset (h : canonical s) (k) (ch) : canonical (doTimerSlaveReset k ch s) := by
  simp [doTimerSlaveReset, canonical_resetIfDue, h]

theorem canonical_bankRead (h : canonical s) (k) (off) : canonical (s.bankRead k off).1 := by
  grind [State.bankRead, canonical_modBank, canonical_modChan]

theorem canonical_writeCtl (h : canonical s) (k) (ch) (v) : canonical (s.writeCtl k ch v) := by
  grind [State.writeCtl, canonical_modChan, canonical_tmrErr]

theorem canonical_writeCapctl (h : canonical s) (k) (ch) (v) : canonical (s.writeCapctl k ch v) := by
  grind [State.writeCapctl, canonical_modChan, canonical_tmrErr]

theorem canonical_writeStat (h : canonical s) (k) (ch) (v) : canonical (s.writeStat k ch v) := by
  simp [State.writeStat, canonical_flushChan, canonical_modChan, h]

theorem canonical_bankWrite (h : canonical s) (k) (off) (v) : canonical (s.bankWrite k off v) := by
  grind [State.bankWrite, canonical_ioReserved, canonical_writeCtl, canonical_doTmrDivWrite, canonical_modChan, canonical_doTmrCntCommit,
    canonical_doTmrCmpCommit, canonical_doTmrIvlCommit, canonical_writeCapctl, canonical_writeStat]

theorem canonical_bankEdge (h : canonical s) (k) : canonical (s.bankEdge k) := by
  grind [State.bankEdge, canonical_flushChan, canonical_modBank, canonical_foldl]

/-! #### Machine/HildIo.lean -/

theorem canonical_coreLoad (h : canonical s) (c) (i) (ra) (rb) (n) : canonical (s.coreLoad c i ra rb n) := by
  grind [State.coreLoad, canonical_issue, canonical_busTrap, canonical_modPair, canonical_dmem, Pair.next_dmem, Pair.jump_dmem,
    Pair.gw_dmem]

theorem canonical_coreStore (h : canonical s) (c) (i) (ra) (rb) (n) : canonical (s.coreStore c i ra rb n) := by
  refine canonical_issue h _ _ _ _ _ fun s hs => ?_
  dsimp only
  split
  · exact canonical_busTrap hs _ _ _ _
  · exact canonical_modPair hs _ _ (by simpa using Pair.wf_store _ _ _ (canonical_dmem hs c))

theorem canonical_doLdw (h : canonical s) (c) (ra) (rb) : canonical (doLdw c ra rb s) := by simp [doLdw, canonical_coreLoad, h]

theorem canonical_doLdb (h : canonical s) (c) (ra) (rb) : canonical (doLdb c ra rb s) := by simp [doLdb, canonical_coreLoad, h]

theorem canonical_doLdh (h : canonical s) (c) (ra) (rb) : canonical (doLdh c ra rb s) := by simp [doLdh, canonical_coreLoad, h]

theorem canonical_doStw (h : canonical s) (c) (ra) (rb) : canonical (doStw c ra rb s) := by simp [doStw, canonical_coreStore, h]

theorem canonical_doStb (h : canonical s) (c) (ra) (rb) : canonical (doStb c ra rb s) := by simp [doStb, canonical_coreStore, h]

theorem canonical_doSth (h : canonical s) (c) (ra) (rb) : canonical (doSth c ra rb s) := by simp [doSth, canonical_coreStore, h]

theorem canonical_doEvtClaim (h : canonical s) (c) (ra) : canonical (doEvtClaim c ra s) := by
  grind [doEvtClaim, canonical_issue, canonical_claim, canonical_modPair, canonical_dmem, Pair.next_dmem, Pair.jump_dmem, Pair.gw_dmem]

theorem canonical_doEvtDone (h : canonical s) (c) (ra) : canonical (doEvtDone c ra s) := by
  grind [doEvtDone, canonical_issue, canonical_doneSource, canonical_modPair, canonical_dmem, Pair.next_dmem, Pair.jump_dmem, Pair.gw_dmem]

theorem canonical_doMsend (h : canonical s) (c) (ra) : canonical (doMsend c ra s) := by
  grind [doMsend, canonical_issue, canonical_busTrap, canonical_commitFrom, canonical_commitTo, canonical_useFree, canonical_modPair,
    canonical_dmem, Pair.next_dmem, Pair.jump_dmem, Pair.gw_dmem]

theorem canonical_doMrecv (h : canonical s) (c) (ra) : canonical (doMrecv c ra s) := by
  refine canonical_issue h _ _ _ _ _ fun s hs => ?_
  dsimp only
  split
  · exact canonical_busTrap hs _ _ _ _
  split
  · exact canonical_busTrap hs _ _ _ _
  split
  · exact canonical_modPair (canonical_useFree hs) _ _ (by simpa using canonical_dmem (canonical_useFree hs) c)
  · have htaken : canonical (if c = tender then s.takeTo (boxOf ((s.pair c).gr ra)) else s.takeFrom (boxOf ((s.pair c).gr ra))) :=
      canonical_ite (fun _ => canonical_takeTo hs _) fun _ => canonical_takeFrom hs _
    exact canonical_modPair (canonical_useFree htaken) _ _ (by simpa using Pair.wf_store _ _ _ (canonical_dmem (canonical_useFree htaken) c))

theorem canonical_doMstat (h : canonical s) (c) (ra) : canonical (doMstat c ra s) := by
  grind [doMstat, canonical_issue, canonical_busTrap, canonical_useFree, canonical_modPair, canonical_dmem, Pair.next_dmem, Pair.jump_dmem,
    Pair.gw_dmem]

theorem canonical_ioReadUnit (h : canonical s) (u) (off) : canonical (s.ioReadUnit u off).1 := by
  grind [State.ioReadUnit, canonical_modEvu, canonical_pend, Evu.ioRead_pend, canonical_bankRead, canonical_kprRead, canonical_smcClear,
    canonical_slpClear, canonical_useFree]

theorem canonical_ioWriteUnit (h : canonical s) (c) (addr) (u) (off) (v) : canonical (s.ioWriteUnit c addr u off v) := by
  grind [State.ioWriteUnit, canonical_evuIoWrite, canonical_bankWrite, canonical_kprWrite, canonical_onData, canonical_ioReserved,
    canonical_emit]

theorem canonical_doIor (h : canonical s) (c) (ra) (rb) : canonical (doIor c ra rb s) := by
  grind [doIor, canonical_issue, canonical_busTrap, canonical_useFree, canonical_ioReadUnit, canonical_modPair, canonical_dmem,
    Pair.next_dmem, Pair.jump_dmem, Pair.gw_dmem]

theorem canonical_doIow (h : canonical s) (c) (ra) (rb) : canonical (doIow c ra rb s) := by
  grind [doIow, canonical_issue, canonical_busTrap, canonical_ioWriteUnit, canonical_modPair, canonical_dmem, Pair.next_dmem,
    Pair.jump_dmem, Pair.gw_dmem]

/-! #### Machine/HildSys.lean -/

theorem canonical_doSysNop (h : canonical s) (c) : canonical (doSysNop c s) := by simp +contextual [doSysNop, canonical_issueLocal, h]

theorem canonical_doRett (h : canonical s) (c) : canonical (doRett c s) := by simp [doRett, canonical_issueLocal, h]

theorem canonical_doTrap (h : canonical s) (c) (n) : canonical (doTrap c n s) := by simp +contextual [doTrap, canonical_issue, canonical_coreTrap, h]

theorem canonical_doEi (h : canonical s) (c) : canonical (doEi c s) := by simp +contextual [doEi, canonical_issueLocal, h]

theorem canonical_doDi (h : canonical s) (c) : canonical (doDi c s) := by simp +contextual [doDi, canonical_issueLocal, h]

theorem canonical_doWaite (h : canonical s) (c) : canonical (doWaite c s) := by simp [doWaite, canonical_issueLocal, h]

theorem canonical_doSync (h : canonical s) (c) : canonical (doSync c s) := by simp +contextual [doSync, canonical_issueLocal, h]

theorem canonical_doRds (h : canonical s) (c) (ra) (n) : canonical (doRds c ra n s) := by
  refine canonical_issue h _ _ _ _ _ fun s hs => ?_
  split
  · exact canonical_modPair hs _ _ (by simpa using canonical_dmem hs c)
  · exact canonical_reservedTrap hs _ _

theorem canonical_doWrs (h : canonical s) (c) (ra) (n) : canonical (doWrs c ra n s) := by
  refine canonical_issue h _ _ _ _ _ fun s hs => ?_
  split
  · exact canonical_modPair hs _ _ (by simpa using canonical_dmem hs c)
  · exact canonical_reservedTrap hs _ _

theorem canonical_doReservedEncoding (h : canonical s) (c) (w) : canonical (doReservedEncoding c w s) := by
  grind [doReservedEncoding, canonical_issue, canonical_reservedTrap]

theorem canonical_doEventEntry (h : canonical s) (c) : canonical (doEventEntry c s) := by
  grind [doEventEntry, canonical_useFree, canonical_modPair, canonical_dmem, Pair.entry_dmem, Pair.landed_dmem]

theorem canonical_doWatchdogExpiry (h : canonical s) (c) : canonical (doWatchdogExpiry c s) := by
  grind [doWatchdogExpiry, canonical_failPair, canonical_settle, canonical_useFree, canonical_modPair, canonical_dmem, Pair.entry_dmem, Pair.landed_dmem]

theorem canonical_doLockstepSignature (h : canonical s) (c) (stages) (checker) : canonical (doLockstepSignature c stages checker s) := by
  grind [doLockstepSignature, canonical_modPair, canonical_failPair, canonical_settle, canonical_dmem]

/-! #### Machine/LinkCmds.lean -/

theorem canonical_doBlockLock (h : canonical s) (d) : canonical (doBlockLock d s) := by
  grind [doBlockLock, canonical_modPort, canonical_firePort, canonical_queueHello, canonical_work, canonical_logLink]

theorem canonical_doBlockLockLoss (h : canonical s) (d) : canonical (doBlockLockLoss d s) := by
  grind [doBlockLockLoss, canonical_retrainCause, canonical_settle]

theorem canonical_doHelloInterval (h : canonical s) (d) : canonical (doHelloInterval d s) := by grind [doHelloInterval, canonical_queueHello]

theorem canonical_doHelloRefusedRetry (h : canonical s) (d) : canonical (doHelloRefusedRetry d s) := by
  grind [doHelloRefusedRetry, canonical_liftFence, canonical_modPort, canonical_queueHello, canonical_settle]

theorem canonical_doEchoIdleTimer (h : canonical s) (d) : canonical (doEchoIdleTimer d s) := by grind [doEchoIdleTimer, canonical_modPort]

theorem canonical_doReceiveSilence (h : canonical s) (d) : canonical (doReceiveSilence d s) := by
  grind [doReceiveSilence, canonical_retrainCause, canonical_settle]

theorem canonical_doCreditReturnTimer (h : canonical s) (d) : canonical (doCreditReturnTimer d s) := by grind [doCreditReturnTimer, canonical_modPort]

theorem canonical_doAbsentPathRetry (h : canonical s) (d) (a) : canonical (doAbsentPathRetry d a s) := by
  grind [doAbsentPathRetry, canonical_startIdent, canonical_settle]

theorem canonical_queueResend (h : canonical s) (d) (g) (e) : canonical (s.queueResend d g e) := by simp [State.queueResend, canonical_modPort, h]

theorem canonical_resendLimit (h : canonical s) (d) (g) (e) : canonical (s.resendLimit d g e) := by
  grind [State.resendLimit, canonical_abortExch, canonical_identResult, canonical_logIntegrity, canonical_endProgram]

theorem canonical_askAgain (h : canonical s) (d) (g) (e) : canonical (s.askAgain d g e) := by
  grind [State.askAgain, canonical_resendLimit, canonical_modExch, canonical_queueResend]

theorem canonical_touchExch (h : canonical s) (d) (g) (accepts) : canonical (s.touchExch d g accepts) := by
  simp [State.touchExch, canonical_modExch, h]

theorem canonical_badFrame (h : canonical s) (d) (isData) (isCtrl) : canonical (s.badFrame d isData isCtrl) := by
  grind [State.badFrame, canonical_modPort, canonical_useCredit]

theorem canonical_countFrame (h : canonical s) (d) : canonical (s.countFrame d) := by grind [State.countFrame, canonical_modPort]

theorem canonical_dueRetrain (h : canonical s) (d) : canonical (s.dueRetrain d) := by grind [State.dueRetrain, canonical_retrain, canonical_settle]

theorem canonical_takeFrame (h : canonical s) (d) (f) (act : State → State) (hact : ∀ s, canonical s → canonical (act s)) :
    canonical (s.takeFrame d f act) := by
  grind [State.takeFrame, canonical_countFrame, canonical_badFrame, canonical_settle, canonical_modPort, canonical_work, canonical_retrainBy,
    canonical_useCredit]

theorem canonical_receive (h : canonical s) (d) (f) (act : State → State) (hact : ∀ s, canonical s → canonical (act s)) :
    canonical (s.receive d f act) :=
  canonical_dueRetrain (canonical_takeFrame h d f act hact) d

theorem canonical_noteUnnamed (h : canonical s) (d) (a) : canonical (s.noteUnnamed d a) := by
  grind [State.noteUnnamed, canonical_modPort, canonical_logLink]

theorem canonical_onExch (h : canonical s) (d) (f) (forbidden) (act : State → Exch → State) (hact : ∀ s e, canonical s → canonical (act s e)) :
    canonical (s.onExch d f forbidden act) := by
  grind [State.onExch, canonical_modPort, canonical_noteUnnamed, canonical_quarFree]

theorem canonical_doHello (h : canonical s) (d) (f) : canonical (doHello d f s) := by
  grind [doHello, canonical_badFrame, canonical_settle, canonical_retrain, canonical_helloRefusal, canonical_helloAccepted, canonical_work]

theorem canonical_doEcho (h : canonical s) (d) (f) : canonical (doEcho d f s) := by grind [doEcho, canonical_receive]

theorem canonical_dropCovered (h : canonical s) (d) : canonical (s.dropCovered d) := by
  grind [State.dropCovered, canonical_modPort, canonical_dropRuns]

theorem canonical_applyCredit (h : canonical s) (d) (f) : canonical (s.applyCredit d f) := by
  grind [State.applyCredit, canonical_modPort, canonical_book, canonical_dropCovered]

theorem canonical_doCredit (h : canonical s) (d) (f) : canonical (doCredit d f s) := by grind [doCredit, canonical_receive, canonical_applyCredit]

theorem canonical_takeData (h : canonical s) (d) (g) (e) (b) : canonical (s.takeData d g e b) := by
  grind [State.takeData, canonical_modExch, canonical_book, canonical_modPath, canonical_refuse, canonical_modPort, canonical_stageInput,
    canonical_chainOn]

theorem canonical_doData (h : canonical s) (d) (f) : canonical (doData d f s) := by
  grind [doData, canonical_receive, canonical_onExch, canonical_touchExch, canonical_refuse, canonical_modPort, canonical_askAgain,
    canonical_takeData]

theorem canonical_doDataReq (h : canonical s) (d) (f) : canonical (doDataReq d f s) := by
  grind [doDataReq, canonical_receive, canonical_onExch, canonical_touchExch, canonical_modChain, canonical_pushOutput, canonical_chainOn]

theorem canonical_busyAnswer (h : canonical s) (sc) : canonical (s.busyAnswer sc) := by
  grind [State.busyAnswer, canonical_fireProg, canonical_lampServe, canonical_modProg, canonical_endProgram]

theorem canonical_breakChain (h : canonical s) (d) (g) (sc) : canonical (s.breakChain d g sc) := by
  grind [State.breakChain, canonical_logBalance, canonical_onFaults, canonical_modChain, canonical_endProgram]

theorem canonical_statusEnd (h : canonical s) (d) (g) (e) (f) : canonical (s.statusEnd d g e f) := by
  grind [State.statusEnd, canonical_closeExch, canonical_refuse, canonical_identResult, canonical_busyAnswer, canonical_breakChain,
    canonical_dropReads, canonical_modChain, canonical_chainOn]

theorem canonical_doStatus (h : canonical s) (d) (f) : canonical (doStatus d f s) := by
  grind [doStatus, canonical_receive, canonical_modPort, canonical_kickIdents, canonical_onExch, canonical_touchExch, canonical_statusEnd,
    canonical_askAgain]

theorem canonical_doAbortAck (h : canonical s) (d) (f) : canonical (doAbortAck d f s) := by
  grind [doAbortAck, canonical_receive, canonical_onExch, canonical_kickIdents]

theorem canonical_doResend (h : canonical s) (d) (f) : canonical (doResend d f s) := by
  grind [doResend, canonical_receive, canonical_onExch, canonical_touchExch, canonical_modPort, canonical_resendLimit]

theorem canonical_doWorking (h : canonical s) (d) (f) : canonical (doWorking d f s) := by
  grind [doWorking, canonical_receive, canonical_onExch, canonical_touchExch]

theorem canonical_doFree (h : canonical s) (d) (f) : canonical (doFree d f s) := by
  grind [doFree, canonical_receive, canonical_noteUnnamed, canonical_modProg, canonical_sendChain, canonical_firePort, canonical_foldl]

theorem canonical_doFrameDiscarded (h : canonical s) (d) (f) : canonical (doFrameDiscarded d f s) := by
  grind [doFrameDiscarded, canonical_badFrame, canonical_settle, canonical_dueRetrain]

theorem canonical_exchTimeout (h : canonical s) (d) (g) (e) : canonical (s.exchTimeout d g e) := by
  grind [State.exchTimeout, canonical_abortExch, canonical_firePort, canonical_exchFailed, canonical_identResult, canonical_modPath,
    canonical_kickIdents]

theorem canonical_doCommandTimeout (h : canonical s) (d) (g) : canonical (doCommandTimeout d g s) := by
  grind [doCommandTimeout, canonical_exchTimeout, canonical_settle]

theorem canonical_doInactivityTimeout (h : canonical s) (d) (g) : canonical (doInactivityTimeout d g s) := by
  grind [doInactivityTimeout, canonical_exchTimeout, canonical_settle]

theorem canonical_doMissingDataTimeout (h : canonical s) (d) (g) : canonical (doMissingDataTimeout d g s) := by
  grind [doMissingDataTimeout, canonical_modExch, canonical_queueResend]

theorem canonical_doAbortTimeout (h : canonical s) (d) (g) : canonical (doAbortTimeout d g s) := by
  grind [doAbortTimeout, canonical_firePort, canonical_modPort, canonical_settle]

theorem canonical_sendFrame (h : canonical s) (d) (f) : canonical (s.sendFrame d f) := by grind [State.sendFrame, canonical_modPort, canonical_emit]

theorem canonical_spendCtrl (h : canonical s) (d) : canonical (s.spendCtrl d) := by grind [State.spendCtrl, canonical_modPort]

theorem canonical_sendCommand (h : canonical s) (d) (i) : canonical (s.sendCommand d i) := by
  grind [State.sendCommand, canonical_spendCtrl, canonical_modPort, canonical_sendFrame, canonical_modExch, canonical_modProg]

theorem canonical_badOutput (h : canonical s) (d) (g) (reason) (site) : canonical (s.badOutput d g reason site) := by
  grind [State.badOutput, canonical_endIntegrity]

theorem canonical_sendData (h : canonical s) (d) (i) (e) : canonical (s.sendData d i e) := by
  grind [State.sendData, canonical_eccEvent, canonical_badOutput, canonical_modPort, canonical_sendFrame, canonical_modProg,
    canonical_book, canonical_pushOutput, canonical_chainOn]

theorem canonical_sendControl (h : canonical s) (d) (i) : canonical (s.sendControl d i) := by
  grind [State.sendControl, canonical_spendCtrl, canonical_modPort, canonical_sendFrame]

theorem canonical_creditsWaiting (h : canonical s) (d) : canonical (s.creditsWaiting d) := by
  grind [State.creditsWaiting, canonical_applyCredit, canonical_foldl]

theorem canonical_doTransmitFrameBoundary (h : canonical s) (d) (e) : canonical (doTransmitFrameBoundary d e s) := by
  grind [doTransmitFrameBoundary, canonical_creditsWaiting, canonical_modPort, canonical_sendFrame, canonical_spendCtrl,
    canonical_grantCredits, canonical_sendControl, canonical_settle, canonical_sendData, canonical_sendCommand]

/-! #### Machine/Registers.lean -/

theorem canonical_msixWrite (h : canonical s) (fn) (off) (v) (w) (x) : canonical (s.msixWrite fn off v w x) := by
  grind [State.msixWrite, canonical_modFn, canonical_noteReserved, canonical_flushVector, canonical_accessError]

theorem canonical_pfWrite (h : canonical s) (p) (off) (v) : canonical (s.pfWrite p off v) := by
  grind [State.pfWrite, canonical_noteReserved, canonical_accessError, canonical_oqCtl, canonical_doOqDb, canonical_doMbxSend,
    canonical_doMbxTake, canonical_msixWrite]

theorem canonical_vfWrite (h : canonical s) (t) (off) (v) : canonical (s.vfWrite t off v) := by
  grind [State.vfWrite, canonical_noteReserved, canonical_doSqDoorbell, canonical_doCqDoorbell, canonical_msixWrite, canonical_accessError]

theorem canonical_regWrite (h : canonical s) (fn) (off) (v) : canonical (s.regWrite fn off v) := by
  unfold State.regWrite
  split <;> grind [canonical_pfWrite, canonical_vfWrite]

theorem canonical_wideWrite (h : canonical s) (fn) (off) (v) : canonical (s.wideWrite fn off v) := by
  unfold State.wideWrite
  split <;> grind [canonical_accessError, canonical_modOq]

theorem canonical_dwWrite (h : canonical s) (fn) (off) (l) : canonical (s.dwWrite fn off l) := by
  grind [State.dwWrite, canonical_accessError, canonical_modHost, canonical_regWrite, canonical_foldl]

theorem canonical_dwWrites (h : canonical s) (fn) (l) (off) : canonical (State.dwWrites fn l off s) := by
  induction l generalizing s off with
  | nil => exact h
  | cons a l ih => grind [State.dwWrites, canonical_dwWrite]

theorem canonical_oneWrite (h : canonical s) (fn) (off) (l) : canonical (s.oneWrite fn off l) := by
  grind [State.oneWrite, canonical_accessError, canonical_wideWrite, canonical_dwWrites]

theorem canonical_memWrite (h : canonical s) (fn) (off) (l) : canonical (s.memWrite fn off l) := by
  unfold State.memWrite
  split <;> grind [canonical_doBuoyPush, canonical_modSq, canonical_accessError, canonical_oneWrite]

theorem canonical_doRegisterWrite (h : canonical s) (w) : canonical (doRegisterWrite w s) := by
  unfold doRegisterWrite
  split <;> grind [canonical_memWrite, canonical_settle, canonical_cfgWrite]

theorem canonical_windowRead (h : canonical s) (fn) (off) (lanes) : canonical (s.windowRead fn off lanes) := by
  grind [State.windowRead, canonical_complete, canonical_sayAbort, canonical_modFn]

theorem canonical_doMisalignedRead (h : canonical s) (fn) (off) (lanes) : canonical (doMisalignedRead fn off lanes s) := by
  grind [doMisalignedRead, canonical_windowRead]

theorem canonical_doHifAccerrRead (h : canonical s) (p) (r) : canonical (doHifAccerrRead p r s) := by grind [doHifAccerrRead, canonical_windowRead]

theorem canonical_doVfAccerrRead (h : canonical s) (t) (r) : canonical (doVfAccerrRead t r s) := by grind [doVfAccerrRead, canonical_windowRead]

theorem canonical_doDmwrMbxSend (h : canonical s) (fn) (off) (payload) : canonical (doDmwrMbxSend fn off payload s) := by
  unfold doDmwrMbxSend
  split <;> grind [canonical_sayUnsupported, canonical_complete, canonical_commitTo, canonical_accessError, canonical_settle,
    canonical_sayAbort]

/-! #### Machine/Timeouts.lean -/

theorem canonical_readTimeout (h : canonical s) (p) (key) : canonical (s.readTimeout p key) := by
  unfold State.readTimeout
  split <;> grind [canonical_doEntryFetchComplete, canonical_doStepGroupReadComplete, canonical_segments,
    canonical_doSegmentListReadComplete, canonical_columnMap, canonical_doColumnMapReadComplete, canonical_doOutputReadComplete,
    canonical_doReadbackComplete, canonical_landSlots, canonical_listRead, canonical_doFlashOperationComplete, canonical_endRead]

theorem canonical_doCompletionTimeout (h : canonical s) (p) (key) : canonical (doCompletionTimeout p key s) := by
  grind [doCompletionTimeout, canonical_aerNote, canonical_readTimeout]

/-! #### Machine/Tick.lean -/

theorem canonical_idlePairs (h : canonical s) : canonical s.idlePairs := by
  refine ⟨fun c => ?_, h.2⟩
  refine dmem_of_map _ _ (fun x => ?_) c (h.1 c)
  split <;> exact ⟨rfl, rfl⟩

theorem canonical_beat (h : canonical s) : canonical s.beat := by grind [State.beat, canonical_onSide, canonical_pfVector, canonical_findEarly]

theorem canonical_countFec (h : canonical s) : canonical s.countFec := by grind [State.countFec, canonical_onPorts]

theorem canonical_tick (h : canonical s) : canonical (tick s) := by
  grind [tick, canonical_onClk, canonical_onKeeper, canonical_bankEdge, canonical_sampleLines, canonical_idlePairs, canonical_countFec,
    canonical_beat, canonical_foldl]

end Sys2Proof.Machine

/-! ### The canonical form is kept by every command, and by time -/

namespace Sys2Proof.Machine

open Sys2Proof

-- The automated proofs below are checked one after another: side by side they need too much memory.
set_option Elab.async false

variable {s : State}

/-- A step that answers a next state in canonical form. -/
theorem canonical_next {t u : State} (h : canonical u) (ht : (.next u : Host.Outcome State Fault Refusal) = .next t) : canonical t := by
  cases ht
  exact h

/-- The queue is no part of the form. -/
theorem canonical_withPending (h : canonical s) (l : List Instr) : canonical { s with pending := l } := h

/-- Every command keeps the canonical form: each by the lemma about its operation. -/
theorem canonical_exec {t : State} (h : canonical s) (c : Instr) (ht : exec c s = .next t) : canonical t := by
  cases c with
  | vfFlr _ => exact canonical_next (canonical_doVfFlr h _) ht
  | flrDrainExpiry _ => exact canonical_next (canonical_doFlrDrainExpiry h _) ht
  | pfFlr _ => exact canonical_next (canonical_doPfFlr h _) ht
  | perstAssert _ => exact canonical_next (canonical_doPerstAssert h _) ht
  | perstRelease _ => exact canonical_next (canonical_doPerstRelease h _) ht
  | registerWrite _ => exact canonical_next (canonical_doRegisterWrite h _) ht
  | misalignedRead _ _ _ => exact canonical_next (canonical_doMisalignedRead h _ _ _) ht
  | hifAccerrRead _ _ => exact canonical_next (canonical_doHifAccerrRead h _ _) ht
  | vfAccerrRead _ _ => exact canonical_next (canonical_doVfAccerrRead h _ _) ht
  | dmwrMbxSend _ _ _ => exact canonical_next (canonical_doDmwrMbxSend h _ _ _) ht
  | mbxSend _ _ _ => exact canonical_next (canonical_doMbxSend h _ _ _) ht
  | mbxTake _ _ _ => exact canonical_next (canonical_doMbxTake h _ _ _) ht
  | msixUnmask _ _ => exact canonical_next (canonical_doMsixUnmask h _ _) ht
  | msixEnableSet _ => exact canonical_next (canonical_doMsixEnableSet h _) ht
  | enterD3hot _ => exact canonical_next (canonical_doEnterD3hot h _) ht
  | returnToD0 _ => exact canonical_next (canonical_doReturnToD0 h _) ht
  | l1Entry _ => exact canonical_next (canonical_doL1Entry h _) ht
  | busMasterEnableSet _ => exact canonical_next (canonical_doBusMasterEnableSet h _) ht
  | vfEnableClear _ => exact canonical_next (canonical_doVfEnableClear h _) ht
  | completionTimeout _ _ => exact canonical_next (canonical_doCompletionTimeout h _ _) ht
  | sqDoorbell _ _ _ => exact canonical_next (canonical_doSqDoorbell h _ _ _) ht
  | cqDoorbell _ _ _ => exact canonical_next (canonical_doCqDoorbell h _ _ _) ht
  | buoyPush _ _ _ _ => exact canonical_next (canonical_doBuoyPush h _ _ _ _) ht
  | queueArbitration => exact canonical_next (canonical_settle (canonical_doQueueArbitration h)) ht
  | entryFetchComplete _ _ _ _ => exact canonical_next (canonical_doEntryFetchComplete h _ _ _ _) ht
  | markReread _ _ => exact canonical_next (canonical_settle (canonical_doMarkReread h _ _)) ht
  | markWaitTimeout _ _ => exact canonical_next (canonical_settle (canonical_doMarkWaitTimeout h _ _)) ht
  | startBegin _ _ => exact canonical_next (canonical_doStartBegin h _ _) ht
  | pathWaitEnd _ => exact canonical_next (canonical_doPathWaitEnd h _) ht
  | pathWaitTimeout _ => exact canonical_next (canonical_doPathWaitTimeout h _) ht
  | startSlotGranted _ => exact canonical_next (canonical_doStartSlotGranted h _) ht
  | readStep _ _ =>
    refine canonical_next (canonical_settle (canonical_carryOut h _ _ _ _ fun s p w hs => ?_)) ht
    exact canonical_headStep hs _ _ _
  | writeStep _ _ =>
    refine canonical_next (canonical_settle (canonical_carryOut h _ _ _ _ fun s p w hs => ?_)) ht
    exact canonical_headStep hs _ _ _
  | senseStep _ _ =>
    refine canonical_next (canonical_settle (canonical_carryOut h _ _ _ _ fun s p w hs => ?_)) ht
    exact canonical_headStep hs _ _ _
  | controlStep _ _ =>
    refine canonical_next (canonical_settle (canonical_carryOut h _ _ _ _ fun s p w hs => ?_)) ht
    exact canonical_headStep hs _ _ _
  | continuationStep _ _ => exact canonical_next (canonical_settle (canonical_doContinuationStep h _ _)) ht
  | test _ _ =>
    refine canonical_next (canonical_settle (canonical_carryOut h _ _ _ _ fun s p w hs => ?_)) ht
    exact canonical_controlStep hs _ _ _ fun _ hs => canonical_testStep hs _ _ _
  | go _ _ =>
    refine canonical_next (canonical_settle (canonical_carryOut h _ _ _ _ fun s p w hs => ?_)) ht
    exact canonical_controlStep hs _ _ _ fun _ hs => canonical_goOn (canonical_branch hs _) _ _ _ _
  | waitToken _ _ =>
    refine canonical_next (canonical_settle (canonical_carryOut h _ _ _ _ fun s p w hs => ?_)) ht
    exact canonical_controlStep hs _ _ _ fun _ hs => canonical_waitStep hs _ _ _
  | postToken _ _ =>
    refine canonical_next (canonical_settle (canonical_carryOut h _ _ _ _ fun s p w hs => ?_)) ht
    exact canonical_controlStep hs _ _ _ fun _ hs => canonical_postStep hs _ _ _
  | markTime _ _ =>
    refine canonical_next (canonical_settle (canonical_carryOut h _ _ _ _ fun s p w hs => ?_)) ht
    split
    · exact canonical_controlStep hs _ _ _ fun _ hs => canonical_markStep hs _ _ _
    · exact canonical_addressCheck hs _ _ _
  | nop _ _ =>
    refine canonical_next (canonical_settle (canonical_carryOut h _ _ _ _ fun s p w hs => ?_)) ht
    exact canonical_controlStep hs _ _ _ fun _ hs => canonical_controlEnd hs _ _
  | holdStepReached _ => exact canonical_next (canonical_doHoldStepReached h _) ht
  | holdReportSlotFreed _ => exact canonical_next (canonical_doHoldReportSlotFreed h _) ht
  | waiterResume _ => exact canonical_next (canonical_doWaiterResume h _) ht
  | stepGroupReadComplete _ _ _ => exact canonical_next (canonical_doStepGroupReadComplete h _ _ _) ht
  | segmentListReadComplete _ _ => exact canonical_next (canonical_doSegmentListReadComplete h _ _) ht
  | columnMapReadComplete _ _ => exact canonical_next (canonical_doColumnMapReadComplete h _ _) ht
  | outputReadComplete _ _ => exact canonical_next (canonical_doOutputReadComplete h _ _) ht
  | busyRetryTimer _ => exact canonical_next (canonical_doBusyRetryTimer h _) ht
  | quietTimeout _ => exact canonical_next (canonical_doQuietTimeout h _) ht
  | readbackComplete _ _ _ => exact canonical_next (canonical_doReadbackComplete h _ _ _) ht
  | completionWriteSlotFreed _ _ => exact canonical_next (canonical_doCompletionWriteSlotFreed h _ _) ht
  | journalAreaRoom _ => exact canonical_next (canonical_doJournalAreaRoom h _) ht
  | moderationExpiry _ _ => exact canonical_next (canonical_doModerationExpiry h _ _) ht
  | moverDescriptorBegin _ _ => exact canonical_next (canonical_doMoverDescriptorBegin h _ _) ht
  | moverDescriptorComplete _ => exact canonical_next (canonical_doMoverDescriptorComplete h _) ht
  | columnizerEngineGranted _ => exact canonical_next (canonical_doColumnizerEngineGranted h _) ht
  | scrubGranule _ _ => exact canonical_next (canonical_doScrubGranule h _ _) ht
  | sramPatrol _ _ => exact canonical_next (canonical_doSramPatrol h _ _) ht
  | smallBudgetWindow _ => exact canonical_next (canonical_doSmallBudgetWindow h _) ht
  | imbalanceWindow _ => exact canonical_next (canonical_doImbalanceWindow h _) ht
  | cageWaveStart _ => exact canonical_next (canonical_doCageWaveStart h _) ht
  | moduleReady _ => exact canonical_next (canonical_doModuleReady h _) ht
  | cageReadyTimeout _ => exact canonical_next (canonical_doCageReadyTimeout h _) ht
  | cageRecheck _ => exact canonical_next (canonical_doCageRecheck h _) ht
  | moduleInserted _ => exact canonical_next (canonical_doModuleInserted h _) ht
  | moduleRemoved _ => exact canonical_next (canonical_doModuleRemoved h _) ht
  | cageIntl _ _ => exact canonical_next (canonical_doCageIntl h _ _) ht
  | cmisMonitorPoll _ _ _ => exact canonical_next (canonical_doCmisMonitorPoll h _ _ _) ht
  | cageSwitchTrip _ => exact canonical_next (canonical_doCageSwitchTrip h _) ht
  | blockLock _ => exact canonical_next (canonical_doBlockLock h _) ht
  | blockLockLoss _ => exact canonical_next (canonical_doBlockLockLoss h _) ht
  | helloInterval _ => exact canonical_next (canonical_doHelloInterval h _) ht
  | helloRefusedRetry _ => exact canonical_next (canonical_doHelloRefusedRetry h _) ht
  | echoIdleTimer _ => exact canonical_next (canonical_doEchoIdleTimer h _) ht
  | receiveSilence _ => exact canonical_next (canonical_doReceiveSilence h _) ht
  | creditReturnTimer _ => exact canonical_next (canonical_doCreditReturnTimer h _) ht
  | transmitFrameBoundary _ _ => exact canonical_next (canonical_doTransmitFrameBoundary h _ _) ht
  | hello _ _ => exact canonical_next (canonical_doHello h _ _) ht
  | echo _ _ => exact canonical_next (canonical_doEcho h _ _) ht
  | credit _ _ => exact canonical_next (canonical_doCredit h _ _) ht
  | data _ _ => exact canonical_next (canonical_doData h _ _) ht
  | dataReq _ _ => exact canonical_next (canonical_doDataReq h _ _) ht
  | status _ _ => exact canonical_next (canonical_doStatus h _ _) ht
  | abortAck _ _ => exact canonical_next (canonical_doAbortAck h _ _) ht
  | resend _ _ => exact canonical_next (canonical_doResend h _ _) ht
  | working _ _ => exact canonical_next (canonical_doWorking h _ _) ht
  | free _ _ => exact canonical_next (canonical_doFree h _ _) ht
  | absentPathRetry _ _ => exact canonical_next (canonical_doAbsentPathRetry h _ _) ht
  | commandTimeout _ _ => exact canonical_next (canonical_doCommandTimeout h _ _) ht
  | inactivityTimeout _ _ => exact canonical_next (canonical_doInactivityTimeout h _ _) ht
  | missingDataTimeout _ _ => exact canonical_next (canonical_doMissingDataTimeout h _ _) ht
  | abortTimeout _ _ => exact canonical_next (canonical_doAbortTimeout h _ _) ht
  | domainDrainExpiry _ => exact canonical_next (canonical_doDomainDrainExpiry h _) ht
  | domainSwitchComplete _ => exact canonical_next (canonical_doDomainSwitchComplete h _) ht
  | sysNop _ => exact canonical_next (canonical_doSysNop h _) ht
  | rett _ => exact canonical_next (canonical_doRett h _) ht
  | trap _ _ => exact canonical_next (canonical_doTrap h _ _) ht
  | ei _ => exact canonical_next (canonical_doEi h _) ht
  | di _ => exact canonical_next (canonical_doDi h _) ht
  | waite _ => exact canonical_next (canonical_doWaite h _) ht
  | sync _ => exact canonical_next (canonical_doSync h _) ht
  | pfx _ _ => exact canonical_next (canonical_doPfx h _ _) ht
  | movi _ _ _ => exact canonical_next (canonical_doMovi h _ _ _) ht
  | addi _ _ _ => exact canonical_next (canonical_doAddi h _ _ _) ht
  | add _ _ _ => exact canonical_next (canonical_doAdd h _ _ _) ht
  | sub _ _ _ => exact canonical_next (canonical_doSub h _ _ _) ht
  | and _ _ _ => exact canonical_next (canonical_doAnd h _ _ _) ht
  | or _ _ _ => exact canonical_next (canonical_doOr h _ _ _) ht
  | xor _ _ _ => exact canonical_next (canonical_doXor h _ _ _) ht
  | andn _ _ _ => exact canonical_next (canonical_doAndn h _ _ _) ht
  | shl _ _ _ => exact canonical_next (canonical_doShl h _ _ _) ht
  | shr _ _ _ => exact canonical_next (canonical_doShr h _ _ _) ht
  | sar _ _ _ => exact canonical_next (canonical_doSar h _ _ _) ht
  | ror _ _ _ => exact canonical_next (canonical_doRor h _ _ _) ht
  | shli _ _ _ => exact canonical_next (canonical_doShli h _ _ _) ht
  | shri _ _ _ => exact canonical_next (canonical_doShri h _ _ _) ht
  | cmp _ _ _ => exact canonical_next (canonical_doCmp h _ _ _) ht
  | tst _ _ _ => exact canonical_next (canonical_doTst h _ _ _) ht
  | cmpi _ _ _ => exact canonical_next (canonical_doCmpi h _ _ _) ht
  | mov _ _ _ => exact canonical_next (canonical_doMov h _ _ _) ht
  | neg _ _ _ => exact canonical_next (canonical_doNeg h _ _ _) ht
  | parw _ _ _ => exact canonical_next (canonical_doParw h _ _ _) ht
  | brev _ _ _ => exact canonical_next (canonical_doBrev h _ _ _) ht
  | mul _ _ _ => exact canonical_next (canonical_doMul h _ _ _) ht
  | muls _ _ _ => exact canonical_next (canonical_doMuls h _ _ _) ht
  | mulProductWrite _ => exact canonical_next (canonical_doMulProductWrite h _) ht
  | ldw _ _ _ => exact canonical_next (canonical_doLdw h _ _ _) ht
  | ldb _ _ _ => exact canonical_next (canonical_doLdb h _ _ _) ht
  | ldh _ _ _ => exact canonical_next (canonical_doLdh h _ _ _) ht
  | stw _ _ _ => exact canonical_next (canonical_doStw h _ _ _) ht
  | stb _ _ _ => exact canonical_next (canonical_doStb h _ _ _) ht
  | sth _ _ _ => exact canonical_next (canonical_doSth h _ _ _) ht
  | rds _ _ _ => exact canonical_next (canonical_doRds h _ _ _) ht
  | wrs _ _ _ => exact canonical_next (canonical_doWrs h _ _ _) ht
  | b _ _ _ => exact canonical_next (canonical_doB h _ _ _) ht
  | call _ _ => exact canonical_next (canonical_doCall h _ _) ht
  | jalr _ _ _ => exact canonical_next (canonical_doJalr h _ _ _) ht
  | crcb _ _ _ => exact canonical_next (canonical_doCrcb h _ _ _) ht
  | crcw _ _ _ => exact canonical_next (canonical_doCrcw h _ _ _) ht
  | evtClaim _ _ => exact canonical_next (canonical_doEvtClaim h _ _) ht
  | evtDone _ _ => exact canonical_next (canonical_doEvtDone h _ _) ht
  | msend _ _ => exact canonical_next (canonical_doMsend h _ _) ht
  | mrecv _ _ => exact canonical_next (canonical_doMrecv h _ _) ht
  | mstat _ _ => exact canonical_next (canonical_doMstat h _ _) ht
  | ior _ _ _ => exact canonical_next (canonical_doIor h _ _ _) ht
  | iow _ _ _ => exact canonical_next (canonical_doIow h _ _ _) ht
  | eventEntry _ => exact canonical_next (canonical_doEventEntry h _) ht
  | watchdogExpiry _ => exact canonical_next (canonical_doWatchdogExpiry h _) ht
  | lockstepSignature _ _ _ => exact canonical_next (canonical_doLockstepSignature h _ _ _) ht
  | pairFailure _ _ => exact canonical_next (canonical_doPairFailure h _ _) ht
  | pairSelftestComplete _ _ => exact canonical_next (canonical_doPairSelftestComplete h _ _) ht
  | tenderRestart _ => exact canonical_next (canonical_doTenderRestart h _) ht
  | tenderRestartComplete => exact canonical_next (canonical_doTenderRestartComplete h) ht
  | sourceFire _ _ => exact canonical_next (canonical_fire h _ _) ht
  | externalLineEdge _ _ => exact canonical_next (canonical_doExternalLineEdge h _ _) ht
  | setPending _ _ => exact canonical_next (canonical_doSetPending h _ _) ht
  | clearPending _ _ => exact canonical_next (canonical_doClearPending h _ _) ht
  | mask _ _ => exact canonical_next (canonical_doMask h _ _) ht
  | unmask _ _ => exact canonical_next (canonical_doUnmask h _ _) ht
  | maskAndClearPending _ _ => exact canonical_next (canonical_doMaskAndClearPending h _ _) ht
  | evuTgtWrite _ _ _ => exact canonical_next (canonical_doEvuTgtWrite h _ _ _) ht
  | tmrCntCommit _ _ _ => exact canonical_next (canonical_doTmrCntCommit h _ _ _) ht
  | tmrCmpCommit _ _ _ => exact canonical_next (canonical_doTmrCmpCommit h _ _ _) ht
  | tmrIvlCommit _ _ _ => exact canonical_next (canonical_doTmrIvlCommit h _ _ _) ht
  | tmrDivWrite _ _ _ => exact canonical_next (canonical_doTmrDivWrite h _ _ _) ht
  | timerMatch _ _ => exact canonical_next (canonical_doTimerMatch h _ _) ht
  | timerCatchup _ _ => exact canonical_next (canonical_doTimerCatchup h _ _) ht
  | timerCapture _ _ => exact canonical_next (canonical_doTimerCapture h _ _) ht
  | timerSlaveReset _ _ => exact canonical_next (canonical_doTimerSlaveReset h _ _) ht
  | oqDb _ _ => exact canonical_next (canonical_doOqDb h _ _) ht
  | oqEnable _ _ => exact canonical_next (canonical_doOqEnable h _ _) ht
  | oqDisable _ _ => exact canonical_next (canonical_doOqDisable h _ _) ht
  | orderFetchComplete _ _ => exact canonical_next (canonical_doOrderFetchComplete h _ _) ht
  | orderMarkReread _ => exact canonical_next (canonical_doOrderMarkReread h _) ht
  | identify _ => exact canonical_next (canonical_doIdentify h _) ht
  | loadLightList _ => exact canonical_next (canonical_doLoadLightList h _) ht
  | lightListReadComplete _ _ _ => exact canonical_next (canonical_doLightListReadComplete h _ _ _) ht
  | bindTenant _ => exact canonical_next (canonical_doBindTenant h _) ht
  | unbindTenantGentle _ => exact canonical_next (canonical_doUnbindTenantGentle h _) ht
  | unbindTenantForce _ => exact canonical_next (canonical_doUnbindTenantForce h _) ht
  | createQueueSq _ => exact canonical_next (canonical_doCreateQueueSq h _) ht
  | createQueueCq _ => exact canonical_next (canonical_doCreateQueueCq h _) ht
  | resetQueue _ => exact canonical_next (canonical_doResetQueue h _) ht
  | setQueuePriority _ => exact canonical_next (canonical_doSetQueuePriority h _) ht
  | releaseHold _ => exact canonical_next (canonical_doReleaseHold h _) ht
  | portEnable _ => exact canonical_next (canonical_doPortEnable h _) ht
  | portFence _ => exact canonical_next (canonical_doPortFence h _) ht
  | pathGroupEdit _ => exact canonical_next (canonical_doPathGroupEdit h _) ht
  | domainPowerOn _ => exact canonical_next (canonical_doDomainPowerOn h _) ht
  | domainPowerOff _ => exact canonical_next (canonical_doDomainPowerOff h _) ht
  | enterSleepDoze _ => exact canonical_next (canonical_doEnterSleepDoze h _) ht
  | enterSleepHold _ => exact canonical_next (canonical_doEnterSleepHold h _) ht
  | sleepCommitEdge _ _ => exact canonical_next (canonical_doSleepCommitEdge h _ _) ht
  | timebaseFreeze => exact canonical_next (canonical_doTimebaseFreeze h) ht
  | setSupplyPolicy _ => exact canonical_next (canonical_doSetSupplyPolicy h _) ht
  | powerLimitThrottle _ => exact canonical_next (canonical_doPowerLimitThrottle h _) ht
  | startSelfTest _ => exact canonical_next (canonical_doStartSelfTest h _) ht
  | selfTestComplete _ _ _ => exact canonical_next (canonical_doSelfTestComplete h _ _ _) ht
  | rotatingTestStart _ => exact canonical_next (canonical_doRotatingTestStart h _) ht
  | readSignature _ => exact canonical_next (canonical_doReadSignature h _) ht
  | setFaultWindow _ => exact canonical_next (canonical_doSetFaultWindow h _) ht
  | readFaultLog _ _ => exact canonical_next (canonical_doReadFaultLog h _ _) ht
  | retireSite _ => exact canonical_next (canonical_doRetireSite h _) ht
  | stageFirmware _ => exact canonical_next (canonical_doStageFirmware h _) ht
  | flashOperationComplete _ => exact canonical_next (canonical_doFlashOperationComplete h _) ht
  | activateFirmwareHitless _ => exact canonical_next (canonical_doActivateFirmwareHitless h _) ht
  | activateFirmwareAtReset _ => exact canonical_next (canonical_doActivateFirmwareAtReset h _) ht
  | setTime _ => exact canonical_next (canonical_doSetTime h _) ht
  | readTimeBridge _ => exact canonical_next (canonical_doReadTimeBridge h _) ht
  | tokenCreate _ => exact canonical_next (canonical_doTokenCreate h _) ht
  | tokenDestroy _ => exact canonical_next (canonical_doTokenDestroy h _) ht
  | tokenRead _ => exact canonical_next (canonical_doTokenRead h _) ht
  | nopEcho _ => exact canonical_next (canonical_doNopEcho h _) ht
  | balanceRound _ => exact canonical_next (canonical_doBalanceRound h _) ht
  | fogSignal _ => exact canonical_next (canonical_doFogSignal h _) ht
  | fogClear _ => exact canonical_next (canonical_doFogClear h _) ht
  | moduleReset _ => exact canonical_next (canonical_doModuleReset h _) ht
  | keeperReset => exact canonical_next (canonical_doKeeperReset s) ht
  | overVoltage _ => exact canonical_next (canonical_doOverVoltage h _) ht
  | rootPllLockLoss => exact canonical_next (canonical_doRootPllLockLoss h) ht
  | powerGood _ => exact canonical_next (canonical_doPowerGood h _) ht
  | railRetry _ => exact canonical_next (canonical_doRailRetry h _) ht
  | hubCoreRelease _ => exact canonical_next (canonical_doHubCoreRelease h _) ht
  | carrierLinkTrained _ _ => exact canonical_next (canonical_doCarrierLinkTrained h _ _) ht
  | tenderBoot => exact canonical_next (canonical_doTenderBoot h) ht
  | bootTimerExpiry => exact canonical_next (canonical_doBootTimerExpiry h) ht
  | hbmTrained _ => exact canonical_next (canonical_doHbmTrained h _) ht
  | moduleReadyForOrders => exact canonical_next (canonical_doModuleReadyForOrders h) ht
  | idleEntry => exact canonical_next (canonical_doIdleEntry h) ht
  | wakeFromDoze _ => exact canonical_next (canonical_doWakeFromDoze h _) ht
  | wakeFromHold _ => exact canonical_next (canonical_doWakeFromHold h _) ht
  | pllLock => exact canonical_next (canonical_doPllLock h) ht
  | timebaseBridge => exact canonical_next (canonical_doTimebaseBridge h) ht
  | wakeDriveTimeout => exact canonical_next (canonical_doWakeDriveTimeout h) ht
  | inletWarnCrossed _ _ => exact canonical_next (canonical_doInletWarnCrossed h _ _) ht
  | inletThrottle _ _ => exact canonical_next (canonical_doInletThrottle h _ _) ht
  | inletThrottleRelease _ _ => exact canonical_next (canonical_doInletThrottleRelease h _ _) ht
  | inletSensorDisagree _ _ => exact canonical_next (canonical_doInletSensorDisagree h _ _) ht
  | dieOverTemperature _ _ => exact canonical_next (canonical_doDieOverTemperature h _ _) ht
  | dieTemperatureRelease _ _ => exact canonical_next (canonical_doDieTemperatureRelease h _ _) ht
  | smbusResetArm _ => exact canonical_next (canonical_doSmbusResetArm h _) ht
  | smbusResetConfirm _ => exact canonical_next (canonical_doSmbusResetConfirm h _) ht
  | smbusResetArmTimeout => exact canonical_next (canonical_doSmbusResetArmTimeout h) ht
  | smbusReadMode => exact canonical_next (canonical_doSmbusReadMode h) ht
  | smbusReadVoltage => exact canonical_next (canonical_doSmbusReadVoltage h) ht
  | smbusReadPower => exact canonical_next (canonical_doSmbusReadPower h) ht
  | smbusReadInlet => exact canonical_next (canonical_doSmbusReadInlet h) ht
  | smbusReadDieTemp => exact canonical_next (canonical_doSmbusReadDieTemp h) ht
  | smbusReadBeacon => exact canonical_next (canonical_doSmbusReadBeacon h) ht
  | bypass => exact canonical_next (canonical_doBypass h) ht
  | idcode => exact canonical_next (canonical_doIdcode h) ht
  | samplePreload => exact canonical_next (canonical_doSamplePreload h) ht
  | extest => exact canonical_next (canonical_doExtest h) ht
  | clamp => exact canonical_next (canonical_doClamp h) ht
  | highz => exact canonical_next (canonical_doHighz h) ht
  | extestPulse => exact canonical_next (canonical_doExtestPulse h) ht
  | extestTrain => exact canonical_next (canonical_doExtestTrain h) ht
  | testLogicReset => exact canonical_next (canonical_doTestLogicReset h) ht
  | hostLinkDown _ => exact canonical_next (canonical_doHostLinkDown h _) ht
  | hostLinkUp _ _ _ => exact canonical_next (canonical_doHostLinkUp h _ _ _) ht
  | busMasterEnableClear _ => exact canonical_next (canonical_doBusMasterEnableClear h _) ht
  | vfEnableSet _ => exact canonical_next (canonical_doVfEnableSet h _) ht
  | frameDiscarded _ _ => exact canonical_next (canonical_doFrameDiscarded h _ _) ht
  | moduleInLowPowerMode _ _ _ _ => exact canonical_next (canonical_doModuleInLowPowerMode h _ _ _ _) ht
  | carrierLinkFault _ => exact canonical_next (canonical_doCarrierLinkFault h _) ht
  | reservedEncoding _ _ => exact canonical_next (canonical_doReservedEncoding h _ _) ht
  | reservedControlOperation _ _ =>
    refine canonical_next (canonical_settle (canonical_carryOut h _ _ _ _ fun s p w hs => ?_)) ht
    exact canonical_stepCheck hs _ _ _
  | reservedOrderOpcode _ => exact canonical_next (canonical_doReservedOrderOpcode h _) ht
  | portEnableTimeout _ => exact canonical_next (canonical_doPortEnableTimeout h _) ht
  | unbindDrainExpiry _ => exact canonical_next (canonical_doUnbindDrainExpiry h _) ht
  | rotatingTestPutOff _ => exact canonical_next (canonical_doRotatingTestPutOff h _) ht
  | smbusResetCancel _ _ => exact canonical_next (canonical_doSmbusResetCancel h _ _) ht

/-- Settles O20: a command keeps the form by `canonical_exec`, the empty queue's step by `canonical_tick`; the queue itself is no part of the form. -/
theorem everyStepKeepsCanonicalForm : Obligations.EveryStepKeepsCanonicalForm := by
  unfold Obligations.EveryStepKeepsCanonicalForm
  intro s t h ht
  rw [step] at ht
  split at ht
  · exact canonical_next (canonical_tick h) ht
  · exact canonical_exec (canonical_withPending h _) _ ht

end Sys2Proof.Machine

/-! ### Mailboxes and IO of a pair (R309, R319, R324, R337-R344) -/

namespace Sys2Proof.Machine

open Sys2Proof

/-! #### What an event or a vector leaves -/

section
variable (s : State) (u : EvUnit) (n : Nat) (fn : Fn)

@[simp] theorem State.fire_cores : (s.fire u n).cores = s.cores := (congrArg State.cores (s.fire_frame u n) :)
@[simp] theorem State.fire_boxes : (s.fire u n).boxes = s.boxes := (congrArg State.boxes (s.fire_frame u n) :)
@[simp] theorem State.vector_cores : (s.vector fn n).cores = s.cores := (congrArg State.cores (s.vector_frame fn n).1 :)
@[simp] theorem State.vector_boxes : (s.vector fn n).boxes = s.boxes := (congrArg State.boxes (s.vector_frame fn n).1 :)
@[simp] theorem State.onBoxes_freeVal (f) : (s.onBoxes f).freeVal = s.freeVal := rfl

theorem State.mbx_congr {s t : State} (h : t.boxes = s.boxes) (m : Nat) : t.mbx m = s.mbx m := by rw [State.mbx, h, State.mbx]

theorem State.pair_congr {s t : State} (h : t.cores = s.cores) (c : PairNum) : t.pair c = s.pair c := by rw [State.pair, h, State.pair]

@[simp] theorem State.mbx_modMbx (m : Nat) (f : Mbx → Mbx) : (s.modMbx m f).mbx m = f (s.mbx m) := by
  simp [State.mbx, State.modMbx]

end

/-! #### Commits and takes -/

section
variable (s : State) (m : Nat) (h : W32) (b : Bytes)

theorem State.commitTo_mbx : (s.commitTo m h b).mbx m = { s.mbx m with toT := (s.mbx m).toT ++ [(h &&& 0xFFFF7FFF, padTo 64 b)] } :=
  (State.mbx_congr (State.fire_boxes _ 0 (1 + m)) m).trans (s.mbx_modMbx m _)

theorem State.takeFrom_mbx : (s.takeFrom m).mbx m = { s.mbx m with fromT := (s.mbx m).fromT.drop 1 } :=
  (State.mbx_congr (State.fire_boxes _ 0 (65 + m)) m).trans (s.mbx_modMbx m _)

theorem State.commitFrom_mbx : (s.commitFrom m h b).mbx m = { s.mbx m with fromT := (s.mbx m).fromT ++ [(h &&& 0xFFFF7FFF, padTo 64 b)] } := by
  rw [State.commitFrom]
  split
  · exact (State.mbx_congr (State.vector_boxes _ _ _) m).trans (s.mbx_modMbx m _)
  · exact (State.mbx_congr (State.fire_boxes _ _ _) m).trans (s.mbx_modMbx m _)

theorem State.takeTo_mbx : (s.takeTo m).mbx m = { s.mbx m with toT := (s.mbx m).toT.drop 1 } := by
  rw [State.takeTo]
  split
  · exact (State.mbx_congr (State.vector_boxes _ _ _) m).trans (s.mbx_modMbx m _)
  · exact (State.mbx_congr (State.fire_boxes _ _ _) m).trans (s.mbx_modMbx m _)

theorem State.commitTo_cores : (s.commitTo m h b).cores = s.cores := State.fire_cores _ _ _
theorem State.takeFrom_cores : (s.takeFrom m).cores = s.cores := State.fire_cores _ _ _

theorem State.commitFrom_cores : (s.commitFrom m h b).cores = s.cores := by
  rw [State.commitFrom]
  split
  · exact State.vector_cores _ _ _
  · exact State.fire_cores _ _ _

theorem State.takeTo_cores : (s.takeTo m).cores = s.cores := by
  rw [State.takeTo]
  split
  · exact State.vector_cores _ _ _
  · exact State.fire_cores _ _ _

end

/-- The messages out of and into a mailbox, as its pair sees them. -/
def outOf (c : PairNum) (x : Mbx) : List (W32 × Bytes) := if c = tender then x.fromT else x.toT
def intoOf (c : PairNum) (x : Mbx) : List (W32 × Bytes) := if c = tender then x.toT else x.fromT

/-- What a pair commits goes to the end of its outward messages, and leaves the others. -/
def State.pairCommit (s : State) (c : PairNum) (m : Nat) (h : W32) (b : Bytes) : State := if c = tender then s.commitFrom m h b else s.commitTo m h b
def State.pairTake (s : State) (c : PairNum) (m : Nat) : State := if c = tender then s.takeTo m else s.takeFrom m

section
variable (s : State) (c : PairNum) (m : Nat) (h : W32) (b : Bytes)

theorem State.pairCommit_cores : (s.pairCommit c m h b).cores = s.cores := by
  rw [State.pairCommit]
  split
  · exact s.commitFrom_cores m h b
  · exact s.commitTo_cores m h b

theorem State.pairTake_cores : (s.pairTake c m).cores = s.cores := by
  rw [State.pairTake]
  split
  · exact s.takeTo_cores m
  · exact s.takeFrom_cores m

theorem State.pairCommit_boxes :
    outOf c ((s.pairCommit c m h b).mbx m) = outOf c (s.mbx m) ++ [(h &&& 0xFFFF7FFF, padTo 64 b)] ∧
      intoOf c ((s.pairCommit c m h b).mbx m) = intoOf c (s.mbx m) := by
  by_cases hc : c = tender
  · simp only [State.pairCommit, outOf, intoOf, if_pos hc, State.commitFrom_mbx, and_self]
  · simp only [State.pairCommit, outOf, intoOf, if_neg hc, State.commitTo_mbx, and_self]

theorem State.pairTake_boxes :
    intoOf c ((s.pairTake c m).mbx m) = (intoOf c (s.mbx m)).drop 1 ∧ outOf c ((s.pairTake c m).mbx m) = outOf c (s.mbx m) := by
  by_cases hc : c = tender
  · simp only [State.pairTake, outOf, intoOf, if_pos hc, State.takeTo_mbx, and_self]
  · simp only [State.pairTake, outOf, intoOf, if_neg hc, State.takeFrom_mbx, and_self]

end

/-! #### The instructions -/

/-- A free cycle number within its bound (log 27). -/
theorem State.ioCycles_within (s : State) {bound : Nat} (hb : 0 < bound) {f : Nat → Prop} (h : f (s.ioCycles bound)) : within bound f :=
  ⟨s.ioCycles bound, Nat.le_add_right 1 _, (Nat.add_comm 1 _).le.trans (Nat.succ_le_of_lt (Nat.mod_lt _ hb)), h⟩

theorem boxOf_eq (r : W32) : boxOf r = r.toNat % 64 := fieldOf_low r 5
theorem bufOf_eq (r : W32) : bufOf r = r.toNat / 65536 := by
  have := r.isLt
  simp only [bufOf, fieldOf]
  omega

/-- The part of a state outside the pair `c` reaches the other side of an issue and of the pair's own update. -/
theorem State.pair_after (s : State) (c : PairNum) (reads : List Reg) {v : State} (hv : v.cores = (s.modPair c (fun p => p.issued reads)).cores)
    (f : Pair → Pair) : (v.useFree.modPair c f).pair c = f ((s.pair c).issued reads) := by
  rw [State.pair_modPair]
  exact congrArg f ((State.pair_congr hv c).trans (s.pair_modPair c _))

@[simp] theorem State.mayBox_issued (s : State) (c : PairNum) (m : Nat) (reads : List Reg) :
    (s.modPair c (fun p => p.issued reads)).mayBox c m = s.mayBox c m := by
  simp only [State.mayBox, State.pair_modPair, Pair.issued_slot]

@[simp] theorem State.mbx_modPair (s : State) (c : PairNum) (f : Pair → Pair) (m : Nat) : (s.modPair c f).mbx m = s.mbx m := rfl

theorem outOf_length (c : PairNum) (x : Mbx) : (outOf c x).length = if c = tender then x.fromT.length else x.toT.length := by
  rw [outOf]
  split <;> rfl

section
variable (s : State) (c : PairNum) (ra : Reg) (h : issues s c false)
include h

/-- MSEND that neither traps nor finds its mailbox full. -/
theorem doMsend_commits (hbuf : bufOf ((s.pair c).gr ra) % 4 = 0) (hm : s.mayBox c (boxOf ((s.pair c).gr ra)) = true)
    (hlen : hdrLen (u32 ((s.pair c).load (bufOf ((s.pair c).gr ra)) 4) 0) ≤ 64)
    (hroom : (outOf c (s.mbx (boxOf ((s.pair c).gr ra)))).length < 4) :
    let p := s.pair c
    let r := p.gr ra
    doMsend c ra s = ((s.modPair c (fun p => p.issued [ra])).pairCommit c (boxOf r) (u32 (p.load (bufOf r) 4) 0)
      (p.load ((bufOf r + 4) % 65536) 64)).useFree.modPair c (fun p => p.next (s.ioCycles (boxCycles c 20 60))) := by
  intro p r
  rw [doMsend, s.issue_eq c _ false _ _ h]
  simp only [State.pair_modPair, Pair.issued_gr, Pair.issued_load, State.mayBox_issued, State.mbx_modPair, ← outOf_length]
  rw [if_neg (not_not.mpr hbuf), if_neg (by simp [hm, hlen]), if_neg (Nat.not_le.mpr hroom)]
  rfl

/-- MSEND to a full mailbox. -/
theorem doMsend_full (hbuf : bufOf ((s.pair c).gr ra) % 4 = 0) (hm : s.mayBox c (boxOf ((s.pair c).gr ra)) = true)
    (hlen : hdrLen (u32 ((s.pair c).load (bufOf ((s.pair c).gr ra)) 4) 0) ≤ 64)
    (hfull : 4 ≤ (outOf c (s.mbx (boxOf ((s.pair c).gr ra)))).length) :
    doMsend c ra s = (s.modPair c (fun p => p.issued [ra])).busTrap c (coreWord (.msend c ra)) 4 (boxOf ((s.pair c).gr ra)) := by
  rw [doMsend, s.issue_eq c _ false _ _ h]
  simp only [State.pair_modPair, Pair.issued_gr, Pair.issued_load, State.mayBox_issued, State.mbx_modPair, ← outOf_length]
  rw [if_neg (not_not.mpr hbuf), if_neg (by simp [hm, hlen]), if_pos hfull]

/-- MRECV of an empty mailbox. -/
theorem doMrecv_empty (hbuf : bufOf ((s.pair c).gr ra) % 4 = 0) (hm : s.mayBox c (boxOf ((s.pair c).gr ra)) = true)
    (hnone : intoOf c (s.mbx (boxOf ((s.pair c).gr ra))) = []) :
    doMrecv c ra s = (s.modPair c (fun p => p.issued [ra])).useFree.modPair c (fun p => (p.gw ra 1).next (s.ioCycles (boxCycles c 20 60))) := by
  rw [doMrecv, s.issue_eq c _ false _ _ h]
  simp only [State.pair_modPair, Pair.issued_gr, State.mayBox_issued, State.mbx_modPair]
  rw [intoOf] at hnone
  rw [if_neg (not_not.mpr hbuf), if_neg (by simp [hm]), hnone]
  rfl

/-- MRECV of a message. -/
theorem doMrecv_takes (hbuf : bufOf ((s.pair c).gr ra) % 4 = 0) (hm : s.mayBox c (boxOf ((s.pair c).gr ra)) = true)
    {hd : W32} {b : Bytes} {rest : List (W32 × Bytes)} (hin : intoOf c (s.mbx (boxOf ((s.pair c).gr ra))) = (hd, b) :: rest) :
    doMrecv c ra s = ((s.modPair c (fun p => p.issued [ra])).pairTake c (boxOf ((s.pair c).gr ra))).useFree.modPair c
      (fun p => ((p.store (bufOf ((s.pair c).gr ra)) (le 4 hd.toNat ++ b)).gw ra 0).next (s.ioCycles (boxCycles c 20 60))) := by
  rw [doMrecv, s.issue_eq c _ false _ _ h]
  simp only [State.pair_modPair, Pair.issued_gr, State.mayBox_issued, State.mbx_modPair]
  rw [intoOf] at hin
  rw [if_neg (not_not.mpr hbuf), if_neg (by simp [hm]), hin]
  rfl

end

/-- The status of a mailbox looks at no more of a pair than whether it serves a slot. -/
@[simp] theorem State.mbxStat_issued (s : State) (c : PairNum) (m : Nat) (reads : List Reg) :
    (s.modPair c (fun p => p.issued reads)).mbxStat m = s.mbxStat m := by
  have hslot : ∀ k, (s.modPair c (fun p => p.issued reads)).servingPair k = s.servingPair k := fun k => by
    refine congrArg (fun f => (List.finRange 41).find? f) (funext fun d => ?_)
    by_cases hd : d = c
    · subst hd; rw [State.pair_modPair, (s.pair d).issued_frame]
    · rw [State.pair_modPair_ne _ _ _ _ hd]
  have hfar : (s.modPair c (fun p => p.issued reads)).farUp m = s.farUp m := by
    simp only [State.farUp, State.slotServed, hslot]
    rfl
  simp only [State.mbxStat, hfar, State.mbx_modPair]
  rfl

/-- MSTAT. -/
theorem doMstat_reads (s : State) (c : PairNum) (ra : Reg) (h : issues s c false) (hm : s.mayBox c (boxOf ((s.pair c).gr ra)) = true) :
    doMstat c ra s = (s.modPair c (fun p => p.issued [ra])).useFree.modPair c
      (fun p => (p.gw ra (s.mbxStat (boxOf ((s.pair c).gr ra)))).next (s.ioCycles (boxCycles c 4 40))) := by
  rw [doMstat, s.issue_eq c _ false _ _ h]
  simp only [State.pair_modPair, Pair.issued_gr, State.mayBox_issued, State.mbxStat_issued]
  rw [if_neg (by simp [hm])]
  rfl

/-- The four bytes of a header, and the 64 of a body, in the buffer. -/
theorem Pair.load_header (p : Pair) (a : Nat) :
    u32 (p.load a 4) 0 = (p.dmem.read ((a + 3) % 65536) ++ p.dmem.read ((a + 2) % 65536) ++ p.dmem.read ((a + 1) % 65536) ++
      p.dmem.read (a % 65536) : W32) := by
  refine BitVec.eq_of_toNat_eq ?_
  simp only [u32, bslice, Pair.load, List.range_succ, List.range_zero, List.nil_append, List.cons_append, List.map_cons, List.map_nil, List.drop_zero,
    List.take, ule, BitVec.toNat_ofNat, toNat_append_eq, Nat.add_zero]
  omega

theorem Pair.load_body (p : Pair) (a : Nat) :
    p.load ((a + 4) % 65536) 64 = (List.range 64).map (fun i => p.dmem.read ((a + (4 + i)) % 65536)) :=
  List.map_congr_left fun i _ => by rw [show ((a + 4) % 65536 + i) % 65536 = (a + (4 + i)) % 65536 by omega]

theorem padTo_load (p : Pair) (a : Nat) : padTo 64 (p.load a 64) = p.load a 64 := by
  rw [padTo, List.take_left' (by simp [Pair.load])]

theorem boxCycles_eq (c : PairNum) (t l : Nat) : boxCycles c t l = if c = tender then t else l := rfl

/-- A register written by an issued pair, the next instruction in line. -/
theorem pairWrites_issued (p : Pair) (ra : Reg) (v : W32) (reads : List Reg) (n : Nat) :
    pairWrites ra v reads n p (((p.issued reads).gw ra v).next n) :=
  ⟨onlyRegisters_next (onlyRegisters_gw (onlyRegisters_issued p reads) ra v) n,
    fun r => (Pair.gr_gw _ ra r v).trans (by rw [Pair.issued_gr]),
    advances_next (by rw [Pair.gw_frame]; exact p.issued_pc reads) (Pair.gw_cyc _ ra v) (Pair.gw_waiting _ ra v) n⟩

/-- The bytes of a message taken into the buffer: the header's four, then the body's. -/
theorem read_message (m : Memory) (a i : Nat) (hd : W32) (b : Bytes) (hb : b.length = 64) :
    (i < 4 → (m.writeRun a (le 4 hd.toNat ++ b)).read ((a + i) % 65536) = hd.extractLsb' (8 * i) 8) ∧
      (i < 64 → (m.writeRun a (le 4 hd.toNat ++ b)).read ((a + 4 + i) % 65536) = b.getD i 0) := by
  have hlen : (le 4 hd.toNat ++ b).length = 68 := by rw [List.length_append, length_le, hb]
  have byte := fun j hj => Memory.read_writeRun_same m a j (le 4 hd.toNat ++ b) (by omega) hj
  constructor
  · intro hi
    rw [byte i (by omega), List.getD_append _ _ _ _ (by rw [length_le]; exact hi), getD_le 4 _ i hi, BitVec.extractLsb',
      Nat.shiftRight_eq_div_pow, Nat.pow_mul]
  · intro hi
    rw [Nat.add_assoc, byte (4 + i) (by omega), List.getD_append_right _ _ _ _ (by rw [length_le]; omega), length_le, Nat.add_sub_cancel_left]

/-- Settles O16: each instruction by its equation, the pair's part from the issue, the mailbox's from the commit or the take. -/
theorem mailboxInstructions : Obligations.MailboxInstructions := by
  intro c ra s h p r m buf byte hdr out inn hm
  have hbox : boxOf r = m := boxOf_eq r
  have hbufOf : bufOf r = buf := bufOf_eq r
  have hhdr : u32 (p.load (bufOf r) 4) 0 = hdr := by rw [hbufOf]; exact p.load_header buf
  have hbody : p.load ((bufOf r + 4) % 65536) 64 = (List.range 64).map (fun i => byte (4 + i)) := by rw [hbufOf]; exact p.load_body buf
  rw [← hbox] at hm
  have bound : ∀ t l, 0 < t → 0 < l → 0 < boxCycles c t l := fun t l ht hl => by rw [boxCycles]; split <;> assumption
  refine ⟨fun ha hlen hroom => ⟨_, congrArg Host.Outcome.next (doMsend_commits s c ra h (by rwa [hbufOf]) hm (by rwa [hhdr]) (by rwa [hbox])), ?_⟩,
    fun ha hlen hfull htrap => ⟨_, congrArg Host.Outcome.next (doMsend_full s c ra h (by rwa [hbufOf]) hm (by rwa [hhdr]) (by rwa [hbox])), ?_⟩,
    fun ha hnone => ⟨_, congrArg Host.Outcome.next (doMrecv_empty s c ra h (by rwa [hbufOf]) hm (by rwa [hbox])), ?_⟩,
    fun hd b rest ha hin hb => ⟨_, congrArg Host.Outcome.next (doMrecv_takes s c ra h (by rwa [hbufOf]) hm (by rwa [hbox])), ?_⟩,
    ⟨_, congrArg Host.Outcome.next (doMstat_reads s c ra h hm), ?_⟩⟩
  · obtain ⟨hout, hinn⟩ := (s.modPair c (fun p => p.issued [ra])).pairCommit_boxes c (boxOf r) (u32 (p.load (bufOf r) 4) 0)
      (p.load ((bufOf r + 4) % 65536) 64)
    have hpair := s.pair_after c [ra] (State.pairCommit_cores _ c (boxOf r) (u32 (p.load (bufOf r) 4) 0) (p.load ((bufOf r + 4) % 65536) 64))
      (fun p => p.next (s.ioCycles (boxCycles c 20 60)))
    rw [padTo_load, hbody, hhdr, hbox] at hout
    rw [hhdr, hbox] at hinn
    refine ⟨?_, ?_, hpair ▸ onlyFlow_issued_next p [ra] _, s.ioCycles_within (bound 20 60 (by decide) (by decide)) (hpair ▸ advances_issued_next p [ra] _)⟩
    · rw [hhdr, hbox, show (s.pair c).load ((bufOf ((s.pair c).gr ra) + 4) % 65536) 64 = _ from hbody]; exact hout
    · rw [hhdr, hbox]; exact hinn
  · rw [hbox]
    exact s.busTrap_enters c [ra] _ 4 m htrap
  · have hpair := s.pair_after c [ra] rfl (fun p => (p.gw ra 1).next (s.ioCycles (boxCycles c 20 60)))
    exact ⟨rfl, s.ioCycles_within (bound 20 60 (by decide) (by decide)) (hpair ▸ pairWrites_issued p ra 1 [ra] _)⟩
  · obtain ⟨hinn, hout⟩ := (s.modPair c (fun p => p.issued [ra])).pairTake_boxes c (boxOf r)
    have hpair := s.pair_after c [ra] (State.pairTake_cores _ c (boxOf r))
      (fun p => ((p.store (bufOf r) (le 4 hd.toNat ++ b)).gw ra 0).next (s.ioCycles (boxCycles c 20 60)))
    have hmem : ((((p.issued [ra]).store (bufOf r) (le 4 hd.toNat ++ b)).gw ra 0).next (s.ioCycles (boxCycles c 20 60))).dmem =
        Memory.writeRun p.dmem buf (le 4 hd.toNat ++ b) := by
      rw [Pair.next_dmem, Pair.gw_dmem, Pair.store_dmem, Pair.issued_dmem, hbufOf]
    rw [hbox] at hinn hout
    refine ⟨?_, ?_, hpair ▸ fun x => (Pair.gr_gw _ ra x 0).trans (by rw [Pair.store_gr, Pair.issued_gr]), fun i hi => ?_, fun i hi => ?_, fun x hx hne => ?_⟩
    · rw [hbox]
      exact hinn.trans (congrArg (List.drop 1) hin)
    · rw [hbox]
      exact hout
    · rw [hpair, hmem]
      exact (read_message p.dmem buf i hd b hb).1 hi
    · rw [hpair, hmem]
      exact (read_message p.dmem buf i hd b hb).2 hi
    · rw [hpair, hmem]
      refine Memory.read_writeRun_ne _ _ _ _ fun i hi => hne i ?_
      rwa [List.length_append, length_le, hb] at hi
  · have hpair := s.pair_after c [ra] rfl
      (fun p => (p.gw ra (s.mbxStat (boxOf r))).next (s.ioCycles (boxCycles c 4 40)))
    rw [← hbox]
    exact ⟨rfl, s.ioCycles_within (bound 4 40 (by decide) (by decide)) (hpair ▸ pairWrites_issued p ra _ [ra] _)⟩

/-! #### IO -/

@[simp] theorem State.ioTarget_issued (s : State) (c : PairNum) (reads : List Reg) (addr : W32) :
    (s.modPair c (fun p => p.issued reads)).ioTarget c addr = s.ioTarget c addr := by
  simp only [State.ioTarget, State.pair_modPair]
  rw [(s.pair c).issued_frame]

@[simp] theorem Pair.issued_offset (p : Pair) (reads : List Reg) : (p.issued reads).offset = p.offset := by
  rw [Pair.offset, Pair.issued_pr, Pair.offset]

end Sys2Proof.Machine

/-! ### A unit's registers do not look at the cores (R14, R328, R348, R451) -/

namespace Sys2Proof.Machine

open Sys2Proof

-- The automated proofs below are checked one after another: side by side they need too much memory.
set_option Elab.async false

variable (s : State) (k : Cores)

/-- The state with other cores. -/
def State.withCores (s : State) (k : Cores) : State := { s with cores := k }

@[simp] theorem State.withCores_pending_field : (s.withCores k).pending = s.pending := rfl
@[simp] theorem State.withCores_out_field : (s.withCores k).out = s.out := rfl
@[simp] theorem State.withCores_clk_field : (s.withCores k).clk = s.clk := rfl
@[simp] theorem State.withCores_keeper_field : (s.withCores k).keeper = s.keeper := rfl
@[simp] theorem State.withCores_power_field : (s.withCores k).power = s.power := rfl
@[simp] theorem State.withCores_therm_field : (s.withCores k).therm = s.therm := rfl
@[simp] theorem State.withCores_hosts_field : (s.withCores k).hosts = s.hosts := rfl
@[simp] theorem State.withCores_vfs_field : (s.withCores k).vfs = s.vfs := rfl
@[simp] theorem State.withCores_queues_field : (s.withCores k).queues = s.queues := rfl
@[simp] theorem State.withCores_list_field : (s.withCores k).list = s.list := rfl
@[simp] theorem State.withCores_prog_field : (s.withCores k).prog = s.prog := rfl
@[simp] theorem State.withCores_ports_field : (s.withCores k).ports = s.ports := rfl
@[simp] theorem State.withCores_data_field : (s.withCores k).data = s.data := rfl
@[simp] theorem State.withCores_evus_field : (s.withCores k).evus = s.evus := rfl
@[simp] theorem State.withCores_banks_field : (s.withCores k).banks = s.banks := rfl
@[simp] theorem State.withCores_boxes_field : (s.withCores k).boxes = s.boxes := rfl
@[simp] theorem State.withCores_orders_field : (s.withCores k).orders = s.orders := rfl
@[simp] theorem State.withCores_faults_field : (s.withCores k).faults = s.faults := rfl
@[simp] theorem State.withCores_fw_field : (s.withCores k).fw = s.fw := rfl
@[simp] theorem State.withCores_side_field : (s.withCores k).side = s.side := rfl

@[simp] theorem State.withCores_ite (t : State) (p : Prop) [Decidable p] :
    (if p then s.withCores k else t.withCores k) = (if p then s else t).withCores k :=
  (apply_ite (State.withCores · k) p s t).symm

/-! What each operation on the way to a register does, it does alike with other cores. -/

@[simp] theorem State.withCores_onOut (f) : (s.withCores k).onOut f = (s.onOut f).withCores k := rfl
@[simp] theorem State.withCores_onClk (f) : (s.withCores k).onClk f = (s.onClk f).withCores k := rfl
@[simp] theorem State.withCores_onKeeper (f) : (s.withCores k).onKeeper f = (s.onKeeper f).withCores k := rfl
@[simp] theorem State.withCores_onPower (f) : (s.withCores k).onPower f = (s.onPower f).withCores k := rfl
@[simp] theorem State.withCores_onHosts (f) : (s.withCores k).onHosts f = (s.onHosts f).withCores k := rfl
@[simp] theorem State.withCores_onVfs (f) : (s.withCores k).onVfs f = (s.onVfs f).withCores k := rfl
@[simp] theorem State.withCores_onPorts (f) : (s.withCores k).onPorts f = (s.onPorts f).withCores k := rfl
@[simp] theorem State.withCores_onData (f) : (s.withCores k).onData f = (s.onData f).withCores k := rfl
@[simp] theorem State.withCores_onEvus (f) : (s.withCores k).onEvus f = (s.onEvus f).withCores k := rfl
@[simp] theorem State.withCores_onBanks (f) : (s.withCores k).onBanks f = (s.onBanks f).withCores k := rfl
@[simp] theorem State.withCores_onFaults (f) : (s.withCores k).onFaults f = (s.onFaults f).withCores k := rfl
@[simp] theorem State.withCores_onFw (f) : (s.withCores k).onFw f = (s.onFw f).withCores k := rfl
@[simp] theorem State.withCores_host (p) : (s.withCores k).host p = s.host p := rfl
@[simp] theorem State.withCores_modHost (p) (f) : (s.withCores k).modHost p f = (s.modHost p f).withCores k := rfl
@[simp] theorem State.withCores_fn (y1) : (s.withCores k).fn y1 = s.fn y1 := rfl
@[simp] theorem State.withCores_modFn (fn) (f) : (s.withCores k).modFn fn f = (s.modFn fn f).withCores k := by
  unfold State.modFn
  split <;> simp
@[simp] theorem State.withCores_vfOn (t) : (s.withCores k).vfOn t = s.vfOn t := rfl
@[simp] theorem State.withCores_fnLive (y1) : (s.withCores k).fnLive y1 = s.fnLive y1 := rfl
@[simp] theorem State.withCores_port (d) : (s.withCores k).port d = s.port d := rfl
@[simp] theorem State.withCores_modPort (d) (f) : (s.withCores k).modPort d f = (s.modPort d f).withCores k := rfl
@[simp] theorem State.withCores_evu (u) : (s.withCores k).evu u = s.evu u := rfl
@[simp] theorem State.withCores_modEvu (u) (f) : (s.withCores k).modEvu u f = (s.modEvu u f).withCores k := rfl
@[simp] theorem State.withCores_bank (k₁) : (s.withCores k).bank k₁ = s.bank k₁ := rfl
@[simp] theorem State.withCores_modBank (k₁) (f) : (s.withCores k).modBank k₁ f = (s.modBank k₁ f).withCores k := rfl
@[simp] theorem State.withCores_chan (k₁) (c) : (s.withCores k).chan k₁ c = s.chan k₁ c := rfl
@[simp] theorem State.withCores_modChan (k₁) (c) (f) : (s.withCores k).modChan k₁ c f = (s.modChan k₁ c f).withCores k := rfl
@[simp] theorem State.withCores_domain (n) : (s.withCores k).domain n = s.domain n := rfl
@[simp] theorem State.withCores_emit (o) : (s.withCores k).emit o = (s.emit o).withCores k := by simp [State.emit]
@[simp] theorem State.withCores_exitL1 (p) : (s.withCores k).exitL1 p = (s.exitL1 p).withCores k := by simp [State.exitL1]
@[simp] theorem State.withCores_freeVal : (s.withCores k).freeVal = s.freeVal := by simp [State.freeVal]
@[simp] theorem State.withCores_useFree : (s.withCores k).useFree = s.useFree.withCores k := by simp [State.useFree]
@[simp] theorem State.withCores_work : (s.withCores k).work = s.work.withCores k := by simp [State.work]
@[simp] theorem State.withCores_sendVector (fn) (v) : (s.withCores k).sendVector fn v = (s.sendVector fn v).withCores k := by simp [State.sendVector]
@[simp] theorem State.withCores_mayVector (fn) : (s.withCores k).mayVector fn = s.mayVector fn := by simp [State.mayVector]
@[simp] theorem State.withCores_vector (fn) (v) : (s.withCores k).vector fn v = (s.vector fn v).withCores k := by simp [State.vector]
@[simp] theorem State.withCores_pfVector (v) : (s.withCores k).pfVector v = (s.pfVector v).withCores k := by simp [State.pfVector]
@[simp] theorem State.withCores_domOn (n) : (s.withCores k).domOn n = s.domOn n := by simp [State.domOn]
@[simp] theorem State.withCores_evuOn (u) : (s.withCores k).evuOn u = s.evuOn u := by simp [State.evuOn]
@[simp] theorem State.withCores_fire (u) (n) : (s.withCores k).fire u n = (s.fire u n).withCores k := by simp [State.fire]
@[simp] theorem State.withCores_logEntry (kind) (cls) (wcount) (site) (who) (detail) :
    (s.withCores k).logEntry kind cls wcount site who detail = (s.logEntry kind cls wcount site who detail).withCores k := by
  simp only [State.logEntry, State.withCores_data_field, State.withCores_clk_field, State.withCores_faults_field, State.withCores_onFw,
    State.withCores_onFaults, State.withCores_pfVector, State.withCores_ite]
  rfl
@[simp] theorem State.withCores_recordFull : (s.withCores k).recordFull = s.recordFull := by
  unfold State.recordFull
  (repeat' split) <;> rfl
@[simp] theorem State.withCores_windowOf (site) : (s.withCores k).windowOf site = s.windowOf site := by simp [State.windowOf]
@[simp] theorem State.withCores_countEvent (site) : (s.withCores k).countEvent site = ((s.countEvent site).1.withCores k, (s.countEvent site).2) := by
  unfold State.countEvent
  (repeat' split) <;> rfl
@[simp] theorem State.withCores_fireReport (site) : (s.withCores k).fireReport site = (s.fireReport site).withCores k := by simp [State.fireReport]
@[simp] theorem State.withCores_logFault (kind) (site) (who) (detail) :
    (s.withCores k).logFault kind site who detail = (s.logFault kind site who detail).withCores k := by
  simp [State.logFault]
@[simp] theorem State.withCores_ioReserved (site) (off) (rsv) (v) :
    (s.withCores k).ioReserved site off rsv v = (s.ioReserved site off rsv v).withCores k := by
  simp [State.ioReserved]
@[simp] theorem State.withCores_relevel (u) (n) : (s.withCores k).relevel u n = (s.relevel u n).withCores k := by simp [State.relevel]
@[simp] theorem State.withCores_evuCmd (u) (n) (f) : (s.withCores k).evuCmd u n f = (s.evuCmd u n f).withCores k := by simp [State.evuCmd]
@[simp] theorem withCores_doSetPending (u) (n) : doSetPending u n (s.withCores k) = (doSetPending u n s).withCores k := by simp [doSetPending]
@[simp] theorem withCores_doClearPending (u) (n) : doClearPending u n (s.withCores k) = (doClearPending u n s).withCores k := by simp [doClearPending]
@[simp] theorem withCores_doMask (u) (n) : doMask u n (s.withCores k) = (doMask u n s).withCores k := by simp [doMask]
@[simp] theorem withCores_doUnmask (u) (n) : doUnmask u n (s.withCores k) = (doUnmask u n s).withCores k := by simp [doUnmask]
@[simp] theorem withCores_doMaskAndClearPending (u) (n) : doMaskAndClearPending u n (s.withCores k) = (doMaskAndClearPending u n s).withCores k := by
  simp [doMaskAndClearPending]
@[simp] theorem withCores_doEvuTgtWrite (u) (n) (value) : doEvuTgtWrite u n value (s.withCores k) = (doEvuTgtWrite u n value s).withCores k := by
  simp [doEvuTgtWrite]
@[simp] theorem State.withCores_evuIoWrite (u) (off) (v) : (s.withCores k).evuIoWrite u off v = (s.evuIoWrite u off v).withCores k := by
  unfold State.evuIoWrite
  (repeat' split) <;> simp
@[simp] theorem State.withCores_spill (d) : (s.withCores k).spill d = s.spill d := by simp [State.spill]
@[simp] theorem State.withCores_kprRead (off) : (s.withCores k).kprRead off = ((s.kprRead off).1.withCores k, (s.kprRead off).2) := by
  unfold State.kprRead
  (repeat' split) <;> simp
@[simp] theorem State.withCores_kprWrite (off) (v) : (s.withCores k).kprWrite off v = (s.kprWrite off v).withCores k := by
  unfold State.kprWrite
  (repeat' split) <;> simp
@[simp] theorem State.withCores_smcWords : (s.withCores k).smcWords = s.smcWords := by simp [State.smcWords]
@[simp] theorem State.withCores_smcClear (off) : (s.withCores k).smcClear off = (s.smcClear off).withCores k := by simp [State.smcClear]
@[simp] theorem State.withCores_slpWords (d) : (s.withCores k).slpWords d = s.slpWords d := by simp [State.slpWords]
@[simp] theorem State.withCores_slpClear (d) (off) : (s.withCores k).slpClear d off = (s.slpClear d off).withCores k := by simp [State.slpClear]
@[simp] theorem State.withCores_bankOn (k₁) : (s.withCores k).bankOn k₁ = s.bankOn k₁ := by simp [State.bankOn]
@[simp] theorem State.withCores_fireChan (k₁) (ch) : (s.withCores k).fireChan k₁ ch = (s.fireChan k₁ ch).withCores k := by simp [State.fireChan]
@[simp] theorem State.withCores_tmrErr (k₁) : (s.withCores k).tmrErr k₁ = (s.tmrErr k₁).withCores k := by simp [State.tmrErr]
@[simp] theorem State.withCores_grantMover (k₁) (n) : (s.withCores k).grantMover k₁ n = (s.grantMover k₁ n).withCores k := by
  simp only [State.grantMover, State.withCores_data_field, State.withCores_onData, State.withCores_tmrErr, State.withCores_ite]
  rfl
@[simp] theorem State.withCores_doMatch (k₁) (ch) (add) : (s.withCores k).doMatch k₁ ch add = (s.doMatch k₁ ch add).withCores k := by
  simp [State.doMatch]
@[simp] theorem State.withCores_matchIfDue (k₁) (ch) (add) : (s.withCores k).matchIfDue k₁ ch add = (s.matchIfDue k₁ ch add).withCores k := by
  simp [State.matchIfDue]
@[simp] theorem State.withCores_catchIfDue (k₁) (ch) : (s.withCores k).catchIfDue k₁ ch = (s.catchIfDue k₁ ch).withCores k := by
  simp only [State.catchIfDue, State.withCores_chan, State.withCores_modChan]
  split <;> rfl
@[simp] theorem State.withCores_captureIfDue (k₁) (ch) : (s.withCores k).captureIfDue k₁ ch = (s.captureIfDue k₁ ch).withCores k := by
  simp [State.captureIfDue]
@[simp] theorem State.withCores_resetIfDue (k₁) (ch) : (s.withCores k).resetIfDue k₁ ch = (s.resetIfDue k₁ ch).withCores k := by
  by_cases hd : (s.chan k₁ ch).resetDue <;> simp [State.resetIfDue, hd]
@[simp] theorem State.withCores_flushChan (k₁) (ch) : (s.withCores k).flushChan k₁ ch = (s.flushChan k₁ ch).withCores k := by simp [State.flushChan]
@[simp] theorem State.withCores_chanReserved (k₁) (ch) (off) (v) :
    (s.withCores k).chanReserved k₁ ch off v = (s.chanReserved k₁ ch off v).withCores k := by
  simp [State.chanReserved]
@[simp] theorem State.withCores_loseStep (k₁) (ch) : (s.withCores k).loseStep k₁ ch = (s.loseStep k₁ ch).withCores k := by simp [State.loseStep]
@[simp] theorem withCores_doTmrCntCommit (k₁) (ch) (value) :
    doTmrCntCommit k₁ ch value (s.withCores k) = (doTmrCntCommit k₁ ch value s).withCores k := by
  simp [doTmrCntCommit]
@[simp] theorem withCores_doTmrCmpCommit (k₁) (ch) (value) :
    doTmrCmpCommit k₁ ch value (s.withCores k) = (doTmrCmpCommit k₁ ch value s).withCores k := by
  simp only [doTmrCmpCommit, State.withCores_bankOn, State.withCores_chanReserved, State.withCores_resetIfDue, State.withCores_matchIfDue,
    State.withCores_catchIfDue, State.withCores_captureIfDue, State.withCores_modChan, State.withCores_ite]
@[simp] theorem withCores_doTmrIvlCommit (k₁) (ch) (value) :
    doTmrIvlCommit k₁ ch value (s.withCores k) = (doTmrIvlCommit k₁ ch value s).withCores k := by
  simp [doTmrIvlCommit]
@[simp] theorem withCores_doTmrDivWrite (k₁) (ch) (value) :
    doTmrDivWrite k₁ ch value (s.withCores k) = (doTmrDivWrite k₁ ch value s).withCores k := by
  simp [doTmrDivWrite]
@[simp] theorem State.withCores_bankRead (k₁) (off) :
    (s.withCores k).bankRead k₁ off = ((s.bankRead k₁ off).1.withCores k, (s.bankRead k₁ off).2) := by
  unfold State.bankRead
  (repeat' split) <;> simp
@[simp] theorem State.withCores_writeCtl (k₁) (ch) (v) : (s.withCores k).writeCtl k₁ ch v = (s.writeCtl k₁ ch v).withCores k := by
  simp [State.writeCtl]
@[simp] theorem State.withCores_writeCapctl (k₁) (ch) (v) : (s.withCores k).writeCapctl k₁ ch v = (s.writeCapctl k₁ ch v).withCores k := by
  simp [State.writeCapctl]
@[simp] theorem State.withCores_writeStat (k₁) (ch) (v) : (s.withCores k).writeStat k₁ ch v = (s.writeStat k₁ ch v).withCores k := by
  simp [State.writeStat]
@[simp] theorem State.withCores_bankWrite (k₁) (off) (v) : (s.withCores k).bankWrite k₁ off v = (s.bankWrite k₁ off v).withCores k := by
  unfold State.bankWrite
  (repeat' split) <;> simp
@[simp] theorem State.withCores_ioReadUnit (u) (off) :
    (s.withCores k).ioReadUnit u off = ((s.ioReadUnit u off).1.withCores k, (s.ioReadUnit u off).2) := by
  unfold State.ioReadUnit
  (repeat' split) <;> simp
@[simp] theorem State.withCores_ioWriteUnit (c) (addr) (u) (off) (v) :
    (s.withCores k).ioWriteUnit c addr u off v = (s.ioWriteUnit c addr u off v).withCores k := by
  simp [State.ioWriteUnit]

end Sys2Proof.Machine

namespace Sys2Proof.Machine

open Sys2Proof

section
variable (s : State) (c : PairNum) (ra rb : Reg) (h : issues s c true)
include h

theorem doIor_none (ht : s.ioTarget c ((s.pair c).gr rb + (s.pair c).offset) = none) :
    doIor c ra rb s = (s.modPair c (fun p => p.issued [rb])).busTrap c (coreWord (.ior c ra rb)) 3 0 := by
  rw [doIor, s.issue_eq c _ true _ _ h, State.pair_modPair, Pair.issued_gr, Pair.issued_offset, State.ioTarget_issued, ht]

theorem doIow_none (ht : s.ioTarget c ((s.pair c).gr rb + (s.pair c).offset) = none) :
    doIow c ra rb s = (s.modPair c (fun p => p.issued [ra, rb])).busTrap c (coreWord (.iow c ra rb)) 3 0 := by
  rw [doIow, s.issue_eq c _ true _ _ h, State.pair_modPair, Pair.issued_gr, Pair.issued_offset]
  simp only [State.ioTarget_issued, ht]

/-- IOR of a unit: its read with the issued cores, then the pair's register. -/
theorem doIor_some {u off : Nat} (ht : s.ioTarget c ((s.pair c).gr rb + (s.pair c).offset) = some (u, off)) :
    let read := s.useFree.ioReadUnit u off
    doIor c ra rb s = (read.1.withCores (s.modPair c (fun p => p.issued [rb])).cores).modPair c
      (fun p => (p.gw ra read.2).next (s.ioCycles (if ioDie u = coreDie c then 6 else 40))) := by
  intro read
  have hread : (s.modPair c (fun p => p.issued [rb])).useFree.ioReadUnit u off =
      (read.1.withCores (s.modPair c (fun p => p.issued [rb])).cores, read.2) := s.useFree.withCores_ioReadUnit _ u off
  rw [doIor, s.issue_eq c _ true _ _ h, State.pair_modPair, Pair.issued_gr, Pair.issued_offset, State.ioTarget_issued, ht]
  simp only [hread]
  rfl

/-- IOW of a unit: its write with the issued cores, then the pair's next word. -/
theorem doIow_some {u off : Nat} (ht : s.ioTarget c ((s.pair c).gr rb + (s.pair c).offset) = some (u, off)) :
    doIow c ra rb s = ((s.ioWriteUnit c ((s.pair c).gr rb + (s.pair c).offset) u off ((s.pair c).gr ra)).withCores
      (s.modPair c (fun p => p.issued [ra, rb])).cores).modPair c (fun p => p.next 1) := by
  have hwrite : ∀ addr v, (s.modPair c (fun p => p.issued [ra, rb])).ioWriteUnit c addr u off v =
      (s.ioWriteUnit c addr u off v).withCores (s.modPair c (fun p => p.issued [ra, rb])).cores := fun addr v => s.withCores_ioWriteUnit _ c addr u off v
  rw [doIow, s.issue_eq c _ true _ _ h, State.pair_modPair, Pair.issued_gr, Pair.issued_gr, Pair.issued_offset]
  simp only [State.ioTarget_issued, ht, hwrite]

end

theorem State.pair_withCores_issued (s x : State) (c : PairNum) (reads : List Reg) :
    (x.withCores (s.modPair c (fun p => p.issued reads)).cores).pair c = (s.pair c).issued reads := s.pair_modPair c _

theorem within_mono {m n : Nat} (h : m ≤ n) {f : Nat → Prop} (hf : within m f) : within n f := by
  obtain ⟨k, h1, hk, hfk⟩ := hf
  exact ⟨k, h1, hk.trans h, hfk⟩

/-- Settles O17: an address that reaches no unit traps; a unit's registers do not look at the cores, so that its part is that of the state before the issue. -/
theorem ioReadsAndWrites : Obligations.IoReadsAndWrites := by
  intro c ra rb s h htrap p addr
  have haddr : (s.pair c).gr rb + (s.pair c).offset = addr := rfl
  split
  · next ht =>
    exact ⟨⟨_, congrArg Host.Outcome.next (doIor_none s c ra rb h ht), s.busTrap_enters c [rb] _ 3 0 htrap⟩,
      ⟨_, congrArg Host.Outcome.next (doIow_none s c ra rb h ht), s.busTrap_enters c [ra, rb] _ 3 0 htrap⟩⟩
  · next u off ht =>
    refine ⟨⟨_, congrArg Host.Outcome.next (doIor_some s c ra rb h ht), ?_, rfl⟩, ⟨_, congrArg Host.Outcome.next (doIow_some s c ra rb h ht), ?_, ?_, rfl⟩⟩
    · rw [State.pair_modPair, State.pair_withCores_issued]
      split
      · exact within_mono (by decide) (s.ioCycles_within (bound := 6) (by decide) (pairWrites_issued p ra _ [rb] _))
      · exact s.ioCycles_within (by decide) (pairWrites_issued p ra _ [rb] _)
    · rw [State.pair_modPair, State.pair_withCores_issued]
      exact onlyFlow_issued_next p [ra, rb] 1
    · rw [State.pair_modPair, State.pair_withCores_issued]
      exact advances_issued_next p [ra, rb] 1

end Sys2Proof.Machine

/-! ### What events, log entries and replies leave; pair failures and the patrol (R219, R294-R302, R377, R484) -/

namespace Sys2Proof.Machine

open Sys2Proof

/-- What every stage of a fold leaves, the fold leaves. -/
theorem foldl_keeps {α β : Type} (g : State → β) {f : State → α → State} (hf : ∀ s a, g (f s a) = g s) (l : List α) (s : State) :
    g (l.foldl f s) = g s := by
  induction l generalizing s with
  | nil => rfl
  | cons a l ih => exact (ih _).trans (hf s a)

/-! #### Frames -/

section
variable (s : State)

@[simp] theorem State.modFn_cores (fn) (f) : (s.modFn fn f).cores = s.cores := by
  unfold State.modFn
  split <;> simp
@[simp] theorem State.emit_cores (o) : (s.emit o).cores = s.cores := rfl
@[simp] theorem State.exitL1_cores (p) : (s.exitL1 p).cores = s.cores := rfl
@[simp] theorem State.sendWrite_cores (p) (pasid) (addr) (b) : (s.sendWrite p pasid addr b).cores = s.cores := rfl
@[simp] theorem State.issueRead_cores (p) (pasid) (ranges) (key) : (s.issueRead p pasid ranges key).cores = s.cores := rfl
@[simp] theorem State.sendReads_cores (p) (pasid) (ranges) (key) : (s.sendReads p pasid ranges key).cores = s.cores := by
  unfold State.sendReads
  split <;> simp
@[simp] theorem State.sendRead_cores (p) (pasid) (addr) (len) (key) : (s.sendRead p pasid addr len key).cores = s.cores := by simp [State.sendRead]
@[simp] theorem State.work_cores : s.work.cores = s.cores := rfl
@[simp] theorem State.sendVector_cores (fn) (v) : (s.sendVector fn v).cores = s.cores := rfl
@[simp] theorem State.pfVector_cores (v) : (s.pfVector v).cores = s.cores := by simp [State.pfVector]
@[simp] theorem State.logEntry_cores (kind) (cls) (wcount) (site) (who) (detail) : (s.logEntry kind cls wcount site who detail).cores = s.cores := by
  unfold State.logEntry
  split <;> simp
@[simp] theorem State.countEvent_cores (site) : (s.countEvent site).1.cores = s.cores := rfl
@[simp] theorem State.fireReport_cores (site) : (s.fireReport site).cores = s.cores := by
  unfold State.fireReport
  split <;> simp
@[simp] theorem State.logFault_cores (kind) (site) (who) (detail) : (s.logFault kind site who detail).cores = s.cores := by
  unfold State.logFault
  dsimp only
  (repeat' split) <;> simp
@[simp] theorem State.journal_cores (t) (typ) (body) (ref) (step) : (s.journal t typ body ref step).cores = s.cores := by
  unfold State.journal
  dsimp only
  (repeat' split) <;> simp
@[simp] theorem State.modOq_cores (p) (f) : (s.modOq p f).cores = s.cores := rfl
@[simp] theorem State.fetchOrders_cores (p) : (s.fetchOrders p).cores = s.cores := by
  unfold State.fetchOrders
  dsimp only
  (repeat' split) <;> simp
@[simp] theorem State.setStage_cores (p) (g) : (s.setStage p g).cores = s.cores := rfl
@[simp] theorem State.effected_cores (p) : (s.effected p).cores = s.cores := rfl
@[simp] theorem State.dueCage_cores (c) : (s.dueCage c).cores = s.cores := by
  unfold State.dueCage
  split <;> simp
@[simp] theorem State.startWaves_cores (first) (due) : (s.startWaves first due).cores = s.cores := by
  unfold State.startWaves
  split
  · rfl
  · exact foldl_keeps State.cores (fun s c => s.dueCage_cores c) _ s
@[simp] theorem State.bindTenant_cores (t) (x) : (s.bindTenant t x).cores = s.cores := by simp [State.bindTenant]
@[simp] theorem State.afterReply_cores (x) : (s.afterReply x).cores = s.cores := by
  unfold State.afterReply
  split <;> simp
@[simp] theorem State.onceReplied_cores (p) (x) : (s.onceReplied p x).cores = s.cores := rfl
@[simp] theorem State.putReply_cores (p) (time) (status0) (result0) : (s.putReply p time status0 result0).cores = s.cores := by
  unfold State.putReply
  dsimp only
  (repeat' split) <;> simp
@[simp] theorem State.done_cores (p) (result) : (s.done p result).cores = s.cores := by simp [State.done]
@[simp] theorem State.setImage_cores (b) (x) : (s.setImage b x).cores = s.cores := rfl
@[simp] theorem State.restartOrder_cores (p) : (s.restartOrder p).cores = s.cores := by
  unfold State.restartOrder
  (repeat' split) <;> simp

@[simp] theorem State.modFn_data (fn) (f) : (s.modFn fn f).data = s.data := by
  unfold State.modFn
  split <;> simp
@[simp] theorem State.emit_data (o) : (s.emit o).data = s.data := rfl
@[simp] theorem State.exitL1_data (p) : (s.exitL1 p).data = s.data := rfl
@[simp] theorem State.work_data : s.work.data = s.data := rfl
@[simp] theorem State.sendVector_data (fn) (v) : (s.sendVector fn v).data = s.data := rfl
@[simp] theorem State.vector_data (fn) (v) : (s.vector fn v).data = s.data := by
  unfold State.vector
  dsimp only
  (repeat' split) <;> simp
@[simp] theorem State.pfVector_data (v) : (s.pfVector v).data = s.data := by simp [State.pfVector]
@[simp] theorem State.fire_data (u) (n) : (s.fire u n).data = s.data := by
  unfold State.fire
  split <;> simp
@[simp] theorem State.logEntry_data (kind) (cls) (wcount) (site) (who) (detail) : (s.logEntry kind cls wcount site who detail).data = s.data := by
  unfold State.logEntry
  split <;> simp
@[simp] theorem State.countEvent_data (site) : (s.countEvent site).1.data = s.data := rfl
@[simp] theorem State.fireReport_data (site) : (s.fireReport site).data = s.data := by
  unfold State.fireReport
  split <;> simp
@[simp] theorem State.logFault_data (kind) (site) (who) (detail) : (s.logFault kind site who detail).data = s.data := by
  unfold State.logFault
  dsimp only
  (repeat' split) <;> simp

@[simp] theorem State.modFn_faults (fn) (f) : (s.modFn fn f).faults = s.faults := by
  unfold State.modFn
  split <;> simp
@[simp] theorem State.emit_faults (o) : (s.emit o).faults = s.faults := rfl
@[simp] theorem State.exitL1_faults (p) : (s.exitL1 p).faults = s.faults := rfl
@[simp] theorem State.work_faults : s.work.faults = s.faults := rfl
@[simp] theorem State.sendVector_faults (fn) (v) : (s.sendVector fn v).faults = s.faults := rfl
@[simp] theorem State.vector_faults (fn) (v) : (s.vector fn v).faults = s.faults := by
  unfold State.vector
  dsimp only
  (repeat' split) <;> simp
@[simp] theorem State.pfVector_faults (v) : (s.pfVector v).faults = s.faults := by simp [State.pfVector]
@[simp] theorem State.fire_faults (u) (n) : (s.fire u n).faults = s.faults := by
  unfold State.fire
  split <;> simp
@[simp] theorem State.fireReport_faults (site) : (s.fireReport site).faults = s.faults := by
  unfold State.fireReport
  split <;> simp
@[simp] theorem State.countEcc_faults (site) : (s.countEcc site).faults = s.faults := by
  unfold State.countEcc
  split <;> simp

end

/-! #### An entry of the fault log -/

/-- An entry of a log in service takes the next number. -/
theorem State.logEntry_next (s : State) (kind cls : Byte) (wcount : W16) (site who : W32) (detail : W64) (hd : s.data.inService = true) :
    (s.logEntry kind cls wcount site who detail).faults.next = s.faults.next + 1 := by
  simp [State.logEntry, hd]

/-- A fault that counts, at a site that is not put down already, adds one entry to a log in service. -/
theorem State.logFault_next (s : State) (kind : Byte) (site who : W32) (detail : W64) (hd : s.data.inService = true)
    (ha : s.faults.acts.any (fun a => a.1 == site) = false) :
    (s.logFault kind site who detail).faults.next = s.faults.next + 1 := by
  have hd' : (s.fireReport site).data.inService = true := by rw [State.fireReport_data, hd]
  have ha' : (s.fireReport site).faults.acts.any (fun a => a.1 == site) = false := by rw [State.fireReport_faults, ha]
  have hc : ((s.fireReport site).countEvent site).1.faults.next = s.faults.next :=
    (rfl : _ = (s.fireReport site).faults.next).trans (by rw [State.fireReport_faults])
  unfold State.logFault
  dsimp only
  split
  · rw [if_neg (by rw [ha']; decide)]
    have hn := fun kind cls wcount who detail => ((s.fireReport site).countEvent site).1.logEntry_next kind cls wcount site who detail
      (by rw [State.countEvent_data, hd'])
    split
    · exact (hn _ _ _ _ _).trans (by rw [hc])
    · exact (hn _ _ _ _ _).trans (by rw [hc])
  · exact (State.logEntry_next _ _ _ _ _ _ _ hd').trans (by rw [State.fireReport_faults])

/-! #### Failures -/

/-- The tests of other pairs that stop leave the failed pair. -/
theorem State.stopPairTests_pair (s : State) (c : PairNum) : (s.stopPairTests c).pair c = s.pair c := by
  refine foldl_keeps (fun v => v.pair c) (fun v x => ?_) _ _
  split
  · next hx =>
    have hne : c ≠ x := fun e => by simp [e] at hx
    rw [State.loadPair, State.pair_modPair_ne _ _ _ _ hne, State.pair_modPair_ne _ _ _ _ hne]
    rfl
  · rfl

/-- The failed pair stands still and serves no slot. -/
theorem State.failPair_stopped (s : State) (c : PairNum) (cause : PairCause) :
    ((s.failPair c cause).pair c).running = false ∧ ((s.failPair c cause).pair c).slot = none := by
  have stopped : ∀ v : State, ((v.stopPair c).pair c).running = false ∧ ((v.stopPair c).pair c).slot = none := fun v => by
    rw [State.stopPair, State.pair_modPair]
    exact ⟨rfl, rfl⟩
  unfold State.failPair
  split
  · next hc =>
    subst hc
    have h : ∀ v : State, ((((v.spoilActivation 0).spoilActivation 1).logPair tender cause 0xFF).pair tender) = v.pair tender := fun v =>
      State.pair_congr ((State.logFault_cores _ _ _ _ _).trans rfl) tender
    rw [h]
    exact stopped _
  · next hc =>
    dsimp only
    generalize (if (s.pair c).slot.isSome = true then _ else 255) = taker
    have htest : ∀ v : State, (((v.stopPair c).modPair c (fun p => { p with testing := true, failures := p.failures + 1 })).pair c).running = false ∧
        (((v.stopPair c).modPair c (fun p => { p with testing := true, failures := p.failures + 1 })).pair c).slot = none := fun v => by
      rw [State.pair_modPair]
      exact stopped v
    have hlog : ∀ v : State, (v.logPair c cause taker).pair c = v.pair c := fun v => State.pair_congr (State.logFault_cores v _ _ _ _) c
    rw [hlog]
    split
    · exact htest _
    · rw [State.stopPairTests_pair]
      exact htest _

theorem State.failPair_tender (s : State) (cause : PairCause) : (s.failPair tender cause).cores.tenderUp = false := by
  rw [State.failPair, if_pos rfl, State.logPair, State.logFault_cores]
  rfl

theorem doLockstepSignature_due (s : State) (c : PairNum) (st : List Nat) (x : W64) (hr : (s.pair c).running = true)
    (hdue : (s.pair c).sigAt + 1024 ≤ (s.pair c).cyc.toNat) :
    doLockstepSignature c st x s = if x = (s.pair c).signature st then s.modPair c (fun p => { p with sigAt := p.cyc.toNat / 1024 * 1024 })
      else (s.failPair c .divergence).settle := by
  rw [doLockstepSignature]
  exact if_pos (by rw [hr, decide_eq_true hdue]; rfl)

theorem doPairFailure_running (s : State) (c : PairNum) (cause : PairCause) (hr : (s.pair c).running = true) :
    doPairFailure c cause s = (s.failPair c cause).settle := if_pos hr

/-- A passed self-test loads the pair as a spare. -/
theorem doPairSelftestComplete_passed (s : State) (c : PairNum) (htest : (s.pair c).testing = true) (hret : (s.pair c).retired = false)
    (hpow : s.pairPowered c = true) (hc : c ≠ tender) :
    doPairSelftestComplete c true s = (((s.fire 0 170).modPair c (fun p => { p with testing := false })).loadPair c s.fw.release none).settle := by
  have hfw : (s.fire 0 170).fw = s.fw := (congrArg State.fw (s.fire_frame 0 170) :)
  rw [doPairSelftestComplete]
  simp only [htest, hret, hpow, decide_eq_false hc, Bool.not_true, Bool.or_self, Bool.false_eq_true, if_false, if_true, hfw]

theorem State.loadPair_pair (s : State) (c : PairNum) (rel : W32) (slot : Option Nat) :
    (s.loadPair c rel slot).pair c =
      { pmem := imageTable rel (c.val == 40), running := true, release := rel, slot := slot, retired := (s.pair c).retired
        failures := (s.pair c).failures } := s.pair_modPair c _

/-- The patrol of a pair's memory. -/
theorem doSramPatrol_corrected (s : State) (site : W32) (r : BitVec 24) (b : BitVec 16) (hpat : patrolled site = true) :
    doSramPatrol site (.corrected r b) s = ((s.countEcc site).logFault 1 site whoNone (eccDetail r b)).settle := if_neg (by rw [hpat]; decide)

theorem doSramPatrol_uncorrectable (s : State) (site : W32) (r : BitVec 24) (b : BitVec 16) (hpat : patrolled site = true) :
    doSramPatrol site (.uncorrectable r b) s = ((s.logFault 2 site whoNone (eccDetail r b)).memoryFailure site).settle :=
  if_neg (by rw [hpat]; decide)

theorem State.countEcc_pair (s : State) (site : W32) {c : PairNum} (h : pairOfSite site = some c) :
    (s.countEcc site).pair c = if Config.programMacro (fieldOf site 11 0) then { s.pair c with eccp := satInc (s.pair c).eccp }
      else { s.pair c with eccd := satInc (s.pair c).eccd } := by
  rw [State.countEcc, h]
  exact s.pair_modPair c _

theorem stagingGranules_eq : stagingGranules = 0x30000000 := by norm_num [stagingGranules]

/-- Settles O18. -/
theorem pairFailureAndReturn : Obligations.PairFailureAndReturn := by
  intro c cause st x s
  have lock : (s.pair c).running = true → (s.pair c).sigAt + 1024 ≤ (s.pair c).cyc.toNat → exec (.lockstepSignature c st x) s = .next _ :=
    fun hr hdue => congrArg Host.Outcome.next (doLockstepSignature_due s c st x hr hdue)
  have fail : ∀ cause, (s.pair c).running = true → exec (.pairFailure c cause) s = .next _ :=
    fun cause hr => congrArg Host.Outcome.next (doPairFailure_running s c cause hr)
  refine ⟨fun hr hdue => ⟨fun hx => ?_, fun hx => ?_⟩, fun hearly => ?_, fun hr => ⟨_, fail cause hr, s.failPair_stopped c cause⟩,
    fun hr hc => ⟨_, fail cause hr, by rw [hc]; exact s.failPair_tender cause⟩, fun htest hret hpow hc => ?_, fun hdown => ?_,
    fun hr hup hhub => ?_, fun site r b hsite hpat hserv hact => ⟨⟨_, congrArg Host.Outcome.next (doSramPatrol_corrected s site r b hpat), ?_⟩, fun hr => ?_⟩,
    fun g hserv hg hnew hlen => ?_⟩
  · rw [lock hr hdue, fail _ hr, if_neg hx]
  · refine ⟨_, (lock hr hdue).trans (by rw [if_pos hx]), onlyPair_modPair s c _, s.pair_modPair c _⟩
  · refine congrArg Host.Outcome.next ?_
    rw [doLockstepSignature]
    exact if_neg (by rw [decide_eq_false (Nat.not_le.mpr hearly), Bool.and_false]; decide)
  · refine ⟨_, congrArg Host.Outcome.next (doPairSelftestComplete_passed s c htest hret hpow hc), ?_⟩
    rw [State.loadPair_pair]
    exact ⟨rfl, rfl, rfl, rfl, rfl, fun _ => ite_self _⟩
  · have hload : doTenderRestart true s = s.loadPair tender s.fw.release none := by
      rw [doTenderRestart, hdown]
      rfl
    refine ⟨_, congrArg Host.Outcome.next hload, onlyPair_modPair s tender _, ?_⟩
    rw [State.loadPair_pair]
    exact ⟨rfl, rfl, rfl⟩
  · have hdone : doTenderRestartComplete s = (((((s.onCores (fun k => { k with tenderUp := true })).restartOrder 0).restartOrder 1).fetchOrders 0).fetchOrders 1).settle := by
      rw [doTenderRestartComplete]
      exact if_pos (by rw [hr, hup, hhub]; rfl)
    refine ⟨_, congrArg Host.Outcome.next hdone, ?_⟩
    simp only [State.fetchOrders_cores, State.restartOrder_cores]
    rfl
  · have hdata : (s.countEcc site).data = s.data := by
      rw [State.countEcc]
      split <;> rfl
    refine ⟨?_, ?_⟩
    · rw [State.logFault_next _ _ _ _ _ (by rw [hdata, hserv]) (by rw [State.countEcc_faults, hact]), State.countEcc_faults]
    · exact (State.pair_congr (State.logFault_cores _ _ _ _ _) c).trans (s.countEcc_pair site hsite)
  · refine ⟨s.logFault 2 site whoNone (eccDetail r b), ?_, s.logFault_next _ _ _ _ hserv hact, State.logFault_cores _ _ _ _ _⟩
    refine congrArg Host.Outcome.next ((doSramPatrol_uncorrectable s site r b hpat).trans ?_)
    rw [State.memoryFailure, hsite]
    exact congrArg State.settle (if_pos (by rw [State.pair_congr (State.logFault_cores _ _ _ _ _), hr]))
  · have hcount : ¬s.data.scrubbed.length + 1 = stagingGranules := by
      rw [stagingGranules_eq]
      omega
    have hdue : (!s.data.inService || decide (stagingGranules ≤ g.toNat) || s.data.scrubbed.contains g.toNat) = false := by
      rw [hserv, stagingGranules_eq, decide_eq_false (Nat.not_le.mpr hg)]
      simpa using hnew
    refine congrArg Host.Outcome.next ?_
    rw [doScrubGranule, if_neg (by rw [hdue]; decide)]
    simp only [if_neg hcount, State.onData]

end Sys2Proof.Machine

namespace Sys2Proof.Machine
open Sys2Proof

/-! ### Timer banks -/

section
variable (s : State)

@[simp] theorem State.modFn_banks (fn) (f) : (s.modFn fn f).banks = s.banks := by
  unfold State.modFn
  split <;> simp
@[simp] theorem State.emit_banks (o) : (s.emit o).banks = s.banks := rfl
@[simp] theorem State.exitL1_banks (p) : (s.exitL1 p).banks = s.banks := rfl
@[simp] theorem State.work_banks : s.work.banks = s.banks := rfl
@[simp] theorem State.sendVector_banks (fn) (v) : (s.sendVector fn v).banks = s.banks := rfl
@[simp] theorem State.vector_banks (fn) (v) : (s.vector fn v).banks = s.banks := by
  unfold State.vector
  dsimp only
  (repeat' split) <;> simp
@[simp] theorem State.pfVector_banks (v) : (s.pfVector v).banks = s.banks := by simp [State.pfVector]
@[simp] theorem State.fire_banks (u) (n) : (s.fire u n).banks = s.banks := by
  unfold State.fire
  split <;> simp
@[simp] theorem State.logEntry_banks (kind) (cls) (wcount) (site) (who) (detail) : (s.logEntry kind cls wcount site who detail).banks = s.banks := by
  unfold State.logEntry
  split <;> simp
@[simp] theorem State.countEvent_banks (site) : (s.countEvent site).1.banks = s.banks := rfl
@[simp] theorem State.fireReport_banks (site) : (s.fireReport site).banks = s.banks := by
  unfold State.fireReport
  split <;> simp
@[simp] theorem State.logFault_banks (kind) (site) (who) (detail) : (s.logFault kind site who detail).banks = s.banks := by
  unfold State.logFault
  dsimp only
  (repeat' split) <;> simp
@[simp] theorem State.ioReserved_banks (site) (off) (rsv) (v) : (s.ioReserved site off rsv v).banks = s.banks := by
  unfold State.ioReserved
  (repeat' split) <;> simp
@[simp] theorem State.fireChan_banks (k) (ch) : (s.fireChan k ch).banks = s.banks := by
  unfold State.fireChan
  split <;> simp
@[simp] theorem State.fireChan_data (k) (ch) : (s.fireChan k ch).data = s.data := by
  unfold State.fireChan
  split <;> simp

@[simp] theorem State.bank_modBank (k : BankNum) (f) : (s.modBank k f).bank k = f (s.bank k) := by
  simp [State.bank, State.modBank]

theorem State.bank_modBank_ne (k j : BankNum) (f) (h : j ≠ k) : (s.modBank k f).bank j = s.bank j :=
  tget_tmod_ne _ _ _ _ _ (by simpa [Fin.ext_iff] using h)

@[simp] theorem State.chan_modChan (k : BankNum) (ch : ChanNum) (f) : (s.modChan k ch f).chan k ch = f (s.chan k ch) := by
  simp [State.chan, State.modChan]

theorem State.chan_modChan_ne (k : BankNum) (ch i : ChanNum) (f) (h : i ≠ ch) : (s.modChan k ch f).chan k i = s.chan k i := by
  simp only [State.chan, State.modChan, State.bank_modBank]
  exact tget_tmod_ne _ _ _ _ _ (by simpa [Fin.ext_iff] using h)

theorem State.chan_congr {s t : State} (h : t.banks = s.banks) (k : BankNum) (ch : ChanNum) : t.chan k ch = s.chan k ch := by
  simp [State.chan, State.bank, h]

@[simp] theorem State.chan_tmrErr (k : BankNum) (ch : ChanNum) : (s.tmrErr k).chan k ch = s.chan k ch := by
  simp [State.chan, State.tmrErr]

/-- A change of one channel leaves every other part. -/
theorem onlyChan_modChan (k : BankNum) (ch : ChanNum) (f) : onlyChan k ch s (s.modChan k ch f) :=
  ⟨fun j h => s.bank_modBank_ne k j _ h, fun i h => s.chan_modChan_ne k ch i f h, by simp [State.modChan], rfl⟩

theorem onlyChan_refl (k : BankNum) (ch : ChanNum) : onlyChan k ch s s := ⟨fun _ _ => rfl, fun _ _ => rfl, rfl, rfl⟩

end

theorem onlyChan_trans {s t v : State} {k : BankNum} {ch : ChanNum} (h : onlyChan k ch s t) (g : onlyChan k ch t v) : onlyChan k ch s v := by
  obtain ⟨hb, hc, he, hs⟩ := h
  obtain ⟨gb, gc, ge, gs⟩ := g
  refine ⟨fun j n => (gb j n).trans (hb j n), fun i n => (gc i n).trans (hc i n), ge.trans he, ?_⟩
  rw [← hs, ← gs]

/-- A value committed by a HI write is its low half above the 32 bits staged or live (R350). -/
theorem commitValue_eq (lo : Option W32) (live : W48) (v : W32) :
    commitValue lo live v = (v.extractLsb' 0 16 ++ lo.getD (live.extractLsb' 0 32) : W48) := by
  apply BitVec.eq_of_toNat_eq
  rw [toNat_append_eq]
  have hl : live.setWidth 32 = live.extractLsb' 0 32 := by ext i hi; simp
  have := (lo.getD (live.extractLsb' 0 32)).isLt
  simp only [commitValue, hl, BitVec.toNat_ofNat, BitVec.extractLsb'_toNat, Nat.shiftRight_zero]
  omega

/-- The three HI registers of a channel, by offset, reserve their upper half. -/
theorem bankRsv_hi (k : BankNum) (ch : ChanNum) {off : Nat} (h : off = 12 ∨ off = 20 ∨ off = 28) :
    bankRsv k (256 + 64 * ch.val + off) = 0xFFFF0000 := by
  have hc := ch.isLt
  have hm : (256 + 64 * ch.val + off) % 64 = off := by omega
  unfold bankRsv
  rw [if_neg (by omega), if_neg (by omega), if_neg (by simp; omega), show (0x40 : Nat) = 64 from rfl, hm]
  rcases h with rfl | rfl | rfl <;> rfl

theorem State.chanReserved_hi (s : State) (k : BankNum) (ch : ChanNum) (v : W32) {off : Nat} (h : off = 12 ∨ off = 20 ∨ off = 28) :
    s.chanReserved k ch off v = s.ioReserved (bankSite k) (256 + 64 * ch.val + off) 0xFFFF0000 v := by
  rw [← bankRsv_hi k ch h]
  rfl

section
variable {s : State} {k : BankNum} {ch : ChanNum}

theorem State.resetIfDue_none (h : (s.chan k ch).resetDue = false) : s.resetIfDue k ch = s := by simp [State.resetIfDue, h]
theorem State.catchIfDue_none (h : (s.chan k ch).catchup = none) : s.catchIfDue k ch = s := by simp [State.catchIfDue, h]
theorem State.captureIfDue_none (h : (s.chan k ch).capDue = false) : s.captureIfDue k ch = s := by simp [State.captureIfDue, h]
theorem State.matchIfDue_none (add : Bool) (he : (s.chan k ch).equal = false) (hl : (s.chan k ch).late = false) :
    s.matchIfDue k ch add = s := by simp [State.matchIfDue, Chan.matchDue, he, hl]

/-- What a match leaves of its channel before its actions (R349, R352, R356). -/
def Chan.matched (c : Chan) (add : Bool) : Chan :=
  let d := { c with
    equal := false, late := false, stat := c.stat ||| 1, pulse := c.trgo == 0 && c.en
    ctl := if c.act.getLsbD 2 then c.ctl ^^^ 0x400 else c.ctl }
  if add then d.autoAdd (!c.equal && c.late) else d

@[simp] theorem State.grantMover_chan (s : State) (k : BankNum) (n : Nat) (ch : ChanNum) : (s.grantMover k n).chan k ch = s.chan k ch := by
  unfold State.grantMover
  dsimp only
  split
  · rfl
  · simp

@[simp] theorem State.grantMover_evus (s : State) (k : BankNum) (n : Nat) : (s.grantMover k n).evus = s.evus := by
  unfold State.grantMover
  dsimp only
  split <;> rfl

@[simp] theorem State.fireChan_chan (s : State) (k : BankNum) (ch i : ChanNum) : (s.fireChan k ch).chan k i = s.chan k i :=
  State.chan_congr (by simp) k i

theorem State.doMatch_chan (add : Bool) : (s.doMatch k ch add).chan k ch = (s.chan k ch).matched add := by
  unfold State.doMatch
  dsimp only
  (repeat' split) <;> simp [Chan.matched, *]

theorem State.doMatch_evus (add : Bool) (h : (s.chan k ch).act.getLsbD 0 = false) : (s.doMatch k ch add).evus = s.evus := by
  unfold State.doMatch
  dsimp only
  rw [h, if_neg Bool.false_ne_true]
  split <;> simp [State.modChan, State.modBank]

theorem State.doMatch_data (add : Bool) (h : k ≠ 0 ∨ (s.chan k ch).act.getLsbD 3 = false) : (s.doMatch k ch add).data = s.data := by
  have hg : (decide (k = 0) && (s.chan k ch).act.getLsbD 3) = false := by
    rcases h with h | h
    · rw [decide_eq_false h, Bool.false_and]
    · rw [h, Bool.and_false]
  unfold State.doMatch
  dsimp only
  rw [hg, if_neg Bool.false_ne_true]
  split <;> simp [State.modChan, State.modBank]

/-- Without actions a match writes its channel alone. -/
theorem State.doMatch_onlyChan (add : Bool) (h : (s.chan k ch).act = 0) : onlyChan k ch s (s.doMatch k ch add) := by
  unfold State.doMatch
  simpa [h] using onlyChan_modChan s k ch _

end

/-- R346: the source of a channel that fires is pending. -/
theorem State.fireChan_pends (s : State) (k : BankNum) (ch : ChanNum) :
    (k = 0 → ((s.fireChan k ch).evu 0).isPend (129 + ch.val) = true) ∧
    (k ≠ 0 → s.bankOn k = true → ((s.fireChan k ch).evu k).isPend (32 * (ch.val / 2) + 22 + ch.val % 2) = true) := by
  have hc := ch.isLt
  constructor
  · rintro rfl
    have hr : sourceReal 0 (129 + ch.val) = true := by simp [sourceReal]; omega
    rw [State.fireChan, if_pos rfl, State.fire_isPend s 0 _ _ hr rfl, beq_self_eq_true, Bool.or_true]
  · intro hk hb
    have hr : sourceReal k (32 * (ch.val / 2) + 22 + ch.val % 2) = true := by simp [sourceReal, hk]; omega
    have he : s.evuOn k = true := by
      rw [State.bankOn, if_neg hk] at hb
      rw [State.evuOn, Bool.or_assoc, hb, Bool.or_true]
    rw [State.fireChan, if_neg hk, State.fire_isPend s k _ _ hr he, beq_self_eq_true, Bool.or_true]

/-- Settles O24: TMR_IVL_COMMIT, TMR_DIV_WRITE, TMR_CNT_COMMIT and TMR_CMP_COMMIT of a powered bank. -/
theorem timerCommits : Obligations.TimerCommits := by
  intro k ch v s hb join c noted
  have notedEq : ∀ {off : Nat}, off = 12 ∨ off = 20 ∨ off = 28 → s.chanReserved k ch off v = noted off := fun h => s.chanReserved_hi k ch v h
  have notedChan : ∀ off, (noted off).chan k ch = c := fun off => State.chan_congr (by simp [noted]) k ch
  refine ⟨fun h off => State.ioReserved_clear s _ _ _ v (by decide) h, ?ivl, ?div, ?cnt, ?lose, ?cmp, ?hit⟩
  case ivl =>
    refine ⟨_, congrArg Host.Outcome.next (if_pos hb), ?_⟩
    rw [notedEq (by simp)]
    exact ⟨onlyChan_modChan _ k ch _, by rw [State.chan_modChan, notedChan, commitValue_eq]⟩
  case div =>
    refine ⟨_, congrArg Host.Outcome.next (if_pos hb), onlyChan_modChan _ k ch _, by rw [State.chan_modChan]⟩
  case cnt =>
    intro u d
    refine ⟨_, congrArg Host.Outcome.next (if_pos hb), ?_⟩
    rw [notedEq (by simp)]
    refine ⟨onlyChan_modChan _ k ch _, ?_⟩
    rw [State.chan_modChan]
    simp only [commitValue_eq]
    rfl
  case lose =>
    intro h
    unfold State.loseStep
    rw [State.resetIfDue_none (by rw [notedChan, h])]
  case cmp =>
    intro hr hcu hcap he hl
    refine ⟨_, congrArg Host.Outcome.next (if_pos hb), ?_⟩
    rw [notedEq (by simp), State.resetIfDue_none (by rw [notedChan, hr]), State.matchIfDue_none _ (by rw [notedChan, he]) (by rw [notedChan, hl]),
      State.catchIfDue_none (by rw [notedChan, hcu]), State.captureIfDue_none (by rw [notedChan, hcap])]
    refine ⟨onlyChan_modChan _ k ch _, ?_⟩
    rw [State.chan_modChan, notedChan]
    simp only [commitValue_eq]
    rfl
  case hit =>
    intro hr hcu hcap he ha
    refine ⟨_, congrArg Host.Outcome.next (if_pos hb), ?_⟩
    rw [notedEq (by simp), State.resetIfDue_none (by rw [notedChan, hr])]
    have hm : (noted 20).matchIfDue k ch false = (noted 20).doMatch k ch false := if_pos (by simp [Chan.matchDue, notedChan, he])
    have hmc : ((noted 20).doMatch k ch false).chan k ch = c.matched false := by rw [State.doMatch_chan, notedChan]
    rw [hm, State.catchIfDue_none (by rw [hmc]; exact hcu), State.captureIfDue_none (by rw [hmc]; exact hcap)]
    refine ⟨onlyChan_trans (State.doMatch_onlyChan false (by rw [notedChan, ha])) (onlyChan_modChan _ k ch _), ?_, ?_⟩
    · rw [State.chan_modChan, hmc]
      exact commitValue_eq c.cmpLo c.cmp v
    · rw [State.chan_modChan, hmc]
      dsimp only
      have hs : (c.matched false).stat = c.stat ||| 1 := rfl
      rw [hs]
      split <;> simp

/-- A match whose ACT.EVT is set fires as its channel does; the mover's grant leaves the event units. -/
theorem State.doMatch_fires (s : State) (k : BankNum) (ch : ChanNum) (add : Bool) (h : (s.chan k ch).act.getLsbD 0 = true) :
    ∃ t : State, t.power = s.power ∧ (s.doMatch k ch add).evus = (t.fireChan k ch).evus := by
  unfold State.doMatch
  dsimp only
  rw [h, if_pos rfl]
  split
  · refine ⟨_, ?_, State.grantMover_evus _ _ _⟩
    rfl
  · refine ⟨_, ?_, rfl⟩
    rfl

/-- R352: the auto-add of a match on time. -/
theorem Chan.autoAdd_onTime (c : Chan) : c.autoAdd false = { c with cmp := c.cmp + c.ivl } := by
  unfold Chan.autoAdd
  split
  · next h =>
    have hc : c.cmp + c.ivl = c.cmp := by rw [h]; simp
    rw [hc]
  · rfl

theorem State.fireChan_frame (s : State) (k : BankNum) (ch : ChanNum) : { s.fireChan k ch with evus := s.evus, power := s.power } = s := by
  unfold State.fireChan
  split <;> exact s.fire_frame _ _

theorem State.captureIfDue_frame (s : State) (k : BankNum) (ch : ChanNum) :
    { s.captureIfDue k ch with evus := s.evus, power := s.power, banks := s.banks } = s := by
  unfold State.captureIfDue
  dsimp only
  split
  · split
    · exact (congrArg (fun x : State => { x with banks := s.banks }) (State.fireChan_frame (s.modChan k ch _) k ch) :)
    · rfl
  · rfl

/-- Settles O25. -/
theorem timerEvents : Obligations.TimerEvents := by
  intro k ch s c
  refine ⟨fun he => ?onTime, fun he hl hi => ?late, fun w n hcu => ?catchup, fun hcap => ?capture, fun hr => ?reset⟩
  case onTime =>
    have hm : doTimerMatch k ch s = s.doMatch k ch true := if_pos (by simp [Chan.matchDue, c, he])
    have hc : (s.doMatch k ch true).chan k ch = c.matched true := s.doMatch_chan true
    refine ⟨s.doMatch k ch true, congrArg Host.Outcome.next hm, ?_⟩
    rw [hc]
    have hd : c.matched true = { c with
        equal := false, late := false, stat := c.stat ||| 1, pulse := c.trgo == 0 && c.en
        ctl := if c.act.getLsbD 2 then c.ctl ^^^ 0x400 else c.ctl, cmp := c.cmp + c.ivl } := by
      simp only [Chan.matched, he, Bool.not_true, Bool.false_and, if_true, Chan.autoAdd_onTime]
    rw [hd]
    refine ⟨rfl, rfl, ?_, rfl, rfl, rfl, State.doMatch_evus true, fun ha hk => ?_, fun ha hk hb => ?_, State.doMatch_data true⟩
    · unfold Chan.out
      cases c.act.getLsbD 2 <;> simp
    · obtain ⟨t, -, ht⟩ := s.doMatch_fires k ch true ha
      rw [State.evu, ht]
      subst hk
      exact (t.fireChan_pends 0 ch).1 rfl
    · obtain ⟨t, hp, ht⟩ := s.doMatch_fires k ch true ha
      rw [State.evu, ht]
      refine (t.fireChan_pends k ch).2 hk ?_
      simpa [State.bankOn, State.domOn, hp] using hb
  case late =>
    have hm : doTimerMatch k ch s = s.doMatch k ch true := if_pos (by simp [Chan.matchDue, c, hl])
    have hc : (s.doMatch k ch true).chan k ch = c.matched true := s.doMatch_chan true
    refine ⟨s.doMatch k ch true, congrArg Host.Outcome.next hm, ?_⟩
    rw [hc]
    simp only [Chan.matched, he, hl, Bool.not_false, Bool.true_and, if_true, Chan.autoAdd, if_neg hi]
    exact ⟨trivial, trivial, trivial, trivial⟩
  case catchup =>
    have hm : doTimerCatchup k ch s = s.modChan k ch (fun c => { c with
        cmp := w, catchup := none, miss := BitVec.ofNat 32 (min 0xFFFFFFFF (c.miss.toNat + n.toNat)) }) := by
      unfold doTimerCatchup State.catchIfDue
      split
      · next h =>
        have h' := h.symm.trans hcu
        simp only [Option.some.injEq, Prod.mk.injEq, true_and] at h'
        rw [h'.1, h'.2]
      · next h => exact absurd hcu (h w n)
    exact ⟨_, congrArg Host.Outcome.next hm, onlyChan_modChan s k ch _, by rw [State.chan_modChan]⟩
  case capture =>
    have hf := s.captureIfDue_frame k ch
    refine ⟨s.captureIfDue k ch, rfl, hf, ?_⟩
    unfold State.captureIfDue
    rw [if_pos hcap]
    refine ⟨?_, fun ha => ?_, fun ha hk => ?_⟩
    · dsimp only
      split
      · rw [State.fireChan_chan, State.chan_modChan]
      · rw [State.chan_modChan]
    · dsimp only
      rw [if_neg (by simpa [c] using ha)]
      rfl
    · dsimp only
      rw [if_pos ha]
      subst hk
      exact (State.fireChan_pends _ 0 ch).1 rfl
  case reset =>
    have hm : doTimerSlaveReset k ch s = s.modChan k ch (fun c => { c with
        resetDue := false, cnt := 0, acc := 0, equal := c.equal || (c.cmp == 0 && c.cnt != 0 && c.edges == 0) }) := if_pos hr
    refine ⟨_, congrArg Host.Outcome.next hm, onlyChan_modChan s k ch _, ?_⟩
    rw [State.chan_modChan]
    exact ⟨rfl, rfl, rfl, rfl⟩

end Sys2Proof.Machine

namespace Sys2Proof.Machine
open Sys2Proof

/-! ### Registers of functions -/

section
variable (s : State)

@[simp] theorem State.fn_modFn (fn : Fn) (f) : (s.modFn fn f).fn fn = f (s.fn fn) := by
  cases fn <;> simp [State.fn, State.modFn]

theorem State.fn_modFn_vf_ne (x y : Tenant) (f) (h : y ≠ x) : (s.modFn (.vf x) f).fn (.vf y) = s.fn (.vf y) :=
  tget_tmod_ne _ _ _ _ _ (by simpa [BitVec.toNat_inj] using h)

@[simp] theorem State.fn_exitL1 (p : HPort) (fn : Fn) : (s.exitL1 p).fn fn = s.fn fn := by
  cases fn with
  | vf t => rfl
  | pf q =>
    by_cases h : q = p
    · subst h; simp [State.fn, State.exitL1]
    · simp [State.fn, State.exitL1, State.host_modHost_ne _ _ _ _ h]

@[simp] theorem State.fn_complete (fn g : Fn) (o : Out) : (s.complete fn o).fn g = s.fn g := s.fn_exitL1 _ g

theorem State.complete_frame (fn : Fn) (o : Out) : { s.complete fn o with out := s.out, hosts := s.hosts } = s := rfl

@[simp] theorem State.complete_out (fn : Fn) (o : Out) : (s.complete fn o).out = o :: s.out := rfl

theorem State.complete_host_ne (fn : Fn) (o : Out) (q : HPort) (h : q ≠ fnHost fn) : (s.complete fn o).host q = s.host q := by
  have ho : ∀ (t : State) f, (t.onOut f).host q = t.host q := fun _ _ => rfl
  rw [State.complete, State.emit, ho, State.exitL1, s.host_modHost_ne _ q _ h]

theorem State.modFn_frame (fn : Fn) (f) : { s.modFn fn f with hosts := s.hosts, vfs := s.vfs } = s := by
  cases fn <;> rfl

@[simp] theorem State.modFn_out (fn) (f) : (s.modFn fn f).out = s.out := by
  unfold State.modFn
  split <;> simp

theorem State.reachable_live {s : State} {fn : Fn} (h : s.reachable fn = true) : s.fnLive fn = true := by
  unfold State.reachable at h
  simp only [Bool.and_eq_true] at h
  exact h.1.1

theorem State.aerNote_live {s : State} {fn : Fn} (bit : Nat) (h : s.fnLive fn = true) :
    s.aerNote fn bit = s.modFn fn (fun f => { f with aerStatus := f.aerStatus ||| (1#32 <<< bit) }) := if_pos h

@[simp] theorem State.aerNote_out (fn) (bit) : (s.aerNote fn bit).out = s.out := by
  unfold State.aerNote
  split <;> simp

/-- The state after a read that is performed: what it returns is sent, and the enabled bytes of the access-error counter are cleared. -/
theorem State.windowRead_good {s : State} {fn : Fn} {off : Nat} {lanes : List Bool} (h : s.reachable fn = true) (hg : readGood off lanes = true) :
    s.windowRead fn off lanes =
      (s.modFn fn (fun f => { f with accerr := f.accerr &&& ~~~laneMask (accerrOff fn) off lanes })).complete fn
        (.readReturn fn (s.readBytes fn off lanes)) := by
  simp [State.windowRead, h, hg]

theorem le_four (v : W32) : le 4 v.toNat = [v.setWidth 8, (v >>> 8).setWidth 8, (v >>> 16).setWidth 8, (v >>> 24).setWidth 8] := by
  simp only [le, List.cons.injEq, and_true]
  refine ⟨?_, ?_, ?_, ?_⟩ <;> apply BitVec.eq_of_toNat_eq <;> simp [Nat.shiftRight_eq_div_pow, Nat.div_div_eq_div_mul]

end

theorem State.sayAbort_frame (s : State) (fn : Fn) : { s.sayAbort fn with out := s.out, hosts := s.hosts, vfs := s.vfs } = s := by
  unfold State.sayAbort
  exact (congrArg (fun t : State => { t with out := s.out }) (s.aerNote_frame fn 15) :)

theorem State.sayUnsupported_frame (s : State) (fn : Fn) : { s.sayUnsupported fn with out := s.out, hosts := s.hosts, vfs := s.vfs } = s := by
  unfold State.sayUnsupported
  exact (congrArg (fun t : State => { t with out := s.out }) (s.aerNote_frame fn 20) :)

/-- What a performed read answers, and what it leaves of its function and of the rest. -/
theorem State.windowRead_facts {s : State} {fn : Fn} {off : Nat} {lanes : List Bool} (h : s.reachable fn = true) (hg : readGood off lanes = true) :
    (s.windowRead fn off lanes).out = .readReturn fn (s.readBytes fn off lanes) :: s.out ∧
    (s.windowRead fn off lanes).fn fn = { s.fn fn with accerr := (s.fn fn).accerr &&& ~~~laneMask (accerrOff fn) off lanes } ∧
    { s.windowRead fn off lanes with out := s.out, hosts := s.hosts, vfs := s.vfs } = s := by
  rw [State.windowRead_good h hg]
  exact ⟨by simp, by simp, by cases fn <;> rfl⟩

/-- A read of bytes that lie in one word of the window. -/
theorem State.readBytes_word (s : State) (fn : Fn) (off : Nat) (w : W32) (hw : s.windowWord fn off = w) (h4 : off % 4 = 0) :
    s.readBytes fn off (List.replicate 4 true) = le 4 w.toNat ∧ s.readBytes fn off [true, false, false, false] = [w.setWidth 8] := by
  have h0 : off / 4 * 4 = off := by omega
  have h1 : (off + 1) / 4 * 4 = off := by omega
  have h2 : (off + 2) / 4 * 4 = off := by omega
  have h3 : (off + 3) / 4 * 4 = off := by omega
  have m1 : (off + 1) % 4 = 1 := by omega
  have m2 : (off + 2) % 4 = 2 := by omega
  have m3 : (off + 3) % 4 = 3 := by omega
  constructor
  · simp [State.readBytes, List.range_succ, byteAt, h0, h1, h2, h3, h4, m1, m2, m3, hw, le_four]
  · simp [State.readBytes, List.range_succ, byteAt, h0, h4, hw, le_four]

theorem laneMask_word : laneMask 4 4 (List.replicate 4 true) = BitVec.allOnes 32 := by decide

theorem laneMask_byte : laneMask 4 4 [true, false, false, false] = 0xFF := by
  simp [laneMask, ofBits, List.range_succ]

/-- Settles O26. -/
theorem registerReads : Obligations.RegisterReads := by
  refine ⟨?misaligned, ?pf, ?vf⟩
  case misaligned =>
    intro fn off lanes s sent base
    refine ⟨fun hr => ?_, fun hr hg => ?_, fun hr hg => ?_⟩
    · have ho : doMisalignedRead fn off lanes s = s.complete fn (.unsupported fn) := by simp [doMisalignedRead, State.windowRead, hr]
      exact ⟨_, congrArg Host.Outcome.next ho, ⟨rfl, rfl⟩, s.fn_complete _ _ _⟩
    · have ho : doMisalignedRead fn off lanes s = s.sayAbort fn := by
        unfold doMisalignedRead State.windowRead
        rw [show off / 4 * 4 = base from rfl]
        simp [hr, hg]
      refine ⟨_, congrArg Host.Outcome.next ho, ⟨?_, s.sayAbort_frame fn⟩, ?_⟩
      · simp [State.sayAbort]
      · rw [State.sayAbort, State.fn_complete, State.aerNote_live _ (State.reachable_live hr), State.fn_modFn]
        rfl
    · obtain ⟨hout, -, hrest⟩ := State.windowRead_facts (off := base) hr hg
      exact ⟨s.windowRead fn base lanes, rfl, hout, hrest⟩
  case pf =>
    intro p s hr reads
    have word : s.windowWord (.pf p) 0x1C = (s.fn (.pf p)).accerr := rfl
    have low : s.windowWord (.pf p) 0x18 = s.side.beacon := rfl
    have reads_of : ∀ off n b, off % 4 = 0 → readGood off (List.replicate n true) = true → laneMask 0x1C off (List.replicate n true) = BitVec.allOnes 32 →
        s.readBytes (.pf p) off (List.replicate n true) = b → reads off n b := by
      intro off n b h4 hg hm hb
      obtain ⟨hout, hfn, hrest⟩ := State.windowRead_facts hr hg
      have h0 : off / 4 * 4 = off := by omega
      refine ⟨s.windowRead (.pf p) off (List.replicate n true), ?_, hb ▸ hout, ?_, ?_, fun q h => ?_⟩
      · exact congrArg (fun x => Host.Outcome.next (s.windowRead (.pf p) x (List.replicate n true))) h0
      · rw [hfn, show accerrOff (.pf p) = 0x1C from rfl, hm]
        simp
      · rw [State.windowRead_good hr hg]
        rfl
      · rw [State.windowRead_good hr hg, State.complete_host_ne _ _ _ _ h]
        exact s.host_modHost_ne _ _ _ h
    refine ⟨reads_of 0x1C 4 _ rfl (by decide) (by decide) (s.readBytes_word _ _ _ word rfl).1, reads_of 0x18 8 _ rfl (by decide) (by decide) ?_⟩
    rw [← (s.readBytes_word _ _ _ word rfl).1, ← (s.readBytes_word _ _ _ low rfl).1]
    rfl
  case vf =>
    intro x s hr
    have word : s.windowWord (.vf x) 4 = (s.fn (.vf x)).accerr := rfl
    constructor
    · obtain ⟨hout, hfn, hrest⟩ := State.windowRead_facts (off := 4) (lanes := List.replicate 4 true) hr (by decide)
      refine ⟨_, rfl, ?_, ?_, hrest, fun y h => ?_⟩
      · rw [← (s.readBytes_word _ _ _ word rfl).1]
        exact hout
      · exact hfn.trans (by rw [show accerrOff (.vf x) = 4 from rfl, laneMask_word]; simp)
      · refine (congrArg (fun t : State => t.fn (.vf y)) (State.windowRead_good (off := 4) (lanes := List.replicate 4 true) hr (by decide)) :).trans ?_
        rw [State.fn_complete, State.fn_modFn_vf_ne _ _ _ _ h]
    · obtain ⟨hout, hfn, hrest⟩ := State.windowRead_facts (off := 4) (lanes := [true, false, false, false]) hr (by decide)
      refine ⟨_, rfl, ?_, ?_⟩
      · rw [← (s.readBytes_word _ _ _ word rfl).2]
        exact hout
      · refine (congrArg FnState.accerr hfn).trans ?_
        have hm : ~~~laneMask (accerrOff (.vf x)) 4 [true, false, false, false] = 0xFFFFFF00 := by
          rw [show accerrOff (.vf x) = 4 from rfl, laneMask_byte]
          decide
        exact congrArg ((s.fn (.vf x)).accerr &&& ·) hm

/-! ### Host mailboxes -/

theorem State.mbx_modMbx_ne (s : State) (m n : Nat) (f) (h : n ≠ m) : (s.modMbx m f).mbx n = s.mbx n :=
  tget_tmod_ne _ _ _ _ _ h

theorem State.commitTo_mbx_ne (s : State) (m n : Nat) (h : W32) (b : Bytes) (hn : n ≠ m) : (s.commitTo m h b).mbx n = s.mbx n :=
  (State.mbx_congr (State.fire_boxes _ 0 (1 + m)) n).trans (s.mbx_modMbx_ne m n _ hn)

theorem State.takeFrom_mbx_ne (s : State) (m n : Nat) (hn : n ≠ m) : (s.takeFrom m).mbx n = s.mbx n :=
  (State.mbx_congr (State.fire_boxes _ 0 (65 + m)) n).trans (s.mbx_modMbx_ne m n _ hn)

theorem State.commitTo_frame (s : State) (m : Nat) (h : W32) (b : Bytes) :
    { s.commitTo m h b with boxes := s.boxes, evus := s.evus, power := s.power } = s :=
  (congrArg (fun t : State => { t with boxes := s.boxes }) (State.fire_frame (s.modMbx m _) 0 (1 + m)) :)

theorem State.takeFrom_frame (s : State) (m : Nat) : { s.takeFrom m with boxes := s.boxes, evus := s.evus, power := s.power } = s :=
  (congrArg (fun t : State => { t with boxes := s.boxes }) (State.fire_frame (s.modMbx m _) 0 (65 + m)) :)

/-- R339: the source of a host mailbox fires at a commit, and another at a take. -/
theorem State.commitTo_pends (s : State) {m : Nat} (h : W32) (b : Bytes) (hm : m < 32) : ((s.commitTo m h b).evu 0).isPend (1 + m) = true := by
  rw [State.commitTo, State.fire_isPend _ 0 _ _ (by simp [sourceReal]; omega) rfl, beq_self_eq_true, Bool.or_true]

theorem State.takeFrom_pends (s : State) {m : Nat} (hm : m < 32) : ((s.takeFrom m).evu 0).isPend (65 + m) = true := by
  rw [State.takeFrom, State.fire_isPend _ 0 _ _ (by simp [sourceReal]; omega) rfl, beq_self_eq_true, Bool.or_true]

theorem clear_bit15 {h : W32} (hh : h.getLsbD 15 = false) : h &&& 0xFFFF7FFF = h := by
  have hm : ∀ i : Fin 32, (0xFFFF7FFF : W32).getLsbD i = !decide (i.val = 15) := by decide
  ext i hi
  have hi' := hm ⟨i, hi⟩
  by_cases h15 : i = 15
  · subst h15
    simpa using hh
  · simp_all

theorem State.txPayload_padTo (s : State) (p : HPort) (j : MbxNum) : padTo 64 (s.txPayload p j) = s.txPayload p j := by
  simp [padTo, State.txPayload]

theorem hostMbx_lt (p : HPort) (j : MbxNum) : hostMbx p j < 32 := by
  have := p.isLt
  have := j.isLt
  unfold hostMbx
  omega

/-- Settles O28. -/
theorem hostMailboxes : Obligations.HostMailboxes := by
  intro p j h s hr h15 m q sent
  have hok : (s.fnLive (.pf p) && (s.fn (.pf p)).mse && !(s.fn (.pf p)).d3) = true := hr
  have hm : m < 32 := hostMbx_lt p j
  have hj : mbxNo (0x20040 + 256 * j.val) = j := by
    have := j.isLt
    apply Fin.ext
    simp only [mbxNo]
    omega
  have hat : (decide (0x20000 ≤ 0x20040 + 256 * j.val) && decide (0x20040 + 256 * j.val < 0x21000) &&
      (0x20040 + 256 * j.val) % 0x100 == 0x40) = true := by
    have := j.isLt
    simp only [Bool.and_eq_true, decide_eq_true_eq, beq_iff_eq]
    omega
  have hsent : sent (s.commitTo m h (s.txPayload p j)) := by
    have hb := s.commitTo_mbx (m := m) (h := h) (b := s.txPayload p j)
    refine ⟨?_, ?_, s.commitTo_pends h _ hm, fun n hn => s.commitTo_mbx_ne m n h _ hn,
      (congrArg (fun t : State => { t with out := s.out, hosts := s.hosts }) (s.commitTo_frame m h _) :)⟩
    · rw [hb, clear_bit15 h15, State.txPayload_padTo]
    · rw [hb]
  have hout : (s.commitTo m h (s.txPayload p j)).out = s.out := (congrArg State.out (s.commitTo_frame m h _) :)
  refine ⟨fun hlen hh => ⟨?send, ?dmwr⟩, fun hfull => ?full, fun fn off hfn hoff => ?other, fun x rest hx => ?take⟩
  case send =>
    have ht : s.mbxTakes p j h = true := Bool.and_eq_true_iff.2 ⟨decide_eq_true hlen, decide_eq_true hh⟩
    refine ⟨_, congrArg Host.Outcome.next (?_ : doMbxSend p j h s = s.commitTo m h (s.txPayload p j)), hsent, hout⟩
    unfold doMbxSend
    rw [hok, ht, h15]
    rfl
  case dmwr =>
    have ht : s.mbxTakes p j h = true := Bool.and_eq_true_iff.2 ⟨decide_eq_true hlen, decide_eq_true hh⟩
    refine ⟨_, congrArg Host.Outcome.next (?_ : doDmwrMbxSend (.pf p) (0x20040 + 256 * j.val) [h] s =
      (s.commitTo m h (s.txPayload p j)).complete (.pf p) (.success (.pf p))), ?_, ?_⟩
    · simp only [doDmwrMbxSend, hr, hat, hj, ht, h15, Bool.not_true, Bool.false_eq_true, if_false, if_true]
      rfl
    · exact hsent
    · rw [State.complete_out, hout]
  case full =>
    have ht : s.mbxTakes p j h = false := by
      refine Bool.and_eq_false_iff.2 (hfull.imp (fun g => decide_eq_false ?_) (fun g => decide_eq_false ?_))
      · exact not_lt.2 g
      · exact not_le.2 g
    refine ⟨_, congrArg Host.Outcome.next (?_ : doDmwrMbxSend (.pf p) (0x20040 + 256 * j.val) [h] s = s.sayAbort (.pf p)), ?_, ?_⟩
    · simp only [doDmwrMbxSend, hr, hat, hj, ht, Bool.not_true, Bool.false_eq_true, if_false, if_true]
    · simp [State.sayAbort]
    · unfold State.sayAbort
      rw [State.aerNote_live _ (State.reachable_live hr)]
      rfl
  case other =>
    have hu : doDmwrMbxSend fn off [h] s = s.sayUnsupported fn := by
      cases fn with
      | vf x => simp [doDmwrMbxSend, hfn]
      | pf p' =>
        have hoff' : (decide (0x20000 ≤ off) && decide (off < 0x21000) && off % 0x100 == 0x40) = false := by
          have := hoff.resolve_left (by simp)
          simp only [Bool.and_eq_false_iff, decide_eq_false_iff_not, beq_eq_false_iff_ne]
          omega
        simp only [doDmwrMbxSend, hfn, hoff', Bool.not_true, Bool.false_eq_true, if_false, Bool.not_false, if_true]
    exact ⟨_, congrArg Host.Outcome.next hu, by simp [State.sayUnsupported], s.sayUnsupported_frame fn⟩
  case take =>
    have hx' : (s.mbx (hostMbx p j)).fromT = x :: rest := hx
    have ht : doMbxTake p j 1 s = s.takeFrom m := by
      simp only [doMbxTake, hok, hx']
      rfl
    have hb := s.takeFrom_mbx (m := m)
    refine ⟨_, congrArg Host.Outcome.next ht, ?_, ?_, s.takeFrom_pends hm, fun n hn => s.takeFrom_mbx_ne m n hn, s.takeFrom_frame m⟩
    · rw [hb, hx]
      rfl
    · rw [hb]

end Sys2Proof.Machine

namespace Sys2Proof.Machine
open Sys2Proof

/-! ### Writes of registers -/

/-- What the parts a log entry writes do not hold, and a vector does not change, a fault that is logged does not change. -/
theorem State.logFault_keeps {β : Type} (g : State → β) (hf : ∀ s f, g (s.onFaults f) = g s) (hw : ∀ s f, g (s.onFw f) = g s)
    (hs : ∀ s u n, g (s.fire u n) = g s) (hv : ∀ s fn v, g (s.vector fn v) = g s) (s : State) (kind : Byte) (site who : W32) (detail : W64) :
    g (s.logFault kind site who detail) = g s := by
  have hl : ∀ s cls n, g (s.logEntry kind cls n site who detail) = g s := by
    intro s cls n
    unfold State.logEntry
    split
    · exact hw _ _
    · simp only [State.pfVector, hv, hf]
  have hr : g (s.fireReport site) = g s := by
    unfold State.fireReport
    split
    · exact hs _ _ _
    · rfl
  unfold State.logFault
  dsimp only
  (repeat' split) <;> simp only [hf, hl, hr, State.countEvent]

theorem State.fn_onOut (s : State) (f) (g : Fn) : (s.onOut f).fn g = s.fn g := by cases g <;> rfl

theorem State.fn_congr {s t : State} (hh : t.hosts = s.hosts) (hv : t.vfs = s.vfs) (g : Fn) : t.fn g = s.fn g := by
  cases g <;> simp [State.fn, State.host, hh, hv]

theorem State.fn_modFn_ne (s : State) (fn g : Fn) (f) (h : g ≠ fn) : (s.modFn fn f).fn g = s.fn g := by
  cases fn with
  | pf p =>
    cases g with
    | pf q => exact congrArg HostPort.pf (s.host_modHost_ne p q _ (by simpa using h))
    | vf t => rfl
  | vf x =>
    cases g with
    | pf q => rfl
    | vf t => exact s.fn_modFn_vf_ne x t f (by simpa using h)

/-- A vector changes of a function's record no more than pending bits and PM status. -/
theorem State.vector_fn_keeps {β : Type} (k : FnState → β) (hp : ∀ f b, k { f with pba := b } = k f) (hm : ∀ f b, k { f with pmeStatus := b } = k f)
    (s : State) (fn : Fn) (v : Nat) (g : Fn) : k ((s.vector fn v).fn g) = k (s.fn g) := by
  have hmod : ∀ (t : State) f, (∀ x, k (f x) = k x) → k ((t.modFn fn f).fn g) = k (t.fn g) := by
    intro t f hk
    by_cases h : g = fn
    · rw [h, State.fn_modFn, hk]
    · rw [State.fn_modFn_ne _ _ _ _ h]
  unfold State.vector
  dsimp only
  (repeat' split) <;>
    simp only [State.sendVector, State.emit, State.fn_onOut, State.fn_exitL1, hmod _ _ (fun _ => hp _ _), hmod _ _ (fun _ => hm _ _)]

/-- A fault that is logged changes no access-error counter. -/
theorem State.logFault_accerr (s : State) (kind : Byte) (site who : W32) (detail : W64) (g : Fn) :
    ((s.logFault kind site who detail).fn g).accerr = (s.fn g).accerr :=
  State.logFault_keeps (fun s => (s.fn g).accerr) (fun _ _ => by cases g <;> rfl) (fun _ _ => by cases g <;> rfl)
    (fun s u n => congrArg FnState.accerr (State.fn_congr (congrArg State.hosts (s.fire_frame u n) :) (congrArg State.vfs (s.fire_frame u n) :) g))
    (fun s fn v => s.vector_fn_keeps FnState.accerr (fun _ _ => rfl) (fun _ _ => rfl) fn v g) s kind site who detail

/-- An access error counts in its function's counter. -/
theorem State.accessError_accerr (s : State) (fn : Fn) (off : Nat) (form : AccForm) :
    ((s.accessError fn off form).fn fn).accerr = satInc (s.fn fn).accerr := by
  rw [State.accessError, State.logFault_accerr, State.fn_modFn]

/-- The DW of a write with every byte enabled. -/
theorem u32_lanes (b0 b1 b2 b3 : Byte) : u32 (laneBytes [some b0, some b1, some b2, some b3]) 0 = (b3 ++ b2 ++ b1 ++ b0 : BitVec 32) := by
  apply BitVec.eq_of_toNat_eq
  have := b0.isLt
  have := b1.isLt
  have := b2.isLt
  have := b3.isLt
  simp only [u32, laneBytes, List.map, Option.getD, bslice, List.drop, List.take, ule, toNat_append_eq, BitVec.toNat_ofNat]
  omega

section
variable {s : State} {p : HPort} {off : Nat} {b0 b1 b2 b3 : Byte}

theorem doRegisterWrite_mem {l : List (Option Byte)} (hr : s.reachable (.pf p) = true) (hl : l.length ≤ (s.host p).mps) (h4 : off % 4 = 0) :
    doRegisterWrite (.mem (.pf p) off l) s = (s.oneWrite (.pf p) off l).settle := by
  have h0 : off / 4 * 4 = off := by omega
  have hm : ¬ (s.host (fnHost (.pf p))).mps < l.length := by simpa [fnHost] using hl
  simp only [doRegisterWrite, hr, hm, h0, Bool.not_true, Bool.false_eq_true, if_false, State.memWrite]

theorem State.oneWrite_dw (fn : Fn) (x0 x1 x2 x3 : Option Byte) : s.oneWrite fn off [x0, x1, x2, x3] = s.dwWrite fn off [x0, x1, x2, x3] := by
  simp [State.oneWrite, cutDws, State.dwWrites]

theorem aligned_dw (h4 : off % 4 = 0) : aligned off [some b0, some b1, some b2, some b3] = true := by
  simp [aligned, enabled, List.range_succ, h4]

/-- A whole DW at a register's offset. -/
theorem State.dwWrite_whole (h4 : off % 4 = 0) (ht : inTxbuf (.pf p) off = false) (hw : isWide (.pf p) (off / 8 * 8) = false) :
    s.dwWrite (.pf p) off [some b0, some b1, some b2, some b3] = s.pfWrite p off (b3 ++ b2 ++ b1 ++ b0 : BitVec 32) := by
  have he : enabled [some b0, some b1, some b2, some b3] = [0, 1, 2, 3] := by simp [enabled, List.range_succ]
  simp only [State.dwWrite, he, aligned_dw h4, ht, hw, inBuoy, u32_lanes, State.regWrite, List.isEmpty_cons, List.length_cons, List.length_nil,
    Bool.not_true, Bool.false_eq_true, if_false, Nat.zero_add, Nat.reduceAdd, Nat.lt_irrefl, decide_false, Bool.or_false]

theorem doRegisterWrite_reg (hr : s.reachable (.pf p) = true) (hm : 8 ≤ (s.host p).mps) (h4 : off % 4 = 0) (ht : inTxbuf (.pf p) off = false)
    (hw : isWide (.pf p) (off / 8 * 8) = false) :
    doRegisterWrite (.mem (.pf p) off [some b0, some b1, some b2, some b3]) s = (s.pfWrite p off (b3 ++ b2 ++ b1 ++ b0 : BitVec 32)).settle := by
  rw [doRegisterWrite_mem hr (by simp; omega) h4, State.oneWrite_dw, State.dwWrite_whole h4 ht hw]

end


theorem bits_31_24 {b0 b1 b2 b3 : Byte} (h : b3 ≠ 0) : ((b3 ++ b2 ++ b1 ++ b0 : BitVec 32) &&& 0xFF000000).toNat ≠ 0 := by
  intro hz
  apply h
  have hb : (b3 ++ b2 ++ b1 ++ b0 : BitVec 32) &&& 0xFF000000 = 0 := BitVec.eq_of_toNat_eq (by simpa using hz)
  have hx : ((b3 ++ b2 ++ b1 ++ b0 : BitVec 32) &&& 0xFF000000).extractLsb' 24 8 = b3 := by
    have hm : ∀ i : Fin 8, (0xFF000000 : W32).getLsbD (24 + i.val) = true := by decide
    ext i hi
    have := hm ⟨i, hi⟩
    rw [BitVec.getElem_extractLsb', BitVec.getLsbD_and, this, Bool.and_true]
    change BitVec.getLsbD (w := 8 + 8 + 8 + 8) _ (24 + i) = _
    rw [BitVec.getLsbD_append, if_neg (by omega), BitVec.getLsbD_append, if_neg (by omega), BitVec.getLsbD_append, if_neg (by omega),
      show 24 + i - 8 - 8 - 8 = i by omega, BitVec.getLsbD_eq_getElem hi]
  rw [← hx, hb]
  rfl

/-- What the read of the buffer's bytes sees of a write into it. -/
theorem State.txPayload_getD (s : State) (p : HPort) (j : MbxNum) {k : Nat} (hk : k < 64) :
    (s.txPayload p j).getD k 0 = Memory.read (tget [] (s.host p).txbuf j.val) k := by
  simp [State.txPayload, hk]

/-- A DW of MBX_TXBUF takes its enabled bytes. -/
theorem State.dwWrite_txbuf (s : State) (p : HPort) (j : MbxNum) {i : Nat} (hi : i < 16) (l : List (Option Byte)) (he : enabled l ≠ [])
    (ha : aligned (0x20000 + 256 * j.val + 4 * i) l = true) :
    s.dwWrite (.pf p) (0x20000 + 256 * j.val + 4 * i) l = s.modHost p (fun h => { h with
      txbuf := tmod [] h.txbuf j.val (fun m => (enabled l).foldl (fun m x => Memory.write m (4 * i + x) ((laneBytes l).getD x 0)) m) }) := by
  have hj := j.isLt
  have ht : inTxbuf (.pf p) (0x20000 + 256 * j.val + 4 * i) = true := by
    simp only [inTxbuf, Bool.and_eq_true, decide_eq_true_eq]
    omega
  have h1 : (0x20000 + 256 * j.val + 4 * i) / 0x100 % 16 = j.val := by omega
  have h2 : (0x20000 + 256 * j.val + 4 * i) % 0x100 = 4 * i := by omega
  simp only [State.dwWrite, ht, ha, inBuoy, h1, h2, List.isEmpty_eq_false_iff.2 he, fnHost, Bool.not_true, Bool.false_eq_true, if_false, if_true]

/-- A register without reserved bits notes none. -/
theorem State.noteReserved_unreserved (s : State) {fn : Fn} {off : Nat} (v : W32) (h : roRsv fn off = 0) :
    s.noteReserved fn off (v &&& roRsv fn off).toNat = s := by
  simp [State.noteReserved, h]

theorem State.pf_modHost (s : State) (p : HPort) (f) (hf : ∀ h, (f h).pf = h.pf) : (s.modHost p f).fn (.pf p) = s.fn (.pf p) := by
  rw [State.fn, State.host_modHost, hf]
  rfl


/-- What a memory reads after the four bytes of a DW were written. -/
theorem read_dw (m : Memory) (i k : Nat) (b0 b1 b2 b3 : Byte) :
    Memory.read ([0, 1, 2, 3].foldl (fun m x => Memory.write m (4 * i + x) ((laneBytes [some b0, some b1, some b2, some b3]).getD x 0)) m) k =
      if k / 4 = i then [b0, b1, b2, b3].getD (k % 4) 0 else Memory.read m k := by
  change Memory.read (Memory.write (Memory.write (Memory.write (Memory.write m (4 * i + 0) b0) (4 * i + 1) b1) (4 * i + 2) b2) (4 * i + 3) b3) k = _
  have hr : ∀ (m : Memory) a b, Memory.read (m.write a b) k = if k = a then b else Memory.read m k := by
    intro m a b
    split
    · next h => rw [h, Memory.read_write_same]
    · next h => rw [Memory.read_write_ne _ _ _ _ h]
  simp only [hr]
  have hk : k % 4 = 0 ∨ k % 4 = 1 ∨ k % 4 = 2 ∨ k % 4 = 3 := by omega
  by_cases h : k / 4 = i
  · rw [if_pos h]
    rcases hk with hk | hk | hk | hk <;> rw [hk]
    · rw [if_neg (by omega), if_neg (by omega), if_neg (by omega), if_pos (by omega)]; rfl
    · rw [if_neg (by omega), if_neg (by omega), if_pos (by omega)]; rfl
    · rw [if_neg (by omega), if_pos (by omega)]; rfl
    · rw [if_pos (by omega)]; rfl
  · rw [if_neg h, if_neg (by omega), if_neg (by omega), if_neg (by omega), if_neg (by omega)]

/-- BAR1 holds the upper half of the base that it was written; BAR2 to BAR5 hold nothing (R45). -/
theorem barRead_barWrite_hi (size : Nat) (old : W64) (x : W32) :
    barRead (barWrite size old 1 x) 1 = x ∧ barRead (barWrite size old 1 x) 0 = barRead old 0 := by
  constructor
  · simp only [barRead, barWrite, Nat.one_ne_zero, if_false, if_true]
    ext i hi
    have h1 : 32 + i < 64 := by omega
    have h2 : i < 64 := by omega
    simp [h1, h2, BitVec.getLsbD_eq_getElem hi]
  · simp only [barRead, barWrite, Nat.one_ne_zero, if_false, if_true]
    ext i hi
    simp

theorem barWrite_none (size : Nat) (old : W64) {n : Nat} (hn : 2 ≤ n) (x : W32) : barWrite size old n x = old ∧ barRead old n = 0 := by
  have h0 : n ≠ 0 := by omega
  have h1 : n ≠ 1 := by omega
  simp [barWrite, barRead, h0, h1]

/-! ### The registers of O27 -/

section
variable {s : State} {p : HPort} {v : W32}

theorem State.pfWrite_release : s.pfWrite p 4 v = s := by
  unfold State.pfWrite
  rw [State.noteReserved_unreserved s _ rfl]
  simp

theorem State.pfWrite_id : s.pfWrite p 0 v = s.noteReserved (.pf p) 0 (v &&& 0xFF000000).toNat := by
  unfold State.pfWrite
  simp [roRsv]

theorem State.pfWrite_hole : s.pfWrite p 0x30000 v = s.accessError (.pf p) 0x30000 .reservedOffset := by
  unfold State.pfWrite
  rw [State.noteReserved_unreserved s _ rfl]
  simp

end

/-- Settles O27. -/
theorem registerWrites : Obligations.RegisterWrites := by
  intro p j i b0 b1 b2 b3 v s hr hmps lanes
  have hmem : ∀ {off l}, l.length ≤ 8 → off % 4 = 0 → doRegisterWrite (.mem (.pf p) off l) s = (s.oneWrite (.pf p) off l).settle :=
    fun hl h4 => doRegisterWrite_mem hr (hl.trans hmps) h4
  have hlive : s.fnLive (.pf p) = true := State.reachable_live hr
  have hcfg : ∀ c, exec (.registerWrite (.cfg (.pf p) c)) s = .next (s.cfgWrite (.pf p) c) := by
    intro c
    exact congrArg Host.Outcome.next (if_pos hlive)
  have hwide : ∀ {off}, off = 0x10000 ∨ off = 0x10008 → (s.oq p).en = false →
      doRegisterWrite (.mem (.pf p) off (lanes v)) s =
        (s.modOq p (fun o => if off = 0x10000 then { o with obase := v } else { o with rbase := v })).settle := by
    intro off ho hen
    have hb : laneBytes (lanes v) = le 8 v.toNat := by simp [lanes, laneBytes]
    have hv : u64 (laneBytes (lanes v)) 0 = v := by
      rw [hb, ← List.append_nil (le 8 v.toNat), u64_le, BitVec.ofNat_toNat, BitVec.setWidth_eq]
    rw [hmem (by simp [lanes]) (by omega)]
    refine congrArg State.settle ?_
    have hd : (cutDws ((lanes v).length + 1) (lanes v)).length = 2 := by simp [lanes, le, cutDws]
    have hall : (lanes v).all (·.isSome) = true := by simp [lanes]
    have hal : aligned off (lanes v) = true := by
      have he : enabled (lanes v) = [0, 1, 2, 3, 4, 5, 6, 7] := by simp [lanes, le, enabled, List.range_succ]
      rw [aligned, he]
      rcases ho with rfl | rfl <;> decide
    have hw : isWide (.pf p) off = true := by rcases ho with rfl | rfl <;> simp [isWide]
    simp only [State.oneWrite, hd, hall, hal, hw, hv, State.wideWrite, hen]
    rcases ho with rfl | rfl <;> rfl
  refine ⟨fun hi => ?word, fun hi => ?byte, fun hen => ?obase, fun hen => ?rbase, ?ro, fun hb => ?bits, ?hole, fun m => ?mse, fun n hn hvf => ?vfs,
    ?mask, fun x => ⟨?bar1, fun n hn => ?barN⟩, fun x => ?aer⟩
  case word =>
    have he : enabled [some b0, some b1, some b2, some b3] = [0, 1, 2, 3] := by simp [enabled, List.range_succ]
    refine ⟨_, congrArg Host.Outcome.next ((hmem (by simp) (by omega)).trans (congrArg State.settle (State.oneWrite_dw ..))), ?_⟩
    rw [State.dwWrite_txbuf s p j hi _ (by simp [he]) (aligned_dw (by omega)), he]
    refine ⟨fun k hk => ?_, rfl, State.pf_modHost s p _ (fun _ => rfl)⟩
    rw [State.txPayload_getD _ _ _ hk, State.txPayload_getD _ _ _ hk, State.host_modHost, tget_tmod_same]
    exact read_dw _ i k b0 b1 b2 b3
  case byte =>
    have he : enabled [none, some b1, none, none] = [1] := by simp [enabled, List.range_succ]
    refine ⟨_, congrArg Host.Outcome.next ((hmem (by simp) (by omega)).trans (congrArg State.settle (State.oneWrite_dw ..))), ?_⟩
    rw [State.dwWrite_txbuf s p j hi _ (by simp [he]) (by rw [aligned, he]; simp [Nat.mod_one]), he]
    intro k hk
    rw [State.txPayload_getD _ _ _ hk, State.txPayload_getD _ _ _ hk, State.host_modHost, tget_tmod_same]
    change Memory.read (Memory.write _ (4 * i + 1) b1) k = _
    split
    · next h => rw [h, Memory.read_write_same]
    · next h => rw [Memory.read_write_ne _ _ _ _ h]
  case obase => exact ⟨_, congrArg Host.Outcome.next (hwide (.inl rfl) hen), State.oq_modOq s p _, rfl⟩
  case rbase => exact ⟨_, congrArg Host.Outcome.next (hwide (.inr rfl) hen), State.oq_modOq s p _, rfl⟩
  case ro =>
    refine congrArg Host.Outcome.next ((doRegisterWrite_reg hr hmps rfl rfl rfl).trans (congrArg State.settle ?_))
    exact State.pfWrite_release
  case bits =>
    refine ⟨_, congrArg Host.Outcome.next (doRegisterWrite_reg hr hmps rfl rfl rfl), ?_⟩
    rw [State.pfWrite_id, State.noteReserved, if_pos (bne_iff_ne.2 (bits_31_24 hb)), State.accessError_accerr]
  case hole =>
    refine ⟨_, congrArg Host.Outcome.next (doRegisterWrite_reg hr hmps rfl rfl rfl), ?_⟩
    rw [State.pfWrite_hole, State.accessError_accerr]
  case mse => exact ⟨_, hcfg _, s.fn_modFn (.pf p) _⟩
  case vfs =>
    have hc : s.cfgWrite (.pf p) (.numVfs n) = s.modHost p (fun h => { h with numVfs := n }) := by
      have hn' : decide (n ≤ Config.totalVfs) = true := decide_eq_true hn
      simp only [State.cfgWrite, fnHost, hvf, hn', beq_self_eq_true, Bool.not_false, Bool.and_self, if_true]
    exact ⟨_, (hcfg _).trans (congrArg Host.Outcome.next hc), s.host_modHost p _⟩
  case mask => exact ⟨_, hcfg _, s.fn_modFn (.pf p) _⟩
  case bar1 =>
    have hc : s.cfgWrite (.pf p) (.bar 1 x) = s.modFn (.pf p) (fun f => { f with bar := barWrite Config.pfBarBytes f.bar 1 x }) := if_pos (beq_self_eq_true _)
    obtain ⟨h1, h0⟩ := barRead_barWrite_hi Config.pfBarBytes (s.fn (.pf p)).bar x
    refine ⟨_, (hcfg _).trans (congrArg Host.Outcome.next hc), ?_, ?_⟩
    · rw [State.pfBar, State.fn_modFn]; exact h1
    · rw [State.pfBar, State.fn_modFn]; exact h0
  case barN =>
    have hc : s.cfgWrite (.pf p) (.bar n x) = s.modFn (.pf p) (fun f => { f with bar := barWrite Config.pfBarBytes f.bar n.val x }) := if_pos (beq_self_eq_true _)
    obtain ⟨hw, h0⟩ := barWrite_none Config.pfBarBytes (s.fn (.pf p)).bar hn x
    refine ⟨_, (hcfg _).trans (congrArg Host.Outcome.next hc), ?_, h0⟩
    rw [State.fn_modFn, hw]
  case aer => exact ⟨_, hcfg _, s.fn_modFn (.pf p) _⟩

end Sys2Proof.Machine

namespace Sys2Proof.Machine
open Sys2Proof

/-! ### Function states and resets -/

section
variable (s : State)

@[simp] theorem State.work_hosts : s.work.hosts = s.hosts := rfl
@[simp] theorem State.fire_hosts (u) (n) : (s.fire u n).hosts = s.hosts := by
  unfold State.fire
  split <;> simp
@[simp] theorem State.work_vfs : s.work.vfs = s.vfs := rfl
@[simp] theorem State.fire_vfs (u) (n) : (s.fire u n).vfs = s.vfs := by
  unfold State.fire
  split <;> simp
@[simp] theorem State.work_out : s.work.out = s.out := rfl
@[simp] theorem State.fire_out (u) (n) : (s.fire u n).out = s.out := by
  unfold State.fire
  split <;> simp
@[simp] theorem State.work_queues : s.work.queues = s.queues := rfl
@[simp] theorem State.fire_queues (u) (n) : (s.fire u n).queues = s.queues := by
  unfold State.fire
  split <;> simp

@[simp] theorem State.fire_fn (u : EvUnit) (n : Nat) (g : Fn) : (s.fire u n).fn g = s.fn g := State.fn_congr (by simp) (by simp) g
@[simp] theorem State.fire_host (u : EvUnit) (n : Nat) (p : HPort) : (s.fire u n).host p = s.host p := by simp [State.host]
@[simp] theorem State.fireFunction_fn (p : HPort) (g : Fn) : (s.fireFunction p).fn g = s.fn g := s.fire_fn _ _ g
@[simp] theorem State.fireFunction_host (p q : HPort) : (s.fireFunction p).host q = s.host q := s.fire_host _ _ q
@[simp] theorem State.fireFunction_out (p : HPort) : (s.fireFunction p).out = s.out := s.fire_out _ _
@[simp] theorem State.fireFunction_queues (p : HPort) : (s.fireFunction p).queues = s.queues := s.fire_queues _ _

/-- R327: the function event of a host port is pending once it has fired. -/
@[simp] theorem State.fireFunction_pends (p : HPort) : ((s.fireFunction p).evu 0).isPend (163 + p.val) = true := by
  rw [State.fireFunction, State.fire_isPend s 0 _ _ (by have := p.isLt; simp [sourceReal]; omega) rfl, beq_self_eq_true, Bool.or_true]

@[simp] theorem State.fnLive_modFn (fn g : Fn) (f) : (s.modFn fn f).fnLive g = s.fnLive g := by
  have hh : ∀ q : HPort, ((s.modFn fn f).host q) = { s.host q with pf := ((s.modFn fn f).host q).pf } := by
    intro q
    cases fn with
    | vf t => rfl
    | pf p =>
      by_cases h : q = p
      · subst h; simp [State.modFn]
      · simp [State.modFn, State.host_modHost_ne _ _ _ _ h]
  cases g with
  | pf q => simp only [State.fnLive]; rw [hh q]; rfl
  | vf t =>
    have hw : (s.modFn fn f).fw = s.fw := by cases fn <;> rfl
    simp only [State.fnLive, State.vfOn]
    rw [hh (hostOf t), hw]
    rfl

@[simp] theorem State.fnLive_exitL1 (p : HPort) (g : Fn) : (s.exitL1 p).fnLive g = s.fnLive g := by
  have hh : ∀ q : HPort, ((s.exitL1 p).host q) = { s.host q with l1 := ((s.exitL1 p).host q).l1, txIdle := ((s.exitL1 p).host q).txIdle } := by
    intro q
    by_cases h : q = p
    · subst h; simp [State.exitL1]
    · simp [State.exitL1, State.host_modHost_ne _ _ _ _ h]
  cases g with
  | pf q => simp only [State.fnLive]; rw [hh q]; rfl
  | vf t =>
    simp only [State.fnLive, State.vfOn]
    rw [hh (hostOf t)]
    rfl

@[simp] theorem State.emit_out (o : Out) : (s.emit o).out = o :: s.out := rfl
@[simp] theorem State.exitL1_out (p : HPort) : (s.exitL1 p).out = s.out := rfl
@[simp] theorem State.fn_emit (o : Out) (g : Fn) : (s.emit o).fn g = s.fn g := s.fn_onOut _ g

@[simp] theorem State.fnLive_emit (o : Out) (g : Fn) : (s.emit o).fnLive g = s.fnLive g := by cases g <;> rfl

/-- The bits of a 64-bit register after one was cleared. -/
theorem getLsbD_clear (x : W64) {v n : Nat} (hv : v < 64) (hn : n < 64) : (x &&& ~~~(1#64 <<< v)).getLsbD n = (x.getLsbD n && n != v) := by
  rw [BitVec.getLsbD_and, BitVec.getLsbD_not, BitVec.getLsbD_shiftLeft, BitVec.getLsbD_one]
  by_cases h : n = v
  · subst h; simp [hn]
  · by_cases hlt : n < v
    · simp [hn, hlt, h]
    · simp [hn, hlt, h, show n - v ≠ 0 by omega]

/-- A vector sent when unmasked leaves of its function all but the pending bits, and what may send goes on to. -/
theorem State.flushVector_facts (fn : Fn) (v : Nat) (hm : s.mayVector fn = true) :
    (s.flushVector fn v).fn fn = { s.fn fn with pba :=
      (if (s.fn fn).pba.getLsbD v && !(tget {} (s.fn fn).msix v).masked then (s.fn fn).pba &&& ~~~(1#64 <<< v) else (s.fn fn).pba) } ∧
    (s.flushVector fn v).mayVector fn = true := by
  unfold State.flushVector
  dsimp only
  rw [hm, Bool.and_true]
  split
  · refine ⟨by simp [State.sendVector], ?_⟩
    unfold State.mayVector at hm ⊢
    simpa [State.sendVector] using hm
  · exact ⟨rfl, hm⟩

/-- R71: flushing some vectors clears the pending bits of those of them that are not masked. -/
theorem State.flushVectors_pba (fn : Fn) (l : List Nat) (hl : ∀ v ∈ l, v < 64) (hm : s.mayVector fn = true) :
    ∃ b, (l.foldl (fun s v => s.flushVector fn v) s).fn fn = { s.fn fn with pba := b } ∧
      ∀ n, n < 64 → b.getLsbD n = ((s.fn fn).pba.getLsbD n && ((tget {} (s.fn fn).msix n).masked || !l.contains n)) := by
  induction l generalizing s with
  | nil => exact ⟨(s.fn fn).pba, rfl, by simp⟩
  | cons v l ih =>
    obtain ⟨hf, hm'⟩ := s.flushVector_facts fn v hm
    obtain ⟨b, hb, hn⟩ := ih (s.flushVector fn v) (fun x hx => hl x (List.mem_cons_of_mem _ hx)) hm'
    refine ⟨b, ?_, fun n hn64 => ?_⟩
    · rw [List.foldl_cons, hb, hf]
    · have hv := hl v List.mem_cons_self
      rw [hn n hn64, hf]
      by_cases h : n = v
      · subst h
        simp only [List.contains_cons, beq_self_eq_true, Bool.true_or, Bool.not_true, Bool.or_false]
        cases hp : (s.fn fn).pba.getLsbD n <;> cases hk : (tget {} (s.fn fn).msix n).masked <;> simp [hp, getLsbD_clear _ hv hn64]
      · have hc : (v :: l).contains n = l.contains n := by simp [h]
        rw [hc]
        split
        · rw [getLsbD_clear _ hv hn64, bne_iff_ne.2 h, Bool.and_true]
        · rfl

/-- R71: flushing a function's vectors. -/
theorem State.flushVectors_facts (fn : Fn) (hm : s.mayVector fn = true) :
    ∃ b, (s.flushVectors fn).fn fn = { s.fn fn with pba := b } ∧
      ∀ n, n < fnVectors fn → b.getLsbD n = ((s.fn fn).pba.getLsbD n && (tget {} (s.fn fn).msix n).masked) := by
  have h64 : fnVectors fn ≤ 64 := by cases fn <;> simp [fnVectors]
  obtain ⟨b, hb, hn⟩ := s.flushVectors_pba fn (List.range (fnVectors fn)) (fun v hv => by have := List.mem_range.1 hv; omega) hm
  refine ⟨b, hb, fun n h => ?_⟩
  rw [hn n (by omega)]
  simp [h]

end

/-- Settles O31. -/
theorem completionTimeouts : Obligations.CompletionTimeouts := by
  intro p key s h a
  have hx : exec (.completionTimeout p key) s = .next (a.readTimeout p key) := congrArg Host.Outcome.next (if_pos h)
  rw [hx]
  cases key <;> rfl

/-- Settles O29. -/
theorem functionStates : Obligations.FunctionStates := by
  refine ⟨?states, ?vectors⟩
  case states =>
    intro fn p rate width s fired
    refine ⟨fun hl hd => ?d3, fun hl hd => ?d0, fun x hl hd => ?d0vf, fun hl => ⟨?bmeSet, ?bmeClear, ?vfClear, ?vfSet⟩, fun ha h0 hi => ⟨fun h11 => ?l11, fun h11 h1 => ?l1⟩,
      fun hp hd => ?linkUp, fun hl => ?linkDown⟩
    case d3 =>
      have hc : (s.fnLive fn && !(s.fn fn).d3) = true := by simp [hl, hd]
      exact ⟨_, congrArg Host.Outcome.next (if_pos hc), by simp, State.fireFunction_pends _ _, by simp⟩
    case d0 =>
      have hc : (s.fnLive (.pf p) && (s.fn (.pf p)).d3) = true := by simp [hl, hd]
      exact ⟨_, congrArg Host.Outcome.next (if_pos hc), by simp, State.fireFunction_pends _ _, by simp [fnHost]⟩
    case d0vf =>
      have hc : (s.fnLive (.vf x) && (s.fn (.vf x)).d3) = true := by simp [hl, hd]
      exact ⟨_, congrArg Host.Outcome.next (if_pos hc), by simp, State.fireFunction_pends _ _, by simp [fnHost]⟩
    case bmeSet => exact ⟨_, congrArg Host.Outcome.next (if_pos hl), by simp, State.fireFunction_pends _ _⟩
    case bmeClear => exact ⟨_, congrArg Host.Outcome.next (if_pos hl), by simp, State.fireFunction_pends _ _⟩
    case vfClear => exact ⟨_, congrArg Host.Outcome.next (if_pos hl), by simp, State.fireFunction_pends _ _, by simp⟩
    case vfSet => exact ⟨_, _, congrArg Host.Outcome.next (if_pos hl), by simp, State.fireFunction_pends _ _, rfl⟩
    case l11 =>
      have hc : ((s.host p).alive && (s.host p).l1 == .l0 && ((s.host p).aspmL1 || (s.host p).aspmL11) &&
          decide ((s.host p).txIdle + Config.l1IdleTicks ≤ s.clk.now)) = true := by
        simp only [ha, h0, h11, Bool.or_true, Bool.and_true, Bool.true_and, beq_self_eq_true]
        exact decide_eq_true hi
      exact ⟨_, congrArg Host.Outcome.next (if_pos hc), by rw [State.host_modHost, if_pos h11], rfl⟩
    case l1 =>
      have hc : ((s.host p).alive && (s.host p).l1 == .l0 && ((s.host p).aspmL1 || (s.host p).aspmL11) &&
          decide ((s.host p).txIdle + Config.l1IdleTicks ≤ s.clk.now)) = true := by
        simp only [ha, h0, h1, Bool.true_or, Bool.and_true, Bool.true_and, beq_self_eq_true]
        exact decide_eq_true hi
      exact ⟨_, congrArg Host.Outcome.next (if_pos hc), by rw [State.host_modHost, if_neg (by simp [h11])], rfl⟩
    case linkUp =>
      have hc : ¬ ((s.host p).perst || !s.domOn (58 + p.val)) = true := by simp [hp, hd]
      refine ⟨_, congrArg Host.Outcome.next (if_neg hc), ?_⟩
      split
      · next hw => exact ⟨by simp [State.host, State.emit, State.modHost], by simp [State.host, State.emit, State.modHost], by simp [State.host, State.emit, State.modHost], rfl, fun _ => rfl⟩
      · next hw => exact ⟨by simp, by simp, by simp, by simpa using hw, fun h => absurd h hw⟩
    case linkDown => exact ⟨_, congrArg Host.Outcome.next (if_pos hl), by simp, rfl⟩
  case vectors =>
    intro fn v s hl f
    refine ⟨fun hv hr he hf hb hp => ?send, fun hv hr hp => ?quiet, fun hd hf hb => ?enable, fun hd he hb => ?unmask⟩
    case send =>
      have hc : (s.reachable fn && decide (v.val < fnVectors fn)) = true := by simp [hr, hv]
      have hd : (s.fn fn).d3 = false := by
        unfold State.reachable at hr
        simp only [Bool.and_eq_true, Bool.not_eq_true'] at hr
        exact hr.2
      have hm : (s.modFn fn (fun f => { f with msix := tmod {} f.msix v.val (fun e => { e with masked := false }) })).mayVector fn = true := by
        simp only [State.mayVector, State.fnLive_modFn, State.fn_modFn]
        simp [hl, hd, show (s.fn fn).msixEn = true from he, show (s.fn fn).fmask = false from hf, show (s.fn fn).bme = true from hb]
      have hq : ((s.modFn fn (fun f => { f with msix := tmod {} f.msix v.val (fun e => { e with masked := false }) })).fn fn).pba.getLsbD v.val = true := by
        rw [State.fn_modFn]; exact hp
      refine ⟨_, congrArg Host.Outcome.next (if_pos hc), ?_⟩
      rw [State.flushVector, if_pos (by rw [hq, hm, State.fn_modFn, tget_tmod_same]; rfl)]
      refine ⟨?_, ?_, ?_⟩
      · simp [State.sendVector, f]
      · simp [State.sendVector, f]
      · simp [State.sendVector]
    case quiet =>
      have hc : (s.reachable fn && decide (v.val < fnVectors fn)) = true := by simp [hr, hv]
      refine ⟨_, congrArg Host.Outcome.next (if_pos hc), ?_⟩
      rw [State.flushVector, if_neg (by rw [State.fn_modFn]; simp only [Bool.and_eq_true, not_and]; intro h; exact absurd (h.1.symm.trans hp) (by simp))]
      exact ⟨s.modFn_out fn _, by rw [State.fn_modFn], by rw [State.fn_modFn, tget_tmod_same]⟩
    case enable =>
      obtain ⟨b, hfn, hb⟩ := State.flushVectors_facts (s.modFn fn (fun f => { f with msixEn := true })) fn
        (by simp only [State.mayVector, State.fnLive_modFn, State.fn_modFn]; simp [hl, f] at *; simp [*])
      refine ⟨_, congrArg Host.Outcome.next (if_pos hl), by rw [hfn, State.fn_modFn], fun n hn => ?_⟩
      rw [hfn]
      exact (hb n hn).trans (by rw [State.fn_modFn])
    case unmask =>
      obtain ⟨b, hfn, hb⟩ := State.flushVectors_facts (s.modFn fn (fun f => { f with fmask := false })) fn
        (by simp only [State.mayVector, State.fnLive_modFn, State.fn_modFn]; simp [hl, f] at *; simp [*])
      refine ⟨_, congrArg Host.Outcome.next (if_pos hl), by rw [hfn, State.fn_modFn], fun n hn => ?_⟩
      rw [hfn]
      exact (hb n hn).trans (by rw [State.fn_modFn])

end Sys2Proof.Machine

namespace Sys2Proof.Machine
open Sys2Proof

/-! ### Queues -/

section
variable (s : State)

@[simp] theorem State.modFn_queues (fn) (f) : (s.modFn fn f).queues = s.queues := by
  unfold State.modFn
  split <;> simp
@[simp] theorem State.emit_queues (o) : (s.emit o).queues = s.queues := rfl
@[simp] theorem State.exitL1_queues (p) : (s.exitL1 p).queues = s.queues := rfl
@[simp] theorem State.sendWrite_queues (p) (pasid) (addr) (b) : (s.sendWrite p pasid addr b).queues = s.queues := rfl
@[simp] theorem State.sendVector_queues (fn) (v) : (s.sendVector fn v).queues = s.queues := rfl
@[simp] theorem State.vector_queues (fn) (v) : (s.vector fn v).queues = s.queues := by
  unfold State.vector
  dsimp only
  (repeat' split) <;> simp
@[simp] theorem State.pfVector_queues (v) : (s.pfVector v).queues = s.queues := by simp [State.pfVector]
@[simp] theorem State.logEntry_queues (kind) (cls) (wcount) (site) (who) (detail) : (s.logEntry kind cls wcount site who detail).queues = s.queues := by
  unfold State.logEntry
  split <;> simp
@[simp] theorem State.countEvent_queues (site) : (s.countEvent site).1.queues = s.queues := rfl
@[simp] theorem State.fireReport_queues (site) : (s.fireReport site).queues = s.queues := by
  unfold State.fireReport
  split <;> simp
@[simp] theorem State.logFault_queues (kind) (site) (who) (detail) : (s.logFault kind site who detail).queues = s.queues := by
  unfold State.logFault
  dsimp only
  (repeat' split) <;> simp
@[simp] theorem State.accessError_queues (fn) (off) (form) : (s.accessError fn off form).queues = s.queues := by simp [State.accessError]

theorem tfind_tupd_same {α : Type} (t : Table α) (k : Nat) (f : α → α) : tfind (tupd t k f) k = (tfind t k).map f := by
  unfold tupd
  split
  · next v h => rw [tfind_tset_same, h]; rfl
  · next h => rw [h]; rfl

theorem tfind_tupd_ne {α : Type} (t : Table α) (k j : Nat) (f : α → α) (h : j ≠ k) : tfind (tupd t k f) j = tfind t j := by
  unfold tupd
  split
  · exact tfind_tset_ne _ _ _ _ h
  · rfl

@[simp] theorem State.sq?_modSq (t : Tenant) (q : QNum) (f) : (s.modSq t q f).sq? t q = (s.sq? t q).map f := tfind_tupd_same _ _ _
@[simp] theorem State.cq?_modCq (t : Tenant) (q : QNum) (f) : (s.modCq t q f).cq? t q = (s.cq? t q).map f := tfind_tupd_same _ _ _
@[simp] theorem State.cq?_modSq (t u : Tenant) (q r : QNum) (f) : (s.modSq t q f).cq? u r = s.cq? u r := rfl
@[simp] theorem State.sq?_modCq (t u : Tenant) (q r : QNum) (f) : (s.modCq t q f).sq? u r = s.sq? u r := rfl
@[simp] theorem State.sq?_modTenant (t u : Tenant) (q : QNum) (f) : (s.modTenant t f).sq? u q = s.sq? u q := rfl
@[simp] theorem State.cq?_modTenant (t u : Tenant) (q : QNum) (f) : (s.modTenant t f).cq? u q = s.cq? u q := rfl
@[simp] theorem State.tenant_modSq (t u : Tenant) (q : QNum) (f) : (s.modSq t q f).tenant u = s.tenant u := rfl
@[simp] theorem State.tenant_modCq (t u : Tenant) (q : QNum) (f) : (s.modCq t q f).tenant u = s.tenant u := rfl

variable {s} in
theorem State.sq?_modSq_some {t : Tenant} {q : QNum} {k : Sq} (f) (h : s.sq? t q = some k) : (s.modSq t q f).sq? t q = some (f k) := by
  rw [State.sq?_modSq, h]; rfl
variable {s} in
theorem State.cq?_modCq_some {t : Tenant} {q : QNum} {k : Cq} (f) (h : s.cq? t q = some k) : (s.modCq t q f).cq? t q = some (f k) := by
  rw [State.cq?_modCq, h]; rfl
variable {s} in
theorem State.sq?_congr {u : State} (h : u.queues = s.queues) (t : Tenant) (q : QNum) : u.sq? t q = s.sq? t q := by rw [State.sq?, h]; rfl
variable {s} in
theorem State.cq?_congr {u : State} (h : u.queues = s.queues) (t : Tenant) (q : QNum) : u.cq? t q = s.cq? t q := by rw [State.cq?, h]; rfl
variable {s} in
theorem State.tenant_congr {u : State} (h : u.queues = s.queues) (t : Tenant) : u.tenant t = s.tenant t := by rw [State.tenant, h]; rfl

/-- The two counters of an account after units have moved. -/
theorem State.acct_book (a i : Nat) (n : Int) :
    (s.book a i n).acct a i = ⟨(s.acct a i).debit + BitVec.ofInt 48 n, (s.acct a i).credit + BitVec.ofInt 48 n⟩ := by
  simp [State.acct, State.book]

/-- A discarded doorbell or push, outside the fog signal. -/
theorem State.refuseWork_clear {s : State} (h : s.foggy = false) (t : Tenant) (off : Nat) (form : AccForm) :
    s.refuseWork t off form = s.accessError (.vf t) off form := by
  simp [State.refuseWork, h]

end

/-! ### Doorbells and pushes -/

section
variable {s : State} {t : Tenant} {q : QNum} {v : W32}

/-- The state in which a doorbell is checked: the module has work, the tenant is not quiet. -/
def State.rung (s : State) (t : Tenant) : State := s.work.unquiet t

theorem State.rung_quiet : ((s.rung t).tenant t).quiet = none := by
  rw [State.rung, State.unquiet, State.tenant_modTenant]

theorem fieldOf_hi {v : W32} (h : v.toNat < 65536) : fieldOf v 31 16 = 0 := by
  unfold fieldOf
  omega

theorem fieldOf_lo {v : W32} (h : v.toNat < 65536) : fieldOf v 15 0 = v.toNat := by
  unfold fieldOf
  omega

theorem State.noteReserved_zero (s : State) (fn : Fn) (off : Nat) : s.noteReserved fn off 0 = s := rfl

/-- An SQ doorbell of a queue that is there. -/
theorem doSqDoorbell_eq {k : Sq} (hr : s.reachable (.vf t) = true) (hf : s.foggy = false) (hv : v.toNat < 65536) (hk : s.sq? t q = some k)
    (hre : k.resetting = false) (hfe : k.fenced = false) :
    doSqDoorbell t q v s =
      (let n := (v.toNat + k.depth - k.tail % k.depth) % k.depth
       let u := (s.rung t).modSq t q (fun k => { k with buoy := 0 })
       if k.depth ≤ v.toNat ∨ k.depth - 1 < k.outst + n then (u.accessError (.vf t) (0x1000 + 8 * q.val) .doorbell).settle
       else
         let u := (u.modSq t q (fun k => { k with tail := k.tail + n, outst := k.outst + n })).book 5 (qIndex t q) n
         (if s.orders.sleeping then u.onOrders (fun o => { o with bells := o.bells ++ [(t, 0x1000 + 8 * q.val)] }) else u).settle) := by
  have hk' : (s.rung t).sq? t q = some k := hk
  have hf' : ((s.rung t).modSq t q (fun k => { k with buoy := 0 })).foggy = false := hf
  unfold doSqDoorbell
  simp only [hr, fieldOf_hi hv, fieldOf_lo hv, State.noteReserved_zero]
  rw [show (s.work).unquiet t = s.rung t from rfl, hk']
  simp only [hf', hre, hfe, State.refuseWork_clear hf', Bool.not_true, Bool.false_eq_true, if_false, Bool.false_or, Bool.or_eq_true, decide_eq_true_eq]
  rfl

/-- A doorbell of an SQ that does not exist. -/
theorem doSqDoorbell_none (hr : s.reachable (.vf t) = true) (hf : s.foggy = false) (hv : v.toNat < 65536) (hk : s.sq? t q = none) :
    doSqDoorbell t q v s = ((s.rung t).accessError (.vf t) (0x1000 + 8 * q.val) .doorbell).settle := by
  have hk' : (s.rung t).sq? t q = none := hk
  have hf' : (s.rung t).foggy = false := hf
  unfold doSqDoorbell
  simp only [hr, fieldOf_hi hv, State.noteReserved_zero]
  rw [show (s.work).unquiet t = s.rung t from rfl, hk']
  simp only [State.refuseWork_clear hf', Bool.not_true, Bool.false_eq_true, if_false]

/-- A CQ doorbell of a queue that is there. -/
theorem doCqDoorbell_eq {k : Cq} (hr : s.reachable (.vf t) = true) (hf : s.foggy = false) (hv : v.toNat < 65536) (hk : s.cq? t q = some k) :
    doCqDoorbell t q v s =
      (let n := (v.toNat + k.depth - k.head % k.depth) % k.depth
       if k.depth ≤ v.toNat ∨ k.tail - k.head < n then ((s.rung t).accessError (.vf t) (0x1100 + 8 * q.val) .doorbell).settle
       else (((s.rung t).modCq t q (fun k => { k with head := k.head + n })).book 6 (qIndex t q) (-(n : Int))).settle) := by
  have hk' : (s.rung t).cq? t q = some k := hk
  have hf' : (s.rung t).foggy = false := hf
  unfold doCqDoorbell
  simp only [hr, fieldOf_hi hv, fieldOf_lo hv, State.noteReserved_zero]
  rw [show (s.work).unquiet t = s.rung t from rfl, hk']
  simp only [hf', State.refuseWork_clear hf', Bool.not_true, Bool.false_eq_true, if_false, Bool.false_or, Bool.or_eq_true, decide_eq_true_eq]

/-- A push into the next slot of an open buoy window. -/
theorem doBuoyPush_takes {slot : Fin 4} {entry : Bytes} {k : Sq} (hr : s.reachable (.vf t) = true) (hf : s.foggy = false) (hk : s.sq? t q = some k)
    (hre : k.resetting = false) (hfe : k.fenced = false) (hb : k.buoy ≠ 0) (hs : k.tail % k.depth % 4 = slot.val) (ho : k.outst + 1 ≤ k.depth - 1) :
    doBuoyPush t q slot entry s =
      (let u := (s.work.modSq t q (fun k => { k with
          tail := k.tail + 1, outst := k.outst + 1, buoy := k.buoy - 1, copies := tset k.copies k.tail (padTo 64 entry)
          pushed := k.pushed ++ [k.tail] })).book 5 (qIndex t q) 1
       let u := if s.orders.sleeping then u.onOrders (fun o => { o with bells := o.bells ++ [(t, 0x2000 + 0x100 * q.val + 0x40 * slot.val)] }) else u
       let u := (u.unquiet t).writeSpill t q k.tail
       if u.queues.arb.grant.isNone && u.winner == some (qIndex t q) then (u.grant t q).settle else u.settle) := by
  have hk' : s.work.sq? t q = some k := hk
  have hf' : s.work.foggy = false := hf
  have ho' : ¬ k.depth - 1 < k.outst + 1 := not_lt.2 ho
  unfold doBuoyPush
  simp only [hr, hk', hf', hre, hfe, hb, hs, ho', Bool.not_true, Bool.false_eq_true, if_false, Bool.false_or, decide_false, bne_self_eq_false]
  rfl

/-- A push outside the buoy phase, or into another slot. -/
theorem doBuoyPush_refused {slot : Fin 4} {entry : Bytes} {k : Sq} (hr : s.reachable (.vf t) = true) (hf : s.foggy = false) (hk : s.sq? t q = some k)
    (hb : k.buoy = 0 ∨ k.tail % k.depth % 4 ≠ slot.val) :
    doBuoyPush t q slot entry s =
      ((s.work.modSq t q (fun k => { k with buoy := 0 })).accessError (.vf t) (0x2000 + 0x100 * q.val + 0x40 * slot.val) .buoy).settle := by
  have hk' : s.work.sq? t q = some k := hk
  have hf' : (s.work.modSq t q (fun k => { k with buoy := 0 })).foggy = false := hf
  have hc : (s.work.foggy || k.resetting || k.fenced || decide (k.buoy = 0) || k.tail % k.depth % 4 != slot.val ||
      decide (k.depth - 1 < k.outst + 1)) = true := by
    simp only [Bool.or_eq_true, decide_eq_true_eq, bne_iff_ne]
    tauto
  unfold doBuoyPush
  simp only [hr, hk', hc, State.refuseWork_clear hf', Bool.not_true, Bool.false_eq_true, if_false, if_true]

theorem State.writeSpill_queues (s : State) (t : Tenant) (q : QNum) (i : Nat) : (s.writeSpill t q i).queues = s.queues := by
  unfold State.writeSpill
  split <;> rfl

theorem State.writeSpill_faults (s : State) (t : Tenant) (q : QNum) (i : Nat) : (s.writeSpill t q i).faults = s.faults := by
  unfold State.writeSpill
  split <;> rfl

end

/-- Settles O32. -/
theorem doorbellsAndPushes : Obligations.DoorbellsAndPushes := by
  intro t q v slot entry s hr hf hv moved logged
  have logs : ∀ (u : State) off form, u.vfs = s.vfs → ((u.accessError (.vf t) off form).fn (.vf t)).accerr = satInc (s.fn (.vf t)).accerr := by
    intro u off form hu
    rw [State.accessError_accerr]
    simp only [State.fn, hu]
  have quiet_of : ∀ (u : State) off form, (u.tenant t).quiet = none → ((u.accessError (.vf t) off form).tenant t).quiet = none := by
    intro u off form hu
    rw [State.tenant_congr (u.accessError_queues _ _ _), hu]
  refine ⟨fun k hk hre hfe => ⟨fun hd ho => ?sq, fun hbad => ?sqBad⟩, fun hk => ?sqNone, fun k hk => ⟨fun hd ho => ?cq, fun hbad => ?cqBad⟩,
    fun k hk hre hfe hl => ⟨fun hb hs ho => ?push, fun hb => ?pushBad⟩⟩
  case sq =>
    have h := doSqDoorbell_eq hr hf hv hk hre hfe
    rw [if_neg (not_or.2 ⟨not_le.2 hd, not_lt.2 ho⟩)] at h
    have hk' : (s.rung t).sq? t q = some k := hk
    have hq := State.sq?_modSq_some (fun k => { k with buoy := 0 }) hk'
    refine ⟨_, congrArg Host.Outcome.next h, ?_⟩
    split
    · exact ⟨State.sq?_modSq_some _ hq, State.acct_book _ _ _ _, State.rung_quiet, rfl, rfl⟩
    · exact ⟨State.sq?_modSq_some _ hq, State.acct_book _ _ _ _, State.rung_quiet, rfl, rfl⟩
  case sqBad =>
    have h := doSqDoorbell_eq hr hf hv hk hre hfe
    rw [if_pos hbad] at h
    refine ⟨_, congrArg Host.Outcome.next h, ?_, logs _ _ _ rfl, quiet_of _ _ _ State.rung_quiet⟩
    rw [State.sq?_congr (State.accessError_queues _ _ _ _), State.sq?_modSq]
    exact congrArg (Option.map _) hk
  case sqNone =>
    refine ⟨_, congrArg Host.Outcome.next (doSqDoorbell_none hr hf hv hk), logs _ _ _ rfl, quiet_of _ _ _ State.rung_quiet, ?_⟩
    rw [State.accessError_queues]
    rfl
  case cq =>
    have h := doCqDoorbell_eq hr hf hv hk
    rw [if_neg (not_or.2 ⟨not_le.2 hd, not_lt.2 ho⟩)] at h
    refine ⟨_, congrArg Host.Outcome.next h, ?_, State.acct_book _ _ _ _, State.rung_quiet, rfl, rfl⟩
    exact State.cq?_modCq_some _ (show (s.rung t).cq? t q = some k from hk)
  case cqBad =>
    have h := doCqDoorbell_eq hr hf hv hk
    rw [if_pos hbad] at h
    refine ⟨_, congrArg Host.Outcome.next h, logs _ _ _ rfl, quiet_of _ _ _ State.rung_quiet, ?_⟩
    rw [State.accessError_queues]
    rfl
  case push =>
    have h := doBuoyPush_takes (entry := entry) hr hf hk hre hfe hb hs ho
    have hp : padTo 64 entry = entry := by simp [padTo, ← hl]
    rw [hp] at h
    have hq := State.sq?_modSq_some (fun k => { k with
      tail := k.tail + 1, outst := k.outst + 1, buoy := k.buoy - 1, copies := tset k.copies k.tail entry
      pushed := k.pushed ++ [k.tail] }) (show s.work.sq? t q = some k from hk)
    refine ⟨_, (congrArg Host.Outcome.next h).trans (by rfl), ?_, ?_, ?_⟩
    · rw [State.sq?_congr (State.writeSpill_queues _ _ _ _)]
      split
      · exact hq
      · exact hq
    · simp only [moved, State.acct, State.writeSpill_faults]
      split
      · exact State.acct_book _ _ _ _
      · exact State.acct_book _ _ _ _
    · rw [State.tenant_congr (State.writeSpill_queues _ _ _ _)]
      rw [State.unquiet, State.tenant_modTenant]
  case pushBad =>
    refine ⟨_, congrArg Host.Outcome.next (doBuoyPush_refused hr hf hk hb), ?_, logs _ _ _ rfl⟩
    rw [State.sq?_congr (State.accessError_queues _ _ _ _), State.sq?_modSq]
    exact congrArg (Option.map _) hk

end Sys2Proof.Machine

namespace Sys2Proof.Machine
open Sys2Proof

/-! ### Arbitration (R119-R122) -/

section
variable {α : Type}

/-- What a table finds is one of its entries. -/
theorem mem_of_tfind {t : Table α} {k : Nat} {v : α} (h : tfind t k = some v) : (k, v) ∈ t := by
  induction t with
  | nil => cases h
  | cons x t ih =>
    obtain ⟨a, w⟩ := x
    rw [tfind] at h
    split at h
    · next ha =>
      cases h
      rw [ha]
      exact List.mem_cons_self
    · exact List.mem_cons_of_mem _ (ih h)

theorem lt_of_tAbove {t : Table α} {lo k : Nat} {v : α} (h : tAbove lo t = true) (hm : (k, v) ∈ t) : lo < k := by
  induction t generalizing lo with
  | nil => cases hm
  | cons x t ih =>
    obtain ⟨a, w⟩ := x
    rw [tAbove, Bool.and_eq_true, decide_eq_true_eq] at h
    rcases List.mem_cons.1 hm with e | hm
    · cases e
      exact h.1
    · exact h.1.trans (ih h.2 hm)

/-- A table with rising keys finds every entry it has. -/
theorem tfind_of_mem {t : Table α} {k : Nat} {v : α} (hw : tWf t = true) (hm : (k, v) ∈ t) : tfind t k = some v := by
  induction t with
  | nil => cases hm
  | cons x t ih =>
    obtain ⟨a, w⟩ := x
    rcases List.mem_cons.1 hm with e | hm
    · cases e
      simp [tfind]
    · have ha : a < k := lt_of_tAbove hw hm
      rw [tfind, if_neg (by omega)]
      exact ih (tWf_of_tAbove t a hw) hm

end

/-- The first number of a rising turn is one of those it turns over. -/
theorem roundRobin_mem {last : Option Nat} {l : List Nat} {y : Nat} (h : roundRobin last l = some y) : y ∈ l := by
  unfold roundRobin at h
  split at h
  · split at h
    · next hf =>
      cases h
      exact List.mem_of_find?_eq_some hf
    · exact List.mem_of_mem_head? h
  · exact List.mem_of_mem_head? h

theorem roundRobin_none {last : Option Nat} {l : List Nat} (h : roundRobin last l = none) : l = [] := by
  unfold roundRobin at h
  split at h
  · split at h
    · cases h
    · simpa using h
  · simpa using h

/-- The least of a list, as the arbitration folds it. -/
def leastOf (l : List Nat) : Option Nat :=
  l.foldl (fun (b : Option Nat) c => some (match b with
    | some m => min m c
    | none => c)) none

theorem foldl_least (l : List Nat) (b : Nat) :
    ∃ m, l.foldl (fun (b : Option Nat) c => some (match b with
      | some m => min m c
      | none => c)) (some b) = some m ∧ m ≤ b ∧ (m = b ∨ m ∈ l) ∧ ∀ x ∈ l, m ≤ x := by
  induction l generalizing b with
  | nil => exact ⟨b, rfl, le_refl b, .inl rfl, by simp⟩
  | cons c l ih =>
    obtain ⟨m, hm, hb, hin, hall⟩ := ih (min b c)
    refine ⟨m, hm, by omega, ?_, ?_⟩
    · rcases hin with h | h
      · rcases Nat.le_total b c with hbc | hbc
        · exact .inl (by omega)
        · exact .inr (by rw [h, Nat.min_eq_right hbc]; exact List.mem_cons_self)
      · exact .inr (List.mem_cons_of_mem _ h)
    · intro x hx
      rcases List.mem_cons.1 hx with h | h
      · subst h
        omega
      · exact hall x h

theorem leastOf_facts (l : List Nat) : (leastOf l = none ↔ l = []) ∧ ∀ m, leastOf l = some m → m ∈ l ∧ ∀ x ∈ l, m ≤ x := by
  cases l with
  | nil => simp [leastOf]
  | cons c l =>
    obtain ⟨m, hm, hc, hin, hall⟩ := foldl_least l c
    have hl : leastOf (c :: l) = some m := hm
    refine ⟨by simp [hl], fun m' h => ?_⟩
    rw [hl] at h
    cases h
    refine ⟨?_, fun x hx => ?_⟩
    · rcases hin with h | h
      · rw [h]
        exact List.mem_cons_self
      · exact List.mem_cons_of_mem _ h
    · rcases List.mem_cons.1 hx with h | h
      · rw [h]
        exact hc
      · exact hall x h

/-- The queues that may be granted. -/
def State.contenders (s : State) : Table Sq := s.queues.sqs.filter (fun x => s.eligible (queueTenant x.1) (queueNum x.1))

theorem queueTenant_qIndex (t : Tenant) (q : QNum) : queueTenant (qIndex t q) = t ∧ queueNum (qIndex t q) = q := by
  have := q.isLt
  constructor
  · unfold queueTenant qIndex
    rw [show (8 * t.toNat + q.val) / 8 = t.toNat by omega, BitVec.ofNat_toNat, BitVec.setWidth_eq]
  · apply Fin.ext
    simp only [queueNum, qIndex]
    omega

theorem qIndex_queueTenant {i : Nat} (h : i < 32768) : qIndex (queueTenant i) (queueNum i) = i := by
  simp only [qIndex, queueTenant, queueNum, BitVec.toNat_ofNat]
  omega

/-- R122: the winner is a contender of the lowest class. -/
theorem State.winner_some {s : State} {i : Nat} (h : s.winner = some i) :
    ∃ k, (i, k) ∈ s.contenders ∧ ∀ x ∈ s.contenders, k.cls.toNat ≤ x.2.cls.toNat := by
  unfold State.winner at h
  dsimp only at h
  rw [show s.queues.sqs.filter (fun x => s.eligible (queueTenant x.1) (queueNum x.1)) = s.contenders from rfl] at h
  split at h
  · cases h
  · next cls hc =>
    obtain ⟨hin, hall⟩ := (leastOf_facts _).2 cls hc
    split at h
    · cases h
    · next t ht =>
      obtain ⟨q, hq, hqi⟩ := Option.map_eq_some_iff.1 h
      have hq' := roundRobin_mem hq
      simp only [List.mem_map, List.mem_filter, beq_iff_eq] at hq'
      obtain ⟨j, ⟨⟨x, ⟨hx, hcls⟩, hxj⟩, hjt⟩, hjq⟩ := hq'
      have hij : i = x.1 := by omega
      refine ⟨x.2, hij ▸ hx, fun y hy => ?_⟩
      rw [hcls]
      exact hall _ (List.mem_map_of_mem hy)

/-- R122: without a winner there is no contender. -/
theorem State.winner_none {s : State} (h : s.winner = none) : s.contenders = [] := by
  unfold State.winner at h
  dsimp only at h
  rw [show s.queues.sqs.filter (fun x => s.eligible (queueTenant x.1) (queueNum x.1)) = s.contenders from rfl] at h
  split at h
  · next hn => simpa using (leastOf_facts _).1.1 hn
  · next cls hc =>
    obtain ⟨hin, -⟩ := (leastOf_facts _).2 cls hc
    obtain ⟨x, hx, hcls⟩ := List.mem_map.1 hin
    have hmine : x.1 ∈ (s.contenders.filter (fun x => x.2.cls.toNat == cls)).map (fun (x : Nat × Sq) => x.1) :=
      List.mem_map_of_mem (List.mem_filter.2 ⟨hx, beq_iff_eq.2 hcls⟩)
    split at h
    · next hn =>
      have := roundRobin_none hn
      rw [List.map_eq_nil_iff] at this
      rw [this] at hmine
      cases hmine
    · next t ht =>
      rw [Option.map_eq_none_iff] at h
      have hq := roundRobin_none h
      obtain ⟨j, hj, hjt⟩ := List.mem_map.1 (roundRobin_mem ht)
      have := List.mem_map_of_mem (f := (· % 8)) ((List.mem_filter (p := fun i => i / 8 == t)).2 ⟨hj, beq_iff_eq.2 hjt⟩)
      rw [hq] at this
      cases this

/-- A queue that is eligible contends. -/
theorem State.contends {s : State} {t : Tenant} {q : QNum} (h : s.eligible t q = true) : ∃ m, s.sq? t q = some m ∧ (qIndex t q, m) ∈ s.contenders := by
  have he := h
  unfold State.eligible at he
  split at he
  · cases he
  · next m hm =>
    obtain ⟨ht, hq⟩ := queueTenant_qIndex t q
    exact ⟨m, hm, List.mem_filter.2 ⟨mem_of_tfind hm, by simpa only [ht, hq] using h⟩⟩

/-- The slots that an entry read covers: none whose copy is kept (R120). -/
theorem unkept_facts (copies : Table Bytes) (i n : Nat) :
    unkept copies i n ≤ n ∧ (∀ x, x < unkept copies i n → tfind copies (i + x) = none) ∧
      (unkept copies i n = n ∨ (tfind copies (i + unkept copies i n)).isSome = true) := by
  induction n generalizing i with
  | zero => exact ⟨le_refl 0, fun x hx => absurd hx (Nat.not_lt_zero x), .inl rfl⟩
  | succ n ih =>
    obtain ⟨hle, hnone, hend⟩ := ih (i + 1)
    unfold unkept
    split
    · next h => exact ⟨Nat.zero_le _, fun x hx => absurd hx (Nat.not_lt_zero x), .inr h⟩
    · next h =>
      refine ⟨by omega, fun x hx => ?_, ?_⟩
      · cases x with
        | zero => simpa using h
        | succ x =>
          rw [show i + (x + 1) = i + 1 + x by omega]
          exact hnone x (by omega)
      · rw [show i + (1 + unkept copies (i + 1) n) = i + 1 + unkept copies (i + 1) n by omega]
        exact hend.imp (by omega) id

theorem State.sendReads_queues (s : State) (p : HPort) (pasid) (ranges : List (W64 × Nat)) (key : ReadKey) :
    (s.sendReads p pasid ranges key).queues = s.queues := (congrArg State.queues (s.sendReads_facts p pasid ranges key).1 :)

/-- The turns of a class as a grant of it leaves them (R122). -/
def State.turned (s : State) (t : Tenant) (q : QNum) (cls : Nat) : State :=
  s.onQueues (fun k => { k with arb := { k.arb with
    lastTenant := tset k.arb.lastTenant cls t.toNat, lastQueue := tset k.arb.lastQueue (8 * t.toNat + cls) q.val } })

/-- The entries that the read of a granted queue covers at most (R119). -/
def readSpan (k : Sq) : Nat :=
  min 8 (k.tail - k.fetch) + if min 8 (k.tail - k.fetch) = k.tail - k.fetch then min 8 (k.depth - 1 - k.outst) else 0

/-- R119, R123: a queue that may be granted, without a copy at its fetch point, takes the grant and issues its read. -/
theorem State.grant_reads {s : State} {t : Tenant} {q : QNum} {k : Sq} (he : s.eligible t q = true) (hk : s.sq? t q = some k)
    (hc : tfind k.copies k.fetch = none) :
    (s.grant t q).queues.arb.grant = some (qIndex t q) ∧
      (s.grant t q).sq? t q = some { k with reading := some (k.fetch, unkept k.copies k.fetch (readSpan k)) } := by
  have hft : k.fetch < k.tail := by
    unfold State.eligible at he
    rw [hk] at he
    simp only [Bool.and_eq_true, decide_eq_true_eq] at he
    exact he.1.1.1.2
  have hv : (s.turned t q k.cls.toNat).sq? t q = some k := hk
  have hh : State.handCopies 8 (s.turned t q k.cls.toNat) t q = (s.turned t q k.cls.toNat, 8) := by
    unfold State.handCopies
    rw [hv]
    dsimp only
    rw [hc]
  have hg : s.grant t q = ((s.turned t q k.cls.toNat).issueEntryRead t q 8).onQueues (fun k => { k with arb := { k.arb with grant := some (qIndex t q) } }) := by
    unfold State.grant
    rw [hk]
    dsimp only
    rw [show s.onQueues _ = s.turned t q k.cls.toNat from rfl, hh]
    dsimp only
    rw [hv]
    dsimp only
    rw [if_pos (by simp [hft]; exact he)]
  rw [hg]
  refine ⟨rfl, ?_⟩
  unfold State.issueEntryRead
  rw [hv]
  dsimp only
  change State.sq? (State.sendReads _ _ _ _ _) t q = _
  rw [State.sq?_congr (State.sendReads_queues _ _ _ _ _)]
  exact State.sq?_modSq_some _ hv

/-- Settles O33. -/
theorem queueArbitration : Obligations.QueueArbitration := by
  intro s hw hlt
  have index : ∀ {i k}, (i, k) ∈ s.contenders → tfind s.queues.sqs i = some k ∧ i < 32768 ∧ s.eligible (queueTenant i) (queueNum i) = true := by
    intro i k hm
    obtain ⟨hin, he⟩ := List.mem_filter.1 hm
    exact ⟨tfind_of_mem hw hin, hlt _ hin, he⟩
  refine ⟨fun i hi => ?_, fun hn t q => ?_, fun i k hg hi hk hc => ?_, fun hn => ?_⟩
  · obtain ⟨k, hm, hall⟩ := State.winner_some hi
    obtain ⟨hf, hi', he⟩ := index hm
    refine ⟨he, fun k' t q m hk' ht hsm => ?_⟩
    have hkk : k' = k := by
      rw [State.sq?, qIndex_queueTenant hi', hf] at hk'
      exact (Option.some.inj hk').symm
    obtain ⟨m', hm', hin⟩ := State.contends ht
    rw [hsm] at hm'
    cases hm'
    rw [hkk]
    exact hall _ hin
  · by_contra h
    obtain ⟨m, -, hin⟩ := State.contends (Bool.not_eq_false _ ▸ h)
    rw [State.winner_none hn] at hin
    cases hin
  · obtain ⟨k', hm, -⟩ := State.winner_some hi
    obtain ⟨hf, hi', he⟩ := index hm
    have hsq : s.sq? (queueTenant i) (queueNum i) = some k := by rw [State.sq?, qIndex_queueTenant hi', hk]
    obtain ⟨hgr, hrd⟩ := State.grant_reads he hsq hc
    have ha : doQueueArbitration s = s.grant (queueTenant i) (queueNum i) := by simp [doQueueArbitration, hg, hi]
    refine ⟨_, congrArg (fun v : State => Host.Outcome.next v.settle) ha, hgr.trans (congrArg some (qIndex_queueTenant hi')), _, readSpan k, hrd, ?_⟩
    have hft : k.fetch < k.tail := by
      unfold State.eligible at he
      rw [hsq] at he
      simp only [Bool.and_eq_true, decide_eq_true_eq] at he
      exact he.1.1.1.2
    obtain ⟨hle, hnone, hend⟩ := unkept_facts k.copies k.fetch (readSpan k)
    have hpos : 1 ≤ unkept k.copies k.fetch (readSpan k) := by
      rcases hend with h | h
      · rw [h]
        unfold readSpan
        omega
      · by_contra h0
        rw [show unkept k.copies k.fetch (readSpan k) = 0 by omega, Nat.add_zero, hc] at h
        cases h
    refine ⟨?_, ?_, ?_, hpos, hle, hnone, hend⟩
    all_goals
      unfold readSpan
      split <;> omega
  · have ha : doQueueArbitration s = s := by
      unfold doQueueArbitration
      rw [hn]
      split <;> rfl
    exact congrArg (fun v : State => Host.Outcome.next v.settle) ha

end Sys2Proof.Machine

namespace Sys2Proof.Machine
open Sys2Proof

/-! ### What the shared operations leave: one equation each, and its parts -/

section
variable (s : State)

@[simp] theorem State.modFn_pending (fn : Fn) (f) : (s.modFn fn f).pending = s.pending := (congrArg State.pending (s.modFn_frame fn f) :)
@[simp] theorem State.modFn_clk (fn : Fn) (f) : (s.modFn fn f).clk = s.clk := (congrArg State.clk (s.modFn_frame fn f) :)
@[simp] theorem State.modFn_keeper (fn : Fn) (f) : (s.modFn fn f).keeper = s.keeper := (congrArg State.keeper (s.modFn_frame fn f) :)
@[simp] theorem State.modFn_power (fn : Fn) (f) : (s.modFn fn f).power = s.power := (congrArg State.power (s.modFn_frame fn f) :)
@[simp] theorem State.modFn_therm (fn : Fn) (f) : (s.modFn fn f).therm = s.therm := (congrArg State.therm (s.modFn_frame fn f) :)
@[simp] theorem State.modFn_list (fn : Fn) (f) : (s.modFn fn f).list = s.list := (congrArg State.list (s.modFn_frame fn f) :)
@[simp] theorem State.modFn_prog (fn : Fn) (f) : (s.modFn fn f).prog = s.prog := (congrArg State.prog (s.modFn_frame fn f) :)
@[simp] theorem State.modFn_ports (fn : Fn) (f) : (s.modFn fn f).ports = s.ports := (congrArg State.ports (s.modFn_frame fn f) :)
@[simp] theorem State.modFn_evus (fn : Fn) (f) : (s.modFn fn f).evus = s.evus := (congrArg State.evus (s.modFn_frame fn f) :)
@[simp] theorem State.modFn_boxes (fn : Fn) (f) : (s.modFn fn f).boxes = s.boxes := (congrArg State.boxes (s.modFn_frame fn f) :)
@[simp] theorem State.modFn_orders (fn : Fn) (f) : (s.modFn fn f).orders = s.orders := (congrArg State.orders (s.modFn_frame fn f) :)
@[simp] theorem State.modFn_fw (fn : Fn) (f) : (s.modFn fn f).fw = s.fw := (congrArg State.fw (s.modFn_frame fn f) :)
@[simp] theorem State.modFn_side (fn : Fn) (f) : (s.modFn fn f).side = s.side := (congrArg State.side (s.modFn_frame fn f) :)

theorem State.emit_frame (o : Out) : { s.emit o with out := s.out } = s := rfl
@[simp] theorem State.emit_pending (o : Out) : (s.emit o).pending = s.pending := rfl
@[simp] theorem State.emit_clk (o : Out) : (s.emit o).clk = s.clk := rfl
@[simp] theorem State.emit_keeper (o : Out) : (s.emit o).keeper = s.keeper := rfl
@[simp] theorem State.emit_power (o : Out) : (s.emit o).power = s.power := rfl
@[simp] theorem State.emit_therm (o : Out) : (s.emit o).therm = s.therm := rfl
@[simp] theorem State.emit_hosts (o : Out) : (s.emit o).hosts = s.hosts := rfl
@[simp] theorem State.emit_vfs (o : Out) : (s.emit o).vfs = s.vfs := rfl
@[simp] theorem State.emit_list (o : Out) : (s.emit o).list = s.list := rfl
@[simp] theorem State.emit_prog (o : Out) : (s.emit o).prog = s.prog := rfl
@[simp] theorem State.emit_ports (o : Out) : (s.emit o).ports = s.ports := rfl
@[simp] theorem State.emit_evus (o : Out) : (s.emit o).evus = s.evus := rfl
@[simp] theorem State.emit_boxes (o : Out) : (s.emit o).boxes = s.boxes := rfl
@[simp] theorem State.emit_orders (o : Out) : (s.emit o).orders = s.orders := rfl
@[simp] theorem State.emit_fw (o : Out) : (s.emit o).fw = s.fw := rfl
@[simp] theorem State.emit_side (o : Out) : (s.emit o).side = s.side := rfl

theorem State.exitL1_frame (p : HPort) : { s.exitL1 p with hosts := s.hosts } = s := rfl
@[simp] theorem State.exitL1_pending (p : HPort) : (s.exitL1 p).pending = s.pending := rfl
@[simp] theorem State.exitL1_clk (p : HPort) : (s.exitL1 p).clk = s.clk := rfl
@[simp] theorem State.exitL1_keeper (p : HPort) : (s.exitL1 p).keeper = s.keeper := rfl
@[simp] theorem State.exitL1_power (p : HPort) : (s.exitL1 p).power = s.power := rfl
@[simp] theorem State.exitL1_therm (p : HPort) : (s.exitL1 p).therm = s.therm := rfl
@[simp] theorem State.exitL1_vfs (p : HPort) : (s.exitL1 p).vfs = s.vfs := rfl
@[simp] theorem State.exitL1_list (p : HPort) : (s.exitL1 p).list = s.list := rfl
@[simp] theorem State.exitL1_prog (p : HPort) : (s.exitL1 p).prog = s.prog := rfl
@[simp] theorem State.exitL1_ports (p : HPort) : (s.exitL1 p).ports = s.ports := rfl
@[simp] theorem State.exitL1_evus (p : HPort) : (s.exitL1 p).evus = s.evus := rfl
@[simp] theorem State.exitL1_boxes (p : HPort) : (s.exitL1 p).boxes = s.boxes := rfl
@[simp] theorem State.exitL1_orders (p : HPort) : (s.exitL1 p).orders = s.orders := rfl
@[simp] theorem State.exitL1_fw (p : HPort) : (s.exitL1 p).fw = s.fw := rfl
@[simp] theorem State.exitL1_side (p : HPort) : (s.exitL1 p).side = s.side := rfl

theorem State.modOq_frame (p : HPort) (f) : { s.modOq p f with hosts := s.hosts } = s := rfl
@[simp] theorem State.modOq_pending (p : HPort) (f) : (s.modOq p f).pending = s.pending := rfl
@[simp] theorem State.modOq_out (p : HPort) (f) : (s.modOq p f).out = s.out := rfl
@[simp] theorem State.modOq_clk (p : HPort) (f) : (s.modOq p f).clk = s.clk := rfl
@[simp] theorem State.modOq_keeper (p : HPort) (f) : (s.modOq p f).keeper = s.keeper := rfl
@[simp] theorem State.modOq_power (p : HPort) (f) : (s.modOq p f).power = s.power := rfl
@[simp] theorem State.modOq_therm (p : HPort) (f) : (s.modOq p f).therm = s.therm := rfl
@[simp] theorem State.modOq_vfs (p : HPort) (f) : (s.modOq p f).vfs = s.vfs := rfl
@[simp] theorem State.modOq_queues (p : HPort) (f) : (s.modOq p f).queues = s.queues := rfl
@[simp] theorem State.modOq_list (p : HPort) (f) : (s.modOq p f).list = s.list := rfl
@[simp] theorem State.modOq_prog (p : HPort) (f) : (s.modOq p f).prog = s.prog := rfl
@[simp] theorem State.modOq_ports (p : HPort) (f) : (s.modOq p f).ports = s.ports := rfl
@[simp] theorem State.modOq_data (p : HPort) (f) : (s.modOq p f).data = s.data := rfl
@[simp] theorem State.modOq_evus (p : HPort) (f) : (s.modOq p f).evus = s.evus := rfl
@[simp] theorem State.modOq_banks (p : HPort) (f) : (s.modOq p f).banks = s.banks := rfl
@[simp] theorem State.modOq_boxes (p : HPort) (f) : (s.modOq p f).boxes = s.boxes := rfl
@[simp] theorem State.modOq_orders (p : HPort) (f) : (s.modOq p f).orders = s.orders := rfl
@[simp] theorem State.modOq_faults (p : HPort) (f) : (s.modOq p f).faults = s.faults := rfl
@[simp] theorem State.modOq_fw (p : HPort) (f) : (s.modOq p f).fw = s.fw := rfl
@[simp] theorem State.modOq_side (p : HPort) (f) : (s.modOq p f).side = s.side := rfl

theorem State.modSq_frame (t : Tenant) (q : QNum) (f) : { s.modSq t q f with queues := s.queues } = s := rfl
@[simp] theorem State.modSq_pending (t : Tenant) (q : QNum) (f) : (s.modSq t q f).pending = s.pending := rfl
@[simp] theorem State.modSq_out (t : Tenant) (q : QNum) (f) : (s.modSq t q f).out = s.out := rfl
@[simp] theorem State.modSq_clk (t : Tenant) (q : QNum) (f) : (s.modSq t q f).clk = s.clk := rfl
@[simp] theorem State.modSq_keeper (t : Tenant) (q : QNum) (f) : (s.modSq t q f).keeper = s.keeper := rfl
@[simp] theorem State.modSq_power (t : Tenant) (q : QNum) (f) : (s.modSq t q f).power = s.power := rfl
@[simp] theorem State.modSq_therm (t : Tenant) (q : QNum) (f) : (s.modSq t q f).therm = s.therm := rfl
@[simp] theorem State.modSq_hosts (t : Tenant) (q : QNum) (f) : (s.modSq t q f).hosts = s.hosts := rfl
@[simp] theorem State.modSq_vfs (t : Tenant) (q : QNum) (f) : (s.modSq t q f).vfs = s.vfs := rfl
@[simp] theorem State.modSq_list (t : Tenant) (q : QNum) (f) : (s.modSq t q f).list = s.list := rfl
@[simp] theorem State.modSq_prog (t : Tenant) (q : QNum) (f) : (s.modSq t q f).prog = s.prog := rfl
@[simp] theorem State.modSq_ports (t : Tenant) (q : QNum) (f) : (s.modSq t q f).ports = s.ports := rfl
@[simp] theorem State.modSq_data (t : Tenant) (q : QNum) (f) : (s.modSq t q f).data = s.data := rfl
@[simp] theorem State.modSq_cores (t : Tenant) (q : QNum) (f) : (s.modSq t q f).cores = s.cores := rfl
@[simp] theorem State.modSq_evus (t : Tenant) (q : QNum) (f) : (s.modSq t q f).evus = s.evus := rfl
@[simp] theorem State.modSq_banks (t : Tenant) (q : QNum) (f) : (s.modSq t q f).banks = s.banks := rfl
@[simp] theorem State.modSq_boxes (t : Tenant) (q : QNum) (f) : (s.modSq t q f).boxes = s.boxes := rfl
@[simp] theorem State.modSq_orders (t : Tenant) (q : QNum) (f) : (s.modSq t q f).orders = s.orders := rfl
@[simp] theorem State.modSq_faults (t : Tenant) (q : QNum) (f) : (s.modSq t q f).faults = s.faults := rfl
@[simp] theorem State.modSq_fw (t : Tenant) (q : QNum) (f) : (s.modSq t q f).fw = s.fw := rfl
@[simp] theorem State.modSq_side (t : Tenant) (q : QNum) (f) : (s.modSq t q f).side = s.side := rfl

theorem State.modCq_frame (t : Tenant) (q : QNum) (f) : { s.modCq t q f with queues := s.queues } = s := rfl
@[simp] theorem State.modCq_pending (t : Tenant) (q : QNum) (f) : (s.modCq t q f).pending = s.pending := rfl
@[simp] theorem State.modCq_out (t : Tenant) (q : QNum) (f) : (s.modCq t q f).out = s.out := rfl
@[simp] theorem State.modCq_clk (t : Tenant) (q : QNum) (f) : (s.modCq t q f).clk = s.clk := rfl
@[simp] theorem State.modCq_keeper (t : Tenant) (q : QNum) (f) : (s.modCq t q f).keeper = s.keeper := rfl
@[simp] theorem State.modCq_power (t : Tenant) (q : QNum) (f) : (s.modCq t q f).power = s.power := rfl
@[simp] theorem State.modCq_therm (t : Tenant) (q : QNum) (f) : (s.modCq t q f).therm = s.therm := rfl
@[simp] theorem State.modCq_hosts (t : Tenant) (q : QNum) (f) : (s.modCq t q f).hosts = s.hosts := rfl
@[simp] theorem State.modCq_vfs (t : Tenant) (q : QNum) (f) : (s.modCq t q f).vfs = s.vfs := rfl
@[simp] theorem State.modCq_list (t : Tenant) (q : QNum) (f) : (s.modCq t q f).list = s.list := rfl
@[simp] theorem State.modCq_prog (t : Tenant) (q : QNum) (f) : (s.modCq t q f).prog = s.prog := rfl
@[simp] theorem State.modCq_ports (t : Tenant) (q : QNum) (f) : (s.modCq t q f).ports = s.ports := rfl
@[simp] theorem State.modCq_data (t : Tenant) (q : QNum) (f) : (s.modCq t q f).data = s.data := rfl
@[simp] theorem State.modCq_cores (t : Tenant) (q : QNum) (f) : (s.modCq t q f).cores = s.cores := rfl
@[simp] theorem State.modCq_evus (t : Tenant) (q : QNum) (f) : (s.modCq t q f).evus = s.evus := rfl
@[simp] theorem State.modCq_banks (t : Tenant) (q : QNum) (f) : (s.modCq t q f).banks = s.banks := rfl
@[simp] theorem State.modCq_boxes (t : Tenant) (q : QNum) (f) : (s.modCq t q f).boxes = s.boxes := rfl
@[simp] theorem State.modCq_orders (t : Tenant) (q : QNum) (f) : (s.modCq t q f).orders = s.orders := rfl
@[simp] theorem State.modCq_faults (t : Tenant) (q : QNum) (f) : (s.modCq t q f).faults = s.faults := rfl
@[simp] theorem State.modCq_fw (t : Tenant) (q : QNum) (f) : (s.modCq t q f).fw = s.fw := rfl
@[simp] theorem State.modCq_side (t : Tenant) (q : QNum) (f) : (s.modCq t q f).side = s.side := rfl

theorem State.releaseGrant_frame (t : Tenant) (q : QNum) : { s.releaseGrant t q with queues := s.queues } = s := rfl
@[simp] theorem State.releaseGrant_pending (t : Tenant) (q : QNum) : (s.releaseGrant t q).pending = s.pending := rfl
@[simp] theorem State.releaseGrant_out (t : Tenant) (q : QNum) : (s.releaseGrant t q).out = s.out := rfl
@[simp] theorem State.releaseGrant_clk (t : Tenant) (q : QNum) : (s.releaseGrant t q).clk = s.clk := rfl
@[simp] theorem State.releaseGrant_keeper (t : Tenant) (q : QNum) : (s.releaseGrant t q).keeper = s.keeper := rfl
@[simp] theorem State.releaseGrant_power (t : Tenant) (q : QNum) : (s.releaseGrant t q).power = s.power := rfl
@[simp] theorem State.releaseGrant_therm (t : Tenant) (q : QNum) : (s.releaseGrant t q).therm = s.therm := rfl
@[simp] theorem State.releaseGrant_hosts (t : Tenant) (q : QNum) : (s.releaseGrant t q).hosts = s.hosts := rfl
@[simp] theorem State.releaseGrant_vfs (t : Tenant) (q : QNum) : (s.releaseGrant t q).vfs = s.vfs := rfl
@[simp] theorem State.releaseGrant_list (t : Tenant) (q : QNum) : (s.releaseGrant t q).list = s.list := rfl
@[simp] theorem State.releaseGrant_prog (t : Tenant) (q : QNum) : (s.releaseGrant t q).prog = s.prog := rfl
@[simp] theorem State.releaseGrant_ports (t : Tenant) (q : QNum) : (s.releaseGrant t q).ports = s.ports := rfl
@[simp] theorem State.releaseGrant_data (t : Tenant) (q : QNum) : (s.releaseGrant t q).data = s.data := rfl
@[simp] theorem State.releaseGrant_cores (t : Tenant) (q : QNum) : (s.releaseGrant t q).cores = s.cores := rfl
@[simp] theorem State.releaseGrant_evus (t : Tenant) (q : QNum) : (s.releaseGrant t q).evus = s.evus := rfl
@[simp] theorem State.releaseGrant_banks (t : Tenant) (q : QNum) : (s.releaseGrant t q).banks = s.banks := rfl
@[simp] theorem State.releaseGrant_boxes (t : Tenant) (q : QNum) : (s.releaseGrant t q).boxes = s.boxes := rfl
@[simp] theorem State.releaseGrant_orders (t : Tenant) (q : QNum) : (s.releaseGrant t q).orders = s.orders := rfl
@[simp] theorem State.releaseGrant_faults (t : Tenant) (q : QNum) : (s.releaseGrant t q).faults = s.faults := rfl
@[simp] theorem State.releaseGrant_fw (t : Tenant) (q : QNum) : (s.releaseGrant t q).fw = s.fw := rfl
@[simp] theorem State.releaseGrant_side (t : Tenant) (q : QNum) : (s.releaseGrant t q).side = s.side := rfl

theorem State.unquiet_frame (t : Tenant) : { s.unquiet t with queues := s.queues } = s := rfl
@[simp] theorem State.unquiet_pending (t : Tenant) : (s.unquiet t).pending = s.pending := rfl
@[simp] theorem State.unquiet_out (t : Tenant) : (s.unquiet t).out = s.out := rfl
@[simp] theorem State.unquiet_clk (t : Tenant) : (s.unquiet t).clk = s.clk := rfl
@[simp] theorem State.unquiet_keeper (t : Tenant) : (s.unquiet t).keeper = s.keeper := rfl
@[simp] theorem State.unquiet_power (t : Tenant) : (s.unquiet t).power = s.power := rfl
@[simp] theorem State.unquiet_therm (t : Tenant) : (s.unquiet t).therm = s.therm := rfl
@[simp] theorem State.unquiet_hosts (t : Tenant) : (s.unquiet t).hosts = s.hosts := rfl
@[simp] theorem State.unquiet_vfs (t : Tenant) : (s.unquiet t).vfs = s.vfs := rfl
@[simp] theorem State.unquiet_list (t : Tenant) : (s.unquiet t).list = s.list := rfl
@[simp] theorem State.unquiet_prog (t : Tenant) : (s.unquiet t).prog = s.prog := rfl
@[simp] theorem State.unquiet_ports (t : Tenant) : (s.unquiet t).ports = s.ports := rfl
@[simp] theorem State.unquiet_data (t : Tenant) : (s.unquiet t).data = s.data := rfl
@[simp] theorem State.unquiet_cores (t : Tenant) : (s.unquiet t).cores = s.cores := rfl
@[simp] theorem State.unquiet_evus (t : Tenant) : (s.unquiet t).evus = s.evus := rfl
@[simp] theorem State.unquiet_banks (t : Tenant) : (s.unquiet t).banks = s.banks := rfl
@[simp] theorem State.unquiet_boxes (t : Tenant) : (s.unquiet t).boxes = s.boxes := rfl
@[simp] theorem State.unquiet_orders (t : Tenant) : (s.unquiet t).orders = s.orders := rfl
@[simp] theorem State.unquiet_faults (t : Tenant) : (s.unquiet t).faults = s.faults := rfl
@[simp] theorem State.unquiet_fw (t : Tenant) : (s.unquiet t).fw = s.fw := rfl
@[simp] theorem State.unquiet_side (t : Tenant) : (s.unquiet t).side = s.side := rfl

@[simp] theorem State.book_pending (a i : Nat) (n : Int) : (s.book a i n).pending = s.pending := rfl
@[simp] theorem State.book_out (a i : Nat) (n : Int) : (s.book a i n).out = s.out := rfl
@[simp] theorem State.book_clk (a i : Nat) (n : Int) : (s.book a i n).clk = s.clk := rfl
@[simp] theorem State.book_keeper (a i : Nat) (n : Int) : (s.book a i n).keeper = s.keeper := rfl
@[simp] theorem State.book_power (a i : Nat) (n : Int) : (s.book a i n).power = s.power := rfl
@[simp] theorem State.book_therm (a i : Nat) (n : Int) : (s.book a i n).therm = s.therm := rfl
@[simp] theorem State.book_hosts (a i : Nat) (n : Int) : (s.book a i n).hosts = s.hosts := rfl
@[simp] theorem State.book_vfs (a i : Nat) (n : Int) : (s.book a i n).vfs = s.vfs := rfl
@[simp] theorem State.book_queues (a i : Nat) (n : Int) : (s.book a i n).queues = s.queues := rfl
@[simp] theorem State.book_list (a i : Nat) (n : Int) : (s.book a i n).list = s.list := rfl
@[simp] theorem State.book_prog (a i : Nat) (n : Int) : (s.book a i n).prog = s.prog := rfl
@[simp] theorem State.book_ports (a i : Nat) (n : Int) : (s.book a i n).ports = s.ports := rfl
@[simp] theorem State.book_data (a i : Nat) (n : Int) : (s.book a i n).data = s.data := rfl
@[simp] theorem State.book_cores (a i : Nat) (n : Int) : (s.book a i n).cores = s.cores := rfl
@[simp] theorem State.book_evus (a i : Nat) (n : Int) : (s.book a i n).evus = s.evus := rfl
@[simp] theorem State.book_banks (a i : Nat) (n : Int) : (s.book a i n).banks = s.banks := rfl
@[simp] theorem State.book_boxes (a i : Nat) (n : Int) : (s.book a i n).boxes = s.boxes := rfl
@[simp] theorem State.book_orders (a i : Nat) (n : Int) : (s.book a i n).orders = s.orders := rfl
@[simp] theorem State.book_fw (a i : Nat) (n : Int) : (s.book a i n).fw = s.fw := rfl
@[simp] theorem State.book_side (a i : Nat) (n : Int) : (s.book a i n).side = s.side := rfl

theorem State.reserveSlot_frame (t : Tenant) (q : QNum) : { s.reserveSlot t q with queues := s.queues, faults := s.faults } = s := rfl
@[simp] theorem State.reserveSlot_pending (t : Tenant) (q : QNum) : (s.reserveSlot t q).pending = s.pending := rfl
@[simp] theorem State.reserveSlot_out (t : Tenant) (q : QNum) : (s.reserveSlot t q).out = s.out := rfl
@[simp] theorem State.reserveSlot_clk (t : Tenant) (q : QNum) : (s.reserveSlot t q).clk = s.clk := rfl
@[simp] theorem State.reserveSlot_keeper (t : Tenant) (q : QNum) : (s.reserveSlot t q).keeper = s.keeper := rfl
@[simp] theorem State.reserveSlot_power (t : Tenant) (q : QNum) : (s.reserveSlot t q).power = s.power := rfl
@[simp] theorem State.reserveSlot_therm (t : Tenant) (q : QNum) : (s.reserveSlot t q).therm = s.therm := rfl
@[simp] theorem State.reserveSlot_hosts (t : Tenant) (q : QNum) : (s.reserveSlot t q).hosts = s.hosts := rfl
@[simp] theorem State.reserveSlot_vfs (t : Tenant) (q : QNum) : (s.reserveSlot t q).vfs = s.vfs := rfl
@[simp] theorem State.reserveSlot_list (t : Tenant) (q : QNum) : (s.reserveSlot t q).list = s.list := rfl
@[simp] theorem State.reserveSlot_prog (t : Tenant) (q : QNum) : (s.reserveSlot t q).prog = s.prog := rfl
@[simp] theorem State.reserveSlot_ports (t : Tenant) (q : QNum) : (s.reserveSlot t q).ports = s.ports := rfl
@[simp] theorem State.reserveSlot_data (t : Tenant) (q : QNum) : (s.reserveSlot t q).data = s.data := rfl
@[simp] theorem State.reserveSlot_cores (t : Tenant) (q : QNum) : (s.reserveSlot t q).cores = s.cores := rfl
@[simp] theorem State.reserveSlot_evus (t : Tenant) (q : QNum) : (s.reserveSlot t q).evus = s.evus := rfl
@[simp] theorem State.reserveSlot_banks (t : Tenant) (q : QNum) : (s.reserveSlot t q).banks = s.banks := rfl
@[simp] theorem State.reserveSlot_boxes (t : Tenant) (q : QNum) : (s.reserveSlot t q).boxes = s.boxes := rfl
@[simp] theorem State.reserveSlot_orders (t : Tenant) (q : QNum) : (s.reserveSlot t q).orders = s.orders := rfl
@[simp] theorem State.reserveSlot_fw (t : Tenant) (q : QNum) : (s.reserveSlot t q).fw = s.fw := rfl
@[simp] theorem State.reserveSlot_side (t : Tenant) (q : QNum) : (s.reserveSlot t q).side = s.side := rfl

theorem State.work_frame : { s.work with power := s.power } = s := rfl
@[simp] theorem State.work_pending : (s.work).pending = s.pending := rfl
@[simp] theorem State.work_clk : (s.work).clk = s.clk := rfl
@[simp] theorem State.work_keeper : (s.work).keeper = s.keeper := rfl
@[simp] theorem State.work_therm : (s.work).therm = s.therm := rfl
@[simp] theorem State.work_list : (s.work).list = s.list := rfl
@[simp] theorem State.work_prog : (s.work).prog = s.prog := rfl
@[simp] theorem State.work_ports : (s.work).ports = s.ports := rfl
@[simp] theorem State.work_evus : (s.work).evus = s.evus := rfl
@[simp] theorem State.work_boxes : (s.work).boxes = s.boxes := rfl
@[simp] theorem State.work_orders : (s.work).orders = s.orders := rfl
@[simp] theorem State.work_fw : (s.work).fw = s.fw := rfl
@[simp] theorem State.work_side : (s.work).side = s.side := rfl

@[simp] theorem State.complete_pending (fn : Fn) (o : Out) : (s.complete fn o).pending = s.pending := rfl
@[simp] theorem State.complete_clk (fn : Fn) (o : Out) : (s.complete fn o).clk = s.clk := rfl
@[simp] theorem State.complete_keeper (fn : Fn) (o : Out) : (s.complete fn o).keeper = s.keeper := rfl
@[simp] theorem State.complete_power (fn : Fn) (o : Out) : (s.complete fn o).power = s.power := rfl
@[simp] theorem State.complete_therm (fn : Fn) (o : Out) : (s.complete fn o).therm = s.therm := rfl
@[simp] theorem State.complete_vfs (fn : Fn) (o : Out) : (s.complete fn o).vfs = s.vfs := rfl
@[simp] theorem State.complete_queues (fn : Fn) (o : Out) : (s.complete fn o).queues = s.queues := rfl
@[simp] theorem State.complete_list (fn : Fn) (o : Out) : (s.complete fn o).list = s.list := rfl
@[simp] theorem State.complete_prog (fn : Fn) (o : Out) : (s.complete fn o).prog = s.prog := rfl
@[simp] theorem State.complete_ports (fn : Fn) (o : Out) : (s.complete fn o).ports = s.ports := rfl
@[simp] theorem State.complete_data (fn : Fn) (o : Out) : (s.complete fn o).data = s.data := rfl
@[simp] theorem State.complete_cores (fn : Fn) (o : Out) : (s.complete fn o).cores = s.cores := rfl
@[simp] theorem State.complete_evus (fn : Fn) (o : Out) : (s.complete fn o).evus = s.evus := rfl
@[simp] theorem State.complete_banks (fn : Fn) (o : Out) : (s.complete fn o).banks = s.banks := rfl
@[simp] theorem State.complete_boxes (fn : Fn) (o : Out) : (s.complete fn o).boxes = s.boxes := rfl
@[simp] theorem State.complete_orders (fn : Fn) (o : Out) : (s.complete fn o).orders = s.orders := rfl
@[simp] theorem State.complete_faults (fn : Fn) (o : Out) : (s.complete fn o).faults = s.faults := rfl
@[simp] theorem State.complete_fw (fn : Fn) (o : Out) : (s.complete fn o).fw = s.fw := rfl
@[simp] theorem State.complete_side (fn : Fn) (o : Out) : (s.complete fn o).side = s.side := rfl

theorem State.sendWrite_frame (p : HPort) (pasid) (a : W64) (b : Bytes) : { s.sendWrite p pasid a b with out := s.out, hosts := s.hosts } = s := rfl
@[simp] theorem State.sendWrite_pending (p : HPort) (pasid) (a : W64) (b : Bytes) : (s.sendWrite p pasid a b).pending = s.pending := rfl
@[simp] theorem State.sendWrite_clk (p : HPort) (pasid) (a : W64) (b : Bytes) : (s.sendWrite p pasid a b).clk = s.clk := rfl
@[simp] theorem State.sendWrite_keeper (p : HPort) (pasid) (a : W64) (b : Bytes) : (s.sendWrite p pasid a b).keeper = s.keeper := rfl
@[simp] theorem State.sendWrite_power (p : HPort) (pasid) (a : W64) (b : Bytes) : (s.sendWrite p pasid a b).power = s.power := rfl
@[simp] theorem State.sendWrite_therm (p : HPort) (pasid) (a : W64) (b : Bytes) : (s.sendWrite p pasid a b).therm = s.therm := rfl
@[simp] theorem State.sendWrite_vfs (p : HPort) (pasid) (a : W64) (b : Bytes) : (s.sendWrite p pasid a b).vfs = s.vfs := rfl
@[simp] theorem State.sendWrite_list (p : HPort) (pasid) (a : W64) (b : Bytes) : (s.sendWrite p pasid a b).list = s.list := rfl
@[simp] theorem State.sendWrite_prog (p : HPort) (pasid) (a : W64) (b : Bytes) : (s.sendWrite p pasid a b).prog = s.prog := rfl
@[simp] theorem State.sendWrite_ports (p : HPort) (pasid) (a : W64) (b : Bytes) : (s.sendWrite p pasid a b).ports = s.ports := rfl
@[simp] theorem State.sendWrite_data (p : HPort) (pasid) (a : W64) (b : Bytes) : (s.sendWrite p pasid a b).data = s.data := rfl
@[simp] theorem State.sendWrite_evus (p : HPort) (pasid) (a : W64) (b : Bytes) : (s.sendWrite p pasid a b).evus = s.evus := rfl
@[simp] theorem State.sendWrite_banks (p : HPort) (pasid) (a : W64) (b : Bytes) : (s.sendWrite p pasid a b).banks = s.banks := rfl
@[simp] theorem State.sendWrite_boxes (p : HPort) (pasid) (a : W64) (b : Bytes) : (s.sendWrite p pasid a b).boxes = s.boxes := rfl
@[simp] theorem State.sendWrite_orders (p : HPort) (pasid) (a : W64) (b : Bytes) : (s.sendWrite p pasid a b).orders = s.orders := rfl
@[simp] theorem State.sendWrite_faults (p : HPort) (pasid) (a : W64) (b : Bytes) : (s.sendWrite p pasid a b).faults = s.faults := rfl
@[simp] theorem State.sendWrite_fw (p : HPort) (pasid) (a : W64) (b : Bytes) : (s.sendWrite p pasid a b).fw = s.fw := rfl
@[simp] theorem State.sendWrite_side (p : HPort) (pasid) (a : W64) (b : Bytes) : (s.sendWrite p pasid a b).side = s.side := rfl

theorem State.sendVector_frame (fn : Fn) (v : Nat) : { s.sendVector fn v with out := s.out, hosts := s.hosts } = s := rfl
@[simp] theorem State.sendVector_pending (fn : Fn) (v : Nat) : (s.sendVector fn v).pending = s.pending := rfl
@[simp] theorem State.sendVector_clk (fn : Fn) (v : Nat) : (s.sendVector fn v).clk = s.clk := rfl
@[simp] theorem State.sendVector_keeper (fn : Fn) (v : Nat) : (s.sendVector fn v).keeper = s.keeper := rfl
@[simp] theorem State.sendVector_power (fn : Fn) (v : Nat) : (s.sendVector fn v).power = s.power := rfl
@[simp] theorem State.sendVector_therm (fn : Fn) (v : Nat) : (s.sendVector fn v).therm = s.therm := rfl
@[simp] theorem State.sendVector_vfs (fn : Fn) (v : Nat) : (s.sendVector fn v).vfs = s.vfs := rfl
@[simp] theorem State.sendVector_list (fn : Fn) (v : Nat) : (s.sendVector fn v).list = s.list := rfl
@[simp] theorem State.sendVector_prog (fn : Fn) (v : Nat) : (s.sendVector fn v).prog = s.prog := rfl
@[simp] theorem State.sendVector_ports (fn : Fn) (v : Nat) : (s.sendVector fn v).ports = s.ports := rfl
@[simp] theorem State.sendVector_evus (fn : Fn) (v : Nat) : (s.sendVector fn v).evus = s.evus := rfl
@[simp] theorem State.sendVector_boxes (fn : Fn) (v : Nat) : (s.sendVector fn v).boxes = s.boxes := rfl
@[simp] theorem State.sendVector_orders (fn : Fn) (v : Nat) : (s.sendVector fn v).orders = s.orders := rfl
@[simp] theorem State.sendVector_fw (fn : Fn) (v : Nat) : (s.sendVector fn v).fw = s.fw := rfl
@[simp] theorem State.sendVector_side (fn : Fn) (v : Nat) : (s.sendVector fn v).side = s.side := rfl

theorem State.issueRead_frame (p : HPort) (pasid) (ranges) (key : ReadKey) : { s.issueRead p pasid ranges key with out := s.out, hosts := s.hosts } = s := rfl
@[simp] theorem State.issueRead_pending (p : HPort) (pasid) (ranges) (key : ReadKey) : (s.issueRead p pasid ranges key).pending = s.pending := rfl
@[simp] theorem State.issueRead_clk (p : HPort) (pasid) (ranges) (key : ReadKey) : (s.issueRead p pasid ranges key).clk = s.clk := rfl
@[simp] theorem State.issueRead_keeper (p : HPort) (pasid) (ranges) (key : ReadKey) : (s.issueRead p pasid ranges key).keeper = s.keeper := rfl
@[simp] theorem State.issueRead_power (p : HPort) (pasid) (ranges) (key : ReadKey) : (s.issueRead p pasid ranges key).power = s.power := rfl
@[simp] theorem State.issueRead_therm (p : HPort) (pasid) (ranges) (key : ReadKey) : (s.issueRead p pasid ranges key).therm = s.therm := rfl
@[simp] theorem State.issueRead_vfs (p : HPort) (pasid) (ranges) (key : ReadKey) : (s.issueRead p pasid ranges key).vfs = s.vfs := rfl
@[simp] theorem State.issueRead_queues (p : HPort) (pasid) (ranges) (key : ReadKey) : (s.issueRead p pasid ranges key).queues = s.queues := rfl
@[simp] theorem State.issueRead_list (p : HPort) (pasid) (ranges) (key : ReadKey) : (s.issueRead p pasid ranges key).list = s.list := rfl
@[simp] theorem State.issueRead_prog (p : HPort) (pasid) (ranges) (key : ReadKey) : (s.issueRead p pasid ranges key).prog = s.prog := rfl
@[simp] theorem State.issueRead_ports (p : HPort) (pasid) (ranges) (key : ReadKey) : (s.issueRead p pasid ranges key).ports = s.ports := rfl
@[simp] theorem State.issueRead_data (p : HPort) (pasid) (ranges) (key : ReadKey) : (s.issueRead p pasid ranges key).data = s.data := rfl
@[simp] theorem State.issueRead_evus (p : HPort) (pasid) (ranges) (key : ReadKey) : (s.issueRead p pasid ranges key).evus = s.evus := rfl
@[simp] theorem State.issueRead_banks (p : HPort) (pasid) (ranges) (key : ReadKey) : (s.issueRead p pasid ranges key).banks = s.banks := rfl
@[simp] theorem State.issueRead_boxes (p : HPort) (pasid) (ranges) (key : ReadKey) : (s.issueRead p pasid ranges key).boxes = s.boxes := rfl
@[simp] theorem State.issueRead_orders (p : HPort) (pasid) (ranges) (key : ReadKey) : (s.issueRead p pasid ranges key).orders = s.orders := rfl
@[simp] theorem State.issueRead_faults (p : HPort) (pasid) (ranges) (key : ReadKey) : (s.issueRead p pasid ranges key).faults = s.faults := rfl
@[simp] theorem State.issueRead_fw (p : HPort) (pasid) (ranges) (key : ReadKey) : (s.issueRead p pasid ranges key).fw = s.fw := rfl
@[simp] theorem State.issueRead_side (p : HPort) (pasid) (ranges) (key : ReadKey) : (s.issueRead p pasid ranges key).side = s.side := rfl

theorem State.sendReads_frame (p : HPort) (pasid) (ranges) (key : ReadKey) : { s.sendReads p pasid ranges key with out := s.out, hosts := s.hosts } = s := (s.sendReads_facts p pasid ranges key).1
@[simp] theorem State.sendReads_pending (p : HPort) (pasid) (ranges) (key : ReadKey) : (s.sendReads p pasid ranges key).pending = s.pending := (congrArg State.pending (s.sendReads_frame p pasid ranges key) :)
@[simp] theorem State.sendReads_clk (p : HPort) (pasid) (ranges) (key : ReadKey) : (s.sendReads p pasid ranges key).clk = s.clk := (congrArg State.clk (s.sendReads_frame p pasid ranges key) :)
@[simp] theorem State.sendReads_keeper (p : HPort) (pasid) (ranges) (key : ReadKey) : (s.sendReads p pasid ranges key).keeper = s.keeper := (congrArg State.keeper (s.sendReads_frame p pasid ranges key) :)
@[simp] theorem State.sendReads_power (p : HPort) (pasid) (ranges) (key : ReadKey) : (s.sendReads p pasid ranges key).power = s.power := (congrArg State.power (s.sendReads_frame p pasid ranges key) :)
@[simp] theorem State.sendReads_therm (p : HPort) (pasid) (ranges) (key : ReadKey) : (s.sendReads p pasid ranges key).therm = s.therm := (congrArg State.therm (s.sendReads_frame p pasid ranges key) :)
@[simp] theorem State.sendReads_vfs (p : HPort) (pasid) (ranges) (key : ReadKey) : (s.sendReads p pasid ranges key).vfs = s.vfs := (congrArg State.vfs (s.sendReads_frame p pasid ranges key) :)
@[simp] theorem State.sendReads_list (p : HPort) (pasid) (ranges) (key : ReadKey) : (s.sendReads p pasid ranges key).list = s.list := (congrArg State.list (s.sendReads_frame p pasid ranges key) :)
@[simp] theorem State.sendReads_prog (p : HPort) (pasid) (ranges) (key : ReadKey) : (s.sendReads p pasid ranges key).prog = s.prog := (congrArg State.prog (s.sendReads_frame p pasid ranges key) :)
@[simp] theorem State.sendReads_ports (p : HPort) (pasid) (ranges) (key : ReadKey) : (s.sendReads p pasid ranges key).ports = s.ports := (congrArg State.ports (s.sendReads_frame p pasid ranges key) :)
@[simp] theorem State.sendReads_data (p : HPort) (pasid) (ranges) (key : ReadKey) : (s.sendReads p pasid ranges key).data = s.data := (congrArg State.data (s.sendReads_frame p pasid ranges key) :)
@[simp] theorem State.sendReads_evus (p : HPort) (pasid) (ranges) (key : ReadKey) : (s.sendReads p pasid ranges key).evus = s.evus := (congrArg State.evus (s.sendReads_frame p pasid ranges key) :)
@[simp] theorem State.sendReads_banks (p : HPort) (pasid) (ranges) (key : ReadKey) : (s.sendReads p pasid ranges key).banks = s.banks := (congrArg State.banks (s.sendReads_frame p pasid ranges key) :)
@[simp] theorem State.sendReads_boxes (p : HPort) (pasid) (ranges) (key : ReadKey) : (s.sendReads p pasid ranges key).boxes = s.boxes := (congrArg State.boxes (s.sendReads_frame p pasid ranges key) :)
@[simp] theorem State.sendReads_orders (p : HPort) (pasid) (ranges) (key : ReadKey) : (s.sendReads p pasid ranges key).orders = s.orders := (congrArg State.orders (s.sendReads_frame p pasid ranges key) :)
@[simp] theorem State.sendReads_faults (p : HPort) (pasid) (ranges) (key : ReadKey) : (s.sendReads p pasid ranges key).faults = s.faults := (congrArg State.faults (s.sendReads_frame p pasid ranges key) :)
@[simp] theorem State.sendReads_fw (p : HPort) (pasid) (ranges) (key : ReadKey) : (s.sendReads p pasid ranges key).fw = s.fw := (congrArg State.fw (s.sendReads_frame p pasid ranges key) :)
@[simp] theorem State.sendReads_side (p : HPort) (pasid) (ranges) (key : ReadKey) : (s.sendReads p pasid ranges key).side = s.side := (congrArg State.side (s.sendReads_frame p pasid ranges key) :)

theorem State.sendRead_frame (p : HPort) (pasid) (a : W64) (n : Nat) (key : ReadKey) : { s.sendRead p pasid a n key with out := s.out, hosts := s.hosts } = s := s.sendReads_frame p pasid _ key
@[simp] theorem State.sendRead_pending (p : HPort) (pasid) (a : W64) (n : Nat) (key : ReadKey) : (s.sendRead p pasid a n key).pending = s.pending := (congrArg State.pending (s.sendRead_frame p pasid a n key) :)
@[simp] theorem State.sendRead_clk (p : HPort) (pasid) (a : W64) (n : Nat) (key : ReadKey) : (s.sendRead p pasid a n key).clk = s.clk := (congrArg State.clk (s.sendRead_frame p pasid a n key) :)
@[simp] theorem State.sendRead_keeper (p : HPort) (pasid) (a : W64) (n : Nat) (key : ReadKey) : (s.sendRead p pasid a n key).keeper = s.keeper := (congrArg State.keeper (s.sendRead_frame p pasid a n key) :)
@[simp] theorem State.sendRead_power (p : HPort) (pasid) (a : W64) (n : Nat) (key : ReadKey) : (s.sendRead p pasid a n key).power = s.power := (congrArg State.power (s.sendRead_frame p pasid a n key) :)
@[simp] theorem State.sendRead_therm (p : HPort) (pasid) (a : W64) (n : Nat) (key : ReadKey) : (s.sendRead p pasid a n key).therm = s.therm := (congrArg State.therm (s.sendRead_frame p pasid a n key) :)
@[simp] theorem State.sendRead_vfs (p : HPort) (pasid) (a : W64) (n : Nat) (key : ReadKey) : (s.sendRead p pasid a n key).vfs = s.vfs := (congrArg State.vfs (s.sendRead_frame p pasid a n key) :)
@[simp] theorem State.sendRead_queues (p : HPort) (pasid) (a : W64) (n : Nat) (key : ReadKey) : (s.sendRead p pasid a n key).queues = s.queues := (congrArg State.queues (s.sendRead_frame p pasid a n key) :)
@[simp] theorem State.sendRead_list (p : HPort) (pasid) (a : W64) (n : Nat) (key : ReadKey) : (s.sendRead p pasid a n key).list = s.list := (congrArg State.list (s.sendRead_frame p pasid a n key) :)
@[simp] theorem State.sendRead_prog (p : HPort) (pasid) (a : W64) (n : Nat) (key : ReadKey) : (s.sendRead p pasid a n key).prog = s.prog := (congrArg State.prog (s.sendRead_frame p pasid a n key) :)
@[simp] theorem State.sendRead_ports (p : HPort) (pasid) (a : W64) (n : Nat) (key : ReadKey) : (s.sendRead p pasid a n key).ports = s.ports := (congrArg State.ports (s.sendRead_frame p pasid a n key) :)
@[simp] theorem State.sendRead_data (p : HPort) (pasid) (a : W64) (n : Nat) (key : ReadKey) : (s.sendRead p pasid a n key).data = s.data := (congrArg State.data (s.sendRead_frame p pasid a n key) :)
@[simp] theorem State.sendRead_evus (p : HPort) (pasid) (a : W64) (n : Nat) (key : ReadKey) : (s.sendRead p pasid a n key).evus = s.evus := (congrArg State.evus (s.sendRead_frame p pasid a n key) :)
@[simp] theorem State.sendRead_banks (p : HPort) (pasid) (a : W64) (n : Nat) (key : ReadKey) : (s.sendRead p pasid a n key).banks = s.banks := (congrArg State.banks (s.sendRead_frame p pasid a n key) :)
@[simp] theorem State.sendRead_boxes (p : HPort) (pasid) (a : W64) (n : Nat) (key : ReadKey) : (s.sendRead p pasid a n key).boxes = s.boxes := (congrArg State.boxes (s.sendRead_frame p pasid a n key) :)
@[simp] theorem State.sendRead_orders (p : HPort) (pasid) (a : W64) (n : Nat) (key : ReadKey) : (s.sendRead p pasid a n key).orders = s.orders := (congrArg State.orders (s.sendRead_frame p pasid a n key) :)
@[simp] theorem State.sendRead_faults (p : HPort) (pasid) (a : W64) (n : Nat) (key : ReadKey) : (s.sendRead p pasid a n key).faults = s.faults := (congrArg State.faults (s.sendRead_frame p pasid a n key) :)
@[simp] theorem State.sendRead_fw (p : HPort) (pasid) (a : W64) (n : Nat) (key : ReadKey) : (s.sendRead p pasid a n key).fw = s.fw := (congrArg State.fw (s.sendRead_frame p pasid a n key) :)
@[simp] theorem State.sendRead_side (p : HPort) (pasid) (a : W64) (n : Nat) (key : ReadKey) : (s.sendRead p pasid a n key).side = s.side := (congrArg State.side (s.sendRead_frame p pasid a n key) :)

theorem State.issueWaiting_frame (n : Nat) (p : HPort) : { State.issueWaiting n s p with out := s.out, hosts := s.hosts } = s := by
  induction n generalizing s with
  | zero => rfl
  | succ n ih =>
    unfold State.issueWaiting
    dsimp only
    (repeat' split)
    · rfl
    · exact (congrArg (fun t : State => { t with out := s.out, hosts := s.hosts }) (ih _) :)
    · rfl

theorem State.kickReads_frame (p : HPort) : { s.kickReads p with out := s.out, hosts := s.hosts } = s := s.issueWaiting_frame _ p
@[simp] theorem State.kickReads_pending (p : HPort) : (s.kickReads p).pending = s.pending := (congrArg State.pending (s.kickReads_frame p) :)
@[simp] theorem State.kickReads_clk (p : HPort) : (s.kickReads p).clk = s.clk := (congrArg State.clk (s.kickReads_frame p) :)
@[simp] theorem State.kickReads_keeper (p : HPort) : (s.kickReads p).keeper = s.keeper := (congrArg State.keeper (s.kickReads_frame p) :)
@[simp] theorem State.kickReads_power (p : HPort) : (s.kickReads p).power = s.power := (congrArg State.power (s.kickReads_frame p) :)
@[simp] theorem State.kickReads_therm (p : HPort) : (s.kickReads p).therm = s.therm := (congrArg State.therm (s.kickReads_frame p) :)
@[simp] theorem State.kickReads_vfs (p : HPort) : (s.kickReads p).vfs = s.vfs := (congrArg State.vfs (s.kickReads_frame p) :)
@[simp] theorem State.kickReads_queues (p : HPort) : (s.kickReads p).queues = s.queues := (congrArg State.queues (s.kickReads_frame p) :)
@[simp] theorem State.kickReads_list (p : HPort) : (s.kickReads p).list = s.list := (congrArg State.list (s.kickReads_frame p) :)
@[simp] theorem State.kickReads_prog (p : HPort) : (s.kickReads p).prog = s.prog := (congrArg State.prog (s.kickReads_frame p) :)
@[simp] theorem State.kickReads_ports (p : HPort) : (s.kickReads p).ports = s.ports := (congrArg State.ports (s.kickReads_frame p) :)
@[simp] theorem State.kickReads_data (p : HPort) : (s.kickReads p).data = s.data := (congrArg State.data (s.kickReads_frame p) :)
@[simp] theorem State.kickReads_cores (p : HPort) : (s.kickReads p).cores = s.cores := (congrArg State.cores (s.kickReads_frame p) :)
@[simp] theorem State.kickReads_evus (p : HPort) : (s.kickReads p).evus = s.evus := (congrArg State.evus (s.kickReads_frame p) :)
@[simp] theorem State.kickReads_banks (p : HPort) : (s.kickReads p).banks = s.banks := (congrArg State.banks (s.kickReads_frame p) :)
@[simp] theorem State.kickReads_boxes (p : HPort) : (s.kickReads p).boxes = s.boxes := (congrArg State.boxes (s.kickReads_frame p) :)
@[simp] theorem State.kickReads_orders (p : HPort) : (s.kickReads p).orders = s.orders := (congrArg State.orders (s.kickReads_frame p) :)
@[simp] theorem State.kickReads_faults (p : HPort) : (s.kickReads p).faults = s.faults := (congrArg State.faults (s.kickReads_frame p) :)
@[simp] theorem State.kickReads_fw (p : HPort) : (s.kickReads p).fw = s.fw := (congrArg State.fw (s.kickReads_frame p) :)
@[simp] theorem State.kickReads_side (p : HPort) : (s.kickReads p).side = s.side := (congrArg State.side (s.kickReads_frame p) :)

theorem State.endRead_frame (p : HPort) (key : ReadKey) : { s.endRead p key with out := s.out, hosts := s.hosts } = s := (congrArg (fun t : State => { t with hosts := s.hosts }) (State.kickReads_frame (s.modHost p _) p) :)
@[simp] theorem State.endRead_pending (p : HPort) (key : ReadKey) : (s.endRead p key).pending = s.pending := (congrArg State.pending (s.endRead_frame p key) :)
@[simp] theorem State.endRead_clk (p : HPort) (key : ReadKey) : (s.endRead p key).clk = s.clk := (congrArg State.clk (s.endRead_frame p key) :)
@[simp] theorem State.endRead_keeper (p : HPort) (key : ReadKey) : (s.endRead p key).keeper = s.keeper := (congrArg State.keeper (s.endRead_frame p key) :)
@[simp] theorem State.endRead_power (p : HPort) (key : ReadKey) : (s.endRead p key).power = s.power := (congrArg State.power (s.endRead_frame p key) :)
@[simp] theorem State.endRead_therm (p : HPort) (key : ReadKey) : (s.endRead p key).therm = s.therm := (congrArg State.therm (s.endRead_frame p key) :)
@[simp] theorem State.endRead_vfs (p : HPort) (key : ReadKey) : (s.endRead p key).vfs = s.vfs := (congrArg State.vfs (s.endRead_frame p key) :)
@[simp] theorem State.endRead_queues (p : HPort) (key : ReadKey) : (s.endRead p key).queues = s.queues := (congrArg State.queues (s.endRead_frame p key) :)
@[simp] theorem State.endRead_list (p : HPort) (key : ReadKey) : (s.endRead p key).list = s.list := (congrArg State.list (s.endRead_frame p key) :)
@[simp] theorem State.endRead_prog (p : HPort) (key : ReadKey) : (s.endRead p key).prog = s.prog := (congrArg State.prog (s.endRead_frame p key) :)
@[simp] theorem State.endRead_ports (p : HPort) (key : ReadKey) : (s.endRead p key).ports = s.ports := (congrArg State.ports (s.endRead_frame p key) :)
@[simp] theorem State.endRead_data (p : HPort) (key : ReadKey) : (s.endRead p key).data = s.data := (congrArg State.data (s.endRead_frame p key) :)
@[simp] theorem State.endRead_cores (p : HPort) (key : ReadKey) : (s.endRead p key).cores = s.cores := (congrArg State.cores (s.endRead_frame p key) :)
@[simp] theorem State.endRead_evus (p : HPort) (key : ReadKey) : (s.endRead p key).evus = s.evus := (congrArg State.evus (s.endRead_frame p key) :)
@[simp] theorem State.endRead_banks (p : HPort) (key : ReadKey) : (s.endRead p key).banks = s.banks := (congrArg State.banks (s.endRead_frame p key) :)
@[simp] theorem State.endRead_boxes (p : HPort) (key : ReadKey) : (s.endRead p key).boxes = s.boxes := (congrArg State.boxes (s.endRead_frame p key) :)
@[simp] theorem State.endRead_orders (p : HPort) (key : ReadKey) : (s.endRead p key).orders = s.orders := (congrArg State.orders (s.endRead_frame p key) :)
@[simp] theorem State.endRead_faults (p : HPort) (key : ReadKey) : (s.endRead p key).faults = s.faults := (congrArg State.faults (s.endRead_frame p key) :)
@[simp] theorem State.endRead_fw (p : HPort) (key : ReadKey) : (s.endRead p key).fw = s.fw := (congrArg State.fw (s.endRead_frame p key) :)
@[simp] theorem State.endRead_side (p : HPort) (key : ReadKey) : (s.endRead p key).side = s.side := (congrArg State.side (s.endRead_frame p key) :)

@[simp] theorem State.vector_pending (fn : Fn) (v : Nat) : (s.vector fn v).pending = s.pending := (congrArg State.pending ((s.vector_frame fn v).1) :)
@[simp] theorem State.vector_clk (fn : Fn) (v : Nat) : (s.vector fn v).clk = s.clk := (congrArg State.clk ((s.vector_frame fn v).1) :)
@[simp] theorem State.vector_keeper (fn : Fn) (v : Nat) : (s.vector fn v).keeper = s.keeper := (congrArg State.keeper ((s.vector_frame fn v).1) :)
@[simp] theorem State.vector_power (fn : Fn) (v : Nat) : (s.vector fn v).power = s.power := (congrArg State.power ((s.vector_frame fn v).1) :)
@[simp] theorem State.vector_therm (fn : Fn) (v : Nat) : (s.vector fn v).therm = s.therm := (congrArg State.therm ((s.vector_frame fn v).1) :)
@[simp] theorem State.vector_list (fn : Fn) (v : Nat) : (s.vector fn v).list = s.list := (congrArg State.list ((s.vector_frame fn v).1) :)
@[simp] theorem State.vector_prog (fn : Fn) (v : Nat) : (s.vector fn v).prog = s.prog := (congrArg State.prog ((s.vector_frame fn v).1) :)
@[simp] theorem State.vector_ports (fn : Fn) (v : Nat) : (s.vector fn v).ports = s.ports := (congrArg State.ports ((s.vector_frame fn v).1) :)
@[simp] theorem State.vector_evus (fn : Fn) (v : Nat) : (s.vector fn v).evus = s.evus := (congrArg State.evus ((s.vector_frame fn v).1) :)
@[simp] theorem State.vector_orders (fn : Fn) (v : Nat) : (s.vector fn v).orders = s.orders := (congrArg State.orders ((s.vector_frame fn v).1) :)
@[simp] theorem State.vector_fw (fn : Fn) (v : Nat) : (s.vector fn v).fw = s.fw := (congrArg State.fw ((s.vector_frame fn v).1) :)
@[simp] theorem State.vector_side (fn : Fn) (v : Nat) : (s.vector fn v).side = s.side := (congrArg State.side ((s.vector_frame fn v).1) :)

theorem State.pfVector_frame (v : Nat) : { s.pfVector v with out := s.out, hosts := s.hosts, vfs := s.vfs } = s := by
  unfold State.pfVector
  exact (congrArg (fun t : State => { t with out := s.out, hosts := s.hosts, vfs := s.vfs }) (State.vector_frame (s.vector (.pf 0) v) (.pf 1) v).1 :).trans
    (s.vector_frame (.pf 0) v).1
@[simp] theorem State.pfVector_pending (v : Nat) : (s.pfVector v).pending = s.pending := (congrArg State.pending (s.pfVector_frame v) :)
@[simp] theorem State.pfVector_clk (v : Nat) : (s.pfVector v).clk = s.clk := (congrArg State.clk (s.pfVector_frame v) :)
@[simp] theorem State.pfVector_keeper (v : Nat) : (s.pfVector v).keeper = s.keeper := (congrArg State.keeper (s.pfVector_frame v) :)
@[simp] theorem State.pfVector_power (v : Nat) : (s.pfVector v).power = s.power := (congrArg State.power (s.pfVector_frame v) :)
@[simp] theorem State.pfVector_therm (v : Nat) : (s.pfVector v).therm = s.therm := (congrArg State.therm (s.pfVector_frame v) :)
@[simp] theorem State.pfVector_list (v : Nat) : (s.pfVector v).list = s.list := (congrArg State.list (s.pfVector_frame v) :)
@[simp] theorem State.pfVector_prog (v : Nat) : (s.pfVector v).prog = s.prog := (congrArg State.prog (s.pfVector_frame v) :)
@[simp] theorem State.pfVector_ports (v : Nat) : (s.pfVector v).ports = s.ports := (congrArg State.ports (s.pfVector_frame v) :)
@[simp] theorem State.pfVector_evus (v : Nat) : (s.pfVector v).evus = s.evus := (congrArg State.evus (s.pfVector_frame v) :)
@[simp] theorem State.pfVector_boxes (v : Nat) : (s.pfVector v).boxes = s.boxes := (congrArg State.boxes (s.pfVector_frame v) :)
@[simp] theorem State.pfVector_orders (v : Nat) : (s.pfVector v).orders = s.orders := (congrArg State.orders (s.pfVector_frame v) :)
@[simp] theorem State.pfVector_fw (v : Nat) : (s.pfVector v).fw = s.fw := (congrArg State.fw (s.pfVector_frame v) :)
@[simp] theorem State.pfVector_side (v : Nat) : (s.pfVector v).side = s.side := (congrArg State.side (s.pfVector_frame v) :)

@[simp] theorem State.aerNote_pending (fn : Fn) (bit : Nat) : (s.aerNote fn bit).pending = s.pending := (congrArg State.pending (s.aerNote_frame fn bit) :)
@[simp] theorem State.aerNote_clk (fn : Fn) (bit : Nat) : (s.aerNote fn bit).clk = s.clk := (congrArg State.clk (s.aerNote_frame fn bit) :)
@[simp] theorem State.aerNote_keeper (fn : Fn) (bit : Nat) : (s.aerNote fn bit).keeper = s.keeper := (congrArg State.keeper (s.aerNote_frame fn bit) :)
@[simp] theorem State.aerNote_power (fn : Fn) (bit : Nat) : (s.aerNote fn bit).power = s.power := (congrArg State.power (s.aerNote_frame fn bit) :)
@[simp] theorem State.aerNote_therm (fn : Fn) (bit : Nat) : (s.aerNote fn bit).therm = s.therm := (congrArg State.therm (s.aerNote_frame fn bit) :)
@[simp] theorem State.aerNote_queues (fn : Fn) (bit : Nat) : (s.aerNote fn bit).queues = s.queues := (congrArg State.queues (s.aerNote_frame fn bit) :)
@[simp] theorem State.aerNote_list (fn : Fn) (bit : Nat) : (s.aerNote fn bit).list = s.list := (congrArg State.list (s.aerNote_frame fn bit) :)
@[simp] theorem State.aerNote_prog (fn : Fn) (bit : Nat) : (s.aerNote fn bit).prog = s.prog := (congrArg State.prog (s.aerNote_frame fn bit) :)
@[simp] theorem State.aerNote_ports (fn : Fn) (bit : Nat) : (s.aerNote fn bit).ports = s.ports := (congrArg State.ports (s.aerNote_frame fn bit) :)
@[simp] theorem State.aerNote_data (fn : Fn) (bit : Nat) : (s.aerNote fn bit).data = s.data := (congrArg State.data (s.aerNote_frame fn bit) :)
@[simp] theorem State.aerNote_cores (fn : Fn) (bit : Nat) : (s.aerNote fn bit).cores = s.cores := (congrArg State.cores (s.aerNote_frame fn bit) :)
@[simp] theorem State.aerNote_evus (fn : Fn) (bit : Nat) : (s.aerNote fn bit).evus = s.evus := (congrArg State.evus (s.aerNote_frame fn bit) :)
@[simp] theorem State.aerNote_banks (fn : Fn) (bit : Nat) : (s.aerNote fn bit).banks = s.banks := (congrArg State.banks (s.aerNote_frame fn bit) :)
@[simp] theorem State.aerNote_boxes (fn : Fn) (bit : Nat) : (s.aerNote fn bit).boxes = s.boxes := (congrArg State.boxes (s.aerNote_frame fn bit) :)
@[simp] theorem State.aerNote_orders (fn : Fn) (bit : Nat) : (s.aerNote fn bit).orders = s.orders := (congrArg State.orders (s.aerNote_frame fn bit) :)
@[simp] theorem State.aerNote_faults (fn : Fn) (bit : Nat) : (s.aerNote fn bit).faults = s.faults := (congrArg State.faults (s.aerNote_frame fn bit) :)
@[simp] theorem State.aerNote_fw (fn : Fn) (bit : Nat) : (s.aerNote fn bit).fw = s.fw := (congrArg State.fw (s.aerNote_frame fn bit) :)
@[simp] theorem State.aerNote_side (fn : Fn) (bit : Nat) : (s.aerNote fn bit).side = s.side := (congrArg State.side (s.aerNote_frame fn bit) :)

@[simp] theorem State.fire_pending (u : EvUnit) (n : Nat) : (s.fire u n).pending = s.pending := (congrArg State.pending (s.fire_frame u n) :)
@[simp] theorem State.fire_clk (u : EvUnit) (n : Nat) : (s.fire u n).clk = s.clk := (congrArg State.clk (s.fire_frame u n) :)
@[simp] theorem State.fire_keeper (u : EvUnit) (n : Nat) : (s.fire u n).keeper = s.keeper := (congrArg State.keeper (s.fire_frame u n) :)
@[simp] theorem State.fire_therm (u : EvUnit) (n : Nat) : (s.fire u n).therm = s.therm := (congrArg State.therm (s.fire_frame u n) :)
@[simp] theorem State.fire_list (u : EvUnit) (n : Nat) : (s.fire u n).list = s.list := (congrArg State.list (s.fire_frame u n) :)
@[simp] theorem State.fire_prog (u : EvUnit) (n : Nat) : (s.fire u n).prog = s.prog := (congrArg State.prog (s.fire_frame u n) :)
@[simp] theorem State.fire_ports (u : EvUnit) (n : Nat) : (s.fire u n).ports = s.ports := (congrArg State.ports (s.fire_frame u n) :)
@[simp] theorem State.fire_orders (u : EvUnit) (n : Nat) : (s.fire u n).orders = s.orders := (congrArg State.orders (s.fire_frame u n) :)
@[simp] theorem State.fire_fw (u : EvUnit) (n : Nat) : (s.fire u n).fw = s.fw := (congrArg State.fw (s.fire_frame u n) :)
@[simp] theorem State.fire_side (u : EvUnit) (n : Nat) : (s.fire u n).side = s.side := (congrArg State.side (s.fire_frame u n) :)

theorem State.fireReport_frame (site : W32) : { s.fireReport site with evus := s.evus, power := s.power } = s := by
  unfold State.fireReport
  split
  · exact s.fire_frame _ _
  · rfl
@[simp] theorem State.fireReport_pending (site : W32) : (s.fireReport site).pending = s.pending := (congrArg State.pending (s.fireReport_frame site) :)
@[simp] theorem State.fireReport_out (site : W32) : (s.fireReport site).out = s.out := (congrArg State.out (s.fireReport_frame site) :)
@[simp] theorem State.fireReport_clk (site : W32) : (s.fireReport site).clk = s.clk := (congrArg State.clk (s.fireReport_frame site) :)
@[simp] theorem State.fireReport_keeper (site : W32) : (s.fireReport site).keeper = s.keeper := (congrArg State.keeper (s.fireReport_frame site) :)
@[simp] theorem State.fireReport_therm (site : W32) : (s.fireReport site).therm = s.therm := (congrArg State.therm (s.fireReport_frame site) :)
@[simp] theorem State.fireReport_hosts (site : W32) : (s.fireReport site).hosts = s.hosts := (congrArg State.hosts (s.fireReport_frame site) :)
@[simp] theorem State.fireReport_vfs (site : W32) : (s.fireReport site).vfs = s.vfs := (congrArg State.vfs (s.fireReport_frame site) :)
@[simp] theorem State.fireReport_list (site : W32) : (s.fireReport site).list = s.list := (congrArg State.list (s.fireReport_frame site) :)
@[simp] theorem State.fireReport_prog (site : W32) : (s.fireReport site).prog = s.prog := (congrArg State.prog (s.fireReport_frame site) :)
@[simp] theorem State.fireReport_ports (site : W32) : (s.fireReport site).ports = s.ports := (congrArg State.ports (s.fireReport_frame site) :)
@[simp] theorem State.fireReport_boxes (site : W32) : (s.fireReport site).boxes = s.boxes := (congrArg State.boxes (s.fireReport_frame site) :)
@[simp] theorem State.fireReport_orders (site : W32) : (s.fireReport site).orders = s.orders := (congrArg State.orders (s.fireReport_frame site) :)
@[simp] theorem State.fireReport_fw (site : W32) : (s.fireReport site).fw = s.fw := (congrArg State.fw (s.fireReport_frame site) :)
@[simp] theorem State.fireReport_side (site : W32) : (s.fireReport site).side = s.side := (congrArg State.side (s.fireReport_frame site) :)

theorem State.logEntry_frame (kind cls : Byte) (wc : W16) (site who : W32) (d : W64) : { s.logEntry kind cls wc site who d with faults := s.faults, fw := s.fw, out := s.out, hosts := s.hosts, vfs := s.vfs } = s := by
  unfold State.logEntry
  split
  · rfl
  · exact (congrArg (fun t : State => { t with faults := s.faults, fw := s.fw }) (State.pfVector_frame (s.onFaults (fun f => { f with
        log := logPut f.log ⟨f.next, kind, cls, wc, site, who, d, s.clk.hub⟩
        next := f.next + 1
        lost := if Config.faultLogEntries ≤ s.faults.log.length then satInc f.lost else f.lost })) 4) :)
@[simp] theorem State.logEntry_pending (kind cls : Byte) (wc : W16) (site who : W32) (d : W64) : (s.logEntry kind cls wc site who d).pending = s.pending := (congrArg State.pending (s.logEntry_frame kind cls wc site who d) :)
@[simp] theorem State.logEntry_clk (kind cls : Byte) (wc : W16) (site who : W32) (d : W64) : (s.logEntry kind cls wc site who d).clk = s.clk := (congrArg State.clk (s.logEntry_frame kind cls wc site who d) :)
@[simp] theorem State.logEntry_keeper (kind cls : Byte) (wc : W16) (site who : W32) (d : W64) : (s.logEntry kind cls wc site who d).keeper = s.keeper := (congrArg State.keeper (s.logEntry_frame kind cls wc site who d) :)
@[simp] theorem State.logEntry_power (kind cls : Byte) (wc : W16) (site who : W32) (d : W64) : (s.logEntry kind cls wc site who d).power = s.power := (congrArg State.power (s.logEntry_frame kind cls wc site who d) :)
@[simp] theorem State.logEntry_therm (kind cls : Byte) (wc : W16) (site who : W32) (d : W64) : (s.logEntry kind cls wc site who d).therm = s.therm := (congrArg State.therm (s.logEntry_frame kind cls wc site who d) :)
@[simp] theorem State.logEntry_list (kind cls : Byte) (wc : W16) (site who : W32) (d : W64) : (s.logEntry kind cls wc site who d).list = s.list := (congrArg State.list (s.logEntry_frame kind cls wc site who d) :)
@[simp] theorem State.logEntry_prog (kind cls : Byte) (wc : W16) (site who : W32) (d : W64) : (s.logEntry kind cls wc site who d).prog = s.prog := (congrArg State.prog (s.logEntry_frame kind cls wc site who d) :)
@[simp] theorem State.logEntry_ports (kind cls : Byte) (wc : W16) (site who : W32) (d : W64) : (s.logEntry kind cls wc site who d).ports = s.ports := (congrArg State.ports (s.logEntry_frame kind cls wc site who d) :)
@[simp] theorem State.logEntry_evus (kind cls : Byte) (wc : W16) (site who : W32) (d : W64) : (s.logEntry kind cls wc site who d).evus = s.evus := (congrArg State.evus (s.logEntry_frame kind cls wc site who d) :)
@[simp] theorem State.logEntry_boxes (kind cls : Byte) (wc : W16) (site who : W32) (d : W64) : (s.logEntry kind cls wc site who d).boxes = s.boxes := (congrArg State.boxes (s.logEntry_frame kind cls wc site who d) :)
@[simp] theorem State.logEntry_orders (kind cls : Byte) (wc : W16) (site who : W32) (d : W64) : (s.logEntry kind cls wc site who d).orders = s.orders := (congrArg State.orders (s.logEntry_frame kind cls wc site who d) :)
@[simp] theorem State.logEntry_side (kind cls : Byte) (wc : W16) (site who : W32) (d : W64) : (s.logEntry kind cls wc site who d).side = s.side := (congrArg State.side (s.logEntry_frame kind cls wc site who d) :)

theorem State.countEvent_frame (site : W32) : { (s.countEvent site).1 with faults := s.faults } = s := rfl
@[simp] theorem State.countEvent_pending (site : W32) : ((s.countEvent site).1).pending = s.pending := rfl
@[simp] theorem State.countEvent_out (site : W32) : ((s.countEvent site).1).out = s.out := rfl
@[simp] theorem State.countEvent_clk (site : W32) : ((s.countEvent site).1).clk = s.clk := rfl
@[simp] theorem State.countEvent_keeper (site : W32) : ((s.countEvent site).1).keeper = s.keeper := rfl
@[simp] theorem State.countEvent_power (site : W32) : ((s.countEvent site).1).power = s.power := rfl
@[simp] theorem State.countEvent_therm (site : W32) : ((s.countEvent site).1).therm = s.therm := rfl
@[simp] theorem State.countEvent_hosts (site : W32) : ((s.countEvent site).1).hosts = s.hosts := rfl
@[simp] theorem State.countEvent_vfs (site : W32) : ((s.countEvent site).1).vfs = s.vfs := rfl
@[simp] theorem State.countEvent_list (site : W32) : ((s.countEvent site).1).list = s.list := rfl
@[simp] theorem State.countEvent_prog (site : W32) : ((s.countEvent site).1).prog = s.prog := rfl
@[simp] theorem State.countEvent_ports (site : W32) : ((s.countEvent site).1).ports = s.ports := rfl
@[simp] theorem State.countEvent_evus (site : W32) : ((s.countEvent site).1).evus = s.evus := rfl
@[simp] theorem State.countEvent_boxes (site : W32) : ((s.countEvent site).1).boxes = s.boxes := rfl
@[simp] theorem State.countEvent_orders (site : W32) : ((s.countEvent site).1).orders = s.orders := rfl
@[simp] theorem State.countEvent_fw (site : W32) : ((s.countEvent site).1).fw = s.fw := rfl
@[simp] theorem State.countEvent_side (site : W32) : ((s.countEvent site).1).side = s.side := rfl

/-- A state, but for the parts that a logged fault may write, which are those of `s`. -/
def State.sinceFault (s t : State) : State :=
  { t with faults := s.faults, fw := s.fw, out := s.out, hosts := s.hosts, vfs := s.vfs, evus := s.evus, power := s.power }

theorem State.logFault_frame (kind : Byte) (site who : W32) (d : W64) : { s.logFault kind site who d with faults := s.faults, fw := s.fw, out := s.out, hosts := s.hosts, vfs := s.vfs, evus := s.evus, power := s.power } = s := by
  change s.sinceFault (s.logFault kind site who d) = s.sinceFault s
  exact State.logFault_keeps s.sinceFault (fun _ _ => rfl) (fun _ _ => rfl) (fun t u n => (congrArg s.sinceFault (t.fire_frame u n) :))
    (fun t fn v => (congrArg s.sinceFault (t.vector_frame fn v).1 :)) s kind site who d
@[simp] theorem State.logFault_pending (kind : Byte) (site who : W32) (d : W64) : (s.logFault kind site who d).pending = s.pending := (congrArg State.pending (s.logFault_frame kind site who d) :)
@[simp] theorem State.logFault_clk (kind : Byte) (site who : W32) (d : W64) : (s.logFault kind site who d).clk = s.clk := (congrArg State.clk (s.logFault_frame kind site who d) :)
@[simp] theorem State.logFault_keeper (kind : Byte) (site who : W32) (d : W64) : (s.logFault kind site who d).keeper = s.keeper := (congrArg State.keeper (s.logFault_frame kind site who d) :)
@[simp] theorem State.logFault_therm (kind : Byte) (site who : W32) (d : W64) : (s.logFault kind site who d).therm = s.therm := (congrArg State.therm (s.logFault_frame kind site who d) :)
@[simp] theorem State.logFault_list (kind : Byte) (site who : W32) (d : W64) : (s.logFault kind site who d).list = s.list := (congrArg State.list (s.logFault_frame kind site who d) :)
@[simp] theorem State.logFault_prog (kind : Byte) (site who : W32) (d : W64) : (s.logFault kind site who d).prog = s.prog := (congrArg State.prog (s.logFault_frame kind site who d) :)
@[simp] theorem State.logFault_ports (kind : Byte) (site who : W32) (d : W64) : (s.logFault kind site who d).ports = s.ports := (congrArg State.ports (s.logFault_frame kind site who d) :)
@[simp] theorem State.logFault_boxes (kind : Byte) (site who : W32) (d : W64) : (s.logFault kind site who d).boxes = s.boxes := (congrArg State.boxes (s.logFault_frame kind site who d) :)
@[simp] theorem State.logFault_orders (kind : Byte) (site who : W32) (d : W64) : (s.logFault kind site who d).orders = s.orders := (congrArg State.orders (s.logFault_frame kind site who d) :)
@[simp] theorem State.logFault_side (kind : Byte) (site who : W32) (d : W64) : (s.logFault kind site who d).side = s.side := (congrArg State.side (s.logFault_frame kind site who d) :)

theorem State.accessError_frame (fn : Fn) (off : Nat) (form : AccForm) : { s.accessError fn off form with faults := s.faults, fw := s.fw, out := s.out, hosts := s.hosts, vfs := s.vfs, evus := s.evus, power := s.power } = s := by
  have hl : ∀ (t : State) (site who d), s.sinceFault (t.logFault 7 site who d) = s.sinceFault t :=
    fun t site who d => (congrArg s.sinceFault (t.logFault_frame 7 site who d) :)
  have hm : ∀ f, s.sinceFault (s.modFn fn f) = s.sinceFault s := fun f => (congrArg s.sinceFault (s.modFn_frame fn f) :)
  change s.sinceFault (s.accessError fn off form) = s.sinceFault s
  rw [State.accessError, hl, hm]
@[simp] theorem State.accessError_pending (fn : Fn) (off : Nat) (form : AccForm) : (s.accessError fn off form).pending = s.pending := by simp [State.accessError]
@[simp] theorem State.accessError_clk (fn : Fn) (off : Nat) (form : AccForm) : (s.accessError fn off form).clk = s.clk := by simp [State.accessError]
@[simp] theorem State.accessError_keeper (fn : Fn) (off : Nat) (form : AccForm) : (s.accessError fn off form).keeper = s.keeper := by simp [State.accessError]
@[simp] theorem State.accessError_therm (fn : Fn) (off : Nat) (form : AccForm) : (s.accessError fn off form).therm = s.therm := by simp [State.accessError]
@[simp] theorem State.accessError_list (fn : Fn) (off : Nat) (form : AccForm) : (s.accessError fn off form).list = s.list := by simp [State.accessError]
@[simp] theorem State.accessError_prog (fn : Fn) (off : Nat) (form : AccForm) : (s.accessError fn off form).prog = s.prog := by simp [State.accessError]
@[simp] theorem State.accessError_ports (fn : Fn) (off : Nat) (form : AccForm) : (s.accessError fn off form).ports = s.ports := by simp [State.accessError]
@[simp] theorem State.accessError_data (fn : Fn) (off : Nat) (form : AccForm) : (s.accessError fn off form).data = s.data := by simp [State.accessError]
@[simp] theorem State.accessError_cores (fn : Fn) (off : Nat) (form : AccForm) : (s.accessError fn off form).cores = s.cores := by simp [State.accessError]
@[simp] theorem State.accessError_banks (fn : Fn) (off : Nat) (form : AccForm) : (s.accessError fn off form).banks = s.banks := by simp [State.accessError]
@[simp] theorem State.accessError_boxes (fn : Fn) (off : Nat) (form : AccForm) : (s.accessError fn off form).boxes = s.boxes := by simp [State.accessError]
@[simp] theorem State.accessError_orders (fn : Fn) (off : Nat) (form : AccForm) : (s.accessError fn off form).orders = s.orders := by simp [State.accessError]
@[simp] theorem State.accessError_side (fn : Fn) (off : Nat) (form : AccForm) : (s.accessError fn off form).side = s.side := by simp [State.accessError]

theorem State.journal_frame (t : Tenant) (typ : Nat) (body : Bytes) (ref step : W64) : { s.journal t typ body ref step with queues := s.queues, out := s.out, hosts := s.hosts } = s := by
  unfold State.journal
  dsimp only
  (repeat' split) <;> rfl
@[simp] theorem State.journal_pending (t : Tenant) (typ : Nat) (body : Bytes) (ref step : W64) : (s.journal t typ body ref step).pending = s.pending := (congrArg State.pending (s.journal_frame t typ body ref step) :)
@[simp] theorem State.journal_clk (t : Tenant) (typ : Nat) (body : Bytes) (ref step : W64) : (s.journal t typ body ref step).clk = s.clk := (congrArg State.clk (s.journal_frame t typ body ref step) :)
@[simp] theorem State.journal_keeper (t : Tenant) (typ : Nat) (body : Bytes) (ref step : W64) : (s.journal t typ body ref step).keeper = s.keeper := (congrArg State.keeper (s.journal_frame t typ body ref step) :)
@[simp] theorem State.journal_power (t : Tenant) (typ : Nat) (body : Bytes) (ref step : W64) : (s.journal t typ body ref step).power = s.power := (congrArg State.power (s.journal_frame t typ body ref step) :)
@[simp] theorem State.journal_therm (t : Tenant) (typ : Nat) (body : Bytes) (ref step : W64) : (s.journal t typ body ref step).therm = s.therm := (congrArg State.therm (s.journal_frame t typ body ref step) :)
@[simp] theorem State.journal_vfs (t : Tenant) (typ : Nat) (body : Bytes) (ref step : W64) : (s.journal t typ body ref step).vfs = s.vfs := (congrArg State.vfs (s.journal_frame t typ body ref step) :)
@[simp] theorem State.journal_list (t : Tenant) (typ : Nat) (body : Bytes) (ref step : W64) : (s.journal t typ body ref step).list = s.list := (congrArg State.list (s.journal_frame t typ body ref step) :)
@[simp] theorem State.journal_prog (t : Tenant) (typ : Nat) (body : Bytes) (ref step : W64) : (s.journal t typ body ref step).prog = s.prog := (congrArg State.prog (s.journal_frame t typ body ref step) :)
@[simp] theorem State.journal_ports (t : Tenant) (typ : Nat) (body : Bytes) (ref step : W64) : (s.journal t typ body ref step).ports = s.ports := (congrArg State.ports (s.journal_frame t typ body ref step) :)
@[simp] theorem State.journal_data (t : Tenant) (typ : Nat) (body : Bytes) (ref step : W64) : (s.journal t typ body ref step).data = s.data := (congrArg State.data (s.journal_frame t typ body ref step) :)
@[simp] theorem State.journal_evus (t : Tenant) (typ : Nat) (body : Bytes) (ref step : W64) : (s.journal t typ body ref step).evus = s.evus := (congrArg State.evus (s.journal_frame t typ body ref step) :)
@[simp] theorem State.journal_banks (t : Tenant) (typ : Nat) (body : Bytes) (ref step : W64) : (s.journal t typ body ref step).banks = s.banks := (congrArg State.banks (s.journal_frame t typ body ref step) :)
@[simp] theorem State.journal_boxes (t : Tenant) (typ : Nat) (body : Bytes) (ref step : W64) : (s.journal t typ body ref step).boxes = s.boxes := (congrArg State.boxes (s.journal_frame t typ body ref step) :)
@[simp] theorem State.journal_orders (t : Tenant) (typ : Nat) (body : Bytes) (ref step : W64) : (s.journal t typ body ref step).orders = s.orders := (congrArg State.orders (s.journal_frame t typ body ref step) :)
@[simp] theorem State.journal_faults (t : Tenant) (typ : Nat) (body : Bytes) (ref step : W64) : (s.journal t typ body ref step).faults = s.faults := (congrArg State.faults (s.journal_frame t typ body ref step) :)
@[simp] theorem State.journal_fw (t : Tenant) (typ : Nat) (body : Bytes) (ref step : W64) : (s.journal t typ body ref step).fw = s.fw := (congrArg State.fw (s.journal_frame t typ body ref step) :)
@[simp] theorem State.journal_side (t : Tenant) (typ : Nat) (body : Bytes) (ref step : W64) : (s.journal t typ body ref step).side = s.side := (congrArg State.side (s.journal_frame t typ body ref step) :)

end

end Sys2Proof.Machine

namespace Sys2Proof.Machine
open Sys2Proof

/-! ### Entries handed on, completions written -/

section
variable (s : State)

/-- A journal record writes of the queues no more than the tenant's place in its journal. -/
theorem State.journal_sqs (t : Tenant) (typ : Nat) (body : Bytes) (ref step : W64) : (s.journal t typ body ref step).queues.sqs = s.queues.sqs := by
  unfold State.journal
  dsimp only
  (repeat' split) <;> rfl

theorem State.journal_cqs (t : Tenant) (typ : Nat) (body : Bytes) (ref step : W64) : (s.journal t typ body ref step).queues.cqs = s.queues.cqs := by
  unfold State.journal
  dsimp only
  (repeat' split) <;> rfl

variable {s} in
theorem State.sq?_sqs {u : State} (h : u.queues.sqs = s.queues.sqs) (t : Tenant) (q : QNum) : u.sq? t q = s.sq? t q := by rw [State.sq?, h]; rfl
variable {s} in
theorem State.cq?_cqs {u : State} (h : u.queues.cqs = s.queues.cqs) (t : Tenant) (q : QNum) : u.cq? t q = s.cq? t q := by rw [State.cq?, h]; rfl
variable {s} in
theorem State.sub_congr {u : State} (h : u.prog = s.prog) (sc : SC) : u.sub sc = s.sub sc := by rw [State.sub, h]; rfl

theorem State.vector_adds (fn : Fn) (v : Nat) {o : Out} (h : o ∈ s.out) : o ∈ (s.vector fn v).out := by
  obtain ⟨l, hl⟩ := (s.vector_frame fn v).2
  rw [hl]
  exact List.mem_append_right l h

/-- R135: moderation writes of the completion queue no more than count and interval, and of what is sent no more than a vector. -/
theorem State.moderate_facts {s : State} {t : Tenant} {q : QNum} {k : Cq} (code : Byte) (hk : s.cq? t q = some k) :
    (∃ n x, (s.moderate t q code).cq? t q = some { k with unsignalled := n, expiry := x }) ∧
      (s.moderate t q code).queues.sqs = s.queues.sqs ∧ ∀ o ∈ s.out, o ∈ (s.moderate t q code).out := by
  unfold State.moderate
  rw [hk]
  dsimp only
  split
  · unfold State.signal
    refine ⟨⟨0, none, ?_⟩, ?_, fun o ho => State.vector_adds _ _ _ ho⟩
    · rw [State.cq?_congr (State.vector_queues _ _ _)]
      exact State.cq?_modCq_some _ hk
    · rw [State.vector_queues]
      rfl
  · exact ⟨⟨_, _, State.cq?_modCq_some _ hk⟩, rfl, fun _ ho => ho⟩

/-- R199: a completion is written: its record, its entry with the next SEQ at the write index, its vector. -/
theorem State.writeCpl_writes {s : State} {t : Tenant} {q : QNum} {k : Cq} (c : Cpl) (ref step : W64) (hk : s.cq? t q = some k)
    (hs : s.safe = false) (hp : s.side.pinsTaken = false) (hf : k.fenced = false) :
    (∃ n x, (s.writeCpl t q c ref step).cq? t q = some { k with
        tail := k.tail + 1, seq := k.seq + 1, gen := if k.seq = 0xFFFFFFFF then k.gen + 1 else k.gen, unsignalled := n, expiry := x }) ∧
      (s.writeCpl t q c ref step).queues.sqs = s.queues.sqs ∧
      .hostWrite (hostOf t) (s.pasidOf t) (k.base + BitVec.ofNat 64 (32 * (k.tail % k.depth)))
        (cplBytes c (passBit k.depth k.tail) s.clk.bridged k.seq k.gen s.clk.hub) ∈ (s.writeCpl t q c ref step).out := by
  have hpasid : ∀ body, (s.journal t 1 body ref step).pasidOf t = s.pasidOf t := by
    intro body
    have h : ((s.journal t 1 body ref step).tenant t).binding = (s.tenant t).binding := by
      unfold State.journal
      dsimp only
      have hh : ∀ (u : State) p f, (u.modHost p f).tenant t = u.tenant t := fun _ _ _ => rfl
      have hw : ∀ (u : State) p x a b, (u.sendWrite p x a b).tenant t = u.tenant t := fun _ _ _ _ _ => rfl
      (repeat' split) <;> simp [hh, hw]
    rw [State.pasidOf, h]
    rfl
  unfold State.writeCpl
  rw [hk]
  dsimp only
  rw [if_neg (by simp [hs, hp]), if_neg (by simp [hf])]
  have hj := State.cq?_cqs (s.journal_cqs t 1 (cplBytes c (passBit k.depth k.tail) s.clk.bridged k.seq k.gen s.clk.hub) ref step) t q
  rw [hk] at hj
  obtain ⟨hcq, hsq, hout⟩ := State.moderate_facts c.code (State.cq?_modCq_some (fun k => { k with
    tail := k.tail + 1, seq := k.seq + 1, gen := if k.seq = 0xFFFFFFFF then k.gen + 1 else k.gen })
      ((State.cq?_congr (State.sendWrite_queues _ (hostOf t) _ _ _) t q).trans hj))
  refine ⟨hcq, hsq.trans ?_, hout _ ?_⟩
  · exact s.journal_sqs _ _ _ _ _
  · rw [hpasid]
    exact List.mem_cons_self

/-- A completion that takes a slot: the write, then the end of its entries. -/
theorem State.writeInto_writes {s : State} {t : Tenant} {q : QNum} {k : Cq} (w : WaitingCpl) (hk : s.cq? t q = some k)
    (hs : s.safe = false) (hp : s.side.pinsTaken = false) (hf : k.fenced = false) :
    (∃ n x, (s.writeInto t q w).cq? t q = some { k with
        tail := k.tail + 1, seq := k.seq + 1, gen := if k.seq = 0xFFFFFFFF then k.gen + 1 else k.gen, reserved := k.reserved - w.slots
        unsignalled := n, expiry := x }) ∧
      (∀ u r, (((s.writeInto t q w).sq? u r).map (·.fetch) = (s.sq? u r).map (·.fetch)) ∧
        (((s.writeInto t q w).sq? u r).map (·.markWait) = (s.sq? u r).map (·.markWait))) ∧
      .hostWrite (hostOf t) (s.pasidOf t) (k.base + BitVec.ofNat 64 (32 * (k.tail % k.depth)))
        (cplBytes w.cpl (passBit k.depth k.tail) s.clk.bridged k.seq k.gen s.clk.hub) ∈ (s.writeInto t q w).out := by
  have hk1 := State.cq?_modCq_some (fun k => { k with reserved := k.reserved - w.slots }) hk
  obtain ⟨hcq, hsq, hout⟩ := State.writeCpl_writes (s := (s.unreserve t q w.slots).book 6 (qIndex t q) (1 - (w.slots : Int))) w.cpl w.ref w.step hk1 hs hp hf
  refine ⟨hcq, fun u r => ?_, hout⟩
  have hu := State.sq?_sqs hsq u r
  have he : ∀ (v : State), ((v.entriesEnd t w.cpl.sq w.ends).sq? u r).map (·.fetch) = (v.sq? u r).map (·.fetch) ∧
      ((v.entriesEnd t w.cpl.sq w.ends).sq? u r).map (·.markWait) = (v.sq? u r).map (·.markWait) := by
    intro v
    by_cases h : qIndex u r = qIndex t w.cpl.sq
    · simp only [State.sq?, h, State.entriesEnd, State.modSq, State.book_queues, State.onQueues_queues, tfind_tupd_same, Option.map_map]
      exact ⟨rfl, rfl⟩
    · simp only [State.sq?, State.entriesEnd, State.modSq, State.book_queues, State.onQueues_queues, tfind_tupd_ne _ _ _ _ h, and_self]
  obtain ⟨h1, h2⟩ := he (((s.unreserve t q w.slots).book 6 (qIndex t q) (1 - (w.slots : Int))).writeCpl t q w.cpl w.ref w.step)
  exact ⟨h1.trans (congrArg _ hu), h2.trans (congrArg _ hu)⟩

end

/-- A vector that nothing holds back is sent (R68). -/
theorem State.vector_sends {s : State} {fn : Fn} {v : Nat} (hl : s.fnLive fn = true) (hp : (s.fn fn).pba.getLsbD v = false)
    (hm : s.mayVector fn = true) (hk : (tget {} (s.fn fn).msix v).masked = false) :
    (s.vector fn v).out = .msix fn v (tget {} (s.fn fn).msix v).addr (tget {} (s.fn fn).msix v).data :: s.out := by
  unfold State.vector
  dsimp only
  rw [if_neg (by simp [hl, hp]), if_pos (by rw [hm, hk]; rfl)]
  rfl

/-- Settles O35. -/
theorem completionTimers : Obligations.CompletionTimers := by
  intro t q p k s
  refine ⟨fun w r hk hw hfree hm hj hs hp hf => ?slot, fun x hk hx hle => ?expiry, fun hroom => ?room⟩
  case slot =>
    have hfind : k.waiting.find? (fun w => decide (0 < w.slots) || decide (0 < k.free)) = some w := by simp [hw, hfree]
    have herase : k.waiting.eraseP (fun w => decide (0 < w.slots) || decide (0 < k.free)) = r := by simp [hw, hfree]
    have ho : doCompletionWriteSlotFreed t q s = ((s.modCq t q (fun c => { c with
        waiting := c.waiting.eraseP (fun w => decide (0 < w.slots) || decide (0 < k.free)) })).writeInto t q w).settle := by
      unfold doCompletionWriteSlotFreed State.writeOneWaiting
      rw [hk]
      dsimp only
      rw [hfind]
      dsimp only
      rw [if_pos (by simp [hm, hj])]
    have hk1 := State.cq?_modCq_some (fun c => { c with waiting := c.waiting.eraseP (fun w => decide (0 < w.slots) || decide (0 < k.free)) }) hk
    rw [herase] at hk1
    obtain ⟨⟨n, x, hcq⟩, -, hout⟩ := State.writeInto_writes w hk1 hs hp hf
    exact ⟨_, congrArg Host.Outcome.next ho, by rw [hcq]; rfl, by rw [hcq]; rfl, by rw [hcq]; rfl, hout⟩
  case expiry =>
    have ho : doModerationExpiry t q s = s.signal t q := by
      unfold doModerationExpiry
      rw [hk]
      dsimp only
      rw [hx]
      exact if_pos hle
    refine ⟨_, congrArg Host.Outcome.next ho, ?_, fun hl hpba hm hmask => ?_⟩
    · unfold State.signal
      rw [State.cq?_congr (State.vector_queues _ _ _)]
      exact State.cq?_modCq_some _ hk
    · exact State.vector_sends (s := s.modCq t q _) hl hpba hm hmask
  case room =>
    exact ⟨_, congrArg Host.Outcome.next (if_pos hroom), State.host_modHost _ _ _, rfl⟩

/-! ### Entries read -/

theorem State.entryCheck_congr {s u : State} (hp : u.prog = s.prog) (hl : u.list = s.list) (t : Tenant) (b : Bytes) (wait : Bool)
    (push : Option Bool) (open1 : Option Nat) : u.entryCheck t b wait push open1 = s.entryCheck t b wait push open1 := by
  have hn : ∀ sc, u.npath sc = s.npath sc := fun sc => by rw [State.npath, State.groupPaths, State.sub_congr hp, hl]; rfl
  simp only [State.entryCheck, State.sub_congr hp, hn]

/-- R126: an entry never found owned fails a check. -/
theorem State.entryCheck_wait (s : State) (t : Tenant) (b : Bytes) (push : Option Bool) (open1 : Option Nat) :
    s.entryCheck t b true push open1 ≠ 0 := by
  unfold State.entryCheck
  dsimp only
  (repeat' split) <;> simp_all

/-- R184: the read ahead of a start's first step group changes of the start no more than whether it was asked for. -/
theorem State.preRead_facts (s : State) (sc : SC) (x : Start) :
    (s.preRead sc x).1.prog = s.prog ∧ (s.preRead sc x).1.queues = s.queues ∧ ∃ b, (s.preRead sc x).2 = { x with preAsked := b } := by
  unfold State.preRead
  dsimp only
  split
  · exact ⟨State.sendRead_prog _ _ _ _ _ _, State.sendRead_queues _ _ _ _ _ _, true, rfl⟩
  · exact ⟨rfl, rfl, _, rfl⟩

/-- The queue as the hand-on of its entry at the fetch point leaves it. -/
def Sq.handed (k : Sq) : Sq :=
  { k with
    fetch := k.fetch + 1, copies := tdel k.copies k.fetch, copyEcc := tdel k.copyEcc k.fetch, pushed := k.pushed.filter (· != k.fetch)
    markWait := none, unowned := [] }

/-- R125, R130: an entry that passes its checks, outside a batch, is handed on. -/
theorem State.handOn_starts {s : State} {t : Tenant} {q : QNum} {k : Sq} {c : Cq} {b : Bytes} (hk : s.sq? t q = some k) (hc : s.cq? t k.cq = some c)
    (hbat : entryBat b = 0) (hpush : k.pushed.contains k.fetch = false)
    (hcheck : s.entryCheck t b false none ((k.batches.find? (fun b => !b.closed)).map (·.count)) = 0) :
    ∃ x : Start, ((s.handOn t q b false false).sub (entrySc b)).starts = (s.sub (entrySc b)).starts ++ [x] ∧ x.tenant = t ∧ x.sq = q ∧ x.index = k.fetch ∧
      x.program = u64 b 8 ∧ x.ref = entryRef b ∧ x.mask = byteAt b 0x18 ∧ (s.handOn t q b false false).sq? t q = some k.handed ∧
      (s.handOn t q b false false).cq? t k.cq = some { c with reserved := c.reserved + 1 } := by
  let v := (s.modSq t q (fun k' => { k' with
      fetch := k'.fetch + 1, copies := tdel k'.copies k.fetch, copyEcc := tdel k'.copyEcc k.fetch, pushed := k'.pushed.filter (· != k.fetch)
      markWait := none, unowned := [] })).reserveSlot t k.cq
  have hv : v.entryCheck t b false none ((k.batches.find? (fun b => !b.closed)).map (·.count)) = 0 :=
    (State.entryCheck_congr rfl rfl t b false none _).trans hcheck
  let x0 : Start := { tenant := t, sq := q, index := k.fetch, entry := k.fetch % k.depth, program := u64 b 8, ref := entryRef b, mask := byteAt b 0x18 }
  have ho : s.handOn t q b false false = (v.preRead (entrySc b) x0).1.modSub (entrySc b) (fun b' => { b' with starts := b'.starts ++ [(v.preRead (entrySc b) x0).2] }) := by
    unfold State.handOn
    rw [hk]
    dsimp only
    rw [hpush, hbat]
    simp only [Bool.false_eq_true, if_false]
    rw [show State.entryCheck _ t b false none _ = 0 from hv]
    rfl
  obtain ⟨hprog, hqueues, f, hx⟩ := v.preRead_facts (entrySc b) x0
  refine ⟨(v.preRead (entrySc b) x0).2, ?_, ?_⟩
  · rw [ho, State.sub_modSub, State.sub_congr hprog]
    rfl
  · rw [hx]
    refine ⟨rfl, rfl, rfl, rfl, rfl, rfl, ?_, ?_⟩
    · rw [ho]
      exact (State.sq?_congr hqueues t q).trans (State.sq?_modSq_some _ hk)
    · rw [ho]
      exact (State.cq?_congr hqueues t k.cq).trans (State.cq?_modCq_some _ hc)

/-- R126: an entry never found owned, outside a batch, is completed at once into its slot. -/
theorem State.handOn_waited {s : State} {t : Tenant} {q : QNum} {k : Sq} {c : Cq} {b : Bytes} (hk : s.sq? t q = some k) (hc : s.cq? t k.cq = some c)
    (hopen : k.batches.find? (fun b => !b.closed) = none) (hm : s.vfMaster t = true) (hs : s.safe = false) (hp : s.side.pinsTaken = false)
    (hf : c.fenced = false) :
    ((s.handOn t q b true false).sq? t q).map (·.fetch) = some (k.fetch + 1) ∧ ((s.handOn t q b true false).sq? t q).map (·.markWait) = some none ∧
      ((s.handOn t q b true false).cq? t k.cq).map (·.tail) = some (c.tail + 1) ∧
      ((s.handOn t q b true false).cq? t k.cq).map (·.seq) = some (c.seq + 1) := by
  let v := (s.modSq t q (fun k' => { k' with
      fetch := k'.fetch + 1, copies := tdel k'.copies k.fetch, copyEcc := tdel k'.copyEcc k.fetch, pushed := k'.pushed.filter (· != k.fetch)
      markWait := none, unowned := [] })).reserveSlot t k.cq
  have hv : v.sq? t q = some k.handed := State.sq?_modSq_some _ hk
  have hcv : v.cq? t k.cq = some { c with reserved := c.reserved + 1 } := State.cq?_modCq_some _ hc
  have ho : ∃ cpl : Cpl, s.handOn t q b true false = v.writeInto t k.cq ⟨cpl, entryRef b, 0, 1, 1⟩ := by
    unfold State.handOn
    rw [hk]
    dsimp only
    rw [hopen]
    have hd : ∀ push, v.entryCheck t b true push none ≠ 0 := fun push => v.entryCheck_wait t b push none
    simp only [Option.map_none, Option.isSome_none, Bool.not_true, Bool.and_false, Bool.false_and, Bool.false_or, Bool.false_eq_true, if_false]
    rw [if_pos (bne_iff_ne.2 (hd _))]
    unfold State.endEntry
    rw [show State.sq? _ t q = some k.handed from hv]
    dsimp only
    unfold State.writeFinal State.writeReserved
    dsimp only
    exact ⟨_, if_pos (show v.vfMaster t = true from hm)⟩
  obtain ⟨cpl, ho⟩ := ho
  obtain ⟨⟨n, x, hcq⟩, hsq, -⟩ := State.writeInto_writes ⟨cpl, entryRef b, 0, 1, 1⟩ hcv hs hp hf
  rw [ho, (hsq t q).1, (hsq t q).2, hcq, hv]
  exact ⟨rfl, rfl, rfl, rfl⟩

/-- Settles O34. -/
theorem entryFetch : Obligations.EntryFetch := by
  intro t q k c data s hk hc fetched owned
  let s1 := ((s.endRead (hostOf t) (.entry t q)).releaseGrant t q).modSq t q (fun k => { k with reading := none })
  have h1 : s1.sq? t q = some { k with reading := none } :=
    State.sq?_modSq_some _ ((State.sq?_congr (s.endRead_queues (hostOf t) (.entry t q)) t q).trans hk)
  have hc1 : s1.cq? t k.cq = some c := (State.cq?_congr (s.endRead_queues (hostOf t) (.entry t q)) t k.cq).trans hc
  have hstop : (s1.tenant t).stopped = (s.tenant t).stopped :=
    congrArg TenantSt.stopped (State.tenant_congr (s.endRead_queues (hostOf t) (.entry t q)) t)
  have reads : fetched → ∀ r, doEntryFetchComplete t q r [] s = (match r with
      | .ok data => (s1.takeEntries 1 t q k.fetch data []).settle
      | _ => ((s1.modSq t q (fun k => { k with dmaStop := true })).logFault 0x0D queueSite (whoVf t)
          (BitVec.ofNat 64 (k.fetch % k.depth + 65536 * q.val))).settle) := by
    rintro ⟨hr, hro, hre, hfe, hst⟩ r
    unfold doEntryFetchComplete
    dsimp only
    rw [hk]
    dsimp only
    rw [hr]
    dsimp only
    refine (if_neg (by simp [hro])).trans ((if_neg (by rw [hre, hfe, show (State.tenant _ t).stopped = false from hstop.trans hst]; simp)).trans ?_)
    cases r <;> rfl
  have padded : data.length = 64 → padTo 64 data = data := fun hl => by simp [padTo, ← hl]
  refine ⟨fun hf hl how hft hfree hbat hpush hcheck => ?_, fun hf hl how hft hmw => ?_, fun hf => ?_, fun hmw hg hw he hcop => ?_,
    fun w hw hle hrd hserve hfree hfen hclosed => ?_⟩
  · have ht : s1.takeEntries 1 t q k.fetch data [] = s1.handOn t q data false false := by
      unfold State.takeEntries
      rw [h1]
      dsimp only
      rw [padded hl, hc1, if_neg (by omega), if_neg (by simp [how, owned] at *), if_pos (by simp [hft, hfree])]
      rfl
    have hcheck1 : s1.entryCheck t data false none ((k.batches.find? (fun b => !b.closed)).map (·.count)) = 0 :=
      (State.entryCheck_congr (State.endRead_prog s _ _) (State.endRead_list s _ _) t data false none _).trans hcheck
    obtain ⟨x, hsub, hxt, hxq, hxi, hxp, hxr, hxm, hsq, hcq⟩ := State.handOn_starts h1 hc1 hbat hpush hcheck1
    refine ⟨_, x, congrArg Host.Outcome.next ((reads hf _).trans (congrArg State.settle ht)), ?_, hxt, hxq, hxi, hxp, hxr, hxm, ?_, ?_⟩
    · rw [hsub]
      exact congrArg (fun b : Sub => b.starts ++ [x]) (State.sub_congr (State.endRead_prog s _ _) (entrySc data))
    · rw [hsq]; rfl
    · rw [hcq]; rfl
  · have hnot : (entryMark (padTo 64 data) == passBit k.depth k.fetch) = false := by
      rw [padded hl]
      exact beq_eq_false_iff_ne.2 how
    have ht : s1.takeEntries 1 t q k.fetch data [] = s1.modSq t q (fun k => { k with
        unowned := padTo 64 data
        markWait := some ((k.markWait.map (fun (w : Nat × Nat) => w.1)).getD s1.clk.now, s1.clk.now + Config.rereadTicks) }) := by
      unfold State.takeEntries
      rw [h1]
      dsimp only
      rw [hnot, if_neg (by omega), if_pos (by simp [hft])]
      rfl
    refine ⟨_, congrArg Host.Outcome.next ((reads hf _).trans (congrArg State.settle ht)), ?_⟩
    rw [State.sq?_modSq_some _ h1, show s1.clk.now = s.clk.now from congrArg Clk.now (State.endRead_clk s _ _), hmw]
    rfl
  · refine ⟨_, congrArg Host.Outcome.next (reads hf _), ?_⟩
    rw [State.sq?_congr (State.logFault_queues _ _ _ _ _)]
    exact State.sq?_modSq_some _ h1
  · have ho : doMarkReread t q s = s.grant t q := by
      unfold doMarkReread
      rw [hk]
      exact if_pos (by simp [hmw, hg, hw])
    obtain ⟨hgr, hrd⟩ := State.grant_reads he hk hcop
    exact ⟨_, congrArg (fun u : State => Host.Outcome.next u.settle) ho, hgr, by rw [hrd]; rfl⟩
  · have hopen : k.batches.find? (fun b => !b.closed) = none := by
      rw [List.find?_eq_none]
      intro b hb
      simpa using (List.all_eq_true.1 hclosed) b hb
    have ho : doMarkWaitTimeout t q s = s.handOn t q (padTo 64 k.unowned) true false := by
      unfold doMarkWaitTimeout
      rw [hk]
      dsimp only
      rw [hw]
      dsimp only
      rw [hc, if_pos]
      simp only [hrd, hserve, hfree, Option.isNone_none, Bool.and_true, decide_true]
      exact decide_eq_true hle
    obtain ⟨hm, hs, hp⟩ : s.vfMaster t = true ∧ s.safe = false ∧ s.side.pinsTaken = false := by
      unfold State.mayServe at hserve
      simp only [Bool.and_eq_true, Bool.not_eq_true'] at hserve
      tauto
    exact ⟨_, congrArg (fun u : State => Host.Outcome.next u.settle) ho, State.handOn_waited hk hc hopen hm hs hp hfen⟩

end Sys2Proof.Machine

namespace Sys2Proof.Machine
open Sys2Proof

/-! ### Order rings -/

section
variable (s : State) (p : HPort)

theorem State.modHost_oq (q : HPort) {f : HostPort → HostPort} (h : ∀ x, (f x).oq = x.oq) : (s.modHost q f).oq p = s.oq p :=
  State.oq_modHost s p q f h

theorem State.issueRead_oq (q : HPort) (pasid) (ranges) (key : ReadKey) : (s.issueRead q pasid ranges key).oq p = s.oq p := by
  have h : (s.issueRead q pasid ranges key).oq p = ((s.exitL1 q).modHost q (fun h => { h with
    reads := h.reads ++ [⟨key, s.clk.now + h.cto, min (s.readTlps q key ranges).length h.tagsFree⟩] })).oq p := rfl
  rw [h]
  refine (State.oq_modHost _ p q _ ?_).trans ?_
  · intro _; rfl
  exact State.modHost_oq s p q (f := fun h => { h with l1 := .l0, txIdle := s.clk.now }) (fun _ => rfl)

theorem State.issueWaiting_oq (n : Nat) (q : HPort) : (State.issueWaiting n s q).oq p = s.oq p := by
  induction n generalizing s with
  | zero => rfl
  | succ n ih =>
    unfold State.issueWaiting
    dsimp only
    split
    · rfl
    · split
      · rw [ih, State.issueRead_oq]
        exact State.modHost_oq s p q (fun _ => rfl)
      · rfl

theorem State.endRead_oq (q : HPort) (key : ReadKey) : (s.endRead q key).oq p = s.oq p := by
  rw [State.endRead, State.kickReads, State.issueWaiting_oq]
  exact State.modHost_oq s p q (fun _ => rfl)

theorem State.modFn_oq (fn : Fn) (f) : (s.modFn fn f).oq p = s.oq p := by
  cases fn with
  | vf t => rfl
  | pf q => exact State.modHost_oq s p q (fun _ => rfl)

theorem State.logFault_oq (kind : Byte) (site who : W32) (d : W64) : (s.logFault kind site who d).oq p = s.oq p :=
  State.logFault_keeps (fun s => s.oq p) (fun _ _ => rfl) (fun _ _ => rfl) (fun s u n => congrArg HostPort.oq (s.fire_host u n p))
    (fun s fn v => s.vector_oq fn v p) s kind site who d

theorem State.accessError_oq (fn : Fn) (off : Nat) (form : AccForm) : (s.accessError fn off form).oq p = s.oq p := by
  rw [State.accessError, State.logFault_oq, State.modFn_oq]

variable {s p} in
theorem State.accessError_logs {u : State} (h : u.hosts = s.hosts) (off : Nat) (form : AccForm) :
    ((u.accessError (.pf p) off form).oq p = s.oq p) ∧ ((u.accessError (.pf p) off form).fn (.pf p)).accerr = satInc (s.fn (.pf p)).accerr := by
  rw [State.accessError_oq, State.accessError_accerr]
  simp [State.oq, State.fn, State.host, h]

end

/-- The fields of a write of OQ_CTL with EN set (R367). -/
theorem oqCtl_fields : ∀ dlog : BitVec 4,
    let on := ((BitVec.ofNat 32 (256 * dlog.toNat) : W32) ||| 1) ||| 1
    let off := (BitVec.ofNat 32 (256 * dlog.toNat) : W32) &&& ~~~1
    fieldOf on 7 1 + fieldOf on 31 12 = 0 ∧ on.getLsbD 0 = true ∧ (BitVec.ofNat 4 (fieldOf on 11 8) : BitVec 4) = dlog ∧
      fieldOf off 7 1 + fieldOf off 31 12 = 0 ∧ off.getLsbD 0 = false ∧ (BitVec.ofNat 4 (fieldOf off 11 8) : BitVec 4) = dlog := by
  decide

/-- A write of OQ_CTL with EN set (R366, R367). -/
theorem State.oqCtl_enable (s : State) (p : HPort) (dlog : BitVec 4) :
    s.oqCtl p ((BitVec.ofNat 32 (256 * dlog.toNat) : W32) ||| 1 ||| 1) =
      if (s.oq p).en = true then (if dlog = (s.oq p).dlog then s else s.accessError (.pf p) 0x10010 .other)
      else if (decide (dlog.toNat < 1) || decide (8 < dlog.toNat) || (s.oq p).obase.toNat % 4096 != 0 || (s.oq p).rbase.toNat % 4096 != 0) = true then
        s.accessError (.pf p) 0x10010 .other
      else s.modOq p (fun o => { obase := o.obase, rbase := o.rbase, en := true, dlog := dlog, active := o.active }) := by
  obtain ⟨hres, hbit, hlog, -⟩ := oqCtl_fields dlog
  unfold State.oqCtl
  dsimp only
  rw [hres, hbit, hlog]
  simp only [State.noteReserved_zero, if_true, Bool.not_true, Bool.false_eq_true, if_false]
  rfl

/-- A write of OQ_CTL with EN cleared (R368). -/
theorem State.oqCtl_disable (s : State) (p : HPort) (dlog : BitVec 4) :
    s.oqCtl p ((BitVec.ofNat 32 (256 * dlog.toNat) : W32) &&& ~~~1) =
      if (s.oq p).en = true then
        ((if dlog = (s.oq p).dlog then s else s.accessError (.pf p) 0x10010 .other).dropKeys p slotRead).modOq p (fun o => { dropOrders false o with
          obase := o.obase, rbase := o.rbase, dlog := o.dlog })
      else s.modOq p (fun o => { o with dlog := dlog }) := by
  obtain ⟨-, -, -, hres, hbit, hlog⟩ := oqCtl_fields dlog
  unfold State.oqCtl
  dsimp only
  rw [hres, hbit, hlog]
  simp only [State.noteReserved_zero, if_true, Bool.not_false, Bool.false_eq_true, if_false]
  rfl

/-- An EN cleared leaves the order begun, which then ends without a reply (log 57). -/
theorem dropOrders_active (o : OrderRing) : (dropOrders false o).active = o.active.map (fun a => { a with orphan := true }) := by
  cases h : o.active <;> simp [dropOrders, h]

/-- A read of 128 bytes at a slot of an aligned ring is one request (R45, R366). -/
theorem readTlps_slot (s : State) (p : HPort) (r : HPort) {a : W64} (ha : a.toNat % 128 = 0) (hm : 128 ≤ (s.host p).mrrs) :
    s.readTlps p (.orderSlot r) [(a, 128)] = [(a.toNat, 128)] := by
  have h1 : a.toNat / 64 * 64 = a.toNat := by omega
  have h2 : (a.toNat + 128 + 63) / 64 * 64 - a.toNat / 64 * 64 = 128 := by omega
  have h3 : min (min 128 (s.host p).mrrs) (4096 - a.toNat % 4096) = 128 := by omega
  simp only [State.readTlps, List.flatMap_cons, List.flatMap_nil, List.append_nil, readRange]
  rw [h2, h1]
  simp [readCuts, h3]

/-- A doorbell of the order ring, written into 16 bits (R114, R366). -/
theorem doOqDb_eq {p : HPort} {v : W32} {s : State} (hr : s.reachable (.pf p) = true) (hv : v.toNat < 65536) :
    doOqDb p v s = if (!(s.oq p).en || decide ((s.oq p).size ≤ v.toNat) ||
        decide ((s.oq p).size - 1 < (s.oq p).tail - (s.oq p).head + (v.toNat + (s.oq p).size - (s.oq p).tail % (s.oq p).size) % (s.oq p).size)) = true then
        (s.work.accessError (.pf p) 0x10014 .doorbell).settle
      else (((s.work.modOq p (fun o => { o with tail := o.tail + (v.toNat + (s.oq p).size - (s.oq p).tail % (s.oq p).size) % (s.oq p).size })).fire 0
        (161 + p.val)).fetchOrders p).settle := by
  unfold doOqDb
  simp only [hr, fieldOf_hi hv, fieldOf_lo hv, State.noteReserved_zero, Bool.not_true, Bool.false_eq_true, if_false]
  rfl

/-- The read of one slot of an aligned ring is one request, sent at once where a tag is free. -/
theorem State.sendRead_slot (s : State) {p : HPort} {a : W64} (ha : a.toNat % 128 = 0) (hm : 128 ≤ (s.host p).mrrs) (ht : 0 < (s.host p).tagsFree) :
    (s.sendRead p none a 128 (.orderSlot p)).out = .hostRead p none a 128 (.orderSlot p) :: s.out := by
  rw [State.sendRead, State.sendReads, if_pos ht, State.issueRead, readTlps_slot s p p ha hm]
  show [Out.hostRead p none (BitVec.ofNat 64 a.toNat) 128 (.orderSlot p)] ++ s.out = _
  rw [BitVec.ofNat_toNat, BitVec.setWidth_eq]
  rfl

/-- The ring once the `n` slots read from `i` on have landed (R366, R371). -/
def ringLanded (now : Nat) (r : Dma) (i n : Nat) (o : OrderRing) : OrderRing :=
  match r with
  | .ok data => takeSlots now o.size n { o with reading := none } i data
  | .refused => failSlots 0x4001 n { o with reading := none } i
  | .failed => failSlots 0x4002 n { o with reading := none } i

theorem State.landSlots_eq (s : State) (p : HPort) (r : Dma) (i n : Nat) (hi : (s.oq p).reading = some (i, n)) (hro : s.readOpen p (.orderSlot p) = true) :
    s.landSlots p r = (((s.endRead p (.orderSlot p)).modOq p (ringLanded s.clk.now r i n)).fetchOrders p).settle := by
  unfold State.landSlots
  simp only [hi, hro, Bool.not_true, Bool.false_eq_true, if_false, State.endRead_clk]
  cases r <;> rfl

theorem State.landSlots_facts (s : State) (p : HPort) (r : Dma) (i n : Nat) (hi : (s.oq p).reading = some (i, n)) (hro : s.readOpen p (.orderSlot p) = true) :
    ∃ u : State, s.landSlots p r = u.settle ∧ (u.oq p).slots = (ringLanded s.clk.now r i n (s.oq p)).slots ∧
      (u.oq p).fetch = (ringLanded s.clk.now r i n (s.oq p)).fetch ∧ (u.oq p).markWait = (ringLanded s.clk.now r i n (s.oq p)).markWait := by
  obtain ⟨-, -, -, -, hslots, hfetch, -, hwait⟩ := State.fetchOrders_facts ((s.endRead p (.orderSlot p)).modOq p (ringLanded s.clk.now r i n)) p
  rw [State.oq_modOq, State.endRead_oq] at hslots hfetch hwait
  exact ⟨_, s.landSlots_eq p r i n hi hro, hslots, hfetch, hwait⟩

theorem padTo_full {n : Nat} {b : Bytes} (h : b.length = n) : padTo n b = b := by
  subst h
  exact List.take_left

/-- A single slot that is owned is taken. -/
theorem ringLanded_owned {now i : Nat} {o : OrderRing} {data : Bytes} (hlen : data.length = 128) (hown : (byteAt data 0).getLsbD 0 = passBit o.size i) :
    ringLanded now (.ok data) i 1 o = { o with reading := none, slots := tset o.slots i (.packet data), fetch := i + 1, markWait := none } := by
  show takeSlots now o.size 1 { o with reading := none } i data = _
  rw [takeSlots, padTo_full hlen, if_pos (beq_iff_eq.mpr hown)]
  rfl

/-- A single slot that is not owned waits for its next read. -/
theorem ringLanded_unowned {now i : Nat} {o : OrderRing} {data : Bytes} (hlen : data.length = 128) (hown : (byteAt data 0).getLsbD 0 ≠ passBit o.size i) :
    ringLanded now (.ok data) i 1 o =
      { o with reading := none, unowned := data, markWait := some ((o.markWait.map (·.1)).getD now, now + 160) } := by
  show takeSlots now o.size 1 { o with reading := none } i data = _
  rw [takeSlots, padTo_full hlen, if_neg (by rwa [beq_iff_eq])]
  cases h : o.markWait <;> simp only [h] <;> rfl

/-- Settles O36. -/
theorem orderRings : Obligations.OrderRings := by
  intro p v dlog data s o logged
  refine ⟨fun hr hv => ?bell, fun hr => ?ctl, fun i hi hro => ?fetch, fun w hw hle hrd => ?reread⟩
  case bell =>
    intro n
    have hbell : doOqDb p v s = if (!o.en || decide (o.size ≤ v.toNat) || decide (o.size - 1 < o.tail - o.head + n)) = true then
        (s.work.accessError (.pf p) 0x10014 .doorbell).settle
      else (((s.work.modOq p (fun o => { o with tail := o.tail + n })).fire 0 (161 + p.val)).fetchOrders p).settle := doOqDb_eq hr hv
    refine ⟨fun hen hlt hroom => ?_, fun hbad => ?_⟩
    · rw [if_neg (by simp only [hen, Bool.not_true, Bool.false_or, Bool.or_eq_true, decide_eq_true_eq]; omega)] at hbell
      obtain ⟨hframe, -, -, hhead, -, -, htail, -⟩ := State.fetchOrders_facts ((s.work.modOq p (fun o => { o with tail := o.tail + n })).fire 0 (161 + p.val)) p
      have hoq : ((s.work.modOq p (fun o => { o with tail := o.tail + n })).fire 0 (161 + p.val)).oq p = { o with tail := o.tail + n } :=
        (congrArg HostPort.oq (State.fire_host _ _ _ p)).trans (State.oq_modOq s.work p _)
      refine ⟨_, congrArg Host.Outcome.next hbell, by rw [htail, hoq], by rw [hhead, hoq], ?_, ?_⟩
      · have hev := (congrArg State.evus hframe :)
        rw [State.evu, show ((State.fire _ 0 (161 + p.val)).fetchOrders p).evus = _ from hev]
        exact (State.fire_isPend _ 0 _ _ (by have := p.isLt; simp [sourceReal]; omega) rfl).trans (by simp)
      · exact (congrArg (fun t : State => { t with out := s.out, hosts := s.hosts, evus := s.evus, power := s.power }) hframe).trans
          (congrArg (fun t : State => { t with out := s.out, hosts := s.hosts, power := s.power }) (State.fire_frame (s.work.modOq p _) 0 (161 + p.val)))
    · rw [if_pos (by simp only [Bool.or_eq_true, decide_eq_true_eq, Bool.not_eq_true']; tauto)] at hbell
      exact ⟨_, congrArg Host.Outcome.next hbell, State.accessError_logs (u := s.work) (s := s) rfl _ _⟩
  case ctl =>
    intro ctl
    have hen : doOqEnable p (ctl ||| 1) s = (s.oqCtl p (ctl ||| 1 ||| 1)).settle := if_pos hr
    have hdis : doOqDisable p ctl s = (s.oqCtl p (ctl &&& ~~~1)).settle := if_pos hr
    have hon : s.oqCtl p (ctl ||| 1 ||| 1) = if o.en = true then (if dlog = o.dlog then s else s.accessError (.pf p) 0x10010 .other)
        else if (decide (dlog.toNat < 1) || decide (8 < dlog.toNat) || o.obase.toNat % 4096 != 0 || o.rbase.toNat % 4096 != 0) = true then
          s.accessError (.pf p) 0x10010 .other
        else s.modOq p (fun o => { obase := o.obase, rbase := o.rbase, en := true, dlog := dlog, active := o.active }) := s.oqCtl_enable p dlog
    have hoff : s.oqCtl p (ctl &&& ~~~1) = if o.en = true then
          ((if dlog = o.dlog then s else s.accessError (.pf p) 0x10010 .other).dropKeys p slotRead).modOq p (fun o => { dropOrders false o with
            obase := o.obase, rbase := o.rbase, dlog := o.dlog })
        else s.modOq p (fun o => { o with dlog := dlog }) := s.oqCtl_disable p dlog
    refine ⟨fun he h1 h8 ho hrb => ?_, fun he hbad => ?_, fun he hne => ?_, fun he heq => ?_, fun he => ?_⟩
    · rw [hon, if_neg (by simp [he]), if_neg (by simp [ho, hrb]; omega)] at hen
      exact ⟨_, congrArg Host.Outcome.next hen, State.oq_modOq s p _, rfl⟩
    · rw [hon, if_neg (by simp [he]), if_pos (by
        simp only [Bool.or_eq_true, decide_eq_true_eq, bne_iff_ne]
        rcases hbad with h | h | h
        · subst h; simp
        · tauto
        · tauto)] at hen
      exact ⟨_, congrArg Host.Outcome.next hen, State.accessError_logs rfl _ _⟩
    · rw [hon, if_pos he, if_neg hne] at hen
      exact ⟨_, congrArg Host.Outcome.next hen, State.accessError_logs rfl _ _⟩
    · rw [hoff, if_pos he, if_pos heq] at hdis
      refine ⟨_, congrArg Host.Outcome.next hdis, ?_, rfl⟩
      rw [State.oq_modOq, show (s.dropKeys p slotRead).oq p = o from State.modHost_oq s p p (f := fun h => { h with
        reads := h.reads.filter (fun r => !slotRead r.key), readQ := h.readQ.filter (fun r => !slotRead r.key) }) (fun _ => rfl)]
      exact congrArg (fun a : Option Active => ({ obase := o.obase, rbase := o.rbase, dlog := o.dlog, active := a } : OrderRing)) (dropOrders_active o)
    · rw [hoff, if_neg (by simp [he])] at hdis
      exact ⟨_, congrArg Host.Outcome.next hdis, State.oq_modOq s p _⟩
  case fetch =>
    refine ⟨fun hlen hown => ?_, fun hlen hown => ?_, ?_, ?_⟩
    · obtain ⟨u, hu, hslots, hfetch, hwait⟩ := s.landSlots_facts p (.ok data) i 1 hi hro
      rw [ringLanded_owned hlen hown] at hslots hfetch hwait
      exact ⟨u, congrArg Host.Outcome.next hu, by rw [hslots]; exact tfind_tset_same _ _ _, hfetch, hwait⟩
    · obtain ⟨u, hu, hslots, hfetch, hwait⟩ := s.landSlots_facts p (.ok data) i 1 hi hro
      rw [ringLanded_unowned hlen hown] at hslots hfetch hwait
      exact ⟨u, congrArg Host.Outcome.next hu, hfetch, hslots, hwait⟩
    · obtain ⟨u, hu, hslots, hfetch, -⟩ := s.landSlots_facts p .failed i 1 hi hro
      exact ⟨u, congrArg Host.Outcome.next hu, by rw [hslots]; exact tfind_tset_same _ _ _, hfetch⟩
    · obtain ⟨u, hu, hslots, hfetch, -⟩ := s.landSlots_facts p .refused i 1 hi hro
      exact ⟨u, congrArg Host.Outcome.next hu, by rw [hslots]; exact tfind_tset_same _ _ _, hfetch⟩
  case reread =>
    refine ⟨fun hlate => ?_, fun hearly hm => ?_⟩
    · have hdo : doOrderMarkReread p s = ((s.modOq p (fun o => { o with
          slots := tset o.slots o.fetch (.failed 0x2002 o.unowned), fetch := o.fetch + 1, markWait := none, unowned := [] })).fetchOrders p).settle := by
        unfold doOrderMarkReread
        dsimp only
        rw [hw]
        dsimp only
        rw [hrd, if_neg (by simp; omega), if_pos (show w.1 + Config.msTicks ≤ s.clk.now from hlate)]
      obtain ⟨-, -, -, -, hslots, hfetch, -, hwait⟩ := State.fetchOrders_facts (s.modOq p (fun o => { o with
          slots := tset o.slots o.fetch (.failed 0x2002 o.unowned), fetch := o.fetch + 1, markWait := none, unowned := [] })) p
      rw [State.oq_modOq] at hslots hfetch hwait
      exact ⟨_, congrArg Host.Outcome.next hdo, by rw [hslots]; exact tfind_tset_same _ _ _, hfetch, hwait⟩
    · have hdo : doOrderMarkReread p s = (s.modOq p (fun o => { o with reading := some (o.fetch, 1) })).sendRead p none
          (o.obase + BitVec.ofNat 64 (128 * (o.fetch % o.size))) 128 (.orderSlot p) := by
        unfold doOrderMarkReread
        dsimp only
        rw [hw]
        dsimp only
        rw [hrd, if_neg (by simp; omega), if_neg (show ¬ w.1 + Config.msTicks ≤ s.clk.now from Nat.not_le.mpr hearly), hm]
        rfl
      refine ⟨_, congrArg Host.Outcome.next hdo, ?_, fun hal hmr htags => ?_⟩
      · exact ((State.sendReads_facts _ p none _ _).2.2 p).trans (State.oq_modOq s p _)
      · have hal128 : (o.obase + BitVec.ofNat 64 (128 * (o.fetch % o.size))).toNat % 128 = 0 := by
          rw [BitVec.toNat_add, BitVec.toNat_ofNat]
          omega
        have hhost : (s.modOq p (fun o => { o with reading := some (o.fetch, 1) })).host p = { s.host p with oq := { o with reading := some (o.fetch, 1) } } :=
          State.host_modHost s p _
        exact State.sendRead_slot _ hal128 (by rw [hhost]; exact hmr) (by rw [hhost]; exact htags)

end Sys2Proof.Machine

namespace Sys2Proof.Machine
open Sys2Proof

/-! ### Orders that pass their checks, and orders that are refused (R369-R374) -/

section
variable {s w : State} {p : HPort} {b : Bytes}

/-- Where list, fog and host port are not in an order's way, it acts, or it is refused with a reason of its own. -/
theorem orderStands.run (h : orderStands s p b) {want : Bytes → Bool} {fields : Bytes → List (Nat × Nat × Bool)} {list fogOk : Bool} {tenant : Option Nat}
    {refusal : State → Bytes → Option Nat} {act : State → Bytes → State} (hw : want b = true) (hf : firstBad b (fields b) = none)
    (hl : list = true → s.list.loaded = true) (hfog : fogOk = false → s.foggy = false) (ht : ∀ off, tenant = some off → hostOf (tenantAt b off) = p)
    (hr : refusal (s.beginOrder p b) b = none) :
    s.runOrder p want fields list fogOk tenant refusal act = act (s.beginOrder p b) b := by
  obtain ⟨hs, hturn, -, hv, hh⟩ := h
  exact s.runOrder_acts p b _ _ _ _ _ _ _ hs hturn hw hv hh hf (State.columnRefusal_none _ _ _ _ _ _ hl hfog ht) hr

theorem orderStands.refusedRun (h : orderStands s p b) {want : Bytes → Bool} {fields : Bytes → List (Nat × Nat × Bool)} {list fogOk : Bool}
    {tenant : Option Nat} {refusal : State → Bytes → Option Nat} {act : State → Bytes → State} (hw : want b = true) (hf : firstBad b (fields b) = none)
    (hl : list = true → s.list.loaded = true) (hfog : fogOk = false → s.foggy = false) (ht : ∀ off, tenant = some off → hostOf (tenantAt b off) = p)
    {n : Nat} (hr : refusal (s.beginOrder p b) b = some n) :
    answers p b s.clk.hub (BitVec.ofNat 16 (0x1000 + n)) [] s (s.runOrder p want fields list fogOk tenant refusal act) ∧
      onlyReply s (s.runOrder p want fields list fogOk tenant refusal act) := by
  have ⟨hs, hturn, _, hv, hh⟩ := h
  rw [s.runOrder_refused p b n _ _ _ _ _ _ _ hs hturn hw hv hh hf (State.columnRefusal_none _ _ _ _ _ _ hl hfog ht) hr]
  exact h.putReply_beginOrder _ _

/-- An order still stands as begun where nothing of the host ports and of the Tender has changed. -/
theorem carriesOut.keeps (h : carriesOut p b s w) {v : State} (hhosts : v.hosts = w.hosts) (hcores : v.cores = w.cores) : carriesOut p b s v := by
  have hhost : v.host = w.host := by unfold State.host; rw [hhosts]
  refine ⟨?_, ?_, ?_⟩
  · rw [State.oq, hhost]; exact h.active
  · rw [State.pfMaster, hhost]; exact h.master
  · rw [hcores]; exact h.tender

theorem orderStands.begun (_ : orderStands s p b) : underWay p b .none (s.beginOrder p b) :=
  ⟨_, congrArg OrderRing.active (s.beginOrder_oq p b), rfl, rfl, rfl, rfl, rfl⟩

theorem underWay.effected {g : Stage} (h : underWay p b g w) : underWay p b g (w.effected p) := by
  obtain ⟨a, ha, hrest⟩ := h
  exact ⟨{ a with effected := true }, by rw [State.effected_oq, ha]; rfl, hrest⟩

theorem underWay.keeps {g : Stage} (h : underWay p b g w) {v : State} (hq : v.oq p = w.oq p) : underWay p b g v := by
  rw [underWay, hq]
  exact h

/-- An order that has done its work is answered, and the answer leaves the work as it is. -/
theorem orderStands.done_work (h : orderStands s p b) {v : State} (hhosts : v.hosts = (s.beginOrder p b).hosts) (hcores : v.cores = s.cores)
    (result : Bytes) :
    answers p b v.clk.hub 0 result s ((v.effected p).done p result) ∧
      { (v.effected p).done p result with out := v.out, hosts := v.hosts } = v := by
  have hc := (h.beginOrder.keeps hhosts hcores).effected
  refine ⟨hc.putReply_answers _ _ _, ?_⟩
  exact (congrArg (fun t : State => { t with hosts := v.hosts }) (hc.putReply_frame _ _ _)).trans rfl

/-- The same of an order whose work is on the queues alone. -/
theorem orderStands.done_queues (h : orderStands s p b) (f : Queues → Queues) (result : Bytes) :
    let u := (((s.beginOrder p b).onQueues f).effected p).done p result
    answers p b s.clk.hub 0 result s u ∧ u.queues = f s.queues ∧ onlyReply { s with queues := u.queues } u := by
  intro u
  obtain ⟨hans, hframe⟩ := h.done_work (v := (s.beginOrder p b).onQueues f) rfl rfl result
  have hqueues : u.queues = f s.queues := (congrArg State.queues hframe :)
  refine ⟨hans, hqueues, ?_⟩
  rw [hqueues]
  exact congrArg (fun v : State => { v with out := s.out, hosts := s.hosts, orders := s.orders, power := s.power }) hframe

end

/-! ### Queues (R382-R384) -/

theorem ule_lt (b : Bytes) : ule b < 256 ^ b.length := by
  induction b with
  | nil => exact Nat.one_pos
  | cons x b ih =>
    rw [ule, List.length_cons, Nat.pow_succ']
    have := x.isLt
    omega

theorem num_lt (b : Bytes) (off n : Nat) : num b off n < 256 ^ n :=
  lt_of_lt_of_le (ule_lt _) (Nat.pow_le_pow_right (by omega) (List.length_take_le _ _))

theorem num_u16 (b : Bytes) (n : Nat) : num b n 2 = (u16 b n).toNat := by
  rw [u16, BitVec.toNat_ofNat]
  exact (Nat.mod_eq_of_lt (num_lt b n 2)).symm

theorem num_u32 (b : Bytes) (n : Nat) : num b n 4 = (u32 b n).toNat := by
  rw [u32, BitVec.toNat_ofNat]
  exact (Nat.mod_eq_of_lt (num_lt b n 4)).symm

theorem queueNumber_eq {b : Bytes} {off : Nat} {q : QNum} (h : (byteAt b off).toNat = q.val) : queueNumber b off = q := by
  have := q.isLt
  exact Fin.ext (by show (byteAt b off).toNat % 8 = q.val; omega)

section
variable (p : HPort) (b : Bytes) (s : State)

@[simp] theorem State.beginOrder_bound (t : Tenant) : (s.beginOrder p b).bound t = s.bound t := rfl
@[simp] theorem State.beginOrder_sq? (t : Tenant) (q : QNum) : (s.beginOrder p b).sq? t q = s.sq? t q := rfl
@[simp] theorem State.beginOrder_cq? (t : Tenant) (q : QNum) : (s.beginOrder p b).cq? t q = s.cq? t q := rfl
@[simp] theorem State.beginOrder_token? (n : Nat) : (s.beginOrder p b).token? n = s.token? n := rfl
@[simp] theorem State.beginOrder_sub (sc : SC) : (s.beginOrder p b).sub sc = s.sub sc := rfl
@[simp] theorem State.beginOrder_prog? (sc : SC) : (s.beginOrder p b).prog? sc = s.prog? sc := rfl
@[simp] theorem State.beginOrder_tenant (t : Tenant) : (s.beginOrder p b).tenant t = s.tenant t := rfl

/-- What the orders of the queues and tokens need of their packet and of the state. -/
structure tenantOrder (off : Nat) : Prop where
  stands : orderStands s p b
  loaded : s.list.loaded = true
  clear : s.foggy = false
  mine : hostOf (tenantAt b off) = p

variable {p b s}

theorem tenantOrder.run {off : Nat} (h : tenantOrder p b s off) {want : Bytes → Bool} {fields : Bytes → List (Nat × Nat × Bool)} {fogOk : Bool}
    {refusal : State → Bytes → Option Nat} {act : State → Bytes → State} (hw : want b = true) (hf : firstBad b (fields b) = none)
    (hr : refusal (s.beginOrder p b) b = none) :
    s.runOrder p want fields true fogOk (some off) refusal act = act (s.beginOrder p b) b :=
  h.stands.run hw hf (fun _ => h.loaded) (fun _ => h.clear) (fun _ ho => by cases ho; exact h.mine) hr

theorem tenantOrder.refused {off : Nat} (h : tenantOrder p b s off) {want : Bytes → Bool} {fields : Bytes → List (Nat × Nat × Bool)} {fogOk : Bool}
    {refusal : State → Bytes → Option Nat} {act : State → Bytes → State} (hw : want b = true) (hf : firstBad b (fields b) = none)
    {n : Nat} (hr : refusal (s.beginOrder p b) b = some n) :
    answers p b s.clk.hub (BitVec.ofNat 16 (0x1000 + n)) [] s (s.runOrder p want fields true fogOk (some off) refusal act) ∧
      onlyReply s (s.runOrder p want fields true fogOk (some off) refusal act) :=
  h.stands.refusedRun hw hf (fun _ => h.loaded) (fun _ => h.clear) (fun _ ho => by cases ho; exact h.mine) hr

theorem isOpc_of {n : Byte} (h : byteAt b 1 = n) : isOpc n b = true := beq_iff_eq.mpr h

/-- An opcode and the kind of queue or of removal that the packet names. -/
theorem isOpc_and {n : Byte} {k : Bool} (h : byteAt b 1 = n) (hk : k = true) : (isOpc n b && k) = true := by rw [isOpc_of h, hk]; rfl

theorem tenantOrder.createQueueSq (h : tenantOrder p b s 0x10) (hbound : s.bound (ten b) = true) {q : QNum} (hop : byteAt b 1 = 5)
    (hkind : byteAt b 0x12 = 0) (hq : (byteAt b 0x13).toNat = q.val)
    (hf : firstBad b [tenantField b 0x10, (0x12, 1, true), (0x13, 1, true), (0x14, 4, powerIn 1 16 (num b 0x14 4)), (0x18, 8, s.baseOk b 64),
          (0x20, 1, (byteAt b 0x20).toNat ≤ 7), (0x21, 1, (byteAt b 0x21).toNat ≤ 7), (0x22, 2, num b 0x22 2 == 0), (0x24, 4, num b 0x24 4 == 0)] = none) :
    (∀ c : QNum, c.val = (byteAt b 0x20).toNat → (s.cq? (ten b) c).isSome = true → s.sq? (ten b) q = none →
          ∃ u : State, exec (.createQueueSq p) s = .next u.settle ∧ answers p b s.clk.hub 0 [] s u ∧
            u.sq? (ten b) q = some { base := u64 b 0x18, depth := (u32 b 0x14).toNat, cq := c, cls := (byteAt b 0x21).setWidth 3 } ∧
            { u.queues with sqs := s.queues.sqs } = s.queues ∧ onlyReply { s with queues := u.queues } u) ∧
        ((s.sq? (ten b) q).isSome = true → ∃ u : State, exec (.createQueueSq p) s = .next u.settle ∧ answers p b s.clk.hub (0x1000 + 8) [] s u ∧ onlyReply s u) := by
  have hf' : firstBad b [tenantField b 0x10, (0x12, 1, byteAt b 0x12 == 0), (0x13, 1, (byteAt b 0x13).toNat ≤ 7), (0x14, 4, powerIn 1 16 (num b 0x14 4)),
      (0x18, 8, s.baseOk b 64), (0x20, 1, (byteAt b 0x20).toNat ≤ 7), (0x21, 1, (byteAt b 0x21).toNat ≤ 7), (0x22, 2, num b 0x22 2 == 0),
      (0x24, 4, num b 0x24 4 == 0)] = none := by
    rw [hkind, decide_eq_true (show (byteAt b 0x13).toNat ≤ 7 by omega)]
    exact hf
  have hw : (isOpc 0x05 b && byteAt b 0x12 != 1) = true := isOpc_and hop (by rw [hkind]; rfl)
  obtain rfl := queueNumber_eq hq
  refine ⟨fun c hc hcq hsq => ?_, fun hsq => ⟨_, rfl, h.refused hw hf' (by simp [hbound, hsq])⟩⟩
  obtain rfl := queueNumber_eq hc.symm
  refine ⟨_, congrArg Host.Outcome.next (congrArg State.settle (h.run hw hf' ?_)), ?_⟩
  · simp [hbound, hsq, Option.isSome_iff_ne_none.mp hcq]
  · obtain ⟨hans, hqueues, honly⟩ := h.stands.done_queues (fun x => { x with
      sqs := tset x.sqs (qIndex (ten b) (queueNumber b 0x13))
        { base := u64 b 0x18, depth := num b 0x14 4, cq := queueNumber b 0x20, cls := BitVec.ofNat 3 (byteAt b 0x21).toNat } }) []
    refine ⟨hans, ?_, congrArg (fun k : Queues => { k with sqs := s.queues.sqs }) hqueues, honly⟩
    refine (congrArg (fun k : Queues => tfind k.sqs _) hqueues).trans ((tfind_tset_same _ _ _).trans ?_)
    rw [num_u32, BitVec.ofNat_toNat]

theorem tenantOrder.createQueueCq (h : tenantOrder p b s 0x10) (hbound : s.bound (ten b) = true) {q : QNum} (hop : byteAt b 1 = 5)
    (hkind : byteAt b 0x12 = 1) (hq : (byteAt b 0x13).toNat = q.val)
    (hf : firstBad b [tenantField b 0x10, (0x12, 1, true), (0x13, 1, true), (0x14, 4, powerIn 1 16 (num b 0x14 4)), (0x18, 8, s.baseOk b 32),
          (0x20, 1, byteAt b 0x20 == 0), (0x21, 1, byteAt b 0x21 == 0), (0x22, 2, num b 0x22 2 != 0), (0x24, 4, num b 0x24 4 < 2 ^ 24)] = none) :
    (s.cq? (ten b) q = none → ∃ u : State, exec (.createQueueCq p) s = .next u.settle ∧ answers p b s.clk.hub 0 [] s u ∧
            u.cq? (ten b) q = some { base := u64 b 0x18, depth := (u32 b 0x14).toNat, interval := (u32 b 0x24).toNat, threshold := (u16 b 0x22).toNat } ∧
            { u.queues with cqs := s.queues.cqs } = s.queues ∧ onlyReply { s with queues := u.queues } u) ∧
        ((s.cq? (ten b) q).isSome = true → ∃ u : State, exec (.createQueueCq p) s = .next u.settle ∧ answers p b s.clk.hub (0x1000 + 8) [] s u ∧ onlyReply s u) := by
  have hf' : firstBad b [tenantField b 0x10, (0x12, 1, true), (0x13, 1, (byteAt b 0x13).toNat ≤ 7), (0x14, 4, powerIn 1 16 (num b 0x14 4)),
      (0x18, 8, s.baseOk b 32), (0x20, 1, byteAt b 0x20 == 0), (0x21, 1, byteAt b 0x21 == 0), (0x22, 2, num b 0x22 2 != 0),
      (0x24, 4, num b 0x24 4 < 2 ^ 24)] = none := by
    rw [decide_eq_true (show (byteAt b 0x13).toNat ≤ 7 by omega)]
    exact hf
  have hw : (isOpc 0x05 b && byteAt b 0x12 == 1) = true := isOpc_and hop (by rw [hkind]; rfl)
  obtain rfl := queueNumber_eq hq
  refine ⟨fun hcq => ?_, fun hcq => ⟨_, rfl, h.refused hw hf' (by simp [hbound, hcq])⟩⟩
  refine ⟨_, congrArg Host.Outcome.next (congrArg State.settle (h.run hw hf' ?_)), ?_⟩
  · simp [hbound, hcq]
  · obtain ⟨hans, hqueues, honly⟩ := h.stands.done_queues (fun x => { x with
      cqs := tset x.cqs (qIndex (ten b) (queueNumber b 0x13))
        { base := u64 b 0x18, depth := num b 0x14 4, interval := num b 0x24 4, threshold := num b 0x22 2 } }) []
    refine ⟨hans, ?_, congrArg (fun k : Queues => { k with cqs := s.queues.cqs }) hqueues, honly⟩
    refine (congrArg (fun k : Queues => tfind k.cqs _) hqueues).trans ((tfind_tset_same _ _ _).trans ?_)
    rw [num_u32, num_u32, num_u16]

/-- The order names a queue that there is, or is refused. -/
theorem State.noSq_some (hbound : s.bound (ten b) = true) {k : Sq} (hk : s.sq? (ten b) (queueNumber b 0x12) = some k) :
    (s.beginOrder p b).noSq b = none := by simp [State.noSq, hbound, hk]
theorem State.noSq_none (hbound : s.bound (ten b) = true) (hk : s.sq? (ten b) (queueNumber b 0x12) = none) :
    (s.beginOrder p b).noSq b = some 9 := by simp [State.noSq, hbound, hk]

theorem tenantOrder.setQueuePriority (h : tenantOrder p b s 0x10) (hbound : s.bound (ten b) = true) {q : QNum} (hop : byteAt b 1 = 7)
    (hq : (byteAt b 0x12).toNat = q.val) (hcls : (byteAt b 0x13).toNat ≤ 7)
    (hf : firstBad b [tenantField b 0x10, (0x12, 1, true), (0x13, 1, true)] = none) :
    (∀ k, s.sq? (ten b) q = some k → ∃ u : State, exec (.setQueuePriority p) s = .next u.settle ∧
          answers p b s.clk.hub 0 [BitVec.ofNat 8 k.cls.toNat] s u ∧ u.sq? (ten b) q = some { k with cls := (byteAt b 0x13).setWidth 3 } ∧
          { u.queues with sqs := s.queues.sqs } = s.queues ∧ onlyReply { s with queues := u.queues } u) ∧
        (s.sq? (ten b) q = none → ∃ u : State, exec (.setQueuePriority p) s = .next u.settle ∧ answers p b s.clk.hub (0x1000 + 9) [] s u ∧ onlyReply s u) := by
  have hf' : firstBad b [tenantField b 0x10, (0x12, 1, (byteAt b 0x12).toNat ≤ 7), (0x13, 1, (byteAt b 0x13).toNat ≤ 7)] = none := by
    rw [decide_eq_true hcls, decide_eq_true (show (byteAt b 0x12).toNat ≤ 7 by omega)]
    exact hf
  obtain rfl := queueNumber_eq hq
  refine ⟨fun k hk => ?_, fun hk => ⟨_, rfl, h.refused (isOpc_of hop) hf' (State.noSq_none hbound hk)⟩⟩
  refine ⟨_, congrArg Host.Outcome.next (congrArg State.settle (h.run (isOpc_of hop) hf' (State.noSq_some hbound hk))), ?_⟩
  have hcl : ((s.sq? (ten b) (queueNumber b 0x12)).map (fun k => k.cls.toNat)).getD 0 = k.cls.toNat := by rw [hk]; rfl
  dsimp only
  rw [State.beginOrder_sq?, hcl]
  obtain ⟨hans, hqueues, honly⟩ := h.stands.done_queues (fun x => { x with
    sqs := tupd x.sqs (qIndex (ten b) (queueNumber b 0x12)) (fun k => { k with cls := BitVec.ofNat 3 (byteAt b 0x13).toNat }) }) [BitVec.ofNat 8 k.cls.toNat]
  refine ⟨hans, ?_, congrArg (fun k : Queues => { k with sqs := s.queues.sqs }) hqueues, honly⟩
  refine (congrArg (fun k : Queues => tfind k.sqs _) hqueues).trans ((tfind_tupd_same _ _ _).trans ?_)
  rw [show tfind s.queues.sqs _ = _ from hk, BitVec.ofNat_toNat]
  rfl

/-! ### Queue reset (R137, R384) -/

theorem State.dropKeys_oq (s : State) (p q : HPort) (f : ReadKey → Bool) : (s.dropKeys q f).oq p = s.oq p :=
  State.modHost_oq s p q (f := fun h => { h with reads := h.reads.filter (fun r => !f r.key), readQ := h.readQ.filter (fun r => !f r.key) }) (fun _ => rfl)

theorem State.trueCount_frame (s : State) (t : Tenant) (q : QNum) : { s.trueCount t q with queues := s.queues } = s := by
  unfold State.trueCount
  split <;> rfl

/-- A queue that takes no more work, with its count made true (R137, R416). -/
theorem State.halted_sq (s : State) (t : Tenant) (q : QNum) {k : Sq} (hk : s.sq? t q = some k) :
    ∃ n, ((s.haltSq t q).trueCount t q).sq? t q = some { k with resetting := true, reading := none, dmaStop := false, outst := n } ∧
      (k.fenced = false → n = k.outst) := by
  have hhalt : (s.haltSq t q).sq? t q = some { k with resetting := true, reading := none, dmaStop := false } := State.sq?_modSq_some _ hk
  unfold State.trueCount
  split
  · next hf =>
    refine ⟨_, State.sq?_modSq_some _ hhalt, fun hnot => ?_⟩
    rw [hhalt] at hf
    exact absurd (show k.fenced = true from hf) (by simp [hnot])
  · exact ⟨k.outst, hhalt, fun _ => rfl⟩

theorem State.halted_frame (s : State) (t : Tenant) (q : QNum) :
    { (s.haltSq t q).trueCount t q with queues := s.queues, hosts := s.hosts } = s :=
  (congrArg (fun v : State => { v with queues := s.queues, hosts := s.hosts }) ((s.haltSq t q).trueCount_frame t q) :)

theorem State.halted_oq (s : State) (t : Tenant) (q : QNum) (p : HPort) : ((s.haltSq t q).trueCount t q).oq p = s.oq p := by
  have h := congrArg (fun v : State => v.oq p) ((s.haltSq t q).trueCount_frame t q)
  exact (show ((s.haltSq t q).trueCount t q).oq p = (s.haltSq t q).oq p from h).trans (State.dropKeys_oq _ p (hostOf t) _)

theorem tenantOrder.resetQueue (h : tenantOrder p b s 0x10) (hbound : s.bound (ten b) = true) {q : QNum} (hop : byteAt b 1 = 6)
    (hq : (byteAt b 0x12).toNat = q.val) (hf : firstBad b [tenantField b 0x10, (0x12, 1, true)] = none) :
    (∀ k, s.sq? (ten b) q = some k → ∃ v : State, exec (.resetQueue p) s = .next ((v.abortSq (ten b) q 0x08 0 2 false).setStage p (.resetDrain (ten b) q)).settle ∧
          (∃ n, v.sq? (ten b) q = some { k with resetting := true, reading := none, dmaStop := false, outst := n } ∧ (k.fenced = false → n = k.outst)) ∧
          underWay p b .none v ∧ v.prog = s.prog ∧ v.out = s.out) ∧
        (s.sq? (ten b) q = none → ∃ u : State, exec (.resetQueue p) s = .next u.settle ∧ answers p b s.clk.hub (0x1000 + 9) [] s u ∧ onlyReply s u) := by
  have hf' : firstBad b [tenantField b 0x10, (0x12, 1, (byteAt b 0x12).toNat ≤ 7)] = none := by
    rw [decide_eq_true (show (byteAt b 0x12).toNat ≤ 7 by omega)]
    exact hf
  obtain rfl := queueNumber_eq hq
  refine ⟨fun k hk => ?_, fun hk => ⟨_, rfl, h.refused (isOpc_of hop) hf' (State.noSq_none hbound hk)⟩⟩
  have hframe := (s.beginOrder p b).halted_frame (ten b) (queueNumber b 0x12)
  exact ⟨(((s.beginOrder p b).haltSq (ten b) (queueNumber b 0x12)).trueCount (ten b) (queueNumber b 0x12)).effected p,
    congrArg Host.Outcome.next (congrArg State.settle (h.run (isOpc_of hop) hf' (State.noSq_some hbound hk))),
    (s.beginOrder p b).halted_sq (ten b) (queueNumber b 0x12) hk,
    (h.stands.begun.keeps ((s.beginOrder p b).halted_oq (ten b) (queueNumber b 0x12) p)).effected,
    (congrArg State.prog hframe :), (congrArg State.out hframe :)⟩

/-! ### Holds and tokens (R167, R170, R176, R385, R401-R403) -/

/-- Why RELEASE-HOLD is refused (R385). -/
def State.releaseRefusal (s : State) (b : Bytes) : Option Nat :=
  let sc : SC := BitVec.ofNat 18 (num b 0x14 4)
  if !s.bound (ten b) then some 4
  else if !(s.sub sc).named || (s.sub sc).tenant != ten b then some 0xB
  else if s.held sc then none else some 0xA

theorem doReleaseHold_master (hm : s.pfMaster p = true) :
    doReleaseHold p s = (s.runOrder p (isOpc 0x08) (fun b => [tenantField b 0x10, (0x12, 1, (byteAt b 0x12).toNat ≤ 1), (0x14, 4, num b 0x14 4 < 2 ^ 18)])
      true false (some 0x10) State.releaseRefusal
      (fun s b => ((s.effected p).done p []).release (BitVec.ofNat 18 (num b 0x14 4)) ((byteAt b 0x12).getLsbD 0))).settle :=
  if_neg (by simp [hm])

theorem State.releaseRefusal_eq (s : State) (b : Bytes) (hbound : s.bound (ten b) = true) :
    (s.beginOrder p b).releaseRefusal b =
      if !(s.sub (BitVec.ofNat 18 (num b 0x14 4))).named || (s.sub (BitVec.ofNat 18 (num b 0x14 4))).tenant != ten b then some 0xB
      else if s.held (BitVec.ofNat 18 (num b 0x14 4)) then none else some 0xA := if_neg (by simp [hbound])

theorem State.prog?_congr {u v : State} (h : u.prog = v.prog) (sc : SC) : u.prog? sc = v.prog? sc := congrArg Sub.prog (State.sub_congr h sc)

theorem onlyReply.modProg {w : State} (h : onlyReply s w) (sc : SC) (f : Prog → Prog) :
    onlyReply { s with prog := (w.modProg sc f).prog } (w.modProg sc f) := by
  rw [onlyReply] at h ⊢
  exact congrArg (fun v : State => { v with prog := (w.modProg sc f).prog }) h

theorem tenantOrder.releaseHold (h : tenantOrder p b s 0x10) (hbound : s.bound (ten b) = true) (hop : byteAt b 1 = 8) (hone : (byteAt b 0x12).toNat ≤ 1)
    {sc : SC} (hsc : (u32 b 0x14).toNat = sc.toNat) (hf : firstBad b [tenantField b 0x10, (0x12, 1, true), (0x14, 4, true)] = none) :
    ((s.sub sc).named = true → (s.sub sc).tenant = ten b → ∀ x, s.prog? sc = some x → x.phase = .held →
        ∃ v : State, exec (.releaseHold p) s = .next ((v.choose sc none).fireProg sc 6).settle ∧ answers p b s.clk.hub 0 [] s v ∧
          v.prog? sc = some { x with
            pass := if byteAt b 0x12 = 1 then some x.flow else none, groups := [], asked := [], retries := 0, tried := [] } ∧
          onlyReply { s with prog := v.prog } v) ∧
      ((s.sub sc).named = false → ∃ u : State, exec (.releaseHold p) s = .next u.settle ∧ answers p b s.clk.hub (0x1000 + 0xB) [] s u ∧ onlyReply s u) ∧
      ((s.sub sc).named = true → (s.sub sc).tenant = ten b → s.prog? sc = none →
        ∃ u : State, exec (.releaseHold p) s = .next u.settle ∧ answers p b s.clk.hub (0x1000 + 0xA) [] s u ∧ onlyReply s u) := by
  have hnum : num b 0x14 4 = sc.toNat := (num_u32 b 0x14).trans hsc
  have hsub : (BitVec.ofNat 18 (num b 0x14 4) : SC) = sc := by rw [hnum, BitVec.ofNat_toNat, BitVec.setWidth_eq]
  have hlt : num b 0x14 4 < 2 ^ 18 := hnum ▸ sc.isLt
  have hf' : firstBad b [tenantField b 0x10, (0x12, 1, (byteAt b 0x12).toNat ≤ 1), (0x14, 4, num b 0x14 4 < 2 ^ 18)] = none := by
    rw [decide_eq_true hone, decide_eq_true hlt]
    exact hf
  have ⟨_, _, hmaster, _⟩ := h.stands
  have hrun := doReleaseHold_master hmaster
  have hrefusal := State.releaseRefusal_eq (p := p) s b hbound
  rw [hsub] at hrefusal
  have refused : ∀ n, (s.beginOrder p b).releaseRefusal b = some n →
      ∃ u : State, exec (.releaseHold p) s = .next u.settle ∧ answers p b s.clk.hub (BitVec.ofNat 16 (0x1000 + n)) [] s u ∧ onlyReply s u :=
    fun n hr => ⟨_, congrArg Host.Outcome.next hrun, h.refused (isOpc_of hop) hf' hr⟩
  refine ⟨fun hn ht x hx hph => ?_, fun hn => refused 0xB (by rw [hrefusal]; simp [hn]), fun hn ht hx => refused 0xA (by
    rw [hrefusal]; simp [hn, ht, State.held, hx])⟩
  have hheld : s.held sc = true := by simp [State.held, hx, hph]
  rw [h.run (isOpc_of hop) hf' (by rw [hrefusal]; simp [hn, ht, hheld])] at hrun
  rw [hsub, State.release] at hrun
  obtain ⟨hans, hframe⟩ := h.stands.done_work (v := s.beginOrder p b) rfl rfl []
  have hprog : (((s.beginOrder p b).effected p).done p []).prog = s.prog := (congrArg State.prog hframe :)
  have honly : onlyReply s (((s.beginOrder p b).effected p).done p []) :=
    (congrArg (fun v : State => { v with out := s.out, hosts := s.hosts, orders := s.orders, power := s.power }) hframe :)
  generalize ((s.beginOrder p b).effected p).done p [] = w at hrun hans honly hprog
  have hbit : (if (byteAt b 0x12).getLsbD 0 then some x.flow else none) = if byteAt b 0x12 = 1 then some x.flow else none := by
    rcases Nat.le_one_iff_eq_zero_or_eq_one.mp hone with h0 | h1
    · rw [show byteAt b 0x12 = 0 from BitVec.eq_of_toNat_eq h0]; rfl
    · rw [show byteAt b 0x12 = 1 from BitVec.eq_of_toNat_eq h1]; rfl
  refine ⟨_, congrArg Host.Outcome.next hrun, hans, ?_, honly.modProg _ _⟩
  rw [State.prog_modProg, State.prog?_congr hprog, hx, ← hbit]
  rfl

/-! The account of a token's value is the Trial Balance Unit's alone (R413). -/

theorem State.zeroAcct_frame (s : State) (a i : Nat) : { s.zeroAcct a i with faults := s.faults } = s := by
  unfold State.zeroAcct
  split <;> rfl

theorem State.dropAcct_frame (s : State) (a i : Nat) : { s.dropAcct a i with faults := s.faults } = s := by
  unfold State.dropAcct
  split <;> rfl

theorem State.countOnly_frame (s : State) (site : W32) : { s.countOnly site with faults := s.faults } = s := by
  unfold State.countOnly
  dsimp only
  split <;> rfl

theorem State.rebuildAcct_frame (s : State) (a i n : Nat) (site : W32) : { s.rebuildAcct a i n site with faults := s.faults } = s :=
  (congrArg (fun v : State => { v with faults := s.faults }) (State.countOnly_frame (s.onFaults _) site) :)

theorem State.beginOrder_namers (n : Nat) : (s.beginOrder p b).namers n = s.namers n := rfl

/-- The answer of an order whose work is on the tokens and on the accounts. -/
theorem orderStands.done_tokens (h : orderStands s p b) {v : State} {g : Table Token → Table Token}
    (hv : { v with faults := s.faults } = (s.beginOrder p b).onProg (fun x => { x with tokens := g x.tokens })) :
    let u := (v.effected p).done p []
    answers p b s.clk.hub 0 [] s u ∧ u.prog = { s.prog with tokens := g s.prog.tokens } := by
  intro u
  have hclk : v.clk = s.clk := (congrArg State.clk hv :)
  have hprog : v.prog = { s.prog with tokens := g s.prog.tokens } := (congrArg State.prog hv :)
  obtain ⟨hans, hframe⟩ := h.done_work (v := v) (congrArg State.hosts hv :) (congrArg State.cores hv :) []
  rw [hclk] at hans
  exact ⟨hans, (congrArg State.prog hframe :).trans hprog⟩

theorem tenantOrder.tokenCreate (h : tenantOrder p b s 0x12) (hbound : s.bound (tokenOwner b) = true) (hop : byteAt b 1 = 0x70)
    (hf : firstBad b (tokenFields b ++ [(0x14, 1, true), (0x16, 2, true)]) = none) :
    (s.token? (tokenNo b) = none → ∃ u : State, exec (.tokenCreate p) s = .next u.settle ∧ answers p b s.clk.hub 0 [] s u ∧
          u.token? (tokenNo b) = some { rank := (byteAt b 0x14).toNat, owner := tokenOwner b, value := (u16 b 0x16).toNat } ∧ u.prog.subs = s.prog.subs ∧
          (∀ m, m ≠ tokenNo b → u.token? m = s.token? m)) ∧
        ((s.token? (tokenNo b)).isSome = true →
          ∃ u : State, exec (.tokenCreate p) s = .next u.settle ∧ answers p b s.clk.hub (0x1000 + 0x10) [] s u ∧ onlyReply s u) := by
  refine ⟨fun hn => ?_, fun hk => ⟨_, rfl, h.refused (isOpc_of hop) hf (by simp [hbound, hk])⟩⟩
  refine ⟨_, congrArg Host.Outcome.next (congrArg State.settle (h.run (isOpc_of hop) hf (by simp [hbound, hn]))), ?_⟩
  have hzero := ((s.beginOrder p b).onProg (fun x => { x with
    tokens := tset x.tokens (tokenNo b) { rank := (byteAt b 0x14).toNat, owner := tokenOwner b, value := num b 0x16 2, waiters := [] } })).zeroAcct_frame 7 (tokenNo b)
  obtain ⟨hans, hprog⟩ := h.stands.done_tokens (v := (State.zeroAcct _ 7 (tokenNo b)).book 7 (tokenNo b) (num b 0x16 2))
    (g := fun x => tset x (tokenNo b) { rank := (byteAt b 0x14).toNat, owner := tokenOwner b, value := num b 0x16 2, waiters := [] })
    (congrArg (fun v : State => { v with faults := s.faults }) hzero :)
  refine ⟨hans, ?_, (congrArg Progs.subs hprog :), fun m hm => ?_⟩
  · rw [← num_u16]
    exact (congrArg (fun g : Progs => tfind g.tokens (tokenNo b)) hprog :).trans (tfind_tset_same _ _ _)
  · exact (congrArg (fun g : Progs => tfind g.tokens m) hprog :).trans (tfind_tset_ne _ _ _ _ hm)

theorem tenantOrder.tokenDestroy (h : tenantOrder p b s 0x12) (hop : byteAt b 1 = 0x71) (hf : firstBad b (tokenFields b) = none)
    {k : Token} (hk : s.token? (tokenNo b) = some k) (ho : k.owner = tokenOwner b) :
    (k.waiters = [] → s.namers (tokenNo b) = 0 →
          ∃ u : State, exec (.tokenDestroy p) s = .next u.settle ∧ answers p b s.clk.hub 0 [] s u ∧ u.token? (tokenNo b) = none ∧ u.prog.subs = s.prog.subs ∧
            (∀ m, m ≠ tokenNo b → u.token? m = s.token? m)) ∧
        ((k.waiters ≠ [] ∨ s.namers (tokenNo b) ≠ 0) →
          ∃ u : State, exec (.tokenDestroy p) s = .next u.settle ∧ answers p b s.clk.hub (0x1000 + 0x12) [] s u ∧ onlyReply s u) := by
  have howned : (s.beginOrder p b).tokenRefused b = false := by simp [State.tokenRefused, hk, ho]
  refine ⟨fun hw hn => ?_, fun hbusy => ⟨_, rfl, h.refused (isOpc_of hop) hf ?_⟩⟩
  · refine ⟨_, congrArg Host.Outcome.next (congrArg State.settle (h.run (isOpc_of hop) hf ?_)), ?_⟩
    · simp [howned, hk, hw, State.beginOrder_namers, hn]
    · obtain ⟨hans, hprog⟩ := h.stands.done_tokens (v := if ((s.token? (tokenNo b)).map (·.fenced)).getD false then
          ((s.beginOrder p b).onProg (fun x => { x with tokens := tdel x.tokens (tokenNo b) })).rebuildAcct 7 (tokenNo b) 0 tokenSite
        else ((s.beginOrder p b).onProg (fun x => { x with tokens := tdel x.tokens (tokenNo b) })).dropAcct 7 (tokenNo b))
        (g := fun x => tdel x (tokenNo b)) (by
          split
          · exact State.rebuildAcct_frame _ 7 (tokenNo b) 0 tokenSite
          · exact State.dropAcct_frame _ 7 (tokenNo b))
      refine ⟨hans, ?_, (congrArg Progs.subs hprog :), fun m hm => ?_⟩
      · exact (congrArg (fun g : Progs => tfind g.tokens (tokenNo b)) hprog :).trans (tfind_tdel_same _ _)
      · exact (congrArg (fun g : Progs => tfind g.tokens m) hprog :).trans (tfind_tdel_ne _ _ _ hm)
  · rcases hbusy with hw | hn
    · simp [howned, hk, hw]
    · simp [howned, hk, State.beginOrder_namers, hn]

theorem tenantOrder.tokenRead (h : tenantOrder p b s 0x12) (hop : byteAt b 1 = 0x72) (hf : firstBad b (tokenFields b) = none) :
    (∀ k, s.token? (tokenNo b) = some k → k.owner = tokenOwner b → k.fenced = false →
          ∃ u : State, exec (.tokenRead p) s = .next u.settle ∧ onlyReply s u ∧
            answers p b s.clk.hub 0 ([BitVec.ofNat 8 k.rank, 0] ++ le 2 k.value ++ le 4 k.waiters.length ++ le 4 (k.waiters.headD 0xFFFFFFFF) ++
              le 4 (s.namers (tokenNo b))) s u) ∧
      (s.token? (tokenNo b) = none → ∃ u : State, exec (.tokenRead p) s = .next u.settle ∧ answers p b s.clk.hub (0x1000 + 0x11) [] s u ∧ onlyReply s u) := by
  refine ⟨fun k hk ho hfen => ?_, fun hk => ⟨_, rfl, h.refused (isOpc_of hop) hf (by simp [State.tokenRefused, hk])⟩⟩
  have hdo : doTokenRead p s = ((s.beginOrder p b).done p ([BitVec.ofNat 8 k.rank, 0] ++ le 2 k.value ++ le 4 k.waiters.length ++
      le 4 (k.waiters.headD 0xFFFFFFFF) ++ le 4 (s.namers (tokenNo b)))).settle := by
    rw [doTokenRead, h.run (isOpc_of hop) hf (by simp [State.tokenRefused, hk, ho, hfen]), State.beginOrder_token?, hk]
    rfl
  exact ⟨_, congrArg Host.Outcome.next hdo, (h.stands.putReply_beginOrder _ _).symm⟩

end

/-- Settles O39, order by order. -/
theorem queueAndTokenOrders : Obligations.QueueAndTokenOrders := by
  intro p b s h hl hfog t owner bound n refused
  have hn : n = tokenNo b := (num_u16 b 0x10).symm
  rw [hn]
  refine ⟨fun hp hbound q => ⟨fun hop hkind hq hf => ?_, fun hop hkind hq hf => ?_, fun hop hq hcls hf => ?_, fun hop hq hf => ?_⟩,
    fun hp hbound hop hone sc hsc hf => ?_, fun hp => ⟨fun hop hf hbound => ?_, fun k hk ho => ⟨fun hop hf hw hns => ?_, fun hop hf hbusy => ?_, fun hop hf hfen => ?_⟩,
    fun hk hop hf => ?_⟩⟩
  · exact tenantOrder.createQueueSq ⟨h, hl, hfog, hp⟩ hbound hop hkind hq hf
  · exact tenantOrder.createQueueCq ⟨h, hl, hfog, hp⟩ hbound hop hkind hq hf
  · exact tenantOrder.setQueuePriority ⟨h, hl, hfog, hp⟩ hbound hop hq hcls hf
  · exact tenantOrder.resetQueue ⟨h, hl, hfog, hp⟩ hbound hop hq hf
  · exact tenantOrder.releaseHold ⟨h, hl, hfog, hp⟩ hbound hop hone hsc hf
  · exact tenantOrder.tokenCreate ⟨h, hl, hfog, hp⟩ hbound hop hf
  · exact (tenantOrder.tokenDestroy ⟨h, hl, hfog, hp⟩ hop hf hk ho).1 hw hns
  · exact (tenantOrder.tokenDestroy ⟨h, hl, hfog, hp⟩ hop hf hk ho).2 hbusy
  · exact (tenantOrder.tokenRead ⟨h, hl, hfog, hp⟩ hop hf).1 k hk ho hfen
  · exact (tenantOrder.tokenRead ⟨h, hl, hfog, hp⟩ hop hf).2 hk

end Sys2Proof.Machine

namespace Sys2Proof.Machine
open Sys2Proof

/-! ### Binding and unbinding tenants (R95, R97, R380, R381) -/

theorem foldl_isSome {α β : Type} {g : Option β → α → Option β} (hg : ∀ m x, (g m x).isSome = true) (l : List α) {m : Option β} (hm : m.isSome = true) :
    (l.foldl g m).isSome = true := by
  induction l generalizing m with
  | nil => exact hm
  | cons x l ih => exact ih (hg m x)

/-- R373: a packet without an offending byte has every parameter in range. -/
theorem firstBad_inRange {b : Bytes} {fields : List (Nat × Nat × Bool)} (h : firstBad b fields = none) {f : Nat × Nat × Bool} (hf : f ∈ fields) :
    f.2.2 = true := by
  by_contra hbad
  have hmem : f.1 ∈ (fields.filter (fun f => !f.2.2)).map (fun (f : Nat × Nat × Bool) => f.1) :=
    List.mem_map_of_mem (List.mem_filter.mpr ⟨hf, by simpa using hbad⟩)
  unfold firstBad at h
  dsimp only at h
  cases hl : (fields.filter (fun f => !f.2.2)).map (fun (f : Nat × Nat × Bool) => f.1) with
  | nil => rw [hl] at hmem; exact List.not_mem_nil hmem
  | cons x l =>
    rw [hl, List.cons_append, List.foldl_cons] at h
    refine absurd (congrArg Option.isSome h) (ne_of_eq_of_ne (foldl_isSome ?_ _ rfl) Bool.true_eq_false_eq_False)
    intro m x
    cases m <;> rfl

section
variable {s : State} {p : HPort} {b : Bytes}

/-- A part of a host port's record that a change leaves is left by the change of any host port. -/
theorem State.modHost_keeps {β : Type} (s : State) (p q : HPort) {f : HostPort → HostPort} (g : HostPort → β) (hf : ∀ h, g (f h) = g h) :
    g ((s.modHost q f).host p) = g (s.host p) := by
  by_cases e : p = q
  · subst e; rw [State.host_modHost, hf]
  · rw [State.host_modHost_ne _ _ _ _ e]

theorem State.exitL1_keeps {β : Type} (s : State) (p q : HPort) (g : HostPort → β) (hlink : ∀ (h : HostPort) l t, g { h with l1 := l, txIdle := t } = g h) :
    g ((s.exitL1 q).host p) = g (s.host p) := s.modHost_keeps p q g (fun h => hlink h _ _)

theorem State.modOq_keeps {β : Type} (s : State) (p q : HPort) (f) (g : HostPort → β) (hoq : ∀ (h : HostPort) o, g { h with oq := o } = g h) :
    g ((s.modOq q f).host p) = g (s.host p) := s.modHost_keeps p q g (fun h => hoq h _)

theorem State.beginOrder_keeps {β : Type} (s : State) (p q : HPort) (b : Bytes) (g : HostPort → β) (hoq : ∀ (h : HostPort) o, g { h with oq := o } = g h) :
    g ((s.beginOrder q b).host p) = g (s.host p) :=
  s.modOq_keeps p q (fun o => { o with active := some { opc := byteAt b 1, packet := b, index := o.head, stage := .none } }) g hoq

/-- What a vector leaves of a host port: all but the vectors of its PF and its link. -/
theorem State.vector_host_keeps {β : Type} (s : State) (fn : Fn) (v : Nat) (p : HPort) (g : HostPort → β)
    (hlink : ∀ (h : HostPort) l t, g { h with l1 := l, txIdle := t } = g h)
    (hpf : ∀ (h : HostPort) x y, g { h with pf := { h.pf with pba := x, pmeStatus := y } } = g h) :
    g ((s.vector fn v).host p) = g (s.host p) := by
  have exit : ∀ (x : State) (q : HPort), g ((x.exitL1 q).host p) = g (x.host p) := fun x q => x.modHost_keeps p q g (fun h => hlink h _ _)
  have modFn : ∀ (x : State) (f : FnState → FnState), (∀ h : HostPort, g { h with pf := f h.pf } = g h) → g ((x.modFn fn f).host p) = g (x.host p) := by
    intro x f hf
    cases fn with
    | vf t => rfl
    | pf q => exact x.modHost_keeps p q g hf
  have hpend := modFn s (fun f => { f with pba := f.pba ||| (1#64 <<< v) }) (fun h => hpf h _ h.pf.pmeStatus)
  unfold State.vector
  dsimp only
  split
  · rfl
  · split
    · exact exit s _
    · split
      · exact (modFn _ (fun f => { f with pmeStatus := true }) (fun h => hpf h h.pf.pba true)).trans ((exit _ _).trans hpend)
      · exact hpend

theorem State.vector_pfMaster (s : State) (fn : Fn) (v : Nat) (p : HPort) : (s.vector fn v).pfMaster p = s.pfMaster p :=
  s.vector_host_keeps fn v p (fun h => h.alive && !h.pf.d3 && h.pf.bme) (fun _ _ _ => rfl) (fun _ _ _ => rfl)

theorem State.vector_held (s : State) (fn : Fn) (v : Nat) (p : HPort) : ((s.vector fn v).host p).held = (s.host p).held :=
  s.vector_host_keeps fn v p HostPort.held (fun _ _ _ => rfl) (fun _ _ _ => rfl)

/-! #### What a journal record leaves (R203-R205) -/

theorem State.journal_host_keeps {β : Type} (s : State) (t : Tenant) (typ : Nat) (body : Bytes) (ref step : W64) (p : HPort) (g : HostPort → β)
    (hlink : ∀ (h : HostPort) l t, g { h with l1 := l, txIdle := t } = g h) (hheld : ∀ (h : HostPort) x y, g { h with held := x, heldStop := y } = g h) :
    g ((s.journal t typ body ref step).host p) = g (s.host p) := by
  unfold State.journal
  dsimp only
  split
  · rfl
  · split
    · rfl
    · split
      · exact (State.modTenant s t _).modHost_keeps p (hostOf t) g (fun h => hlink h _ _)
      · exact (State.modTenant s t _).modHost_keeps p (hostOf t) g (fun h => hheld h _ _)

theorem State.journal_oq (s : State) (t : Tenant) (typ : Nat) (body : Bytes) (ref step : W64) (p : HPort) :
    (s.journal t typ body ref step).oq p = s.oq p :=
  s.journal_host_keeps t typ body ref step p HostPort.oq (fun _ _ _ => rfl) (fun _ _ _ => rfl)

theorem State.journal_pfMaster (s : State) (t : Tenant) (typ : Nat) (body : Bytes) (ref step : W64) (p : HPort) :
    (s.journal t typ body ref step).pfMaster p = s.pfMaster p :=
  s.journal_host_keeps t typ body ref step p (fun h => h.alive && !h.pf.d3 && h.pf.bme) (fun _ _ _ => rfl) (fun _ _ _ => rfl)

theorem State.journal_out_grows (s : State) (t : Tenant) (typ : Nat) (body : Bytes) (ref step : W64) {o : Out} (h : o ∈ s.out) :
    o ∈ (s.journal t typ body ref step).out := by
  unfold State.journal
  dsimp only
  split
  · exact h
  · split
    · exact h
    · split
      · exact List.mem_cons_of_mem _ h
      · exact h

theorem State.tenant_modTenant_ne (s : State) {t x : Tenant} (f) (h : x ≠ t) : (s.modTenant t f).tenant x = s.tenant x :=
  tget_tmod_ne _ _ _ _ _ (fun e => h (BitVec.eq_of_toNat_eq e))

theorem State.journal_tenant_ne (s : State) {t x : Tenant} (h : x ≠ t) (typ : Nat) (body : Bytes) (ref step : W64) :
    (s.journal t typ body ref step).tenant x = s.tenant x := by
  unfold State.journal
  dsimp only
  split
  · rfl
  · split
    · rfl
    · split <;> exact s.tenant_modTenant_ne _ h

theorem State.journal_binding (s : State) (t : Tenant) (typ : Nat) (body : Bytes) (ref step : W64) :
    ((s.journal t typ body ref step).tenant t).binding = (s.tenant t).binding := by
  unfold State.journal
  dsimp only
  split
  · rfl
  · split
    · rfl
    · split <;> (show ((s.modTenant t _).tenant t).binding = _; rw [State.tenant_modTenant])

/-- A record that can be written at once goes to the next slot of its journal (R203). -/
theorem State.journal_writes (s : State) (t : Tenant) (typ : Nat) (body : Bytes) (ref step : W64) {x : Binding} (hx : (s.tenant t).binding = some x)
    (hsafe : s.safe = false) (hm : s.pfMaster (hostOf t) = true) (hheld : (s.host (hostOf t)).held = []) :
    ((s.journal t typ body ref step).tenant t).jseq = (s.tenant t).jseq + 1 ∧
      ∃ r, byteAt r 0 = BitVec.ofNat 8 typ ∧ .hostWrite (hostOf t) none (recordAddr x (s.tenant t).jseq) r ∈ (s.journal t typ body ref step).out := by
  unfold State.journal
  rw [hx]
  dsimp only
  rw [hsafe, if_neg (by simp), if_pos (by
    rw [Bool.and_eq_true]
    exact ⟨hm, (congrArg List.isEmpty hheld :)⟩)]
  refine ⟨?_, _, rfl, List.mem_cons_self⟩
  show ((s.modTenant t _).tenant t).jseq = _
  rw [State.tenant_modTenant]

/-! #### Binding (R95, R380) -/

theorem State.bindTenant_oq (s : State) (t : Tenant) (x : Binding) : (s.bindTenant t x).oq p = s.oq p :=
  State.journal_oq (s.modTenant t _) t 2 _ 0 0 p

/-- R95: the reply is posted, then the tenant is bound. -/
theorem State.putReply_binds {w : State} {t : Tenant} {x : Binding} {a : Active} (hq : (w.oq p).active = some a) (ho : a.orphan = false)
    (hr : a.restarted = false) (hafter : a.after = .bind t x) (hm : w.pfMaster p = true) (ht : w.cores.tenderUp = true) (time : W64) :
    ∃ v : State, w.putReply p time 0 [] = (v.bindTenant t x).fetchOrders p ∧ (v.oq p).active = none ∧ (v.oq p).head = a.index + 1 ∧
      Out.hostWrite p none ((w.oq p).rbase + BitVec.ofNat 64 (64 * (a.index % (w.oq p).size)))
        (replyBytes a (passBit (w.oq p).size a.index) time 0 []) ∈ v.out ∧
      v.queues = w.queues ∧ v.faults = w.faults ∧ v.pfMaster p = true ∧ (v.host p).held = (w.host p).held := by
  obtain ⟨y, hy⟩ : ∃ y : State, y = (w.sendWrite p none ((w.oq p).rbase + BitVec.ofNat 64 (64 * (a.index % (w.oq p).size)))
    (replyBytes a (passBit (w.oq p).size a.index) time 0 [])).modOq p (fun o => { o with active := none, head := a.index + 1, slots := tdel o.slots a.index }) := ⟨_, rfl⟩
  have hput : w.putReply p time 0 [] = ((y.vector (.pf p) 0).bindTenant t x).fetchOrders p := by
    unfold State.putReply
    simp only [hq, ho, hr, hm, ht, Bool.not_true, Bool.false_eq_true, if_false, hafter, hy]
    rfl
  have hout : y.out = Out.hostWrite p none ((w.oq p).rbase + BitVec.ofNat 64 (64 * (a.index % (w.oq p).size)))
      (replyBytes a (passBit (w.oq p).size a.index) time 0 []) :: w.out := by rw [hy]; rfl
  have hoq : ((y.vector (.pf p) 0).oq p) = y.oq p := y.vector_oq (.pf p) 0 p
  refine ⟨_, hput, ?_, ?_, y.vector_adds _ _ (by rw [hout]; exact List.mem_cons_self), ?_, ?_, ?_, ?_⟩
  · rw [hoq, hy, State.oq_modOq]
  · rw [hoq, hy, State.oq_modOq]
  · rw [State.vector_queues, hy]; rfl
  · rw [State.vector_faults, hy]; rfl
  · rw [State.vector_pfMaster, hy, State.modOq_pfMaster, ← hm]
    exact w.exitL1_keeps p p (fun h => h.alive && !h.pf.d3 && h.pf.bme) (fun _ _ _ => rfl)
  · rw [State.vector_held, hy]
    exact (State.modOq_keeps _ p p _ HostPort.held (fun _ _ => rfl)).trans (w.exitL1_keeps p p HostPort.held (fun _ _ _ => rfl))

/-- What a binding leaves (R95). -/
theorem State.bindTenant_facts (v : State) (t : Tenant) (x : Binding) :
    (∀ y, y ≠ t → (v.bindTenant t x).tenant y = v.tenant y) ∧ (v.bindTenant t x).queues.sqs = v.queues.sqs ∧
      (v.bindTenant t x).queues.cqs = v.queues.cqs ∧ ((v.bindTenant t x).tenant t).binding = some x := by
  refine ⟨fun y hy => ?_, State.journal_sqs _ t 2 _ 0 0, State.journal_cqs _ t 2 _ 0 0, ?_⟩
  · exact (State.journal_tenant_ne _ hy 2 _ 0 0).trans (v.tenant_modTenant_ne _ hy)
  · refine (State.journal_binding _ t 2 _ 0 0).trans ?_
    rw [State.tenant_modTenant]

theorem State.bindTenant_writes (v : State) (t : Tenant) (x : Binding) (hsafe : v.safe = false) (hm : v.pfMaster (hostOf t) = true)
    (hheld : (v.host (hostOf t)).held = []) :
    ((v.bindTenant t x).tenant t).jseq = (v.tenant t).jseq + 1 ∧
      ∃ r, byteAt r 0 = 2 ∧ .hostWrite (hostOf t) none (recordAddr x (v.tenant t).jseq) r ∈ (v.bindTenant t x).out := by
  have hj : ((v.modTenant t (fun y => { y with binding := some x, quiet := none, fogNoted := false })).tenant t).jseq = (v.tenant t).jseq := by
    rw [State.tenant_modTenant]
  rw [← hj]
  exact State.journal_writes (v.modTenant t (fun y => { y with binding := some x, quiet := none, fogNoted := false })) t 2 _ 0 0
    (by rw [State.tenant_modTenant]) hsafe hm hheld

/-- The binding that a packet of BIND-TENANT gives (R380). -/
theorem bindingOf_fields (hf : firstBad b (bindFields b) = none) :
    (bindingOf b).windows = (List.range (byteAt b 0x13).toNat).map (fun i => ⟨u64 b (0x30 + 16 * i), u64 b (0x38 + 16 * i)⟩) := by
  have hwin := firstBad_inRange hf (f := (0x13, 1, decide (1 ≤ (byteAt b 0x13).toNat) && decide ((byteAt b 0x13).toNat ≤ 4))) (by
    simp only [bindFields, List.mem_append, List.mem_cons]
    tauto)
  simp only [Bool.and_eq_true, decide_eq_true_eq] at hwin
  show (List.range (min 4 (byteAt b 0x13).toNat)).map (bindWindow b) = _
  rw [Nat.min_eq_right hwin.2]
  rfl

theorem tenantOrder.bindTenant (h : tenantOrder p b s 0x10) (hop : byteAt b 1 = 3) (hf : firstBad b (bindFields b) = none)
    (hub : (s.tenant (ten b)).binding = none) (hvf : s.vfOn (ten b) = true) :
    ∃ u : State, exec (.bindTenant p) s = .next u.settle ∧ answers p b s.clk.hub 0 [] s u ∧ (∀ x, x ≠ ten b → u.tenant x = s.tenant x) ∧
      u.queues.sqs = s.queues.sqs ∧ u.queues.cqs = s.queues.cqs ∧ (u.tenant (ten b)).binding = some (bindingOf b) ∧
        (s.safe = false → (s.host p).held = [] → (u.tenant (ten b)).jseq = (s.tenant (ten b)).jseq + 1 ∧ ∃ r, byteAt r 0 = 2 ∧
          .hostWrite p none (recordAddr (bindingOf b) (s.tenant (ten b)).jseq) r ∈ u.out) := by
  have hvf' : (s.beginOrder p b).vfOn (ten b) = true :=
    (s.beginOrder_keeps (hostOf (ten b)) p b (fun h => h.vfEn && decide (vfNum (ten b) < h.numVfs)) (fun _ _ => rfl)).trans hvf
  obtain ⟨w, hw⟩ : ∃ w : State, w = ((s.beginOrder p b).onceReplied p (.bind (ten b) (bindingOf b))).effected p := ⟨_, rfl⟩
  have hdo : doBindTenant p s = (w.putReply p s.clk.hub 0 []).settle := by
    rw [doBindTenant, h.run (isOpc_of hop) hf (by simp [State.bound, hub, hvf']), hw]
    rfl
  have hframe : { w with hosts := s.hosts, orders := s.orders, power := s.power } = s := by rw [hw]; rfl
  have hqueues : w.queues = s.queues := (congrArg State.queues hframe :)
  have hfaults : w.faults = s.faults := (congrArg State.faults hframe :)
  have ⟨_, _, hmaster, _⟩ := h.stands
  obtain ⟨v, hput, hact, hhead, hreply, hvq, hvf, hvm, hvheld⟩ := State.putReply_binds (w := w) (p := p) (t := ten b) (x := bindingOf b)
    (a := { opc := byteAt b 1, packet := b, index := (s.oq p).head, stage := .none, after := .bind (ten b) (bindingOf b), effected := true })
    (by rw [hw, State.effected_oq, State.onceReplied_oq, State.beginOrder_oq]; rfl) rfl rfl rfl
    (by rw [hw]; exact ((State.modOq_pfMaster _ p _).trans (State.modOq_pfMaster _ p _)).trans h.stands.beginOrder.master)
    (by rw [hw]; exact h.stands.tenderUp) s.clk.hub
  obtain ⟨hothers, hsqs, hcqs, hbind⟩ := v.bindTenant_facts (ten b) (bindingOf b)
  obtain ⟨hff, ⟨l, hfo⟩, hfact, hfhead, -⟩ := (v.bindTenant (ten b) (bindingOf b)).fetchOrders_facts p
  have hfq : ((v.bindTenant (ten b) (bindingOf b)).fetchOrders p).queues = (v.bindTenant (ten b) (bindingOf b)).queues := (congrArg State.queues hff :)
  have hgrow : ∀ o ∈ v.out, o ∈ ((v.bindTenant (ten b) (bindingOf b)).fetchOrders p).out := fun o ho => by
    rw [hfo]; exact List.mem_append_right l (State.journal_out_grows (v.modTenant (ten b) _) _ _ _ _ _ ho)
  refine ⟨_, congrArg Host.Outcome.next hdo, ?_⟩
  rw [hput]
  refine ⟨⟨?_, ?_, ?_⟩, fun x hx => ?_, ?_, ?_, ?_, fun hsafe hheld => ?_⟩
  · rw [hfact, State.bindTenant_oq, hact]
  · rw [hfhead, State.bindTenant_oq, hhead]
  · have hoq : w.oq p = { s.oq p with active := (w.oq p).active } := by rw [hw, State.effected_oq, State.onceReplied_oq, State.beginOrder_oq]
    refine hgrow _ ?_
    rw [hoq] at hreply
    exact hreply
  · rw [State.tenant_congr hfq, hothers x hx, State.tenant_congr hvq, State.tenant_congr hqueues]
  · rw [hfq, hsqs, hvq, hqueues]
  · rw [hfq, hcqs, hvq, hqueues]
  · rw [State.tenant_congr hfq, hbind]
  · have hp : hostOf (ten b) = p := h.mine
    have hkept : (w.host p).held = (s.host p).held := by
      rw [hw]
      exact (State.modOq_keeps _ p p _ HostPort.held (fun _ _ => rfl)).trans
        ((State.modOq_keeps _ p p _ HostPort.held (fun _ _ => rfl)).trans (s.beginOrder_keeps p p b HostPort.held (fun _ _ => rfl)))
    obtain ⟨hj, r, hr, hrec⟩ := v.bindTenant_writes (ten b) (bindingOf b) (by rw [State.safe, hvf, hfaults]; exact hsafe) (by rw [hp]; exact hvm)
      (by rw [hp, hvheld, hkept, hheld])
    rw [State.tenant_congr hvq, State.tenant_congr hqueues] at hj hrec
    refine ⟨by rw [State.tenant_congr hfq, hj], r, hr, ?_⟩
    rw [hfo, ← hp]
    exact List.mem_append_right l hrec

theorem tenantOrder.bindTenant_bound (h : tenantOrder p b s 0x10) (hop : byteAt b 1 = 3) (hf : firstBad b (bindFields b) = none)
    (hb : (s.tenant (ten b)).binding.isSome = true) :
    ∃ u : State, exec (.bindTenant p) s = .next u.settle ∧ answers p b s.clk.hub 0x1005 [] s u ∧ onlyReply s u :=
  ⟨_, rfl, h.refused (n := 5) (isOpc_of hop) hf (by simp [State.bound, hb])⟩

/-! #### Unbinding (R97, R99, R381) -/

theorem State.tenant_congr_table {u v : State} (h : u.queues.tenants = v.queues.tenants) (t : Tenant) : u.tenant t = v.tenant t := by
  rw [State.tenant, State.tenant, h]

theorem carriesOut.keepsRing {w : State} (h : carriesOut p b s w) {v : State} (hq : v.oq p = w.oq p) (hm : v.pfMaster p = w.pfMaster p)
    (hcores : v.cores = w.cores) : carriesOut p b s v :=
  ⟨by rw [hq]; exact h.active, hm.trans h.master, by rw [hcores]; exact h.tender⟩

theorem State.foldl_frame {α : Type} {f : State → α → State} (hf : ∀ s x, { f s x with faults := s.faults } = s) (l : List α) (s : State) :
    { l.foldl f s with faults := s.faults } = s := by
  induction l generalizing s with
  | nil => rfl
  | cons x l ih =>
    exact (congrArg (fun v : State => { v with faults := s.faults }) (ih (f s x)) :).trans (hf s x)

/-- The accounts of a tenant's queues are given up with them (R413). -/
def State.giveUpSq (t : Tenant) (s : State) (q : QNum) : State :=
  let k := s.sq? t q
  if (k.map (·.fenced)).getD false then s.rebuildAcct 5 (qIndex t q) 0 queueSite
  else (s.book 5 (qIndex t q) (-(((k.map (·.outst)).getD 0 : Nat) : Int))).dropAcct 5 (qIndex t q)

def State.giveUpCq (t : Tenant) (s : State) (q : QNum) : State :=
  match s.cq? t q with
  | some c =>
    if c.fenced then s.rebuildAcct 6 (qIndex t q) 0 writerSite
    else (s.book 6 (qIndex t q) (-((c.reserved + (c.tail - c.head) : Nat) : Int))).dropAcct 6 (qIndex t q)
  | none => s

theorem State.book_dropAcct_frame (s : State) (a i : Nat) (n : Int) : { (s.book a i n).dropAcct a i with faults := s.faults } = s :=
  (congrArg (fun v : State => { v with faults := s.faults }) ((s.book a i n).dropAcct_frame a i) :)

theorem State.giveUpSq_frame (t : Tenant) (s : State) (q : QNum) : { s.giveUpSq t q with faults := s.faults } = s := by
  unfold State.giveUpSq
  dsimp only
  split
  · exact s.rebuildAcct_frame _ _ _ _
  · exact s.book_dropAcct_frame _ _ _

theorem State.giveUpCq_frame (t : Tenant) (s : State) (q : QNum) : { s.giveUpCq t q with faults := s.faults } = s := by
  unfold State.giveUpCq
  split
  · split
    · exact s.rebuildAcct_frame _ _ _ _
    · exact s.book_dropAcct_frame _ _ _
  · rfl

/-- The queues but for those of a tenant. -/
def Queues.without (t : Tenant) (k : Queues) : Queues :=
  { k with
    sqs := k.sqs.filter (fun x => !(x.1 / 8 == t.toNat)), cqs := k.cqs.filter (fun x => !(x.1 / 8 == t.toNat))
    arb := { k.arb with grant := if (k.arb.grant.map (fun i => i / 8 == t.toNat)).getD false then none else k.arb.grant } }

def entryOf (t : Tenant) : ReadKey → Bool
  | .entry u _ => u == t
  | _ => false

theorem State.deleteQueues_eq (s : State) (t : Tenant) :
    let v := (s.sqsOf t).foldl (State.giveUpSq t) s
    s.deleteQueues t = (((v.cqsOf t).foldl (State.giveUpCq t) v).onQueues (Queues.without t)).dropKeys (hostOf t) (entryOf t) := by
  rfl

theorem State.deleteQueues_facts (s : State) (t : Tenant) :
    ∃ v : State, { v with faults := s.faults } = s ∧ s.deleteQueues t = (v.onQueues (Queues.without t)).dropKeys (hostOf t) (entryOf t) := by
  generalize hv : (s.sqsOf t).foldl (State.giveUpSq t) s = v
  generalize hw : (v.cqsOf t).foldl (State.giveUpCq t) v = w
  have hvf : { v with faults := s.faults } = s := by rw [← hv]; exact State.foldl_frame (State.giveUpSq_frame t) _ s
  have hwf : { w with faults := v.faults } = v := by rw [← hw]; exact State.foldl_frame (State.giveUpCq_frame t) _ v
  refine ⟨w, (congrArg (fun x : State => { x with faults := s.faults }) hwf :).trans hvf, ?_⟩
  rw [s.deleteQueues_eq t, hv, hw]

theorem tfind_filter_none {α : Type} {t : Table α} {k : Nat} {f : Nat × α → Bool} (hf : ∀ v, f (k, v) = false) : tfind (t.filter f) k = none := by
  induction t with
  | nil => rfl
  | cons x t ih =>
    rw [List.filter_cons]
    split
    · next hx =>
      rw [tfind]
      split
      · next he => exact absurd hx (by rw [show x = (k, x.2) from Prod.ext he rfl, hf]; exact Bool.false_ne_true)
      · exact ih
    · exact ih

theorem State.deleteQueues_none (s : State) (t : Tenant) (q : QNum) : (s.deleteQueues t).sq? t q = none ∧ (s.deleteQueues t).cq? t q = none := by
  obtain ⟨v, -, hv⟩ := s.deleteQueues_facts t
  rw [hv]
  have hq : qIndex t q / 8 = t.toNat := by
    rw [qIndex]
    omega
  exact ⟨tfind_filter_none (fun _ => by simp [hq]), tfind_filter_none (fun _ => by simp [hq])⟩

theorem State.deleteQueues_oq (s : State) (t : Tenant) : (s.deleteQueues t).oq p = s.oq p := by
  obtain ⟨v, hframe, hv⟩ := s.deleteQueues_facts t
  rw [hv]
  refine (State.dropKeys_oq _ p (hostOf t) _).trans ?_
  exact (congrArg (fun v : State => v.oq p) hframe :)

theorem State.deleteQueues_pfMaster (s : State) (t : Tenant) : (s.deleteQueues t).pfMaster p = s.pfMaster p := by
  obtain ⟨v, hframe, hv⟩ := s.deleteQueues_facts t
  rw [hv]
  refine (State.modHost_keeps _ p (hostOf t) (fun h => h.alive && !h.pf.d3 && h.pf.bme) (f := fun h => { h with
    reads := h.reads.filter _, readQ := h.readQ.filter _ }) (fun _ => rfl)).trans ?_
  exact (congrArg (fun v : State => v.pfMaster p) hframe :)

theorem State.deleteQueues_frame (s : State) (t : Tenant) :
    { s.deleteQueues t with faults := s.faults, hosts := s.hosts, queues := s.queues } = s ∧ (s.deleteQueues t).queues.tenants = s.queues.tenants := by
  obtain ⟨v, hframe, hv⟩ := s.deleteQueues_facts t
  rw [hv]
  exact ⟨(congrArg (fun v : State => { v with hosts := s.hosts, queues := s.queues }) hframe :), (congrArg (fun v : State => v.queues.tenants) hframe :)⟩

theorem tenantOrder.unbindTenantGentle (h : tenantOrder p b s 0x10) (hop : byteAt b 1 = 4) (hkind : byteAt b 0x12 = 0)
    (hf : firstBad b (unbindFields b) = none) (hb : s.bound (ten b) = true) :
    (s.outstanding (ten b) = 0 →
      ∃ u : State, exec (.unbindTenantGentle p) s = .next u.settle ∧ answers p b s.clk.hub 0 [0, 0, 0, 0] s u ∧ (u.tenant (ten b)).binding = none ∧
        (∀ x, x ≠ ten b → u.tenant x = s.tenant x) ∧ (∀ q, u.sq? (ten b) q = none ∧ u.cq? (ten b) q = none) ∧ u.prog.tokens = s.prog.tokens) ∧
    (s.outstanding (ten b) ≠ 0 →
      ∃ u : State, exec (.unbindTenantGentle p) s = .next u.settle ∧ answers p b s.clk.hub 0x1007 [] s u ∧ onlyReply s u) := by
  have hw : (isOpc 0x04 b && byteAt b 0x12 != 1) = true := isOpc_and hop (by rw [hkind]; rfl)
  have hout : (s.beginOrder p b).outstanding (ten b) = s.outstanding (ten b) := rfl
  refine ⟨fun h0 => ?_, fun h0 => ⟨_, rfl, h.refused (n := 7) hw hf (by simp [hb, hout, h0])⟩⟩
  obtain ⟨j, hj⟩ : ∃ j : State, j = (s.beginOrder p b).journal (ten b) 3 (unbindBody 0 0 s.clk.hub) 0 0 := ⟨_, rfl⟩
  obtain ⟨w, hwd⟩ : ∃ w : State, w = (j.deleteQueues (ten b)).modTenant (ten b) (fun x => { x with
    binding := none, stopped := false, quiet := none, unbindDrain := none, aborted := 0, fogNoted := false }) := ⟨_, rfl⟩
  have hdo : doUnbindTenantGentle p s = ((w.effected p).done p (le 4 0)).settle := by
    rw [doUnbindTenantGentle, h.run hw hf (by simp [hb, hout, h0]), hwd, hj]
    rfl
  have hjf := (s.beginOrder p b).journal_frame (ten b) 3 (unbindBody 0 0 s.clk.hub) 0 0
  rw [← hj] at hjf
  obtain ⟨hdel, hten⟩ := j.deleteQueues_frame (ten b)
  have hframe : { w with faults := s.faults, hosts := s.hosts, queues := s.queues, out := s.out, orders := s.orders, power := s.power } = s := by
    rw [hwd]
    exact (congrArg (fun v : State => { v with faults := s.faults, hosts := s.hosts, queues := s.queues, out := s.out, orders := s.orders, power := s.power }) hdel :).trans
      (congrArg (fun v : State => { v with faults := s.faults, hosts := s.hosts, queues := s.queues, out := s.out, orders := s.orders, power := s.power }) hjf :)
  have hcarries : carriesOut p b s w := by
    refine h.stands.beginOrder.keepsRing ?_ ?_ (congrArg State.cores hframe :)
    · rw [hwd]
      refine (State.deleteQueues_oq j (ten b)).trans ?_
      rw [hj, State.journal_oq]
    · rw [hwd]
      refine (State.deleteQueues_pfMaster j (ten b)).trans ?_
      rw [hj, State.journal_pfMaster]
  have hclk : w.clk = s.clk := (congrArg State.clk hframe :)
  have hdone := hcarries.effected.putReply_frame s.clk.hub 0 (le 4 0)
  have hq : ((w.effected p).putReply p s.clk.hub 0 (le 4 0)).queues = w.queues := (congrArg State.queues hdone :)
  have htenant : ∀ x, (j.deleteQueues (ten b)).tenant x = j.tenant x := State.tenant_congr_table hten
  rw [State.done, show (w.effected p).clk.hub = s.clk.hub from congrArg (·.hub) hclk] at hdo
  refine ⟨_, congrArg Host.Outcome.next hdo, hcarries.effected.putReply_answers _ _ _, ?_, fun x hx => ?_, fun q => ?_, ?_⟩
  · rw [State.tenant_congr hq, hwd, State.tenant_modTenant]
  · rw [State.tenant_congr hq, hwd, State.tenant_modTenant_ne _ _ hx, htenant, hj, State.journal_tenant_ne _ hx]
    rfl
  · rw [State.sq?_congr hq, State.cq?_congr hq, hwd]
    exact j.deleteQueues_none (ten b) q
  · exact congrArg Progs.tokens ((congrArg State.prog hdone :).trans (congrArg State.prog hframe :))

/-! #### Unbinding in force (R97) -/

theorem State.halted_sq_ne (s : State) (t : Tenant) {q r : QNum} (h : r ≠ q) : ((s.haltSq t q).trueCount t q).sq? t r = s.sq? t r := by
  have hne : qIndex t r ≠ qIndex t q := fun e => h (Fin.ext (by simpa [qIndex] using e))
  have hhalt : (s.haltSq t q).sq? t r = s.sq? t r := tfind_tupd_ne _ _ _ _ hne
  unfold State.trueCount
  split
  · exact (tfind_tupd_ne _ _ _ _ hne).trans hhalt
  · exact hhalt

theorem State.halted_tenants (s : State) (t : Tenant) (q : QNum) : ((s.haltSq t q).trueCount t q).queues.tenants = s.queues.tenants := by
  unfold State.trueCount
  split <;> rfl

/-- A queue `k` that takes no more work. -/
def haltedAs (k : Sq) (x : Option Sq) : Prop :=
  ∃ n, x = some { k with resetting := true, reading := none, dmaStop := false, outst := n } ∧ (k.fenced = false → n = k.outst)

theorem State.haltedAs_again {s : State} {t : Tenant} {q : QNum} {k : Sq} (h : haltedAs k (s.sq? t q)) :
    haltedAs k (((s.haltSq t q).trueCount t q).sq? t q) := by
  obtain ⟨n, hn, hf⟩ := h
  obtain ⟨m, hm, hf'⟩ := s.halted_sq t q hn
  exact ⟨m, hm, fun h => (hf' h).trans (hf h)⟩

/-- A tenant's queues take no more work, and nothing else but what is read for them changes. -/
theorem State.haltAll_facts (t : Tenant) (l : List QNum) (s : State) (p : HPort) :
    let v := l.foldl (fun s q => (s.haltSq t q).trueCount t q) s
    { v with queues := s.queues, hosts := s.hosts } = s ∧ v.queues.tenants = s.queues.tenants ∧ v.oq p = s.oq p := by
  induction l generalizing s with
  | nil => exact ⟨rfl, rfl, rfl⟩
  | cons q l ih =>
    obtain ⟨hf, ht, hq⟩ := ih ((s.haltSq t q).trueCount t q)
    exact ⟨(congrArg (fun v : State => { v with queues := s.queues, hosts := s.hosts }) hf :).trans (s.halted_frame t q), ht.trans (s.halted_tenants t q),
      hq.trans (s.halted_oq t q p)⟩

theorem State.haltAll_keeps {t : Tenant} {q : QNum} {k : Sq} (l : List QNum) {s : State} (h : haltedAs k (s.sq? t q)) :
    haltedAs k ((l.foldl (fun s q => (s.haltSq t q).trueCount t q) s).sq? t q) := by
  induction l generalizing s with
  | nil => exact h
  | cons r l ih =>
    refine ih ?_
    by_cases e : q = r
    · subst e; exact State.haltedAs_again h
    · rw [State.halted_sq_ne _ _ e]; exact h

theorem State.haltAll_sq {t : Tenant} {q : QNum} {k : Sq} (l : List QNum) {s : State} (hk : s.sq? t q = some k) (hq : q ∈ l) :
    haltedAs k ((l.foldl (fun s q => (s.haltSq t q).trueCount t q) s).sq? t q) := by
  induction l generalizing s with
  | nil => exact absurd hq List.not_mem_nil
  | cons r l ih =>
    by_cases e : q = r
    · subst e; exact State.haltAll_keeps l (s.halted_sq t q hk)
    · exact ih ((s.halted_sq_ne t e).trans hk) ((List.mem_cons.mp hq).resolve_left e)

theorem State.mem_sqsOf {s : State} {t : Tenant} {q : QNum} {k : Sq} (h : s.sq? t q = some k) : q ∈ s.sqsOf t :=
  List.mem_filter.mpr ⟨List.mem_finRange q, by rw [h]; rfl⟩

theorem tenantOrder.unbindTenantForce (h : tenantOrder p b s 0x10) (hop : byteAt b 1 = 4) (hkind : byteAt b 0x12 = 1)
    (hf : firstBad b (unbindFields b) = none) (hb : s.bound (ten b) = true) :
      ∃ v : State, exec (.unbindTenantForce p) s = .next (((s.sqsOf (ten b)).foldl (fun v q =>
          (v.abortSq (ten b) q 0x08 1 2 false).modTenant (ten b) (fun x => { x with
            aborted := x.aborted + (((v.abortSq (ten b) q 0x08 1 2 false).sq? (ten b) q).map (·.aborted)).getD 0 })) v).setStage p (.unbindDrain (ten b))).settle ∧
        (v.tenant (ten b)).stopped = true ∧ (v.tenant (ten b)).unbindDrain = some (s.clk.now + 312500) ∧ (∀ x, x ≠ ten b → v.tenant x = s.tenant x) ∧
        underWay p b .none v ∧
        (∀ q k, s.sq? (ten b) q = some k → ∃ n, v.sq? (ten b) q = some { k with resetting := true, reading := none, dmaStop := false, outst := n } ∧
          (k.fenced = false → n = k.outst)) ∧ v.prog = s.prog ∧ v.out = s.out := by
  have hw : (isOpc 0x04 b && byteAt b 0x12 == 1) = true := isOpc_and hop (by rw [hkind]; rfl)
  obtain ⟨w, hwd⟩ : ∃ w : State, w = ((s.beginOrder p b).modTenant (ten b) (fun x => { x with
    stopped := true, unbindDrain := some (s.clk.now + Config.drainTicks), aborted := 0 })).effected p := ⟨_, rfl⟩
  have hframe : { w with hosts := s.hosts, queues := s.queues, orders := s.orders, power := s.power } = s := by rw [hwd]; rfl
  have hsq : ∀ q, w.sq? (ten b) q = s.sq? (ten b) q := by rw [hwd]; exact fun _ => rfl
  obtain ⟨hvf, hvt, hvq⟩ := State.haltAll_facts (ten b) (s.sqsOf (ten b)) w p
  have htenant := State.tenant_congr_table hvt
  refine ⟨(s.sqsOf (ten b)).foldl (fun s q => (s.haltSq (ten b) q).trueCount (ten b) q) w, ?_, ?_, ?_, fun x hx => ?_, ?_, fun q k hk => ?_, ?_, ?_⟩
  · refine congrArg Host.Outcome.next (show doUnbindTenantForce p s = _ from ?_)
    rw [doUnbindTenantForce, h.run hw hf (by simp [State.unbound, hb]), hwd]
    rfl
  · rw [htenant, hwd]
    exact congrArg TenantSt.stopped (State.tenant_modTenant (s.beginOrder p b) (ten b) _)
  · rw [htenant, hwd]
    exact congrArg TenantSt.unbindDrain (State.tenant_modTenant (s.beginOrder p b) (ten b) _)
  · rw [htenant, hwd]
    exact State.tenant_modTenant_ne (s.beginOrder p b) _ hx
  · refine (underWay.effected ?_).keeps (hvq.trans (congrArg (fun v : State => v.oq p) hwd))
    exact h.stands.begun.keeps (congrArg (fun k => HostPort.oq (tget {} k p.val)) (rfl : _ = (s.beginOrder p b).hosts) :)
  · exact State.haltAll_sq _ ((hsq q).trans hk) (State.mem_sqsOf hk)
  · exact (congrArg State.prog hvf :).trans (congrArg State.prog hframe :)
  · exact (congrArg State.out hvf :).trans (congrArg State.out hframe :)

end

/-- Settles O38, order by order. -/
theorem tenantBindings : Obligations.TenantBindings := by
  intro p b s h hl hfog hp t others
  have ho : tenantOrder p b s 0x10 := ⟨h, hl, hfog, hp⟩
  refine ⟨fun hop hf hub hvf => ?_, fun hop hf hb => ho.bindTenant_bound hop hf hb, fun hop hk hf hb h0 => ?_, fun hop hk hf hb h0 => ?_,
    fun hop hk hf hb => ho.unbindTenantForce hop hk hf hb, fun d hd hle => ?_⟩
  · obtain ⟨u, hu, hans, hothers, hsqs, hcqs, hbind, hrec⟩ := ho.bindTenant hop hf hub hvf
    refine ⟨u, hu, hans, hothers, hsqs, hcqs, ⟨_, hbind, rfl, num_u32 b 0x20, num_u16 b 0x24, rfl, ?_, bindingOf_fields hf⟩, fun hsafe hheld => ?_⟩
    · show (if (byteAt b 0x12).getLsbD 0 then some _ else none : Option (BitVec 20)).isSome = _
      cases (byteAt b 0x12).getLsbD 0 <;> rfl
    · rw [← num_u32]
      exact hrec hsafe hheld
  · exact (ho.unbindTenantGentle hop hk hf hb).1 h0
  · exact (ho.unbindTenantGentle hop hk hf hb).2 h0
  · refine congrArg Host.Outcome.next (show doUnbindDrainExpiry t s = _ from ?_)
    unfold doUnbindDrainExpiry
    rw [hd]
    exact if_pos hle

end Sys2Proof.Machine

namespace Sys2Proof.Machine
open Sys2Proof

/-! ### Orders about ports, groups and the Light List (R79, R94, R100, R281, R379, R386-R388) -/

section
variable {s : State} {p : HPort} {b : Bytes}

/-! #### What raising a fence leaves (R281) -/

theorem State.portEvent_keeps {β : Type} (g : State → β) (hv : ∀ (s : State) fn v, g (s.vector fn v) = g s) (s : State) (d : DPort) : g (s.portEvent d) = g s := by
  have fold : ∀ (l : List Tenant) (s : State), g (l.foldl (fun s t => s.vector (.vf t) 9) s) = g s := by
    intro l
    induction l with
    | nil => exact fun _ => rfl
    | cons t l ih => exact fun s => (ih _).trans (hv s _ _)
  have pfv : ∀ (s : State) v, g (s.pfVector v) = g s := fun s v => (hv _ _ _).trans (hv _ _ _)
  exact (fold _ _).trans (pfv s 3)

theorem State.firePort_oq (s : State) (d : DPort) (e : Nat) (p : HPort) : (s.firePort d e).oq p = s.oq p :=
  congrArg HostPort.oq (State.fire_host s _ _ p)

theorem State.fence_keeps {β : Type} (g : State → β) (hf : ∀ (s : State) kind site who d, g (s.logFault kind site who d) = g s)
    (hv : ∀ (s : State) fn v, g (s.vector fn v) = g s) (hfire : ∀ (s : State) u n, g (s.fire u n) = g s) (s : State) (d : DPort) (c : FenceCause)
    (addr : Nat) (fwrev : W32) : g (s.fence d c addr fwrev) = g (s.addFence d c) :=
  (hfire _ _ _).trans ((State.portEvent_keeps g hv _ d).trans (hf _ _ _ _ _))

theorem State.addFence_mem (s : State) (d : DPort) (c : FenceCause) : c ∈ ((s.addFence d c).port d).fences := by
  rw [State.addFence, State.port_modPort]
  dsimp only
  split
  · next h => exact List.contains_iff_mem.mp h
  · exact List.mem_append_right _ (List.mem_singleton_self _)

theorem State.fence_facts (s : State) (d : DPort) (c : FenceCause) (addr : Nat) (fwrev : W32) :
    c ∈ ((s.fence d c addr fwrev).port d).fences ∧ ((s.fence d c addr fwrev).port d).exch = (s.port d).exch ∧
      (s.fence d c addr fwrev).prog = s.prog ∧ (s.fence d c addr fwrev).oq p = s.oq p := by
  have hports : (s.fence d c addr fwrev).ports = (s.addFence d c).ports :=
    State.fence_keeps State.ports (by simp) (by simp) (by simp) s d c addr fwrev
  have hport : (s.fence d c addr fwrev).port d = (s.addFence d c).port d := by rw [State.port, hports]; rfl
  rw [hport]
  refine ⟨s.addFence_mem d c, by rw [State.addFence, State.port_modPort], State.fence_keeps State.prog (by simp) (by simp) (by simp) s d c addr fwrev, ?_⟩
  exact State.fence_keeps (fun s => s.oq p) (fun s kind site who d => State.logFault_oq s p kind site who d) (fun s fn v => State.vector_oq s fn v p)
    (fun s u n => congrArg HostPort.oq (State.fire_host s u n p)) s d c addr fwrev

/-! #### The orders -/

theorem allZero_fields {b : Bytes} {fields : List (Nat × Nat × Bool)} (hin : ∀ f ∈ fields, f.2.2 = true) {off n : Nat}
    (hz : allZero (bslice b off n) = true) (hend : off + n = 128) (hused : ∀ i, 16 ≤ i → i < off → ∃ f ∈ fields, f.1 ≤ i ∧ i < f.1 + f.2.1) :
    firstBad b fields = none := by
  refine firstBad_none hin fun i h1 h2 => ?_
  by_cases hi : i < off
  · exact .inl (hused i h1 hi)
  · exact .inr (byteAt_of_allZero hz (by omega) (by omega))

theorem portOf_eq {b : Bytes} {d : DPort} (h : (byteAt b 0x10).toNat = d.val) : portOf b = d :=
  Fin.ext (by show (byteAt b 0x10).toNat % 96 = d.val; have := d.isLt; omega)

theorem portFields_good {b : Bytes} {d : DPort} (h : (byteAt b 0x10).toNat = d.val) (hz : allZero (bslice b 0x11 0x6F) = true) :
    firstBad b (portFields b) = none := by
  refine allZero_fields (fun f hf => ?_) hz rfl (fun i h1 h2 => ⟨_, List.mem_singleton_self _, h1, h2⟩)
  rw [List.mem_singleton.mp hf, h]
  exact decide_eq_true d.isLt

theorem any_liftable (l : List FenceCause) : l.any liftable = true ↔ .identity ∈ l ∨ .order ∈ l ∨ .balance ∈ l := by
  simp only [List.any_eq_true, liftable, Bool.or_eq_true, beq_iff_eq]
  constructor
  · rintro ⟨c, hc, (rfl | rfl) | rfl⟩ <;> tauto
  · rintro (h | h | h)
    · exact ⟨_, h, .inl (.inl rfl)⟩
    · exact ⟨_, h, .inl (.inr rfl)⟩
    · exact ⟨_, h, .inr rfl⟩

theorem orderStands.portEnable (h : orderStands s p b) (hfog : s.foggy = false) (hl : s.list.loaded = true) {d : DPort}
    (hd : (byteAt b 0x10).toNat = d.val) (hz : allZero (bslice b 0x11 0x6F) = true) (hop : byteAt b 1 = 0x10) :
    ((s.port d).retired = false →
        ((s.port d).fences = [] ∨ .identity ∈ (s.port d).fences ∨ .order ∈ (s.port d).fences ∨ .balance ∈ (s.port d).fences) →
        ∃ v : State, exec (.portEnable p) s = .next ((v.enablePort d).setStage p (.portUp d ((v.enablePort d).clk.now + 156250000) ((v.enablePort d).port d).fences)).settle ∧
          underWay p b .none v ∧ v.ports = s.ports ∧ v.prog = s.prog ∧ v.out = s.out) ∧
      (((s.port d).retired = true ∨ ((s.port d).fences ≠ [] ∧ .identity ∉ (s.port d).fences ∧ .order ∉ (s.port d).fences ∧ .balance ∉ (s.port d).fences)) →
        ∃ u : State, exec (.portEnable p) s = .next u.settle ∧ answers p b s.clk.hub (0x1000 + 0xC) [] s u ∧ onlyReply s u) := by
  obtain rfl := portOf_eq hd
  have hf := portFields_good hd hz
  have hport : (s.beginOrder p b).port (portOf b) = s.port (portOf b) := rfl
  refine ⟨fun hret hfen => ⟨(s.beginOrder p b).effected p, congrArg Host.Outcome.next (congrArg State.settle
      (h.run (isOpc_of hop) hf (fun _ => hl) (fun _ => hfog) (by simp) ?_)), h.begun.effected, rfl, rfl, rfl⟩, fun hbad =>
    ⟨_, rfl, h.refusedRun (n := 0xC) (isOpc_of hop) hf (fun _ => hl) (fun _ => hfog) (by simp) ?_⟩⟩
  · rw [hport]
    refine if_neg ?_
    rcases hfen with hnil | hlift
    · simp [hret, hnil]
    · simp only [hret, (any_liftable _).mpr hlift]
      simp
  · rw [hport]
    refine if_pos ?_
    rcases hbad with hret | ⟨hne, hnot⟩
    · simp [hret]
    · have hl' : (s.port (portOf b)).fences.any liftable = false := by
        rw [Bool.eq_false_iff, Ne, any_liftable]
        tauto
      simp [hl', hne]

theorem orderStands.portFence (h : orderStands s p b) (hfog : s.foggy = false) (hl : s.list.loaded = true) {d : DPort}
    (hd : (byteAt b 0x10).toNat = d.val) (hz : allZero (bslice b 0x11 0x6F) = true) (hop : byteAt b 1 = 0x11) :
    ∃ v : State, exec (.portFence p) s =
          .next ((v.allExch d (fun v g => v.abortPath d 5 g)).setStage p (.portFence d ((s.port d).exch.filter (fun e => e.2.sent)).length)).settle ∧
        .order ∈ (v.port d).fences ∧ (v.port d).exch = (s.port d).exch ∧ underWay p b .none v ∧ v.prog = s.prog := by
  obtain rfl := portOf_eq hd
  obtain ⟨hmem, hexch, hprog, hoq⟩ := ((s.beginOrder p b).effected p).fence_facts (p := p) (portOf b) .order 0 0
  refine ⟨_, congrArg Host.Outcome.next (congrArg State.settle
    (h.run (isOpc_of hop) (portFields_good hd hz) (fun _ => hl) (fun _ => hfog) (by simp) rfl)), ?_, ?_, ?_, ?_⟩
  · rw [State.port, State.firePort, State.fire_ports]
    exact hmem
  · rw [State.port, State.firePort, State.fire_ports]
    exact hexch
  · exact h.begun.effected.keeps ((State.firePort_oq _ _ _ p).trans hoq)
  · rw [State.firePort, State.fire_prog, hprog]
    rfl

theorem orderStands.pathGroupEdit (h : orderStands s p b) (hfog : s.foggy = false) (hl : s.list.loaded = true) (hop : byteAt b 1 = 0x12)
    (hf : firstBad b (s.editFields b) = none) :
    (∀ g, tfind s.list.groups (u32 b 0x10).toNat = some g → (∀ x ∈ editPaths b, ∀ h ∈ s.list.groups, x ∈ h.2.paths → h.2.cu = g.cu) →
        ∃ v : State, exec (.pathGroupEdit p) s = .next ((v.editGroup (u32 b 0x10).toNat (editPaths b)).setStage p (.groupEdit (u32 b 0x10).toNat)).settle ∧
          underWay p b .none v ∧ v.list = s.list ∧ v.ports = s.ports ∧ v.out = s.out) ∧
      (tfind s.list.groups (u32 b 0x10).toNat = none →
        ∃ u : State, exec (.pathGroupEdit p) s = .next u.settle ∧ answers p b s.clk.hub (0x1000 + 0x16) [] s u ∧ onlyReply s u) := by
  rw [← num_u32]
  refine ⟨fun g hg hcu => ⟨(s.beginOrder p b).effected p, congrArg Host.Outcome.next (congrArg State.settle
      (h.run (isOpc_of hop) hf (fun _ => hl) (fun _ => hfog) (by simp) ?_)), h.begun.effected, rfl, rfl, rfl⟩, fun hg =>
    ⟨_, rfl, h.refusedRun (n := 0x16) (isOpc_of hop) hf (fun _ => hl) (fun _ => hfog) (by simp) ?_⟩⟩
  · rw [show (s.beginOrder p b).list = s.list from rfl, hg]
    refine if_neg ?_
    simp only [List.any_eq_true, Bool.and_eq_true, bne_iff_ne, List.contains_iff_mem, not_exists, not_and]
    exact fun x hx k hk hne hmem => hne (hcu x hx k hk hmem)
  · rw [show (s.beginOrder p b).list = s.list from rfl, hg]

theorem underWay.setStage {w : State} {g : Stage} (h : underWay p b g w) (k : Stage) : underWay p b k (w.setStage p k) := by
  obtain ⟨a, ha, hopc, hpacket, -, hrest⟩ := h
  exact ⟨{ a with stage := k }, by rw [State.setStage, State.oq_modOq, ha]; rfl, hopc, hpacket, rfl, hrest⟩

theorem orderStands.loadLightList (h : orderStands s p b) (hfog : s.foggy = false) (hop : byteAt b 1 = 2) (ha : (u64 b 0x10).toNat % 64 = 0)
    (hlo : 64 ≤ (u32 b 0x18).toNat) (hhi : (u32 b 0x18).toNat ≤ 7340288) (hz : allZero (bslice b 0x1C 0x64) = true) :
    ∃ u : State, exec (.loadLightList p) s = .next u.settle ∧ underWay p b (.listRead (u64 b 0x10) (u32 b 0x18).toNat) u ∧ u.out = s.out ∧ onlyReply s u := by
  have hu64 : num b 0x10 8 = (u64 b 0x10).toNat := by
    rw [u64, BitVec.toNat_ofNat]
    exact (Nat.mod_eq_of_lt (num_lt b 0x10 8)).symm
  rw [← hu64] at ha
  rw [← num_u32] at hlo hhi ⊢
  have hf : firstBad b [(0x10, 8, num b 0x10 8 % 64 == 0), (0x18, 4, decide (64 ≤ num b 0x18 4) && decide (num b 0x18 4 ≤ 7340288))] = none := by
    refine allZero_fields (by simp [ha, hlo, hhi]) hz rfl (fun i h1 h2 => ?_)
    by_cases hi : i < 0x18
    · exact ⟨_, List.mem_cons_self, h1, hi⟩
    · exact ⟨_, List.mem_cons_of_mem _ (List.mem_singleton_self _), by omega, by omega⟩
  refine ⟨_, congrArg Host.Outcome.next (congrArg State.settle (h.run (isOpc_of hop) hf (by simp) (fun _ => hfog) (by simp) rfl)),
    h.begun.setStage _, rfl, rfl⟩

/-- An order in a stage of its work is carried out still. -/
theorem carriesOut.of_active {a : Active} (ha : (s.oq p).active = some a) (hi : a.index = (s.oq p).head) (hopc : byteAt a.packet 1 = a.opc)
    (ho : a.orphan = false) (hr : a.restarted = false) (hafter : a.after = .none) (hm : s.pfMaster p = true) (ht : s.cores.tenderUp = true) :
    carriesOut p a.packet s s :=
  ⟨⟨a, by rw [← ha], hopc.symm, rfl, hi, ho, hr, hafter⟩, hm, ht⟩

theorem carriesOut.answered (h : carriesOut p b s s) (time : W64) (status : W16) (result : Bytes) :
    answers p b time status result s (s.putReply p time status result) ∧ onlyReply s (s.putReply p time status result) :=
  ⟨h.putReply_answers _ _ _, h.putReply_onlyReply (show onlyReply s s from rfl) _ _ _⟩

/-! #### A list that has been read (R79, R94, R379) -/

theorem State.issueRead_keeps {β : Type} (s : State) (p q : HPort) (g : HostPort → β) (hlink : ∀ (h : HostPort) l t, g { h with l1 := l, txIdle := t } = g h)
    (hreads : ∀ (h : HostPort) x y, g { h with reads := x, readQ := y } = g h) (pasid) (ranges) (key : ReadKey) :
    g ((s.issueRead q pasid ranges key).host p) = g (s.host p) := by
  refine Eq.trans ?_ (s.exitL1_keeps p q g hlink)
  have h := (s.exitL1 q).modHost_keeps p q (f := fun h => { h with
    reads := h.reads ++ [⟨key, s.clk.now + h.cto, min (s.readTlps q key ranges).length h.tagsFree⟩] }) g (fun h => hreads h _ h.readQ)
  exact h

theorem State.issueWaiting_keeps {β : Type} (n : Nat) (s : State) (p q : HPort) (g : HostPort → β)
    (hlink : ∀ (h : HostPort) l t, g { h with l1 := l, txIdle := t } = g h) (hreads : ∀ (h : HostPort) x y, g { h with reads := x, readQ := y } = g h) :
    g ((State.issueWaiting n s q).host p) = g (s.host p) := by
  induction n generalizing s with
  | zero => rfl
  | succ n ih =>
    unfold State.issueWaiting
    dsimp only
    split
    · rfl
    · split
      · exact (ih _).trans ((State.issueRead_keeps _ p q g hlink hreads _ _ _).trans (s.modHost_keeps p q g (fun h => hreads h h.reads _)))
      · rfl

theorem State.endRead_keeps {β : Type} (s : State) (p q : HPort) (key : ReadKey) (g : HostPort → β)
    (hlink : ∀ (h : HostPort) l t, g { h with l1 := l, txIdle := t } = g h) (hreads : ∀ (h : HostPort) x y, g { h with reads := x, readQ := y } = g h) :
    g ((s.endRead q key).host p) = g (s.host p) :=
  (State.issueWaiting_keeps _ _ p q g hlink hreads).trans (s.modHost_keeps p q g (fun h => hreads h _ h.readQ))

theorem State.endRead_pfMaster (s : State) (p q : HPort) (key : ReadKey) : (s.endRead q key).pfMaster p = s.pfMaster p :=
  s.endRead_keeps p q key (fun h => h.alive && !h.pf.d3 && h.pf.bme) (fun _ _ _ => rfl) (fun _ _ _ => rfl)

theorem State.endRead_onlyReply (s : State) (q : HPort) (key : ReadKey) : onlyReply s (s.endRead q key) :=
  (congrArg (fun v : State => { v with orders := s.orders, power := s.power }) (s.endRead_frame q key) :)

theorem carriesOut.endRead (h : carriesOut p b s s) (key : ReadKey) : carriesOut p b s (s.endRead p key) :=
  h.keepsRing (s.endRead_oq p p key) (s.endRead_pfMaster p p key) (s.endRead_cores p key)

theorem State.endRead_listCheck (b : Bytes) : (s.endRead p (.lightList p)).listCheck b = s.listCheck b :=
  (congrArg (fun v : State => v.listCheck b) (s.endRead_frame p (.lightList p)) :)

section
variable {a : Active} {addr : W64} {len : Nat} (ha : (s.oq p).active = some a) (hst : a.stage = .listRead addr len)
  (hopen : s.readOpen p (.lightList p) = true) (got : Bytes)
include ha hst hopen

theorem State.listRead_short : s.listRead p got false =
    ((s.endRead p (.lightList p)).putReply p s.clk.hub 0x300E (listResult got.length (llDigest got))).settle := by
  unfold State.listRead
  rw [ha]
  dsimp only
  rw [hst]
  dsimp only
  rw [hopen, State.endRead_clk, if_neg (by simp), if_pos (by simp)]

theorem State.listRead_rejected {reason off : Nat} (hlen : got.length = len) (hc : s.listCheck got = some (reason, off)) :
    s.listRead p got true =
      ((s.endRead p (.lightList p)).putReply p s.clk.hub (BitVec.ofNat 16 (0x3000 + reason)) (listResult off (llDigest got))).settle := by
  unfold State.listRead
  rw [ha]
  dsimp only
  rw [hst]
  dsimp only
  rw [hopen, padTo_full hlen, State.endRead_listCheck, hc, State.endRead_clk, if_neg (by simp), if_neg (by simp)]

theorem State.listRead_taken (hlen : got.length = len) (hc : s.listCheck got = none) :
    s.listRead p got true = (((((s.endRead p (.lightList p)).applyList got).1.effected p).onceReplied p
        (.waves (!s.list.loaded) ((s.endRead p (.lightList p)).applyList got).2)).done p (listResult 0 (llDigest got))).settle := by
  unfold State.listRead
  rw [ha]
  dsimp only
  rw [hst]
  dsimp only
  rw [hopen, padTo_full hlen, State.endRead_listCheck, hc, State.endRead_list, if_neg (by simp), if_neg (by simp)]

end

theorem tfind_map_index {α : Type} (f : Nat → α) {l : List Nat} {k : Nat} (hk : k ∈ l) : tfind (l.map (fun c => (c, f c))) k = some (f k) := by
  induction l with
  | nil => exact absurd hk List.not_mem_nil
  | cons x l ih =>
    rw [List.map_cons, tfind]
    split
    · next h => exact congrArg (fun y => some (f y)) h
    · next h => exact ih ((List.mem_cons.mp hk).resolve_left fun e => h e.symm)

end

/-- Settles O40, order by order. -/
theorem portAndListOrders : Obligations.PortAndListOrders := by
  refine ⟨fun p b d s h hfog => ⟨fun hl hd hz => ⟨fun hop hret hfen => ?_, fun hop hbad => ?_, fun hop => h.portFence hfog hl hd hz hop⟩,
      fun hl hop hf => h.pathGroupEdit hfog hl hop hf, fun hop ha hlo hhi hz => h.loadLightList hfog hop ha hlo hhi hz⟩,
    fun p a d deadline left s ha hi hopc ho hr hafter hm ht hst hle => ?_,
    fun p a addr len got s ha hi hopc ho hr hafter hm ht hst hopen => ?_, fun b s hb => ?_⟩
  · exact (h.portEnable hfog hl hd hz hop).1 hret hfen
  · exact (h.portEnable hfog hl hd hz hop).2 hbad
  · have hc := carriesOut.of_active ha hi hopc ho hr hafter hm ht
    refine ⟨_, congrArg Host.Outcome.next (show doPortEnableTimeout p s = _ from ?_), hc.answered _ _ _⟩
    rw [doPortEnableTimeout, ha]
    dsimp only
    rw [hst]
    exact if_pos hle
  · have hc := (carriesOut.of_active ha hi hopc ho hr hafter hm ht).endRead (.lightList p)
    refine ⟨⟨_, congrArg Host.Outcome.next (s.listRead_short ha hst hopen got), ?_⟩, fun hlen reason off hcheck =>
      ⟨_, congrArg Host.Outcome.next (s.listRead_rejected ha hst hopen got hlen hcheck), ?_⟩, fun hlen hcheck =>
      ⟨s.endRead p (.lightList p), ?_, s.endRead_oq p p _, congrArg Host.Outcome.next (s.listRead_taken ha hst hopen got hlen hcheck)⟩⟩
    · exact ⟨hc.putReply_answers _ _ _, hc.putReply_onlyReply (s.endRead_onlyReply p _) _ _ _⟩
    · exact ⟨hc.putReply_answers _ _ _, hc.putReply_onlyReply (s.endRead_onlyReply p _) _ _ _⟩
    · have hframe := s.endRead_frame p (.lightList p)
      generalize s.endRead p (.lightList p) = v at hframe
      rw [← hframe]
  · have hmode : llAmend b = false := by rw [llAmend, hb]; rfl
    refine ⟨rfl, rfl, ?_, ?_, fun c hc => ?_, rfl⟩
    · show (if llAmend b && num b 0x18 2 == 0 then _ else u16 b 0x18) = _
      rw [hmode]
      rfl
    · show (if llAmend b && num b 0x1A 2 == 0 then _ else u16 b 0x1A) = _
      rw [hmode]
      rfl
    · exact tfind_map_index (fun c => llCage b c) (List.mem_range.mpr hc)

end Sys2Proof.Machine

namespace Sys2Proof.Machine
open Sys2Proof

/-! ### Orders about policy, signatures, sites and the fault log (R391-R396, R479) -/

section
variable {s : State} {p : HPort} {b : Bytes}

theorem num_u64 (b : Bytes) (n : Nat) : num b n 8 = (u64 b n).toNat := by
  rw [u64, BitVec.toNat_ofNat]
  exact (Nat.mod_eq_of_lt (num_lt b n 8)).symm

/-- An order of the module, in no fog where fog refuses it. -/
theorem orderStands.runModule (h : orderStands s p b) {n : Byte} (hn : byteAt b 1 = n) {fields : Bytes → List (Nat × Nat × Bool)} {fogOk : Bool}
    (hf : firstBad b (fields b) = none) (hfog : fogOk = false → s.foggy = false) {refusal : State → Bytes → Option Nat}
    (hr : refusal (s.beginOrder p b) b = none) (act : State → Bytes → State) :
    s.runOrder p (isOpc n) fields false fogOk none refusal act = act (s.beginOrder p b) b :=
  h.run (isOpc_of hn) hf (by simp) hfog (by simp) hr

theorem orderStands.refusedModule (h : orderStands s p b) {n : Byte} (hn : byteAt b 1 = n) {fields : Bytes → List (Nat × Nat × Bool)} {fogOk : Bool}
    (hf : firstBad b (fields b) = none) (hfog : fogOk = false → s.foggy = false) {refusal : State → Bytes → Option Nat} {act : State → Bytes → State} {r : Nat}
    (hr : refusal (s.beginOrder p b) b = some r) :
    answers p b s.clk.hub (BitVec.ofNat 16 (0x1000 + r)) [] s (s.runOrder p (isOpc n) fields false fogOk none refusal act) ∧
      onlyReply s (s.runOrder p (isOpc n) fields false fogOk none refusal act) :=
  h.refusedRun (isOpc_of hn) hf (by simp) hfog (by simp) hr

theorem orderStands.badModule (h : orderStands s p b) {n : Byte} (hn : byteAt b 1 = n) {fields : Bytes → List (Nat × Nat × Bool)} {off : Nat}
    (hf : firstBad b (fields b) = some off) {list fogOk : Bool} {tenant : Option Nat} {refusal : State → Bytes → Option Nat} {act : State → Bytes → State} :
    answers p b s.clk.hub (BitVec.ofNat 16 (0x2000 + off)) [] s (s.runOrder p (isOpc n) fields list fogOk tenant refusal act) ∧
      onlyReply s (s.runOrder p (isOpc n) fields list fogOk tenant refusal act) := by
  have ⟨hs, hturn, _, hv, hh⟩ := h
  rw [s.runOrder_bad p b off _ _ _ _ _ _ _ hs hturn (isOpc_of hn) hv hh hf]
  exact h.putReply_beginOrder _ _

/-- R373: with the first parameter out of range, the rest in range and the reserved bytes zero, the first is the offending one. -/
theorem firstBad_head {b : Bytes} {off n : Nat} {fields : List (Nat × Nat × Bool)} (hin : ∀ f ∈ fields, f.2.2 = true)
    (hz : ∀ i, 16 ≤ i → i < 128 → (off ≤ i ∧ i < off + n) ∨ (∃ f ∈ fields, f.1 ≤ i ∧ i < f.1 + f.2.1) ∨ byteAt b i = 0) :
    firstBad b ((off, n, false) :: fields) = some off := by
  have hbad : ((off, n, false) :: fields).filter (fun f => !f.2.2) = [(off, n, false)] := by
    rw [List.filter_cons_of_pos (by rfl), List.filter_eq_nil_iff.mpr (by simpa using hin)]
  have hrsv : (List.range 112).find?
      (fun i => !((off, n, false) :: fields).any (fun f => f.1 ≤ 16 + i && 16 + i < f.1 + f.2.1) && byteAt b (16 + i) != 0) = none := by
    rw [List.find?_eq_none]
    intro i hi
    have hi : i < 112 := List.mem_range.mp hi
    rcases hz (16 + i) (by omega) (by omega) with ⟨h1, h2⟩ | ⟨f, hf, h1, h2⟩ | h0
    · simp [h1, h2]
    · have hused : fields.any (fun f => f.1 ≤ 16 + i && 16 + i < f.1 + f.2.1) = true := List.any_eq_true.mpr ⟨f, hf, by simp [h1, h2]⟩
      simp [hused]
    · simp [h0]
  simp only [firstBad, hbad, hrsv, List.map_cons, List.map_nil, Option.map_none, Option.toList_none, List.append_nil, List.foldl_cons, List.foldl_nil]

/-! #### SET-SUPPLY-POLICY (R391) -/

theorem State.rethrottle_keeps {β : Type} (g : State → β) (hp : ∀ (s : State) d f, g (s.modPort d f) = g s) (s : State) : g s.rethrottle = g s := by
  refine foldl_keeps g (fun s d => ?_) _ _
  split
  · rfl
  · exact hp s d _

/-- The policy that a packet sets (R391, log 63). -/
def Power.withPolicy (b : Bytes) (x : Power) : Power :=
  { x with
    plimit := u16 b 0x10, shed := (byteAt b 0x12).getLsbD 0, overSince := if u16 b 0x10 = 0 then none else x.overSince
    underSince := if u16 b 0x10 = 0 then none else x.underSince }

/-- A limit of 0 ends the hold. -/
def State.policySet (s : State) (b : Bytes) : State :=
  let s := s.onPower (Power.withPolicy b)
  if u16 b 0x10 = 0 && s.power.throttle then ((s.onPower (fun x => { x with throttle := false })).rethrottle).pfVector 4 else s

theorem State.unthrottled_keeps {β : Type} (g : State → β) (hport : ∀ (s : State) d f, g (s.modPort d f) = g s) (hv : ∀ (s : State) fn v, g (s.vector fn v) = g s)
    (s : State) : g (s.rethrottle.pfVector 4) = g s :=
  (hv _ _ _).trans ((hv _ _ _).trans (State.rethrottle_keeps g hport s))

theorem State.policySet_facts (s : State) (b : Bytes) :
    (s.policySet b).power.plimit = u16 b 0x10 ∧ (s.policySet b).power.shed = (byteAt b 0x12).getLsbD 0 ∧
      (u16 b 0x10 ≠ 0 → s.policySet b = s.onPower (Power.withPolicy b)) ∧ (u16 b 0x10 = 0 → (s.policySet b).power.throttle = false) ∧
      (s.policySet b).clk = s.clk ∧ (s.policySet b).cores = s.cores ∧ (s.policySet b).oq p = s.oq p ∧ (s.policySet b).pfMaster p = s.pfMaster p := by
  unfold State.policySet
  dsimp only
  split
  · next hc =>
    have keep := fun {β : Type} (g : State → β) hport hv =>
      State.unthrottled_keeps g hport hv ((s.onPower (Power.withPolicy b)).onPower (fun x => { x with throttle := false }))
    have hpower := keep State.power (fun _ _ _ => rfl) (by simp)
    rw [hpower]
    refine ⟨rfl, rfl, fun h0 => ?_, fun _ => rfl, keep State.clk (fun _ _ _ => rfl) (by simp), keep State.cores (fun _ _ _ => rfl) (by simp),
      keep (fun s => s.oq p) (fun _ _ _ => rfl) (fun s fn v => s.vector_oq fn v p),
      keep (fun s => s.pfMaster p) (fun _ _ _ => rfl) (fun s fn v => s.vector_pfMaster fn v p)⟩
    rw [Bool.and_eq_true, decide_eq_true_eq] at hc
    exact absurd hc.1 h0
  · next hc => exact ⟨rfl, rfl, fun _ => rfl, fun h0 => by simpa [h0] using hc, rfl, rfl, rfl, rfl⟩

theorem orderStands.setSupplyPolicy (h : orderStands s p b) (hop : byteAt b 1 = 0x22) (hfog : s.foggy = false)
    (hw : (u16 b 0x10).toNat = 0 ∨ (190 ≤ (u16 b 0x10).toNat ∧ (u16 b 0x10).toNat ≤ 330)) (hshed : (byteAt b 0x12).toNat ≤ 1)
    (hz : allZero (bslice b 0x13 0x6D) = true) :
    ∃ u : State, exec (.setSupplyPolicy p) s = .next u.settle ∧
        answers p b s.clk.hub 0 (le 2 s.power.plimit.toNat ++ [if s.power.shed then 1 else 0]) s u ∧ u.power.plimit = u16 b 0x10 ∧
        u.power.shed = (byteAt b 0x12).getLsbD 0 ∧ ((u16 b 0x10).toNat ≠ 0 → u.power.throttle = s.power.throttle ∧ u.ports = s.ports) ∧
        ((u16 b 0x10).toNat = 0 → u.power.throttle = false) := by
  have hf : firstBad b [(0x10, 2, num b 0x10 2 == 0 || (decide (190 ≤ num b 0x10 2) && decide (num b 0x10 2 ≤ 330))),
      (0x12, 1, decide ((byteAt b 0x12).toNat ≤ 1))] = none := by
    refine allZero_fields (by simpa [num_u16, hshed] using hw) hz rfl (fun i h1 h2 => ?_)
    by_cases hi : i < 0x12
    · exact ⟨_, List.mem_cons_self, h1, hi⟩
    · exact ⟨_, List.mem_cons_of_mem _ (List.mem_singleton_self _), by omega, by omega⟩
  obtain ⟨hlimit, hsh, hkept, hended, hclk, hcores, hoq, hmaster⟩ := (s.beginOrder p b).policySet_facts b (p := p)
  have hc : carriesOut p b s (((s.beginOrder p b).policySet b).effected p) := (h.beginOrder.keepsRing hoq hmaster hcores).effected
  have hframe := hc.putReply_frame s.clk.hub 0 (le 2 s.power.plimit.toNat ++ [BitVec.ofNat 8 (bnat s.power.shed)])
  have hdo : doSetSupplyPolicy p s = ((((s.beginOrder p b).policySet b).effected p).putReply p s.clk.hub 0
      (le 2 s.power.plimit.toNat ++ [BitVec.ofNat 8 (bnat s.power.shed)])).settle := by
    rw [doSetSupplyPolicy, h.runModule hop hf (fun _ => hfog) rfl, show s.clk.hub = ((s.beginOrder p b).policySet b).clk.hub by rw [hclk]; rfl]
    rfl
  have hpower := (congrArg State.power hframe :)
  refine ⟨_, congrArg Host.Outcome.next hdo, ?_, ?_, ?_, fun h0 => ⟨?_, ?_⟩, fun h0 => ?_⟩
  · rw [← byteOf_bnat]
    exact hc.putReply_answers _ _ _
  · rw [hpower]; exact hlimit
  · rw [hpower]; exact hsh
  · rw [hpower]
    refine (congrArg (fun v : State => v.power.throttle) (hkept (fun e => h0 (by rw [e]; rfl))) :).trans rfl
  · refine (congrArg State.ports hframe :).trans ?_
    exact (congrArg State.ports (hkept (fun e => h0 (by rw [e]; rfl))) :).trans rfl
  · rw [hpower]; exact hended (BitVec.eq_of_toNat_eq h0)

/-! #### READ-SIGNATURE (R393) -/

/-- The signature that a packet names. -/
def signatureKey (b : Bytes) : Nat := 2 * (byteAt b 0x10).toNat + (byteAt b 0x11).toNat - 1

theorem doReadSignature_eq (p : HPort) (s : State) : doReadSignature p s =
    (s.runOrder p (isOpc 0x31) (fun b => [(0x10, 1, (byteAt b 0x10).toNat ≤ 61), (0x11, 1, byteAt b 0x11 == 1 || byteAt b 0x11 == 2)]) false true none
      (fun s b => if (tfind s.fw.sigs (signatureKey b)).isNone then some 0x18 else none)
      (fun s b => match tfind s.fw.sigs (signatureKey b) with
        | some h => s.done p (le 8 h.misr.toNat ++ le 8 h.time.toNat ++ le 4 h.release.toNat)
        | none => s)).settle := rfl

theorem orderStands.readSignature (h : orderStands s p b) (hop : byteAt b 1 = 0x31) (hdom : (byteAt b 0x10).toNat ≤ 61)
    (hkind : byteAt b 0x11 = 1 ∨ byteAt b 0x11 = 2) (hz : allZero (bslice b 0x12 0x6E) = true) :
    let key := 2 * (byteAt b 0x10).toNat + (if byteAt b 0x11 = 2 then 1 else 0)
    (∀ h, tfind s.fw.sigs key = some h → ∃ u : State, exec (.readSignature p) s = .next u.settle ∧
        answers p b s.clk.hub 0 (le 8 h.misr.toNat ++ le 8 h.time.toNat ++ le 4 h.release.toNat) s u ∧ onlyReply s u) ∧
      (tfind s.fw.sigs key = none → ∃ u : State, exec (.readSignature p) s = .next u.settle ∧ answers p b s.clk.hub (0x1000 + 0x18) [] s u ∧ onlyReply s u) := by
  intro key
  have hf : firstBad b [(0x10, 1, decide ((byteAt b 0x10).toNat ≤ 61)), (0x11, 1, byteAt b 0x11 == 1 || byteAt b 0x11 == 2)] = none := by
    have hk : (byteAt b 0x11 == 1 || byteAt b 0x11 == 2) = true := by rcases hkind with hk | hk <;> rw [hk] <;> rfl
    refine allZero_fields (by simp only [List.forall_mem_cons, hk, hdom]; simp) hz rfl (fun i h1 h2 => ?_)
    by_cases hi : i < 0x11
    · exact ⟨_, List.mem_cons_self, h1, hi⟩
    · exact ⟨_, List.mem_cons_of_mem _ (List.mem_singleton_self _), by omega, by omega⟩
  have hkey : signatureKey b = key := by
    rw [signatureKey]
    rcases hkind with hk | hk <;> simp [key, hk]
  refine ⟨fun x hx => ?_, fun hx => ?_⟩
  · have hdo : doReadSignature p s = ((s.beginOrder p b).done p (le 8 x.misr.toNat ++ le 8 x.time.toNat ++ le 4 x.release.toNat)).settle := by
      rw [doReadSignature_eq, h.runModule hop hf (by simp) (by rw [hkey, show (s.beginOrder p b).fw = s.fw from rfl, hx]; rfl), hkey,
        show (s.beginOrder p b).fw = s.fw from rfl, hx]
    exact ⟨_, congrArg Host.Outcome.next hdo, h.putReply_beginOrder _ _⟩
  · refine ⟨_, congrArg Host.Outcome.next (doReadSignature_eq p s), h.refusedModule (r := 0x18) hop hf (by simp) ?_⟩
    rw [hkey, show (s.beginOrder p b).fw = s.fw from rfl, hx]
    rfl

/-! #### SET-FAULT-WINDOW (R394) -/

/-- The answer of an order whose work is on the fault records alone. -/
theorem orderStands.done_faults (h : orderStands s p b) (f : Faults → Faults) (result : Bytes) :
    let u := (((s.beginOrder p b).onFaults f).effected p).done p result
    answers p b s.clk.hub 0 result s u ∧ u.faults = f s.faults := by
  obtain ⟨hans, hframe⟩ := h.done_work (v := (s.beginOrder p b).onFaults f) rfl rfl result
  exact ⟨hans, (congrArg State.faults hframe :)⟩

theorem tget_map {α : Type} (d : α) (f : α → α) (hd : f d = d) (t : Table α) (k : Nat) : tget d (t.map (fun x => (x.1, f x.2))) k = f (tget d t k) := by
  induction t with
  | nil => exact hd.symm
  | cons x t ih =>
    rw [List.map_cons, tget, tget, tfind, tfind]
    split
    · rfl
    · exact ih

/-- The windows that a packet sets. -/
def Faults.withWindow (b : Bytes) (f : Faults) : Faults :=
  if (byteAt b 0x14).getLsbD 0 then { f with dflt := ((byteAt b 0x15).toNat, num b 0x18 4), windows := f.windows.map (fun w => (w.1, { w.2 with own := none })) }
  else { f with windows := tmod {} f.windows (u32 b 0x10).toNat (fun w => { w with own := some ((byteAt b 0x15).toNat, num b 0x18 4) }) }

theorem doSetFaultWindow_eq (p : HPort) (s : State) : doSetFaultWindow p s =
    (s.runOrder p (isOpc 0x40) (fun b =>
      [(0x10, 4, if (byteAt b 0x14).getLsbD 0 then num b 0x10 4 == 0 else siteNamed (u32 b 0x10)), (0x14, 1, (byteAt b 0x14).toNat ≤ 1), (0x15, 1, byteAt b 0x15 != 0),
        (0x18, 4, 1 ≤ num b 0x18 4 && num b 0x18 4 ≤ 86400)]) false false none noRefusal (fun s b =>
      ((s.onFaults (Faults.withWindow b)).effected p).done p
        ([BitVec.ofNat 8 (if (byteAt b 0x14).getLsbD 0 then s.faults.dflt else s.windowOf (u32 b 0x10)).1, 0, 0, 0] ++
          le 4 (if (byteAt b 0x14).getLsbD 0 then s.faults.dflt else s.windowOf (u32 b 0x10)).2))).settle := rfl

theorem orderStands.setFaultWindow (h : orderStands s p b) (hop : byteAt b 1 = 0x40) (hfog : s.foggy = false) (ht : byteAt b 0x15 ≠ 0)
    (hlo : 1 ≤ (u32 b 0x18).toNat) (hhi : (u32 b 0x18).toNat ≤ 86400) (hz1 : allZero (bslice b 0x16 2) = true)
    (hz2 : allZero (bslice b 0x1C 0x64) = true) :
      (byteAt b 0x14 = 0 → siteNamed (u32 b 0x10) = false → ∃ u : State, exec (.setFaultWindow p) s = .next u.settle ∧
        answers p b s.clk.hub 0x2010 [] s u ∧ onlyReply s u) ∧
      (byteAt b 0x14 = 0 → siteNamed (u32 b 0x10) = true → ∃ u : State, exec (.setFaultWindow p) s = .next u.settle ∧
        answers p b s.clk.hub 0 ([BitVec.ofNat 8 (s.windowOf (u32 b 0x10)).1, 0, 0, 0] ++ le 4 (s.windowOf (u32 b 0x10)).2) s u ∧
        u.windowOf (u32 b 0x10) = ((byteAt b 0x15).toNat, (u32 b 0x18).toNat) ∧ (∀ x, x ≠ u32 b 0x10 → u.windowOf x = s.windowOf x) ∧
        (∀ x, (tget {} u.faults.windows x).times = (tget {} s.faults.windows x).times) ∧ u.faults.dflt = s.faults.dflt) ∧
      (byteAt b 0x14 = 1 → u32 b 0x10 = 0 → ∃ u : State, exec (.setFaultWindow p) s = .next u.settle ∧
        answers p b s.clk.hub 0 ([BitVec.ofNat 8 s.faults.dflt.1, 0, 0, 0] ++ le 4 s.faults.dflt.2) s u ∧
        ∀ x, u.windowOf x = ((byteAt b 0x15).toNat, (u32 b 0x18).toNat)) := by
  have ht' : (byteAt b 0x15 != 0) = true := bne_iff_ne.mpr ht
  have hrest : (byteAt b 0x14).toNat ≤ 1 → ∀ f ∈ [((0x14 : Nat), (1 : Nat), decide ((byteAt b 0x14).toNat ≤ 1)), (0x15, 1, byteAt b 0x15 != 0),
      (0x18, 4, decide (1 ≤ num b 0x18 4) && decide (num b 0x18 4 ≤ 86400))], f.2.2 = true := by
    intro hall
    rw [num_u32, ht', decide_eq_true hall, decide_eq_true hlo, decide_eq_true hhi]
    simp
  have hspan : ∀ i, 16 ≤ i → i < 128 → (0x10 ≤ i ∧ i < 0x10 + 4) ∨ (∃ f ∈ [((0x14 : Nat), (1 : Nat), decide ((byteAt b 0x14).toNat ≤ 1)),
      (0x15, 1, byteAt b 0x15 != 0), (0x18, 4, decide (1 ≤ num b 0x18 4) && decide (num b 0x18 4 ≤ 86400))], f.1 ≤ i ∧ i < f.1 + f.2.1) ∨ byteAt b i = 0 := by
    intro i h1 h2
    simp only [List.mem_cons, List.not_mem_nil, or_false, exists_eq_or_imp, exists_eq_left]
    by_cases hi : i < 0x16
    · omega
    · by_cases hi' : i < 0x18
      · exact .inr (.inr (byteAt_of_allZero hz1 (by omega) (by omega)))
      · by_cases hi'' : i < 0x1C
        · omega
        · exact .inr (.inr (byteAt_of_allZero hz2 (by omega) (by omega)))
  have hgood : (byteAt b 0x14).toNat ≤ 1 → (if (byteAt b 0x14).getLsbD 0 then num b 0x10 4 == 0 else siteNamed (u32 b 0x10)) = true →
      firstBad b [(0x10, 4, if (byteAt b 0x14).getLsbD 0 then num b 0x10 4 == 0 else siteNamed (u32 b 0x10)), (0x14, 1, (byteAt b 0x14).toNat ≤ 1),
        (0x15, 1, byteAt b 0x15 != 0), (0x18, 4, 1 ≤ num b 0x18 4 && num b 0x18 4 ≤ 86400)] = none := by
    intro hall hsite
    refine firstBad_none (List.forall_mem_cons.mpr ⟨hsite, hrest hall⟩) fun i h1 h2 => ?_
    rcases hspan i h1 h2 with ⟨ha, hb⟩ | ⟨f, hf, hb⟩ | h0
    · exact .inl ⟨_, List.mem_cons_self, ha, hb⟩
    · exact .inl ⟨f, List.mem_cons_of_mem _ hf, hb⟩
    · exact .inr h0
  refine ⟨fun hall hsite => ⟨_, congrArg Host.Outcome.next (doSetFaultWindow_eq p s), h.badModule (off := 0x10) hop ?_⟩, fun hall hsite => ?_, fun hall hsite => ?_⟩
  · rw [show (byteAt b 0x14).getLsbD 0 = false by rw [hall]; rfl, if_neg (by simp), hsite]
    exact firstBad_head (hrest (by rw [hall]; decide)) hspan
  · have hbit : (byteAt b 0x14).getLsbD 0 = false := by rw [hall]; rfl
    have hdo := doSetFaultWindow_eq p s
    rw [h.runModule hop (hgood (by rw [hall]; decide) (by rw [hbit]; exact hsite)) (fun _ => hfog) rfl] at hdo
    simp only [hbit, Bool.false_eq_true, if_false, show (s.beginOrder p b).windowOf (u32 b 0x10) = s.windowOf (u32 b 0x10) from rfl] at hdo
    obtain ⟨hans, hfaults⟩ := h.done_faults (Faults.withWindow b) ([BitVec.ofNat 8 (s.windowOf (u32 b 0x10)).1, 0, 0, 0] ++ le 4 (s.windowOf (u32 b 0x10)).2)
    have hwin : Faults.withWindow b s.faults = { s.faults with
        windows := tmod {} s.faults.windows (u32 b 0x10).toNat (fun w => { w with own := some ((byteAt b 0x15).toNat, num b 0x18 4) }) } := by
      rw [Faults.withWindow, hbit]; rfl
    rw [hwin] at hfaults
    refine ⟨_, congrArg Host.Outcome.next hdo, hans, ?_, fun x hx => ?_, fun x => ?_, ?_⟩
    · rw [State.windowOf, hfaults, tget_tmod_same, ← num_u32 b 0x18]
      rfl
    · rw [State.windowOf, hfaults, tget_tmod_ne _ _ _ _ _ (fun e => hx (BitVec.eq_of_toNat_eq e))]
      rfl
    · rw [hfaults]
      by_cases e : x = (u32 b 0x10).toNat
      · rw [e, tget_tmod_same]
      · rw [tget_tmod_ne _ _ _ _ _ e]
    · rw [hfaults]
  · have hbit : (byteAt b 0x14).getLsbD 0 = true := by rw [hall]; rfl
    have hdo := doSetFaultWindow_eq p s
    rw [h.runModule hop (hgood (by rw [hall]; decide) (by rw [hbit, num_u32, hsite]; rfl)) (fun _ => hfog) rfl] at hdo
    simp only [hbit, if_true, show (s.beginOrder p b).faults = s.faults from rfl] at hdo
    obtain ⟨hans, hfaults⟩ := h.done_faults (Faults.withWindow b) ([BitVec.ofNat 8 s.faults.dflt.1, 0, 0, 0] ++ le 4 s.faults.dflt.2)
    have hwin : Faults.withWindow b s.faults = { s.faults with
        dflt := ((byteAt b 0x15).toNat, num b 0x18 4), windows := s.faults.windows.map (fun w => (w.1, { w.2 with own := none })) } := by
      rw [Faults.withWindow, hbit]; rfl
    rw [hwin] at hfaults
    refine ⟨_, congrArg Host.Outcome.next hdo, hans, fun x => ?_⟩
    rw [State.windowOf, hfaults, ← num_u32 b 0x18]
    have hown := congrArg SiteWin.own (tget_map {} (fun w => { w with own := none }) rfl s.faults.windows x.toNat)
    exact congrArg (fun y => Option.getD y _) hown

/-! #### READ-FAULT-LOG (R395) -/

theorem State.writeRun_facts (p : HPort) (n : Nat) (s : State) (a : W64) (d : Bytes) :
    { State.writeRun p n s a d with out := s.out, hosts := s.hosts } = s ∧ (State.writeRun p n s a d).oq p = s.oq p ∧
      (State.writeRun p n s a d).pfMaster p = s.pfMaster p := by
  induction n generalizing s a d with
  | zero => exact ⟨rfl, rfl, rfl⟩
  | succ n ih =>
    unfold State.writeRun
    split
    · exact ⟨rfl, rfl, rfl⟩
    · obtain ⟨hf, hq, hm⟩ := ih (s.sendWrite p none a (d.take (s.host p).mps)) (a + BitVec.ofNat 64 (s.host p).mps) (d.drop (s.host p).mps)
      exact ⟨(congrArg (fun v : State => { v with out := s.out, hosts := s.hosts }) hf :), hq.trans (s.exitL1_keeps p p HostPort.oq (fun _ _ _ => rfl)),
        hm.trans (s.exitL1_keeps p p (fun h => h.alive && !h.pf.d3 && h.pf.bme) (fun _ _ _ => rfl))⟩

/-- The buffer written, and the read of its last bytes (R395, R500). -/
def State.logWritten (s : State) (p : HPort) (b : Bytes) : State :=
  let buf := u64 b 0x10
  let l := s.faults.wanted (u32 b 0x18) (num b 0x1C 4)
  let s := State.writeRun p 0x1840 s buf s.counterBytes
  let s := State.writeRun p 0x1000 s (buf + 0x2000) (l.flatMap entryBytes)
  (s.exitL1 p).emit (.hostRead p none (if l.isEmpty then buf + 0x183C else buf + 0x2000 + BitVec.ofNat 64 (32 * l.length - 4)) 4 (.faultLog p))

theorem State.logWritten_facts (s : State) (p : HPort) (b : Bytes) :
    { s.logWritten p b with out := s.out, hosts := s.hosts } = s ∧ (s.logWritten p b).oq p = s.oq p ∧ (s.logWritten p b).pfMaster p = s.pfMaster p := by
  unfold State.logWritten
  dsimp only
  generalize hv : State.writeRun p 0x1840 s (u64 b 0x10) s.counterBytes = v
  generalize hw : State.writeRun p 0x1000 v (u64 b 0x10 + 0x2000) ((s.faults.wanted (u32 b 0x18) (num b 0x1C 4)).flatMap entryBytes) = w
  obtain ⟨hvf, hvq, hvm⟩ := State.writeRun_facts p 0x1840 s (u64 b 0x10) s.counterBytes
  obtain ⟨hwf, hwq, hwm⟩ := State.writeRun_facts p 0x1000 v (u64 b 0x10 + 0x2000) ((s.faults.wanted (u32 b 0x18) (num b 0x1C 4)).flatMap entryBytes)
  rw [hv] at hvf hvq hvm
  rw [hw] at hwf hwq hwm
  refine ⟨?_, ?_, ?_⟩
  · exact (congrArg (fun v : State => { v with out := s.out, hosts := s.hosts }) hwf :).trans hvf
  · exact (w.exitL1_keeps p p HostPort.oq (fun _ _ _ => rfl)).trans (hwq.trans hvq)
  · exact (w.exitL1_keeps p p (fun h => h.alive && !h.pf.d3 && h.pf.bme) (fun _ _ _ => rfl)).trans (hwm.trans hvm)

/-- The counters read are cleared. -/
def State.countersCleared (s : State) : State := (List.finRange 96).foldl (fun s d => s.slpClear d none) (s.smcClear none)

theorem State.slpClear_all (l : List DPort) (s : State) :
    { l.foldl (fun s d => s.slpClear d none) s with ports := s.ports } = s ∧
      ∀ d : DPort, ((l.foldl (fun s d => s.slpClear d none) s).port d).link = (s.port d).link ∧
        (d ∈ l ∨ ((s.port d).stale = 0 ∧ (s.port d).frmerr = 0 ∧ (s.port d).retrains = 0) →
          ((l.foldl (fun s d => s.slpClear d none) s).port d).stale = 0 ∧ ((l.foldl (fun s d => s.slpClear d none) s).port d).frmerr = 0 ∧
            ((l.foldl (fun s d => s.slpClear d none) s).port d).retrains = 0) := by
  induction l generalizing s with
  | nil => exact ⟨rfl, fun d => ⟨rfl, fun h => h.resolve_left List.not_mem_nil⟩⟩
  | cons x l ih =>
    obtain ⟨hf, hd⟩ := ih (s.slpClear x none)
    refine ⟨(congrArg (fun v : State => { v with ports := s.ports }) hf :), fun d => ?_⟩
    obtain ⟨hlink, hclr⟩ := hd d
    by_cases e : d = x
    · subst e
      have hport : (s.slpClear d none).port d = _ := s.port_modPort d _
      refine ⟨hlink.trans (by rw [hport]), fun _ => hclr (.inr ?_)⟩
      rw [hport]
      exact ⟨rfl, rfl, rfl⟩
    · have hport : (s.slpClear x none).port d = s.port d := s.port_modPort_ne x d _ e
      rw [hport] at hlink hclr
      exact ⟨hlink, fun h => hclr (h.imp_left fun hm => (List.mem_cons.mp hm).resolve_left e)⟩

/-- How the order ends, by how the read of the last bytes written ended. -/
def State.faultLogRead (s : State) (p : HPort) (b : Bytes) (r : Dma) : State :=
  match r with
  | .ok _ => (((s.logWritten p b).countersCleared.onFaults (fun f => { f with lost := 0 })).effected p).done p
      (le 4 (s.faults.wanted (u32 b 0x18) (num b 0x1C 4)).length ++ le 4 (s.logWritten p b).faults.oldest.toNat ++ le 4 (s.logWritten p b).faults.next.toNat ++
        le 4 (s.logWritten p b).faults.lost.toNat)
  | .refused => (s.logWritten p b).putReply p (s.logWritten p b).clk.hub 0x4001 []
  | .failed => (s.logWritten p b).putReply p (s.logWritten p b).clk.hub 0x4002 []

theorem doReadFaultLog_eq (p : HPort) (r : Dma) (s : State) (hm : s.pfMaster p = true) : doReadFaultLog p r s =
    (s.runOrder p (isOpc 0x41) (fun b => [(0x10, 8, num b 0x10 8 % 4096 == 0), (0x18, 4, true), (0x1C, 4, num b 0x1C 4 ≤ 4096)]) false true none noRefusal
      (fun s b => s.faultLogRead p b r)).settle := by
  unfold doReadFaultLog
  rw [hm]
  refine (if_neg (by simp)).trans ?_
  cases r <;> rfl

section
variable {w : State} (hc : carriesOut p b s w) (hclk : w.clk = s.clk) (hfaults : w.faults = s.faults) (hdata : w.data = s.data) (hports : w.ports = s.ports)
include hc hclk hfaults hdata hports

/-- The answer of a log that has been written, and the counters it has cleared. -/
theorem carriesOut.countersCleared (result : Bytes) :
    let u := ((w.countersCleared.onFaults (fun f => { f with lost := 0 })).effected p).done p result
    answers p b s.clk.hub 0 result s u ∧ u.faults = { s.faults with lost := 0 } ∧ u.data.ceCnt = 0 ∧ u.data.ueCnt = 0 ∧ u.data.poisRd = 0 ∧
      u.data.imbalPk = 0 ∧ u.data.smallHeld = 0 ∧ u.data.scrubPass = s.data.scrubPass ∧
      (∀ d : DPort, (u.port d).stale = 0 ∧ (u.port d).frmerr = 0 ∧ (u.port d).retrains = 0 ∧ (u.port d).link = (s.port d).link) := by
  intro u
  obtain ⟨hclr, hport⟩ := State.slpClear_all (List.finRange 96) (w.smcClear none)
  obtain ⟨v, hv⟩ : ∃ v : State, v = w.countersCleared.onFaults (fun f => { f with lost := 0 }) := ⟨_, rfl⟩
  have hframe : { v with ports := w.ports, faults := w.faults } = w.smcClear none := by
    rw [hv]
    exact (congrArg (fun x : State => { x with faults := w.faults }) hclr :)
  have hcv : carriesOut p b s v := hc.keeps (congrArg State.hosts hframe :) (congrArg State.cores hframe :)
  have hvclk : v.clk = s.clk := (congrArg State.clk hframe :).trans hclk
  have hput := hcv.effected.putReply_frame s.clk.hub 0 result
  have hu : u = (v.effected p).putReply p s.clk.hub 0 result := by
    rw [← hvclk, hv]
    rfl
  have hudata : u.data = (w.smcClear none).data := by rw [hu]; exact (congrArg State.data hput :).trans (congrArg State.data hframe :)
  have hufaults : u.faults = { w.faults with lost := 0 } := by
    rw [hu]
    refine (congrArg State.faults hput :).trans ?_
    rw [hv]
    exact (congrArg (fun x : State => { x.faults with lost := 0 }) hclr :)
  have huports : u.ports = w.countersCleared.ports := by
    rw [hu]
    refine (congrArg State.ports hput :).trans ?_
    rw [hv]
    rfl
  refine ⟨by rw [hu]; exact hcv.effected.putReply_answers _ _ _, by rw [hufaults, hfaults], ?_, ?_, ?_, ?_, ?_, ?_, fun d => ?_⟩
  · rw [hudata]; rfl
  · rw [hudata]; rfl
  · rw [hudata]; rfl
  · rw [hudata]; rfl
  · rw [hudata]; rfl
  · rw [hudata]; exact (congrArg DataPath.scrubPass hdata :)
  · rw [State.port, huports]
    obtain ⟨hlink, hzero⟩ := hport d
    obtain ⟨h1, h2, h3⟩ := hzero (.inl (List.mem_finRange d))
    exact ⟨h1, h2, h3, hlink.trans (congrArg (fun t : Ports => (tget ({} : Port) t.ports d.val).link) hports :)⟩

end

theorem orderStands.readFaultLog (h : orderStands s p b) (hop : byteAt b 1 = 0x41) (ha : (u64 b 0x10).toNat % 4096 = 0) (hn : (u32 b 0x1C).toNat ≤ 4096)
    (hz : allZero (bslice b 0x20 0x60) = true) (dw : Bytes) :
      (∃ u : State, exec (.readFaultLog p (.ok dw)) s = .next u.settle ∧
        answers p b s.clk.hub 0 (le 4 (s.faults.wanted (u32 b 0x18) (u32 b 0x1C).toNat).length ++ le 4 s.faults.oldest.toNat ++ le 4 s.faults.next.toNat ++
          le 4 s.faults.lost.toNat) s u ∧ u.faults = { s.faults with lost := 0 } ∧ u.data.ceCnt = 0 ∧ u.data.ueCnt = 0 ∧ u.data.poisRd = 0 ∧
        u.data.imbalPk = 0 ∧ u.data.smallHeld = 0 ∧ u.data.scrubPass = s.data.scrubPass ∧
        (∀ d : DPort, (u.port d).stale = 0 ∧ (u.port d).frmerr = 0 ∧ (u.port d).retrains = 0 ∧ (u.port d).link = (s.port d).link)) ∧
      (∃ u : State, exec (.readFaultLog p .failed) s = .next u.settle ∧ answers p b s.clk.hub 0x4002 [] s u ∧ onlyReply s u) ∧
      (∃ u : State, exec (.readFaultLog p .refused) s = .next u.settle ∧ answers p b s.clk.hub 0x4001 [] s u ∧ onlyReply s u) := by
  have hf : firstBad b [(0x10, 8, num b 0x10 8 % 4096 == 0), (0x18, 4, true), (0x1C, 4, decide (num b 0x1C 4 ≤ 4096))] = none := by
    refine allZero_fields (by simp [num_u64, num_u32, ha, hn]) hz rfl (fun i h1 h2 => ?_)
    simp only [List.mem_cons, List.not_mem_nil, or_false, exists_eq_or_imp, exists_eq_left]
    omega
  have ⟨_, _, hmaster, _⟩ := h
  have hdo : ∀ r, doReadFaultLog p r s = ((s.beginOrder p b).faultLogRead p b r).settle := fun r => by
    rw [doReadFaultLog_eq p r s hmaster, h.runModule hop hf (by simp) rfl]
  obtain ⟨hlf, hlq, hlm⟩ := (s.beginOrder p b).logWritten_facts p b
  have hcores : ((s.beginOrder p b).logWritten p b).cores = s.cores := (congrArg State.cores hlf :)
  have hclk : ((s.beginOrder p b).logWritten p b).clk = s.clk := (congrArg State.clk hlf :)
  have hfaults : ((s.beginOrder p b).logWritten p b).faults = s.faults := (congrArg State.faults hlf :)
  have hdata : ((s.beginOrder p b).logWritten p b).data = s.data := (congrArg State.data hlf :)
  have hports : ((s.beginOrder p b).logWritten p b).ports = s.ports := (congrArg State.ports hlf :)
  have hc : carriesOut p b s ((s.beginOrder p b).logWritten p b) := h.beginOrder.keepsRing hlq hlm hcores
  have honly : onlyReply s ((s.beginOrder p b).logWritten p b) :=
    (congrArg (fun v : State => { v with out := s.out, hosts := s.hosts, orders := s.orders, power := s.power }) hlf :)
  have hfailed := hdo .failed
  have hrefused := hdo .refused
  have hok := hdo (.ok dw)
  rw [State.faultLogRead, hclk] at hfailed
  rw [State.faultLogRead, hclk] at hrefused
  rw [State.faultLogRead, hfaults, show (s.beginOrder p b).faults = s.faults from rfl, num_u32] at hok
  refine ⟨?_, ⟨_, congrArg Host.Outcome.next hfailed, hc.putReply_answers _ _ _, hc.putReply_onlyReply honly _ _ _⟩,
    ⟨_, congrArg Host.Outcome.next hrefused, hc.putReply_answers _ _ _, hc.putReply_onlyReply honly _ _ _⟩⟩
  exact ⟨_, congrArg Host.Outcome.next hok, hc.countersCleared hclk hfaults hdata hports _⟩

/-! #### RETIRE-SITE and START-SELF-TEST (R396, R479) -/

theorem orderStands.retireSite (h : orderStands s p b) (hop : byteAt b 1 = 0x42) (hfog : s.foggy = false) (hz : allZero (bslice b 0x14 0x6C) = true) :
      (siteNamed (u32 b 0x10) = false → ∃ u : State, exec (.retireSite p) s = .next u.settle ∧ answers p b s.clk.hub 0x2010 [] s u ∧ onlyReply s u) ∧
      (siteNamed (u32 b 0x10) = true → s.siteRefused (u32 b 0x10) = false → ∃ v : State, { v with hosts := s.hosts, orders := s.orders, power := s.power } = s ∧
        underWay p b .none v ∧
        exec (.retireSite p) s = .next (((v.actSite (u32 b 0x10) 0 1).1.effected p).done p [BitVec.ofNat 8 (v.actSite (u32 b 0x10) 0 1).2]).settle) ∧
      (siteNamed (u32 b 0x10) = true → s.siteRefused (u32 b 0x10) = true →
        ∃ u : State, exec (.retireSite p) s = .next u.settle ∧ answers p b s.clk.hub (0x1000 + 0x13) [] s u ∧ onlyReply s u) := by
  have hgood : siteNamed (u32 b 0x10) = true → firstBad b [(0x10, 4, siteNamed (u32 b 0x10))] = none := fun hn =>
    allZero_fields (by simp [hn]) hz rfl (fun i h1 h2 => ⟨_, List.mem_singleton_self _, h1, h2⟩)
  refine ⟨fun hn => ⟨_, rfl, h.badModule (off := 0x10) hop ?_⟩, fun hn hr => ⟨s.beginOrder p b, rfl, h.begun, congrArg Host.Outcome.next (congrArg State.settle
    (h.runModule hop (hgood hn) (fun _ => hfog) ?_ _))⟩, fun hn hr => ⟨_, rfl, h.refusedModule (r := 0x13) hop (hgood hn) (fun _ => hfog) ?_⟩⟩
  · rw [hn]
    refine firstBad_head (by simp) fun i h1 h2 => ?_
    by_cases hi : i < 0x14
    · exact .inl ⟨h1, hi⟩
    · exact .inr (.inr (byteAt_of_allZero hz (by omega) (by omega)))
  · exact if_neg (by rw [show (s.beginOrder p b).siteRefused (u32 b 0x10) = s.siteRefused (u32 b 0x10) from rfl, hr]; simp)
  · exact if_pos (by rw [show (s.beginOrder p b).siteRefused (u32 b 0x10) = s.siteRefused (u32 b 0x10) from rfl, hr])

/-- The other ring's order is the other ring's still. -/
theorem State.beginOrder_otherActive (s : State) (p : HPort) (b : Bytes) (f : Byte → Bool) : (s.beginOrder p b).otherActive p f = s.otherActive p f := by
  have hne : otherHost p ≠ p := by fin_cases p <;> decide
  have hoq : (s.beginOrder p b).oq (otherHost p) = s.oq (otherHost p) := congrArg HostPort.oq (State.host_modHost_ne s p (otherHost p)
    (fun h => { h with oq := { h.oq with active := some { opc := byteAt b 1, packet := b, index := h.oq.head, stage := .none } } }) hne)
  rw [State.otherActive, State.otherActive, hoq]

theorem orderStands.startSelfTest (h : orderStands s p b) (hop : byteAt b 1 = 0x30) (hfog : s.foggy = false) (hne : u64 b 0x10 ≠ 0)
    (hlt : (u64 b 0x10).toNat < 2 ^ 62) (hlo : 1 ≤ (byteAt b 0x18).toNat) (hhi : (byteAt b 0x18).toNat ≤ 3) (hz : allZero (bslice b 0x19 0x67) = true)
    (hother : s.otherActive p exclusive = false) (hoff : ∀ n, (u64 b 0x10).getLsbD n = true → s.offRefusal p n = none) :
      ∃ v : State, v.fw = { s.fw with tests := [], failedDoms := 0 } ∧ underWay p b .none v ∧ v.out = s.out ∧
        { v with hosts := s.hosts, orders := s.orders, power := s.power, fw := s.fw } = s ∧
        exec (.startSelfTest p) s = .next (((((((List.range 62).filter (fun n => (u64 b 0x10).getLsbD n)).foldl
          (fun v n => v.withdrawForTest (byteAt b 0x18).toNat n) v).effected p).setStage p .selfTest).startTests).settle) := by
  have hnz : (num b 0x10 8 != 0) = true := by
    rw [num_u64, bne_iff_ne]
    exact fun e => hne (BitVec.eq_of_toNat_eq e)
  have hf : firstBad b [(0x10, 8, num b 0x10 8 != 0 && decide (num b 0x10 8 < 2 ^ 62)), (0x18, 1, decide (1 ≤ testKind b) && decide (testKind b ≤ 3))] = none := by
    refine allZero_fields ?_ hz rfl (fun i h1 h2 => ?_)
    · rw [hnz, num_u64, decide_eq_true hlt, show testKind b = (byteAt b 0x18).toNat from rfl, decide_eq_true hlo, decide_eq_true hhi]
      simp
    · simp only [List.mem_cons, List.not_mem_nil, or_false, exists_eq_or_imp, exists_eq_left]
      omega
  have hnone : ((testDomains b).filterMap (fun n => s.offRefusal p n)).head? = none := by
    rw [List.head?_eq_none_iff, List.filterMap_eq_nil_iff]
    exact fun n hn => hoff n (List.mem_filter.mp hn).2
  have hrun := h.runModule (fields := fun b =>
      [(0x10, 8, num b 0x10 8 != 0 && decide (num b 0x10 8 < 2 ^ 62)), (0x18, 1, decide (1 ≤ testKind b) && decide (testKind b ≤ 3))]) (fogOk := false) hop hf (fun _ => hfog)
    (refusal := fun s b => s.busyOrder p <|> ((testDomains b).filterMap (fun n => s.offRefusal p n)).head?) (by
      rw [State.busyOrder, State.beginOrder_otherActive, hother]
      exact hnone)
    (act := fun s b => (((((testDomains b).foldl (fun s n => s.withdrawForTest (testKind b) n) (s.onFw (fun f => { f with tests := [], failedDoms := 0 })))).effected p).setStage p
      .selfTest).startTests)
  exact ⟨(s.beginOrder p b).onFw (fun f => { f with tests := [], failedDoms := 0 }), rfl, h.begun.keeps rfl, rfl, rfl,
    congrArg Host.Outcome.next (congrArg State.settle hrun)⟩

end

/-- Settles O41, order by order. -/
theorem moduleOrders : Obligations.ModuleOrders := by
  intro p b s h refused w
  refine ⟨fun hop hfog hw hshed hz => h.setSupplyPolicy hop hfog hw hshed hz, fun hop hdom hkind hz => h.readSignature hop hdom hkind hz,
    fun hop hfog ht hlo hhi hz1 hz2 => ?_, fun hop ha hn hz dw => h.readFaultLog hop ha hn hz dw, fun hop hfog hz => h.retireSite hop hfog hz,
    fun hop hfog hne hlt hlo hhi hz ho hoff => h.startSelfTest hop hfog hne hlt hlo hhi hz ho hoff⟩
  exact h.setFaultWindow hop hfog ht hlo hhi hz1 hz2

end Sys2Proof.Machine

namespace Sys2Proof.Machine
open Sys2Proof

/-! ### Power domains (R389, R427-R432) -/

section
variable {s : State} {p : HPort} {b : Bytes}

@[simp] theorem State.dom_modDom (s : State) (n : Nat) (f : Domain → Domain) : (s.modDom n f).dom n = f (s.dom n) := tget_tmod_same _ _ _ _
theorem State.dom_modDom_ne (s : State) {n k : Nat} (f : Domain → Domain) (h : k ≠ n) : (s.modDom n f).dom k = s.dom k := tget_tmod_ne _ _ _ _ _ h
theorem State.modDom_frame (s : State) (n : Nat) (f : Domain → Domain) : { s.modDom n f with power := s.power } = s := rfl

/-- A domain is asked on (R430). -/
def State.askOn (s : State) (k : Nat) : State :=
  let x := s.dom k
  if x.on then (if x.switching = some false || x.withdrawn then s.modDom k (fun x => { x with switching := none, withdrawn := false, drainUntil := none, hot := false }) else s)
  else s.modDom k (fun x => { x with switching := some true, withdrawn := false, ended := 0, hot := false })

theorem State.requestOn_eq (s : State) (n : Nat) : s.requestOn n = (if n < 48 then (s.lcsOf n).foldl State.askOn s else s).askOn n := rfl

/-- A domain that has been asked on comes on, or stays on. -/
theorem State.askOn_same (s : State) (k : Nat) :
    ((s.askOn k).dom k).on = (s.dom k).on ∧ ((s.dom k).on = false → ((s.askOn k).dom k).switching = some true) ∧
      ((s.dom k).on = true → ((s.askOn k).dom k).switching ≠ some false) := by
  unfold State.askOn
  dsimp only
  split
  · next hon =>
    split
    · rw [State.dom_modDom]
      exact ⟨rfl, fun h => absurd hon (by simp [h]), fun _ => by simp⟩
    · next hc => exact ⟨rfl, fun h => absurd hon (by simp [h]), fun _ h => hc (by simp [h])⟩
  · next hon =>
    rw [State.dom_modDom]
    exact ⟨rfl, fun _ => rfl, fun h => absurd h hon⟩

theorem State.askOn_frame (s : State) (k : Nat) : { s.askOn k with power := s.power } = s := by
  unfold State.askOn
  dsimp only
  split
  · split <;> rfl
  · rfl

theorem State.askOn_dom_ne (s : State) {n k : Nat} (h : k ≠ n) : (s.askOn n).dom k = s.dom k := by
  unfold State.askOn
  dsimp only
  split
  · split
    · exact s.dom_modDom_ne _ h
    · rfl
  · exact s.dom_modDom_ne _ h

/-- A domain that is off and has been asked on stays so whatever else is asked on. -/
theorem State.askOn_keeps (s : State) (n k : Nat) : ((s.askOn n).dom k).on = (s.dom k).on ∧
    ((s.dom k).on = false → (s.dom k).switching = some true → ((s.askOn n).dom k).switching = some true) := by
  by_cases h : k = n
  · subst h
    obtain ⟨hon, hoff, -⟩ := s.askOn_same k
    exact ⟨hon, fun h _ => hoff h⟩
  · rw [s.askOn_dom_ne h]
    exact ⟨rfl, fun _ h => h⟩

theorem State.askAll_facts (l : List Nat) (s : State) :
    { l.foldl State.askOn s with power := s.power } = s ∧ ∀ k, ((l.foldl State.askOn s).dom k).on = (s.dom k).on ∧
      ((s.dom k).on = false → (k ∈ l ∨ (s.dom k).switching = some true) → ((l.foldl State.askOn s).dom k).switching = some true) := by
  induction l generalizing s with
  | nil => exact ⟨rfl, fun k => ⟨rfl, fun _ h => h.resolve_left List.not_mem_nil⟩⟩
  | cons n l ih =>
    obtain ⟨hf, hd⟩ := ih (s.askOn n)
    refine ⟨(congrArg (fun v : State => { v with power := s.power }) hf :).trans (s.askOn_frame n), fun k => ?_⟩
    obtain ⟨hon, hask⟩ := hd k
    obtain ⟨hon1, hkeep⟩ := s.askOn_keeps n k
    refine ⟨hon.trans hon1, fun hoff hmem => hask (hon1.trans hoff) ?_⟩
    by_cases e : k = n
    · subst e
      exact .inr ((s.askOn_same k).2.1 hoff)
    · exact hmem.imp (fun h => (List.mem_cons.mp h).resolve_left e) (hkeep hoff)

theorem State.requestOn_facts (s : State) (n : Nat) :
    { s.requestOn n with power := s.power } = s ∧ ((s.requestOn n).dom n).on = (s.dom n).on ∧
      ((s.dom n).on = false → ((s.requestOn n).dom n).switching = some true) ∧
      ((s.dom n).on = true → ((s.requestOn n).dom n).switching ≠ some false) ∧
      (n < 48 → ∀ k ∈ s.lcsOf n, (s.dom k).on = false → ((s.requestOn n).dom k).switching = some true) := by
  rw [State.requestOn_eq]
  obtain ⟨hf, hd⟩ := State.askAll_facts (if n < 48 then s.lcsOf n else []) s
  have hv : (if n < 48 then (s.lcsOf n).foldl State.askOn s else s) = (if n < 48 then s.lcsOf n else []).foldl State.askOn s := by split <;> rfl
  rw [hv]
  generalize (if n < 48 then s.lcsOf n else []).foldl State.askOn s = v at hf hd
  obtain ⟨hon, hoff, hon'⟩ := v.askOn_same n
  obtain ⟨hvn, -⟩ := hd n
  refine ⟨(congrArg (fun x : State => { x with power := s.power }) (v.askOn_frame n) :).trans hf, hon.trans hvn, fun h => hoff (hvn.trans h),
    fun h => hon' (hvn.trans h), fun hn k hk h => ?_⟩
  obtain ⟨hvk, hask⟩ := hd k
  exact (v.askOn_keeps n k).2 (hvk.trans h) (hask h (.inl (by rw [if_pos hn]; exact hk)))

/-! #### DOMAIN-POWER (R389, R430) -/

theorem domainFields_good (hdom : (byteAt b 0x10).toNat ≤ 61) (hkind : (byteAt b 0x11).toNat ≤ 1) (hz : allZero (bslice b 0x12 0x6E) = true) :
    firstBad b (domainFields b) = none := by
  refine allZero_fields ?_ hz rfl (fun i h1 h2 => ?_)
  · simp [domainFields, domainNo, hdom, hkind]
  · simp only [domainFields, List.mem_cons, List.not_mem_nil, or_false, exists_eq_or_imp, exists_eq_left]
    omega

theorem ofNat_reason (r : Nat) : (0x1000 : W16) + BitVec.ofNat 16 r = BitVec.ofNat 16 (0x1000 + r) := (BitVec.ofNat_add 0x1000 r).symm

theorem domainFin_eq {n : Dom} {k : Nat} (h : k = n.val) : domainFin k = n := by
  subst h
  exact Fin.ext (Nat.mod_eq_of_lt n.isLt)

theorem orderStands.domainPowerOn (h : orderStands s p b) {n : Dom} (hfog : s.foggy = false) (hop : byteAt b 1 = 0x20) (hn : (byteAt b 0x10).toNat = n.val)
    (hz : allZero (bslice b 0x12 0x6E) = true) (hkind : byteAt b 0x11 = 1) :
    (s.onRefusal n.val = none →
      (s.domOn n.val = false → ∃ u : State, exec (.domainPowerOn p) s = .next u.settle ∧ underWay p b (.domainSwitch n) u ∧
        (u.dom n.val).switching = some true ∧ (n.val < 48 → ∀ k ∈ s.lcsOf n.val, s.domOn k = false → (u.dom k).switching = some true) ∧ u.ports = s.ports ∧ u.out = s.out) ∧
      (s.domOn n.val = true → ∃ u : State, exec (.domainPowerOn p) s = .next u.settle ∧ answers p b s.clk.hub 0 [0, 0, 0, 0] s u ∧ u.domOn n.val = true ∧
        (u.dom n.val).switching ≠ some false)) ∧
    (∀ r, s.onRefusal n.val = some r →
      ∃ u : State, exec (.domainPowerOn p) s = .next u.settle ∧ answers p b s.clk.hub (0x1000 + BitVec.ofNat 16 r) [] s u ∧ onlyReply s u) := by
  have hf : firstBad b (domainFields b) = none := domainFields_good (by have := n.isLt; omega) (by rw [hkind]; decide) hz
  have hw : (isOpc 0x20 b && byteAt b 0x11 == 1) = true := isOpc_and hop (by rw [hkind]; rfl)
  have hno : domainNo b = n.val := hn
  have hrefusal : (s.beginOrder p b).onRefusal (domainNo b) = s.onRefusal n.val := by rw [hno]; rfl
  have hdo (hr : s.onRefusal n.val = none) : doDomainPowerOn p s =
      (if s.domOn n.val then (((s.beginOrder p b).requestOn n.val).effected p).done p (le 4 0)
        else (((s.beginOrder p b).requestOn n.val).effected p).setStage p (.domainSwitch n)).settle := by
    rw [doDomainPowerOn, h.run hw hf (by simp) (fun _ => hfog) (by simp) (hrefusal.trans hr)]
    simp only [hno, domainFin_eq rfl]
    rfl
  obtain ⟨hframe, hon, hask, hstay, hlcs⟩ := (s.beginOrder p b).requestOn_facts n.val
  refine ⟨fun hr => ⟨fun hoff => ?_, fun hon' => ?_⟩, fun r hr => ?_⟩
  · have hd := hdo hr
    rw [hoff, if_neg (by simp)] at hd
    refine ⟨_, congrArg Host.Outcome.next hd, ?_, hask hoff, hlcs, (congrArg State.ports hframe :), (congrArg State.out hframe :)⟩
    refine ((h.begun.keeps ?_).effected).setStage _
    exact (congrArg (fun v : State => v.oq p) hframe :)
  · have hd := hdo hr
    have hc : carriesOut p b s ((s.beginOrder p b).requestOn n.val) := h.beginOrder.keeps (congrArg State.hosts hframe :) (congrArg State.cores hframe :)
    have hput := hc.effected.putReply_frame s.clk.hub 0 (le 4 0)
    have hpower := (congrArg State.power hput :)
    rw [hon', if_pos rfl, State.done, show (((s.beginOrder p b).requestOn n.val).effected p).clk = s.clk from (congrArg State.clk hframe :)] at hd
    refine ⟨_, congrArg Host.Outcome.next hd, hc.effected.putReply_answers _ _ _, ?_, ?_⟩
    · rw [State.domOn, hpower]
      exact hon.trans hon'
    · rw [State.dom, hpower]
      exact hstay hon'
  · rw [ofNat_reason]
    exact ⟨_, rfl, h.refusedRun hw hf (by simp) (fun _ => hfog) (by simp) (hrefusal.trans hr)⟩

theorem orderStands.domainPowerOff (h : orderStands s p b) {n : Dom} (hfog : s.foggy = false) (hop : byteAt b 1 = 0x20) (hn : (byteAt b 0x10).toNat = n.val)
    (hz : allZero (bslice b 0x12 0x6E) = true) (hkind : byteAt b 0x11 = 0) :
    (s.offRefusal p n.val = none →
      (s.domOn n.val = true → (s.dom n.val).switching = none → ∃ v : State, underWay p b .none v ∧ v.ports = s.ports ∧ v.out = s.out ∧ v.power.domains = s.power.domains ∧
        exec (.domainPowerOff p) s = .next ((((v.requestOff n.val).effected p).setStage p (.domainSwitch n))).settle) ∧
      (s.domOn n.val = false → ∃ u : State, exec (.domainPowerOff p) s = .next u.settle ∧ answers p b s.clk.hub 0 [0, 0, 0, 0] s u ∧
        (u.dom n.val).switching = none ∧ u.ports = s.ports)) ∧
    (∀ r, s.offRefusal p n.val = some r →
      ∃ u : State, exec (.domainPowerOff p) s = .next u.settle ∧ answers p b s.clk.hub (0x1000 + BitVec.ofNat 16 r) [] s u ∧ onlyReply s u) := by
  have hf : firstBad b (domainFields b) = none := domainFields_good (by have := n.isLt; omega) (by rw [hkind]; decide) hz
  have hw : (isOpc 0x20 b && byteAt b 0x11 != 1) = true := isOpc_and hop (by rw [hkind]; rfl)
  have hno : domainNo b = n.val := hn
  have hrefusal : (s.beginOrder p b).offRefusal p (domainNo b) = s.offRefusal p n.val := by rw [hno]; rfl
  have hdo (hr : s.offRefusal p n.val = none) : doDomainPowerOff p s =
      (if !s.domOn n.val then (((s.beginOrder p b).modDom n.val (fun x => { x with switching := none })).effected p).done p (le 4 0)
        else ((if (s.dom n.val).switching = some false then s.beginOrder p b else (s.beginOrder p b).requestOff n.val).effected p).setStage p
          (.domainSwitch n)).settle := by
    rw [doDomainPowerOff, h.run hw hf (by simp) (fun _ => hfog) (by simp) (hrefusal.trans hr)]
    simp only [hno, domainFin_eq rfl]
    rfl
  refine ⟨fun hr => ⟨fun hon hsw => ?_, fun hoff => ?_⟩, fun r hr => ?_⟩
  · have hd := hdo hr
    rw [hon, if_neg (by simp), if_neg (by simp [hsw])] at hd
    exact ⟨s.beginOrder p b, h.begun, rfl, rfl, rfl, congrArg Host.Outcome.next hd⟩
  · have hd := hdo hr
    obtain ⟨hans, hframe⟩ := h.done_work (v := (s.beginOrder p b).modDom n.val (fun x => { x with switching := none })) rfl rfl (le 4 0)
    rw [hoff, if_pos (by simp)] at hd
    refine ⟨_, congrArg Host.Outcome.next hd, hans, ?_, (congrArg State.ports hframe :)⟩
    rw [State.dom, show State.power _ = _ from (congrArg State.power hframe :)]
    exact congrArg Domain.switching (State.dom_modDom (s.beginOrder p b) n.val (fun x => { x with switching := none }))
  · rw [ofNat_reason]
    exact ⟨_, rfl, h.refusedRun hw hf (by simp) (fun _ => hfog) (by simp) (hrefusal.trans hr)⟩

/-- The domains that no order switches off (R389). -/
theorem State.offRefusal_fixed (s : State) (p : HPort) :
    s.offRefusal p 60 = some 0xD ∧ s.offRefusal p (58 + p.val) = some 0xD ∧ (s.list.loaded = true → s.offRefusal p 56 = some 0xD) := by
  have hp := p.isLt
  refine ⟨if_pos (by simp), if_pos (by simp), fun hl => ?_⟩
  rw [State.offRefusal, if_neg (by simp; omega), if_pos (by simp [hl])]

/-- An exchange is a program's. -/
def Exch.ofProg (e : Exch) : Bool :=
  match e.owner with
  | .prog _ => true
  | .ident _ => false

end

/-- Settles O42. -/
theorem powerDomains : Obligations.PowerDomains := by
  refine ⟨fun p b n s h hfog hop hn hz => ⟨fun hk hr => (h.domainPowerOn hfog hop hn hz hk).1 hr, fun hk r hr => (h.domainPowerOn hfog hop hn hz hk).2 r hr,
    fun hk hr => (h.domainPowerOff hfog hop hn hz hk).1 hr, fun hk r hr => (h.domainPowerOff hfog hop hn hz hk).2 r hr, s.offRefusal_fixed p⟩,
    fun n s => ⟨fun hlo hhi hon hsw => ?_, fun hdue => ?_, ⟨?_, ?_⟩, fun x hx hle => ?_⟩⟩
  · rw [State.requestOff, if_neg (by simp [hon])]
    dsimp only
    rw [if_neg (by omega), if_neg (by simp; omega), if_neg (by omega), State.dom_modDom]
  · refine ⟨_, congrArg Host.Outcome.next (if_pos hdue), ?_⟩
    cases hs : (s.dom n.val).switching with
    | none => rfl
    | some x => cases x <;> rfl
  · exact (State.dom_modDom s 61 _).trans rfl
  · have hd := s.dom_modDom 61 (fun x => { on := false, ended := x.ended, hot := x.hot, testing := x.testing })
    exact ⟨congrArg Domain.on hd, congrArg Domain.switching hd⟩
  · refine ⟨s.modDom n.val (fun y => { y with drainUntil := none, ended := y.ended + (ppPorts n.val).foldl (fun a d => a + ((s.port d).exch.filter (fun e => e.2.ofProg)).length) 0 }), congrArg Host.Outcome.next (show doDomainDrainExpiry n s = _ from ?_), ?_, ?_, rfl, rfl, rfl⟩
    · unfold doDomainDrainExpiry
      rw [hx]
      refine (if_pos hle).trans ?_
      rfl
    · rw [State.dom_modDom]
    · rw [State.dom_modDom]
      exact Nat.le_add_right _ _

end Sys2Proof.Machine

namespace Sys2Proof.Machine
open Sys2Proof

/-! ### Sleep and wake (R390, R437, R439-R446, R451) -/

section
variable {s : State} {p : HPort} {b : Bytes}

/-! #### A reply, whatever the order brings about after it (R79, R95, R370) -/

theorem State.startWaves_frame (s : State) (first : Bool) (due : List CageNum) : { s.startWaves first due with list := s.list } = s := by
  have hcage : ∀ (s : State) c, { s.dueCage c with list := s.list } = s := fun s c => by
    unfold State.dueCage
    split <;> rfl
  unfold State.startWaves
  split
  · rfl
  · induction due generalizing s with
    | nil => rfl
    | cons c due ih => exact (congrArg (fun v : State => { v with list := s.list }) (ih (s.dueCage c)) :).trans (hcage s c)

/-- What an order brings about after its reply leaves its ring, and what has been sent. -/
theorem State.afterReply_facts (s : State) (x : AfterReply) :
    { s.afterReply x with list := s.list, queues := s.queues, out := s.out, hosts := s.hosts } = s ∧ (s.afterReply x).oq p = s.oq p ∧
      ∀ o ∈ s.out, o ∈ (s.afterReply x).out := by
  cases x with
  | none => exact ⟨rfl, rfl, fun _ h => h⟩
  | waves first due =>
    have hf := s.startWaves_frame first due
    refine ⟨(congrArg (fun v : State => { v with queues := s.queues, out := s.out, hosts := s.hosts }) hf :), (congrArg (fun v : State => v.oq p) hf :), fun o h => ?_⟩
    rw [show (s.afterReply (.waves first due)).out = s.out from (congrArg State.out hf :)]
    exact h
  | bind t y =>
    refine ⟨?_, s.bindTenant_oq t y, fun o h => State.journal_out_grows (s.modTenant t _) _ _ _ _ _ h⟩
    exact (congrArg (fun v : State => { v with list := s.list, queues := s.queues, out := s.out, hosts := s.hosts })
      (State.journal_frame (s.modTenant t (fun z => { z with binding := some y, quiet := none, fogNoted := false })) t 2 (bindBody y s.clk.hub) 0 0) :)

/-- The answer of an order, and what it leaves. -/
theorem State.putReply_any {w : State} {a : Active} (hq : w.oq p = { s.oq p with active := some a }) (hopc : a.opc = byteAt b 1) (hpkt : a.packet = b)
    (hidx : a.index = (s.oq p).head) (ho : a.orphan = false) (hr : a.restarted = false) (hm : w.pfMaster p = true) (ht : w.cores.tenderUp = true)
    (time : W64) (status : W16) (result : Bytes) :
    answers p b time status result s (w.putReply p time status result) ∧
      { w.putReply p time status result with list := w.list, queues := w.queues, out := w.out, hosts := w.hosts } = w := by
  obtain ⟨y, hy⟩ : ∃ y : State, y = (w.sendWrite p none ((w.oq p).rbase + BitVec.ofNat 64 (64 * (a.index % (w.oq p).size)))
    (replyBytes a (passBit (w.oq p).size a.index) time status result)).modOq p (fun o => { o with active := none, head := a.index + 1, slots := tdel o.slots a.index }) := ⟨_, rfl⟩
  have hput : w.putReply p time status result = ((y.vector (.pf p) 0).afterReply a.after).fetchOrders p := by
    have hact : (w.oq p).active = some a := by rw [hq]
    unfold State.putReply
    simp only [hact, ho, hr, hm, ht, Bool.not_true, Bool.false_eq_true, if_false, hy]
  have hout : y.out = Out.hostWrite p none ((w.oq p).rbase + BitVec.ofNat 64 (64 * (a.index % (w.oq p).size)))
      (replyBytes a (passBit (w.oq p).size a.index) time status result) :: w.out := by rw [hy]; rfl
  have hyf : { y with out := w.out, hosts := w.hosts } = w := by rw [hy]; rfl
  obtain ⟨haf, haq, hao⟩ := (y.vector (.pf p) 0).afterReply_facts (p := p) a.after
  obtain ⟨hff, ⟨l, hfo⟩, hfa, hfh, -⟩ := ((y.vector (.pf p) 0).afterReply a.after).fetchOrders_facts p
  have hvq : ((y.vector (.pf p) 0).oq p) = y.oq p := y.vector_oq (.pf p) 0 p
  rw [hput]
  refine ⟨⟨?_, ?_, ?_⟩, ?_⟩
  · rw [hfa, haq, hvq, hy, State.oq_modOq]
  · rw [hfh, haq, hvq, hy, State.oq_modOq, hidx]
  · rw [hfo]
    refine List.mem_append_right l (hao _ (y.vector_adds _ _ ?_))
    rw [hout, hq, hidx, replyBytes, hopc, hpkt]
    exact List.mem_cons_self
  · have hvf : { y.vector (.pf p) 0 with out := w.out, hosts := w.hosts } = { y with out := w.out, hosts := w.hosts } := by
      have hvfs : (y.vector (.pf p) 0).vfs = y.vfs := by
        unfold State.vector
        dsimp only
        (repeat' split) <;> rfl
      refine Eq.trans ?_ (congrArg (fun v : State => { v with out := w.out, hosts := w.hosts }) (y.vector_frame (.pf p) 0).1)
      dsimp only
      rw [← hvfs]
    have hfetch := (congrArg (fun v : State => { v with list := w.list, queues := w.queues, out := w.out, hosts := w.hosts }) hff :)
    have hafter := (congrArg (fun v : State => { v with list := w.list, queues := w.queues, out := w.out, hosts := w.hosts }) haf :)
    have hvec := (congrArg (fun v : State => { v with list := w.list, queues := w.queues }) hvf :)
    have hwritten := (congrArg (fun v : State => { v with list := w.list, queues := w.queues }) hyf :)
    exact ((hfetch.trans hafter).trans hvec).trans hwritten

end

/-! #### ENTER-SLEEP (R390, R440, R441) -/

section
variable {s : State} {p : HPort} {b : Bytes}

theorem num_u48 {b : Bytes} {n : Nat} (h : (u64 b n).toNat < 2 ^ 48) : u48 b n = (u64 b n).setWidth 48 := by
  have hd : ∀ (m k : Nat) (l : Bytes), ule (l.take (m + k)) = ule (l.take m) + 256 ^ m * ule ((l.drop m).take k) := by
    intro m
    induction m with
    | zero => intro k l; simp [ule]
    | succ m ih =>
      intro k l
      cases l with
      | nil => simp [ule]
      | cons x l =>
        rw [Nat.add_right_comm, List.take_succ_cons, ule, ih, List.take_succ_cons, ule, List.drop_succ_cons, Nat.pow_succ']
        ring
  have hu := num_u64 b n
  rw [num, bslice, hd 6 2] at hu
  apply BitVec.eq_of_toNat_eq
  rw [u48, bslice, BitVec.toNat_ofNat, BitVec.toNat_setWidth, ← hu, show (2 : Nat) ^ 48 = 256 ^ 6 from by norm_num, Nat.add_mul_mod_self_left]

theorem retValid_retSeal (r : Retention) : retValid (retSeal r) = true := by
  simp only [retValid, retSeal, retBody, beq_self_eq_true, Bool.and_self]

theorem sleepFields_good {mode : BitVec 2} (hmode : mode = 2 ∨ mode = 3) (hm : byteAt b 0x10 = mode.setWidth 8) (hz1 : allZero (bslice b 0x11 3) = true)
    (hmask : u32 b 0x14 ≠ 0) (hmask' : (u32 b 0x14).toNat ≤ 0x1F) (hat : (u64 b 0x18).toNat < 2 ^ 48) (hz2 : allZero (bslice b 0x20 0x60) = true) :
    firstBad b (sleepFields b) = none := by
  have hmode' : ((byteAt b 0x10).toNat == 2 || (byteAt b 0x10).toNat == 3) = true := by
    rw [hm]
    rcases hmode with rfl | rfl <;> rfl
  have hmask2 : (num b 0x14 4 != 0 && decide (num b 0x14 4 ≤ 0x1F)) = true := by
    rw [num_u32, decide_eq_true hmask', Bool.and_true, bne_iff_ne]
    exact fun e => hmask (BitVec.eq_of_toNat_eq e)
  refine firstBad_none ?_ fun i h1 h2 => ?_
  · simp only [sleepFields, List.forall_mem_cons, hmode', hmask2, num_u64, decide_eq_true hat]
    simp
  · simp only [sleepFields, List.mem_cons, List.not_mem_nil, or_false, exists_eq_or_imp, exists_eq_left]
    by_cases h3 : 0x11 ≤ i ∧ i < 0x14
    · exact .inr (byteAt_of_allZero hz1 (by omega) (by omega))
    · by_cases h4 : i < 0x20
      · omega
      · exact .inr (byteAt_of_allZero hz2 (by omega) (by omega))

theorem orderStands.sleepOrder (h : orderStands s p b) (hfog : s.foggy = false) {want : Bytes → Bool} (hw : want b = true)
    (hf : firstBad b (sleepFields b) = none) (hother : s.otherActive p exclusive = false) :
    (s.maySleep = true → s.sleepOrder p want = ((s.beginOrder p b).beginSleep p b).settle) ∧
    (s.maySleep = false → ∃ u : State, s.sleepOrder p want = u.settle ∧ answers p b s.clk.hub 0x100F [] s u ∧ onlyReply s u) := by
  have hbusy : (s.beginOrder p b).busyOrder p = none := by rw [State.busyOrder, State.beginOrder_otherActive, hother]; rfl
  have hmay : (s.beginOrder p b).maySleep = s.maySleep := rfl
  refine ⟨fun hs => ?_, fun hs => ⟨_, rfl, h.refusedRun (n := 0xF) hw hf (by simp) (fun _ => hfog) (by simp) ?_⟩⟩
  · rw [State.sleepOrder, h.run hw hf (by simp) (fun _ => hfog) (by simp) (by rw [hbusy, hmay, hs]; rfl)]
  · rw [hbusy, hmay, hs]
    rfl

theorem orderStands.enterSleep (h : orderStands s p b) {mode : BitVec 2} (hfog : s.foggy = false) (hop : byteAt b 1 = 0x21) (hmode : mode = 2 ∨ mode = 3)
    (hm : byteAt b 0x10 = mode.setWidth 8) (hf : firstBad b (sleepFields b) = none) (hat : (u64 b 0x18).toNat < 2 ^ 48) (hother : s.otherActive p exclusive = false) :
    (s.maySleep = true → ∃ u : State, exec (if mode = 3 then .enterSleepHold p else .enterSleepDoze p) s = .next u.settle ∧ underWay p b (.sleep mode) u ∧
      u.keeper.wakeMask = u32 b 0x14 ∧ u.keeper.wakeAt = (u64 b 0x18).setWidth 48 ∧ u.keeper.sleepReq = mode ∧ u.keeper.decide = 0 ∧
      u.orders.sleeping = true ∧ u.queues = s.queues ∧ u.out = s.out) ∧
    (s.maySleep = false → ∃ u : State, exec (if mode = 3 then .enterSleepHold p else .enterSleepDoze p) s = .next u.settle ∧
      answers p b s.clk.hub 0x100F [] s u ∧ onlyReply s u) := by
  have hexec : ∃ want : Bytes → Bool, want b = true ∧ exec (if mode = 3 then .enterSleepHold p else .enterSleepDoze p) s = .next (s.sleepOrder p want) := by
    rcases hmode with rfl | rfl
    · exact ⟨fun b => isOpc 0x21 b && byteAt b 0x10 != 3, isOpc_and hop (by rw [hm]; rfl), rfl⟩
    · exact ⟨fun b => isOpc 0x21 b && byteAt b 0x10 == 3, isOpc_and hop (by rw [hm]; rfl), rfl⟩
  obtain ⟨want, hw, hexec⟩ := hexec
  obtain ⟨hmay, hnot⟩ := h.sleepOrder hfog hw hf hother
  have hbits : BitVec.ofNat 2 (byteAt b 0x10).toNat = mode := by
    rw [hm]
    rcases hmode with rfl | rfl <;> rfl
  rw [hexec]
  refine ⟨fun hs => ⟨_, congrArg Host.Outcome.next (hmay hs), ?_, rfl, num_u48 hat, hbits, rfl, rfl, rfl, rfl⟩, fun hs => ?_⟩
  · rw [← hbits]
    exact (h.begun.keeps rfl).setStage _
  · obtain ⟨u, hu, hrest⟩ := hnot hs
    exact ⟨u, congrArg Host.Outcome.next hu, hrest⟩

/-- R441: the sleeper's order at the commit edge. -/
theorem sleepCommit {mode : BitVec 2} {a : Active} {wakeLow sense0Low : Bool} (hsl : s.sleeper = some (p, mode)) (ha : (s.oq p).active = some a)
    (hi : a.index = (s.oq p).head) (hopc : byteAt a.packet 1 = a.opc) (ho : a.orphan = false) (hr : a.restarted = false) (hm : s.pfMaster p = true)
    (ht : s.cores.tenderUp = true) :
    (s.keeper.pendingWake wakeLow sense0Low = true →
      ∃ u : State, exec (.sleepCommitEdge wakeLow sense0Low) s = .next u.settle ∧ answers p a.packet s.clk.hub 0x5000 [] s u ∧ u.keeper.decide = 2 ∧
        u.orders.sleeping = false ∧ u.power.domains = s.power.domains) ∧
    (s.keeper.pendingWake wakeLow sense0Low = false →
      ∃ v : State, answers p a.packet s.clk.hub 0 [] s v ∧ v.keeper.decide = 1 ∧ v.keeper.ret.mode = mode.setWidth 8 ∧ retValid v.keeper.ret = true ∧
        v.keeper.ret.wakeMask = s.keeper.wakeMask ∧ v.keeper.ret.wakeAt = s.keeper.wakeAt ∧
        exec (.sleepCommitEdge wakeLow sense0Low) s =
          .next ((((((v.flushHeld 0).flushHeld 1).dropBells).sleepHost 0).sleepHost 1).repace).settle) := by
  have hq : s.oq p = { s.oq p with active := some a } := by rw [← ha]
  have hfire := s.fire_frame 0 166
  have hkeeper : (s.fire 0 166).keeper = s.keeper := (congrArg State.keeper hfire :)
  have hcores : (s.fire 0 166).cores = s.cores := (congrArg State.cores hfire :)
  have hclk : (s.fire 0 166).clk = s.clk := (congrArg State.clk hfire :)
  have hoq : (s.fire 0 166).oq p = s.oq p := congrArg HostPort.oq (s.fire_host 0 166 p)
  have hmaster : (s.fire 0 166).pfMaster p = true := (congrArg (fun v : State => v.pfMaster p) hfire :).trans hm
  have hdom : (s.fire 0 166).power.domains = s.power.domains := by
    unfold State.fire
    split <;> rfl
  refine ⟨fun hp => ?_, fun hp => ?_⟩
  · obtain ⟨v, hv⟩ : ∃ v : State, v = ((s.fire 0 166).onKeeper (fun k => { k with decide := 2, sleepReq := 0 })).onOrders (fun o => { o with
      sleeping := false, bells := [] }) := ⟨_, rfl⟩
    obtain ⟨hans, hframe⟩ := State.putReply_any (s := s) (w := v) (p := p) (b := a.packet) (by rw [hv]; exact hoq.trans hq) hopc.symm rfl hi ho hr
      (by rw [hv]; exact hmaster) (by rw [hv]; exact (congrArg Cores.tenderUp hcores :).trans ht) s.clk.hub 0x5000 []
    have hdo : doSleepCommitEdge wakeLow sense0Low s = (v.putReply p s.clk.hub 0x5000 []).settle := by
      unfold doSleepCommitEdge
      rw [hsl]
      dsimp only
      rw [hkeeper, hp, if_pos rfl, ← hv, show v.clk = s.clk by rw [hv]; exact hclk]
    refine ⟨_, congrArg Host.Outcome.next hdo, hans, ?_, ?_, ?_⟩
    · rw [show (v.putReply p s.clk.hub 0x5000 []).keeper = v.keeper from (congrArg State.keeper hframe :), hv]
      rfl
    · rw [show (v.putReply p s.clk.hub 0x5000 []).orders = v.orders from (congrArg State.orders hframe :), hv]
      rfl
    · rw [show (v.putReply p s.clk.hub 0x5000 []).power = v.power from (congrArg State.power hframe :), hv]
      exact hdom
  · obtain ⟨v, hv⟩ : ∃ v : State, v = ((s.fire 0 166).onKeeper (fun k => { k.sleepFile mode with decide := 1 })).effected p := ⟨_, rfl⟩
    obtain ⟨hans, hframe⟩ := State.putReply_any (s := s) (w := v) (p := p) (b := a.packet) (a := { a with effected := true })
      (by rw [hv, State.effected_oq]; exact congrArg (fun o : OrderRing => ({ o with active := o.active.map (fun a : Active => ({ a with effected := true } : Active)) } : OrderRing)) (hoq.trans hq)) hopc.symm rfl hi ho hr
      (by rw [hv]; exact (State.modOq_pfMaster _ p _).trans hmaster) (by rw [hv]; exact (congrArg Cores.tenderUp hcores :).trans ht) s.clk.hub 0 []
    have hk : (v.putReply p s.clk.hub 0 []).keeper = { s.keeper.sleepFile mode with decide := 1 } := by
      rw [show (v.putReply p s.clk.hub 0 []).keeper = v.keeper from (congrArg State.keeper hframe :), hv]
      exact congrArg (fun k : Keeper => { k.sleepFile mode with decide := 1 }) hkeeper
    refine ⟨_, hans, ?_, ?_, ?_, ?_, ?_, congrArg Host.Outcome.next (show doSleepCommitEdge wakeLow sense0Low s = _ from ?_)⟩
    · rw [hk]
    · rw [hk]; rfl
    · rw [hk]; exact retValid_retSeal _
    · rw [hk]; rfl
    · rw [hk]; rfl
    · unfold doSleepCommitEdge
      rw [hsl]
      dsimp only
      rw [hkeeper, hp, if_neg (by simp), State.done, ← hv, show v.clk = s.clk by rw [hv]; exact hclk]

/-! #### Freeze, wake and bridge (R442-R446, R451) -/

/-- A freeze with no wake latched (R442). -/
theorem timebaseFreeze_eq (hd : s.keeper.decide = 1) (hreq : s.keeper.sleepReq ≠ 0) (hw : s.keeper.wakeCause &&& s.keeper.wakeMask = 0) :
    doTimebaseFreeze s =
      let v := s.onKeeper (fun k => { k with ret := retSeal { k.base with t1 := s.clk.hub, k1 := k.counter }, sleepReq := 0, pllLocked := false })
      if s.keeper.sleepReq = 3 then v.unpowered.onPower (fun p => { p with mode := .hold })
      else (v.onClk (fun c => { c with running := false })).onPower (fun p => { p with mode := .doze }) := by
  have stays : ∀ v : State, v.keeper.wakeCause &&& v.keeper.wakeMask = 0 → v.beginWake = v := fun v h =>
    if_pos (by rw [decide_eq_true h, Bool.or_true])
  unfold doTimebaseFreeze
  rw [if_pos (show (decide (s.keeper.decide = 1) && s.keeper.sleepReq != 0) = true by
    rw [decide_eq_true hd, Bool.true_and, bne_iff_ne]
    exact hreq)]
  dsimp only
  by_cases hold : s.keeper.sleepReq = 3
  · rw [if_pos hold]
    exact stays _ hw
  · rw [if_neg hold]
    exact stays _ hw

/-- A source that wakes is latched, and its mask enables it. -/
theorem Keeper.wakes_latched {k : Keeper} {i : Fin 5} (h : k.wakes i.val = true) : (k.wakeCause ||| (1#32 <<< i.val)) &&& k.wakeMask ≠ 0 := by
  have hm : k.wakeMask.getLsbD i.val = true := by
    rw [Keeper.wakes, Bool.and_eq_true, Bool.and_eq_true] at h
    exact h.1.1
  intro e
  have hbit := congrArg (fun x : W32 => x.getLsbD i.val) e
  rw [BitVec.getLsbD_and, BitVec.getLsbD_or, hm, Bool.and_true, show BitVec.getLsbD (0 : W32) i.val = false from BitVec.getLsbD_zero, BitVec.getLsbD_shiftLeft] at hbit
  have hi : i.val < 32 := by omega
  simp [hi] at hbit

theorem State.beginWake_foggy (hf : s.foggy = true) : s.beginWake = s := if_pos (by simp [hf])

/-- The wake that a latched source begins, by mode (R444, R446). -/
theorem State.beginWake_begins (hf : s.foggy = false) (hw : s.keeper.waking = false) (hc : s.keeper.wakeCause &&& s.keeper.wakeMask ≠ 0) :
    let s1 := s.onKeeper (fun k => { k with
      waking := true, ret := if retValid k.ret then retSeal { k.ret with wake := k.wakeCause.setWidth 8 &&& 0x1F } else k.ret })
    (s.power.mode = .doze → s.beginWake = s1.fire 0 166) ∧
      (s.power.mode = .hold → s.beginWake = (s1.onKeeper (fun k => { k with rstCause := 0 })).startUp) := by
  intro s1
  have hno : (s.foggy || s.keeper.waking || decide (s.keeper.wakeCause &&& s.keeper.wakeMask = 0)) ≠ true := by
    rw [hf, hw, decide_eq_false hc]
    simp
  refine ⟨fun hm => ?_, fun hm => ?_⟩
  · refine (if_neg hno).trans ?_
    rw [hm]
  · refine (if_neg hno).trans ?_
    rw [hm]

/-- What bring-up begins with (R460): the rails, the PLL, the domains of power-good. -/
theorem State.startUp_facts (s : State) :
    s.startUp.keeper.waking = s.keeper.waking ∧ s.startUp.power.mode = .run ∧ s.startUp.keeper.pllLocked = true ∧ s.startUp.fw.rails = true ∧
      ∀ n, 48 ≤ n → n < 62 → s.startUp.domOn n = true := by
  have hread : s.readRetention.keeper.waking = s.keeper.waking := by
    unfold State.readRetention
    dsimp only
    split
    · rfl
    · exact (congrArg (fun v : State => v.keeper.waking) (State.logFault_frame s.useFree 8 retainSite whoNone _) :)
  have hemit : ∀ t : State, { [(0 : HPort), 1].foldl (fun s p => if (s.host p).perst then s else s.emit (.retryStatus p)) t with out := s.out } =
      { t with out := s.out } :=
    foldl_keeps (fun v : State => { v with out := s.out }) (fun v p => by split <;> rfl) _
  unfold State.startUp
  dsimp only
  generalize hv : State.onFw _ _ = v
  have hf := hemit v
  refine ⟨(congrArg (fun t : State => t.keeper.waking) hf :).trans ?_, (congrArg (fun t : State => t.power.mode) hf :).trans ?_,
    (congrArg (fun t : State => t.keeper.pllLocked) hf :).trans ?_, (congrArg (fun t : State => t.fw.rails) hf :).trans ?_,
    fun n h1 h2 => (congrArg (fun t : State => t.domOn n) hf :).trans ?_⟩ <;> rw [← hv]
  · exact hread
  · rfl
  · rfl
  · rfl
  · change (tget ({} : Domain) powerGoodDomains n).on = true
    have hall : ∀ m : Fin 62, 48 ≤ m.val → (tget ({} : Domain) powerGoodDomains m.val).on = true := by decide
    exact hall ⟨n, h2⟩ h1

theorem doPllLock_eq (hm : s.power.mode = .doze) (hw : s.keeper.waking = true) :
    doPllLock s = s.onKeeper (fun k => { k with pllLocked := true }) := by
  by_cases hl : s.keeper.pllLocked = true
  · have hk : { s.keeper with pllLocked := true } = s.keeper := by rw [← hl]
    exact (if_neg (by rw [hl]; simp)).trans (congrArg (fun k : Keeper => { s with keeper := k }) hk).symm
  · exact if_pos (by rw [hm, hw, Bool.eq_false_iff.mpr hl]; rfl)

/-- The wake from Doze goes on at the bridge, once the PLL is locked (R444). -/
theorem doTimebaseBridge_doze (hm : s.power.mode = .doze) (hw : s.keeper.waking = true) (hpll : s.keeper.pllLocked = true) :
    doTimebaseBridge s = (((((((s.bridgeTime.onClk (fun c => { c with running := true })).onKeeper (fun k => { k with waking := false })).onPower
      (fun p => { p with mode := .run, quietAt := s.bridgeTime.clk.now })).onOrders (fun o => { o with sleeping := false })).domainOn 58).domainOn 59).driveWake).settle := by
  have hdoze : (s.power.mode == .doze && s.keeper.pllLocked) = true := by rw [hm, hpll]; rfl
  unfold doTimebaseBridge
  generalize s.bridgeTime = w
  simp only [hdoze, hw, Bool.true_or, Bool.and_true, if_true]
  rfl

theorem bridgeTime_facts (hv : retValid s.keeper.ret = true) (hm : s.keeper.ret.mode ≠ 0) :
    let x := (s.keeper.counter - s.keeper.ret.k1).toNat * 0x12A05F200000 + s.keeper.ret.frac.toNat
    s.bridgeTime.clk.hub = s.keeper.ret.t1 + BitVec.ofNat 64 (x / 2 ^ 32) ∧ s.bridgeTime.clk.bridged = true ∧
      s.bridgeTime.keeper.ret.frac = BitVec.ofNat 32 x ∧ s.bridgeTime.keeper.ret.kb = s.keeper.counter - s.keeper.ret.k1 ∧
      s.bridgeTime.keeper.ret.bridges = s.keeper.ret.bridges + 1 ∧ retValid s.bridgeTime.keeper.ret = true ∧ s.bridgeTime.ports = s.ports := by
  intro x
  have hif : (retValid s.keeper.ret && s.keeper.ret.mode != 0) = true := by rw [hv, Bool.true_and, bne_iff_ne]; exact hm
  obtain ⟨t2, frac, hb⟩ : ∃ t2 frac, bridge s.keeper.ret.t1 (s.keeper.counter - s.keeper.ret.k1) s.keeper.ret.frac = (t2, frac) := ⟨_, _, rfl⟩
  have ht2 : t2 = s.keeper.ret.t1 + BitVec.ofNat 64 (x / 2 ^ 32) := by rw [← show _ = t2 from congrArg Prod.fst hb, bridge]
  have hfrac : frac = BitVec.ofNat 32 x := by rw [← show _ = frac from congrArg Prod.snd hb, bridge]
  rw [← ht2, ← hfrac]
  unfold State.bridgeTime
  dsimp only
  rw [hif, if_pos rfl, hb]
  exact ⟨rfl, rfl, rfl, rfl, rfl, retValid_retSeal _, rfl⟩

end

/-- Settles O43. -/
theorem sleepAndWake : Obligations.SleepAndWake := by
  refine ⟨fun p b mode s h hfog hop hmode hm hz1 hmask hmask' hat hz2 hother =>
      h.enterSleep hfog hop hmode hm (sleepFields_good hmode hm hz1 hmask hmask' hat hz2) hat hother,
    fun p mode a wakeLow sense0Low s hsl ha hi hopc ho hr hm ht => sleepCommit hsl ha hi hopc ho hr hm ht, fun i s => ?_⟩
  intro k
  refine ⟨fun hd hreq hw => ?_, fun hd hreq hw => ?_, fun hm hwk hf hwaking => ?_, fun hm hwk hf hwaking => ?_, fun hm hwk hf => ?_, fun hm hwaking => ?_,
    fun hm hwaking hpll hv hmode => ?_, fun x hx hle => ?_, fun hm hidle hq => ?_⟩
  · have hdo := timebaseFreeze_eq hd (by rw [hreq]; decide) hw
    dsimp only at hdo
    rw [if_neg (show ¬ s.keeper.sleepReq = 3 by rw [show s.keeper.sleepReq = 2 from hreq]; decide)] at hdo
    exact ⟨_, congrArg Host.Outcome.next hdo, rfl, rfl, rfl, rfl, retValid_retSeal _, rfl, rfl, rfl⟩
  · have hdo := timebaseFreeze_eq hd (by rw [hreq]; decide) hw
    dsimp only at hdo
    rw [if_pos hreq] at hdo
    exact ⟨_, congrArg Host.Outcome.next hdo, rfl, rfl, rfl, rfl, rfl, rfl⟩
  · have hdo : doWakeFromDoze i s = (s.latchWake i.val).beginWake := if_pos (by rw [hm, hwk]; rfl)
    obtain ⟨hdoze, -⟩ := State.beginWake_begins (s := s.latchWake i.val) hf hwaking (Keeper.wakes_latched hwk)
    refine ⟨_, congrArg Host.Outcome.next (hdo.trans (hdoze hm)), ?_, ?_, ?_, ?_⟩
    · exact (congrArg Keeper.waking (State.fire_keeper _ _ _) :)
    · exact (congrArg Keeper.wakeCause (State.fire_keeper _ _ _) :)
    · rw [State.fire_isPend _ 0 166 166 rfl rfl, beq_self_eq_true, Bool.or_true]
    · exact (State.fire_clk _ _ _ :)
  · have hdo : doWakeFromHold i s = (s.latchWake i.val).beginWake := if_pos (by rw [hm, hwk]; rfl)
    obtain ⟨-, hhold⟩ := State.beginWake_begins (s := s.latchWake i.val) hf hwaking (Keeper.wakes_latched hwk)
    obtain ⟨hw, hrun, hpll, hrails, hdom⟩ := State.startUp_facts _
    exact ⟨_, congrArg Host.Outcome.next (hdo.trans (hhold hm)), hw, hrun, hpll, hrails, hdom⟩
  · have hdo : doWakeFromDoze i s = (s.latchWake i.val).beginWake := if_pos (by rw [hm, hwk]; rfl)
    exact ⟨_, congrArg Host.Outcome.next (hdo.trans (State.beginWake_foggy hf)), rfl⟩
  · exact congrArg Host.Outcome.next (doPllLock_eq hm hwaking)
  · obtain ⟨hhub, hbr, hfrac, hkb, hbridges, hret, hports⟩ := bridgeTime_facts hv hmode
    have hdo := doTimebaseBridge_doze hm hwaking hpll
    generalize s.bridgeTime = w at hhub hbr hfrac hkb hbridges hret hports hdo
    exact ⟨_, _, congrArg Host.Outcome.next hdo, rfl, hhub, hbr, rfl, hfrac, hkb, hbridges, hret, rfl, rfl, rfl, hports⟩
  · refine congrArg Host.Outcome.next (show doWakeDriveTimeout s = _ from ?_)
    unfold doWakeDriveTimeout
    rw [show s.keeper.wakeUntil = some x from hx]
    exact if_pos hle
  · exact congrArg Host.Outcome.next (if_pos (by rw [hm, hidle, decide_eq_true (show s.power.quietAt + Config.us100Ticks ≤ s.clk.now from hq)]; rfl))

end Sys2Proof.Machine

namespace Sys2Proof.Machine
open Sys2Proof

/-! ### The Trial Balance Unit and the safe state (R411, R413-R416) -/

section
variable {s : State}

/-- What the parts a log entry writes, a source that fires and a vector do not end, a fault that is logged does not end. -/
theorem State.logFault_preserves (P : State → Prop) (hf : ∀ s f, P s → P (s.onFaults f)) (hw : ∀ s f, P s → P (s.onFw f))
    (hs : ∀ s u n, P s → P (s.fire u n)) (hv : ∀ s fn v, P s → P (s.vector fn v)) (kind : Byte) (site who : W32) (detail : W64) (h : P s) :
    P (s.logFault kind site who detail) := by
  have hlog : ∀ s cls n, P s → P (s.logEntry kind cls n site who detail) := by
    intro s cls n h
    unfold State.logEntry
    split
    · exact hw _ _ h
    · exact hv _ _ _ (hv _ _ _ (hf _ _ h))
  have hrep : P (s.fireReport site) := by
    unfold State.fireReport
    split
    · exact hs _ _ _ h
    · exact h
  have hcount : P ((s.fireReport site).countEvent site).1 := hf _ (fun _ => ((s.fireReport site).countEvent site).1.faults) hrep
  unfold State.logFault
  dsimp only
  split
  · split
    · exact hrep
    · split
      · exact hf _ _ (hlog _ _ _ hcount)
      · exact hlog _ _ _ hcount
  · exact hlog _ _ _ hrep

theorem State.logFault_adds (kind : Byte) (site who : W32) (detail : W64) {o : Out} (h : o ∈ s.out) : o ∈ (s.logFault kind site who detail).out :=
  State.logFault_preserves (fun v => o ∈ v.out) (fun _ _ h => h) (fun _ _ h => h) (fun v u n h => by rw [State.fire_out]; exact h)
    (fun v fn x h => State.vector_adds _ fn x h) kind site who detail h

theorem State.evuOn_onPower_work (u : EvUnit) : s.work.evuOn u = s.evuOn u := rfl

theorem State.fire_evuOn (u w : EvUnit) (n : Nat) : (s.fire u n).evuOn w = s.evuOn w := by
  unfold State.fire
  split <;> rfl

/-- A source that fires ends no pending bit. -/
theorem State.fire_pend_mono (u w : EvUnit) (n m : Nat) (h : (s.evu w).isPend m = true) : ((s.fire u n).evu w).isPend m = true := by
  by_cases hu : sourceReal u n && s.evuOn u
  · rw [Bool.and_eq_true] at hu
    by_cases hw : w = u
    · rw [hw, State.fire_isPend _ _ _ _ hu.1 hu.2, ← hw, h, Bool.true_or]
    · rw [State.fire_evu_ne _ _ _ _ hw, h]
  · rw [State.fire, if_neg hu, h]

theorem State.logFault_pend_mono (kind : Byte) (site who : W32) (detail : W64) (w : EvUnit) (m : Nat) (h : (s.evu w).isPend m = true) :
    ((s.logFault kind site who detail).evu w).isPend m = true :=
  State.logFault_preserves (fun v => (v.evu w).isPend m = true) (fun _ _ h => h) (fun _ _ h => h) (fun _ u n h => State.fire_pend_mono u w n m h)
    (fun v fn x h => by rw [State.evu, State.vector_evus]; exact h) kind site who detail h

theorem State.logEntry_safe (kind cls : Byte) (n : W16) (site who : W32) (detail : W64) :
    (s.logEntry kind cls n site who detail).faults.safe = s.faults.safe := by
  unfold State.logEntry
  dsimp only
  split
  · rfl
  · rw [State.pfVector_faults]
    rfl

theorem State.logFault_safe (kind : Byte) (site who : W32) (detail : W64) : (s.logFault kind site who detail).faults.safe = s.faults.safe := by
  have hrep : (s.fireReport site).faults.safe = s.faults.safe := by rw [State.fireReport_faults]
  unfold State.logFault
  dsimp only
  split
  · split
    · exact hrep
    · split
      · exact (State.logEntry_safe _ _ _ _ _ _).trans hrep
      · exact (State.logEntry_safe _ _ _ _ _ _).trans hrep
  · exact (State.logEntry_safe _ _ _ _ _ _).trans hrep

/-- A fault that does not count adds one entry to a log in service. -/
theorem State.logFault_uncounted_next {kind : Byte} {detail : W64} (site who : W32) (hc : faultCounted kind detail = false) (hd : s.data.inService = true) :
    (s.logFault kind site who detail).faults.next = s.faults.next + 1 := by
  unfold State.logFault
  dsimp only
  rw [hc]
  exact (State.logEntry_next _ _ _ _ _ _ _ (by rw [State.fireReport_data, hd])).trans (by rw [State.fireReport_faults])

/-! #### What a broken account fires and logs (R325, R416) -/

theorem State.fireAcct_cases (a i : Nat) : s.fireAcct a i = s ∨ ∃ u n, s.fireAcct a i = s.fire u n := by
  unfold State.fireAcct
  split
  · exact .inr ⟨_, _, rfl⟩
  · exact .inl rfl

theorem State.logBalance_pend {w : EvUnit} {m : Nat} (a i : Nat) (x : Acct) (site : W32) (h : (((s.fire 0 168).fireAcct a i).evu w).isPend m = true) :
    ((s.logBalance a i x site).evu w).isPend m = true := State.logFault_pend_mono _ _ _ _ w m h

theorem State.logBalance_facts (a i : Nat) (x : Acct) (site : W32) :
    (s.logBalance a i x site).ports = s.ports ∧ (s.logBalance a i x site).queues = s.queues ∧ ((s.logBalance a i x site).evu 0).isPend 168 = true := by
  have hhub : ((s.fire 0 168).evu 0).isPend 168 = true := by
    rw [State.fire_isPend s 0 168 168 rfl rfl, beq_self_eq_true, Bool.or_true]
  obtain ⟨hports, hqueues, hpend⟩ : ((s.fire 0 168).fireAcct a i).ports = s.ports ∧ ((s.fire 0 168).fireAcct a i).queues = s.queues ∧
      (((s.fire 0 168).fireAcct a i).evu 0).isPend 168 = true := by
    obtain h | ⟨u, n, h⟩ := (s.fire 0 168).fireAcct_cases a i <;> rw [h]
    · exact ⟨State.fire_ports _ _ _, State.fire_queues _ _ _, hhub⟩
    · exact ⟨(State.fire_ports _ _ _).trans (State.fire_ports _ _ _), (State.fire_queues _ _ _).trans (State.fire_queues _ _ _),
        State.fire_pend_mono u 0 n 168 hhub⟩
  exact ⟨(State.logFault_ports _ _ _ _ _).trans hports, (State.logFault_queues _ _ _ _ _).trans hqueues, State.logBalance_pend _ _ _ _ hpend⟩

theorem portNo_val (d : DPort) : portNo d.val = d := Fin.ext (Nat.mod_eq_of_lt d.isLt)

/-- A port account's break fires the port's own source on its die. -/
theorem State.logBalance_port (d : DPort) (x : Acct) (site : W32) (hon : s.evuOn ⟨1 + d.val / 24, by omega⟩ = true) :
    ((s.logBalance 1 d.val x site).evu ⟨1 + d.val / 24, by omega⟩).isPend (32 * (d.val % 24 / 3) + 27) = true := by
  refine State.logBalance_pend _ _ _ _ ?_
  have hslot : slotOfAcct 1 d.val = some d := by rw [slotOfAcct, if_pos (by decide), portNo_val]
  have hreal : sourceReal ⟨1 + d.val / 24, by omega⟩ (32 * (d.val % 24 / 3) + 27) = true := by
    have hd := d.isLt
    have h0 : (⟨1 + d.val / 24, by omega⟩ : EvUnit) ≠ 0 := fun e => absurd (congrArg Fin.val e) (by simp)
    rw [sourceReal, if_neg h0]
    simp only [Bool.or_eq_true, Bool.and_eq_true, decide_eq_true_eq]
    exact .inr ⟨⟨by omega, by omega⟩, by omega⟩
  rw [State.fireAcct, hslot]
  dsimp only
  rw [State.fire_isPend _ _ _ _ hreal (by rw [State.fire_evuOn]; exact hon), beq_self_eq_true, Bool.or_true]

/-! #### The safe state (R411) -/

theorem State.enterSafe_safe (cause : Nat) (site : W32) (h : s.safe = true) : s.enterSafe cause site = s := if_pos h

theorem State.allExch_empty {d : DPort} (f : State → Tag → State) (h : (s.port d).exch = []) : s.allExch d f = s := by
  rw [State.allExch, h]
  rfl

theorem State.foldl_allExch_empty (f : State → Tag → State) (h : ∀ d, (s.port d).exch = []) (l : List DPort) :
    l.foldl (fun s d => s.allExch d f) s = s := by
  induction l with
  | nil => rfl
  | cons d l ih => rw [List.foldl_cons, State.allExch_empty f (h d), ih]

/-- The safe state, entered with no exchange open. -/
theorem State.enterSafe_facts (cause : Nat) (site : W32) (h : s.safe = false) (he : ∀ d, (s.port d).exch = []) :
    (s.enterSafe cause site).faults.safe = some cause ∧ Out.smbAlert true ∈ (s.enterSafe cause site).out ∧
      (s.enterSafe cause site).ports = s.ports ∧ (s.enterSafe cause site).queues = s.queues ∧
      (s.cores.tenderUp = true → s.data.inService = true → (s.enterSafe cause site).faults.next = s.faults.next + 1) := by
  obtain ⟨u, hu⟩ : ∃ u : State, u = (s.onFaults (fun f => { f with safe := some cause })).emit (.smbAlert true) := ⟨_, rfl⟩
  have hfold : (List.finRange 96).foldl (fun s d => s.allExch d (fun s g => s.abortEnd d 2 cInternal 0 g)) u = u := by
    generalize List.finRange 96 = l
    induction l with
    | nil => rfl
    | cons d l ih => rw [List.foldl_cons, State.allExch_empty _ (show (u.port d).exch = [] by rw [hu]; exact he d), ih]
  have hsafe : s.enterSafe cause site = if u.cores.tenderUp && u.data.inService then u.logFault 0x0C site whoNone (BitVec.ofNat 64 cause)
      else (if u.cores.tenderUp then u.logFault 0x0C site whoNone (BitVec.ofNat 64 cause) else u).pfVector 4 := by
    refine (if_neg (by rw [h]; exact Bool.false_ne_true)).trans ?_
    dsimp only
    rw [← hu, hfold]
  have hmem : Out.smbAlert true ∈ u.out := by rw [hu]; exact List.mem_cons_self
  obtain ⟨hus, hup, huq, hun⟩ : u.faults.safe = some cause ∧ u.ports = s.ports ∧ u.queues = s.queues ∧ u.faults.next = s.faults.next := by
    rw [hu]; exact ⟨rfl, rfl, rfl, rfl⟩
  obtain ⟨huc, hud⟩ : u.cores = s.cores ∧ u.data = s.data := by rw [hu]; exact ⟨rfl, rfl⟩
  rw [hsafe, huc, hud]
  clear hsafe hfold hu
  by_cases hin : (s.cores.tenderUp && s.data.inService) = true
  · rw [if_pos hin]
    exact ⟨(u.logFault_safe _ _ _ _).trans hus, u.logFault_adds _ _ _ _ hmem, (u.logFault_ports _ _ _ _).trans hup, (u.logFault_queues _ _ _ _).trans huq,
      fun _ hd => (u.logFault_uncounted_next _ _ rfl (by rw [hud, hd])).trans (by rw [hun])⟩
  · rw [if_neg hin]
    obtain ⟨w, hw, hws, hwm, hwp, hwq⟩ : ∃ w, w = (if s.cores.tenderUp then u.logFault 0x0C site whoNone (BitVec.ofNat 64 cause) else u) ∧
        w.faults.safe = some cause ∧ Out.smbAlert true ∈ w.out ∧ w.ports = s.ports ∧ w.queues = s.queues := by
      refine ⟨_, rfl, ?_⟩
      split
      · exact ⟨(u.logFault_safe _ _ _ _).trans hus, u.logFault_adds _ _ _ _ hmem, (u.logFault_ports _ _ _ _).trans hup, (u.logFault_queues _ _ _ _).trans huq⟩
      · exact ⟨hus, hmem, hup, huq⟩
    rw [← hw]
    exact ⟨by rw [State.pfVector_faults, hws], State.vector_adds _ _ _ (State.vector_adds _ _ _ hwm), by rw [State.pfVector_ports, hwp],
      by rw [State.pfVector_queues, hwq], fun ht hd => absurd (by rw [ht, hd]; rfl) hin⟩

/-! #### A round (R413) -/

/-- A round of a hub that runs, in Run or Idle. -/
theorem doBalanceRound_due (agree : Bool) (hhub : s.fw.hub = true) (hm : s.power.mode = .run ∨ s.power.mode = .idle)
    (hr : s.faults.round ≠ s.clk.hub.toNat / 15625) :
    let u := s.onFaults (fun f => { f with round := s.clk.hub.toNat / 15625 })
    let broken := s.faults.accts.filter (fun (x : Nat × Acct) => x.2.debit != x.2.credit)
    doBalanceRound agree s = if !agree then (u.enterSafe 1 tbuSite).settle
      else if broken.isEmpty then u
      else (broken.foldl (fun s (x : Nat × Acct) => s.breakAcct (x.1 / 2 ^ 24) (x.1 % 2 ^ 24) x.2) u).settle := by
  have hmode : (s.power.mode == .run || s.power.mode == .idle) = true := by rcases hm with h | h <;> rw [h] <;> rfl
  have hround : (s.roundNow == s.faults.round) = false := beq_eq_false_iff_ne.mpr (fun e => hr e.symm)
  unfold doBalanceRound
  dsimp only
  rw [hhub, hmode, hround]
  rfl

theorem doBalanceRound_done (agree : Bool) (hr : s.faults.round = s.clk.hub.toNat / 15625) : doBalanceRound agree s = s := by
  have hround : (s.roundNow == s.faults.round) = true := beq_iff_eq.mpr hr.symm
  unfold doBalanceRound
  dsimp only
  rw [hround, Bool.or_true, if_pos rfl]

/-! #### What a broken account fences (R414) -/

theorem State.breakAcct_port {a : Nat} (d : DPort) (x : Acct) (ha : a = 1 ∨ a = 2 ∨ a = 4) :
    s.breakAcct a d.val x = if (s.port d).fences.contains .balance then s
      else (s.logBalance a d.val x (portSite d)).balanceFencePort d (BitVec.ofNat 8 a) := by
  rcases ha with rfl | rfl | rfl <;>
    · change (if (s.port (portNo d.val)).fences.contains .balance then s
        else (s.logBalance _ d.val x (portSite (portNo d.val))).balanceFencePort (portNo d.val) _) = _
      rw [portNo_val]

/-- Account 3 is of the port under numbers 1 to 96, of the staging memory under the others. -/
theorem State.breakAcct_staged (i : Nat) (x : Acct) :
    s.breakAcct 3 i x = if 1 ≤ i && i ≤ 96 then
        (if (s.port (portNo (i - 1))).fences.contains .balance then s
        else (s.logBalance 3 i x (portSite (portNo (i - 1)))).balanceFencePort (portNo (i - 1)) 3)
      else if s.safe then s else (s.logBalance 3 i x hbmSite).enterSafe 3 hbmSite := rfl

theorem State.breakAcct_slot (d : DPort) (x : Acct) :
    s.breakAcct 3 (d.val + 1) x = if (s.port d).fences.contains .balance then s else (s.logBalance 3 (d.val + 1) x (portSite d)).balanceFencePort d 3 := by
  have hd := d.isLt
  rw [State.breakAcct_staged, if_pos (by rw [Bool.and_eq_true, decide_eq_true_eq, decide_eq_true_eq]; omega), Nat.add_sub_cancel, portNo_val]

theorem State.breakAcct_staging {i : Nat} (x : Acct) (hi : i = 0 ∨ 97 ≤ i) (hs : s.safe = false) :
    s.breakAcct 3 i x = (s.logBalance 3 i x hbmSite).enterSafe 3 hbmSite := by
  rw [State.breakAcct_staged, if_neg (by simp; omega), hs]
  rfl

theorem State.breakAcct_mover (m : MoverNum) (x : Acct) :
    s.breakAcct 8 m.val x = if (s.mover m).fenced then s else (s.logBalance 8 m.val x (moverSite m)).fenceMover m := dif_pos m.isLt

end

/-- Settles O48. -/
theorem balanceRounds : Obligations.BalanceRounds := by
  refine ⟨fun s hhub hm => ?_, fun x s => ?_, fun cause site s => ⟨State.enterSafe_safe cause site, State.enterSafe_facts cause site⟩⟩
  · intro broken n u
    refine ⟨fun hr => ?_, fun hr agree => congrArg Host.Outcome.next (doBalanceRound_done agree hr)⟩
    have hdo := fun agree => doBalanceRound_due agree hhub hm hr
    dsimp only at hdo
    refine ⟨fun hb => congrArg Host.Outcome.next ((hdo true).trans ?_), congrArg Host.Outcome.next ((hdo false).trans (if_pos rfl)),
      fun hb => congrArg Host.Outcome.next ((hdo true).trans ?_)⟩
    · rw [if_neg (by simp), if_pos (List.isEmpty_iff.mpr hb)]
      rfl
    · rw [if_neg (by simp), if_neg (fun e => hb (List.isEmpty_iff.mp e))]
      rfl
  · refine ⟨fun a d ha hf => ?_, fun d hf => ?_, fun d hf a ha => ?_, fun i hi hs => State.breakAcct_staging x hi hs, fun t q k hk hf => ?_, fun t q k hk hf => ?_,
      fun i k hk hf => ?_, fun m hf => ?_, fun m hf => ?_, fun a i site => State.logBalance_facts a i x site, fun d site hon => State.logBalance_port d x site hon⟩
    · rw [State.breakAcct_port d x ha, if_neg (by simpa using hf)]
    · rw [State.breakAcct_slot, if_neg (by simpa using hf)]
    · rw [State.breakAcct_port d x ha, if_pos (by simpa using hf)]
    · unfold State.breakAcct
      dsimp only
      rw [(queueTenant_qIndex t q).1, (queueTenant_qIndex t q).2, hk, Option.map_some, Option.getD_some, hf]
      rfl
    · unfold State.breakAcct
      dsimp only
      rw [(queueTenant_qIndex t q).1, (queueTenant_qIndex t q).2, hk, Option.map_some, Option.getD_some, hf]
      rfl
    · unfold State.breakAcct
      dsimp only
      rw [hk, Option.map_some, Option.getD_some, hf]
      rfl
    · rw [State.breakAcct_mover, hf]
      rfl
    · rw [State.breakAcct_mover, hf]
      rfl

end Sys2Proof.Machine

namespace Sys2Proof.Machine
open Sys2Proof

/-! ### Power limit and temperatures (R103, R226, R227, R391, R508, R509) -/

section
variable {s : State}

/-! #### Half rate (R267) -/

/-- Every port named runs at the rate that the holds give; one that runs so already stays. -/
theorem State.rethrottle_fold (l : List DPort) (d : DPort) (h : d ∈ l ∨ (s.port d).throttle = s.halfRate d) :
    ((l.foldl (fun s d => if (s.port d).throttle = s.halfRate d then s else s.modPort d (fun p => { p with throttle := s.halfRate d })) s).port d).throttle =
      s.halfRate d := by
  induction l generalizing s with
  | nil => exact h.resolve_left (by simp)
  | cons e l ih =>
    rw [List.foldl_cons]
    by_cases he : (s.port e).throttle = s.halfRate e
    · rw [if_pos he]
      refine ih ?_
      rcases h with h | h
      · rcases List.mem_cons.mp h with rfl | h
        · exact .inr he
        · exact .inl h
      · exact .inr h
    · rw [if_neg he]
      refine ih (s := s.modPort e (fun p => { p with throttle := s.halfRate e })) ?_
      by_cases hd : d = e
      · rw [hd, State.port_modPort]
        exact .inr rfl
      · rw [State.port_modPort_ne _ _ _ _ hd]
        rcases h with h | h
        · exact .inl ((List.mem_cons.mp h).resolve_left hd)
        · exact .inr h

theorem State.rethrottle_port (s : State) (d : DPort) : (s.rethrottle.port d).throttle = s.halfRate d :=
  State.rethrottle_fold _ d (.inl (List.mem_finRange d))

@[simp] theorem State.rethrottle_power (s : State) : s.rethrottle.power = s.power := State.rethrottle_keeps State.power (fun _ _ _ => rfl) s
@[simp] theorem State.rethrottle_out (s : State) : s.rethrottle.out = s.out := State.rethrottle_keeps State.out (fun _ _ _ => rfl) s
@[simp] theorem State.rethrottle_clk (s : State) : s.rethrottle.clk = s.clk := State.rethrottle_keeps State.clk (fun _ _ _ => rfl) s
@[simp] theorem State.rethrottle_prog (s : State) : s.rethrottle.prog = s.prog := State.rethrottle_keeps State.prog (fun _ _ _ => rfl) s
@[simp] theorem State.rethrottle_queues (s : State) : s.rethrottle.queues = s.queues := State.rethrottle_keeps State.queues (fun _ _ _ => rfl) s
@[simp] theorem State.rethrottle_faults (s : State) : s.rethrottle.faults = s.faults := State.rethrottle_keeps State.faults (fun _ _ _ => rfl) s
@[simp] theorem State.rethrottle_therm (s : State) : s.rethrottle.therm = s.therm := State.rethrottle_keeps State.therm (fun _ _ _ => rfl) s
@[simp] theorem State.rethrottle_evus (s : State) : s.rethrottle.evus = s.evus := State.rethrottle_keeps State.evus (fun _ _ _ => rfl) s
@[simp] theorem State.rethrottle_list (s : State) : s.rethrottle.list = s.list := State.rethrottle_keeps State.list (fun _ _ _ => rfl) s
@[simp] theorem State.rethrottle_data (s : State) : s.rethrottle.data = s.data := State.rethrottle_keeps State.data (fun _ _ _ => rfl) s

/-! #### The input power (R391) -/

theorem powerLimit_released (w : W16) (h : s.power.plimit.toNat = 0 ∨ (s.power.mode ≠ .run ∧ s.power.mode ≠ .idle)) :
    doPowerLimitThrottle w s = s.onPower (fun p => { p with input := w, overSince := none, underSince := none }) := by
  unfold doPowerLimitThrottle
  refine if_pos ?_
  rcases h with h | ⟨h1, h2⟩
  · have hz : s.power.plimit = 0 := BitVec.eq_of_toNat_eq h
    exact Bool.or_eq_true_iff.mpr (.inl (decide_eq_true hz))
  · have hb : (s.power.mode == .run || s.power.mode == .idle) = false := by
      rw [beq_eq_false_iff_ne.mpr h1, beq_eq_false_iff_ne.mpr h2]
      rfl
    refine Bool.or_eq_true_iff.mpr (.inr ?_)
    exact congrArg Bool.not hb

/-- With a limit, in Run or Idle: what a measurement does, by whether the hold is on. -/
theorem powerLimit_held (w : W16) (hl : s.power.plimit.toNat ≠ 0) (hm : s.power.mode = .run ∨ s.power.mode = .idle) :
    let u := s.onPower (fun p => { p with input := w })
    doPowerLimitThrottle w s =
      if !s.power.throttle then
        if s.power.plimit.toNat < w.toNat then
          match s.power.overSince with
          | none => u.onPower (fun p => { p with overSince := some s.clk.now })
          | some t => if t + 15625000 ≤ s.clk.now then u.powerHold true else u
        else u.onPower (fun p => { p with overSince := none })
      else if w.toNat + 10 ≤ s.power.plimit.toNat then
        match s.power.underSince with
        | none => u.onPower (fun p => { p with underSince := some s.clk.now })
        | some t => if t + 9375000000 ≤ s.clk.now then u.powerHold false else u
      else u.onPower (fun p => { p with underSince := none }) := by
  intro u
  have hz : ¬ s.power.plimit = 0 := fun e => hl (by rw [e]; rfl)
  have hb : (s.power.mode == .run || s.power.mode == .idle) = true := by rcases hm with h | h <;> rw [h] <;> rfl
  unfold doPowerLimitThrottle
  refine if_neg ?_
  rw [Bool.or_eq_true, not_or]
  refine ⟨fun e => hz (of_decide_eq_true e), fun e => ?_⟩
  rw [show (u.power.mode == .run || u.power.mode == .idle) = true from hb] at e
  exact absurd e (by simp)

/-- The hold of the power limit, put on or taken off. -/
theorem State.powerHold_facts (on : Bool) :
    ∃ v : State, s.powerHold on = (v.pfVector 4).settle ∧ v.power = { s.power with throttle := on, overSince := none, underSince := none } ∧
      (∀ d, (v.port d).throttle = (on || s.therm.throttle || tget false s.therm.dieThrottle (1 + d.val / 24))) ∧ v.out = s.out ∧ v.prog = s.prog := by
  refine ⟨_, rfl, State.rethrottle_power _, fun d => ?_, State.rethrottle_out _, State.rethrottle_prog _⟩
  rw [State.rethrottle_port, State.halfRate]
  rfl

/-! #### The inlet (R103, R508) -/

theorem mem_logPut (l : List FaultEntry) (e : FaultEntry) : e ∈ logPut l e := by
  unfold logPut
  split
  · simp
  · split <;> simp

/-- A fault that does not count puts its entry into a log in service. -/
theorem State.logFault_uncounted_entry {kind : Byte} {detail : W64} (site who : W32) (hc : faultCounted kind detail = false) (hd : s.data.inService = true) :
    ∃ e ∈ (s.logFault kind site who detail).faults.log, e.kind = kind ∧ e.site = site ∧ e.detail = detail := by
  have hfaults : (s.logFault kind site who detail).faults = ((s.fireReport site).logEntry kind (faultClass kind detail) 0 site who detail).faults := by
    unfold State.logFault
    dsimp only
    rw [hc]
    rfl
  have hin : (!(s.fireReport site).data.inService) = false := by rw [State.fireReport_data, hd]; rfl
  rw [hfaults]
  unfold State.logEntry
  dsimp only
  rw [hin, if_neg (by simp), State.pfVector_faults]
  exact ⟨_, mem_logPut _ _, rfl, rfl, rfl⟩

/-- The hold of the inlet temperature, put on or taken off, with its entry. -/
theorem State.inletHold_facts (on : Bool) (reading : W16) :
    ∃ v : State, s.inletHold on reading = (v.pfVector 4).settle ∧ v.prog = s.prog ∧ v.queues = s.queues ∧
      (s.data.inService = true → v.faults.next = s.faults.next + 1 ∧
        ∃ e ∈ v.faults.log, e.kind = 8 ∧ e.site = inletSite ∧ e.detail = BitVec.ofNat 64 (65536 * reading.toNat)) ∧
      v.therm = { s.therm with throttle := on, overSince := none, underSince := none } ∧
      ∀ d, (v.port d).throttle = (s.power.throttle || on || tget false s.therm.dieThrottle (1 + d.val / 24)) := by
  obtain ⟨u, hu⟩ : ∃ u : State, u = s.logFault 8 inletSite whoNone (BitVec.ofNat 64 (65536 * reading.toNat)) := ⟨_, rfl⟩
  have hpow : u.power.throttle = s.power.throttle := by
    rw [hu]
    exact State.logFault_keeps (fun v => v.power.throttle) (fun _ _ => rfl) (fun _ _ => rfl) (fun v u n => by unfold State.fire; split <;> rfl)
      (fun v fn x => by rw [State.vector_power]) _ _ _ _ _
  have htherm : u.therm = s.therm := by rw [hu, State.logFault_therm]
  refine ⟨(u.onTherm (fun t => { t with throttle := on, overSince := none, underSince := none })).rethrottle, by rw [hu]; rfl,
    (State.rethrottle_prog _).trans (by rw [hu]; exact State.logFault_prog _ _ _ _ _), (State.rethrottle_queues _).trans (by rw [hu]; exact State.logFault_queues _ _ _ _ _),
    fun hd => ?_, (State.rethrottle_therm _).trans (congrArg (fun t : Thermal => { t with throttle := on, overSince := none, underSince := none }) htherm),
    fun d => ?_⟩
  · rw [State.rethrottle_faults]
    change u.faults.next = _ ∧ ∃ e ∈ u.faults.log, _
    rw [hu]
    exact ⟨State.logFault_uncounted_next _ _ rfl hd, State.logFault_uncounted_entry _ _ rfl hd⟩
  · rw [State.rethrottle_port, State.halfRate, ← hpow, ← htherm]
    rfl

theorem holdSince_some {now k : Nat} {old : Option Nat} (h : old = some k) : holdSince now old true = some k := by rw [h]; rfl

theorem heldFor_some (now span k : Nat) : heldFor now span (some k) = decide (k + span ≤ now) := rfl

theorem State.measureInlet_clk (s : State) (a b : W16) : (s.measureInlet a b).clk = s.clk := rfl

theorem State.measureInlet_throttle (s : State) (a b : W16) : (s.measureInlet a b).therm.throttle = s.therm.throttle := rfl

theorem State.measureInlet_disagreed (s : State) (a b : W16) : (s.measureInlet a b).therm.disagreed = s.therm.disagreed := rfl

theorem secondTicks_eq : Config.secondTicks = 156250000 := rfl

theorem tenSecTicks_eq : Config.tenSecTicks = 1562500000 := rfl

theorem minuteTicks_eq : Config.minuteTicks = 9375000000 := rfl

theorem State.logSensor_facts (site : W32) (reading : Option W16) (hd : s.data.inService = true) :
    (s.logSensor site reading).therm = s.therm ∧ (s.logSensor site reading).faults.next = s.faults.next + 1 ∧ (s.logSensor site reading).ports = s.ports :=
  ⟨State.logFault_therm _ _ _ _ _, State.logFault_uncounted_next _ _ rfl hd, State.logFault_ports _ _ _ _ _⟩

theorem inletWarnCrossed_facts (a b : W16) :
    (s.list.loaded = true → s.list.inletWarn.toInt < (higher a b).toInt → s.therm.warned = false → s.data.inService = true →
      ∃ u : State, doInletWarnCrossed a b s = u.settle ∧ u.therm = { s.therm with inletA := a, inletB := b, warned := true } ∧
        u.faults.next = s.faults.next + 1 ∧ u.ports = s.ports) ∧
    ((s.list.loaded = false ∨ (higher a b).toInt ≤ s.list.inletWarn.toInt) →
      doInletWarnCrossed a b s = s.onTherm (fun t => { t with inletA := a, inletB := b, warned := false })) := by
  refine ⟨fun hl hw hno hd => ?_, fun h => ?_⟩
  · refine ⟨_, if_pos ?_, State.logSensor_facts _ _ hd⟩
    change (s.list.loaded && decide (s.list.inletWarn.toInt < (higher a b).toInt) && !s.therm.warned) = true
    rw [hl, decide_eq_true hw, hno]
    rfl
  · have habove : (s.list.loaded && decide (s.list.inletWarn.toInt < (higher a b).toInt)) = false := by
      rcases h with h | h
      · rw [h, Bool.false_and]
      · rw [decide_eq_false (by omega), Bool.and_false]
    have hu : (s.measureInlet a b).list = s.list := rfl
    unfold doInletWarnCrossed
    dsimp only
    rw [hu, habove]
    rfl

theorem inletThrottle_facts (a b : W16) :
    (s.list.loaded = true → s.list.inletMax.toInt < (higher a b).toInt → s.therm.throttle = false → ∀ k, s.therm.overSince = some k →
      (s.clk.now < k + 156250000 → doInletThrottle a b s = s.measureInlet a b) ∧
      (k + 156250000 ≤ s.clk.now → doInletThrottle a b s = (s.measureInlet a b).inletHold true (higher a b))) ∧
    ((s.list.loaded = false ∨ (higher a b).toInt ≤ s.list.inletMax.toInt) →
      doInletThrottle a b s = s.onTherm (fun t => { t with inletA := a, inletB := b, overSince := none })) := by
  have hsame : ∀ k, s.therm.overSince = some k → (s.measureInlet a b).onTherm (fun t => { t with overSince := some k }) = s.measureInlet a b :=
    fun k hk => by rw [← hk]; rfl
  have hu : (s.measureInlet a b).list = s.list ∧ (s.measureInlet a b).clk = s.clk ∧ (s.measureInlet a b).therm.overSince = s.therm.overSince := ⟨rfl, rfl, rfl⟩
  obtain ⟨hul, huc, huo⟩ := hu
  refine ⟨fun hl hm ht k hk => ?_, fun h => ?_⟩
  · have hdo : doInletThrottle a b s = if decide (k + 156250000 ≤ s.clk.now) && !s.therm.throttle then (s.measureInlet a b).inletHold true (higher a b)
        else s.measureInlet a b := by
      unfold doInletThrottle
      dsimp only
      rw [hul, hl, decide_eq_true hm, Bool.and_true, holdSince_some (huo.trans hk), hsame k hk, heldFor_some, secondTicks_eq, s.measureInlet_clk, s.measureInlet_throttle]
    rw [hdo, ht, Bool.not_false, Bool.and_true]
    exact ⟨fun hn => if_neg (by rw [decide_eq_false (by omega)]; exact Bool.false_ne_true), fun hn => if_pos (decide_eq_true hn)⟩
  · have hno : (s.list.loaded && decide (s.list.inletMax.toInt < (higher a b).toInt)) = false := by
      rcases h with h | h
      · rw [h, Bool.false_and]
      · rw [decide_eq_false (by omega), Bool.and_false]
    unfold doInletThrottle
    dsimp only
    rw [hul, hno]
    rfl

theorem inletThrottleRelease_facts (a b : W16) :
    (s.list.loaded = true → (higher a b).toInt < s.list.inletWarn.toInt → s.therm.throttle = true → ∀ k, s.therm.underSince = some k →
      (s.clk.now < k + 9375000000 → doInletThrottleRelease a b s = s.measureInlet a b) ∧
      (k + 9375000000 ≤ s.clk.now → doInletThrottleRelease a b s = (s.measureInlet a b).inletHold false (higher a b))) ∧
    (s.list.inletWarn.toInt ≤ (higher a b).toInt →
      doInletThrottleRelease a b s = s.onTherm (fun t => { t with inletA := a, inletB := b, underSince := none })) := by
  have hsame : ∀ k, s.therm.underSince = some k → (s.measureInlet a b).onTherm (fun t => { t with underSince := some k }) = s.measureInlet a b :=
    fun k hk => by rw [← hk]; rfl
  have hul : (s.measureInlet a b).list = s.list := rfl
  have huo : (s.measureInlet a b).therm.underSince = s.therm.underSince := rfl
  refine ⟨fun hl hm ht k hk => ?_, fun h => ?_⟩
  · have hdo : doInletThrottleRelease a b s = if decide (k + 9375000000 ≤ s.clk.now) && s.therm.throttle then (s.measureInlet a b).inletHold false (higher a b)
        else s.measureInlet a b := by
      unfold doInletThrottleRelease
      dsimp only
      rw [hul, hl, decide_eq_true hm, Bool.and_true, holdSince_some (huo.trans hk), hsame k hk, heldFor_some, minuteTicks_eq, s.measureInlet_clk, s.measureInlet_throttle]
    rw [hdo, ht, Bool.and_true]
    exact ⟨fun hn => if_neg (by rw [decide_eq_false (by omega)]; exact Bool.false_ne_true), fun hn => if_pos (decide_eq_true hn)⟩
  · have hno : (s.list.loaded && decide ((higher a b).toInt < s.list.inletWarn.toInt)) = false := by
      rw [decide_eq_false (by omega), Bool.and_false]
    unfold doInletThrottleRelease
    dsimp only
    rw [hul, hno]
    rfl

theorem inletSensorDisagree_facts (a b : W16) :
    (50 < (a.toInt - b.toInt).natAbs → s.therm.disagreed = false → s.data.inService = true → ∀ k, s.therm.disagreeSince = some k →
      (s.clk.now < k + 1562500000 → doInletSensorDisagree a b s = s.measureInlet a b) ∧
      (k + 1562500000 ≤ s.clk.now → ∃ u : State, doInletSensorDisagree a b s = u.settle ∧ u.therm = { s.therm with inletA := a, inletB := b, disagreed := true } ∧
        u.faults.next = s.faults.next + 1 ∧ u.ports = s.ports)) ∧
    ((a.toInt - b.toInt).natAbs ≤ 50 →
      doInletSensorDisagree a b s = s.onTherm (fun t => { t with inletA := a, inletB := b, disagreeSince := none, disagreed := false })) := by
  have huo : (s.measureInlet a b).therm.disagreeSince = s.therm.disagreeSince := rfl
  refine ⟨fun hm hno hd k hk => ?_, fun h => ?_⟩
  · have hsame : (s.measureInlet a b).onTherm (fun t => { t with disagreeSince := some k, disagreed := t.disagreed && true }) = s.measureInlet a b := by
      simp only [Bool.and_true]
      rw [← hk]
      rfl
    have hdo : doInletSensorDisagree a b s = if decide (k + 1562500000 ≤ s.clk.now) && !s.therm.disagreed then
        (((s.measureInlet a b).onTherm (fun t => { t with disagreed := true })).logSensor inletSite (some (higher a b))).settle else s.measureInlet a b := by
      unfold doInletSensorDisagree
      dsimp only
      rw [decide_eq_true hm, holdSince_some (huo.trans hk), hsame, heldFor_some, tenSecTicks_eq, s.measureInlet_clk, s.measureInlet_disagreed]
    rw [hdo, hno, Bool.not_false, Bool.and_true]
    exact ⟨fun hn => if_neg (by rw [decide_eq_false (by omega)]; exact Bool.false_ne_true),
      fun hn => ⟨_, if_pos (decide_eq_true hn), State.logSensor_facts _ _ hd⟩⟩
  · unfold doInletSensorDisagree
    dsimp only
    rw [decide_eq_false (by omega)]
    simp only [Bool.and_false]
    rfl

/-! #### The dies (R509) -/

theorem heldFor_none (now span : Nat) : heldFor now span none = false := rfl

/-- The temperatures that a sample of a die leaves. -/
def Thermal.sampled (x : Thermal) (now d : Nat) (c : W16) : Thermal :=
  { x with
    dieTemp := tset x.dieTemp d c
    dieHotSince := optSet (optSet x.dieHotSince d (holdSince now (tfind x.dieHotSince d) (decide ((Config.dieMaxT : Int) < c.toInt)))) (8 + d)
      (holdSince now (tfind x.dieHotSince (8 + d)) (decide ((Config.dieWithdrawT : Int) < c.toInt))) }

theorem tfind_optSet_none {α : Type} (t : Table α) (k j : Nat) (v : Option α) (h : j ≠ k) : tfind (optSet (optSet t j none) k v) j = none := by
  cases v with
  | none => exact (tfind_tdel_ne _ _ _ h).trans (tfind_tdel_same _ _)
  | some x => exact (tfind_tset_ne _ _ _ _ h).trans (tfind_tdel_same _ _)

/-- A sample of a channel die. -/
theorem doDieOverTemperature_die {die : Fin 5} {c : W16} {d : Die} (hd : d.val + 1 = die.val) :
    let u := s.onTherm (fun x => x.sampled s.clk.now die.val c)
    let hot := holdSince s.clk.now (tfind s.therm.dieHotSince die.val) (decide ((Config.dieMaxT : Int) < c.toInt))
    let severe := holdSince s.clk.now (tfind s.therm.dieHotSince (8 + die.val)) (decide ((Config.dieWithdrawT : Int) < c.toInt))
    let v := if heldFor s.clk.now Config.secondTicks hot && !tget false s.therm.dieThrottle die.val then
      ((u.onTherm (fun t => { t with dieThrottle := tset t.dieThrottle die.val true })).dieAlarm d).rethrottle else u
    doDieOverTemperature die c s =
      (if heldFor s.clk.now Config.secondTicks severe && !tget false v.therm.dieWithdrawn die.val then v.withdrawDie die.val else v).settle := by
  intro u hot severe v
  have hd' : (⟨die.val - 1, by omega⟩ : Die) = d := Fin.ext (by simp only; omega)
  unfold doDieOverTemperature
  dsimp only
  rw [dif_pos (by omega), hd']
  rfl

theorem dieMaxT_eq : (Config.dieMaxT : Int) = 1050 := rfl

theorem dieWithdrawT_eq : (Config.dieWithdrawT : Int) = 1150 := rfl

theorem dieReleaseT_eq : (Config.dieReleaseT : Int) = 950 := rfl

theorem holdSince_false (now : Nat) (old : Option Nat) : holdSince now old false = none := rfl

theorem sampled_cool {x : Thermal} {now d : Nat} {c : W16} (h : c.toInt ≤ 1050) :
    tfind (x.sampled now d c).dieTemp d = some c ∧ tfind (x.sampled now d c).dieHotSince d = none := by
  refine ⟨tfind_tset_same _ _ _, ?_⟩
  rw [Thermal.sampled, dieMaxT_eq, decide_eq_false (by omega), holdSince_false]
  exact tfind_optSet_none _ _ _ _ (by omega)

theorem State.dieAlarm_facts (d : Die) : ((s.dieAlarm d).evu 0).isPend (258 + d.val) = true ∧ (s.dieAlarm d).out = s.out ∧
    (s.dieAlarm d).power.domains = s.power.domains ∧ (s.dieAlarm d).therm = s.therm := by
  have hdom : ∀ (v : State) u n, (v.fire u n).power.domains = v.power.domains := fun v u n => by unfold State.fire; split <;> rfl
  refine ⟨?_, (State.fire_out _ _ _).trans (State.fire_out _ _ _), (hdom _ _ _).trans (hdom _ _ _), (State.fire_therm _ _ _).trans (State.fire_therm _ _ _)⟩
  have hd := d.isLt
  have hreal : sourceReal 0 (258 + d.val) = true := by
    rw [sourceReal, if_pos rfl, Bool.and_eq_true, decide_eq_true_eq, decide_eq_true_eq]
    omega
  rw [State.dieAlarm, State.fire_isPend _ 0 _ _ hreal rfl, beq_self_eq_true, Bool.or_true]

/-- A channel die above 105 degrees for 1 s puts its ports at half rate. -/
theorem dieOverTemperature_hot {die : Fin 5} {c : W16} {k : Nat} (hd : 0 < die.val) (h1 : 1050 < c.toInt) (h2 : c.toInt ≤ 1150)
    (ht : tget false s.therm.dieThrottle die.val = false) (hk : tfind s.therm.dieHotSince die.val = some k) (hn : k + 156250000 ≤ s.clk.now) :
    ∃ u : State, doDieOverTemperature die c s = u.settle ∧ tget false u.therm.dieThrottle die.val = true ∧
      (∀ d : DPort, 1 + d.val / 24 = die.val → (u.port d).throttle = true) ∧ (u.evu 0).isPend (257 + die.val) = true ∧ u.out = s.out ∧
      u.power.domains = s.power.domains := by
  obtain ⟨d, hd'⟩ : ∃ d : Die, d.val + 1 = die.val := ⟨⟨die.val - 1, by omega⟩, by simp only; omega⟩
  have hdo := doDieOverTemperature_die (s := s) (c := c) hd'
  dsimp only at hdo
  rw [dieMaxT_eq, dieWithdrawT_eq, decide_eq_true h1, decide_eq_false (by omega), holdSince_some hk, holdSince_false, heldFor_some, heldFor_none, secondTicks_eq,
    decide_eq_true hn, ht, Bool.not_false, Bool.and_true, if_pos rfl, Bool.false_and, if_neg Bool.false_ne_true] at hdo
  generalize hu : (s.onTherm (fun x => x.sampled s.clk.now die.val c)).onTherm (fun t => { t with dieThrottle := tset t.dieThrottle die.val true }) = u at hdo
  obtain ⟨hpend, hout, hdom, htherm⟩ := u.dieAlarm_facts d
  have hset : tget false u.therm.dieThrottle die.val = true := by rw [← hu]; exact tget_tset_same _ _ _ _
  refine ⟨_, hdo, by rw [State.rethrottle_therm, htherm, hset], fun e he => ?_, ?_, ?_, ?_⟩
  · rw [State.rethrottle_port, State.halfRate, htherm, he, hset, Bool.or_true]
  · rw [State.evu, State.rethrottle_evus, show 257 + die.val = 258 + d.val by omega]
    exact hpend
  · rw [State.rethrottle_out, hout, ← hu]
    rfl
  · rw [State.rethrottle_power, hdom, ← hu]
    rfl

/-- A channel die at half rate and above 115 degrees for 1 s is withdrawn. -/
theorem dieOverTemperature_severe {die : Fin 5} {c : W16} {k : Nat} (hd : 0 < die.val) (h : 1150 < c.toInt)
    (ht : tget false s.therm.dieThrottle die.val = true) (hw : tget false s.therm.dieWithdrawn die.val = false)
    (hk : tfind s.therm.dieHotSince (8 + die.val) = some k) (hn : k + 156250000 ≤ s.clk.now) :
    doDieOverTemperature die c s = ((s.onTherm (fun x => x.sampled s.clk.now die.val c)).withdrawDie die.val).settle := by
  obtain ⟨d, hd'⟩ : ∃ d : Die, d.val + 1 = die.val := ⟨⟨die.val - 1, by omega⟩, by simp only; omega⟩
  have hdo := doDieOverTemperature_die (s := s) (c := c) hd'
  dsimp only at hdo
  have hw' : tget false (s.onTherm (fun x => x.sampled s.clk.now die.val c)).therm.dieWithdrawn die.val = false := hw
  rw [ht, Bool.not_true, Bool.and_false, if_neg Bool.false_ne_true, dieWithdrawT_eq, decide_eq_true h, holdSince_some hk, heldFor_some, secondTicks_eq,
    decide_eq_true hn, hw', Bool.not_false, Bool.and_true, if_pos rfl] at hdo
  exact hdo

/-- The hub above 115 degrees for 1 s makes the module safe. -/
theorem dieOverTemperature_hub {c : W16} {k : Nat} (h : 1150 < c.toInt) (hk : tfind s.therm.dieHotSince 8 = some k) (hn : k + 156250000 ≤ s.clk.now) :
    doDieOverTemperature 0 c s = ((s.onTherm (fun x => x.sampled s.clk.now 0 c)).enterSafe 2 (dieSite 0)).settle := by
  have hheld : heldFor s.clk.now Config.secondTicks (holdSince s.clk.now (tfind s.therm.dieHotSince 8) (decide ((Config.dieWithdrawT : Int) < c.toInt))) = true := by
    rw [dieWithdrawT_eq, decide_eq_true h, holdSince_some hk, heldFor_some, secondTicks_eq, decide_eq_true hn]
  unfold doDieOverTemperature
  dsimp only
  rw [dif_neg (by decide)]
  exact if_pos hheld

/-- The temperatures that a sample below the release leaves. -/
def Thermal.cooled (x : Thermal) (now d : Nat) (c : W16) : Thermal :=
  { x with dieTemp := tset x.dieTemp d c, dieCoolSince := optSet x.dieCoolSince d (holdSince now (tfind x.dieCoolSince d) (decide (c.toInt < (Config.dieReleaseT : Int)))) }

theorem dieTemperatureRelease_warm {die : Fin 5} {c : W16} (h : 950 ≤ c.toInt) :
    doDieTemperatureRelease die c s = s.onTherm (fun x => x.cooled s.clk.now die.val c) ∧
      tfind (s.therm.cooled s.clk.now die.val c).dieCoolSince die.val = none := by
  have hnone : holdSince s.clk.now (tfind s.therm.dieCoolSince die.val) (decide (c.toInt < (Config.dieReleaseT : Int))) = none := by
    rw [dieReleaseT_eq, decide_eq_false (by omega), holdSince_false]
  refine ⟨if_neg ?_, ?_⟩
  · rw [hnone, heldFor_none]
    exact Bool.false_ne_true
  · rw [Thermal.cooled, hnone]
    exact tfind_tdel_same _ _

/-- A die below 95 degrees for 60 s is released. -/
theorem doDieTemperatureRelease_due {die : Fin 5} {c : W16}
    (h : heldFor s.clk.now Config.minuteTicks (holdSince s.clk.now (tfind s.therm.dieCoolSince die.val) (decide (c.toInt < (Config.dieReleaseT : Int)))) = true) :
    let u := s.onTherm (fun x => x.cooled s.clk.now die.val c)
    let v := if tget false u.therm.dieThrottle die.val then (u.onTherm (fun t => { t with dieThrottle := tdel t.dieThrottle die.val })).rethrottle else u
    doDieTemperatureRelease die c s = (if tget false v.therm.dieWithdrawn die.val then v.returnDie die.val else v).settle := if_pos h

/-- A die below 95 degrees for 60 s lets its ports run at full rate where nothing else holds them. -/
theorem dieTemperatureRelease_cold {die : Fin 5} {c : W16} {k : Nat} (h : c.toInt < 950) (ht : tget false s.therm.dieThrottle die.val = true)
    (hw : tget false s.therm.dieWithdrawn die.val = false) (hp : s.power.throttle = false) (hi : s.therm.throttle = false)
    (hk : tfind s.therm.dieCoolSince die.val = some k) (hn : k + 9375000000 ≤ s.clk.now) :
    ∃ u : State, doDieTemperatureRelease die c s = u.settle ∧ tget false u.therm.dieThrottle die.val = false ∧
      (∀ d : DPort, 1 + d.val / 24 = die.val → (u.port d).throttle = false) ∧ u.out = s.out := by
  obtain ⟨v, hv⟩ : ∃ v : State, v = (s.onTherm (fun x => x.cooled s.clk.now die.val c)).onTherm (fun t => { t with dieThrottle := tdel t.dieThrottle die.val }) := ⟨_, rfl⟩
  have hheld : heldFor s.clk.now Config.minuteTicks (holdSince s.clk.now (tfind s.therm.dieCoolSince die.val) (decide (c.toInt < (Config.dieReleaseT : Int)))) = true := by
    rw [dieReleaseT_eq, decide_eq_true h, holdSince_some hk, heldFor_some, minuteTicks_eq, decide_eq_true hn]
  have hw' : tget false v.rethrottle.therm.dieWithdrawn die.val = false := by rw [State.rethrottle_therm, hv]; exact hw
  have hset : tget false v.therm.dieThrottle die.val = false := by rw [hv]; exact tget_tdel_same _ _ _
  have ht' : tget false (s.onTherm (fun x => x.cooled s.clk.now die.val c)).therm.dieThrottle die.val = true := ht
  have hdo : doDieTemperatureRelease die c s = v.rethrottle.settle := by
    have hdue := doDieTemperatureRelease_due hheld
    dsimp only at hdue
    rw [ht', if_pos rfl, ← hv, hw', if_neg Bool.false_ne_true] at hdue
    exact hdue
  refine ⟨_, hdo, by rw [State.rethrottle_therm, hset], fun d hd => ?_, by rw [State.rethrottle_out, hv]; rfl⟩
  rw [State.rethrottle_port, State.halfRate, hd, hset, Bool.or_false, show v.power.throttle = false by rw [hv]; exact hp,
    show v.therm.throttle = false by rw [hv]; exact hi, Bool.or_false]

/-! #### The windows of the staging memory (R226, R227) -/

theorem satInc_eq_iff {n : Nat} (hn : 0 < n) (x : BitVec n) : satInc x = x ↔ x = BitVec.allOnes n := by
  unfold satInc
  split
  · next h => exact ⟨fun _ => h, fun _ => rfl⟩
  · next h =>
    refine ⟨fun e => ?_, fun e => absurd e h⟩
    have hone := congrArg BitVec.toNat (add_eq_left.mp e)
    simp [Nat.mod_eq_of_lt (Nat.one_lt_two_pow (by omega : n ≠ 0))] at hone

/-- The held requests of a window count where there are any. -/
theorem smallBudgetWindow_facts (c0 c1 : CtrlLoad) (hd : s.data.inService = true) :
    (doSmallBudgetWindow ⟨c0, c1⟩ s).data.smallHeld = s.data.smallHeld ↔
      (heldSmall c0 (tget [] s.data.smallQ 0) = [] ∧ heldSmall c1 (tget [] s.data.smallQ 1) = []) ∨ s.data.smallHeld = 0xFFFFFFFF := by
  have hdo : (doSmallBudgetWindow ⟨c0, c1⟩ s).data.smallHeld =
      if (heldSmall c0 (tget [] s.data.smallQ 0)).isEmpty && (heldSmall c1 (tget [] s.data.smallQ 1)).isEmpty then s.data.smallHeld
      else satInc s.data.smallHeld := by
    unfold doSmallBudgetWindow
    rw [hd]
    rfl
  rw [hdo]
  by_cases h : heldSmall c0 (tget [] s.data.smallQ 0) = [] ∧ heldSmall c1 (tget [] s.data.smallQ 1) = []
  · rw [h.1, h.2]
    exact ⟨fun _ => .inl ⟨rfl, rfl⟩, fun _ => rfl⟩
  · rw [if_neg (by simpa using h), satInc_eq_iff (by decide)]
    exact ⟨.inr, fun e => e.resolve_left h⟩

theorem imbalanceWindow_peak (counts : List Nat) (hd : s.data.inService = true) :
    (doImbalanceWindow counts s).data.imbalPk =
      if s.data.imbalPk.setWidth 16 < (doImbalanceWindow counts s).data.imbal.setWidth 16 then (doImbalanceWindow counts s).data.imbal else s.data.imbalPk := by
  unfold doImbalanceWindow
  rw [hd]
  dsimp only
  by_cases h : ((List.range 64).all (fun i => counts.getD i 0 == 0)) = true
  · rw [h]
    rfl
  · rw [Bool.eq_false_iff.mpr h]
    rfl

end

/-- Settles O49. -/
theorem limitsAndTemperatures : Obligations.LimitsAndTemperatures := by
  refine ⟨fun w s => ?_, fun a b s => ?_, fun die c s => ?_, fun c0 c1 counts s hd => ?_⟩
  · intro x limit
    refine ⟨fun h => congrArg Host.Outcome.next (powerLimit_released w h), fun hl hm ht => ?_, fun hl hm ht => ?_⟩
    · have hdo := powerLimit_held (s := s) w hl hm
      dsimp only at hdo
      rw [ht, Bool.not_false, if_pos rfl] at hdo
      refine ⟨fun h => ?_, fun h ho => ?_, fun k h ho hn => ?_, fun k h ho hn => ?_⟩
      · rw [if_neg (by omega)] at hdo
        exact congrArg Host.Outcome.next hdo
      · rw [if_pos h, ho] at hdo
        exact congrArg Host.Outcome.next hdo
      · rw [if_pos h, ho] at hdo
        exact congrArg Host.Outcome.next (hdo.trans (if_neg (by omega)))
      · rw [if_pos h, ho] at hdo
        obtain ⟨v, hv, hp, hports, hout, hprog⟩ := State.powerHold_facts (s := s.onPower (fun p => { p with input := w })) true
        exact ⟨_, v, congrArg Host.Outcome.next ((hdo.trans (if_pos hn)).trans hv), rfl, hp, hports, hout, hprog⟩
    · have hdo := powerLimit_held (s := s) w hl hm
      dsimp only at hdo
      rw [ht, Bool.not_true, if_neg Bool.false_ne_true] at hdo
      refine ⟨fun h => ?_, fun h ho => ?_, fun k h ho hn => ?_⟩
      · rw [if_neg (by omega)] at hdo
        exact congrArg Host.Outcome.next hdo
      · rw [if_pos h, ho] at hdo
        exact congrArg Host.Outcome.next hdo
      · rw [if_pos h, ho] at hdo
        obtain ⟨v, hv, hp, hports, hout, -⟩ := State.powerHold_facts (s := s.onPower (fun p => { p with input := w })) false
        exact ⟨_, v, congrArg Host.Outcome.next ((hdo.trans (if_pos hn)).trans hv), rfl, hp, fun d => (hports d).trans (by rw [Bool.false_or]; rfl), hout⟩
  · intro hot x logged
    obtain ⟨hwarn, hnowarn⟩ := inletWarnCrossed_facts (s := s) a b
    obtain ⟨hover, hnover⟩ := inletThrottle_facts (s := s) a b
    obtain ⟨hrel, hnrel⟩ := inletThrottleRelease_facts (s := s) a b
    obtain ⟨hdis, hndis⟩ := inletSensorDisagree_facts (s := s) a b
    have hold : ∀ on, ∃ v : State, (s.measureInlet a b).inletHold on hot = (v.pfVector 4).settle ∧ logged v ∧
        v.therm = { x with throttle := on, overSince := none, underSince := none } ∧
        ∀ d, (v.port d).throttle = (s.power.throttle || on || tget false s.therm.dieThrottle (1 + d.val / 24)) := by
      intro on
      obtain ⟨v, hv, hprog, hqueues, hlog, htherm, hports⟩ := (s.measureInlet a b).inletHold_facts on hot
      exact ⟨v, hv, ⟨hprog, hqueues, hlog⟩, htherm, hports⟩
    refine ⟨fun h1 h2 h3 h4 => ?_, fun h => congrArg Host.Outcome.next (hnowarn h), fun h1 h2 h3 k hk => ?_, fun h => congrArg Host.Outcome.next (hnover h),
      fun h1 h2 h3 k hk => ?_, fun h => congrArg Host.Outcome.next (hnrel h), fun h1 h2 h3 k hk => ?_, fun h => congrArg Host.Outcome.next (hndis h)⟩
    · obtain ⟨u, hu, hrest⟩ := hwarn h1 h2 h3 h4
      exact ⟨u, congrArg Host.Outcome.next hu, hrest⟩
    · refine ⟨fun hn => congrArg Host.Outcome.next ((hover h1 h2 h3 k hk).1 hn), fun hn => ?_⟩
      obtain ⟨v, hv, hlog, htherm, hports⟩ := hold true
      exact ⟨_, v, congrArg Host.Outcome.next (((hover h1 h2 h3 k hk).2 hn).trans hv), rfl, hlog, htherm, fun d => by rw [hports, Bool.or_true, Bool.true_or]⟩
    · refine ⟨fun hn => congrArg Host.Outcome.next ((hrel h1 h2 h3 k hk).1 hn), fun hn => ?_⟩
      obtain ⟨v, hv, hlog, htherm, hports⟩ := hold false
      exact ⟨_, v, congrArg Host.Outcome.next (((hrel h1 h2 h3 k hk).2 hn).trans hv), rfl, hlog, htherm, fun d => by rw [hports, Bool.or_false]⟩
    · refine ⟨fun hn => congrArg Host.Outcome.next ((hdis h1 h2 h3 k hk).1 hn), fun hn => ?_⟩
      obtain ⟨u, hu, hrest⟩ := (hdis h1 h2 h3 k hk).2 hn
      exact ⟨u, congrArg Host.Outcome.next hu, hrest⟩
  · refine ⟨fun h hd => ?_, fun hd h1 h2 ht k hk hn => ?_, fun hd h ht hw k hk hn => ?_, fun hd h k hk hn => ?_, fun h => ?_, fun h ht hw hp hi k hk hn => ?_⟩
    · obtain ⟨d, hd'⟩ : ∃ d : Die, d.val + 1 = die.val := ⟨⟨die.val - 1, by omega⟩, by simp only; omega⟩
      have hdo := doDieOverTemperature_die (s := s) (c := c) hd'
      dsimp only at hdo
      rw [dieMaxT_eq, dieWithdrawT_eq, decide_eq_false (by omega), decide_eq_false (by omega), holdSince_false, holdSince_false, heldFor_none, Bool.false_and,
        if_neg Bool.false_ne_true, Bool.false_and, if_neg Bool.false_ne_true] at hdo
      obtain ⟨htemp, hhot⟩ := sampled_cool (x := s.therm) (now := s.clk.now) (d := die.val) h
      exact ⟨_, congrArg Host.Outcome.next hdo, htemp, hhot, rfl, rfl, rfl⟩
    · obtain ⟨u, hu, hrest⟩ := dieOverTemperature_hot hd h1 h2 ht hk hn
      exact ⟨u, congrArg Host.Outcome.next hu, hrest⟩
    · exact ⟨_, congrArg Host.Outcome.next (dieOverTemperature_severe hd h ht hw hk hn), rfl, tfind_tset_same _ _ _⟩
    · subst hd
      exact ⟨_, congrArg Host.Outcome.next (dieOverTemperature_hub h hk hn), rfl, tfind_tset_same _ _ _⟩
    · obtain ⟨hdo, hcool⟩ := dieTemperatureRelease_warm (s := s) (die := die) h
      exact ⟨_, congrArg Host.Outcome.next hdo, tfind_tset_same _ _ _, hcool, rfl⟩
    · obtain ⟨u, hu, hrest⟩ := dieTemperatureRelease_cold h ht hw hp hi hk hn
      exact ⟨u, congrArg Host.Outcome.next hu, hrest⟩
  · exact ⟨⟨_, rfl, smallBudgetWindow_facts c0 c1 hd⟩, ⟨_, rfl, imbalanceWindow_peak counts hd⟩⟩

end Sys2Proof.Machine

namespace Sys2Proof.Machine
open Sys2Proof

/-! ### Full resets (R454, R455) -/

section
variable {s : State}

theorem tget_map_found {α β : Type} (t : Table α) (d : α) (f : α → β) (n : Nat) : tget (f d) (t.map (fun k => (k.1, f k.2))) n = f (tget d t n) := by
  induction t with
  | nil => rfl
  | cons k t ih =>
    by_cases h : k.1 = n
    · simp [tget, tfind, h]
    · simpa [tget, tfind, h] using ih

/-- A table of which the entries that satisfy a condition stay, all alike: what is found is that entry, or nothing. -/
theorem tget_filter_const {α : Type} (t : Table α) (P : α → Bool) (d y : α) (n : Nat) :
    (tget d ((t.filter (fun k => P k.2)).map (fun k => (k.1, y))) n = d ∨ tget d ((t.filter (fun k => P k.2)).map (fun k => (k.1, y))) n = y) ∧
      (P (tget d t n) = true → P d = false → tget d ((t.filter (fun k => P k.2)).map (fun k => (k.1, y))) n = y) := by
  induction t with
  | nil => exact ⟨.inl rfl, fun h1 h2 => absurd h1 (by rw [show tget d ([] : Table α) n = d from rfl, h2]; exact Bool.false_ne_true)⟩
  | cons k t ih =>
    by_cases hk : k.1 = n <;> by_cases hp : P k.2 = true
    · simp [tget, tfind, hk, hp]
    · refine ⟨?_, fun h => absurd h ?_⟩
      · rw [List.filter_cons_of_neg (by simpa using hp)]
        exact ih.1
      · simpa [tget, tfind, hk] using hp
    · simpa [tget, tfind, hk, hp] using ih
    · simpa [tget, tfind, hk, hp] using ih

theorem State.unpowered_port (s : State) (d : DPort) : (s.unpowered.port d).link = 0 ∧ (s.unpowered.port d).exch = [] ∧ (s.unpowered.port d).fences = [] ∧
    ((s.port d).retired = true → (s.unpowered.port d).retired = true) := by
  obtain ⟨hone, hret⟩ := tget_filter_const s.ports.ports (fun p : Port => p.retired) {} { retired := true } d.val
  have hport : s.unpowered.port d = tget {} ((s.ports.ports.filter (fun (p : Nat × Port) => p.2.retired)).map (fun p => (p.1, ({ retired := true } : Port)))) d.val := rfl
  rw [hport]
  refine ⟨?_, ?_, ?_, fun h => ?_⟩
  · rcases hone with h | h <;> rw [h]
  · rcases hone with h | h <;> rw [h]
  · rcases hone with h | h <;> rw [h]
  · rw [hret h rfl]

theorem State.unpowered_host (s : State) (p : HPort) : s.unpowered.host p = { perst := (s.host p).perst } :=
  tget_map_found s.hosts {} (fun h : HostPort => ({ perst := h.perst } : HostPort)) p.val

/-- RSTCAUSE is written, and the file is in order. -/
theorem State.stampCause_facts (s : State) (cause : Byte) : (s.stampCause cause).keeper.ret.rstCause = cause ∧ retValid (s.stampCause cause).keeper.ret = true :=
  ⟨rfl, retValid_retSeal _⟩

/-- A module reset leaves the unpowered state, but for the keeper's cause and SMB_ALERT#. -/
theorem State.moduleReset_facts (s : State) (cause : Byte) :
    { s.moduleReset cause with keeper := s.unpowered.keeper, out := s.unpowered.out } = s.unpowered ∧ (s.moduleReset cause).keeper = (s.unpowered.stampCause cause).keeper := by
  unfold State.moduleReset
  dsimp only
  split <;> exact ⟨rfl, rfl⟩

/-! #### The SMBus target (R459, R505) -/

theorem State.smbusServed_eq (h : s.power.mode ≠ .hold) : s.smbusServed = true := by
  rw [State.smbusServed, bne_iff_ne]
  exact h

theorem State.smbusServed_hold (h : s.power.mode = .hold) : s.smbusServed = false := by
  rw [State.smbusServed, h]
  rfl

/-- The request, confirmed in time: every domain loses its power for 10 ms. -/
theorem smbusResetConfirm_facts (h : s.power.mode ≠ .hold) {k : Nat} (hk : s.side.armed = some k) (hn : s.clk.now < k) :
    ∃ t, doSmbusResetConfirm true s = t ∧ t.keeper.railAt = some (s.clk.now + 1562500) ∧ t.keeper.ret.rstCause = 4 ∧ t.side.armed = none ∧ t.power = {} ∧
      t.queues = {} ∧ t.prog = {} ∧ t.list = {} ∧ ∀ d, (t.port d).link = 0 := by
  obtain ⟨u, hu⟩ : ∃ u, u = s.onSide (fun x => { x with armed := none }) := ⟨_, rfl⟩
  obtain ⟨hframe, hkeeper⟩ := u.moduleReset_facts 4
  generalize hw : u.moduleReset 4 = w at hframe hkeeper
  have hdo : doSmbusResetConfirm true s = w.onKeeper (fun k => { k with railAt := some (w.clk.now + Config.ms10Ticks) }) := by
    have hok : ((s.side.armed.map (fun t => decide (s.clk.now < t))).getD false) = true := by rw [hk]; exact decide_eq_true hn
    unfold doSmbusResetConfirm
    rw [State.smbusServed_eq h]
    dsimp only
    rw [hok, ← hu, hw, show u.clk.now = w.clk.now from (congrArg (fun v : State => v.clk.now) hframe.symm :)]
    rfl
  have hnow : w.clk.now = s.clk.now := (congrArg (fun v : State => v.clk.now) hframe :).trans (by rw [hu]; rfl)
  refine ⟨_, hdo, by rw [hnow]; rfl, (congrArg (fun k : Keeper => k.ret.rstCause) hkeeper :), (congrArg (fun v : State => v.side.armed) hframe :).trans (by rw [hu]; rfl),
    (congrArg State.power hframe :), (congrArg State.queues hframe :), (congrArg State.prog hframe :), (congrArg State.list hframe :),
    fun d => (congrArg (fun v : State => (v.port d).link) hframe :).trans (u.unpowered_port d).1⟩

/-- Writes to the reset request, served. -/
theorem smbusResetRequest (h : s.power.mode ≠ .hold) :
    (s.side.armed = none → doSmbusResetArm true s = s.onSide (fun x => { x with armed := some (s.clk.now + 156250000) })) ∧
    (s.side.armed ≠ none → doSmbusResetArm true s = s.onSide (fun x => { x with armed := none })) ∧
    doSmbusResetArm false s = s ∧ doSmbusResetConfirm false s = s ∧ (∀ v, doSmbusResetCancel v false s = s) ∧
    (∀ v, v ≠ 0x5A → v ≠ 0xA5 → doSmbusResetCancel v true s = s.onSide (fun x => { x with armed := none })) := by
  have hs := State.smbusServed_eq h
  refine ⟨fun ha => ?_, fun ha => ?_, ?_, ?_, fun v => ?_, fun v h1 h2 => ?_⟩
  · unfold doSmbusResetArm
    rw [hs, secondTicks_eq]
    simp [State.onSide, ha]
  · obtain ⟨k, hk⟩ := Option.ne_none_iff_exists'.mp ha
    unfold doSmbusResetArm
    rw [hs]
    simp [State.onSide, hk]
  · unfold doSmbusResetArm
    rw [hs]
    rfl
  · unfold doSmbusResetConfirm
    rw [hs]
    rfl
  · unfold doSmbusResetCancel
    rw [hs]
    rfl
  · unfold doSmbusResetCancel
    rw [hs, if_neg (by simp), if_neg (by rw [decide_eq_false h1, decide_eq_false h2]; exact Bool.false_ne_true)]

theorem smbusResetConfirm_late (h : s.power.mode ≠ .hold) :
    (∀ k, s.side.armed = some k → k ≤ s.clk.now → doSmbusResetConfirm true s = s.onSide (fun x => { x with armed := none }) ∧
      doSmbusResetArmTimeout s = s.onSide (fun x => { x with armed := none })) ∧
    (s.side.armed = none → doSmbusResetConfirm true s = s) := by
  have hs := State.smbusServed_eq h
  refine ⟨fun k hk hn => ⟨?_, ?_⟩, fun hk => ?_⟩
  · unfold doSmbusResetConfirm
    rw [hs, hk]
    dsimp only
    rw [Option.map_some, Option.getD_some, decide_eq_false (by omega)]
    rfl
  · unfold doSmbusResetArmTimeout
    rw [hk]
    exact if_pos hn
  · unfold doSmbusResetConfirm
    rw [hs, hk]
    have hsame : s.onSide (fun x => { x with armed := none }) = s := by
      rw [State.onSide, ← hk]
    exact hsame

/-- Nothing is served in Hold. -/
theorem smbus_hold (h : s.power.mode = .hold) (v : Byte) (good : Bool) :
    doSmbusResetArm good s = s.emit .smbusNak ∧ doSmbusResetConfirm good s = s.emit .smbusNak ∧ doSmbusResetCancel v good s = s.emit .smbusNak := by
  have hs := State.smbusServed_hold h
  refine ⟨?_, ?_, ?_⟩
  · unfold doSmbusResetArm
    rw [hs]
    rfl
  · unfold doSmbusResetConfirm
    rw [hs]
    rfl
  · unfold doSmbusResetCancel
    rw [hs]
    rfl

/-! #### What the SMBus reads answer (R505) -/

theorem State.smbusReply_served (h : s.power.mode ≠ .hold) (o : Out) : s.smbusReply o = s.useFree.emit o := by
  rw [State.smbusReply, State.smbusServed_eq h]
  rfl

theorem State.hubWord_on (h : s.power.mode = .run ∨ s.power.mode = .idle) (v : W16) : s.hubWord v = s.useFree.emit (.smbusWord v) := by
  rw [State.hubWord, State.smbusReply_served (by rcases h with h | h <;> rw [h] <;> exact Mode.noConfusion)]
  rcases h with h | h <;> rw [h]

theorem State.hubWord_doze (h : s.power.mode = .doze) (v : W16) : s.hubWord v = s.useFree.emit (.smbusWord 0x8000) := by
  rw [State.hubWord, State.smbusReply_served (by rw [h]; exact Mode.noConfusion), h]

theorem State.smbusMode_eq (h1 : s.power.mode ≠ .hold) (h2 : s.power.mode ≠ .off) :
    s.smbusMode = BitVec.ofNat 8 ((if s.power.mode = .run then 0 else if s.power.mode = .idle then 1 else 2) + (if s.foggy then 4 else 0) +
      (if s.safe then 8 else 0) + (if s.list.loaded then 16 else 0)) := by
  have hmode : s.modeBits = if s.power.mode = .run then 0 else if s.power.mode = .idle then 1 else 2 := by
    unfold State.modeBits
    cases hm : s.power.mode with
    | run => rfl
    | idle => rfl
    | doze => rfl
    | hold => exact absurd hm h1
    | off => exact absurd hm h2
  rw [State.smbusMode, hmode]
  cases s.foggy <;> cases s.safe <;> cases s.list.loaded <;> rfl

/-- The higher of all readings is one of them, or the first, and none is above it. -/
theorem foldl_higher (l : List W16) (x : W16) : (l.foldl higher x = x ∨ l.foldl higher x ∈ l) ∧ x.toInt ≤ (l.foldl higher x).toInt ∧
    ∀ y ∈ l, y.toInt ≤ (l.foldl higher x).toInt := by
  induction l generalizing x with
  | nil => exact ⟨.inl rfl, le_refl _, by simp⟩
  | cons z l ih =>
    obtain ⟨hone, hle, hall⟩ := ih (higher x z)
    have hx : x.toInt ≤ (higher x z).toInt := by unfold higher; split <;> omega
    have hz : z.toInt ≤ (higher x z).toInt := by unfold higher; split <;> omega
    rw [List.foldl_cons]
    refine ⟨?_, by omega, fun y hy => ?_⟩
    · rcases hone with h | h
      · rw [h]
        unfold higher
        split
        · exact .inr List.mem_cons_self
        · exact .inl rfl
      · exact .inr (List.mem_cons_of_mem _ h)
    · rcases List.mem_cons.mp hy with rfl | hy
      · omega
      · exact hall y hy

theorem hottest_eq {t : Table W16} {x : Nat × W16} (hx : x ∈ t) (hall : ∀ y ∈ t, y.2.toInt ≤ x.2.toInt) : hottest t = x.2 := by
  cases t with
  | nil => exact absurd hx (by simp)
  | cons k t =>
    obtain ⟨hone, hle, hmax⟩ := foldl_higher ((k :: t).map (fun x => x.2)) k.2
    have hup : x.2.toInt ≤ (hottest (k :: t)).toInt := hmax _ (List.mem_map_of_mem hx)
    have hdown : (hottest (k :: t)).toInt ≤ x.2.toInt := by
      rcases hone with h | h
      · exact (congrArg BitVec.toInt h).le.trans (hall k List.mem_cons_self)
      · obtain ⟨y, hy, he⟩ := List.mem_map.mp h
        exact (congrArg BitVec.toInt he).symm.le.trans (hall y hy)
    exact BitVec.eq_of_toInt_eq (le_antisymm hdown hup)

/-! #### The test access port (R486-R488) -/

theorem State.tapServed_eq (h1 : s.power.mode ≠ .hold) (h2 : s.power.mode ≠ .off) : s.tapServed = true := by
  rw [State.tapServed, Bool.and_eq_true, bne_iff_ne, bne_iff_ne]
  exact ⟨h1, h2⟩

theorem scanDomains_on (t : Table Domain) (l : List Nat) (k : Nat) :
    tget ({} : Domain) (l.foldl (fun t k => tmod {} t k (fun x => { x with on := true })) t) k =
      if k ∈ l then { tget ({} : Domain) t k with on := true } else tget {} t k := by
  induction l generalizing t with
  | nil => simp
  | cons n l ih =>
    rw [List.foldl_cons, ih]
    by_cases hk : k = n
    · rw [hk, tget_tmod_same]
      simp
    · rw [tget_tmod_ne _ _ _ _ _ hk]
      simp [hk]

/-- What an instruction that takes the pins leaves. -/
theorem State.tapTake_facts (h1 : s.power.mode ≠ .hold) (h2 : s.power.mode ≠ .off) (n : Nat) :
    let t := s.tapTake n
    t.side = { s.side with tap := n, pinsTaken := true, cells := t.side.cells } ∧ (∀ k, k < 62 → k ≠ 61 → t.dom k = { s.dom k with on := true }) ∧
      t.dom 61 = s.dom 61 ∧ { t with side := s.side, power := s.power, clk := { t.clk with free := s.clk.free } } = s ∧
      ((n = 4 ∨ n = 5) → t.side.cells = s.side.cells ∧ t.clk = s.clk) ∧
      (n ≠ 4 → n ≠ 5 → t.side.cells = ({ t with clk := s.clk } : State).capture ∧ t.clk.free = s.clk.free + 1) := by
  obtain ⟨l, hl⟩ : ∃ l, l = scanDomains := ⟨_, rfl⟩
  obtain ⟨u, hu⟩ : ∃ u, u = (s.onSide (fun x => { x with tap := n, pinsTaken := true })).onPower (fun p => { p with
    domains := l.foldl (fun t k => tmod {} t k (fun x => { x with on := true })) p.domains }) := ⟨_, rfl⟩
  have hdom : ∀ k, u.dom k = if k ∈ l then { s.dom k with on := true } else s.dom k := by
    intro k
    rw [hu]
    exact scanDomains_on s.power.domains l k
  have hdo : s.tapTake n = if n = 4 || n = 5 then u else u.sample := by
    unfold State.tapTake
    rw [State.tapServed_eq h1 h2, hu, hl]
    rfl
  have hon : ∀ k, k < 62 → k ≠ 61 → u.dom k = { s.dom k with on := true } := by
    intro k h3 h4
    rw [hdom, hl, if_pos (show k ∈ scanDomains from List.mem_filter.mpr ⟨List.mem_range.mpr h3, bne_iff_ne.mpr h4⟩)]
  have hoff : u.dom 61 = s.dom 61 := by
    rw [hdom, hl, if_neg (by simp [scanDomains])]
  intro t
  by_cases hn : n = 4 ∨ n = 5
  · have ht : t = u := hdo.trans (if_pos (by simpa using hn))
    rw [ht]
    refine ⟨by rw [hu]; rfl, hon, hoff, by rw [hu]; rfl, fun _ => by rw [hu]; exact ⟨rfl, rfl⟩, fun h3 h4 => absurd hn (by simp [h3, h4])⟩
  · have ht : t = u.sample := hdo.trans (if_neg (by simpa using hn))
    rw [ht]
    exact ⟨by rw [hu]; rfl, hon, hoff, by rw [hu]; rfl, fun h => absurd h hn, fun _ _ => ⟨by rw [hu]; rfl, by rw [hu]; rfl⟩⟩

/-! #### The cells of the chain (R486, R487) -/

theorem State.capture_get (s : State) (k : Nat) :
    s.capture[k]? = (scanCells[k]?).map (fun x => (x.domain.map s.domOn).getD true && s.pinLevel k x) := by
  rw [State.capture, List.getElem?_map, List.getElem?_zipIdx]
  cases scanCells[k]? with
  | none => rfl
  | some x => simp

theorem State.capture_facts (s : State) : s.capture.length = scanCells.length ∧
    (∀ (x : ScanSignal) (n k : Nat), scanCells[k]? = some x → x.domain = some n → s.domOn n = false → s.capture[k]? = some false) ∧
    (∀ (c : CageNum) (k : Nat), scanCells[k]? = some (.modPrsL c) → s.domOn 60 = true → s.capture[k]? = some (!(s.cage c).present)) ∧
    (∀ (p : HPort) (k : Nat), scanCells[k]? = some (.perst p) → s.capture[k]? = some (!(s.host p).perst)) := by
  refine ⟨by rw [State.capture, List.length_map, List.length_zipIdx], fun x n k hk hd hoff => ?_, fun c k hk hon => ?_, fun p k hk => ?_⟩
  · rw [State.capture_get, hk, Option.map_some, hd, Option.map_some, Option.getD_some, hoff, Bool.false_and]
  · rw [State.capture_get, hk, Option.map_some, show (ScanSignal.modPrsL c).domain = some 60 from rfl, Option.map_some, Option.getD_some, hon, Bool.true_and]
    rfl
  · rw [State.capture_get, hk, Option.map_some, show (ScanSignal.perst p).domain = none from rfl, Option.map_none, Option.getD_none, Bool.true_and]
    rfl

theorem mem_scanCells : (∀ c : CageNum, ScanSignal.cageScl c ∈ scanCells ∧ ScanSignal.cageSda c ∈ scanCells ∧ ScanSignal.modPrsL c ∈ scanCells ∧
      ScanSignal.intL c ∈ scanCells ∧ ScanSignal.resetL c ∈ scanCells ∧ ScanSignal.lpMode c ∈ scanCells) ∧ .smbClk ∈ scanCells ∧ .smbDat ∈ scanCells ∧
    (∀ (d : DPort) (tx : Bool), ScanSignal.cageLane d tx ∈ scanCells) ∧ (∀ p l tx, ScanSignal.hostLane p l tx ∈ scanCells) ∧
    .wake ∈ scanCells ∧ .pwrWarnOut ∈ scanCells ∧ ∀ n, ScanSignal.sense n ∈ scanCells := by
  unfold scanCells
  simp only [List.mem_append, List.mem_flatMap, List.mem_cons, List.not_mem_nil, or_false, List.mem_map, List.mem_finRange, true_and]
  refine ⟨fun c => by simp, by simp, by simp, fun d tx => ?_, fun p l tx => ?_, by simp, by simp, fun n => ?_⟩
  · exact .inr ⟨d, by cases tx <;> simp⟩
  · exact .inl (.inl (.inl (.inr ⟨p, l, by cases tx <;> simp⟩)))
  · by_cases hn : n = 0
    · rw [hn]
      simp
    · refine .inl (.inl (.inr ⟨n, ?_, rfl⟩))
      have h15 : ∀ m : Fin 16, m ≠ 0 → m ∈ (List.finRange 16).drop 1 := by decide
      exact h15 n hn

end

/-- Settles O50. -/
theorem sidePorts : Obligations.SidePorts := by
  refine ⟨fun value s h => ?_, fun value good s h => ?_, fun s h1 h2 => ?_, fun s => ?_⟩
  · intro armed
    obtain ⟨harm, hdisarm, hbad, hbad', hbad'', hcancel⟩ := smbusResetRequest h
    obtain ⟨hlate, hnone⟩ := smbusResetConfirm_late h
    refine ⟨fun ha => congrArg Host.Outcome.next (harm ha), fun ha => congrArg Host.Outcome.next (hdisarm ha), congrArg Host.Outcome.next hbad,
      congrArg Host.Outcome.next hbad', congrArg Host.Outcome.next (hbad'' value), fun k hk hn => ?_, fun k hk hn => ?_,
      fun ha => congrArg Host.Outcome.next (hnone ha), fun h1 h2 => congrArg Host.Outcome.next (hcancel value h1 h2), ?_, fun hoff => ?_, fun hon => ?_, fun hdoze => ?_⟩
    · obtain ⟨t, ht, hrest⟩ := smbusResetConfirm_facts h hk hn
      exact ⟨t, congrArg Host.Outcome.next ht, hrest⟩
    · exact ⟨congrArg Host.Outcome.next (hlate k hk hn).1, congrArg Host.Outcome.next (hlate k hk hn).2⟩
    · exact congrArg Host.Outcome.next (State.smbusReply_served h _)
    · exact congrArg Host.Outcome.next ((State.smbusReply_served h _).trans (congrArg (fun b => s.useFree.emit (.smbusByte b)) (State.smbusMode_eq h hoff)))
    · refine ⟨congrArg Host.Outcome.next (State.hubWord_on hon _), congrArg Host.Outcome.next (State.hubWord_on hon _), fun x hx hall => ?_,
        congrArg Host.Outcome.next (State.hubWord_on hon _)⟩
      exact congrArg Host.Outcome.next ((State.hubWord_on hon _).trans (congrArg (fun v => s.useFree.emit (.smbusWord v)) (hottest_eq hx hall)))
    · exact ⟨congrArg Host.Outcome.next (State.hubWord_doze hdoze _), congrArg Host.Outcome.next (State.hubWord_doze hdoze _),
        congrArg Host.Outcome.next (State.hubWord_doze hdoze _), congrArg Host.Outcome.next (State.hubWord_doze hdoze _)⟩
  · obtain ⟨harm, hconf, hcancel⟩ := smbus_hold h value good
    exact ⟨congrArg Host.Outcome.next harm, congrArg Host.Outcome.next hconf, congrArg Host.Outcome.next hcancel⟩
  · have hs := State.tapServed_eq h1 h2
    have take := fun n => State.tapTake_facts h1 h2 n
    intro loads takes
    refine ⟨congrArg Host.Outcome.next (if_pos hs), congrArg Host.Outcome.next ((if_pos hs).trans ?_), congrArg Host.Outcome.next ((if_pos hs).trans ?_),
      ⟨_, rfl, take 3⟩, ⟨_, rfl, take 4⟩, ⟨_, rfl, take 5⟩, ⟨_, rfl, take 6⟩, ⟨_, rfl, take 7⟩, fun hp => ?_, fun hp => ?_⟩
    · rw [State.tapLoad, hs]
      rfl
    · rw [State.tapLoad, hs]
      rfl
    · refine congrArg Host.Outcome.next ((if_pos hs).trans ?_)
      dsimp only
      rw [hp]
      exact congrArg (fun x : Bool => ({ s with side := { s.side with tap := 1, pinsTaken := x } } : State)) hp.symm
    · obtain ⟨hframe, hkeeper⟩ := (s.onSide (fun x => { x with tap := 1, pinsTaken := false })).moduleReset_facts 4
      refine ⟨_, congrArg Host.Outcome.next ((if_pos hs).trans (if_pos hp)), (congrArg (fun v : State => v.side.tap) hframe :), (congrArg (fun v : State => v.side.pinsTaken) hframe :),
        (congrArg (fun k : Keeper => k.ret.rstCause) hkeeper :), (congrArg State.power hframe :), (congrArg State.queues hframe :), (congrArg State.prog hframe :),
        fun d => (congrArg (fun v : State => (v.port d).link) hframe :).trans (State.unpowered_port _ d).1⟩
  · obtain ⟨hlen, hoff, hcage, hperst⟩ := s.capture_facts
    exact ⟨hlen, hoff, hcage, hperst, mem_scanCells⟩

end Sys2Proof.Machine

namespace Sys2Proof.Machine
open Sys2Proof

/-! ### The fog signal and the resets (R434-R436, R454, R455) -/

section
variable {s : State} {o : List Out}

/-! #### What is sent after a given moment, with the fog signal gone -/

/-- The fog signal is gone, and what has been sent since `o` stands before it. -/
def State.clearSince (o : List Out) (s : State) : Prop := o <:+ s.out ∧ s.keeper.fog = false

theorem State.clearSince.of_eq {t : State} (h : s.clearSince o) (ho : t.out = s.out) (hk : t.keeper.fog = s.keeper.fog) : t.clearSince o := by
  rw [State.clearSince, ho, hk]
  exact h

theorem State.clearSince.foldl {α : Type} {f : State → α → State} (hf : ∀ v a, v.clearSince o → (f v a).clearSince o) (l : List α) (h : s.clearSince o) :
    (l.foldl f s).clearSince o := by
  induction l generalizing s with
  | nil => exact h
  | cons a l ih => exact ih (hf s a h)

theorem State.clearSince.emit (h : s.clearSince o) (x : Out) : (s.emit x).clearSince o := ⟨h.1.trans (List.suffix_cons _ _), h.2⟩

theorem State.clearSince.vector (h : s.clearSince o) (fn : Fn) (v : Nat) : (s.vector fn v).clearSince o := by
  obtain ⟨l, hl⟩ := (s.vector_frame fn v).2
  refine ⟨?_, by rw [State.vector_keeper]; exact h.2⟩
  rw [hl]
  exact h.1.trans (List.suffix_append _ _)

theorem State.clearSince.fire (h : s.clearSince o) (u : EvUnit) (n : Nat) : (s.fire u n).clearSince o :=
  h.of_eq (State.fire_out _ _ _) (by rw [State.fire_keeper])

theorem State.clearSince.dueCage (h : s.clearSince o) (c : CageNum) : (s.dueCage c).clearSince o := by
  unfold State.dueCage
  split
  · exact h
  · exact h

theorem State.clearSince.kickIdents (h : s.clearSince o) (d : DPort) : (s.kickIdents d).clearSince o := by
  refine h.foldl (fun v a hv => ?_) _
  dsimp only
  split
  · unfold State.openExch
    dsimp only
    split
    · exact hv
    · exact hv
  · exact hv

theorem State.clearSince.startTests (h : s.clearSince o) : s.startTests.clearSince o := by
  unfold State.startTests
  split
  · exact h
  · exact h

theorem State.clearSince.startUp (h : s.clearSince o) : s.startUp.clearSince o := by
  have hread : s.readRetention.clearSince o := by
    have hlog : s.clearSince o → (s.logSensor retainSite none).clearSince o := fun h =>
      State.logFault_preserves (State.clearSince o) (fun _ _ h => h) (fun _ _ h => h) (fun _ u n h => h.fire u n) (fun _ fn v h => h.vector fn v) _ _ _ _ h
    unfold State.readRetention
    dsimp only
    split
    · exact h
    · exact (hlog h)
  exact State.clearSince.foldl (fun v p hv => by split; exacts [hv, hv.emit _]) _ (show State.clearSince o _ from hread)

theorem State.clearSince.beginWake (h : s.clearSince o) : s.beginWake.clearSince o := by
  unfold State.beginWake
  dsimp only
  split
  · exact h
  · split
    · exact State.clearSince.fire h 0 166
    · exact State.clearSince.startUp h
    · exact h

/-! #### The supply (R434-R437) -/

theorem fogVolts_eq : Config.fogVolts = 1400 := rfl

theorem ms100Ticks_eq : Config.ms100Ticks = 15625000 := rfl

/-- The fog signal as it is raised: the line, FOGAT and FOGS, SMB_ALERT#. -/
theorem State.raiseFog_facts (hf : s.foggy = false) :
    s.raiseFog.keeper.fog = true ∧ s.raiseFog.keeper.supply = s.keeper.supply ∧ s.raiseFog.keeper.ret.fogAt = s.keeper.counter ∧
      retValid s.raiseFog.keeper.ret = true ∧ (retValid s.keeper.ret = true → s.raiseFog.keeper.ret.fogs = s.keeper.ret.fogs + 1) ∧
      s.raiseFog.out = .smbAlert true :: .pwrWarn true :: s.out ∧ { s.raiseFog with keeper := s.keeper, out := s.out } = s := by
  have hraise : s.raiseFog = (((s.onKeeper (fun k => { k with ret := retSeal { k.base with fogAt := k.counter, fogs := k.base.fogs + 1 } })).onKeeper
      (fun k => { k with fog := true, lowAt := s.clk.now })).emit (.pwrWarn true)).alertOut := by
    refine (if_neg (by rw [hf]; exact Bool.false_ne_true)).trans ?_
    exact if_neg (show ¬ s.foggy = true by rw [hf]; exact Bool.false_ne_true)
  rw [hraise]
  refine ⟨rfl, rfl, rfl, retValid_retSeal _, fun hv => ?_, rfl, rfl⟩
  have hbase : s.keeper.base = s.keeper.ret := if_pos hv
  exact (congrArg (fun r : Retention => r.fogs + 1) hbase :)

/-- What follows the fog signal once its vectors are sent: sleep, power, queues, exchanges, tests, held journal records. -/
def State.afterSignal (x : State) : State :=
  (((((((x.fogSleep).shedPower).queues.sqs.foldl (fun y q => y.abortSq (queueTenant q.1) (queueNum q.1) cAbortedPower 0 7 true)
    ((x.fogSleep).shedPower)).fogExchanges).onFw (fun f => { f with tests := f.tests.map (fun t => { t with started := false }) })).flushHeld 0).flushHeld 1)

theorem doFogSignal_eq (v : BitVec 12) (s : State) :
    doFogSignal v s = if (s.readSupply v).foggy || (s.readSupply v).power.mode == .off || (s.readSupply v).power.mode == .hold || decide (Config.fogVolts < v.toNat) then s.readSupply v
      else (((((s.readSupply v).raiseFog.fire 0 165).fireSlots 26).pfVector 1).vfVectors 8).afterSignal.settle := by
  unfold doFogSignal State.afterSignal
  dsimp only

theorem doFogSignal_raised {v : BitVec 12} (hm : s.power.mode = .run ∨ s.power.mode = .idle ∨ s.power.mode = .doze) (hf : s.foggy = false) (hv : v.toNat ≤ 1400) :
    doFogSignal v s = (((((s.readSupply v).raiseFog.fire 0 165).fireSlots 26).pfVector 1).vfVectors 8).afterSignal.settle := by
  have hmode : (s.power.mode == .off || s.power.mode == .hold) = false := by rcases hm with h | h | h <;> rw [h] <;> rfl
  have hlow : decide (Config.fogVolts < v.toNat) = false := decide_eq_false (by rw [fogVolts_eq]; omega)
  rw [doFogSignal_eq, show (s.readSupply v).foggy = false from hf, show (s.readSupply v).power = s.power from rfl, Bool.false_or, hmode, hlow, if_neg (by exact Bool.false_ne_true)]

theorem doFogSignal_not {v : BitVec 12} (h : s.foggy = true ∨ 1400 < v.toNat) : doFogSignal v s = s.readSupply v := by
  refine if_pos ?_
  change (s.foggy || s.power.mode == .off || s.power.mode == .hold || decide (Config.fogVolts < v.toNat)) = true
  rcases h with h | h
  · rw [h, Bool.true_or, Bool.true_or, Bool.true_or]
  · rw [decide_eq_true (by rw [fogVolts_eq]; omega : Config.fogVolts < v.toNat), Bool.or_true]

/-- What a clear of the fog signal does after its lines are back. -/
def State.afterFog (s : State) : State :=
  let s := (s.pfVector 1).vfVectors 8
  let s := s.onQueues (fun q => { q with tenants := q.tenants.map (fun (t : Nat × TenantSt) => (t.1, { t.2 with fogNoted := false })) })
  let s := s.rewave
  let s := ((List.finRange 12).filter (fun c => s.power.shedCages.contains c.val)).foldl (fun s c => s.dueCage c) s
  let s := s.onPower (fun p => { p with shedCages := [] })
  let s := (List.finRange 96).foldl (fun s d => s.kickIdents d) s
  (s.startTests).beginWake

theorem State.clearSince.afterFog (h : s.clearSince o) : s.afterFog.clearSince o := by
  have hvec : ((s.pfVector 1).vfVectors 8).clearSince o := State.clearSince.foldl (fun v t hv => hv.vector _ _) _ ((h.vector _ _).vector _ _)
  have hcage : ∀ (v : State) (l : List CageNum), v.clearSince o → (l.foldl State.dueCage v).clearSince o :=
    fun _ l hv => hv.foldl (fun _ c hw => hw.dueCage c) l
  have hident : ∀ (v : State) (l : List DPort), v.clearSince o → (l.foldl State.kickIdents v).clearSince o :=
    fun _ l hv => hv.foldl (fun _ d hw => hw.kickIdents d) l
  unfold State.afterFog
  dsimp only
  generalize (s.pfVector 1).vfVectors 8 = u at hvec ⊢
  have hq : ((u.onQueues (fun q => { q with tenants := q.tenants.map (fun (t : Nat × TenantSt) => (t.1, { t.2 with fogNoted := false })) })).rewave).clearSince o := hvec
  generalize (State.onQueues u _).rewave = w at hq ⊢
  have hc := hcage w ((List.finRange 12).filter (fun c => w.power.shedCages.contains c.val)) hq
  generalize List.foldl _ w _ = x at hc ⊢
  exact ((hident (x.onPower (fun p => { p with shedCages := [] })) _ hc).startTests).beginWake

theorem resetVolts_eq : Config.resetVolts = 1220 := rfl

/-- The fog signal stands after it is raised, whether or not it stood. -/
theorem State.raiseFog_any (s : State) : s.raiseFog.keeper.fog = true ∧ s.raiseFog.keeper.supply = s.keeper.supply ∧
    s.raiseFog.keeper.counter = s.keeper.counter ∧ s.raiseFog.keeper.wakeMask = s.keeper.wakeMask ∧
    { s.raiseFog with keeper := s.keeper, out := s.out } = s := by
  by_cases hf : s.foggy = true
  · rw [show s.raiseFog = s from if_pos hf]
    exact ⟨hf, rfl, rfl, rfl, rfl⟩
  · have hraise : s.raiseFog = (((s.onKeeper (fun k => { k with ret := retSeal { k.base with fogAt := k.counter, fogs := k.base.fogs + 1 } })).onKeeper
        (fun k => { k with fog := true, lowAt := s.clk.now })).emit (.pwrWarn true)).alertOut :=
      (if_neg hf).trans (if_neg hf)
    rw [hraise]
    exact ⟨rfl, rfl, rfl, rfl, rfl⟩

theorem doFogClear_cleared {v : BitVec 12} (hf : s.foggy = true) (hm : s.power.mode ≠ .off) (hv : 1400 ≤ v.toNat) (hn : s.keeper.lowAt + 15625000 ≤ s.clk.now) :
    doFogClear v s = ((((s.readSupply v).onKeeper (fun k => { k with fog := false })).emit (.pwrWarn false)).alertOut).afterFog.settle := by
  refine if_neg ?_
  have hlow : (s.readSupply v).keeper.lowAt = s.keeper.lowAt := if_neg (by rw [fogVolts_eq]; omega)
  change ¬ (!s.foggy || s.power.mode == .off || decide (v.toNat < Config.fogVolts) || decide (s.clk.now < (s.readSupply v).keeper.lowAt + Config.ms100Ticks)) = true
  rw [hf, beq_eq_false_iff_ne.mpr hm, hlow, fogVolts_eq, ms100Ticks_eq, decide_eq_false (by omega), decide_eq_false (by omega)]
  exact Bool.false_ne_true

theorem doFogClear_not {v : BitVec 12} (h : s.foggy = false ∨ v.toNat < 1400 ∨ s.clk.now < s.keeper.lowAt + 15625000) : doFogClear v s = s.readSupply v := by
  refine if_pos ?_
  change (!s.foggy || s.power.mode == .off || decide (v.toNat < Config.fogVolts) || decide (s.clk.now < (s.readSupply v).keeper.lowAt + Config.ms100Ticks)) = true
  by_cases hv : v.toNat < 1400
  · rw [decide_eq_true (by rw [fogVolts_eq]; omega : v.toNat < Config.fogVolts), Bool.or_true, Bool.true_or]
  · have hlow : (s.readSupply v).keeper.lowAt = s.keeper.lowAt := if_neg (by rw [fogVolts_eq]; omega)
    rcases h with h | h | h
    · rw [h, Bool.not_false, Bool.true_or, Bool.true_or, Bool.true_or]
    · exact absurd h hv
    · rw [hlow, ms100Ticks_eq, decide_eq_true h, Bool.or_true]

theorem doOverVoltage_facts (v : BitVec 12) :
    (v.toNat ≤ 3020 → doOverVoltage v s = s.onKeeper (fun k => { k with supply := v, overV := false })) ∧
    (3020 < v.toNat → s.keeper.overV = true → doOverVoltage v s = s.onKeeper (fun k => { k with supply := v, overV := true })) ∧
    (3020 < v.toNat → s.keeper.overV = false → doOverVoltage v s =
      ((s.onKeeper (fun k => { k with supply := v, overV := true })).logSensor keeperSite none).settle) := by
  refine ⟨fun h => ?_, fun h ho => ?_, fun h ho => ?_⟩
  · unfold doOverVoltage
    rw [decide_eq_false (by omega)]
    rfl
  · have hk : (s.onKeeper (fun k => { k with supply := v })).keeper.overV = true := ho
    unfold doOverVoltage
    dsimp only
    rw [decide_eq_true h, hk]
    rfl
  · have hk : (s.onKeeper (fun k => { k with supply := v })).keeper.overV = false := ho
    have hset : (s.onKeeper (fun k => { k with supply := v })).onKeeper (fun k => { k with overV := true }) = s.onKeeper (fun k => { k with supply := v, overV := true }) := rfl
    unfold doOverVoltage
    dsimp only
    rw [decide_eq_true h, hk, hset]
    exact if_pos rfl

/-! #### Resets (R455) -/

/-- What a full reset leaves of the module. -/
def resetLeaves (s t : State) : Prop :=
  t.power = {} ∧ t.queues = {} ∧ t.prog = {} ∧ t.list = {} ∧ t.vfs = [] ∧ t.evus = [] ∧ t.banks = [] ∧ t.boxes = [] ∧
    t.orders = {} ∧ t.therm = {} ∧ t.clk.running = false ∧ t.data.inService = false ∧ t.faults.log = [] ∧ t.faults.safe = none ∧ t.cores.tenderUp = false ∧
    (∀ p, t.oq p = {} ∧ t.fn (.pf p) = {} ∧ (t.host p).perst = (s.host p).perst ∧ (t.host p).link = false) ∧
    (∀ d, (t.port d).link = 0 ∧ (t.port d).exch = [] ∧ (t.port d).fences = [] ∧ ((s.port d).retired = true → (t.port d).retired = true))

theorem resetLeaves_unpowered (s : State) : resetLeaves s s.unpowered :=
  ⟨rfl, rfl, rfl, rfl, rfl, rfl, rfl, rfl, rfl, rfl, rfl, rfl, rfl, rfl, rfl,
    fun p => by rw [State.oq, State.fn, s.unpowered_host p]; exact ⟨rfl, rfl, rfl, rfl⟩, s.unpowered_port⟩

/-- It says nothing of the keeper, of what was sent, or of the side ports. -/
theorem resetLeaves.of_frame {t u : State} (h : resetLeaves s u) (he : { t with keeper := u.keeper, out := u.out } = u) : resetLeaves s t := by
  rw [← he] at h
  exact h

theorem resetLeaves.of_state {u v t : State} (h : resetLeaves u t) (hh : u.hosts = v.hosts) (hp : u.ports = v.ports) : resetLeaves v t := by
  obtain ⟨h1, h2, h3, h4, h5, h6, h7, h8, h9, h10, h11, h12, h13, h14, h15, h16, h17⟩ := h
  refine ⟨h1, h2, h3, h4, h5, h6, h7, h8, h9, h10, h11, h12, h13, h14, h15, ?_, ?_⟩
  · rw [show u.host = v.host by unfold State.host; rw [hh]] at h16
    exact h16
  · rw [show u.port = v.port by unfold State.port; rw [hp]] at h17
    exact h17

end

/-- Settles O44. -/
theorem fogAndResets : Obligations.FogAndResets := by
  refine ⟨fun v s => ?_, fun v s => ?_⟩
  · intro seen
    refine ⟨fun hm hf hv => ?_, fun h => congrArg Host.Outcome.next (doFogSignal_not h), fun hf hm hv hn => ?_, fun h => congrArg Host.Outcome.next (doFogClear_not h),
      fun h => congrArg Host.Outcome.next ((doOverVoltage_facts v).1 h), fun h ho => congrArg Host.Outcome.next ((doOverVoltage_facts v).2.1 h ho),
      fun h ho hd => ?_⟩
    · obtain ⟨hfog, hsup, hat, hval, hfogs, hout, hframe⟩ := State.raiseFog_facts (s := s.readSupply v) hf
      have hdo := doFogSignal_raised hm hf hv
      generalize (s.readSupply v).raiseFog = w at hfog hsup hat hval hfogs hout hframe hdo
      exact ⟨_, w, congrArg Host.Outcome.next hdo, hfog, hsup, hat, hval, hfogs, hout, (congrArg (fun t : State => { t with keeper := s.keeper }) hframe :), _, rfl, by rw [State.afterSignal, show cAbortedPower = 0x0A from rfl]⟩
    · obtain ⟨w, hw⟩ : ∃ w, w = (((s.readSupply v).onKeeper (fun k => { k with fog := false })).emit (.pwrWarn false)).alertOut := ⟨_, rfl⟩
      have hdo := doFogClear_cleared hf hm hv hn
      rw [← hw] at hdo
      obtain ⟨⟨l, hl⟩, hfog⟩ := State.clearSince.afterFog (s := w) ⟨List.suffix_refl _, by rw [hw]; rfl⟩
      refine ⟨_, w, congrArg Host.Outcome.next hdo, ?_, ?_, ?_, ?_, l, hl.symm, hfog⟩ <;> rw [hw]
      · rfl
      · rfl
      · rfl
      · rfl
    · obtain ⟨htherm, hnext, hports⟩ := State.logSensor_facts (s := s.onKeeper (fun k => { k with supply := v, overV := true })) keeperSite none hd
      have hk := State.logFault_keeper ((s.onKeeper (fun k => { k with supply := v, overV := true })).useFree) 8 keeperSite whoNone
      exact ⟨_, congrArg Host.Outcome.next ((doOverVoltage_facts v).2.2 h ho), (congrArg Keeper.overV (hk _) :), (congrArg Keeper.supply (hk _) :), hnext,
        State.logFault_queues _ _ _ _ _, hports⟩
  · intro gone kept
    have reset : ∀ (u : State) (c : Byte), u.hosts = s.hosts → u.ports = s.ports → gone (u.moduleReset c) ∧ (u.moduleReset c).keeper = (u.unpowered.stampCause c).keeper ∧
        { u.moduleReset c with keeper := u.unpowered.keeper, out := u.unpowered.out } = u.unpowered := by
      intro u c hh hp
      obtain ⟨hframe, hk⟩ := u.moduleReset_facts c
      exact ⟨((resetLeaves_unpowered u).of_frame hframe).of_state hh hp, hk, hframe⟩
    refine ⟨fun hm hv => ?_, fun hp hm => ?_, ⟨_, rfl, ?_, rfl, rfl, rfl, rfl⟩⟩
    · have hmode : (s.power.mode == .off || s.power.mode == .hold) = false := by rcases hm with h | h | h <;> rw [h] <;> rfl
      have hdo : doModuleReset v s = (s.readSupply v).raiseFog.moduleReset 2 := by
        unfold doModuleReset
        rw [hmode, Bool.false_or, decide_eq_false (by rw [resetVolts_eq]; omega)]
        rfl
      obtain ⟨hfog, hsup, hcounter, hmask, hframe⟩ := State.raiseFog_any (s.readSupply v)
      have hsame := fun {β : Type} (f : State → β) => congrArg f hframe
      obtain ⟨hgone, hk, hleft⟩ := reset (s.readSupply v).raiseFog 2 (congrArg State.hosts hframe :) (congrArg State.ports hframe :)
      obtain ⟨hcause, hvalid⟩ := (s.readSupply v).raiseFog.unpowered.stampCause_facts 2
      refine ⟨_, congrArg Host.Outcome.next hdo, hgone, ?_, ?_, ?_, ?_, ?_⟩
      · refine ⟨(congrArg (fun t : State => t.faults.record) hleft :).trans (congrArg (fun t : State => t.faults.record) hframe :),
          (congrArg (fun t : State => t.faults.spares) hleft :).trans (congrArg (fun t : State => t.faults.spares) hframe :),
          (congrArg (fun t : State => t.fw.imgA) hleft :).trans (congrArg (fun t : State => t.fw.imgA) hframe :),
          (congrArg (fun t : State => t.fw.imgB) hleft :).trans (congrArg (fun t : State => t.fw.imgB) hframe :),
          (congrArg (fun t : State => t.fw.run) hleft :).trans (congrArg (fun t : State => t.fw.run) hframe :),
          (congrArg Keeper.counter hk).trans hcounter, (congrArg Keeper.wakeMask hk).trans hmask⟩
      · exact (congrArg Keeper.supply hk).trans hsup
      · rw [hk, hcause]
      · rw [hk, hvalid]
      · exact (congrArg Keeper.fog hk).trans hfog
    · have hdo : doRootPllLockLoss s = s.moduleReset 3 := if_pos (by rw [hp]; rcases hm with h | h <;> rw [h] <;> rfl)
      obtain ⟨hgone, hk, hleft⟩ := reset s 3 rfl rfl
      refine ⟨_, congrArg Host.Outcome.next hdo, hgone, ?_, by rw [hk]; rfl⟩
      exact ⟨(congrArg (fun t : State => t.faults.record) hleft :), (congrArg (fun t : State => t.faults.spares) hleft :),
        (congrArg (fun t : State => t.fw.imgA) hleft :), (congrArg (fun t : State => t.fw.imgB) hleft :), (congrArg (fun t : State => t.fw.run) hleft :),
        by rw [hk]; rfl, by rw [hk]; rfl⟩
    · exact resetLeaves_unpowered s

end Sys2Proof.Machine

namespace Sys2Proof.Machine
open Sys2Proof

/-! ### Firmware orders (R397, R398, R466-R470) -/

section
variable {s w : State} {p : HPort} {b : Bytes}

/-- An answer stays what it is where ring and what has been sent do. -/
theorem answers.keeps {time : W64} {status : W16} {result : Bytes} {u v : State} (h : answers p b time status result s u) (ha : (v.oq p).active = (u.oq p).active)
    (hh : (v.oq p).head = (u.oq p).head) (ho : ∀ o ∈ u.out, o ∈ v.out) : answers p b time status result s v :=
  ⟨ha.trans h.1, hh.trans h.2.1, ho _ h.2.2⟩

/-! #### STAGE-FIRMWARE (R397) -/

/-- Address and length of an image are the parameters of STAGE-FIRMWARE. -/
def stageFields (b : Bytes) : List (Nat × Nat × Bool) :=
  let n := num b 0x18 4
  [(0x10, 8, num b 0x10 8 % 4096 == 0), (0x18, 4, 4096 ≤ n && n ≤ 33554432)]

theorem doStageFirmware_eq (p : HPort) (s : State) : doStageFirmware p s =
    (s.runOrder p (isOpc 0x50) stageFields false false none (fun s _ => s.busyOrder p)
      (fun s b => s.setStage p (.stageRead (u64 b 0x10) (num b 0x18 4)))).settle := rfl

theorem stageFields_good (ha : (u64 b 0x10).toNat % 4096 = 0) (h1 : 4096 ≤ (u32 b 0x18).toNat) (h2 : (u32 b 0x18).toNat ≤ 33554432)
    (hz : allZero (bslice b 0x1C 0x64) = true) : firstBad b (stageFields b) = none := by
  refine firstBad_none ?_ fun i h3 h4 => ?_
  · simp only [stageFields, List.forall_mem_cons, num_u64, num_u32, ha, decide_eq_true h1, decide_eq_true h2]
    simp
  · simp only [stageFields, List.mem_cons, List.not_mem_nil, or_false, exists_eq_or_imp, exists_eq_left]
    by_cases h5 : i < 0x1C
    · omega
    · exact .inr (byteAt_of_allZero hz (by omega) (by omega))

theorem State.beginOrder_busy (s : State) (p : HPort) (b : Bytes) :
    (s.beginOrder p b).busyOrder p = if s.otherActive p exclusive then some 0x17 else none := by
  rw [State.busyOrder, State.beginOrder_otherActive]

theorem orderStands.stageFirmware (h : orderStands s p b) (hfog : s.foggy = false) (hop : byteAt b 1 = 0x50) (hf : firstBad b (stageFields b) = none) :
    (s.otherActive p exclusive = false → ∃ u : State, exec (.stageFirmware p) s = .next u.settle ∧
      underWay p b (.stageRead (u64 b 0x10) (u32 b 0x18).toNat) u ∧ u.out = s.out ∧ onlyReply s u) ∧
    (s.otherActive p exclusive = true → ∃ u : State, exec (.stageFirmware p) s = .next u.settle ∧ answers p b s.clk.hub 0x1017 [] s u ∧ onlyReply s u) := by
  refine ⟨fun ho => ?_, fun ho => ?_⟩
  · have hdo := (doStageFirmware_eq p s).trans (congrArg State.settle (h.run (isOpc_of hop) hf (by simp) (fun _ => hfog) (by simp)
      (by rw [State.beginOrder_busy, ho]; rfl)))
    rw [num_u32] at hdo
    exact ⟨_, congrArg Host.Outcome.next hdo, h.begun.setStage _, rfl, rfl⟩
  · exact ⟨_, congrArg Host.Outcome.next (doStageFirmware_eq p s), h.refusedRun (n := 0x17) (isOpc_of hop) hf (by simp) (fun _ => hfog) (by simp)
      (by rw [State.beginOrder_busy, ho]; rfl)⟩

/-! #### ACTIVATE-FIRMWARE (R398, R467-R469) -/

theorem activateFields_good (hm : (byteAt b 0x10).toNat ≤ 1) (hz : allZero (bslice b 0x11 0x6F) = true) : firstBad b (activateFields b) = none := by
  refine firstBad_none ?_ fun i h1 h2 => ?_
  · simp only [activateFields, List.forall_mem_cons, decide_eq_true hm]
    simp
  · simp only [activateFields, List.mem_cons, List.not_mem_nil, or_false, exists_eq_left]
    by_cases h3 : i < 0x11
    · omega
    · exact .inr (byteAt_of_allZero hz (by omega) (by omega))

theorem State.nameRun_facts (w : State) (p : HPort) (x : Bool) :
    (w.nameRun p x).oq p = (w.effected p).oq p ∧ (w.nameRun p x).fw = { w.fw with run := x } ∧ (w.nameRun p x).cores = w.cores ∧
      (w.nameRun p x).pfMaster p = w.pfMaster p ∧ (w.nameRun p x).clk = w.clk ∧ ((w.nameRun p x).evu 0).isPend 171 = true ∧
      (w.nameRun p x).hosts = (w.effected p).hosts := by
  have hfire := ((w.onFw (fun f => { f with run := x })).effected p).fire_frame 0 171
  refine ⟨(congrArg (fun v : State => v.oq p) hfire :), (congrArg State.fw hfire :), (congrArg State.cores hfire :),
    (congrArg (fun v : State => v.pfMaster p) hfire :).trans (State.modOq_pfMaster _ _ _), (congrArg State.clk hfire :), ?_, (congrArg State.hosts hfire :)⟩
  rw [State.nameRun, State.fire_isPend _ 0 171 171 rfl rfl, beq_self_eq_true, Bool.or_true]

theorem carriesOut.nameRun (h : carriesOut p b s w) (x : Bool) : carriesOut p b s (w.nameRun p x) := by
  obtain ⟨hq, -, hcores, hmaster, -⟩ := w.nameRun_facts p x
  obtain ⟨⟨a, ha, hrest⟩, -, -⟩ := h.effected
  exact ⟨⟨a, hq.trans ha, hrest⟩, hmaster.trans h.master, (congrArg Cores.tenderUp hcores).trans h.tender⟩

/-- An activation done at once: answered with the release, the image named in RUN. -/
theorem carriesOut.named (h : carriesOut p b s w) (x : Bool) (rel : W32) :
    answers p b w.clk.hub 0 (le 4 rel.toNat) s ((w.nameRun p x).done p (le 4 rel.toNat)) ∧
      ((w.nameRun p x).done p (le 4 rel.toNat)).fw = { w.fw with run := x } ∧
      (((w.nameRun p x).done p (le 4 rel.toNat)).evu 0).isPend 171 = true ∧ ((w.nameRun p x).done p (le 4 rel.toNat)).cores = w.cores := by
  obtain ⟨-, hfw, hcores, -, hclk, hpend, -⟩ := w.nameRun_facts p x
  have hn := h.nameRun x
  have hframe := hn.putReply_frame (w.nameRun p x).clk.hub 0 (le 4 rel.toNat)
  rw [← hclk]
  exact ⟨hn.putReply_answers _ _ _, (congrArg State.fw hframe :).trans hfw, (congrArg (fun v : State => (v.evu 0).isPend 171) hframe :).trans hpend,
    (congrArg State.cores hframe :).trans hcores⟩

theorem Firmware.otherImage_of {f : Firmware} (h : f.recovery = false) : f.otherImage = !f.image := by rw [Firmware.otherImage, h]; rfl

/-- In no recovery and with no other exclusive order: what an activation meets. -/
theorem State.activateRefusal_eq (s : State) (p : HPort) (b : Bytes) (hr : s.fw.recovery = false) (ho : s.otherActive p exclusive = false) :
    (s.beginOrder p b).activateRefusal p b = if !(s.fw.slot (!s.fw.image)).valid then some 0x14
      else if byteAt b 0x10 == 1 then none
      else if !(Config.imageRollFrom (s.fw.slot (!s.fw.image)).release).contains s.fw.release then some 0x14
      else if s.spareless then some 0x15
      else none := by
  have hbusy := State.beginOrder_busy s p b
  have hother : (s.beginOrder p b).fw.otherImage = !s.fw.image := Firmware.otherImage_of hr
  have hfw : (s.beginOrder p b).fw = s.fw := rfl
  have hspare : (s.beginOrder p b).spareless = s.spareless := rfl
  unfold State.activateRefusal
  dsimp only
  rw [hbusy, hother, hfw, hspare, ho, hr, Bool.or_false]
  rfl

theorem doActivateFirmwareAtReset_eq (p : HPort) (s : State) : doActivateFirmwareAtReset p s =
    (s.runOrder p (fun b => isOpc 0x51 b && byteAt b 0x10 == 1) activateFields false false none (fun s b => s.activateRefusal p b)
      (fun s _ => if s.fw.recovery then s.recoverRun p
        else (s.nameRun p s.fw.otherImage).firmwareDone p (s.fw.slot s.fw.otherImage).release)).settle := rfl

theorem doActivateFirmwareHitless_eq (p : HPort) (s : State) : doActivateFirmwareHitless p s =
    (s.runOrder p (fun b => isOpc 0x51 b && byteAt b 0x10 != 1) activateFields false false none (fun s b => s.activateRefusal p b)
      (fun s _ => if s.fw.recovery then s.recoverRun p else s.rollAll p)).settle := rfl

theorem orderStands.activateRefused (h : orderStands s p b) (hfog : s.foggy = false) (hop : byteAt b 1 = 0x51) (hf : firstBad b (activateFields b) = none)
    {n : Nat} (hr : (s.beginOrder p b).activateRefusal p b = some n) :
    ∃ u : State, exec (if byteAt b 0x10 = 1 then .activateFirmwareAtReset p else .activateFirmwareHitless p) s = .next u.settle ∧
      answers p b s.clk.hub (BitVec.ofNat 16 (0x1000 + n)) [] s u ∧ onlyReply s u := by
  by_cases hm : byteAt b 0x10 = 1
  · rw [if_pos hm]
    exact ⟨_, congrArg Host.Outcome.next (doActivateFirmwareAtReset_eq p s), h.refusedRun (isOpc_and hop (beq_iff_eq.mpr hm)) hf (by simp) (fun _ => hfog) (by simp) hr⟩
  · rw [if_neg hm]
    exact ⟨_, congrArg Host.Outcome.next (doActivateFirmwareHitless_eq p s), h.refusedRun (isOpc_and hop (bne_iff_ne.mpr hm)) hf (by simp) (fun _ => hfog) (by simp) hr⟩

/-- With a valid other image: the activation at the next reset, and the hitless one. -/
theorem orderStands.activate (h : orderStands s p b) (hfog : s.foggy = false) (hop : byteAt b 1 = 0x51) (hf : firstBad b (activateFields b) = none)
    (hr : (s.beginOrder p b).activateRefusal p b = none) :
    (byteAt b 0x10 = 1 → exec (.activateFirmwareAtReset p) s =
      .next (((s.beginOrder p b).nameRun p (!s.fw.image)).firmwareDone p (s.fw.slot (!s.fw.image)).release).settle) ∧
    (byteAt b 0x10 ≠ 1 → exec (.activateFirmwareHitless p) s = .next ((s.beginOrder p b).rollAll p).settle) := by
  have hrec : (s.beginOrder p b).fw.recovery = false := by obtain ⟨-, -, -, hv, -⟩ := h; exact hv
  have hother : (s.beginOrder p b).fw.otherImage = !s.fw.image := Firmware.otherImage_of hrec
  refine ⟨fun hm => congrArg Host.Outcome.next ((doActivateFirmwareAtReset_eq p s).trans (congrArg State.settle ?_)),
    fun hm => congrArg Host.Outcome.next ((doActivateFirmwareHitless_eq p s).trans (congrArg State.settle ?_))⟩
  · rw [h.run (isOpc_and hop (beq_iff_eq.mpr hm)) hf (by simp) (fun _ => hfog) (by simp) hr, hrec, hother, if_neg Bool.false_ne_true,
      show (s.beginOrder p b).fw = s.fw from rfl]
  · rw [h.run (isOpc_and hop (bne_iff_ne.mpr hm)) hf (by simp) (fun _ => hfog) (by simp) hr, hrec, if_neg Bool.false_ne_true]

/-! #### Recovery (R467) -/

/-- An order that recovery serves, in no fog, with good parameters and nothing in its way, acts. -/
theorem State.runOrder_recovers {want : Bytes → Bool} {fields : Bytes → List (Nat × Nat × Bool)} {refusal : State → Bytes → Option Nat}
    {act : State → Bytes → State} (hs : s.headSlot p = some (.packet b)) (ht : s.ringTurn p = true) (hw : want b = true) (hop : recoveryOrder (byteAt b 1) = true)
    (hh : headerBad b = false) (hf : firstBad b (fields b) = none) (hfog : s.foggy = false) (hr : refusal (s.beginOrder p b) b = none) :
    s.runOrder p want fields false false none refusal act = act (s.beginOrder p b) b := by
  have hdue : s.orderDue p want = some b := by rw [State.orderDue, hs]; simp [ht, hw]
  have hcol : (s.beginOrder p b).columnRefusal p b false false none = none := State.columnRefusal_none _ _ _ _ _ _ (by simp) (fun _ => hfog) (by simp)
  unfold State.runOrder
  rw [hdue]
  dsimp only
  rw [hop, Bool.not_true, Bool.and_false, hh, hf]
  dsimp only
  rw [hcol]
  dsimp only
  rw [hr]
  rfl

/-- An order at the head of its ring, begun. -/
theorem carriesOut_beginOrder (hs : s.headSlot p = some (.packet b)) (ht : s.ringTurn p = true) (hm : s.pfMaster p = true) : carriesOut p b s (s.beginOrder p b) := by
  have htender : s.cores.tenderUp = true := by
    simp only [State.ringTurn, State.canBegin, hs, Bool.and_eq_true] at ht
    obtain ⟨⟨⟨htender, -⟩, -⟩, -⟩ := ht
    exact htender
  refine ⟨⟨_, s.beginOrder_oq p b, rfl, rfl, rfl, rfl, rfl, rfl⟩, Eq.trans ?_ hm, htender⟩
  exact s.modOq_pfMaster p (fun o => { o with active := some { opc := byteAt b 1, packet := b, index := o.head, stage := .none } })

theorem activate_recovers (hs : s.headSlot p = some (.packet b)) (ht : s.ringTurn p = true) (hm : s.pfMaster p = true) (hrec : s.fw.recovery = true)
    (hh : headerBad b = false) (hfog : s.foggy = false) (hop : byteAt b 1 = 0x51) (hf : firstBad b (activateFields b) = none)
    (ho : s.otherActive p exclusive = false) (hv : (s.fw.slot (!s.fw.imgA.valid)).valid = true) :
    ∃ u : State, exec (if byteAt b 0x10 = 1 then .activateFirmwareAtReset p else .activateFirmwareHitless p) s = .next (((u.pfVector 5).settle).moduleReset 4).settle ∧
      answers p b s.clk.hub 0 (le 4 (s.fw.slot (!s.fw.imgA.valid)).release.toNat) s u ∧ u.fw = { s.fw with run := !s.fw.imgA.valid } := by
  have hother : (s.beginOrder p b).fw.otherImage = !s.fw.imgA.valid := by
    rw [show (s.beginOrder p b).fw = s.fw from rfl, Firmware.otherImage, hrec]
    rfl
  have href : (s.beginOrder p b).activateRefusal p b = none := by
    have hbusy := State.beginOrder_busy s p b
    have hfw : (s.beginOrder p b).fw = s.fw := rfl
    unfold State.activateRefusal
    dsimp only
    rw [hbusy, hother, hfw, ho, hrec, hv, Bool.or_true]
    rfl
  have hact : (s.beginOrder p b).recoverRun p = ((((s.beginOrder p b).nameRun p (!s.fw.imgA.valid)).done p
      (le 4 (s.fw.slot (!s.fw.imgA.valid)).release.toNat)).pfVector 5).settle.moduleReset 4 := by
    unfold State.recoverRun
    dsimp only
    rw [hother]
    rfl
  have hrec' : (s.beginOrder p b).fw.recovery = true := hrec
  obtain ⟨hans, hfw, -, -⟩ := (carriesOut_beginOrder hs ht hm).named (!s.fw.imgA.valid) (s.fw.slot (!s.fw.imgA.valid)).release
  refine ⟨_, ?_, hans, hfw⟩
  by_cases hmode : byteAt b 0x10 = 1
  · rw [if_pos hmode]
    refine congrArg Host.Outcome.next ((doActivateFirmwareAtReset_eq p s).trans (congrArg State.settle ?_))
    rw [State.runOrder_recovers hs ht (isOpc_and hop (beq_iff_eq.mpr hmode)) (by rw [hop]; rfl) hh hf hfog href, if_pos hrec', hact]
  · rw [if_neg hmode]
    refine congrArg Host.Outcome.next ((doActivateFirmwareHitless_eq p s).trans (congrArg State.settle ?_))
    rw [State.runOrder_recovers hs ht (isOpc_and hop (bne_iff_ne.mpr hmode)) (by rw [hop]; rfl) hh hf hfog href, if_pos hrec', hact]

/-! #### Flash operations (R327, R397) -/

theorem State.setImage_target (w : State) (x : ImageSlot) (b : Bool) :
    (w.setImage b x).fw.slot b = x ∧ (w.setImage b x).fw.slot (!b) = w.fw.slot (!b) ∧ { w.setImage b x with fw := w.fw } = w := by
  cases b <;> exact ⟨rfl, rfl, rfl⟩

/-- The state of a read that has landed: no longer awaited, the hub's source pending. -/
def State.imageLanded (s : State) (p : HPort) : State := (s.endRead p (.image p)).fire 0 171

theorem State.imageLanded_facts (s : State) (p : HPort) :
    (s.imageLanded p).oq p = s.oq p ∧ (s.imageLanded p).fw = s.fw ∧ (s.imageLanded p).cores = s.cores ∧ (s.imageLanded p).clk = s.clk ∧
      (s.imageLanded p).pfMaster p = s.pfMaster p ∧ ((s.imageLanded p).evu 0).isPend 171 = true ∧ ((s.host p).readQ = [] → (s.imageLanded p).out = s.out) := by
  have hfire := (s.endRead p (.image p)).fire_frame 0 171
  refine ⟨(congrArg (fun v : State => v.oq p) hfire :).trans (State.endRead_oq _ _ _ _), (congrArg State.fw hfire :).trans (State.endRead_fw _ _ _),
    (congrArg State.cores hfire :).trans (State.endRead_cores _ _ _), (congrArg State.clk hfire :).trans (State.endRead_clk _ _ _),
    (congrArg (fun v : State => v.pfMaster p) hfire :).trans (State.endRead_pfMaster _ _ _ _), ?_, fun hq => (congrArg State.out hfire :).trans ?_⟩
  · rw [State.imageLanded, State.fire_isPend _ 0 171 171 rfl rfl, beq_self_eq_true, Bool.or_true]
  · have hlen : ((s.modHost p (fun h => { h with reads := h.reads.eraseP (fun r => r.key == .image p) })).host p).readQ = [] := by
      rw [State.host_modHost]
      exact hq
    rw [State.endRead, State.kickReads, hlen]
    rfl

theorem doFlashOperationComplete_read {a : Active} {addr : W64} {len : Nat} (hst : s.stager = some (p, a)) (hg : a.stage = .stageRead addr len)
    (ho : s.readOpen p (.image p) = true) (d : Dma) :
    doFlashOperationComplete (.imageRead d) s = (match d with
      | .refused => (s.imageLanded p).putReply p (s.imageLanded p).clk.hub 0x4001 []
      | .failed => (s.imageLanded p).putReply p (s.imageLanded p).clk.hub 0x4002 []
      | .ok data =>
        let v := (s.imageLanded p).setImage (s.imageLanded p).fw.target {}
        if Config.imageVerifies (padTo len data) then v.setStage p (.stageWrite (padTo len data)) else v.refuse p 0x14).settle := by
  unfold doFlashOperationComplete
  rw [hst]
  dsimp only
  rw [hg]
  dsimp only
  exact (if_neg (by rw [ho]; exact Bool.false_ne_true)).trans (by cases d <;> rfl)

theorem doFlashOperationComplete_written {a : Active} {img : Bytes} (hst : s.stager = some (p, a)) (hg : a.stage = .stageWrite img)
    (ht : s.cores.tenderUp = true) (good : Bool) :
    doFlashOperationComplete (.written good) s = if good then
        ((((s.fire 0 171).setImage (s.fire 0 171).fw.target { valid := true, release := Config.imageRelease img }).effected p).firmwareDone p (Config.imageRelease img))
      else ((s.fire 0 171).refuse p 0x14).settle := by
  unfold doFlashOperationComplete
  rw [hst]
  dsimp only
  rw [hg]
  dsimp only
  rw [State.fire_cores, ht, Bool.not_true, if_neg Bool.false_ne_true]

/-- The image has been read: verified, it is to be written to the slot marked invalid; else the order is refused, or answered with the read's failure. -/
theorem flashRead_facts {a : Active} {addr : W64} {len : Nat} (hst : s.stager = some (p, a)) (ha : (s.oq p).active = some a) (hi : a.index = (s.oq p).head)
    (hopc : byteAt a.packet 1 = a.opc) (ho : a.orphan = false) (hr : a.restarted = false) (hm : s.pfMaster p = true) (ht : s.cores.tenderUp = true)
    (hg : a.stage = .stageRead addr len) (hopen : s.readOpen p (.image p) = true) :
    (∀ data : Bytes, Config.imageVerifies (padTo len data) = true → ∃ u : State, exec (.flashOperationComplete (.imageRead (.ok data))) s = .next u.settle ∧
      (u.oq p).active = some { a with stage := .stageWrite (padTo len data) } ∧ u.fw.slot s.fw.target = {} ∧
      u.fw.slot (!s.fw.target) = s.fw.slot (!s.fw.target) ∧ ((s.host p).readQ = [] → u.out = s.out) ∧ (u.evu 0).isPend 171 = true) ∧
    (∀ data : Bytes, Config.imageVerifies (padTo len data) = false → ∃ u : State, exec (.flashOperationComplete (.imageRead (.ok data))) s = .next u.settle ∧
      answers p a.packet s.clk.hub 0x1014 [] s u ∧ u.fw.slot s.fw.target = {} ∧ u.fw.slot (!s.fw.target) = s.fw.slot (!s.fw.target)) ∧
    (∃ u : State, exec (.flashOperationComplete (.imageRead .failed)) s = .next u.settle ∧ answers p a.packet s.clk.hub 0x4002 [] s u ∧ u.fw = s.fw) ∧
    (∃ u : State, exec (.flashOperationComplete (.imageRead .refused)) s = .next u.settle ∧ answers p a.packet s.clk.hub 0x4001 [] s u ∧ u.fw = s.fw) := by
  obtain ⟨hoq, hfw, hcores, hclk, hmaster, hpend, hout⟩ := s.imageLanded_facts p
  have hdo := fun d => doFlashOperationComplete_read hst hg hopen d
  rw [hclk, hfw] at hdo
  generalize s.imageLanded p = w at hoq hfw hcores hclk hmaster hpend hout hdo
  have hq : w.oq p = { s.oq p with active := some a } := by rw [hoq, ← ha]
  have reply := fun (v : State) (hv : v.oq p = w.oq p) (hvm : v.pfMaster p = w.pfMaster p) (hvc : v.cores = w.cores) (status : W16) =>
    State.putReply_any (s := s) (w := v) (b := a.packet) (hv.trans hq) hopc.symm rfl hi ho hr (hvm.trans (hmaster.trans hm))
      ((congrArg Cores.tenderUp (hvc.trans hcores)).trans ht) s.clk.hub status []
  obtain ⟨htarget, hother, himage⟩ := w.setImage_target {} s.fw.target
  refine ⟨fun data hv => ?_, fun data hv => ?_, ?_, ?_⟩
  · have h := hdo (.ok data)
    dsimp only at h
    rw [if_pos hv] at h
    refine ⟨_, congrArg Host.Outcome.next h, ?_, htarget, hother.trans (by rw [hfw]), hout, hpend⟩
    rw [State.setStage, State.oq_modOq]
    exact congrArg (fun o : OrderRing => o.active.map (fun a => ({ a with stage := .stageWrite (padTo len data) } : Active))) ((congrArg (fun v : State => v.oq p) himage :).trans hq)
  · have h := hdo (.ok data)
    dsimp only at h
    rw [if_neg (by rw [hv]; exact Bool.false_ne_true)] at h
    obtain ⟨hans, hframe⟩ := reply (w.setImage s.fw.target {}) rfl rfl rfl 0x1014
    have hhub : (w.setImage s.fw.target {}).clk.hub = s.clk.hub := congrArg (fun c => c.hub) hclk
    rw [State.refuse, hhub] at h
    refine ⟨_, congrArg Host.Outcome.next h, hans, ?_, ?_⟩
    · exact (congrArg (fun v : State => v.fw.slot s.fw.target) hframe :).trans htarget
    · exact (congrArg (fun v : State => v.fw.slot (!s.fw.target)) hframe :).trans (hother.trans (by rw [hfw]))
  · obtain ⟨hans, hframe⟩ := reply w rfl rfl rfl 0x4002
    exact ⟨_, congrArg Host.Outcome.next (hdo .failed), hans, (congrArg State.fw hframe :).trans hfw⟩
  · obtain ⟨hans, hframe⟩ := reply w rfl rfl rfl 0x4001
    exact ⟨_, congrArg Host.Outcome.next (hdo .refused), hans, (congrArg State.fw hframe :).trans hfw⟩

/-- The image has been written, and read back as good or not. -/
theorem flashWritten_facts {a : Active} {img : Bytes} (hst : s.stager = some (p, a)) (ha : (s.oq p).active = some a) (hi : a.index = (s.oq p).head)
    (hopc : byteAt a.packet 1 = a.opc) (ho : a.orphan = false) (hr : a.restarted = false) (hm : s.pfMaster p = true) (ht : s.cores.tenderUp = true)
    (hg : a.stage = .stageWrite img) :
    (∃ u : State, exec (.flashOperationComplete (.written true)) s = .next (u.pfVector 5).settle ∧
      answers p a.packet s.clk.hub 0 (le 4 (Config.imageRelease img).toNat) s u ∧
      u.fw.slot s.fw.target = { valid := true, release := Config.imageRelease img } ∧ u.fw.slot (!s.fw.target) = s.fw.slot (!s.fw.target)) ∧
    (∃ u : State, exec (.flashOperationComplete (.written false)) s = .next u.settle ∧ answers p a.packet s.clk.hub 0x1014 [] s u ∧ u.fw = s.fw) := by
  have hdo := fun good => doFlashOperationComplete_written hst hg ht good
  have hfire := s.fire_frame 0 171
  have hoq : (s.fire 0 171).oq p = s.oq p := (congrArg (fun v : State => v.oq p) hfire :)
  have hfw : (s.fire 0 171).fw = s.fw := (congrArg State.fw hfire :)
  have hclk : (s.fire 0 171).clk = s.clk := (congrArg State.clk hfire :)
  have hmaster : (s.fire 0 171).pfMaster p = true := (congrArg (fun v : State => v.pfMaster p) hfire :).trans hm
  have htender : (s.fire 0 171).cores.tenderUp = true := (congrArg (fun v : State => v.cores.tenderUp) hfire :).trans ht
  rw [hfw] at hdo
  generalize s.fire 0 171 = w at hoq hfw hclk hmaster htender hdo
  have hq : w.oq p = { s.oq p with active := some a } := by rw [hoq, ← ha]
  obtain ⟨htarget, hother, himage⟩ := w.setImage_target { valid := true, release := Config.imageRelease img } s.fw.target
  refine ⟨?_, ?_⟩
  · obtain ⟨v, hv⟩ : ∃ v, v = (w.setImage s.fw.target { valid := true, release := Config.imageRelease img }).effected p := ⟨_, rfl⟩
    have hvq : v.oq p = { s.oq p with active := some { a with effected := true } } := by
      rw [hv, State.effected_oq]
      exact congrArg (fun o : OrderRing => ({ o with active := o.active.map (fun a : Active => ({ a with effected := true } : Active)) } : OrderRing)) hq
    obtain ⟨hans, hframe⟩ := State.putReply_any (s := s) (w := v) (a := { a with effected := true }) (b := a.packet) hvq hopc.symm rfl hi ho hr
      (by rw [hv]; exact (State.modOq_pfMaster _ _ _).trans hmaster) (by rw [hv]; exact htender) s.clk.hub 0 (le 4 (Config.imageRelease img).toNat)
    have hhub : v.clk.hub = s.clk.hub := by rw [hv]; exact congrArg (fun c => c.hub) hclk
    refine ⟨_, congrArg Host.Outcome.next ((hdo true).trans ?_), hans, ?_, ?_⟩
    · rw [if_pos rfl, ← hv, State.firmwareDone, State.done, hhub]
    · exact (congrArg (fun v : State => v.fw.slot s.fw.target) hframe :).trans (by rw [hv]; exact htarget)
    · exact (congrArg (fun v : State => v.fw.slot (!s.fw.target)) hframe :).trans (by rw [hv]; exact hother.trans (by rw [hfw]))
  · obtain ⟨hans, hframe⟩ := State.putReply_any (s := s) (b := a.packet) hq hopc.symm rfl hi ho hr hmaster htender s.clk.hub 0x1014 []
    refine ⟨_, congrArg Host.Outcome.next ((hdo false).trans ?_), hans, (congrArg State.fw hframe :).trans hfw⟩
    rw [if_neg Bool.false_ne_true, State.refuse, hclk]
    rfl

/-! #### The Tender's restart into a new image (R469) -/

theorem State.restartOrder_none {q : HPort} (h : (s.oq q).active = none) : s.restartOrder q = s := by
  rw [State.restartOrder, h]

theorem State.modOq_oq_ne {q : HPort} (w : State) (p : HPort) (f) (h : q ≠ p) : (w.modOq p f).oq q = w.oq q :=
  congrArg HostPort.oq (w.host_modHost_ne p q _ h)

theorem State.fetchOrders_oq_ne {q : HPort} (w : State) (p : HPort) (h : q ≠ p) : (w.fetchOrders p).oq q = w.oq q := by
  unfold State.fetchOrders
  dsimp only
  split
  · obtain ⟨-, -, hoq⟩ := State.sendReads_facts (w.modOq p (fun o => { o with reading := some (o.fetch, min (o.tail - o.fetch) (o.size - o.fetch % o.size)) })) p none
      [((w.oq p).obase + BitVec.ofNat 64 (128 * ((w.oq p).fetch % (w.oq p).size)), 128 * min ((w.oq p).tail - (w.oq p).fetch) ((w.oq p).size - (w.oq p).fetch % (w.oq p).size))] (.orderSlot p)
    exact (hoq q).trans (State.modOq_oq_ne w p _ h)
  · rfl

/-- The reply of one ring leaves the other. -/
theorem State.putReply_oq_ne {q : HPort} {w : State} {a : Active} (h : q ≠ p) (ha : (w.oq p).active = some a) (hf : a.after = .none) (time : W64) (status : W16)
    (result : Bytes) : (w.putReply p time status result).oq q = w.oq q := by
  unfold State.putReply
  dsimp only
  rw [ha]
  dsimp only
  rw [hf]
  split
  · exact State.modOq_oq_ne w p _ h
  · split
    · exact State.modOq_oq_ne w p _ h
    · split
      · exact State.modOq_oq_ne w p _ h
      · refine (State.fetchOrders_oq_ne _ p h).trans ((State.vector_oq _ _ _ q).trans ?_)
        rw [State.oq, ← State.oq, State.modOq_oq_ne _ p _ h]
        exact State.oq_modHost w q p (fun h => { h with l1 := .l0, txIdle := w.clk.now }) (fun _ => rfl)

theorem otherHost_ne (p : HPort) : otherHost p ≠ p := by
  revert p
  decide

theorem hport_cases (p : HPort) : p = 0 ∨ p = 1 := by
  revert p
  decide

theorem tenderRestartComplete_answers {a : Active} (ha : (s.oq p).active = some a) (hi : a.index = (s.oq p).head) (hopc : byteAt a.packet 1 = a.opc)
    (ho : a.orphan = false) (hr : a.restarted = false) (haf : a.after = .none) (he : a.effected = true) (hg : a.stage = .activate)
    (hm : s.pfMaster p = true) (hother : (s.oq (otherHost p)).active = none) (hrun : (s.pair tender).running = true) (hup : s.cores.tenderUp = false)
    (hhub : s.fw.hub = true) :
    ∃ u : State, exec .tenderRestartComplete s = .next u.settle ∧ answers p a.packet s.clk.hub 0 (le 4 s.fw.release.toNat) s u ∧ u.fw = s.fw ∧
      u.cores.tenderUp = true := by
  obtain ⟨w, hw⟩ : ∃ w, w = s.onCores (fun k => { k with tenderUp := true }) := ⟨_, rfl⟩
  have hq : w.oq p = { s.oq p with active := some a } := by rw [hw, ← ha]; rfl
  obtain ⟨v, hv⟩ : ∃ v, v = (w.done p (le 4 s.fw.release.toNat)).pfVector 5 := ⟨_, rfl⟩
  have hdone : w.restartOrder p = v := by
    unfold State.restartOrder
    rw [show (w.oq p).active = some a by rw [hq]]
    dsimp only
    rw [he, hg, hv, show w.fw = s.fw by rw [hw]; rfl]
    rfl
  have hvoq : ∀ q, v.oq q = (w.done p (le 4 s.fw.release.toNat)).oq q := fun q => by
    rw [hv, State.pfVector]
    exact (State.vector_oq _ _ _ q).trans (State.vector_oq _ _ _ q)
  obtain ⟨hans, hframe⟩ := State.putReply_any (s := s) (w := w) (b := a.packet) hq hopc.symm rfl hi ho hr (by rw [hw]; exact hm) (by rw [hw]; rfl) w.clk.hub 0
    (le 4 s.fw.release.toNat)
  have hhub' : w.clk.hub = s.clk.hub := by rw [hw]; rfl
  rw [hhub'] at hans hframe
  have hdone' : w.done p (le 4 s.fw.release.toNat) = w.putReply p s.clk.hub 0 (le 4 s.fw.release.toNat) := by rw [State.done, hhub']
  have hvans : answers p a.packet s.clk.hub 0 (le 4 s.fw.release.toNat) s v := by
    refine hans.keeps ?_ ?_ fun o h => ?_
    · rw [hvoq, hdone']
    · rw [hvoq, hdone']
    · rw [hv, hdone']
      exact State.vector_adds _ _ _ (State.vector_adds _ _ _ h)
  have hvother : (v.oq (otherHost p)).active = none := by
    rw [hvoq, hdone', State.putReply_oq_ne (otherHost_ne p) (by rw [hq]) haf, ← hother, hw]
    rfl
  have hvfw : v.fw = s.fw := by
    rw [hv, State.pfVector_fw, hdone', show (w.putReply p s.clk.hub 0 (le 4 s.fw.release.toNat)).fw = w.fw from (congrArg State.fw hframe :), hw]
    rfl
  have hvup : v.cores.tenderUp = true := by
    rw [hv, State.pfVector_cores, hdone', State.putReply_cores, hw]
    rfl
  have hboth : (w.restartOrder 0).restartOrder 1 = v := by
    have hwother : (w.oq (otherHost p)).active = none := by rw [hw]; exact hother
    rcases hport_cases p with rfl | rfl
    · rw [hdone]
      exact State.restartOrder_none hvother
    · rw [show w.restartOrder 0 = w from State.restartOrder_none hwother, hdone]
  have hdo : doTenderRestartComplete s = ((v.fetchOrders 0).fetchOrders 1).settle := by
    rw [doTenderRestartComplete]
    refine (if_pos (by rw [hrun, hup, hhub]; rfl)).trans ?_
    dsimp only
    rw [← hw, hboth]
  have hfetch : ∀ (x : State) (q : HPort), (x.fetchOrders q).fw = x.fw ∧ ((x.fetchOrders q).oq p).active = (x.oq p).active ∧
      ((x.fetchOrders q).oq p).head = (x.oq p).head ∧ ∀ o ∈ x.out, o ∈ (x.fetchOrders q).out := by
    intro x q
    obtain ⟨hff, ⟨l, hl⟩, hfa, hfh, -⟩ := x.fetchOrders_facts q
    refine ⟨(congrArg State.fw hff :), ?_, ?_, fun o h => by rw [hl]; exact List.mem_append_right l h⟩
    · by_cases hqp : p = q
      · rw [hqp, hfa]
      · rw [State.fetchOrders_oq_ne _ _ hqp]
    · by_cases hqp : p = q
      · rw [hqp, hfh]
      · rw [State.fetchOrders_oq_ne _ _ hqp]
  obtain ⟨hfw0, ha0, hh0, ho0⟩ := hfetch v 0
  obtain ⟨hfw1, ha1, hh1, ho1⟩ := hfetch (v.fetchOrders 0) 1
  exact ⟨_, congrArg Host.Outcome.next hdo, (hvans.keeps ha0 hh0 ho0).keeps ha1 hh1 ho1, hfw1.trans (hfw0.trans hvfw),
    by rw [State.fetchOrders_cores, State.fetchOrders_cores, hvup]⟩

/-! #### Pairs loaded and handed over (R469) -/

theorem State.handOver_facts {a c : PairNum} {k : Nat} (hne : a ≠ c) (hk : (s.pair a).slot = some k) :
    ((s.handOver a c).pair c).slot = some k ∧ ((s.handOver a c).pair a).slot = none ∧ (∀ x, x ≠ a → x ≠ c → (s.handOver a c).pair x = s.pair x) ∧
      (s.handOver a c).ports = s.ports := by
  have hdo : s.handOver a c = ((s.retarget a c).modPair c (fun p => { p with slot := some k, waiting := false })).modPair a (fun p => { p with slot := none }) := by
    rw [State.handOver, hk]
  rw [hdo]
  refine ⟨?_, ?_, fun x h1 h2 => ?_, rfl⟩
  · rw [State.pair_modPair_ne _ _ _ _ hne.symm, State.pair_modPair]
  · rw [State.pair_modPair]
  · rw [State.pair_modPair_ne _ _ _ _ h1, State.pair_modPair_ne _ _ _ _ h2]
    rfl

end

/-- Settles O46. -/
theorem firmwareOrders : Obligations.FirmwareOrders := by
  refine ⟨fun p b s h hfog => ?_, fun p b s hs ht hm hrec hh hfog hop hmode hz ho hv => activate_recovers hs ht hm hrec hh hfog hop (activateFields_good hmode hz) ho hv,
    fun p a s hst ha hi hopc ho hr hm ht => ⟨fun addr len hg hopen => flashRead_facts hst ha hi hopc ho hr hm ht hg hopen,
      fun img hg => flashWritten_facts hst ha hi hopc ho hr hm ht hg⟩,
    fun p a s ha hi hopc ho hr haf he hg hm hother hrun hup hhub => tenderRestartComplete_answers ha hi hopc ho hr haf he hg hm hother hrun hup hhub,
    fun a c k rel s => ?_⟩
  · intro refused x
    refine ⟨fun hop ha h1 h2 hz => h.stageFirmware hfog hop (stageFields_good ha h1 h2 hz), fun hop hmode hz ho => ?_⟩
    have hf := activateFields_good hmode hz
    have hrec : s.fw.recovery = false := by obtain ⟨-, -, -, hv, -⟩ := h; exact hv
    have href := State.activateRefusal_eq s p b hrec ho
    refine ⟨fun hx => ?_, fun hx hm => ?_, fun hx hm hroll => ?_, fun hx hm hroll => ⟨fun hsp => ?_, fun hsp => ?_⟩⟩
    · rw [show (s.fw.slot (!s.fw.image)).valid = false from hx] at href
      obtain ⟨u, hu, hrest⟩ := h.activateRefused hfog hop hf (href.trans (if_pos rfl))
      exact ⟨u, hu, hrest⟩
    · rw [show (s.fw.slot (!s.fw.image)).valid = true from hx, hm] at href
      obtain ⟨hans, hfw, hpend, hcores⟩ := h.beginOrder.named (!s.fw.image) (s.fw.slot (!s.fw.image)).release
      exact ⟨_, (h.activate hfog hop hf href).1 hm, hans, hfw, hpend, congrArg Cores.pairs hcores⟩
    · have hnot : (Config.imageRollFrom (s.fw.slot (!s.fw.image)).release).contains s.fw.release = false := by simpa using hroll
      rw [show (s.fw.slot (!s.fw.image)).valid = true from hx, hm, hnot] at href
      obtain ⟨u, hu, hrest⟩ := h.activateRefused hfog hop hf href
      rw [hm, if_neg (by decide)] at hu
      exact ⟨u, hu, hrest⟩
    · have hin : (Config.imageRollFrom (s.fw.slot (!s.fw.image)).release).contains s.fw.release = true := by simpa using hroll
      have hless : s.spareless = true := by
        obtain ⟨d, hd, he⟩ := hsp
        exact List.any_eq_true.mpr ⟨d, List.mem_range.mpr hd, by rw [he]; rfl⟩
      rw [show (s.fw.slot (!s.fw.image)).valid = true from hx, hm, hin, hless] at href
      obtain ⟨u, hu, hrest⟩ := h.activateRefused hfog hop hf href
      rw [hm, if_neg (by decide)] at hu
      exact ⟨u, hu, hrest⟩
    · have hin : (Config.imageRollFrom (s.fw.slot (!s.fw.image)).release).contains s.fw.release = true := by simpa using hroll
      have hless : s.spareless = false := by
        rw [State.spareless, List.any_eq_false]
        intro d hd he
        exact hsp d (List.mem_range.mp hd) (List.isEmpty_iff.mp he)
      rw [show (s.fw.slot (!s.fw.image)).valid = true from hx, hm, hin, hless] at href
      exact ⟨s.beginOrder p b, h.begun, rfl, rfl, (h.activate hfog hop hf href).2 (by rw [hm]; decide), (State.nameRun_facts _ _ _).2.1⟩
  · refine ⟨?_, ?_, ?_, ?_, fun x hx => ?_, fun hne hk => State.handOver_facts hne hk⟩
    · rw [State.loadPair_pair]
    · rw [State.loadPair_pair]
    · rw [State.loadPair_pair]
    · rw [State.loadPair_pair]
    · exact State.pair_modPair_ne _ _ _ _ hx

end Sys2Proof.Machine

namespace Sys2Proof.Machine
open Sys2Proof

/-! ### Self-tests (R392, R417, R463, R473-R483) -/

section
variable {s : State}

/-! #### Tests of domains (R463, R477, R480) -/

/-- The signature of a run is held, and the hub's source is pending. -/
theorem State.holdSig_fired (s : State) (n : Nat) (mbist : Bool) (sig : W64) :
    let v := (s.holdSig n mbist sig).fire 0 170
    v.fw = { s.fw with sigs := tset s.fw.sigs (2 * n + bnat mbist) { misr := sig, time := s.clk.hub, release := s.fw.release } } ∧ (v.evu 0).isPend 170 = true ∧
      { v with fw := s.fw, evus := s.evus, power := s.power } = s := by
  intro v
  have hfire := (s.holdSig n mbist sig).fire_frame 0 170
  refine ⟨(congrArg State.fw hfire :), ?_, (congrArg (fun t : State => { t with fw := s.fw }) hfire :)⟩
  rw [State.fire_isPend _ 0 170 170 rfl rfl, beq_self_eq_true, Bool.or_true]

/-- An ordered test of a domain that is not a die-level difference ends. -/
theorem State.domainTested_ordered {n : Nat} {mbist : Bool} {sigs : List (W32 × W64)} {t : TestRun}
    (ht : s.fw.tests.find? (fun t => t.dom == n && t.started && t.mbist == mbist) = some t)
    (h : s.mismatches (domainUnits n) mbist sigs ≠ [] ∨ dieLevel mbist sigs = none) :
    s.domainTested n mbist sigs = (((s.holdSig n mbist (s.domainSig (domainUnits n) mbist sigs)).fire 0 170).orderedDone t mbist
      (s.mismatches (domainUnits n) mbist sigs)).settle := by
  have hnone : (if (s.mismatches (domainUnits n) mbist sigs).isEmpty then dieLevel mbist sigs else none) = none := by
    rcases h with h | h
    · rw [if_neg (fun e => h (List.isEmpty_iff.mp e))]
    · rw [h, ite_self]
  unfold State.domainTested
  dsimp only
  rw [ht]
  dsimp only
  rw [hnone]

theorem State.startupDone_nil (n : Nat) (mbist : Bool) : s.startupDone n mbist [] = s := if_pos rfl

/-- A start-up test of a domain without a mismatch. -/
theorem State.domainTested_startup {n : Nat} {mbist : Bool} {sigs : List (W32 × W64)} (ht : s.fw.tests = []) (hon : s.domOn n = true)
    (hsig : tfind s.fw.sigs (2 * n + bnat mbist) = none) (hhub : s.fw.hub = true) (hbad : s.mismatches (domainUnits n) mbist sigs = []) :
    s.domainTested n mbist sigs = ((s.holdSig n mbist (s.domainSig (domainUnits n) mbist sigs)).fire 0 170).settle := by
  unfold State.domainTested
  dsimp only
  rw [ht, List.find?_nil]
  dsimp only
  rw [hon, hsig, hhub, hbad, State.startupDone_nil]
  exact if_pos rfl

theorem State.orderedDone_again (t : TestRun) (hb : t.both = true) : s.orderedDone t false [] = s.onFw (fun f => { f with
    tests := s.fw.tests.map (fun x => if x.dom == t.dom then { x with mbist := true, both := false } else x) }) := by
  unfold State.orderedDone
  dsimp only
  rw [hb]
  rfl

theorem State.orderedDone_over (t : TestRun) {mbist : Bool} (h : t.both = false ∨ mbist = true) :
    s.orderedDone t mbist [] = ((if t.wasOn then
      ((s.onFw (fun f => { f with tests := f.tests.filter (fun x => x.dom != t.dom) })).modDom t.dom (fun x => { x with testing := false })).requestOn t.dom
      else ((s.onFw (fun f => { f with tests := f.tests.filter (fun x => x.dom != t.dom) })).modDom t.dom (fun x => { x with testing := false }))).startTests).testReply := by
  have hcond : (t.both && !mbist) = false := by rcases h with h | h <;> rw [h] <;> simp
  unfold State.orderedDone
  dsimp only
  rw [hcond]
  rfl

/-! #### Rotating tests (R481-R483) -/

/-- The state in which a rotating test's run is judged: a mover is ready, the hub's source is pending. -/
def State.unitRun (s : State) (r : RotUnit) : State :=
  match r with
  | .mover m => (s.modMover m (fun x => { x with testing := true, freeing := none })).fire 0 170
  | _ => s.fire 0 170

theorem State.unitRun_facts (s : State) (r : RotUnit) : (s.unitRun r).fw = s.fw ∧ ((s.unitRun r).evu 0).isPend 170 = true ∧ (s.unitRun r).ports = s.ports ∧
    (s.unitRun r).out = s.out := by
  have hany : ∀ v : State, (v.fire 0 170).fw = v.fw ∧ ((v.fire 0 170).evu 0).isPend 170 = true ∧ (v.fire 0 170).ports = v.ports ∧ (v.fire 0 170).out = v.out := by
    intro v
    refine ⟨State.fire_fw _ _ _, ?_, State.fire_ports _ _ _, State.fire_out _ _ _⟩
    rw [State.fire_isPend _ 0 170 170 rfl rfl, beq_self_eq_true, Bool.or_true]
  cases r with
  | mover m => exact hany (s.modMover m _)
  | lampPair c => exact hany s
  | columnizer d e => exact hany s
  | portPair n => exact hany s

theorem State.unitTested_rotating {r : RotUnit} {mbist : Bool} {sigs : List (W32 × W64)} (hm : ∀ m, r = .mover m → (s.mover m).fenced = false)
    (hr : s.fw.rotating.contains r = true) (ht : s.testReady r = true) :
    s.unitTested r mbist sigs = ((s.unitRun r).rotTested r mbist (s.mismatches (rotUnits r) mbist sigs)).settle := by
  unfold State.unitTested
  cases r with
  | mover m =>
    dsimp only
    rw [hm m rfl, hr, ht]
    exact (if_neg Bool.false_ne_true).trans (if_pos rfl)
  | lampPair c =>
    dsimp only
    rw [hr, ht]
    exact if_pos rfl
  | columnizer d e =>
    dsimp only
    rw [hr, ht]
    exact if_pos rfl
  | portPair n =>
    dsimp only
    rw [hr, ht]
    exact if_pos rfl

/-- A run that matches, of a unit whose test is its first. -/
theorem State.rotTested_good {r : RotUnit} (h : s.fw.again.contains r = false) (mbist : Bool) :
    s.rotTested r mbist [] = if mbist then s.unitBack r else s := by
  unfold State.rotTested
  dsimp only
  rw [h]
  rfl

theorem State.rotTested_bad {r : RotUnit} {bad : List W32} (hb : bad ≠ []) (mbist : Bool) :
    s.rotTested r mbist bad = if s.fw.again.contains r then (bad.foldl (fun s site => s.failUnit site (rotDomain r) mbist) (s.unitFree r)).unitBack r
      else s.onFw (fun f => { f with again := f.again ++ [r] }) := by
  unfold State.rotTested
  exact if_neg (fun e => hb (List.isEmpty_iff.mp e))

/-- R417: a fenced mover returns after MBIST. -/
theorem State.unitTested_fenced {m : MoverNum} {sigs : List (W32 × W64)} (hf : (s.mover m).fenced = true) (hr : (s.mover m).retired = false)
    (hb : s.mismatches [moverSite m] true sigs = []) :
    s.unitTested (.mover m) true sigs =
      ((((s.fire 0 170).modMover m (fun x => { x with fenced := false })).rebuildAcct 8 m.val 0 (moverSite m)).admitDescs).settle := by
  have hb' : s.mismatches (rotUnits (.mover m)) true sigs = [] := hb
  unfold State.unitTested
  dsimp only
  rw [hf, hr, hb']
  exact if_pos rfl

/-- Where two spares of a die are free, one of them can take an active pair's ports. -/
theorem State.spareFor_isSome {c : PairNum} (h : 2 ≤ (s.freeSpares (pairDie c)).length) : (s.spareFor c).isSome = true := by
  have hnd : (s.freeSpares (pairDie c)).Nodup := (List.nodup_finRange 41).filter _
  obtain ⟨x, hx, hne⟩ : ∃ x ∈ s.freeSpares (pairDie c), x ≠ c := by
    by_contra hall
    push Not at hall
    have hle := List.Nodup.length_le_card (hnd) 
    have hsub : (s.freeSpares (pairDie c)).Subperm [c] := (List.subperm_of_subset hnd (fun y hy => List.mem_singleton.mpr (hall y hy)))
    have := hsub.length_le
    simp at this
    omega
  have hmem : x ∈ (List.finRange 41).filter (fun x => x != c && s.freeSpare (pairDie c) x) := by
    refine List.mem_filter.mpr ⟨List.mem_finRange x, ?_⟩
    rw [Bool.and_eq_true, bne_iff_ne]
    exact ⟨hne, (List.mem_filter.mp hx).2⟩
  unfold State.spareFor
  dsimp only
  split
  · rfl
  · cases hl : (List.finRange 41).filter (fun x => x != c && s.freeSpare (pairDie c) x) with
    | nil => rw [hl] at hmem; exact absurd hmem (by simp)
    | cons y l => rfl

/-- An active pair is freed for its test: its ports are with a spare. -/
theorem State.freeUnit_pair {c : PairNum} (h : s.canRotate (.lampPair c) = true) :
    ((s.freeUnit (.lampPair c)).pair c).testing = true ∧ ((s.freeUnit (.lampPair c)).pair c).slot = none ∧ (s.freeUnit (.lampPair c)).ports = s.ports ∧
      (s.freeUnit (.lampPair c)).fw = s.fw := by
  have hspare : 2 ≤ (s.freeSpares (pairDie c)).length := by
    unfold State.canRotate at h
    simp only [Bool.and_eq_true, decide_eq_true_eq] at h
    exact h.2
  obtain ⟨b, hb⟩ := Option.isSome_iff_exists.mp (State.spareFor_isSome hspare)
  have hdo : s.freeUnit (.lampPair c) = (s.handOver c b).modPair c (fun p => { p with testing := true }) := by
    unfold State.freeUnit
    dsimp only
    rw [hb]
  have hslot : ((s.handOver c b).pair c).slot = none ∧ (s.handOver c b).ports = s.ports ∧ (s.handOver c b).fw = s.fw := by
    unfold State.handOver
    split
    · next hn => exact ⟨hn, rfl, rfl⟩
    · exact ⟨by rw [State.pair_modPair], rfl, rfl⟩
  rw [hdo, State.pair_modPair]
  exact ⟨rfl, hslot.1, hslot.2.1, hslot.2.2⟩

theorem State.freeUnit_mover (m : MoverNum) : (s.freeUnit (.mover m)).fw = s.fw ∧
    (busyChannels (s.mover m) = 0 → (s.freeUnit (.mover m)).mover m = { s.mover m with testing := true }) ∧
    (busyChannels (s.mover m) ≠ 0 → (s.freeUnit (.mover m)).mover m = { s.mover m with freeing := some (s.clk.now + 156250000) }) := by
  unfold State.freeUnit
  dsimp only
  refine ⟨?_, fun h => ?_, fun h => ?_⟩
  · split <;> rfl
  · rw [if_pos h, State.mover_modMover]
  · rw [if_neg h, State.mover_modMover, secondTicks_eq]

theorem doRotatingTestStart_due {r : RotUnit} (hready : s.fw.ready = true) (hup : s.cores.tenderUp = true) (ht : s.fw.tests = [])
    (hm : s.power.mode = .run ∨ s.power.mode = .idle) (hr : s.fw.rotating.contains r = false) (hc : s.canRotate r = true) :
    doRotatingTestStart r s = ((s.freeUnit r).onFw (fun f => { f with rotating := f.rotating ++ [r] })).settle := by
  refine if_pos ?_
  have hmode : (s.power.mode == .run || s.power.mode == .idle) = true := by rcases hm with h | h <;> rw [h] <;> rfl
  rw [hready, hup, ht, hmode, hr, hc]
  rfl

theorem doRotatingTestPutOff_facts {m : MoverNum} {x : Nat} (hx : (s.mover m).freeing = some x) (hb : busyChannels (s.mover m) ≠ 0) :
    (s.clk.now < x → doRotatingTestPutOff (.mover m) s = s) ∧
    (x ≤ s.clk.now → doRotatingTestPutOff (.mover m) s = ((s.rotDrop (.mover m)).admitDescs).settle) := by
  have hdo : doRotatingTestPutOff (.mover m) s = if decide (x ≤ s.clk.now) && busyChannels (s.mover m) != 0 then ((s.rotDrop (.mover m)).admitDescs).settle else s := by
    unfold doRotatingTestPutOff
    dsimp only
    rw [hx]
    rfl
  rw [hdo, bne_iff_ne.mpr hb, Bool.and_true]
  exact ⟨fun h => if_neg (by rw [decide_eq_false (by omega)]; exact Bool.false_ne_true), fun h => if_pos (decide_eq_true h)⟩

end

/-- Settles O47. -/
theorem selfTests : Obligations.SelfTests := by
  refine ⟨fun n mbist sigs t s ht => ?_, fun t mbist s => ⟨fun hb hm => ?_, fun h => ?_⟩, fun n mbist sigs s ht hon hsig hhub hbad => ?_,
    fun r sigs s hm hr ht => ?_, fun m sigs s hf hr hb => ?_, fun r s hready hup ht hm hr hc => ?_, fun m x s hx hb => ?_⟩
  · intro bad h
    obtain ⟨hfw, hpend, hframe⟩ := s.holdSig_fired n.val mbist (s.domainSig (domainUnits n.val) mbist sigs)
    refine ⟨_, congrArg Host.Outcome.next (State.domainTested_ordered ht h), ⟨⟨s.domainSig (domainUnits n.val) mbist sigs, s.clk.hub, s.fw.release⟩, ?_, rfl, rfl, rfl⟩,
      hpend, by rw [hfw], hframe⟩
    rw [hfw]
    exact tfind_tset_same _ _ _
  · rw [hm, State.orderedDone_again t hb]
    rfl
  · exact ⟨_, State.orderedDone_over t h, rfl, State.dom_modDom _ _ _, rfl⟩
  · obtain ⟨hfw, hpend, hframe⟩ := s.holdSig_fired n.val mbist (s.domainSig (domainUnits n.val) mbist sigs)
    refine ⟨_, congrArg Host.Outcome.next (State.domainTested_startup ht hon hsig hhub hbad), ?_, hpend, hframe⟩
    rw [hfw]
    exact (congrArg Option.isSome (tfind_tset_same _ _ _) :)
  · intro bad
    obtain ⟨hfw, hpend, hports, hout⟩ := s.unitRun_facts r
    have hdo := fun mbist => State.unitTested_rotating (mbist := mbist) (sigs := sigs) hm hr ht
    refine ⟨fun hb ha => ?_, fun hb ha => ?_, fun mbist hb ha => ?_, fun mbist hb ha => ?_⟩
    · have h := hdo false
      rw [show s.mismatches (rotUnits r) false sigs = [] from hb, State.rotTested_good (by rw [hfw]; exact ha)] at h
      exact ⟨_, congrArg Host.Outcome.next h, hfw, hpend, hports, hout⟩
    · have h := hdo true
      rw [show s.mismatches (rotUnits r) true sigs = [] from hb, State.rotTested_good (by rw [hfw]; exact ha)] at h
      exact ⟨_, congrArg Host.Outcome.next h, hfw, hpend, hports, hout⟩
    · have h := hdo mbist
      rw [State.rotTested_bad hb, hfw, ha, if_neg Bool.false_ne_true] at h
      refine ⟨_, congrArg Host.Outcome.next h, ?_, hports, hout⟩
      exact (congrArg (fun f : Firmware => { f with again := f.again ++ [r] }) hfw :)
    · have h := hdo mbist
      rw [State.rotTested_bad hb, hfw, ha, if_pos rfl] at h
      exact ⟨_, congrArg Host.Outcome.next h, hfw, hports, hout⟩
  · refine ⟨_, congrArg Host.Outcome.next (State.unitTested_fenced hf hr hb), ?_, ?_, ?_⟩
    · rw [State.mover_modMover]
      exact congrArg (fun x : MoverSt => { x with fenced := false }) (congrArg (fun v : State => v.mover m) (s.fire_frame 0 170) :)
    · exact (State.fire_ports s 0 170 :)
    · exact (State.fire_out s 0 170 :)
  · refine ⟨_, congrArg Host.Outcome.next (doRotatingTestStart_due hready hup ht hm hr hc), fun c hu => ?_, fun m hu => ?_, fun d e hu => ?_, fun n hu => ?_⟩
    · subst hu
      exact State.freeUnit_pair hc
    · subst hu
      exact State.freeUnit_mover m
    · subst hu
      rfl
    · subst hu
      rfl
  · obtain ⟨hno, hyes⟩ := doRotatingTestPutOff_facts hx hb
    refine ⟨fun h => congrArg Host.Outcome.next (hno h), fun h => ⟨_, congrArg Host.Outcome.next (hyes h), ?_, rfl, rfl⟩⟩
    exact State.mover_modMover s m _

end Sys2Proof.Machine

namespace Sys2Proof.Machine
open Sys2Proof

/-! ### Control operations (R143, R152-R155, R160, R170-R173) -/

section
variable {s : State} {sc : SC} {o : Op} {p : Prog} {w : StepW}

/-! #### The records of programs and tokens -/

theorem State.prog?_modProg_ne {x : SC} (f) (h : x ≠ sc) : (s.modProg sc f).prog? x = s.prog? x :=
  congrArg Sub.prog (s.sub_modSub_ne sc x _ h)

theorem State.prog?_modProg_some (f : Prog → Prog) (h : s.prog? sc = some p) : (s.modProg sc f).prog? sc = some (f p) := by
  rw [State.prog_modProg, h]
  rfl

theorem State.sub_modProg_ne {x : SC} (f) (h : x ≠ sc) : (s.modProg sc f).sub x = s.sub x := s.sub_modSub_ne sc x _ h

@[simp] theorem State.token?_modProg (sc : SC) (f) (n : Nat) : (s.modProg sc f).token? n = s.token? n := rfl

theorem State.token?_modToken_some {n : Nat} {k : Token} (f : Token → Token) (h : s.token? n = some k) : (s.modToken n f).token? n = some (f k) := by
  rw [State.token?] at h
  exact (tfind_tupd_same _ _ _).trans (by rw [h]; rfl)

theorem State.token?_modToken_ne {n m : Nat} (f : Token → Token) (h : m ≠ n) : (s.modToken n f).token? m = s.token? m := tfind_tupd_ne _ _ _ _ h

theorem State.onlySub_modProg (sc : SC) (f : Prog → Prog) : onlySub sc s (s.modProg sc f) :=
  ⟨fun _ h => State.sub_modProg_ne f h, rfl, rfl, rfl⟩

/-! #### A step that stands is carried out -/

/-- A step whose granule can be read shows no error (R216, R218). -/
theorem State.stepEcc_good {a : W64} (h : stepSound s sc a) : s.stepEcc sc a .good = (s, true) := by
  unfold State.stepEcc
  dsimp only
  rw [show s.poisoned (s.stepGranule sc a) = false from h]
  rfl

theorem stepStands.carryOut (h : stepStands s sc o p w) {want : Op → Bool} (hw : want o = true) (k : State → Prog → StepW → State) :
    s.carryOut sc .good want k = k s p w := by
  obtain ⟨hdue, hop, hhold, hguard, hearly, hsound⟩ := h
  unfold State.carryOut
  rw [hdue]
  dsimp only
  rw [hop, hw, hhold, State.stepEcc_good hsound, Bool.and_false, Bool.not_true, Bool.or_false, if_neg Bool.false_ne_true]
  dsimp only
  rw [if_neg Bool.false_ne_true, hguard]
  dsimp only
  rw [hearly]

/-- The program whose step is due runs, with no chain and no post awaited. -/
theorem State.stepDue_prog (h : s.stepDue sc = some (p, w)) : s.prog? sc = some p ∧ p.phase = .running ∧ p.chain = none ∧ p.postWait = false ∧
    p.stepAt p.flow = some w := by
  unfold State.stepDue at h
  split at h
  · exact absurd h (by simp)
  · next q hq =>
    split at h
    · next hph =>
      split at h
      · exact absurd h (by simp)
      · next hno =>
        obtain ⟨x, hx, he⟩ := Option.map_eq_some_iff.mp h
        obtain ⟨rfl, rfl⟩ := Prod.mk.inj he
        rw [Bool.or_eq_true, not_or] at hno
        exact ⟨hq, hph, by simpa using hno.1, by simpa using hno.2, hx⟩
    · exact absurd h (by simp)

theorem stepStands.prog (h : stepStands s sc o p w) : s.prog? sc = some p := (State.stepDue_prog h.1).1

theorem State.controlStep_counts (h : p.controls < 65536) (k : State → State) :
    s.controlStep sc p k = k (s.modProg sc (fun p => { p with controls := p.controls + 1 })) := if_neg (by
  rw [show Config.controlStepLimit = 65536 from rfl]
  omega)

theorem State.controlStep_limit (h : 65536 ≤ p.controls) (k : State → State) : s.controlStep sc p k = s.stepCheck sc p.flow 11 := if_pos (by
  rw [show Config.controlStepLimit = 65536 from rfl]
  omega)

/-- What follows a control step that does not branch (R160). -/
def State.afterControl (s : State) (sc : SC) (w : StepW) (a : W64) : State :=
  if w.fchain then (if w.fpost then s.report sc a else s).goTo sc (a + 16) else s.endOk sc a

theorem State.controlEnd_eq {q : Prog} (h : s.prog? sc = some q) : s.controlEnd sc w = s.afterControl sc w q.flow := by
  rw [State.controlEnd, h]
  rfl

/-! #### NOP, GO, TEST -/

theorem branchTarget_eq (a : W64) (x : W32) : branchTarget a x = a + 16 * x.signExtend 64 := by
  rw [branchTarget, BitVec.shiftLeft_eq_mul_twoPow, BitVec.mul_comm]
  rfl

theorem stepStands.counted (h : stepStands s sc o p w) :
    (s.modProg sc (fun p => { p with controls := p.controls + 1 })).prog? sc = some { p with controls := p.controls + 1 } := State.prog?_modProg_some _ h.prog

theorem stepStands.nop (h : stepStands s sc o p w) (ho : o = .nop) (hc : p.controls < 65536) :
    exec (.nop sc .good) s = .next ((s.modProg sc (fun p => { p with controls := p.controls + 1 })).afterControl sc w p.flow).settle := by
  refine congrArg (fun v : State => Host.Outcome.next v.settle) ((h.carryOut (by rw [ho]; rfl) _).trans ?_)
  rw [State.controlStep_counts hc, State.controlEnd_eq h.counted]

theorem stepStands.go (h : stepStands s sc o p w) (ho : o = .go) (hc : p.controls < 65536) : exec (.go sc .good) s = .next
    ((if w.fpost then (((s.modProg sc (fun p => { p with controls := p.controls + 1 })).branch sc).report sc p.flow) else
      ((s.modProg sc (fun p => { p with controls := p.controls + 1 })).branch sc)).goTo sc (p.flow + 16 * w.aux.signExtend 64)).settle := by
  refine congrArg (fun v : State => Host.Outcome.next v.settle) ((h.carryOut (by rw [ho]; rfl) _).trans ?_)
  rw [State.controlStep_counts hc, branchTarget_eq]
  rfl

theorem stepStands.test (h : stepStands s sc o p w) (ho : o = .test) (hc : p.controls < 65536) :
    ((p.s &&& BitVec.ofNat 8 w.count) = BitVec.ofNat 8 (w.count / 256) → exec (.test sc .good) s = .next
      ((if w.fpost then (((s.modProg sc (fun p => { p with controls := p.controls + 1 })).branch sc).report sc p.flow) else
        ((s.modProg sc (fun p => { p with controls := p.controls + 1 })).branch sc)).goTo sc (p.flow + 16 * w.aux.signExtend 64)).settle) ∧
    ((p.s &&& BitVec.ofNat 8 w.count) ≠ BitVec.ofNat 8 (w.count / 256) → exec (.test sc .good) s =
      .next ((s.modProg sc (fun p => { p with controls := p.controls + 1 })).afterControl sc w p.flow).settle) := by
  have hguard : p.guarded = none := h.2.2.2.1
  have hstep : ∀ v : State, v.testStep sc p w = if testTaken w p.s then (v.branch sc).goOn sc (branchTarget p.flow w.aux) p.flow w.fpost else v.controlEnd sc w := by
    intro v
    unfold State.testStep
    rw [hguard]
  have hdo := h.carryOut (want := (· == .test)) (by rw [ho]; rfl) (fun s p w => s.controlStep sc p (fun s => s.testStep sc p w))
  rw [State.controlStep_counts hc, hstep, branchTarget_eq, State.controlEnd_eq h.counted] at hdo
  exact ⟨fun ht => congrArg (fun v : State => Host.Outcome.next v.settle) (hdo.trans (if_pos (beq_iff_eq.mpr ht))),
    fun ht => congrArg (fun v : State => Host.Outcome.next v.settle) (hdo.trans (if_neg (fun e => ht (beq_iff_eq.mp e))))⟩

/-! #### MARK-TIME -/

theorem State.admitDescs_prog (s : State) : s.admitDescs.prog = s.prog := by
  refine foldl_keeps State.prog (fun v d => ?_) _ _
  unfold State.admitDesc
  dsimp only
  split
  · split <;> rfl
  · split <;> rfl

theorem State.queueDesc_prog (s : State) (d : Desc) : (s.queueDesc d).prog = s.prog := State.admitDescs_prog _

theorem State.queueWrite_keeps (v : State) (q : Prog) (addr : Nat) (l : List Desc) :
    ((v.queueWrite sc q addr l).sub sc).devaddr = (v.sub sc).devaddr ∧
      ∀ p, v.prog? sc = some p → ∃ p', (v.queueWrite sc q addr l).prog? sc = some p' ∧ p'.flow = p.flow := by
  have hsub : (v.queueWrite sc q addr l).sub sc = (v.modXfer sc q.xfer (fun x => { x with
      queuedW := q.queuedW + 1
      pages := (x.pages.filter (fun y => x.provenW < y.2)) ++ [(addr / 4096, q.queuedW + 1)] })).sub sc :=
    State.sub_congr (foldl_keeps State.prog (fun v d => v.queueDesc_prog d) l _) sc
  have hmod := hsub.trans (v.sub_modSub sc _)
  refine ⟨(congrArg Sub.devaddr hmod :), fun p hp => ?_⟩
  have hprog := congrArg Sub.prog hmod
  rw [show (v.sub sc).prog = some p from hp] at hprog
  refine ⟨_, hprog, ?_⟩
  dsimp only
  split <;> rfl

theorem State.writeOwn_keeps (f : Nat) (v : State) (x : Nat × Nat) (addr : Nat) (b : Bytes) (fr : Option (Nat × Nat)) :
    ((State.writeOwn f v sc x addr b fr).sub sc).devaddr = (v.sub sc).devaddr ∧
      ∀ p, v.prog? sc = some p → ∃ p', (State.writeOwn f v sc x addr b fr).prog? sc = some p' ∧ p'.flow = p.flow := by
  induction f generalizing v addr b with
  | zero => exact ⟨rfl, fun p hp => ⟨p, hp, rfl⟩⟩
  | succ f ih =>
    unfold State.writeOwn
    split
    · exact ⟨rfl, fun p hp => ⟨p, hp, rfl⟩⟩
    · next q hq =>
      split
      · exact ⟨rfl, fun p hp => ⟨p, hp, rfl⟩⟩
      · obtain ⟨hdev, hflow⟩ := ih (v.queueWrite sc q addr [{ v.writeProto sc q with
          addr := addr, len := runLen (v.host (hostOf q.start.tenant)).mps addr b.length, bytes := b.take (runLen (v.host (hostOf q.start.tenant)).mps addr b.length)
          digest := false, frees := if runLen (v.host (hostOf q.start.tenant)).mps addr b.length < b.length then none else fr }])
          (addr + runLen (v.host (hostOf q.start.tenant)).mps addr b.length) (b.drop (runLen (v.host (hostOf q.start.tenant)).mps addr b.length))
        obtain ⟨hdev', hflow'⟩ := v.queueWrite_keeps (sc := sc) q addr [{ v.writeProto sc q with
          addr := addr, len := runLen (v.host (hostOf q.start.tenant)).mps addr b.length, bytes := b.take (runLen (v.host (hostOf q.start.tenant)).mps addr b.length)
          digest := false, frees := if runLen (v.host (hostOf q.start.tenant)).mps addr b.length < b.length then none else fr }]
        refine ⟨hdev.trans hdev', fun p hp => ?_⟩
        obtain ⟨p1, h1, e1⟩ := hflow' p hp
        obtain ⟨p2, h2, e2⟩ := hflow p1 h1
        exact ⟨p2, h2, e2.trans e1⟩

theorem stepStands.mark (h : stepStands s sc o p w) (ho : o = .mark) (hc : p.controls < 65536) {x : Path} (hx : p.path = some x)
    (hin : s.inWindows p.start.tenant w.addr 8 = true) :
    let v := State.writeOwn 8 (s.modProg sc (fun p => { p with controls := p.controls + 1 })) sc p.xfer w.addr (le 8 (tget 0 s.clk.dies (portDie x.port).val).toNat) none
    (w.aux = 0 → exec (.markTime sc .good) s = .next (v.afterControl sc w p.flow).settle) ∧
    (w.aux = 1 → exec (.markTime sc .good) s = .next ((v.modPort x.port (fun q => { q with
      controls := q.controls ++ [⟨sealFrame (timeFrame x.addr (s.sub sc).devaddr (tget 0 s.clk.dies (portDie x.port).val)), none, []⟩] })).afterControl sc w p.flow).settle) := by
  intro v
  obtain ⟨hdev, hflow⟩ := State.writeOwn_keeps (sc := sc) 8 (s.modProg sc (fun p => { p with controls := p.controls + 1 })) p.xfer w.addr
    (le 8 (tget 0 s.clk.dies (portDie x.port).val).toNat) none
  obtain ⟨p', hp', he⟩ := hflow _ h.counted
  have hdev' : (v.sub sc).devaddr = (s.sub sc).devaddr := hdev.trans (by rw [State.modProg, State.sub_modSub])
  have hdo := h.carryOut (want := (· == .mark)) (by rw [ho]; rfl) (fun s p w =>
    if s.inWindows p.start.tenant w.addr 8 then s.controlStep sc p (fun s => s.markStep sc p w) else s.addressCheck sc p.flow 6)
  have hstep : (s.modProg sc (fun p => { p with controls := p.controls + 1 })).markStep sc p w =
      (if w.aux.getLsbD 0 then v.modPort x.port (fun q => { q with
        controls := q.controls ++ [⟨sealFrame (timeFrame x.addr (v.sub sc).devaddr (tget 0 s.clk.dies (portDie x.port).val)), none, []⟩] }) else v).controlEnd sc w := by
    unfold State.markStep
    rw [hx]
    rfl
  rw [if_pos hin, State.controlStep_counts hc, hstep] at hdo
  refine ⟨fun ha => congrArg (fun v : State => Host.Outcome.next v.settle) (hdo.trans ?_), fun ha => congrArg (fun v : State => Host.Outcome.next v.settle) (hdo.trans ?_)⟩
  · rw [ha, if_neg (by decide), State.controlEnd_eq hp', he]
  · rw [ha, if_pos (by decide), hdev']
    exact (State.controlEnd_eq (s := v.modPort x.port _) hp').trans (by rw [he])

/-! #### Tokens: WAIT-TOKEN and POST-TOKEN -/

theorem State.tokenBad_none {k : Token} {n : Nat} {post : Bool} (hk : s.token? n = some k) (ho : k.owner = p.start.tenant) (hf : k.fenced = false)
    (hl : ∀ l, p.level = some l → l < k.rank) (hroom : post = true → k.waiters ≠ [] ∨ k.value < 65535) : s.tokenBad p n post = none := by
  have hfull : (post && k.waiters.isEmpty && k.value == 65535) = false := by
    cases hpost : post with
    | false => rfl
    | true =>
      rcases hroom hpost with hw | hv
      · rw [Bool.true_and, Bool.and_eq_false_iff, List.isEmpty_eq_false_iff]
        exact .inl hw
      · rw [Bool.true_and, Bool.and_eq_false_iff, beq_eq_false_iff_ne]
        exact .inr (by omega)
  unfold State.tokenBad
  rw [hk]
  dsimp only
  rw [ho, hf, hfull, bne_self_eq_false, if_neg Bool.false_ne_true]
  have hin : ∀ b : Bool, b = true → ∀ e : Option Ending, (if ((!post || p.waited) && !b) = true then e else
      if false = true then some { code := cBalance, reason := 7, step := some p.flow } else if false = true then some { code := cStepCheck, reason := 13, step := some p.flow }
      else none) = none := by
    rintro _ rfl e
    rw [Bool.not_true, Bool.and_false, if_neg Bool.false_ne_true, if_neg Bool.false_ne_true, if_neg Bool.false_ne_true]
  refine hin _ ?_ _
  cases hp : p.level with
  | none => rfl
  | some l => exact decide_eq_true (hl l hp)

theorem State.tokenBad_unknown {n : Nat} {post : Bool} (hk : s.token? n = none) :
    s.tokenBad p n post = some { code := cStepCheck, reason := 12, step := some p.flow } := by
  unfold State.tokenBad
  rw [hk]

/-- The state after a control step was counted. -/
def State.countControl (s : State) (sc : SC) : State := s.modProg sc (fun p => { p with controls := p.controls + 1 })

theorem State.countControl_keeps : onlySub sc s (s.countControl sc) := State.onlySub_modProg sc _

theorem stepStands.waits (h : stepStands s sc o p w) (ho : o = .wait) (hc : p.controls < 65536) :
    exec (.waitToken sc .good) s = .next ((s.countControl sc).waitStep sc p w).settle :=
  congrArg (fun v : State => Host.Outcome.next v.settle) ((h.carryOut (by rw [ho]; rfl) _).trans (State.controlStep_counts hc _))

theorem stepStands.posts (h : stepStands s sc o p w) (ho : o = .post) (hc : p.controls < 65536) :
    exec (.postToken sc .good) s = .next ((s.countControl sc).postStep sc p w).settle :=
  congrArg (fun v : State => Host.Outcome.next v.settle) ((h.carryOut (by rw [ho]; rfl) _).trans (State.controlStep_counts hc _))

theorem stepStands.wait_unknown (h : stepStands s sc o p w) (ho : o = .wait) (hc : p.controls < 65536) (hk : s.token? w.aux.toNat = none) :
    exec (.waitToken sc .good) s = .next (((s.countControl sc).seqException sc).endProgram sc { code := 0x11, reason := 12, step := some p.flow } 2).settle := by
  rw [h.waits ho hc, State.waitStep]
  dsimp only
  rw [State.tokenBad_unknown (s := s.countControl sc) hk]
  rfl

/-- A unit of a token taken by a program that waits for one. -/
def State.unitTaken (s : State) (sc : SC) (n : Nat) (rank : Nat) : State :=
  ((s.modProg sc (fun p => { p with named := n :: p.named })).modToken n (fun k => { k with value := k.value - 1 })).modProg sc
    (fun p => { p with level := some rank, waited := true })

/-- A program that joined the tail of a token's waiters. -/
def State.unitAwaited (s : State) (sc : SC) (n : Nat) : State :=
  (((s.modProg sc (fun p => { p with named := n :: p.named })).modToken n (fun k => { k with waiters := k.waiters ++ [sc.toNat] })).onProg
    (fun k => { k with waits := k.waits + 1 })).modProg sc (fun p => { p with phase := .waiting s.clk.now, waitNo := s.prog.waits })

theorem State.unitTaken_token {n : Nat} {k : Token} (hk : s.token? n = some k) (r : Nat) :
    (s.unitTaken sc n r).token? n = some { k with value := k.value - 1 } :=
  State.token?_modToken_some (s := s.modProg sc _) _ hk

theorem State.unitTaken_token_ne {n m : Nat} (r : Nat) (h : m ≠ n) : (s.unitTaken sc n r).token? m = s.token? m :=
  State.token?_modToken_ne (s := s.modProg sc _) _ h

theorem State.unitTaken_prog (n r : Nat) (h : s.prog? sc = some p) :
    (s.unitTaken sc n r).prog? sc = some { p with named := n :: p.named, level := some r, waited := true } := by
  have h1 := State.prog?_modProg_some (fun p => { p with named := n :: p.named }) h
  exact State.prog?_modProg_some (s := (s.modProg sc (fun p => { p with named := n :: p.named })).modToken n (fun k => { k with value := k.value - 1 })) _ h1

theorem State.sub_modToken (n : Nat) (f : Token → Token) (x : SC) : (s.modToken n f).sub x = s.sub x := rfl

theorem State.sub_onWaits (w : Progs → Nat) (x : SC) : (s.onProg (fun k => { k with waits := w k })).sub x = s.sub x := rfl

theorem State.unitTaken_sub_ne {x : SC} (n r : Nat) (hx : x ≠ sc) : (s.unitTaken sc n r).sub x = s.sub x := by
  rw [State.unitTaken, State.sub_modProg_ne _ hx, State.sub_modToken, State.sub_modProg_ne _ hx]

theorem State.modProg_with (f : Prog → Prog) (k : Progs) : { s.modProg sc f with prog := k } = { s with prog := k } := rfl

theorem State.modToken_with (n : Nat) (f : Token → Token) (k : Progs) : { s.modToken n f with prog := k } = { s with prog := k } := rfl

theorem State.onProg_with (f : Progs → Progs) (k : Progs) : { s.onProg f with prog := k } = { s with prog := k } := rfl

theorem State.unitTaken_frame (n r : Nat) : { s.unitTaken sc n r with prog := s.prog } = s := by
  rw [State.unitTaken, State.modProg_with, State.modToken_with, State.modProg_with]

theorem State.unitAwaited_token {n : Nat} {k : Token} (hk : s.token? n = some k) :
    (s.unitAwaited sc n).token? n = some { k with waiters := k.waiters ++ [sc.toNat] } :=
  State.token?_modToken_some (s := s.modProg sc _) _ hk

theorem State.unitAwaited_token_ne {n m : Nat} (h : m ≠ n) : (s.unitAwaited sc n).token? m = s.token? m :=
  State.token?_modToken_ne (s := s.modProg sc _) _ h

theorem State.unitAwaited_prog (n : Nat) (h : s.prog? sc = some p) :
    (s.unitAwaited sc n).prog? sc = some { p with named := n :: p.named, phase := .waiting s.clk.now, waitNo := s.prog.waits } := by
  have h1 := State.prog?_modProg_some (fun p => { p with named := n :: p.named }) h
  exact State.prog?_modProg_some (s := ((s.modProg sc (fun p => { p with named := n :: p.named })).modToken n
    (fun k => { k with waiters := k.waiters ++ [sc.toNat] })).onProg (fun k => { k with waits := k.waits + 1 })) _ h1

theorem State.unitAwaited_waits (n : Nat) : (s.unitAwaited sc n).prog.waits = s.prog.waits + 1 := rfl

theorem State.unitAwaited_sub_ne {x : SC} (n : Nat) (hx : x ≠ sc) : (s.unitAwaited sc n).sub x = s.sub x := by
  rw [State.unitAwaited, State.sub_modProg_ne _ hx, State.sub_onWaits, State.sub_modToken, State.sub_modProg_ne _ hx]

theorem State.unitAwaited_frame (n : Nat) : { s.unitAwaited sc n with prog := s.prog } = s := by
  rw [State.unitAwaited, State.modProg_with, State.onProg_with, State.modToken_with, State.modProg_with]

theorem State.waitStep_taken {n : Nat} {k : Token} (hn : w.aux.toNat = n) (hbad : s.tokenBad p n false = none) (hk : s.token? n = some k)
    (hv : 0 < k.value) (hw : k.waiters = []) : s.waitStep sc p w = (s.unitTaken sc n k.rank).controlEnd sc w := by
  unfold State.waitStep
  dsimp only
  rw [hn, hbad]
  dsimp only
  rw [show (s.modProg sc (fun p => { p with named := n :: p.named })).token? n = some k from hk]
  dsimp only
  rw [hw, decide_eq_true hv, if_pos (by rfl), State.waitDone,
    State.token?_modToken_some (s := s.modProg sc (fun p => { p with named := n :: p.named })) _ hk]
  rfl

theorem State.waitStep_awaited {n : Nat} {k : Token} (hn : w.aux.toNat = n) (hbad : s.tokenBad p n false = none) (hk : s.token? n = some k)
    (hno : k.value = 0 ∨ k.waiters ≠ []) : s.waitStep sc p w = (s.unitAwaited sc n).planAhead sc := by
  have hcond : (decide (0 < k.value) && k.waiters.isEmpty) = false := by
    rw [Bool.and_eq_false_iff, decide_eq_false_iff_not, List.isEmpty_eq_false_iff]
    exact hno.imp (fun e => by omega) id
  unfold State.waitStep
  dsimp only
  rw [hn, hbad]
  dsimp only
  rw [show (s.modProg sc (fun p => { p with named := n :: p.named })).token? n = some k from hk]
  dsimp only
  rw [hcond]
  rfl

theorem stepStands.wait_taken (h : stepStands s sc o p w) (ho : o = .wait) (hc : p.controls < 65536) {k : Token} (hk : s.token? w.aux.toNat = some k)
    (hown : k.owner = p.start.tenant) (hf : k.fenced = false) (hl : ∀ l, p.level = some l → l < k.rank) (hv : 0 < k.value) (hw : k.waiters = []) :
    ∃ v : State, exec (.waitToken sc .good) s = .next (v.afterControl sc w p.flow).settle ∧
      v.token? w.aux.toNat = some { k with value := k.value - 1 } ∧ (∀ m, m ≠ w.aux.toNat → v.token? m = s.token? m) ∧
      v.prog? sc = some { p with controls := p.controls + 1, named := w.aux.toNat :: p.named, level := some k.rank, waited := true } ∧
      (∀ x, x ≠ sc → v.sub x = s.sub x) ∧ { v with prog := s.prog } = s := by
  have hbad := State.tokenBad_none (s := s.countControl sc) (post := false) hk hown hf hl (fun e => nomatch e)
  have hprog := State.unitTaken_prog (s := s.countControl sc) w.aux.toNat k.rank h.counted
  refine ⟨(s.countControl sc).unitTaken sc w.aux.toNat k.rank, ?_, State.unitTaken_token (s := s.countControl sc) hk _, fun m hm => State.unitTaken_token_ne (s := s.countControl sc) _ hm, hprog,
    fun x hx => (State.unitTaken_sub_ne _ _ hx).trans (State.sub_modProg_ne _ hx), ?_⟩
  · rw [h.waits ho hc, State.waitStep_taken rfl hbad hk hv hw, State.controlEnd_eq hprog]
  · exact congrArg (fun v : State => { v with prog := s.prog }) (State.unitTaken_frame (s := s.countControl sc) (sc := sc) w.aux.toNat k.rank)

theorem stepStands.wait_queued (h : stepStands s sc o p w) (ho : o = .wait) (hc : p.controls < 65536) {k : Token} (hk : s.token? w.aux.toNat = some k)
    (hown : k.owner = p.start.tenant) (hf : k.fenced = false) (hl : ∀ l, p.level = some l → l < k.rank) (hno : k.value = 0 ∨ k.waiters ≠ []) :
    ∃ u : State, exec (.waitToken sc .good) s = .next (u.planAhead sc).settle ∧
      u.token? w.aux.toNat = some { k with waiters := k.waiters ++ [sc.toNat] } ∧ (∀ m, m ≠ w.aux.toNat → u.token? m = s.token? m) ∧
      u.prog? sc = some { p with controls := p.controls + 1, named := w.aux.toNat :: p.named, phase := .waiting s.clk.now, waitNo := s.prog.waits } ∧
      u.prog.waits = s.prog.waits + 1 ∧
      (∀ x, x ≠ sc → u.sub x = s.sub x) ∧ { u with prog := s.prog } = s := by
  have hbad := State.tokenBad_none (s := s.countControl sc) (post := false) hk hown hf hl (fun e => nomatch e)
  refine ⟨(s.countControl sc).unitAwaited sc w.aux.toNat, ?_, State.unitAwaited_token (s := s.countControl sc) hk, fun m hm => State.unitAwaited_token_ne (s := s.countControl sc) hm,
    State.unitAwaited_prog (s := s.countControl sc) w.aux.toNat h.counted, State.unitAwaited_waits _,
    fun x hx => (State.unitAwaited_sub_ne _ hx).trans (State.sub_modProg_ne _ hx), ?_⟩
  · rw [h.waits ho hc, State.waitStep_awaited rfl hbad hk hno]
  · exact congrArg (fun v : State => { v with prog := s.prog }) (State.unitAwaited_frame (s := s.countControl sc) (sc := sc) w.aux.toNat)

theorem stepStands.post_later (h : stepStands s sc o p w) (ho : o = .post) (hc : p.controls < 65536) {k : Token} (hk : s.token? w.aux.toNat = some k)
    (hown : k.owner = p.start.tenant) (hf : k.fenced = false) (hl : ∀ l, p.level = some l → l < k.rank) (hq : p.provenW < p.queuedW)
    (hroom : k.waiters ≠ [] ∨ k.value < 65535) :
    ∃ v : State, exec (.postToken sc .good) s = .next (v.closeKick sc).settle ∧
      v.prog? sc = some { p with controls := p.controls + 1, postWait := true } ∧ { v with prog := s.prog } = s ∧ v.prog.tokens = s.prog.tokens := by
  refine ⟨(s.countControl sc).modProg sc (fun p => { p with postWait := true }), ?_, State.prog?_modProg_some (s := s.countControl sc) _ h.counted, rfl, rfl⟩
  rw [h.posts ho hc, State.postStep]
  rw [State.tokenBad_none (s := s.countControl sc) hk hown hf hl (fun _ => hroom)]
  dsimp only
  rw [if_neg (by omega)]

/-- The state after a POST-TOKEN's unit was counted in account 7. -/
def State.posting (s : State) (sc : SC) (n : Nat) : State := ((s.countControl sc).modProg sc (fun p => { p with postWait := false })).book 7 n 1

/-- The program after its POST-TOKEN was done. -/
def State.posted (s : State) (sc : SC) (n : Nat) : State := s.modProg sc (fun p => { p with named := n :: p.named })

theorem State.posting_prog (n : Nat) (h : s.prog? sc = some p) : (s.posting sc n).prog? sc = some { p with controls := p.controls + 1, postWait := false } :=
  State.prog?_modProg_some (s := s.countControl sc) _ (State.prog?_modProg_some _ h)

theorem State.posting_prog_ne {y : SC} (n : Nat) (h : y ≠ sc) : (s.posting sc n).prog? y = s.prog? y :=
  (State.prog?_modProg_ne (s := s.countControl sc) _ h).trans (State.prog?_modProg_ne _ h)

theorem State.posting_acct (n : Nat) : ((s.posting sc n).acct 7 n).debit = (s.acct 7 n).debit + 1 ∧ ((s.posting sc n).acct 7 n).credit = (s.acct 7 n).credit + 1 := by
  have h := ((s.countControl sc).modProg sc (fun p => { p with postWait := false })).acct_book 7 n 1
  exact ⟨congrArg Acct.debit h, congrArg Acct.credit h⟩

/-- The effect of a POST-TOKEN whose earlier writes are proven. -/
theorem stepStands.post_now (h : stepStands s sc o p w) (ho : o = .post) (hc : p.controls < 65536) {k : Token} (hk : s.token? w.aux.toNat = some k)
    (hown : k.owner = p.start.tenant) (hf : k.fenced = false) (hl : ∀ l, p.level = some l → l < k.rank) (hq : p.queuedW ≤ p.provenW)
    (hroom : k.waiters ≠ [] ∨ k.value < 65535) :
    exec (.postToken sc .good) s = .next ((((s.posting sc w.aux.toNat).giveUnit w.aux.toNat).posted sc w.aux.toNat).controlEnd sc w).settle := by
  have hstep : p.stepAt p.flow = some w := (State.stepDue_prog h.1).2.2.2.2
  have hbad : (s.countControl sc).tokenBad p w.aux.toNat true = none := State.tokenBad_none (s := s.countControl sc) hk hown hf hl (fun _ => hroom)
  have hbad' : ((s.countControl sc).modProg sc (fun p => { p with postWait := false })).tokenBad { p with controls := p.controls + 1 } w.aux.toNat true = none :=
    State.tokenBad_none (s := (s.countControl sc).modProg sc _) hk hown hf hl (fun _ => hroom)
  rw [h.posts ho hc, State.postStep, hbad]
  dsimp only
  rw [if_pos hq, State.postEffect, show (s.countControl sc).prog? sc = some _ from h.counted]
  dsimp only
  rw [show ({ p with controls := p.controls + 1 } : Prog).stepAt p.flow = some w from hstep]
  dsimp only
  rw [hbad']
  rfl

theorem State.giveUnit_value {n : Nat} {k : Token} (hk : s.token? n = some k) (hw : k.waiters = []) :
    s.giveUnit n = s.modToken n (fun k => { k with value := k.value + 1 }) := by
  rw [State.giveUnit, hk]
  dsimp only
  rw [hw]

theorem State.giveUnit_waiter {n : Nat} {k : Token} (hk : s.token? n = some k) {y : SC} {rest : List Nat} (hw : k.waiters = y.toNat :: rest) {q : Prog}
    (hq : s.prog? y = some q) (hpath : q.path = none) :
    s.giveUnit n = (s.modToken n (fun k => { k with waiters := rest })).modProg y (fun p => { p with phase := .satisfied }) := by
  rw [State.giveUnit, hk]
  dsimp only
  rw [hw]
  dsimp only
  rw [BitVec.ofNat_toNat, BitVec.setWidth_eq, State.fireProg, State.prog?_modProg_some (s := s.modToken n _) (p := q) _ hq]
  dsimp only [Option.bind_some]
  rw [hpath]

theorem stepStands.post_value (h : stepStands s sc o p w) (ho : o = .post) (hc : p.controls < 65536) {k : Token} (hk : s.token? w.aux.toNat = some k)
    (hown : k.owner = p.start.tenant) (hf : k.fenced = false) (hl : ∀ l, p.level = some l → l < k.rank) (hq : p.queuedW ≤ p.provenW)
    (hw : k.waiters = []) (hv : k.value < 65535) :
    ∃ v : State, exec (.postToken sc .good) s = .next (v.afterControl sc w p.flow).settle ∧
      v.token? w.aux.toNat = some { k with value := k.value + 1 } ∧ (v.acct 7 w.aux.toNat).debit = (s.acct 7 w.aux.toNat).debit + 1 ∧
      (v.acct 7 w.aux.toNat).credit = (s.acct 7 w.aux.toNat).credit + 1 ∧
      v.prog? sc = some { p with controls := p.controls + 1, named := w.aux.toNat :: p.named, postWait := false } ∧ v.ports = s.ports := by
  have hnow := h.post_now ho hc hk hown hf hl hq (.inr hv)
  obtain ⟨hdebit, hcredit⟩ := State.posting_acct (s := s) (sc := sc) w.aux.toNat
  have hprog := State.posting_prog w.aux.toNat h.prog
  have hkp : (s.posting sc w.aux.toNat).token? w.aux.toNat = some k := hk
  have hports : (s.posting sc w.aux.toNat).ports = s.ports := rfl
  generalize s.posting sc w.aux.toNat = u at hnow hdebit hcredit hprog hkp hports
  rw [State.giveUnit_value hkp hw] at hnow
  have hv1 : ((u.modToken w.aux.toNat (fun k => { k with value := k.value + 1 })).posted sc w.aux.toNat).prog? sc = _ :=
    State.prog?_modProg_some (s := u.modToken w.aux.toNat (fun k => { k with value := k.value + 1 })) _ hprog
  rw [State.controlEnd_eq hv1] at hnow
  exact ⟨_, hnow, State.token?_modToken_some (s := u) _ hkp, hdebit, hcredit, hv1, hports⟩

theorem stepStands.post_waiter (h : stepStands s sc o p w) (ho : o = .post) (hc : p.controls < 65536) {k : Token} (hk : s.token? w.aux.toNat = some k)
    (hown : k.owner = p.start.tenant) (hf : k.fenced = false) (hl : ∀ l, p.level = some l → l < k.rank) (hq : p.queuedW ≤ p.provenW)
    {y : SC} {rest : List Nat} (hw : k.waiters = y.toNat :: rest) (hne : y ≠ sc) {q : Prog} (hy : s.prog? y = some q) (hpath : q.path = none) :
    ∃ v : State, exec (.postToken sc .good) s = .next (v.afterControl sc w p.flow).settle ∧
      v.token? w.aux.toNat = some { k with waiters := rest } ∧ v.prog? y = some { q with phase := .satisfied } ∧ v.ports = s.ports := by
  have hnow := h.post_now ho hc hk hown hf hl hq (.inl (by rw [hw]; exact List.cons_ne_nil _ _))
  have hprog := State.posting_prog w.aux.toNat h.prog
  have hkp : (s.posting sc w.aux.toNat).token? w.aux.toNat = some k := hk
  have hyp : (s.posting sc w.aux.toNat).prog? y = some q := (State.posting_prog_ne _ hne).trans hy
  have hports : (s.posting sc w.aux.toNat).ports = s.ports := rfl
  generalize s.posting sc w.aux.toNat = u at hnow hprog hkp hyp hports
  rw [State.giveUnit_waiter hkp hw hyp hpath] at hnow
  have hy2 : ((u.modToken w.aux.toNat (fun k => { k with waiters := rest })).modProg y (fun p => { p with phase := .satisfied })).prog? y =
      some { q with phase := .satisfied } := State.prog?_modProg_some (s := u.modToken w.aux.toNat (fun k => { k with waiters := rest })) _ hyp
  have hsc := (State.prog?_modProg_ne (s := u.modToken w.aux.toNat (fun k => { k with waiters := rest })) (fun p => { p with phase := .satisfied }) hne.symm).trans hprog
  have hk2 : ((u.modToken w.aux.toNat (fun k => { k with waiters := rest })).modProg y (fun p => { p with phase := .satisfied })).token? w.aux.toNat =
      some { k with waiters := rest } := State.token?_modToken_some (s := u) _ hkp
  have hports2 : ((u.modToken w.aux.toNat (fun k => { k with waiters := rest })).modProg y (fun p => { p with phase := .satisfied })).ports = s.ports := hports
  generalize (u.modToken w.aux.toNat (fun k => { k with waiters := rest })).modProg y (fun p => { p with phase := .satisfied }) = x at hnow hy2 hsc hk2 hports2
  have hv1 : (x.posted sc w.aux.toNat).prog? sc = _ := State.prog?_modProg_some _ hsc
  rw [State.controlEnd_eq hv1] at hnow
  exact ⟨_, hnow, hk2, (State.prog?_modProg_ne _ hne).trans hy2, hports2⟩

/-! #### Reserved operations, the end of a branch, resumed waiters and endings without error -/

theorem carryOut_reserved (hdue : s.stepDue sc = some (p, w)) (hop : opOf w.op = .reserved) (hg : p.guarded = none) (hsound : stepSound s sc p.flow)
    (k : State → Prog → StepW → State) : s.carryOut sc .good (· == .reserved) k = s.stepCheck sc p.flow 1 := by
  have hearly : earlyCheck w = some (.check 1) := if_pos hop
  unfold State.carryOut
  rw [hdue]
  dsimp only
  rw [hop, if_neg (by simp), State.stepEcc_good hsound]
  dsimp only
  rw [if_neg (by simp), hg]
  dsimp only
  rw [hearly]
  rfl

theorem State.goTo_running (hp : s.prog? sc = some p) (hstop : p.stop = none) (a : W64) :
    s.goTo sc a = (s.modProg sc (fun p => { p with flow := a, seg := none, map := none, pass := none })).arrive sc := by
  rw [State.goTo, hp, Option.bind_some, hstop]

/-- What resuming a satisfied waiter leaves before it goes on. -/
def State.resumed (s : State) (sc : SC) (n : Nat) : State := (s.waitDone sc n).modProg sc (fun p => { p with phase := .running, controls := 0 })

theorem State.resumed_prog (n : Nat) (hp : s.prog? sc = some p) : (s.resumed sc n).prog? sc =
    some { p with level := (s.token? n).map (·.rank), waited := true, phase := .running, controls := 0 } :=
  State.prog?_modProg_some (s := s.waitDone sc n) _ (State.prog?_modProg_some _ hp)

theorem onlySub.trans {u v : State} (h : onlySub sc s u) (h' : onlySub sc u v) : onlySub sc s v := by
  obtain ⟨hsub, htok, hwait, hrest⟩ := h
  obtain ⟨hsub', htok', hwait', hrest'⟩ := h'
  refine ⟨fun x hx => (hsub' x hx).trans (hsub x hx), htok'.trans htok, hwait'.trans hwait, ?_⟩
  exact (congrArg (fun v : State => { v with prog := s.prog, power := s.power }) hrest').trans hrest

theorem State.resumed_only (n : Nat) : onlySub sc s (s.resumed sc n) := (State.onlySub_modProg sc _).trans (State.onlySub_modProg sc _)

theorem doWaiterResume_satisfied {n : Nat} (hp : s.prog? sc = some p) (hph : p.phase = .satisfied) (hn : p.waitToken = some n)
    (hw : p.stepAt p.flow = some w) : doWaiterResume sc s = (match p.stop with
      | some e => ((s.resumed sc n).stopAt sc e (some p.flow)).settle
      | none =>
        if !w.fchain then ((s.resumed sc n).endOk sc p.flow).settle
        else
          let v := if w.fpost then (s.resumed sc n).report sc p.flow else s.resumed sc n
          let v := v.modProg sc (fun q => { q with flow := p.flow + 16, seg := none, map := none, pass := none })
          (match p.path with
            | some x => if v.usable x then v.takePath sc x else v.choose sc none
            | none => v.choose sc none).settle) := by
  unfold doWaiterResume
  rw [hp]
  dsimp only
  rw [hph, hn]
  dsimp only
  rw [hw] <;> rfl

theorem State.endOk_clean (hp : s.prog? sc = some p) (h : p.s.getLsbD 6 = false ∨ p.residue = none) (a : W64) :
    s.endOk sc a = s.endProgram sc { code := 0, step := some a } 2 := by
  have hnone : (if p.s.getLsbD 6 = true then p.residue else none) = none := by
    rcases h with h | h
    · rw [h]
      rfl
    · rw [h]
      exact ite_self _
  rw [State.endOk, hp, Option.bind_some, hnone]
  rfl

theorem State.endOk_residual (hp : s.prog? sc = some p) {g} (hs : p.s.getLsbD 6 = true) (hg : p.residue = some g) (a : W64) :
    s.endOk sc a = s.endProgram sc { code := 1, reason := BitVec.ofNat 8 g.pos, step := some g.short, residual := g.residual } 2 := by
  rw [State.endOk, hp, Option.bind_some, if_pos hs, hg]
  rfl

end

/-- Settles O53. -/
theorem controlOperations : Obligations.ControlOperations := by
  unfold Obligations.ControlOperations
  refine ⟨fun sc o p w s h => ?_, fun sc p w s hdue hop hg hsound => ?_, fun sc p a s hp hstop => ?_, fun sc p n k w s hp hph hn hk hw hstop => ?_,
    fun sc p n e w s hp hph hn hw hstop => ?_, fun sc p a s hp => ⟨fun h => State.endOk_clean hp h a, fun g hs hg => State.endOk_residual hp hs hg a⟩⟩
  · intro counted post on target n
    refine ⟨fun hc => ⟨fun ho => h.nop ho hc, fun ho => h.go ho hc, fun ho => (h.test ho hc).1, fun ho => (h.test ho hc).2,
      fun ho x hx hin => h.mark ho hc hx hin, fun k hk hown hf hl => ?_, fun hk ho => h.wait_unknown ho hc hk⟩, fun hc ho => ?_⟩
    · exact ⟨fun ho hv hw => h.wait_taken ho hc hk hown hf hl hv hw, fun ho hno => h.wait_queued ho hc hk hown hf hl hno,
        fun ho hq hw hv => h.post_value ho hc hk hown hf hl hq hw hv,
        fun y rest q ho hq hw hne hy hpath => h.post_waiter ho hc hk hown hf hl hq hw hne hy hpath,
        fun ho hq hroom => h.post_later ho hc hk hown hf hl hq hroom⟩
    · exact congrArg (fun v : State => Host.Outcome.next v.settle) ((h.carryOut (by rw [ho]; rfl) _).trans (State.controlStep_limit hc _))
  · exact congrArg (fun v : State => Host.Outcome.next v.settle) (carryOut_reserved hdue hop hg hsound _)
  · exact ⟨_, State.goTo_running hp hstop a, State.onlySub_modProg sc _, State.prog?_modProg_some _ hp⟩
  · intro q
    have hres := doWaiterResume_satisfied hp hph hn hw
    have hq : (s.resumed sc n).prog? sc = some q := (State.resumed_prog n hp).trans (by rw [hk]; rfl)
    rw [hstop] at hres
    refine ⟨fun hch => ⟨s.resumed sc n, congrArg Host.Outcome.next (hres.trans ?_), State.resumed_only n, hq⟩,
      fun x hch hpost hx hu => ⟨(s.resumed sc n).modProg sc (fun q => { q with flow := p.flow + 16, seg := none, map := none, pass := none }),
        congrArg Host.Outcome.next (hres.trans ?_), (State.resumed_only n).trans (State.onlySub_modProg sc _), State.prog?_modProg_some _ hq⟩⟩
    · dsimp only
      rw [hch, Bool.not_false, if_pos rfl]
    · have hu' : ((s.resumed sc n).modProg sc (fun q => { q with flow := p.flow + 16, seg := none, map := none, pass := none })).usable x = true := hu
      dsimp only
      rw [hch, Bool.not_true, if_neg Bool.false_ne_true, hpost, if_neg Bool.false_ne_true, hx]
      dsimp only
      rw [if_pos hu']
  · have hres := doWaiterResume_satisfied hp hph hn hw
    rw [hstop] at hres
    exact ⟨s.resumed sc n, congrArg Host.Outcome.next hres, State.resumed_only n, _, State.resumed_prog n hp, hstop, rfl⟩

end Sys2Proof.Machine

namespace Sys2Proof.Machine
open Sys2Proof

/-! ### Starts, waits and holds (R125, R165-R168, R180-R184, R193, R196, R197) -/

section
variable {s : State} {sc : SC} {p : Prog}

/-! #### A program begins -/

/-- The program a start record becomes (R165). -/
def begunProg (x : Start) : Prog :=
  { start := x, flow := x.program, asked := if x.preAsked && x.pre.isNone then [(groupOf x.program, false)] else [] }

/-- The subchannel after the start at the head of its list has become its program. -/
def State.startTaken (s : State) (sc : SC) (x : Start) (rest : List Start) : State := s.modSub sc (fun b => { b with starts := rest, prog := some (begunProg x) })

/-- The started subchannel with the group read ahead in the first place of its slice. -/
def State.startLoaded (s : State) (sc : SC) (x : Start) (rest : List Start) : State :=
  match x.pre with
  | some b => (s.startTaken sc x rest).keepGroup sc (groupOf x.program) b
  | none => s.startTaken sc x rest

theorem State.any_poisoned_not (h : ∀ i, i < 4 → s.poisoned (4 * sc.toNat + i) = false) : (List.range 4).any (fun i => s.poisoned (4 * sc.toNat + i)) = false := by
  rw [List.any_eq_false]
  intro i hi
  rw [h i (List.mem_range.mp hi)]
  exact Bool.false_ne_true

theorem doStartBegin_good {x : Start} {rest : List Start} (hpins : s.side.pinsTaken = false) (hp : (s.sub sc).prog = none) (hs : (s.sub sc).starts = x :: rest)
    (h : ∀ i, i < 4 → s.poisoned (4 * sc.toNat + i) = false) : doStartBegin sc .good s = (((s.startLoaded sc x rest).choose sc none).work).settle := by
  unfold doStartBegin
  rw [hpins, if_neg Bool.false_ne_true, hp, hs]
  generalize s.granuleSite (4 * sc.toNat) = site
  dsimp only
  rw [State.any_poisoned_not h]
  rw [show withPoison .good false = .good from rfl, show s.eccEvent site .good = s from rfl, if_neg (show ¬ eccBad .good = true from Bool.false_ne_true)]
  exact congrArg (fun v : State => ((v.choose sc none).work).settle) (show _ = s.startLoaded sc x rest from rfl)

theorem doStartBegin_poison {x : Start} {rest : List Start} (hpins : s.side.pinsTaken = false) (hp : (s.sub sc).prog = none) (hs : (s.sub sc).starts = x :: rest) :
    doStartBegin sc .poison s = ((s.eccEvent (s.granuleSite (4 * sc.toNat)) .poison).spoilSub sc).settle := by
  unfold doStartBegin
  rw [hpins, if_neg Bool.false_ne_true, hp, hs]
  generalize s.granuleSite (4 * sc.toNat) = site
  exact if_pos rfl

theorem State.sub_startTaken (x : Start) (rest : List Start) : (s.startTaken sc x rest).sub sc = { s.sub sc with starts := rest, prog := some (begunProg x) } :=
  s.sub_modSub sc _

/-- A group kept for a program without any is the first place of its slice (R161). -/
theorem State.keepGroup_first {k : Nat} {b : Bytes} (hp : s.prog? sc = some p) (hs : p.slots = []) (hg : p.groups = []) :
    s.keepGroup sc k b = (s.modProg sc (fun p => { p with groups := tset p.groups k b, slots := [k] })).onData (fun d => { d with
      granules := tset d.granules (sliceGranule sc 0) ⟨padTo 64 b, 0, false⟩ }) := by
  rw [State.keepGroup, hp]
  dsimp only
  rw [hs, show ([] : List Nat).contains k = false from rfl, if_neg Bool.false_ne_true, List.nil_append, List.findIdx_cons, beq_self_eq_true]
  rfl

theorem State.startLoaded_none {x : Start} (hx : x.pre = none) (rest : List Start) : s.startLoaded sc x rest = s.startTaken sc x rest := by
  rw [State.startLoaded, hx]

theorem State.startLoaded_some {x : Start} {b : Bytes} (hx : x.pre = some b) (rest : List Start) : s.startLoaded sc x rest =
    ((s.startTaken sc x rest).modProg sc (fun p => { p with groups := tset p.groups (groupOf x.program) b, slots := [groupOf x.program] })).onData (fun d => { d with
      granules := tset d.granules (sliceGranule sc 0) ⟨padTo 64 b, 0, false⟩ }) := by
  rw [State.startLoaded, hx]
  exact State.keepGroup_first (congrArg Sub.prog (State.sub_startTaken x rest)) rfl rfl

theorem State.startLoaded_only (x : Start) (rest : List Start) : onlySub sc { s with data := (s.startLoaded sc x rest).data } (s.startLoaded sc x rest) := by
  cases hx : x.pre with
  | none =>
    rw [State.startLoaded_none hx]
    exact ⟨fun y hy => s.sub_modSub_ne sc y _ hy, rfl, rfl, rfl⟩
  | some b =>
    rw [State.startLoaded_some hx]
    exact ⟨fun y hy => (State.sub_modProg_ne (s := s.startTaken sc x rest) _ hy).trans (s.sub_modSub_ne sc y _ hy), rfl, rfl, rfl⟩

theorem State.startLoaded_sub (x : Start) (rest : List Start) : (s.startLoaded sc x rest).sub sc = { s.sub sc with
    starts := rest
    prog := some {
      start := x, flow := x.program, groups := (x.pre.map (fun b => [(groupOf x.program, b)])).getD []
      slots := (x.pre.map (fun _ => [groupOf x.program])).getD []
      asked := if x.preAsked && x.pre.isNone then [(groupOf x.program, false)] else [] } } := by
  cases hx : x.pre with
  | none =>
    rw [State.startLoaded_none hx, State.sub_startTaken, begunProg, hx]
    rfl
  | some b =>
    rw [State.startLoaded_some hx]
    refine ((s.startTaken sc x rest).sub_modSub sc _).trans ?_
    rw [State.sub_startTaken, begunProg, hx]
    rfl

theorem State.startLoaded_data (x : Start) (rest : List Start) : (x.pre = none → (s.startLoaded sc x rest).data = s.data) ∧
    (∀ b, x.pre = some b → { (s.startLoaded sc x rest).data with granules := s.data.granules } = s.data ∧
      tfind (s.startLoaded sc x rest).data.granules (sliceGranule sc 0) = some ⟨padTo 64 b, 0, false⟩ ∧
      ∀ k, k ≠ sliceGranule sc 0 → tfind (s.startLoaded sc x rest).data.granules k = tfind s.data.granules k) := by
  refine ⟨fun hx => ?_, fun b hx => ?_⟩
  · rw [State.startLoaded_none hx]
    rfl
  · rw [State.startLoaded_some hx]
    exact ⟨rfl, tfind_tset_same _ _ _, fun k hk => tfind_tset_ne _ _ _ _ hk⟩

/-! #### Paths -/

theorem State.takePath_now {x : Path} (hp : s.prog? sc = some p) (hc : p.chain = none) (hf : s.slotFree x.port = true)
    (ht : (s.port x.port).headTag.isSome = true) (hu : s.turnOf sc x.port = true) :
    s.takePath sc x = (s.modProg sc (fun p => { p with path := some x, phase := .running, tagWait := none, reached := true })).arrive sc := by
  rw [State.takePath, if_pos (by rw [hf, ht, hu]; rfl)]
  dsimp only
  rw [State.prog?_modProg_some _ hp, Option.bind_some, hc]

theorem State.pathEnd_identity (hp : s.prog? sc = some p) (h : s.noPath sc p.start.mask = .identity) :
    s.pathEnd sc = s.endProgram sc { code := 0x23, step := p.here } 2 := by
  rw [State.pathEnd, hp]
  exact if_pos h

theorem State.pathEnd_lost (hp : s.prog? sc = some p) (h : s.noPath sc p.start.mask ≠ .identity) :
    s.pathEnd sc = s.endProgram sc { code := 0x21, reason := BitVec.ofNat 8 p.tried.length, step := p.here } 2 := by
  rw [State.pathEnd, hp]
  exact if_neg h

theorem doPathWaitEnd_waiting {t : Nat} (hp : s.prog? sc = some p) (hph : p.phase = .pathWait t) : doPathWaitEnd sc s =
    (match s.choosePath sc p.start.mask none with
      | some x => (s.takePath sc x).settle
      | none => if s.noPath sc p.start.mask = .wait then s else (s.pathEnd sc).settle) := by
  unfold doPathWaitEnd
  rw [hp]
  dsimp only
  rw [hph] <;> rfl

theorem doPathWaitTimeout_waiting {t : Nat} (hp : s.prog? sc = some p) (hph : p.phase = .pathWait t) : doPathWaitTimeout sc s =
    (if t ≤ s.clk.now then (match s.choosePath sc p.start.mask none with
      | some x => (s.takePath sc x).settle
      | none => (s.pathEnd sc).settle) else s) := by
  unfold doPathWaitTimeout
  rw [hp]
  dsimp only
  rw [hph] <;> rfl

/-! #### HOLD -/

/-- The granules of a slice let go are those never written, which are poisoned (R162, R218). -/
theorem emptied_granules (f : Nat → Nat) (l : List Nat) (t : Table Granule) (i : Nat) (hi : i ∈ l) :
    tget {} (l.foldl (fun t i => tset t (f i) {}) t) (f i) = ({} : Granule) := by
  induction l using List.reverseRecOn with
  | nil => exact absurd hi List.not_mem_nil
  | append_singleton l j ih =>
    rw [List.foldl_append, List.foldl_cons, List.foldl_nil]
    by_cases hk : f i = f j
    · rw [hk, tget_tset_same]
    · rw [tget_tset_ne _ _ _ _ _ hk]
      refine ih ((List.mem_append.mp hi).resolve_right (fun h => hk ?_))
      rw [List.mem_singleton.mp h]

theorem State.emptySlice_eq (hp : s.prog? sc = some p) : s.emptySlice sc = (s.modProg sc (fun p => { p with groups := [], asked := [], slots := [] })).onData (fun d => { d with
    granules := (List.range p.slots.length).foldl (fun t i => tset t (sliceGranule sc i) {}) d.granules }) := by
  rw [State.emptySlice, hp]

/-- A program whose copies are let go and which holds (R167). -/
def State.heldHere (s : State) (sc : SC) : State := (s.emptySlice sc).modProg sc (fun p => { p with phase := .holding, seg := none, map := none, mapAsked := false })

theorem State.heldHere_facts (hp : s.prog? sc = some p) : onlySub sc { s with data := (s.heldHere sc).data } (s.heldHere sc) ∧
    { (s.heldHere sc).data with granules := s.data.granules } = s.data ∧
    (∀ i, i < p.slots.length → (tget {} (s.heldHere sc).data.granules (sliceGranule sc i)).poison = true) ∧
    (s.heldHere sc).prog? sc = some { p with phase := .holding, groups := [], asked := [], slots := [], seg := none, map := none, mapAsked := false } := by
  have h1 := State.prog?_modProg_some (fun p => { p with groups := [], asked := [], slots := [] }) hp
  rw [State.heldHere, State.emptySlice_eq hp]
  refine ⟨⟨fun x hx => ?_, rfl, rfl, rfl⟩, rfl, fun i hi => ?_, ?_⟩
  · exact (State.sub_modProg_ne (s := (s.modProg sc (fun p => { p with groups := [], asked := [], slots := [] })).onData _) _ hx).trans (State.sub_modProg_ne _ hx)
  · exact congrArg Granule.poison (emptied_granules (sliceGranule sc) _ _ i (List.mem_range.mpr hi))
  · exact State.prog?_modProg_some (s := (s.modProg sc (fun p => { p with groups := [], asked := [], slots := [] })).onData _) _ h1

theorem doHoldStepReached_held {w : StepW} (hd : s.stepDue sc = some (p, w)) (ho : opOf w.op ≠ .reserved) (hw : w.fhold = true) (hpass : p.pass ≠ some p.flow) :
    doHoldStepReached sc s = (let u := (((s.heldHere sc).planAhead sc).fireProg sc 0).lampServe sc .sequencer
      if u.goesOn sc then (u.closeKick sc).tryHold sc else u).settle := by
  unfold doHoldStepReached
  rw [hd]
  dsimp only
  rw [holdsHere, hw, bne_iff_ne.mpr hpass, bne_iff_ne.mpr ho, Bool.and_true, Bool.and_true, if_pos rfl]
  rfl

theorem doHoldStepReached_passed {w : StepW} (hd : s.stepDue sc = some (p, w)) (hw : w.fhold = false) : doHoldStepReached sc s = s := by
  unfold doHoldStepReached
  rw [hd]
  dsimp only
  rw [holdsHere, hw, Bool.false_and, Bool.and_false, if_neg Bool.false_ne_true]

theorem State.tryHold_holding {k : Sq} (hp : s.prog? sc = some p) (hph : p.phase = .holding) (hq : p.queuedW ≤ p.provenW) (hr : p.reports = [])
    (hc : (s.sub sc).closing = []) (hm : s.vfMaster p.start.tenant = true) (hk : s.sq? p.start.tenant p.start.sq = some k) :
    s.tryHold sc = (let r := s.writeReport p.start.tenant k.cq { reportCpl p ⟨p.flow, true, p.digest, p.s, p.queuedW⟩ with sc := sc } p.start.ref p.flow
      if r.2 then r.1.modProg sc (fun p => { p with phase := .held, path := none, skipped := false }) else r.1) := by
  unfold State.tryHold
  rw [hp]
  dsimp only
  rw [hph]
  dsimp only
  rw [decide_eq_true hq, hr, hc, hm, if_pos (by rfl), hk]

theorem State.writeReport_room {t : Tenant} {q : QNum} {c : Cq} (hc : s.cq? t q = some c) (x : Cpl) (ref step : W64) :
    (s.writeReport t q x ref step).2 = true ↔ 0 < c.free ∧ s.journalRoom t = true := by
  rw [State.writeReport, hc]
  dsimp only
  split
  · next h => exact iff_of_true rfl (((Bool.and_eq_true _ _).mp h).imp_left of_decide_eq_true)
  · next h => exact iff_of_false Bool.false_ne_true (fun e => h ((Bool.and_eq_true _ _).mpr ⟨decide_eq_true e.1, e.2⟩))

/-! #### Busy retries and the quiet time -/

theorem doBusyRetryTimer_busy {b : Busy} (hp : s.prog? sc = some p) (hb : p.busy = some b) (hw : b.waiting = true) : doBusyRetryTimer sc s =
    (if b.retryAt ≤ s.clk.now then ((s.modProg sc (fun p => { p with busy := some { b with waiting := false } })).sendChain sc).settle else s) := by
  unfold doBusyRetryTimer
  rw [hp, Option.bind_some, hb]
  dsimp only
  rw [hw, Bool.true_and]
  by_cases h : b.retryAt ≤ s.clk.now
  · rw [decide_eq_true h, if_pos rfl, if_pos h]
  · rw [decide_eq_false h, if_neg Bool.false_ne_true, if_neg h]

theorem doQuietTimeout_early {t : Tenant} {q : Nat} (hq : (s.tenant t).quiet = some q) (h : s.clk.now < q + 15625000) : doQuietTimeout t s = s := by
  unfold doQuietTimeout
  rw [hq]
  dsimp only
  rw [ms100Ticks_eq, if_neg (by omega)]

theorem doQuietTimeout_single {t : Tenant} {q since : Nat} {b : Bool} (hq : (s.tenant t).quiet = some q) (h : q + 15625000 ≤ s.clk.now)
    (hw : s.waitersOf t = [(sc, since, b)]) :
    doQuietTimeout t s = (if b then (s.fogBound 0 sc).modTenant t (fun k => { k with quiet := none }) else s.fogBound 1 sc).settle := by
  unfold doQuietTimeout
  rw [hq]
  dsimp only
  rw [ms100Ticks_eq, if_pos h, hw]
  cases b with
  | true => simp [insertBySince]
  | false => simp [insertBySince]

end

/-- Settles O51. -/
theorem startsWaitsAndHolds : Obligations.StartsWaitsAndHolds := by
  unfold Obligations.StartsWaitsAndHolds
  refine ⟨fun sc x rest s hpins hp hs => ⟨fun hgood => ?_, ?_⟩, fun sc p x s hp hc hf ht hu => ?_, fun sc p t s hp hph => ?_, fun d sc p x t s hq hp hx => ?_,
    fun sc p w s hd ho => ⟨fun hw hpass => ?_, fun hw => congrArg Host.Outcome.next (doHoldStepReached_passed hd hw)⟩, fun sc p k s hp hph hq hr hc hm hk => ?_,
    fun sc p b s hp hb hw => ?_, fun t q s hq => ?_⟩
  · obtain ⟨hnone, hsome⟩ := State.startLoaded_data (s := s) (sc := sc) x rest
    exact ⟨s.startLoaded sc x rest, congrArg Host.Outcome.next (doStartBegin_good hpins hp hs hgood), State.startLoaded_only x rest, hnone, hsome,
      State.startLoaded_sub x rest⟩
  · refine ⟨s.eccEvent (s.granuleSite (4 * sc.toNat)) .poison, congrArg Host.Outcome.next (doStartBegin_poison hpins hp hs), ?_, ?_, ?_⟩
    · exact congrArg (fun d => d.poisRd) (State.logFault_data _ 2 _ whoNone 0)
    · exact State.sub_congr (State.logFault_prog _ 2 _ whoNone 0) sc
    · exact State.logFault_ports _ 2 _ whoNone 0
  · exact ⟨_, State.takePath_now hp hc hf ht hu, State.onlySub_modProg sc _, State.prog?_modProg_some _ hp⟩
  · have hend := doPathWaitEnd_waiting hp hph
    have htime := doPathWaitTimeout_waiting hp hph
    refine ⟨fun x hx => ?_, fun hx => ?_, fun h => congrArg Host.Outcome.next (htime.trans (if_neg (by omega)))⟩
    · rw [hx] at hend htime
      exact ⟨congrArg Host.Outcome.next hend, fun h => congrArg Host.Outcome.next (htime.trans (if_pos h))⟩
    · rw [hx] at hend htime
      refine ⟨fun hw => ⟨congrArg Host.Outcome.next (hend.trans (if_pos hw)), fun h => congrArg Host.Outcome.next (htime.trans ((if_pos h).trans ?_))⟩,
        fun hi => congrArg Host.Outcome.next (hend.trans ((if_neg (by rw [hi]; exact NoPath.noConfusion)).trans ?_)),
        fun hl => congrArg Host.Outcome.next (hend.trans ((if_neg (by rw [hl]; exact NoPath.noConfusion)).trans ?_))⟩
      · rw [State.pathEnd_lost hp (by rw [hw]; exact NoPath.noConfusion)]
      · rw [State.pathEnd_identity hp hi]
      · rw [State.pathEnd_lost hp (by rw [hl]; exact NoPath.noConfusion)]
  · have hdo : doStartSlotGranted d s = (match p.path, p.phase with
        | some x, .slotWait _ => (if s.usable x then s.takePath sc x else s.retry sc false).settle
        | _, _ => (s.sendChain sc).settle) := by
      unfold doStartSlotGranted
      rw [hq]
      dsimp only
      rw [hp] <;> rfl
    rw [hx] at hdo
    refine ⟨fun hph hu => ?_, fun hph hu => ?_, fun hph => ?_⟩
    all_goals rw [hph] at hdo
    · exact congrArg Host.Outcome.next (hdo.trans (congrArg State.settle (if_pos hu)))
    · exact congrArg Host.Outcome.next (hdo.trans (congrArg State.settle (if_neg (by rw [hu]; exact Bool.false_ne_true))))
    · exact congrArg Host.Outcome.next hdo
  · exact ⟨s.heldHere sc, congrArg Host.Outcome.next (doHoldStepReached_held hd ho hw hpass), State.heldHere_facts (State.stepDue_prog hd).1⟩
  · intro r
    have hdo : doHoldReportSlotFreed sc s = (if r.2 then r.1.modProg sc (fun p => { p with phase := .held, path := none, skipped := false }) else r.1).settle :=
      congrArg State.settle (State.tryHold_holding hp hph hq hr hc hm hk)
    exact ⟨fun h => congrArg Host.Outcome.next (hdo.trans (congrArg State.settle (if_pos h))),
      fun h => congrArg Host.Outcome.next (hdo.trans (congrArg State.settle (if_neg (by rw [h]; exact Bool.false_ne_true)))),
      fun c hcq => State.writeReport_room hcq _ _ _⟩
  · have hdo := doBusyRetryTimer_busy hp hb hw
    exact ⟨fun h => congrArg Host.Outcome.next (hdo.trans (if_neg (by omega))),
      fun h => ⟨_, congrArg Host.Outcome.next (hdo.trans (if_pos h)), State.onlySub_modProg sc _, State.prog?_modProg_some _ hp⟩⟩
  · refine ⟨fun h => congrArg Host.Outcome.next (doQuietTimeout_early hq h), fun sc since h hw => ?_, fun sc since h hw => ?_⟩
    · exact ⟨_, congrArg Host.Outcome.next ((doQuietTimeout_single hq h hw).trans (congrArg State.settle (if_pos rfl))), rfl⟩
    · exact congrArg Host.Outcome.next ((doQuietTimeout_single hq h hw).trans (congrArg State.settle (if_neg Bool.false_ne_true)))

end Sys2Proof.Machine

namespace Sys2Proof.Machine
open Sys2Proof

/-! ### The reads of a program (R65, R156, R161-R164, R177, R178, R186, R200, R234, R245) -/

section
variable {s : State} {sc : SC} {p : Prog} {h : HPort}

/-! #### A read that comes back -/

theorem State.takeRead_wanted {key : ReadKey} {live : Nat} (hp : s.readPort key = some h) (hl : 0 < live) (hc : s.readCount h key ≤ live) :
    s.takeRead key live = (s.endRead h key, true) := by
  rw [State.takeRead, hp]
  dsimp only
  rw [decide_eq_true hl, decide_eq_true hc]
  rfl

/-- With no read waiting to be issued, the end of one sends nothing. -/
theorem State.endRead_out (key : ReadKey) (hq : (s.host h).readQ = []) : (s.endRead h key).out = s.out := by
  have hlen : ((s.modHost h (fun x => { x with reads := x.reads.eraseP (fun r => r.key == key) })).host h).readQ = [] := by
    rw [State.host_modHost]
    exact hq
  rw [State.endRead, State.kickReads, hlen]
  rfl

theorem State.endRead_prog? (key : ReadKey) (x : SC) : (s.endRead h key).prog? x = s.prog? x := congrArg Sub.prog (State.sub_congr (State.endRead_prog s h key) x)

/-- A read that came back, before its data is used, left the ports, the queues and what is sent. -/
theorem State.endRead_quiet (key : ReadKey) : (s.endRead h key).ports = s.ports ∧ (s.endRead h key).queues = s.queues ∧
    ((s.host h).readQ = [] → (s.endRead h key).out = s.out) := ⟨State.endRead_ports _ _ _, State.endRead_queues _ _ _, State.endRead_out key⟩

theorem State.readFailed_other (hp : s.prog? sc = some p) (step : W64) : s.readFailed sc step .failed =
    (s.seqException sc).endIntegrity sc 4 (some step) (seqSite ((p.path.map (·.port)).getD 0)) := by
  unfold State.readFailed
  dsimp only
  rw [hp, Option.bind_some]

/-! #### Step groups -/

/-- A program whose group read came back. -/
def State.groupTaken (s : State) (sc : SC) (h : HPort) (addr : W64) : State :=
  (s.endRead h (.group sc addr)).modProg sc (fun p => { p with asked := tdel p.asked (groupOf addr) })

theorem State.groupTaken_prog (addr : W64) (hp : s.prog? sc = some p) :
    (s.groupTaken sc h addr).prog? sc = some { p with asked := tdel p.asked (groupOf addr) } :=
  State.prog?_modProg_some _ ((State.endRead_prog? _ sc).trans hp)

theorem doStepGroupReadComplete_wanted {addr : W64} {arrived : Bool} (hp : s.prog? sc = some p) (ha : tfind p.asked (groupOf addr) = some arrived)
    (hr : s.readPort (.group sc addr) = some h) (hc : s.readCount h (.group sc addr) = 1) (r : Dma) : doStepGroupReadComplete sc addr r s =
      (let again := match p.chain with
        | some _ => (s.groupTaken sc h addr).chainOn sc
        | none => if groupOf p.flow = groupOf addr && p.phase == Phase.running then (s.groupTaken sc h addr).arrive sc else s.groupTaken sc h addr
      (match r with
        | .ok data =>
          if p.groups.length < Config.groupsPerExecution then
            (let s := (s.groupTaken sc h addr).keepGroup sc (groupOf addr) (padTo 64 data)
             (if p.phase == Phase.running then s.lookahead sc else s).pushOutput sc)
          else if arrived then (s.groupTaken sc h addr).stepCheck sc (p.arrivedAt (groupOf addr)) 10
          else again
        | _ => if arrived then (s.groupTaken sc h addr).readFailed sc (p.arrivedAt (groupOf addr)) r else again).settle) := by
  have hprog : (s.sub sc).prog = some p := hp
  have harr : tget false p.asked (groupOf addr) = arrived := by
    rw [tget, ha]
    rfl
  unfold doStepGroupReadComplete
  dsimp only
  rw [hprog]
  dsimp only
  rw [Option.map_some, ha, show ((some (some arrived).isSome).getD false) = true from rfl, State.takeRead_wanted hr (by rw [bnat]; exact Nat.lt_add_right _ Nat.one_pos)
    (by rw [hc, bnat]; exact Nat.le_add_right _ _)]
  dsimp only
  rw [Bool.not_true, if_neg Bool.false_ne_true, if_pos rfl, harr] <;> cases r <;> rfl

theorem State.keepGroup_facts {k : Nat} {b : Bytes} (hp : s.prog? sc = some p) :
    (s.keepGroup sc k b).prog? sc = some { p with groups := tset p.groups k b, slots := if p.slots.contains k then p.slots else p.slots ++ [k] } ∧
    (s.keepGroup sc k b).ports = s.ports ∧ (s.keepGroup sc k b).queues = s.queues ∧ (s.keepGroup sc k b).out = s.out := by
  rw [State.keepGroup, hp]
  exact ⟨State.prog?_modProg_some _ hp, rfl, rfl, rfl⟩

/-! #### Segment lists -/

theorem segTake_eq (count : Nat) (g : SegRead) (b : Bytes) (len sum : Nat) (hl : (u16 b 8).toNat = len) (hs : g.got.foldl (fun a x => a + x.2) 0 + len = sum) :
    segTake count g b = (if len = 0 ∨ allZero (bslice b 10 6) = false ∨ count < sum then none
      else if sum = count then some { g with got := g.got ++ [((u64 b 0).toNat, len)], asked := false, done := true }
      else if 64 ≤ g.got.length + 1 then none
      else some { g with got := g.got ++ [((u64 b 0).toNat, len)], asked := false, addr := g.addr + 16 }) := by
  unfold segTake
  dsimp only
  rw [hl, hs, List.length_append, List.length_singleton, show Config.segmentLimit = 64 from rfl]
  refine if_congr ?_ rfl rfl
  rw [Bool.or_eq_true, Bool.or_eq_true, decide_eq_true_iff, decide_eq_true_iff, Bool.not_eq_true', or_assoc]

theorem segTake_cases (count : Nat) (g : SegRead) (b : Bytes) :
    let len := (u16 b 8).toNat
    let sum := g.got.foldl (fun a x => a + x.2) 0 + len
    (len = 0 → segTake count g b = none) ∧ (count < sum → segTake count g b = none) ∧ (allZero (bslice b 10 6) = false → segTake count g b = none) ∧
    (len ≠ 0 → allZero (bslice b 10 6) = true → sum = count →
      segTake count g b = some { g with got := g.got ++ [((u64 b 0).toNat, len)], asked := false, done := true }) ∧
    (len ≠ 0 → allZero (bslice b 10 6) = true → sum < count → g.got.length < 63 →
      segTake count g b = some { g with got := g.got ++ [((u64 b 0).toNat, len)], asked := false, addr := g.addr + 16 }) ∧
    (sum < count → 63 ≤ g.got.length → segTake count g b = none) := by
  intro len sum
  rw [segTake_eq count g b len sum rfl rfl]
  have hbad : len ≠ 0 → allZero (bslice b 10 6) = true → sum ≤ count → ¬ (len = 0 ∨ allZero (bslice b 10 6) = false ∨ count < sum) := by
    rintro hl hz hs (h | h | h)
    · exact hl h
    · rw [hz] at h
      exact absurd h.symm Bool.false_ne_true
    · omega
  refine ⟨fun h => if_pos (.inl h), fun h => if_pos (.inr (.inr h)), fun h => if_pos (.inr (.inl h)), fun hl hz hs => ?_, fun hl hz hs hg => ?_, fun hs hg => ?_⟩
  · rw [if_neg (hbad hl hz (by omega)), if_pos hs]
  · rw [if_neg (hbad hl hz (by omega)), if_neg (by omega), if_neg (by omega)]
  · rw [if_neg (show sum ≠ count by omega), if_pos (show 64 ≤ g.got.length + 1 by omega), ite_self]

theorem doSegmentListReadComplete_wanted {g : SegRead} (hp : s.prog? sc = some p) (hg : p.seg = some g) (ha : g.asked = true)
    (hr : s.readPort (.segments sc) = some h) (hc : s.readCount h (.segments sc) = 1) (data : Bytes) :
    doSegmentListReadComplete sc (.ok data) s = (match segTake (((p.stepAt g.step).map (fun (w : StepW) => w.count)).getD 0) g (padTo 16 data) with
      | none => (s.endRead h (.segments sc)).stepCheck sc g.step 7
      | some g => ((s.endRead h (.segments sc)).modProg sc (fun p => { p with seg := some g })).stepGoesOn sc).settle := by
  unfold doSegmentListReadComplete
  rw [hp, Option.bind_some, hg, Option.map_some, ha]
  dsimp only
  rw [State.takeRead_wanted hr (by exact Nat.one_pos) (by rw [hc]; exact Nat.le_refl _)]
  dsimp only
  rw [Bool.not_true, if_neg Bool.false_ne_true, (State.endRead_prog? _ sc).trans hp]
  dsimp only
  rw [hg] <;> rfl

/-! #### Column maps -/

theorem doColumnMapReadComplete_wanted (hp : s.prog? sc = some p) (hm : p.mapAsked = true)
    (hr : s.readPort (.columnMap sc) = some h) (hc : s.readCount h (.columnMap sc) = 1) (r : Dma) : doColumnMapReadComplete sc r s = (match r with
      | .ok data => ((s.endRead h (.columnMap sc)).modProg sc (fun p => { p with map := some (p.flow, padTo 0x240 data), mapAsked := false })).stepGoesOn sc
      | _ => ((s.endRead h (.columnMap sc)).modProg sc (fun p => { p with mapAsked := false })).readFailed sc p.flow r).settle := by
  unfold doColumnMapReadComplete
  rw [hp, Option.map_some, hm, State.takeRead_wanted hr (by exact Nat.one_pos) (by rw [hc]; exact Nat.le_refl _)]
  dsimp only
  rw [Bool.not_true, if_neg Bool.false_ne_true, (State.endRead_prog? _ sc).trans hp] <;> cases r <;> rfl

/-! #### Output data -/

theorem tfind_of_key {α : Type} (t : Table α) (x : Nat × α) (hx : x ∈ t) : ∃ v, tfind t x.1 = some v := by
  induction t with
  | nil => exact absurd hx List.not_mem_nil
  | cons y t ih =>
    by_cases hk : y.1 = x.1
    · exact ⟨y.2, if_pos hk⟩
    · rcases List.mem_cons.mp hx with rfl | hx
      · exact absurd rfl hk
      · exact (ih hx).imp (fun v hv => (if_neg hk).trans hv)

/-- The mover whose output read comes back is one of the module's. -/
theorem State.outputMover_found {m ch : Nat} {d : Desc} (ho : s.outputMover sc = some (m, ch, d)) : ∃ v, tfind s.data.movers m = some v := by
  have hmem : (m, ch, d) ∈ s.data.movers.filterMap (fun m => match m.2.running with
      | some (c, d, landed) => if d.kind == 1 && d.sc == sc && !landed then some (m.1, c, d) else none
      | none => none) := by
    unfold State.outputMover at ho
    dsimp only at ho
    split at ho
    · next x hx =>
      rw [← Option.some.inj ho]
      exact List.mem_of_find?_eq_some hx
    · exact List.mem_of_head? ho
  obtain ⟨x, hx, he⟩ := List.mem_filterMap.mp hmem
  split at he
  · split at he
    · rw [← (Prod.mk.inj (Option.some.inj he)).1]
      exact tfind_of_key _ _ hx
    · exact nomatch he
  · exact nomatch he

theorem State.allocBuf_facts (q : Option DPort) (b : Bytes) :
    (s.allocBuf q b).2.bytes = b ∧ tfind (s.allocBuf q b).1.data.refs (s.allocBuf q b).2.buf = some 1 ∧ (s.allocBuf q b).1.data.freeBuf = s.data.freeBuf - 1 ∧
      (s.allocBuf q b).1.data.movers = s.data.movers ∧ (s.allocBuf q b).1.ports = s.ports ∧ (s.allocBuf q b).1.prog = s.prog ∧ (s.allocBuf q b).1.out = s.out :=
  ⟨rfl, tfind_tset_same _ _ _, rfl, rfl, rfl, rfl, rfl⟩

/-- What a landed output read leaves: its bytes in a staging buffer, the mover's descriptor with the run (R186). -/
def State.outputLanded (s : State) (m ch : Nat) (d : Desc) (b : Bytes) : State :=
  (s.allocBuf none b).1.onData (fun x => { x with movers := tupd x.movers m (fun k => { k with
    running := some (ch, { d with bytes := b, run := some (s.allocBuf none b).2.run }, true) }) })

theorem doOutputReadComplete_landed {m ch : Nat} {d : Desc} (ho : s.outputMover sc = some (m, ch, d)) (hr : s.readPort (.output sc) = some h)
    (hc : s.readCount h (.output sc) ≤ 4096) (data : Bytes) : doOutputReadComplete sc (.ok data) s =
      ((s.endRead h (.output sc)).outputLanded m ch d (((padTo (roundedRead d.addr d.len).2 data).drop (d.addr % 64)).take d.len)).settle := by
  unfold doOutputReadComplete
  rw [ho]
  dsimp only
  rw [State.takeRead_wanted hr (by omega) (by omega)]
  dsimp only
  rw [Bool.not_true, if_neg Bool.false_ne_true, State.outputLanded]

/-! #### Read-backs -/

theorem State.rbProg_congr {u : State} (hu : u.prog = s.prog) : u.rbProg sc = s.rbProg sc := by rw [State.rbProg, State.sub_congr hu]; rfl

/-- A program whose read-back came back (R200). -/
def State.rbTaken (s : State) (sc : SC) (h : HPort) (p : Prog) : State := (s.endRead h (.readback sc)).modXfer sc p.xfer (fun q => { q with rb := none })

theorem doReadbackComplete_wanted {b : ReadBack} (hp : s.rbProg sc = some p) (hb : p.rb = some b) (hr : s.readPort (.readback sc) = some h)
    (hc : s.readCount h (.readback sc) = 1) (r : Dma) : doReadbackComplete sc r 0 s = (match r with
      | .ok data => if rbMatches b.dw data then (s.rbTaken sc h p).rbGood sc p b else (s.rbTaken sc h p).rbFailed sc p
      | _ => (s.rbTaken sc h p).rbFailed sc p).settle := by
  have hlive : 0 < ((s.sub sc).progs.filter (fun p => p.rb.isSome)).length :=
    List.length_pos_of_mem (List.mem_filter.mpr ⟨List.mem_of_find?_eq_some hp, by rw [hb]; rfl⟩)
  have hdone : (s.endRead h (.readback sc)).rbDone sc r = (match r with
      | .ok data => if rbMatches b.dw data then (s.rbTaken sc h p).rbGood sc p b else (s.rbTaken sc h p).rbFailed sc p
      | _ => (s.rbTaken sc h p).rbFailed sc p) := by
    rw [State.rbDone, (State.rbProg_congr (State.endRead_prog _ _ _)).trans hp]
    dsimp only
    rw [hb] <;> cases r <;> rfl
  unfold doReadbackComplete
  dsimp only
  rw [State.takeRead_wanted hr hlive (by omega)]
  dsimp only
  rw [Bool.not_true, if_neg Bool.false_ne_true, hdone]
  exact if_pos rfl

theorem State.rbTaken_quiet : (s.rbTaken sc h p).ports = s.ports ∧ ((s.host h).readQ = [] → (s.rbTaken sc h p).out = s.out) ∧
    (s.rbTaken sc h p).queues = s.queues ∧ (s.rbTaken sc h p).data = s.data :=
  ⟨State.endRead_ports _ _ _, State.endRead_out _, State.endRead_queues _ _ _, State.endRead_data _ _ _⟩

/-! #### Block movers -/

theorem doMoverDescriptorBegin_output {m : MoverNum} {ch : Nat} {d : Desc} {rest : List Desc} (hf : (s.mover m).fenced = false) (hret : (s.mover m).retired = false)
    (ht : (s.mover m).testing = false) (hrun : (s.mover m).running = none) (hs : s.data.inService = true) (hn : s.nextChannel (s.mover m) = some ch)
    (hq : (tget {} (s.mover m).channels ch).queue = d :: rest) (hk : d.kind = 1) :
    ((doMoverDescriptorBegin m .good s).mover m).running = some (ch, d, false) ∧ (doMoverDescriptorBegin m .good s).prog = s.prog := by
  unfold doMoverDescriptorBegin
  dsimp only
  rw [hf, hret, ht, hrun, hs, if_neg (by decide), hn]
  dsimp only
  rw [hq]
  dsimp only
  rw [if_pos hk]
  refine ⟨?_, State.sendRead_prog _ _ _ _ _ _⟩
  rw [State.mover, State.sendRead_data]
  exact congrArg MoverSt.running (State.mover_modMover s m _)

end

/-- Settles O54. -/
theorem programReads : Obligations.ProgramReads := by
  unfold Obligations.ProgramReads
  refine ⟨fun sc p h s hp => ?_, fun count g b => segTake_cases count g b, fun sc m ch d h s ho hr hc data => ?_, fun sc p b h s hp hb hr hc => ?_,
    fun m ch d rest s hf hret ht hrun hs hn hq hk => ⟨_, rfl, doMoverDescriptorBegin_output hf hret ht hrun hs hn hq hk⟩, fun m ch d s hrun hk => ?_, fun m s hrun => ?_⟩
  · intro quiet fails
    refine ⟨fun addr arrived ha hr hc => ⟨fun data hlen => ?_, fun harr => ?_⟩, fun g hg ha hr hc => ?_, fun hm hr hc => ⟨fun data => ?_, ?_, ?_⟩⟩
    · have hdo := doStepGroupReadComplete_wanted hp ha hr hc (.ok data)
      obtain ⟨hprog, hports, hqueues, hout⟩ := State.keepGroup_facts (k := groupOf addr) (b := padTo 64 data) (State.groupTaken_prog (h := h) addr hp)
      obtain ⟨hports', hqueues', hout'⟩ := State.endRead_quiet (s := s) (h := h) (.group sc addr)
      refine ⟨(s.groupTaken sc h addr).keepGroup sc (groupOf addr) (padTo 64 data), congrArg Host.Outcome.next (hdo.trans (congrArg State.settle ((if_pos hlen).trans ?_))),
        hprog, hports.trans hports', hqueues.trans hqueues', fun hq => hout.trans (hout' hq)⟩
      exact congrArg (fun v : State => v.pushOutput sc) (if_congr beq_iff_eq rfl rfl)
    · have hdo := doStepGroupReadComplete_wanted hp ha hr hc .refused
      exact ⟨s.groupTaken sc h addr, congrArg Host.Outcome.next (hdo.trans (congrArg State.settle (if_pos harr))), State.groupTaken_prog addr hp, State.endRead_quiet _⟩
    · intro count
      have hp' := (State.endRead_prog? (s := s) (h := h) (.segments sc) sc).trans hp
      refine ⟨fun data hg1 => ?_, fun data g1 hg1 => ?_⟩
      · have hdo := doSegmentListReadComplete_wanted hp hg ha hr hc data
        rw [hg1] at hdo
        exact ⟨_, congrArg Host.Outcome.next hdo, hp', State.endRead_ports _ _ _⟩
      · have hdo := doSegmentListReadComplete_wanted hp hg ha hr hc data
        rw [hg1] at hdo
        exact ⟨_, congrArg Host.Outcome.next hdo, State.prog?_modProg_some _ hp', State.endRead_quiet _⟩
    · exact ⟨_, congrArg Host.Outcome.next (doColumnMapReadComplete_wanted hp hm hr hc (.ok data)), State.prog?_modProg_some _ ((State.endRead_prog? _ sc).trans hp),
        State.endRead_quiet _⟩
    · exact ⟨_, congrArg Host.Outcome.next (doColumnMapReadComplete_wanted hp hm hr hc .refused), State.prog?_modProg_some _ ((State.endRead_prog? _ sc).trans hp),
        State.endRead_quiet _⟩
    · have hp' := State.prog?_modProg_some (fun p => { p with mapAsked := false }) ((State.endRead_prog? (s := s) (h := h) (.columnMap sc) sc).trans hp)
      exact ⟨_, congrArg Host.Outcome.next ((doColumnMapReadComplete_wanted hp hm hr hc .failed).trans (congrArg State.settle (State.readFailed_other hp' _))), hp',
        State.endRead_quiet _⟩
  · obtain ⟨v, hv⟩ := State.outputMover_found ho
    obtain ⟨hbytes, hrefs, hfree, hmov, hports, hprog, hout⟩ := State.allocBuf_facts (s := s.endRead h (.output sc)) none
      (((padTo (roundedRead d.addr d.len).2 data).drop (d.addr % 64)).take d.len)
    have hdata := State.endRead_data s h (.output sc)
    refine ⟨_, ((s.endRead h (.output sc)).allocBuf none _).2, congrArg Host.Outcome.next (doOutputReadComplete_landed ho hr hc data), hbytes, ?_, hrefs,
      hfree.trans (by rw [hdata]), hports.trans (State.endRead_ports _ _ _), hprog.trans (State.endRead_prog _ _ _), fun hq => hout.trans (State.endRead_out _ hq)⟩
    rw [State.outputLanded]
    refine (congrArg (Option.map (fun x : MoverSt => x.running)) (tfind_tupd_same _ m _)).trans ?_
    rw [hmov, hdata, hv]
    rfl
  · intro quiet
    have hdo := doReadbackComplete_wanted hp hb hr hc
    exact ⟨fun data hmatch => ⟨_, congrArg Host.Outcome.next ((hdo (.ok data)).trans (congrArg State.settle (if_pos hmatch))), State.rbTaken_quiet⟩,
      fun data hmatch => ⟨_, congrArg Host.Outcome.next ((hdo (.ok data)).trans (congrArg State.settle (if_neg (by rw [hmatch]; exact Bool.false_ne_true)))),
        State.rbTaken_quiet⟩, ⟨_, congrArg Host.Outcome.next (hdo .failed), State.rbTaken_quiet⟩⟩
  · refine ⟨_, congrArg Host.Outcome.next ?_, rfl⟩
    unfold doMoverDescriptorComplete
    rw [hrun]
    dsimp only
    rw [if_pos hk, if_pos rfl]
  · refine congrArg Host.Outcome.next ?_
    unfold doMoverDescriptorComplete
    rw [hrun]

end Sys2Proof.Machine

namespace Sys2Proof.Machine
open Sys2Proof

/-! ### Device steps (R142, R144-R149, R177, R178, R181, R218, R231, R234, R268, R269) -/

section
variable {s : State} {sc : SC} {p : Prog} {d : DPort}

/-! #### What waits for a slot of a port -/

/-- Since when a subchannel's program waits for a slot or a tag of a port (R193). -/
def slotSince (d : DPort) (b : Sub) : Option Nat :=
  match b.prog with
  | some p =>
    if p.path.map (·.port) == some d then
      (match p.phase with
        | .slotWait t => some t
        | _ => p.tagWait)
    else none
  | none => none

/-- An entry of the table of subchannels that waits for a slot of a port. -/
def slotKey (d : DPort) (b : Nat × Sub) : Option (Nat × Nat) := (slotSince d b.2).map (fun t => (b.1, t))

/-- The longer waiting of two entries, the first where they are equal. -/
def longerWait (b : Option (Nat × Nat)) (x : Nat × Nat) : Option (Nat × Nat) :=
  match b with
  | some y => if x.2 < y.2 then some x else b
  | none => some x

theorem State.slotQueue_eq (s : State) (d : DPort) : s.slotQueue d = ((s.prog.subs.filterMap (slotKey d)).foldl longerWait none).map (fun x => BitVec.ofNat 18 x.1) := by
  have hkey : (fun (b : Nat × Sub) => match b.2.prog with
      | some p => if p.path.map (·.port) == some d then ((match p.phase with
          | .slotWait t => some t
          | _ => p.tagWait).map (fun t => (b.1, t))) else none
      | none => none) = slotKey d := by
    funext b
    rw [slotKey, slotSince]
    cases hb : b.2.prog with
    | none => rfl
    | some p =>
      dsimp only
      split <;> rfl
  rw [← hkey]
  rfl

/-- An entry that waits no shorter than the best so far leaves either itself or what would have been found without it. -/
theorem longerWait_from (e : Nat × Nat) (l : List (Nat × Nat)) (a : Option (Nat × Nat)) (ha : ∀ y, a = some y → e.2 ≤ y.2) :
    l.foldl longerWait (some e) = some e ∨ l.foldl longerWait (some e) = l.foldl longerWait a := by
  induction l generalizing a with
  | nil => exact .inl rfl
  | cons x l ih =>
    rw [List.foldl_cons, List.foldl_cons]
    by_cases hx : x.2 < e.2
    · have h1 : longerWait (some e) x = some x := if_pos hx
      have h2 : longerWait a x = some x := by
        cases a with
        | none => rfl
        | some y => exact if_pos (Nat.lt_of_lt_of_le hx (ha y rfl))
      exact .inr (by rw [h1, h2])
    · have h1 : longerWait (some e) x = some e := if_neg hx
      rw [h1]
      refine ih _ (fun y hy => ?_)
      cases a with
      | none => rw [← Option.some.inj hy]; omega
      | some z =>
        unfold longerWait at hy
        dsimp only at hy
        split at hy
        · rw [← Option.some.inj hy]; omega
        · exact ha y hy

theorem longerWait_insert (l1 l2 : List (Nat × Nat)) (e : Nat × Nat) (a : Option (Nat × Nat)) :
    (l1 ++ e :: l2).foldl longerWait a = some e ∨ (l1 ++ e :: l2).foldl longerWait a = (l1 ++ l2).foldl longerWait a := by
  rw [List.foldl_append, List.foldl_append, List.foldl_cons]
  generalize l1.foldl longerWait a = b
  cases b with
  | none => exact longerWait_from e l2 none (fun y hy => nomatch hy)
  | some y =>
    by_cases he : e.2 < y.2
    · rw [show longerWait (some y) e = some e from if_pos he]
      exact longerWait_from e l2 (some y) (fun z hz => by rw [← Option.some.inj hz]; exact Nat.le_of_lt he)
    · rw [show longerWait (some y) e = some y from if_neg he]
      exact .inr rfl

/-- An entry of a table replaced by one of the same value for `g` leaves the values, or repeats that one. -/
theorem filterMap_tset {α β : Type} (g : Nat × α → Option β) (t : Table α) (k : Nat) (v : α)
    (hsome : ∀ w, tfind t k = some w → g (k, v) = g (k, w)) (hnone : tfind t k = none → g (k, v) = none) :
    (tset t k v).filterMap g = t.filterMap g ∨ ∃ l1 l2 e, g (k, v) = some e ∧ (tset t k v).filterMap g = l1 ++ e :: l2 ∧ t.filterMap g = l1 ++ l2 := by
  induction t with
  | nil =>
    left
    rw [tset, List.filterMap_cons_none (hnone rfl)]
  | cons x t ih =>
    obtain ⟨a, w⟩ := x
    unfold tset
    split
    · next he =>
      subst he
      have hv := hsome w (if_pos rfl)
      left
      rw [List.filterMap_cons, List.filterMap_cons, hv]
    · next hne =>
      split
      · cases hg : g (k, v) with
        | none => exact .inl (List.filterMap_cons_none hg)
        | some e => exact .inr ⟨[], _, e, rfl, List.filterMap_cons_some hg, rfl⟩
      · have hfind : tfind ((a, w) :: t) k = tfind t k := if_neg hne
        rw [hfind] at hsome hnone
        rcases ih hsome hnone with h | ⟨l1, l2, e, he, h1, h2⟩
        · left
          rw [List.filterMap_cons, List.filterMap_cons, h]
        · right
          cases hx : g (a, w) with
          | none => exact ⟨l1, l2, e, he, by rw [List.filterMap_cons_none hx, h1], by rw [List.filterMap_cons_none hx, h2]⟩
          | some y => exact ⟨y :: l1, l2, e, he, by rw [List.filterMap_cons_some hx, h1]; rfl, by rw [List.filterMap_cons_some hx, h2]; rfl⟩

/-- A change of a subchannel that leaves since when it waits leaves its turn at a port (R193). -/
theorem State.turnOf_modSub (f : Sub → Sub) (hf : slotSince d (f (s.sub sc)) = slotSince d (s.sub sc)) (h : s.turnOf sc d = true) :
    (s.modSub sc f).turnOf sc d = true := by
  have hget : ∀ w, tfind s.prog.subs sc.toNat = some w → s.sub sc = w := by
    intro w hw
    rw [State.sub, tget, hw]
    rfl
  have hnone : tfind s.prog.subs sc.toNat = none → s.sub sc = {} := by
    intro hw
    rw [State.sub, tget, hw]
    rfl
  have hl := filterMap_tset (slotKey d) s.prog.subs sc.toNat (f (s.sub sc))
    (fun w hw => by rw [slotKey, slotKey, hf, hget w hw]) (fun hw => by rw [slotKey, hf, hnone hw]; rfl)
  have hq : (s.modSub sc f).slotQueue d = (((tset s.prog.subs sc.toNat (f (s.sub sc))).filterMap (slotKey d)).foldl longerWait none).map (fun x => BitVec.ofNat 18 x.1) :=
    State.slotQueue_eq _ d
  have hcases : (s.modSub sc f).slotQueue d = some sc ∨ (s.modSub sc f).slotQueue d = s.slotQueue d := by
    rcases hl with hl | ⟨l1, l2, e, he, h1, h2⟩
    · exact .inr (by rw [hq, hl, State.slotQueue_eq])
    · have hsc : BitVec.ofNat 18 e.1 = sc := by
        obtain ⟨t, -, ht⟩ := Option.map_eq_some_iff.mp he
        rw [← ht]
        exact (BitVec.ofNat_toNat _ _).trans (BitVec.setWidth_eq _)
      rcases longerWait_insert l1 l2 e none with hi | hi
      · left
        rw [hq, h1, hi]
        exact congrArg some hsc
      · right
        rw [hq, h1, hi, State.slotQueue_eq, h2]
  rcases hcases with hc | hc
  · rw [State.turnOf, hc]
    exact beq_self_eq_true sc
  · rw [State.turnOf, hc]
    exact h

/-! #### What reading output ahead leaves of a program -/

/-- A chain without what reading its output changes. -/
def Chain.calm (c : Chain) : Chain := { c with nextRead := 0, redo := [] }

/-- A program without what reading its output and proving its writes changes. -/
def Prog.calm (p : Prog) : Prog := { p with ahead := [], passage := 0, rb := none, chain := p.chain.map Chain.calm }

/-- Only reads of output and read-backs of one subchannel were asked for. -/
def asksOnly (sc : SC) (s t : State) : Prop :=
  (t.prog? sc).map Prog.calm = (s.prog? sc).map Prog.calm ∧ { t.sub sc with prog := none, closing := [] } = { s.sub sc with prog := none, closing := [] } ∧
    (∀ d, s.turnOf sc d = true → t.turnOf sc d = true) ∧ { t with prog := s.prog, data := s.data, faults := s.faults, hosts := s.hosts, out := s.out } = s

theorem asksOnly.refl (sc : SC) (s : State) : asksOnly sc s s := ⟨rfl, rfl, fun _ h => h, rfl⟩

theorem asksOnly.trans {u v : State} (h : asksOnly sc s u) (h' : asksOnly sc u v) : asksOnly sc s v := by
  obtain ⟨hprog, hsub, hturn, hrest⟩ := h
  obtain ⟨hprog', hsub', hturn', hrest'⟩ := h'
  exact ⟨hprog'.trans hprog, hsub'.trans hsub, fun d h => hturn' d (hturn d h),
    (congrArg (fun v : State => { v with prog := s.prog, data := s.data, faults := s.faults, hosts := s.hosts, out := s.out }) hrest').trans hrest⟩

theorem slotSince_calm {b b' : Sub} (h : b'.prog.map Prog.calm = b.prog.map Prog.calm) : slotSince d b' = slotSince d b := by
  have hkey : ∀ b : Sub, slotSince d b = slotSince d { b with prog := b.prog.map Prog.calm } := by
    intro b
    rw [slotSince, slotSince]
    cases b.prog <;> rfl
  have hp : ∀ b : Sub, slotSince d b = slotSince d { prog := b.prog } := fun b => rfl
  rw [hkey b', hkey b, hp { b' with prog := b'.prog.map Prog.calm }, hp { b with prog := b.prog.map Prog.calm }, h]

theorem asksOnly_modSub (f : Sub → Sub) (hp : ∀ b, (f b).prog.map Prog.calm = b.prog.map Prog.calm)
    (hb : ∀ b, { f b with prog := none, closing := [] } = { b with prog := none, closing := [] }) : asksOnly sc s (s.modSub sc f) := by
  refine ⟨?_, ?_, fun d h => State.turnOf_modSub f (slotSince_calm (hp _)) h, rfl⟩
  · rw [State.prog?, State.sub_modSub]
    exact hp _
  · rw [State.sub_modSub]
    exact hb _

theorem asksOnly_modProg (f : Prog → Prog) (hf : ∀ p, (f p).calm = p.calm) : asksOnly sc s (s.modProg sc f) :=
  asksOnly_modSub _ (fun b => by
    cases b.prog with
    | none => rfl
    | some p => exact congrArg some (hf p)) (fun b => rfl)

/-- What leaves the programs and all but the data path, the accounts and the host ports. -/
theorem asksOnly_of_frame {t : State} (h : { t with data := s.data, faults := s.faults, hosts := s.hosts, out := s.out } = s) : asksOnly sc s t := by
  have hprog : t.prog = s.prog := (congrArg State.prog h :)
  have hsub := State.sub_congr hprog sc
  refine ⟨by rw [State.prog?, hsub]; rfl, by rw [hsub], fun d ht => ?_, ?_⟩
  · rw [State.turnOf, State.slotQueue, hprog]
    exact ht
  · exact (congrArg (fun v : State => { v with prog := s.prog }) h :)

theorem State.dropRef_frame (b : Nat) : { s.dropRef b with data := s.data, faults := s.faults } = s := by
  unfold State.dropRef
  split
  · rfl
  · split <;> rfl

theorem State.dropPieces_frame (l : List Piece) (s : State) : { s.dropPieces l with data := s.data, faults := s.faults } = s := by
  induction l generalizing s with
  | nil => rfl
  | cons x l ih =>
    rw [State.dropPieces, List.foldl_cons]
    exact (congrArg (fun v : State => { v with data := s.data, faults := s.faults }) (ih (s.dropRef x.buf))).trans (State.dropRef_frame _)

theorem State.admitDesc_frame (d : Desc) : { s.admitDesc d with data := s.data, faults := s.faults } = s := by
  unfold State.admitDesc
  dsimp only
  split
  · split <;> rfl
  · split <;> rfl

theorem State.admitDescs_frame : { s.admitDescs with data := s.data, faults := s.faults } = s := by
  have h : ∀ (l : List Desc) (v : State), { l.foldl State.admitDesc v with data := s.data, faults := s.faults } = { v with data := s.data, faults := s.faults } := by
    intro l
    induction l with
    | nil => exact fun v => rfl
    | cons x l ih => exact fun v => (ih _).trans (congrArg (fun u : State => { u with data := s.data, faults := s.faults }) (State.admitDesc_frame (s := v) x))
  exact h _ _

theorem State.queueDesc_frame (d : Desc) : { s.queueDesc d with data := s.data, faults := s.faults } = s :=
  (congrArg (fun v : State => { v with data := s.data, faults := s.faults }) (State.admitDescs_frame (s := s.onData (fun x => { x with waitDescs := x.waitDescs ++ [d] }))) :)

theorem asksOnly_queueDesc (d : Desc) : asksOnly sc s (s.queueDesc d) :=
  asksOnly_of_frame (congrArg (fun v : State => { v with hosts := s.hosts, out := s.out }) (State.queueDesc_frame d))

theorem asksOnly_planAhead : asksOnly sc s (s.planAhead sc) := by
  unfold State.planAhead
  split
  · exact asksOnly.refl sc s
  · refine asksOnly.trans (asksOnly_of_frame ?_) (asksOnly_modProg _ (fun q => rfl))
    exact congrArg (fun v : State => { v with hosts := s.hosts, out := s.out }) (State.dropPieces_frame _ s)

theorem asksOnly_queueAll (l : List (Nat × Desc)) (s : State) : asksOnly sc s (l.foldl (fun s d => s.queueDesc { d.2 with need := true }) s) := by
  induction l generalizing s with
  | nil => exact asksOnly.refl sc s
  | cons x l ih => exact (asksOnly_queueDesc _).trans (ih _)

theorem asksOnly_redoOutput : asksOnly sc s (s.redoOutput sc) := by
  unfold State.redoOutput
  split
  · exact asksOnly.refl sc s
  · refine asksOnly.trans (asksOnly_modProg _ (fun q => ?_)) (asksOnly_queueAll _ _)
    unfold Prog.calm
    cases q.chain <;> rfl

theorem asksOnly_noteRead (d : Desc) : asksOnly sc s (s.noteRead sc d) := by
  refine asksOnly_modProg _ (fun q => ?_)
  split
  · rfl
  · unfold Prog.calm
    cases q.chain <;> rfl

theorem asksOnly_readOutput (f : Nat) (s : State) : asksOnly sc s (State.readOutput f s sc) := by
  induction f generalizing s with
  | zero => exact asksOnly.refl sc s
  | succ f ih =>
    unfold State.readOutput
    split
    · exact asksOnly.refl sc s
    · split
      · exact asksOnly.refl sc s
      · exact ((asksOnly_noteRead _).trans (asksOnly_queueDesc _)).trans (ih _)

theorem asksOnly_modXfer (x : Nat × Nat) (f : Prog → Prog) (hf : ∀ p, (f p).calm = p.calm) : asksOnly sc s (s.modXfer sc x f) := by
  refine asksOnly_modSub _ (fun b => ?_) (fun b => rfl)
  cases b.prog with
  | none => rfl
  | some p =>
    refine congrArg some ?_
    show (if p.xfer == x then f p else p).calm = p.calm
    split
    · exact hf p
    · rfl

theorem asksOnly_sendRead (h : HPort) (pasid : Option (BitVec 20)) (a : W64) (n : Nat) (key : ReadKey) : asksOnly sc s (s.sendRead h pasid a n key) :=
  asksOnly_of_frame (congrArg (fun u : State => { u with data := s.data, faults := s.faults }) (State.sendRead_frame s h pasid a n key))

theorem asksOnly_rbIssue (q : Prog) : asksOnly sc s (s.rbIssue sc q) := by
  unfold State.rbIssue
  split
  · split
    · exact asksOnly.trans (by exact asksOnly_modXfer _ _ (fun p => rfl)) (asksOnly_sendRead _ _ _ _ _)
    · exact asksOnly.refl sc s
  · exact asksOnly.refl sc s

theorem asksOnly_rbKick (s : State) : asksOnly sc s (s.rbKick sc) := by
  have h : ∀ (l : List Prog) (v : State), asksOnly sc v (l.foldl (fun s p => s.rbIssue sc p) v) := by
    intro l
    induction l with
    | nil => exact fun v => asksOnly.refl sc v
    | cons x l ih => exact fun v => (asksOnly_rbIssue x).trans (ih _)
  exact h _ s

/-- A chain without a tag has nothing on the port. -/
theorem State.feed_untagged {c : Chain} (f : Nat) (hp : s.prog? sc = some p) (hc : p.chain = some c) (ht : c.tag = none) : s.feed f sc = s := by
  cases f with
  | zero => rfl
  | succ f =>
    unfold State.feed
    rw [hp]
    dsimp only
    rw [hc]
    cases p.path with
    | none => rfl
    | some x =>
      dsimp only
      rw [ht]

theorem asksOnly.chain {t : State} (h : asksOnly sc s t) {c : Chain} (hp : s.prog? sc = some p) (hc : p.chain = some c) :
    ∃ q k, t.prog? sc = some q ∧ q.chain = some k ∧ q.calm = p.calm ∧ k.calm = c.calm := by
  have h1 := h.1
  rw [hp] at h1
  obtain ⟨q, hq, hqc⟩ := Option.map_eq_some_iff.mp h1
  have hchain := congrArg Prog.chain hqc
  rw [show p.calm.chain = p.chain.map Chain.calm from rfl, show q.calm.chain = q.chain.map Chain.calm from rfl, hc] at hchain
  obtain ⟨k, hk, hkc⟩ := Option.map_eq_some_iff.mp hchain
  exact ⟨q, k, hq, hk, hqc, hkc⟩

theorem State.pushOutput_untagged {c : Chain} (hp : s.prog? sc = some p) (hc : p.chain = some c) (ht : c.tag = none) :
    s.pushOutput sc = (State.readOutput 1024 ((s.planAhead sc).redoOutput sc) sc).rbKick sc ∧ asksOnly sc s (s.pushOutput sc) := by
  have hasks : asksOnly sc s ((State.readOutput 1024 ((s.planAhead sc).redoOutput sc) sc).rbKick sc) :=
    ((asksOnly_planAhead.trans asksOnly_redoOutput).trans (asksOnly_readOutput 1024 _)).trans (asksOnly_rbKick _)
  obtain ⟨q, k, hq, hk, -, hkc⟩ := hasks.chain hp hc
  have hkt : k.tag = none := (congrArg Chain.tag hkc).trans ht
  have heq : s.pushOutput sc = (State.readOutput 1024 ((s.planAhead sc).redoOutput sc) sc).rbKick sc := by
    unfold State.pushOutput
    dsimp only
    rw [hq]
    exact State.feed_untagged _ hq hk hkt
  exact ⟨heq, heq ▸ hasks⟩

end
end Sys2Proof.Machine

namespace Sys2Proof.Machine
open Sys2Proof

section
variable {s : State} {sc : SC} {p : Prog} {w : StepW} {o : Op}

/-! #### Reading output ahead sends nothing -/

/-- Only running programs, the data path and the accounts changed. -/
def innerOnly (sc : SC) (s t : State) : Prop := { t with prog := s.prog, data := s.data, faults := s.faults } = s ∧ (t.sub sc).closing = (s.sub sc).closing

theorem innerOnly.refl (sc : SC) (s : State) : innerOnly sc s s := ⟨rfl, rfl⟩

theorem innerOnly.trans {u v : State} (h : innerOnly sc s u) (h' : innerOnly sc u v) : innerOnly sc s v := by
  obtain ⟨hrest, hclosing⟩ := h
  obtain ⟨hrest', hclosing'⟩ := h'
  exact ⟨(congrArg (fun v : State => { v with prog := s.prog, data := s.data, faults := s.faults }) hrest' :).trans hrest, hclosing'.trans hclosing⟩

theorem innerOnly_modProg (f : Prog → Prog) : innerOnly sc s (s.modProg sc f) := ⟨rfl, (congrArg Sub.closing (s.sub_modSub sc (fun b => { b with prog := b.prog.map f })) :)⟩

theorem innerOnly_queueDesc (d : Desc) : innerOnly sc s (s.queueDesc d) :=
  ⟨(congrArg (fun v : State => { v with prog := s.prog }) (State.queueDesc_frame d) :), congrArg Sub.closing (State.sub_congr (State.queueDesc_prog s d) sc)⟩

theorem innerOnly_planAhead : innerOnly sc s (s.planAhead sc) := by
  unfold State.planAhead
  split
  · exact innerOnly.refl sc s
  · refine innerOnly.trans ?_ (innerOnly_modProg _)
    have hframe : ∀ l, { s.dropAhead l with data := s.data, faults := s.faults } = s := fun l => State.dropPieces_frame _ s
    exact ⟨(congrArg (fun v : State => { v with prog := s.prog }) (hframe _) :), congrArg Sub.closing (State.sub_congr (congrArg State.prog (hframe _)) sc)⟩

theorem innerOnly_redoOutput : innerOnly sc s (s.redoOutput sc) := by
  have h : ∀ (l : List (Nat × Desc)) (v : State), innerOnly sc v (l.foldl (fun s d => s.queueDesc { d.2 with need := true }) v) := by
    intro l
    induction l with
    | nil => exact fun v => innerOnly.refl sc v
    | cons x l ih => exact fun v => (innerOnly_queueDesc _).trans (ih _)
  unfold State.redoOutput
  split
  · exact innerOnly.refl sc s
  · exact (innerOnly_modProg _).trans (h _ _)

theorem innerOnly_readOutput (f : Nat) (s : State) : innerOnly sc s (State.readOutput f s sc) := by
  induction f generalizing s with
  | zero => exact innerOnly.refl sc s
  | succ f ih =>
    unfold State.readOutput
    split
    · exact innerOnly.refl sc s
    · split
      · exact innerOnly.refl sc s
      · exact ((innerOnly_modProg _).trans (innerOnly_queueDesc _)).trans (ih _)

/-- A program with no page waiting and no report asks for no read-back at a head step. -/
theorem rbTarget_none (hph : p.phase = .running) (hpw : p.postWait = false) (hr : p.reports = []) (hpg : p.pages = []) (m : Nat) : rbTarget p m = none := by
  have hblock : ∀ a n, pageBlock p a n = none := by
    intro a n
    rw [pageBlock, hpg]
    rfl
  unfold rbTarget
  rw [hph, hpw, hr]
  cases hc : p.chain with
  | none => rfl
  | some c =>
    dsimp only
    rw [if_neg (by decide)]
    cases c.output with
    | false => rfl
    | true =>
      rw [if_pos rfl]
      cases nextOutput c m with
      | none => rfl
      | some r => exact hblock _ _

theorem State.rbKick_none (hp : s.prog? sc = some p) (hc : (s.sub sc).closing = []) (ht : ∀ m, rbTarget p m = none) : s.rbKick sc = s := by
  have hl : (s.sub sc).progs = [p] := by
    rw [Sub.progs, hc, show (s.sub sc).prog = some p from hp]
    rfl
  rw [State.rbKick, hl, List.foldl_cons, List.foldl_nil, State.rbIssue, ht]

/-! #### The exchange of a device step -/

/-- The exchange opened with a tag for a chain, and the tag noted in it (R231, R268). -/
def State.exchOpened (s : State) (sc : SC) (x : Path) (g : Nat) (c : Chain) : State :=
  (s.openExch x.port (.prog sc) x.addr (s.sub sc).devaddr c.input c.output false c.op).1.modProg sc
    (fun p => { p with tagWait := none, chain := p.chain.map (fun c => { c with tag := some (BitVec.ofNat 12 g) }) })

theorem State.openExch_tag {d : DPort} {g : Nat} (hg : (s.port d).headTag = some g) (owner : Owner) (cu : Byte) (dev : W16) (i o ident : Bool) (op : Byte) :
    (s.openExch d owner cu dev i o ident op).2 = some (BitVec.ofNat 12 g) := by
  rw [State.openExch, hg]

theorem State.openExch_facts {d : DPort} {g : Nat} (hg : (s.port d).headTag = some g) (owner : Owner) (cu : Byte) (dev : W16) (i o : Bool) (op : Byte) :
    let e : Exch := { owner := owner, gen := (s.port d).nextGen g, cuaddr := cu, devaddr := dev, input := i, output := o }
    let t := (s.openExch d owner cu dev i o false op).1
    tfind (t.port d).exch g = some e ∧
    (t.port d).ctrlQ = (s.port d).ctrlQ ++ [⟨exchFrame { blank 1 with body := padTo 12 [op] } (BitVec.ofNat 12 g) e, some (BitVec.ofNat 12 g), []⟩] ∧
    (∀ y, y ≠ d → t.port y = s.port y) ∧ t.queues = s.queues ∧ t.out = s.out ∧ t.prog = s.prog := by
  intro e t
  have ht : t = ((s.modPort d (fun p => { p with
      fresh := if p.fresh < Config.tagsPerPort then p.fresh + 1 else p.fresh
      freed := if p.fresh < Config.tagsPerPort then p.freed else p.freed.drop 1
      gens := tset p.gens g ((s.port d).nextGen g)
      exch := tset p.exch g e
      ctrlQ := p.ctrlQ ++ [⟨exchFrame { blank 1 with body := padTo 12 [op] } (BitVec.ofNat 12 g) e, some (BitVec.ofNat 12 g), []⟩] })).book 4 d.val 1).work := by
    show (s.openExch d owner cu dev i o false op).1 = _
    rw [State.openExch, hg]
    rfl
  rw [ht]
  refine ⟨?_, ?_, fun y hy => s.port_modPort_ne d y _ hy, rfl, rfl, rfl⟩
  · refine (congrArg (fun q : Port => tfind q.exch g) (s.port_modPort d _)).trans ?_
    exact tfind_tset_same _ _ _
  · exact congrArg Port.ctrlQ (s.port_modPort d _)

theorem State.openChainAs_now {x : Path} {c : Chain} {g : Nat} (hp : s.prog? sc = some p) (hc : p.chain = some c) (hx : p.path = some x) (ht : c.tag = none)
    (hcol : c.col = none) (hf : s.foggy = false) (hg : (s.port x.port).headTag = some g) :
    s.openChainAs sc true = (s.exchOpened sc x g c).pushOutput sc := by
  have htag := State.openExch_tag (s := s) hg (.prog sc) x.addr (s.sub sc).devaddr c.input c.output false c.op
  unfold State.openChainAs
  rw [hp]
  dsimp only
  rw [hc, hx]
  dsimp only
  rw [ht, hcol, hf]
  refine (if_neg (by decide)).trans ((if_neg (by simp)).trans ?_)
  rw [show (if (none : Option ColState).isSome = true then s.claimEngine sc (portDie x.port) else (s, true)) = (s, true) from rfl]
  dsimp only
  rw [Bool.not_true, if_neg Bool.false_ne_true, if_neg Bool.false_ne_true, htag] <;> rfl

/-- A path that can be used is one that goes on (R237). -/
theorem State.goesOnAt_of_usable {x : Path} (h : s.usable x = true) : s.goesOnAt x = true := by
  rw [State.usable] at h
  rw [Bool.and_eq_true, Bool.and_eq_true, Bool.and_eq_true, Bool.and_eq_true] at h
  obtain ⟨⟨⟨⟨hlink, hfence⟩, hdom⟩, habs⟩, hgood⟩ := h
  have hmute : (s.port x.port).muted = false := by
    rw [Port.fenced, Bool.not_eq_true', Bool.or_eq_false_iff, Bool.not_eq_false', List.isEmpty_iff] at hfence
    rw [Port.muted, hfence.1, hfence.2]
    rfl
  rw [State.goesOnAt]
  rw [hlink, hmute, hdom, habs, hgood]
  rfl

theorem State.sendChain_open {x : Path} (hp : s.prog? sc = some p) (hx : p.path = some x) (hgo : s.goesOnAt x = true) (hin : x ∈ s.groupPaths (s.sub sc).group)
    (ht : s.turnOf sc x.port = true) : s.sendChain sc = s.openChainAs sc true := by
  unfold State.sendChain
  rw [hp, Option.bind_some, hx]
  dsimp only
  rw [hgo, List.contains_iff_mem.mpr hin, if_pos (by rfl), State.openChain, hp, Option.bind_some, hx]
  dsimp only
  rw [ht]

/-! #### Joining a step -/

/-- The part a step adds to its chain, with what was read ahead for it (R188). -/
def Prog.joined (p : Prog) (part : Part) : Ahead :=
  match p.aheadFor part with
  | some a => a
  | none => { part := { part with passage := p.passage } }

theorem Prog.joined_none {part : Part} (h : p.aheadFor part = none) : p.joined part = { part := { part with passage := p.passage } } := by
  rw [Prog.joined, h]

theorem Prog.joined_some {part : Part} {a : Ahead} (h : p.aheadFor part = some a) : p.joined part = a := by
  rw [Prog.joined, h]

/-- A part read ahead is the step's own but for when it was read. -/
theorem Prog.joined_part (part : Part) (h : part.passage = 0) : { (p.joined part).part with passage := 0 } = part := by
  cases ha : p.aheadFor part with
  | none =>
    rw [Prog.joined_none ha]
    exact (congrArg (fun n => { part with passage := n }) h.symm)
  | some a =>
    have hf := List.find?_some ha
    rw [beq_iff_eq] at hf
    rw [Prog.joined_some ha, ← hf]
    exact (congrArg (fun n => { part with passage := n }) h.symm)

def Chain.join (c : Chain) (a : Ahead) : Chain :=
  { c with
    parts := c.parts ++ [a.part]
    nextRead := if c.nextRead = c.total then c.total + a.asked else c.nextRead
    redo := c.redo ++ a.redo.map (fun x => (c.total + x.1, x.2))
    staged := a.staged.foldl (fun t x => tset t (c.total + x.1) x.2) c.staged
    landed := a.landed.foldl (fun t x => tset t (c.total + x.1) x.2) c.landed }

theorem State.joinPart_eq (hp : s.prog? sc = some p) (part : Part) : s.joinPart sc part =
    (s.modProg sc (fun p => { p with ahead := p.ahead.filter (fun x => x.part.step != part.step), passage := p.passage + 1 })).modChain sc (fun c => c.join (p.joined part)) := by
  rw [State.joinPart, hp]
  rfl

theorem State.joinPart_prog {c : Chain} (hp : s.prog? sc = some p) (hc : p.chain = some c) (part : Part) : (s.joinPart sc part).prog? sc =
    some { p with ahead := p.ahead.filter (fun x => x.part.step != part.step), passage := p.passage + 1, chain := some (c.join (p.joined part)) } := by
  have h1 := State.prog?_modProg_some (fun p => { p with ahead := p.ahead.filter (fun x => x.part.step != part.step), passage := p.passage + 1 }) hp
  rw [State.joinPart_eq hp, State.modChain, State.prog?_modProg_some _ h1]
  dsimp only
  rw [hc]
  rfl

theorem slotSince_modProg {d : DPort} (f : Prog → Prog) (hf : ∀ p, (f p).path = p.path ∧ (f p).phase = p.phase ∧ (f p).tagWait = p.tagWait) (b : Sub) :
    slotSince d { b with prog := b.prog.map f } = slotSince d b := by
  rw [slotSince, slotSince]
  cases b.prog with
  | none => rfl
  | some p =>
    obtain ⟨hpath, hphase, htag⟩ := hf p
    dsimp only [Option.map_some]
    rw [hpath, hphase, htag]

theorem State.turnOf_modProg {d : DPort} (f : Prog → Prog) (hf : ∀ p, (f p).path = p.path ∧ (f p).phase = p.phase ∧ (f p).tagWait = p.tagWait)
    (h : s.turnOf sc d = true) : (s.modProg sc f).turnOf sc d = true := State.turnOf_modSub _ (slotSince_modProg f hf _) h

/-! #### A head step -/

/-- The chain a head step begins (R144, R147, R149). -/
def headChain (o : Op) (p : Prog) (w : StepW) : Chain :=
  { op := w.op, input := o.isInput, output := !o.isInput && decide (0 < w.count), parts := [], whole := !w.flink, guard := w.fguard && !w.flink
    chain := w.fchain && !w.flink, post := w.fpost, last := p.flow, colAux := w.aux, col := none }

/-- The part of a head step that is neither indirect nor columnized. -/
def headPart (p : Prog) (w : StepW) : Part := { step := p.flow, count := w.count, skip := w.fskip, segs := partSegs w none }

/-- The program once its head step has begun its chain. -/
def State.headBegun (s : State) (sc : SC) (o : Op) (p : Prog) (w : StepW) : State :=
  (s.modProg sc (fun q => { q with chain := some (headChain o p w), seg := none })).joinPart sc (headPart p w)

theorem State.guardLook_none (step : W64) (h : w.fguard = false ∨ w.flink = true) : s.guardLook sc step w = (s, true) := by
  have hc : (w.fguard && !w.flink) = false := by
    rcases h with h | h
    · rw [h, Bool.false_and]
    · rw [h, Bool.not_true, Bool.and_false]
  rw [State.guardLook, hc]
  rfl

theorem State.headStep_plain (hcol : w.fcolumn = false) (hind : w.findir = false) (hg : w.fguard = false) : s.headStep sc p w =
    (match s.rangeBad p.start.tenant w none [] with
      | some n => s.addressCheck sc p.flow n
      | none => ((s.headBegun sc (opOf w.op) p w).pushOutput sc).sendChain sc) := by
  unfold State.headStep
  rw [hcol, hind, if_neg Bool.false_ne_true]
  dsimp only
  rw [Bool.not_true, if_neg Bool.false_ne_true, if_neg Bool.false_ne_true]
  dsimp only
  rw [Bool.not_true, if_neg Bool.false_ne_true, State.guardLook_none _ (.inl hg)]
  rfl

theorem State.rangeBad_plain (hcol : w.fcolumn = false) (t : Tenant) : s.rangeBad t w none [] =
    (if w.count = 0 ∨ w.fskip = true ∨ s.inWindows t w.addr w.count = true then none else some 2) := by
  unfold State.rangeBad
  rw [hcol]
  dsimp only
  by_cases h0 : w.count = 0
  · rw [decide_eq_true h0, if_pos (by rfl), if_pos (.inl h0)]
  · rw [decide_eq_false h0, Bool.false_or]
    cases hs : w.fskip with
    | true => rw [if_pos rfl, if_pos (.inr (.inl rfl))]
    | false =>
      rw [if_neg Bool.false_ne_true, if_neg Bool.false_ne_true]
      exact if_congr ⟨fun h => .inr (.inr h), fun h => (h.resolve_left h0).resolve_left Bool.false_ne_true⟩ rfl rfl

theorem partSegs_plain (hcol : w.fcolumn = false) : partSegs w none = if w.fskip || w.count = 0 then [] else [(w.addr, w.count)] := by
  unfold partSegs
  rw [hcol, Bool.or_false]

theorem State.headBegun_prog (hp : s.prog? sc = some p) : (s.headBegun sc o p w).prog? sc =
    some { p with chain := some ((headChain o p w).join (p.joined (headPart p w))), seg := none, ahead := p.ahead.filter (fun x => x.part.step != p.flow), passage := p.passage + 1 } :=
  State.joinPart_prog (State.prog?_modProg_some _ hp) rfl _

theorem State.headBegun_facts (hp : s.prog? sc = some p) : (∀ d, s.turnOf sc d = true → (s.headBegun sc o p w).turnOf sc d = true) ∧
    { (s.headBegun sc o p w).sub sc with prog := none } = { s.sub sc with prog := none } ∧ { s.headBegun sc o p w with prog := s.prog } = s := by
  have h1 := State.prog?_modProg_some (fun q => { q with chain := some (headChain o p w), seg := none }) hp
  rw [State.headBegun, State.joinPart_eq h1]
  refine ⟨fun d h => ?_, ?_, rfl⟩
  · exact State.turnOf_modProg _ (fun _ => ⟨rfl, rfl, rfl⟩) (State.turnOf_modProg _ (fun _ => ⟨rfl, rfl, rfl⟩) (State.turnOf_modProg _ (fun _ => ⟨rfl, rfl, rfl⟩) h))
  · rw [State.modChain, State.modProg, State.sub_modSub, State.modProg, State.sub_modSub, State.modProg, State.sub_modSub]

end
end Sys2Proof.Machine

namespace Sys2Proof.Machine
open Sys2Proof

section
variable {s : State} {sc : SC} {p : Prog} {w : StepW} {o : Op}

/-- The command of a device step (R142). -/
def deviceInstr (o : Op) (sc : SC) (e : Ecc) : Instr :=
  match o with
  | .read => .readStep sc e
  | .write => .writeStep sc e
  | .sense => .senseStep sc e
  | _ => .controlStep sc e

theorem exec_deviceInstr (hd : o.isDevice = true) (e : Ecc) : exec (deviceInstr o sc e) s = .next (s.carryOut sc e (· == o) (fun s p w => s.headStep sc p w)).settle := by
  cases o with
  | read => rfl
  | write => rfl
  | sense => rfl
  | control => rfl
  | _ => exact nomatch hd

theorem stepStands.device (h : stepStands s sc o p w) (hd : o.isDevice = true) : exec (deviceInstr o sc .good) s = .next (s.headStep sc p w).settle := by
  obtain ⟨-, hop, -, -, -, -⟩ := id h
  rw [exec_deviceInstr hd, h.carryOut (want := (· == o)) (beq_self_eq_true o)]

theorem State.headStep_outside (hcol : w.fcolumn = false) (hind : w.findir = false) (hg : w.fguard = false) (h0 : w.count ≠ 0) (hs : w.fskip = false)
    (hin : s.inWindows p.start.tenant w.addr w.count = false) :
    s.headStep sc p w = (s.seqException sc).endProgram sc { code := 0x13, reason := 2, step := some p.flow } 2 := by
  rw [State.headStep_plain hcol hind hg, State.rangeBad_plain hcol, hs, hin, if_neg (by rintro (h | h | h); exacts [h0 h, Bool.false_ne_true h, Bool.false_ne_true h])]
  rfl

/-- A begun chain whose output was read ahead as far as allowed. -/
def State.headPushed (s : State) (sc : SC) (o : Op) (p : Prog) (w : StepW) : State := (s.headBegun sc o p w).pushOutput sc

/-- The program of a begun chain. -/
def begunHead (o : Op) (p : Prog) (w : StepW) : Prog :=
  { p with chain := some ((headChain o p w).join (p.joined (headPart p w))), seg := none, ahead := p.ahead.filter (fun x => x.part.step != p.flow), passage := p.passage + 1 }

theorem State.headPushed_asks (hp : s.prog? sc = some p) : asksOnly sc (s.headBegun sc o p w) (s.headPushed sc o p w) :=
  (State.pushOutput_untagged (State.headBegun_prog hp) rfl rfl).2

theorem State.headPushed_frame (hp : s.prog? sc = some p) :
    { s.headPushed sc o p w with prog := s.prog, data := s.data, faults := s.faults, hosts := s.hosts, out := s.out } = s := by
  obtain ⟨-, -, -, hrest⟩ := State.headPushed_asks (o := o) (w := w) hp
  obtain ⟨-, -, hbrest⟩ := State.headBegun_facts (o := o) (w := w) hp
  generalize s.headPushed sc o p w = u at hrest
  generalize s.headBegun sc o p w = b at hrest hbrest
  have h1 : { u with prog := s.prog, data := s.data, faults := s.faults, hosts := s.hosts, out := s.out } =
      { b with prog := s.prog, data := s.data, faults := s.faults, hosts := s.hosts, out := s.out } := by
    rw [← hrest]
  rw [h1]
  exact congrArg (fun v : State => { v with data := s.data, faults := s.faults, hosts := s.hosts, out := s.out }) hbrest

theorem State.headPushed_sub (hp : s.prog? sc = some p) :
    { (s.headPushed sc o p w).sub sc with prog := none, closing := [] } = { s.sub sc with prog := none, closing := [] } := by
  obtain ⟨-, husub, -, -⟩ := State.headPushed_asks (o := o) (w := w) hp
  obtain ⟨-, hbsub, -⟩ := State.headBegun_facts (o := o) (w := w) hp
  exact husub.trans (congrArg (fun b : Sub => { b with closing := [] }) hbsub)

theorem State.headPushed_turn (hp : s.prog? sc = some p) {d : DPort} (h : s.turnOf sc d = true) : (s.headPushed sc o p w).turnOf sc d = true := by
  obtain ⟨-, -, hturn, -⟩ := State.headPushed_asks (o := o) (w := w) hp
  obtain ⟨hbturn, -, -⟩ := State.headBegun_facts (o := o) (w := w) hp
  exact hturn _ (hbturn _ h)

theorem State.headPushed_prog (hp : s.prog? sc = some p) : ∃ q c, (s.headPushed sc o p w).prog? sc = some q ∧ q.chain = some c ∧ q.calm = (begunHead o p w).calm ∧
    c.calm = ((headChain o p w).join (p.joined (headPart p w))).calm := (State.headPushed_asks hp).chain (State.headBegun_prog hp) rfl

/-- A state with only the inner parts of another changed lets the same paths go on. -/
theorem State.sendChain_opens {u : State} {q : Prog} {c : Chain} {x : Path} {g : Nat}
    (hrest : { u with prog := s.prog, data := s.data, faults := s.faults, hosts := s.hosts, out := s.out } = s)
    (hgroup : (u.sub sc).group = (s.sub sc).group) (hq : u.prog? sc = some q) (hc : q.chain = some c) (hqpath : q.path = some x) (hctag : c.tag = none) (hccol : c.col = none)
    (hu : s.usable x = true) (hin : x ∈ s.groupPaths (s.sub sc).group) (hfog : s.foggy = false) (hturn : u.turnOf sc x.port = true)
    (hhead : (s.port x.port).headTag = some g) : u.sendChain sc = (u.exchOpened sc x g c).pushOutput sc := by
  have hport : u.port = s.port := (congrArg State.port hrest :)
  have hgo : u.goesOnAt x = true := (congrArg (fun v : State => v.goesOnAt x) hrest :).trans (State.goesOnAt_of_usable hu)
  have hpaths : u.groupPaths (s.sub sc).group = s.groupPaths (s.sub sc).group := (congrArg (fun v : State => v.groupPaths (s.sub sc).group) hrest :)
  have hfog' : u.foggy = false := (congrArg State.foggy hrest :).trans hfog
  rw [State.sendChain_open hq hqpath hgo (by rw [hgroup, hpaths]; exact hin) hturn, State.openChainAs_now hq hc hqpath hctag hccol hfog' (by rw [hport]; exact hhead)]

/-- What a device step that passes its checks does: it begins its chain and opens its exchange (R231, R268). -/
theorem stepStands.opens (h : stepStands s sc o p w) (hg : w.fguard = false) {x : Path} {g : Nat} (hcol : w.fcolumn = false) (hind : w.findir = false)
    (hwin : w.count = 0 ∨ w.fskip = true ∨ s.inWindows p.start.tenant w.addr w.count = true) (hx : p.path = some x) (hu : s.usable x = true)
    (hin : x ∈ s.groupPaths (s.sub sc).group) (hfog : s.foggy = false) (hturn : s.turnOf sc x.port = true) (hhead : (s.port x.port).headTag = some g)
    {q : Prog} {c : Chain} (hq : (s.headPushed sc o p w).prog? sc = some q) (hc : q.chain = some c) (hqc : q.calm = (begunHead o p w).calm)
    (hcc : c.calm = ((headChain o p w).join (p.joined (headPart p w))).calm) :
    s.headStep sc p w = ((s.headPushed sc o p w).exchOpened sc x g c).pushOutput sc := by
  obtain ⟨-, hop, -, -, -, -⟩ := id h
  have hp := h.prog
  have hqpath : q.path = some x := (congrArg Prog.path hqc).trans hx
  rw [State.headStep_plain hcol hind hg, State.rangeBad_plain hcol, if_pos hwin, hop]
  have hsub := State.headPushed_sub (o := o) (w := w) hp
  have hframe := State.headPushed_frame (o := o) (w := w) hp
  have hturn' := State.headPushed_turn (o := o) (w := w) hp hturn
  show (s.headPushed sc o p w).sendChain sc = _
  generalize s.headPushed sc o p w = u at hq hsub hframe hturn' ⊢
  have hgroup : (u.sub sc).group = (s.sub sc).group := (congrArg Sub.group hsub :)
  have htag : c.tag = none := congrArg Chain.tag hcc
  have hccol : c.col = none := congrArg Chain.col hcc
  exact State.sendChain_opens hframe hgroup hq hc hqpath htag hccol hu hin hfog hturn' hhead

/-- With no page waiting, no report and none closing, a head step sends nothing before its exchange is opened. -/
theorem stepStands.opens_quietly (h : stepStands s sc o p w) (hpg : p.pages = []) (hr : p.reports = []) (hcl : (s.sub sc).closing = []) :
    (s.headPushed sc o p w).out = s.out := by
  obtain ⟨hp, hph, -, hpw, -⟩ := State.stepDue_prog h.1
  have hb := State.headBegun_prog (o := o) (w := w) hp
  obtain ⟨-, hbsub, hbrest⟩ := State.headBegun_facts (o := o) (w := w) hp
  obtain ⟨heq, -⟩ := State.pushOutput_untagged hb rfl rfl
  have hinner : innerOnly sc (s.headBegun sc o p w) (State.readOutput 1024 (((s.headBegun sc o p w).planAhead sc).redoOutput sc) sc) :=
    (innerOnly_planAhead.trans innerOnly_redoOutput).trans (innerOnly_readOutput 1024 _)
  have hasks : asksOnly sc (s.headBegun sc o p w) (State.readOutput 1024 (((s.headBegun sc o p w).planAhead sc).redoOutput sc) sc) :=
    (asksOnly_planAhead.trans asksOnly_redoOutput).trans (asksOnly_readOutput 1024 _)
  obtain ⟨q, k, hq, hk, hqc, -⟩ := hasks.chain hb rfl
  have hclosing : ((State.readOutput 1024 (((s.headBegun sc o p w).planAhead sc).redoOutput sc) sc).sub sc).closing = [] :=
    hinner.2.trans ((congrArg Sub.closing hbsub :).trans hcl)
  rw [State.headPushed, heq]
  generalize State.readOutput 1024 (((s.headBegun sc o p w).planAhead sc).redoOutput sc) sc = u at hinner hq hclosing
  generalize s.headBegun sc o p w = b at hbrest hinner
  have hph' : q.phase = .running := (congrArg Prog.phase hqc :).trans hph
  have hpw' : q.postWait = false := (congrArg Prog.postWait hqc :).trans hpw
  have hr' : q.reports = [] := (congrArg Prog.reports hqc :).trans hr
  have hpg' : q.pages = [] := (congrArg Prog.pages hqc :).trans hpg
  have hout : b.out = s.out := (congrArg State.out hbrest :)
  rw [State.rbKick_none hq hclosing (rbTarget_none hph' hpw' hr' hpg'), ← hout]
  exact (congrArg State.out hinner.1 :)

/-- The exchange, its COMMAND and the program and chain once a device step has opened it. -/
theorem stepStands.opened (h : stepStands s sc o p w) (hcol : w.fcolumn = false) {x : Path} {g : Nat} (hhead : (s.port x.port).headTag = some g)
    {q : Prog} {c : Chain} (hq : (s.headPushed sc o p w).prog? sc = some q) (hc : q.chain = some c) (hqc : q.calm = (begunHead o p w).calm)
    (hcc : c.calm = ((headChain o p w).join (p.joined (headPart p w))).calm) :
    let v := (s.headPushed sc o p w).exchOpened sc x g c
    let e : Exch := { owner := .prog sc, gen := (s.port x.port).nextGen g, cuaddr := x.addr, devaddr := (s.sub sc).devaddr, input := o.isInput
                      output := !o.isInput && decide (0 < w.count) }
    tfind (v.port x.port).exch g = some e ∧
    (v.port x.port).ctrlQ = (s.port x.port).ctrlQ ++ [⟨exchFrame { blank 1 with body := padTo 12 [w.op] } (BitVec.ofNat 12 g) e, some (BitVec.ofNat 12 g), []⟩] ∧
    (∀ y, y ≠ x.port → v.port y = s.port y) ∧ v.queues = s.queues ∧ v.out = (s.headPushed sc o p w).out ∧
    v.prog? sc = some { q with tagWait := none, chain := some { c with tag := some (BitVec.ofNat 12 g) } } := by
  have hp := h.prog
  have hframe := State.headPushed_frame (o := o) (w := w) hp
  have hsub := State.headPushed_sub (o := o) (w := w) hp
  have hin : c.input = o.isInput := congrArg Chain.input hcc
  have hop : c.op = w.op := congrArg Chain.op hcc
  have hout : c.output = (!o.isInput && decide (0 < w.count)) := congrArg Chain.output hcc
  generalize s.headPushed sc o p w = u at hq hframe hsub ⊢
  have hport : u.port = s.port := (congrArg State.port hframe :)
  have hqueues : u.queues = s.queues := (congrArg State.queues hframe :)
  have hdev : (u.sub sc).devaddr = (s.sub sc).devaddr := (congrArg Sub.devaddr hsub :)
  have hfacts := State.openExch_facts (s := u) (d := x.port) (g := g) (by rw [hport]; exact hhead) (.prog sc) x.addr (u.sub sc).devaddr c.input c.output c.op
  intro v e
  have hv : v = (u.openExch x.port (.prog sc) x.addr (u.sub sc).devaddr c.input c.output false c.op).1.modProg sc
    (fun p => { p with tagWait := none, chain := p.chain.map (fun c => { c with tag := some (BitVec.ofNat 12 g) }) }) := rfl
  clear_value v
  generalize (u.openExch x.port (.prog sc) x.addr (u.sub sc).devaddr c.input c.output false c.op).1 = t at hfacts hv
  obtain ⟨hexch, hctrl, hother, htq, hto, htp⟩ := hfacts
  rw [hport, hdev, hin, hout] at hexch
  rw [hport, hdev, hin, hout, hop] at hctrl
  have htprog : t.prog? sc = some q := (congrArg Sub.prog (State.sub_congr htp sc)).trans hq
  subst hv
  refine ⟨hexch, hctrl, fun y hy => (hother y hy).trans (congrFun hport y), htq.trans hqueues, hto, ?_⟩
  rw [State.prog?_modProg_some _ htprog, hc]
  rfl

/-- A program that agrees with another but for what reading output changes. -/
theorem Prog.eq_of_calm {q r : Prog} (h : q.calm = r.calm) : q = { r with chain := q.chain, ahead := q.ahead, passage := q.passage, rb := q.rb } :=
  (congrArg (fun x : Prog => { x with chain := q.chain, ahead := q.ahead, passage := q.passage, rb := q.rb }) h :)

theorem headPart_plain (hcol : w.fcolumn = false) : headPart p w = ⟨p.flow, w.count, w.fskip, if w.fskip || w.count = 0 then [] else [(w.addr, w.count)], 0⟩ := by
  rw [headPart, partSegs_plain hcol]

/-! #### Segment lists and column maps are read -/

/-- A read that is one request is sent at once where a tag is free (R46, R245). -/
theorem State.sendRead_one_out {h : HPort} {pasid : Option (BitVec 20)} {a : W64} {n : Nat} {key : ReadKey} {b k : Nat} (hr : readRange key a.toNat n = (b, k))
    (h0 : 0 < k) (hm : k ≤ (s.host h).mrrs) (hp : b % 4096 + k ≤ 4096) (ht : 0 < (s.host h).tagsFree) :
    (s.sendRead h pasid a n key).out = .hostRead h pasid (BitVec.ofNat 64 b) k key :: s.out := by
  have hcuts : s.readTlps h key [(a, n)] = [(b, k)] := by
    rw [State.readTlps, List.flatMap_singleton, hr]
    dsimp only
    rw [readCuts, show min (min k (s.host h).mrrs) (4096 - b % 4096) = k by omega, if_neg (by omega), Nat.sub_self, readCuts, if_pos rfl]
  rw [State.sendRead, State.sendReads, if_pos ht, State.issueRead, hcuts]
  rfl

theorem State.sendRead_one {h : HPort} {pasid : Option (BitVec 20)} {a : W64} {n : Nat} {key : ReadKey} {b m : Nat} (hr : readRange key a.toNat n = (b, m))
    (h0 : 0 < m) (hm : m ≤ (s.host h).mrrs) (hp : b % 4096 + m ≤ 4096) (ht : 0 < (s.host h).tagsFree) :
    Out.hostRead h pasid (BitVec.ofNat 64 b) m key ∈ (s.sendRead h pasid a n key).out := by
  rw [State.sendRead_one_out hr h0 hm hp ht]
  exact List.mem_cons_self

theorem State.segments_asks {win : Window} (hp : s.prog? sc = some p) (hseg : p.seg = none) (hw : s.listWindow p.start.tenant w.addr = some win)
    (hin : inWindow w.addr 16 win = true) (hm : s.vfMaster p.start.tenant = true) : s.segments sc p.flow w =
      (((s.modProg sc (fun q => { q with seg := some { step := p.flow, addr := w.addr } })).modProg sc
        (fun q => { q with seg := some { step := p.flow, addr := w.addr, asked := true } })).sendRead (hostOf p.start.tenant) (s.pasidOf p.start.tenant)
          (BitVec.ofNat 64 w.addr) 16 (.segments sc), none) := by
  have h1 := State.prog?_modProg_some (fun q => { q with seg := some { step := p.flow, addr := w.addr } }) hp
  have h2 := State.prog?_modProg_some (fun q => { q with seg := some { step := p.flow, addr := w.addr, asked := true } }) h1
  have hnext : (s.modProg sc (fun q => { q with seg := some { step := p.flow, addr := w.addr } })).segNext sc w.addr =
      ((s.modProg sc (fun q => { q with seg := some { step := p.flow, addr := w.addr } })).modProg sc
        (fun q => { q with seg := some { step := p.flow, addr := w.addr, asked := true } })).sendRead (hostOf p.start.tenant) (s.pasidOf p.start.tenant)
          (BitVec.ofNat 64 w.addr) 16 (.segments sc) := by
    rw [State.segNext, h1]
    dsimp only
    rw [show (s.modProg sc (fun q => { q with seg := some { step := p.flow, addr := w.addr } })).listWindow p.start.tenant w.addr = some win from hw]
    dsimp only
    refine (if_neg (by simp)).trans ((if_neg (by rw [hin]; simp)).trans ((if_pos hm).trans rfl))
  have hprog : (((s.modProg sc (fun q => { q with seg := some { step := p.flow, addr := w.addr } })).modProg sc
        (fun q => { q with seg := some { step := p.flow, addr := w.addr, asked := true } })).sendRead (hostOf p.start.tenant) (s.pasidOf p.start.tenant)
          (BitVec.ofNat 64 w.addr) 16 (.segments sc)).prog? sc = some { p with seg := some { step := p.flow, addr := w.addr, asked := true } } :=
    (congrArg Sub.prog (State.sub_congr (State.sendRead_prog _ _ _ _ _ _) sc)).trans h2
  rw [State.segments, hp, Option.bind_some, hseg]
  dsimp only
  rw [hnext, hprog]
  rfl

theorem addr_aligned (h : earlyCheck w = none) (hd : (opOf w.op).isDevice = true) (hi : w.findir = true) : w.addr % 16 = 0 := by
  have haddr : addrBad (opOf w.op) w = false := by
    unfold earlyCheck at h
    dsimp only at h
    by_contra hb
    rw [Bool.not_eq_false] at hb
    rw [hb] at h
    split at h
    · exact nomatch h
    · split at h
      · exact nomatch h
      · split at h
        · exact nomatch h
        · split at h
          · exact nomatch h
          · split at h
            · exact nomatch h
            · exact nomatch h
  have hfin : (w.findir && w.addr % 16 != 0) = false → w.addr % 16 = 0 := by
    intro he
    rw [hi, Bool.true_and, bne_eq_false_iff_eq] at he
    exact he
  cases ho : opOf w.op with
  | read => rw [ho] at haddr; exact hfin haddr
  | write => rw [ho] at haddr; exact hfin haddr
  | sense => rw [ho] at haddr; exact hfin haddr
  | control =>
    rw [ho] at haddr
    unfold addrBad at haddr
    dsimp only at haddr
    split at haddr
    · rw [bne_eq_false_iff_eq.mp haddr]
    · exact hfin haddr
  | _ => rw [ho] at hd; exact nomatch hd

theorem State.columnMap_asks {b : Binding} (hb : (s.tenant p.start.tenant).binding = some b) (hn : w.aux.toNat < b.nmaps) (hmap : p.map = none) (hask : p.mapAsked = false)
    (hm : s.vfMaster p.start.tenant = true) : s.columnMap sc p w = ((s.modProg sc (fun p => { p with mapAsked := true })).sendRead (hostOf p.start.tenant)
      (s.pasidOf p.start.tenant) (b.cmbase + BitVec.ofNat 64 (1024 * w.aux.toNat)) 0x240 (.columnMap sc), none) := by
  rw [State.columnMap, hb]
  dsimp only
  rw [if_neg (by omega), hmap]
  dsimp only
  rw [hask, hm]
  rfl

theorem State.columnMap_beyond {b : Binding} (hb : (s.tenant p.start.tenant).binding = some b) (hn : b.nmaps ≤ w.aux.toNat) :
    s.columnMap sc p w = (s.stepCheck sc p.flow 6, none) := by
  rw [State.columnMap, hb]
  exact if_pos hn

theorem State.headStep_column {v : State} (hcol : w.fcolumn = true) (hm : s.columnMap sc p w = (v, none)) : s.headStep sc p w = v := by
  unfold State.headStep
  rw [hcol, if_pos rfl, hm]
  rfl

theorem State.headStep_list {v : State} (hcol : w.fcolumn = false) (hind : w.findir = true) (hm : s.segments sc p.flow w = (v, none)) : s.headStep sc p w = v := by
  unfold State.headStep
  rw [hcol, if_neg Bool.false_ne_true]
  dsimp only
  rw [Bool.not_true, if_neg Bool.false_ne_true, if_pos hind, hm]
  rfl

theorem mapRead_range {b : W64} {n : Nat} {sc : SC} (hb : b.toNat % 4096 = 0) : readRange (.columnMap sc) (b + BitVec.ofNat 64 (1024 * n)).toNat 0x240 =
      ((b + BitVec.ofNat 64 (1024 * n)).toNat, 0x240) ∧ (b + BitVec.ofNat 64 (1024 * n)).toNat % 4096 + 0x240 ≤ 4096 := by
  have ha : (b + BitVec.ofNat 64 (1024 * n)).toNat % 1024 = 0 := by
    rw [BitVec.toNat_add, BitVec.toNat_ofNat]
    omega
  generalize (b + BitVec.ofNat 64 (1024 * n)).toNat = a at ha
  refine ⟨?_, by omega⟩
  show (a / 64 * 64, (a + 576 + 63) / 64 * 64 - a / 64 * 64) = (a, 576)
  rw [Prod.mk.injEq]
  omega

theorem listRead_range {a : Nat} {sc : SC} (ha : a % 16 = 0) : readRange (.segments sc) (BitVec.ofNat 64 a).toNat 16 = ((BitVec.ofNat 64 a).toNat / 64 * 64, 64) ∧
    BitVec.ofNat 64 ((BitVec.ofNat 64 a).toNat / 64 * 64) = BitVec.ofNat 64 (a / 64 * 64) ∧ (BitVec.ofNat 64 a).toNat / 64 * 64 % 4096 + 64 ≤ 4096 := by
  have ht : (BitVec.ofNat 64 a).toNat = a % 2 ^ 64 := BitVec.toNat_ofNat _ _
  rw [ht]
  refine ⟨?_, ?_, by omega⟩
  · show (a % 2 ^ 64 / 64 * 64, (a % 2 ^ 64 + 16 + 63) / 64 * 64 - a % 2 ^ 64 / 64 * 64) = (a % 2 ^ 64 / 64 * 64, 64)
    rw [Prod.mk.injEq]
    omega
  · apply BitVec.eq_of_toNat_eq
    rw [BitVec.toNat_ofNat, BitVec.toNat_ofNat]
    omega

end
end Sys2Proof.Machine

namespace Sys2Proof.Machine
open Sys2Proof

section
variable {s : State} {sc : SC} {p : Prog} {w : StepW} {o : Op}

/-! #### Steps that fail a check -/

theorem carryOut_early (hdue : s.stepDue sc = some (p, w)) (hop : opOf w.op = o) (hh : holdsHere p w = false) (hg : p.guarded = none) (hs : stepSound s sc p.flow)
    {f : Failed} (hf : earlyCheck w = some f) (k : State → Prog → StepW → State) : s.carryOut sc .good (· == o) k = s.failStep sc p.flow f := by
  unfold State.carryOut
  rw [hdue]
  dsimp only
  rw [hop, if_neg (by simp [hh]), State.stepEcc_good hs]
  dsimp only
  rw [if_neg (by simp), hg]
  dsimp only
  rw [hf]

theorem deviceInstr_fails (hd : o.isDevice = true) (hdue : s.stepDue sc = some (p, w)) (hop : opOf w.op = o) (hh : holdsHere p w = false) (hg : p.guarded = none)
    (hs : stepSound s sc p.flow) :
    (∀ n, earlyCheck w = some (.check n) →
      exec (deviceInstr o sc .good) s = .next ((s.seqException sc).endProgram sc { code := 0x11, reason := BitVec.ofNat 8 n, step := some p.flow } 2).settle) ∧
    (earlyCheck w = some .zero → exec (deviceInstr o sc .good) s = .next ((s.seqException sc).endProgram sc { code := 0x12, step := some p.flow } 2).settle) :=
  ⟨fun n hf => by rw [exec_deviceInstr hd, carryOut_early hdue hop hh hg hs hf]; rfl,
    fun hf => by rw [exec_deviceInstr hd, carryOut_early hdue hop hh hg hs hf]; rfl⟩

theorem State.eccEvent_poison (site : W32) : (s.eccEvent site .poison).data.poisRd = satInc s.data.poisRd ∧ (s.eccEvent site .poison).prog = s.prog :=
  ⟨congrArg (fun d => d.poisRd) (State.logFault_data (s.onData (fun d => { d with poisRd := satInc d.poisRd })) 2 site whoNone 0), State.logFault_prog _ 2 site whoNone 0⟩

theorem State.granuleSite_eccEvent (site : W32) (g : Nat) : (s.eccEvent site .poison).granuleSite g = s.granuleSite g := by
  have hlist : (s.eccEvent site .poison).list = s.list := State.logFault_list _ 2 site whoNone 0
  unfold State.granuleSite State.granulePc State.hashKey
  rw [hlist]

theorem earlyContCheck_count {b c : Bool} (h : earlyContCheck b c w = none) : w.count ≠ 0 := by
  intro h0
  unfold earlyContCheck at h
  dsimp only at h
  rw [h0, if_pos rfl] at h
  split at h <;> exact nomatch h

theorem carryOut_poison (hdue : s.stepDue sc = some (p, w)) (hop : opOf w.op = o) (hh : holdsHere p w = false) (k : State → Prog → StepW → State) :
    s.carryOut sc .poison (· == o) k = ((s.eccEvent (s.granuleSite (s.stepGranule sc p.flow)) .poison).seqException sc).endIntegrity sc 6 (some p.flow)
      (s.granuleSite (s.stepGranule sc p.flow)) := by
  unfold State.carryOut State.stepEcc
  rw [hdue]
  dsimp only
  have hsite := State.granuleSite_eccEvent (s := s) (s.granuleSite (s.stepGranule sc p.flow)) (s.stepGranule sc p.flow)
  rw [hop, if_neg (by simp [hh]), show withPoison .poison (s.poisoned (s.stepGranule sc p.flow)) = .poison from rfl, hsite]
  generalize s.granuleSite (s.stepGranule sc p.flow) = site
  rw [if_pos (show eccBad .poison = true from rfl), show eccReason .poison = 6 from rfl]
  exact if_pos rfl

/-! #### Continuation steps -/

/-- The part of a continuation step. -/
def contPart (a : W64) (w : StepW) : Part := { step := a, count := w.count, skip := w.fskip, segs := if w.fskip || w.count = 0 then [] else [(w.addr, w.count)] }

/-- The chain once a continuation step joined it (R147). -/
def contChain (c : Chain) (p : Prog) (a : W64) (w : StepW) : Chain :=
  { c.join (p.joined (contPart a w)) with
    whole := !w.flink, guard := w.fguard && !w.flink, chain := w.fchain && !w.flink, post := c.post || w.fpost, last := a }

/-- The program once a continuation step joined its chain. -/
def State.contJoined (s : State) (sc : SC) (a : W64) (w : StepW) : State :=
  ((s.modProg sc (fun p => { p with seg := none })).joinPart sc (contPart a w)).modChain sc (fun c => { c with
    whole := !w.flink, guard := w.fguard && !w.flink, chain := w.fchain && !w.flink, post := c.post || w.fpost, last := a })

theorem State.contStep_plain {c : Chain} {a : W64} (hearly : earlyContCheck c.input c.col.isSome w = none) (hcc : c.col = none) (hcol : w.fcolumn = false)
    (hind : w.findir = false) (hg : w.fguard = false ∨ w.flink = true) : s.contStep sc p c a w = (match s.rangeBad p.start.tenant w none [] with
      | some n => s.addressCheck sc a n
      | none => (((s.contJoined sc a w).route 1024 sc).pushOutput sc).chainOn sc) := by
  unfold State.contStep
  rw [hearly]
  dsimp only
  rw [hcc, hcol, hind, Bool.false_and, Bool.false_and, if_neg Bool.false_ne_true, if_neg Bool.false_ne_true]
  dsimp only
  rw [Bool.not_true, if_neg Bool.false_ne_true, State.guardLook_none _ hg]
  dsimp only
  rw [Bool.not_true, if_neg Bool.false_ne_true, if_neg (by simp), State.extendChain, State.contJoined, contPart, partSegs_plain hcol] <;> rfl

theorem State.contJoined_facts {c : Chain} {a : W64} (hp : s.prog? sc = some p) (hc : p.chain = some c) : onlySub sc s (s.contJoined sc a w) ∧
    (s.contJoined sc a w).prog? sc = some { p with
      seg := none, chain := some (contChain c p a w), ahead := p.ahead.filter (fun x => x.part.step != a), passage := p.passage + 1 } := by
  have h1 := State.prog?_modProg_some (fun p => { p with seg := none }) hp
  have h2 := State.joinPart_prog h1 hc (contPart a w)
  have honly : onlySub sc (s.modProg sc (fun p => { p with seg := none })) ((s.modProg sc (fun p => { p with seg := none })).joinPart sc (contPart a w)) := by
    rw [State.joinPart_eq h1]
    exact (State.onlySub_modProg sc _).trans (State.onlySub_modProg sc _)
  refine ⟨((State.onlySub_modProg sc _).trans honly).trans (State.onlySub_modProg sc _), ?_⟩
  rw [State.contJoined, State.modChain, State.prog?_modProg_some _ h2]
  rfl

theorem contChain_none {c : Chain} {a : W64} (h : p.aheadFor (contPart a w) = none) : (contChain c p a w).parts = c.parts ++ [{ contPart a w with passage := p.passage }] ∧
    (contChain c p a w).nextRead = c.nextRead ∧ (contChain c p a w).redo = c.redo ∧ (contChain c p a w).staged = c.staged ∧ (contChain c p a w).landed = c.landed := by
  rw [contChain, Prog.joined_none h]
  refine ⟨rfl, ?_, List.append_nil _, rfl, rfl⟩
  show (if c.nextRead = c.total then c.total + 0 else c.nextRead) = c.nextRead
  split
  · next he => exact he.symm
  · rfl

theorem contChain_some {c : Chain} {a : W64} {x : Ahead} (h : p.aheadFor (contPart a w) = some x) : (contChain c p a w).parts = c.parts ++ [x.part] := by
  rw [contChain, Prog.joined_some h]
  rfl

theorem contChain_eq {c : Chain} {a : W64} (hg : w.fguard = false ∨ w.flink = true) : contChain c p a w = { c with
    parts := (contChain c p a w).parts, nextRead := (contChain c p a w).nextRead, redo := (contChain c p a w).redo, staged := (contChain c p a w).staged
    landed := (contChain c p a w).landed, whole := !w.flink, guard := false, chain := w.fchain && !w.flink, post := c.post || w.fpost, last := a } := by
  have hguard : (contChain c p a w).guard = false := by
    show (w.fguard && !w.flink) = false
    rcases hg with h | h
    · rw [h, Bool.false_and]
    · rw [h, Bool.not_true, Bool.and_false]
  rw [← hguard]
  rfl

/-! #### Columnizer engines -/

theorem State.claimEngine_free {d : Die} {e : Nat} {rest : List Nat} (hw : (s.pool d).waiting = sc.toNat :: rest)
    (hh : (s.pool d).holders.any (fun h => h.2 == sc.toNat) = false)
    (hother : (s.data.pools.any (fun k => k.1 != d.val && (k.2.holders.any (fun h => h.2 == sc.toNat) || k.2.waiting.contains sc.toNat))) = false)
    (he : (List.range 8).find? (fun e => (tfind (s.pool d).holders e).isNone && !(s.pool d).retired.contains e && !(s.pool d).testing.contains e) = some e) :
    (s.claimEngine sc d).2 = true ∧ tfind ((s.claimEngine sc d).1.pool d).holders e = some sc.toNat ∧ sc.toNat ∉ ((s.claimEngine sc d).1.pool d).waiting := by
  have hholds : ∀ k : ColPool, k.holders.any (fun h => h.2 == sc.toNat) = false → k.holders.any (k.holds sc) = false := by
    intro k hk
    rw [List.any_eq_false] at hk ⊢
    intro x hx
    rw [ColPool.holds, Bool.not_eq_true]
    rw [(Bool.not_eq_true _).mp (hk x hx), Bool.false_and]
  have hmine : (s.data.pools.any (fun k => k.1 != d.val && (k.2.holders.any (k.2.holds sc) || k.2.waiting.contains sc.toNat))) = false := by
    rw [List.any_eq_false] at hother ⊢
    intro k hk hc
    rw [Bool.and_eq_true, Bool.or_eq_true] at hc
    obtain ⟨hd, hc⟩ := hc
    refine hother k hk ?_
    rw [Bool.and_eq_true, Bool.or_eq_true]
    refine ⟨hd, hc.imp_left (fun h => ?_)⟩
    by_contra hn
    rw [hholds k.2 ((Bool.not_eq_true _).mp hn)] at h
    exact Bool.false_ne_true h
  have heq : s.claimEngine sc d = ((s.modPool d (fun k => { k with holders := tset k.holders e sc.toNat, waiting := k.waiting.filter (fun w => w != sc.toNat) })).modChain sc
      (fun c => { c with col := c.col.map (fun x => { x with engine := e }) }), true) := by
    unfold State.claimEngine
    dsimp only
    rw [hmine, if_neg Bool.false_ne_true, hholds _ hh, if_neg Bool.false_ne_true, he]
    dsimp only
    rw [hw, if_pos (by simp)]
  have hpool : (s.claimEngine sc d).1.pool d = { s.pool d with holders := tset (s.pool d).holders e sc.toNat, waiting := (s.pool d).waiting.filter (fun w => w != sc.toNat) } := by
    rw [heq]
    exact s.pool_modPool d _
  refine ⟨by rw [heq], by rw [hpool]; exact tfind_tset_same _ _ _, ?_⟩
  rw [hpool]
  intro hm
  have := (List.mem_filter.mp hm).2
  rw [bne_self_eq_false] at this
  exact Bool.false_ne_true this

end

/-- Settles O52. -/
theorem deviceSteps : Obligations.DeviceSteps := by
  unfold Obligations.DeviceSteps
  refine ⟨fun sc o p w s h hd hg => ?_, fun sc p w s hdue hh hgd => ?_, fun sc p c a w s hdue hearly hs hcc hcol hind hg => ?_,
    fun d n rest s => ⟨fun hw => congrArg Host.Outcome.next ?_, fun hw => congrArg Host.Outcome.next ?_, fun sc e hw hh hother he => State.claimEngine_free hw hh hother he⟩⟩
  · intro i input
    have hi : i = deviceInstr o sc .good := by
      cases o <;> rfl
    have hdo := h.device hd
    have hp := h.prog
    rw [hi]
    refine ⟨fun x g hcol hind hwin hx hu hin hfog hturn hhead hg4 => ?_, fun hcol hind h0 hs hin => ?_, fun win hcol hind hseg hw hin hm => ?_,
      fun b hcol hb hn hmap hask hm => ?_, fun b hcol hb hn => ?_⟩
    · obtain ⟨q, c, hq, hc, hqc, hcc⟩ := State.headPushed_prog (o := o) (w := w) hp
      have hopens := h.opens hg hcol hind hwin hx hu hin hfog hturn hhead hq hc hqc hcc
      obtain ⟨hexch, hctrl, hother, hqueues, hout, hprog⟩ := h.opened hcol hhead hq hc hqc hcc
      refine ⟨(s.headPushed sc o p w).exchOpened sc x g c, hdo.trans (congrArg (fun v : State => Host.Outcome.next v.settle) hopens), hexch, hctrl, hother, hqueues,
        fun hpg hr hcl => hout.trans (h.opens_quietly hpg hr hcl), { q with tagWait := none, chain := some { c with tag := some (BitVec.ofNat 12 g) } },
        { c with tag := some (BitVec.ofNat 12 g) }, hprog, ?_, (congrArg Chain.op hcc :), (congrArg Chain.input hcc :), ?_, (congrArg Chain.whole hcc :),
        (congrArg Chain.chain hcc :), (congrArg Chain.post hcc :), (congrArg Chain.last hcc :), rfl, (congrArg Chain.taken hcc :), (congrArg Chain.queued hcc :),
        (congrArg Chain.sent hcc :), (congrArg Chain.cmdSent hcc :)⟩
      · have heq := Prog.eq_of_calm hqc
        exact (congrArg (fun r : Prog => { r with tagWait := none, chain := some { c with tag := some (BitVec.ofNat 12 g) } }) heq :)
      · have hparts : c.parts = [(p.joined (headPart p w)).part] := (congrArg Chain.parts hcc :)
        show c.parts.map (fun k => { k with passage := 0 }) = _
        rw [hparts, List.map_singleton, Prog.joined_part _ rfl, headPart_plain hcol]
    · exact hdo.trans (congrArg (fun v : State => Host.Outcome.next v.settle) (State.headStep_outside hcol hind hg h0 hs hin))
    · have hal := addr_aligned h.2.2.2.2.1 (by rw [h.2.1]; exact hd) hind
      obtain ⟨hr, hbv, hpage⟩ := listRead_range (sc := sc) hal
      have h1 := State.prog?_modProg_some (fun q => { q with seg := some { step := p.flow, addr := w.addr } }) hp
      have h2 := State.prog?_modProg_some (fun q => { q with seg := some { step := p.flow, addr := w.addr, asked := true } }) h1
      refine ⟨_, hdo.trans (congrArg (fun v : State => Host.Outcome.next v.settle) (State.headStep_list hcol hind (State.segments_asks hp hseg hw hin hm))),
        fun hmr ht => ?_, (congrArg Sub.prog (State.sub_congr (State.sendRead_prog _ _ _ _ _ _) sc)).trans h2, State.sendRead_ports _ _ _ _ _ _⟩
      rw [← hbv]
      exact State.sendRead_one hr (by omega) (Nat.le_trans (by omega) hmr) hpage ht
    · refine ⟨_, hdo.trans (congrArg (fun v : State => Host.Outcome.next v.settle) (State.headStep_column hcol (State.columnMap_asks hb hn hmap hask hm))),
        fun hal hmr ht => ?_, (congrArg Sub.prog (State.sub_congr (State.sendRead_prog _ _ _ _ _ _) sc)).trans (State.prog?_modProg_some _ hp), State.sendRead_ports _ _ _ _ _ _⟩
      obtain ⟨hr, hpage⟩ := mapRead_range (n := w.aux.toNat) (sc := sc) hal
      have hmem := State.sendRead_one (s := s.modProg sc (fun p => { p with mapAsked := true })) (pasid := s.pasidOf p.start.tenant) hr (by omega) hmr hpage ht
      rw [BitVec.ofNat_toNat, BitVec.setWidth_eq] at hmem
      exact hmem
    · exact hdo.trans (congrArg (fun v : State => Host.Outcome.next v.settle) (State.headStep_column hcol (State.columnMap_beyond hb hn)))
  · intro ends
    refine ⟨fun ho hs => deviceInstr_fails (o := .read) rfl hdue ho hh hgd hs, fun ho hs => deviceInstr_fails (o := .write) rfl hdue ho hh hgd hs,
      fun ho hs => deviceInstr_fails (o := .sense) rfl hdue ho hh hgd hs, fun ho hs => deviceInstr_fails (o := .control) rfl hdue ho hh hgd hs, fun ho => ?_⟩
    obtain ⟨hrd, hprog⟩ := State.eccEvent_poison (s := s) (s.granuleSite (s.stepGranule sc p.flow))
    exact ⟨_, congrArg (fun v : State => Host.Outcome.next v.settle) (carryOut_poison hdue ho hh _), hrd, hprog⟩
  · intro part
    have hpd : s.prog? sc = some p ∧ p.chain = some c := by
      unfold State.contDue at hdue
      split at hdue
      · exact nomatch hdue
      · next p' hp' =>
        split at hdue
        · exact nomatch hdue
        · next c' hc' =>
          split at hdue
          · exact nomatch hdue
          · obtain ⟨w', -, he⟩ := Option.map_eq_some_iff.mp hdue
            obtain ⟨hpp, he⟩ := Prod.mk.inj he
            obtain ⟨hcc', -⟩ := Prod.mk.inj he
            exact ⟨by rw [← hpp]; exact hp', by rw [← hpp, ← hcc']; exact hc'⟩
    obtain ⟨hp, hc⟩ := hpd
    have hdo : doContinuationStep sc .good s = s.contStep sc p c a w := by
      unfold doContinuationStep
      rw [hdue]
      dsimp only
      rw [State.stepEcc_good hs]
      exact if_pos rfl
    have hcont := State.contStep_plain (s := s) (sc := sc) (p := p) (a := a) hearly hcc hcol hind hg
    refine ⟨fun hwin => ⟨s.contJoined sc a w, contChain c p a w, ?_, (State.contJoined_facts hp hc).1, (State.contJoined_facts hp hc).2, contChain_eq hg,
      fun ha => contChain_none ha, fun x ha => contChain_some ha⟩, fun hsk hout => ?_⟩
    · rw [State.rangeBad_plain hcol, if_pos (.inr hwin)] at hcont
      exact congrArg (fun v : State => Host.Outcome.next v.settle) (hdo.trans hcont)
    · have h0 := earlyContCheck_count hearly
      rw [State.rangeBad_plain hcol, hsk, hout, if_neg (by rintro (h | h | h); exacts [h0 h, Bool.false_ne_true h, Bool.false_ne_true h])] at hcont
      exact congrArg (fun v : State => Host.Outcome.next v.settle) (hdo.trans hcont)
  · unfold doColumnizerEngineGranted
    rw [hw]
  · unfold doColumnizerEngineGranted
    rw [hw]

end Sys2Proof.Machine

namespace Sys2Proof.Machine
open Sys2Proof

/-! ### Staging memory, movers and the counter windows (R219, R226, R227, R240-R248, R306, R420, R484) -/

section
variable {s : State} {m : MoverNum} {ch : Nat} {d : Desc} {rest : List Desc}

/-! #### A mover begins a descriptor -/

/-- The mover once it took the head descriptor of a channel (R242). -/
def State.moverTaken (s : State) (m : MoverNum) (ch : Nat) (d : Desc) (rest : List Desc) : State :=
  s.modMover m (fun x => { x with
    running := some (ch, d, false), lastCh := ch
    channels := tset x.channels ch { tget ({} : Channel) (s.mover m).channels ch with
      queue := rest
      notBefore := s.cycleF + (16 * descGranules d + (tget ({} : Channel) (s.mover m).channels ch).share - 1) / (tget ({} : Channel) (s.mover m).channels ch).share
      grants := (tget ({} : Channel) (s.mover m).channels ch).grants - 1 } })

/-- What makes a mover take a descriptor. -/
def moverReady (s : State) (m : MoverNum) (ch : Nat) (d : Desc) (rest : List Desc) : Prop :=
  (s.mover m).fenced = false ∧ (s.mover m).retired = false ∧ (s.mover m).testing = false ∧ (s.mover m).running = none ∧ s.data.inService = true ∧
    s.nextChannel (s.mover m) = some ch ∧ (tget {} (s.mover m).channels ch).queue = d :: rest

theorem doMoverDescriptorBegin_eq (h : moverReady s m ch d rest) (e : Ecc) : doMoverDescriptorBegin m e s =
    (if d.kind = 1 then
      (s.moverTaken m ch d rest).sendRead (hostOf d.tenant) d.pasid (BitVec.ofNat 64 (roundedRead d.addr d.len).1) (roundedRead d.addr d.len).2 (.output d.sc)
    else
      let v := s.moverTaken m ch d rest
      let e := v.srcEcc d e
      let site := v.descSite d
      let v := v.eccEvent site e
      if eccBad e then (((v.freeMover m.val).dropRuns d.run.toList).poisonWrite d (eccReason e) site).settle else v.settle) := by
  obtain ⟨hf, hret, ht, hrun, hs, hn, hq⟩ := h
  unfold doMoverDescriptorBegin
  dsimp only
  rw [hf, hret, ht, hrun, hs, if_neg (by decide), hn]
  dsimp only
  rw [hq] <;> rfl

theorem State.moverTaken_mover : (s.moverTaken m ch d rest).mover m = { s.mover m with
      running := some (ch, d, false), lastCh := ch
      channels := tset (s.mover m).channels ch { tget ({} : Channel) (s.mover m).channels ch with
        queue := rest
        notBefore := s.cycleF + (16 * descGranules d + (tget ({} : Channel) (s.mover m).channels ch).share - 1) / (tget ({} : Channel) (s.mover m).channels ch).share
        grants := (tget ({} : Channel) (s.mover m).channels ch).grants - 1 } } := s.mover_modMover m _

theorem State.mover_congr {u v : State} (h : u.data = v.data) (m : MoverNum) : u.mover m = v.mover m := by rw [State.mover, h]; rfl

theorem doMoverDescriptorBegin_sound (h : moverReady s m ch d rest) (hk : d.kind ≠ 1) (hp : (d.run.map s.runPoison).getD false = false) :
    doMoverDescriptorBegin m .good s = (s.moverTaken m ch d rest).settle := by
  have he : (s.moverTaken m ch d rest).srcEcc d .good = .good := by
    show withPoison .good ((d.run.map s.runPoison).getD false) = .good
    rw [hp]
    rfl
  rw [doMoverDescriptorBegin_eq h, if_neg hk]
  dsimp only
  rw [he]
  generalize (s.moverTaken m ch d rest).descSite d = site
  exact if_neg (show ¬ eccBad .good = true from Bool.false_ne_true)

theorem State.descSite_moverTaken : (s.moverTaken m ch d rest).descSite d = s.descSite d := rfl

theorem doMoverDescriptorBegin_poison (h : moverReady s m ch d rest) (hk : d.kind ≠ 1) : doMoverDescriptorBegin m .poison s =
    (((((s.moverTaken m ch d rest).eccEvent (s.descSite d) .poison).freeMover m.val).dropRuns d.run.toList).poisonWrite d 6 (s.descSite d)).settle := by
  have he : (s.moverTaken m ch d rest).srcEcc d .poison = .poison := rfl
  rw [doMoverDescriptorBegin_eq h, if_neg hk]
  dsimp only
  rw [he, State.descSite_moverTaken]
  generalize s.descSite d = site
  exact if_pos rfl

/-- A source with granules never written is poison whatever the memory reports (R219). -/
theorem doMoverDescriptorBegin_unwritten (h : moverReady s m ch d rest) (hk : d.kind ≠ 1) (hp : (d.run.map s.runPoison).getD false = true) :
    doMoverDescriptorBegin m .good s = doMoverDescriptorBegin m .poison s := by
  have he : (s.moverTaken m ch d rest).srcEcc d .good = (s.moverTaken m ch d rest).srcEcc d .poison := by
    show withPoison .good ((d.run.map s.runPoison).getD false) = withPoison .poison ((d.run.map s.runPoison).getD false)
    rw [hp]
    rfl
  rw [doMoverDescriptorBegin_eq h, doMoverDescriptorBegin_eq h, if_neg hk, if_neg hk]
  dsimp only
  rw [he]

theorem moverReady.begun (h : moverReady s m ch d rest) : ((s.moverTaken m ch d rest).mover m = { s.mover m with
      running := some (ch, d, false), lastCh := ch
      channels := tset (s.mover m).channels ch { tget ({} : Channel) (s.mover m).channels ch with
        queue := rest
        notBefore := 5 * s.clk.now + (16 * (((d.run.map (fun r => r.off)).getD 0 + d.len + 63) / 64 - (d.run.map (fun r => r.off)).getD 0 / 64) +
          (tget ({} : Channel) (s.mover m).channels ch).share - 1) / (tget ({} : Channel) (s.mover m).channels ch).share
        grants := (tget ({} : Channel) (s.mover m).channels ch).grants - 1 } }) := State.moverTaken_mover

/-- A read issued is outstanding. -/
theorem State.sendRead_open {p : HPort} (pasid : Option (BitVec 20)) (a : W64) (n : Nat) (key : ReadKey) (ht : 0 < (s.host p).tagsFree) :
    (s.sendRead p pasid a n key).readOpen p key = true := by
  rw [State.sendRead, State.sendReads, if_pos ht, State.issueRead, State.readOpen]
  refine List.any_eq_true.mpr ?_
  refine ⟨⟨key, s.clk.now + ((s.exitL1 p).host p).cto, min (s.readTlps p key [(a, n)]).length ((s.exitL1 p).host p).tagsFree⟩, ?_, beq_self_eq_true key⟩
  have hh := (s.exitL1 p).host_modHost p (fun h => { h with reads := h.reads ++ [⟨key, s.clk.now + h.cto, min (s.readTlps p key [(a, n)]).length h.tagsFree⟩] })
  rw [show (((s.exitL1 p).modHost p (fun h => { h with reads := h.reads ++ [⟨key, s.clk.now + h.cto, min (s.readTlps p key [(a, n)]).length h.tagsFree⟩] })).onOut _).host p = _ from hh]
  exact List.mem_append_right _ (List.mem_singleton.mpr rfl)

theorem outputRead_range {addr len : Nat} {sc : SC} (h0 : 0 < len) (ha : addr / 64 * 64 < 2 ^ 64) : 0 < (addr + len + 63) / 64 * 64 - addr / 64 * 64 ∧
    readRange (.output sc) (BitVec.ofNat 64 (roundedRead addr len).1).toNat (roundedRead addr len).2 = (addr / 64 * 64, (addr + len + 63) / 64 * 64 - addr / 64 * 64) := by
  refine ⟨by omega, ?_⟩
  have hto : (BitVec.ofNat 64 (roundedRead addr len).1).toNat = addr / 64 * 64 := by
    rw [BitVec.toNat_ofNat]
    exact Nat.mod_eq_of_lt ha
  rw [hto]
  show (addr / 64 * 64 / 64 * 64, (addr / 64 * 64 + ((addr + len + 63) / 64 * 64 - addr / 64 * 64) + 63) / 64 * 64 - addr / 64 * 64 / 64 * 64) = _
  rw [Prod.mk.injEq]
  omega

/-! #### A mover completes a descriptor -/

theorem doMoverDescriptorComplete_idle (h : (s.mover m).running = none) : doMoverDescriptorComplete m s = s := by
  unfold doMoverDescriptorComplete
  rw [h]

theorem doMoverDescriptorComplete_running {landed : Bool} (h : (s.mover m).running = some (ch, d, landed)) : doMoverDescriptorComplete m s =
    (if d.kind = 1 then (if landed then ((s.freeMover m.val).outputStored d).settle else s)
    else if ((s.progX? d.sc d.xfer).map (fun p => p.spoilt && !d.head.isEmpty)).getD false then
      ((((s.dropRuns d.run.toList).freeMover m.val).skipWrite d).closeKick d.sc).settle
    else ((((if !d.more && (s.host (hostOf d.tenant)).alive then
        s.sendWrite (hostOf d.tenant) d.pasid (BitVec.ofNat 64 (d.addr - d.head.length)) (d.head ++ d.bytes) else s).dropRuns d.run.toList).freeMover m.val).writeIssued d).settle) := by
  unfold doMoverDescriptorComplete
  rw [h]

theorem doMoverDescriptorBegin_busy (h : (s.mover m).running.isSome = true) (e : Ecc) : doMoverDescriptorBegin m e s = s := by
  unfold doMoverDescriptorBegin
  dsimp only
  rw [h, Bool.or_true, Bool.true_or, if_pos rfl]

/-! #### Patrols -/

theorem mem_insertNat (n : Nat) (l : List Nat) (k : Nat) : k ∈ insertNat n l ↔ k = n ∨ k ∈ l := by
  induction l with
  | nil => simp [insertNat]
  | cons x l ih =>
    unfold insertNat
    split
    · exact List.mem_cons
    · rw [List.mem_cons, List.mem_cons, ih, or_left_comm]

/-- The data path once the patrol has read a granule (log 129). -/
def scrubNext (g : BitVec 30) (k : DataPath) : DataPath :=
  if k.scrubbed.length + 1 = 0x30000000 then { k with scrubbed := [], scrubPass := satInc k.scrubPass }
  else { k with scrubbed := insertNat g.toNat k.scrubbed }

theorem scrubNext_keeps (g : BitVec 30) (k : DataPath) : (scrubNext g k).ceCnt = k.ceCnt ∧ (scrubNext g k).ueCnt = k.ueCnt ∧ (scrubNext g k).granules = k.granules := by
  unfold scrubNext
  split <;> exact ⟨rfl, rfl, rfl⟩

theorem doScrubGranule_done {g : BitVec 30} (e : Ecc) (h : g.toNat ∈ s.data.scrubbed) : doScrubGranule g e s = s := by
  unfold doScrubGranule
  rw [List.contains_iff_mem.mpr h, Bool.or_true, if_pos rfl]

theorem doScrubGranule_read {g : BitVec 30} (hs : s.data.inService = true) (hg : g.toNat < 0x30000000) (h : g.toNat ∉ s.data.scrubbed) (e : Ecc) :
    doScrubGranule g e s = (match e with
      | .good => s.onData (scrubNext g)
      | .poison => s.onData (scrubNext g)
      | .corrected r b => ((s.onData (scrubNext g)).eccEvent ((s.onData (scrubNext g)).granuleSite g.toNat) (.corrected r b)).settle
      | .uncorrectable r b =>
        (((s.onData (scrubNext g)).onData (fun d => { d with granules := tmod {} d.granules g.toNat (fun x => { x with poison := true }) })).eccEvent
          ((s.onData (scrubNext g)).granuleSite g.toNat) (.uncorrectable r b)).settle) := by
  have hcond : (!s.data.inService || decide (stagingGranules ≤ g.toNat) || s.data.scrubbed.contains g.toNat) = false := by
    rw [hs, stagingGranules_eq, decide_eq_false (by omega), Bool.eq_false_iff.mpr (fun hc => h (List.contains_iff_mem.mp hc))]
    rfl
  have hnext : (fun d : DataPath => if d.scrubbed.length + 1 = stagingGranules then { d with scrubbed := [], scrubPass := satInc d.scrubPass }
      else { d with scrubbed := insertNat g.toNat d.scrubbed }) = scrubNext g := by
    funext d
    rw [scrubNext, stagingGranules_eq]
  unfold doScrubGranule
  rw [hcond, if_neg Bool.false_ne_true, hnext] <;> rfl

theorem State.eccEvent_corrected (site : W32) (r : BitVec 24) (b : BitVec 16) : (s.eccEvent site (.corrected r b)).data = { s.data with ceCnt := satInc s.data.ceCnt } ∧
    (s.eccEvent site (.corrected r b)).prog = s.prog :=
  ⟨State.logFault_data (s.onData (fun d => { d with ceCnt := satInc d.ceCnt })) 1 site whoNone _, State.logFault_prog _ 1 site whoNone _⟩

theorem State.eccEvent_uncorrectable (site : W32) (r : BitVec 24) (b : BitVec 16) :
    (s.eccEvent site (.uncorrectable r b)).data = { s.data with ueCnt := satInc s.data.ueCnt } ∧ (s.eccEvent site (.uncorrectable r b)).prog = s.prog :=
  ⟨State.logFault_data (s.onData (fun d => { d with ueCnt := satInc d.ueCnt })) 2 site whoNone _, State.logFault_prog _ 2 site whoNone _⟩

/-! #### Small requests (R226) -/

theorem heldSmall_cases (c : CtrlLoad) (q : List Nat) : (c.bulkWaits = false → heldSmall c q = []) ∧
    ((∀ x ∈ c.reqs, smallRequest x = true) → c.bulkWaits = true → heldSmall c q = q ++ c.reqs.map (fun x => x.1.toNat)) ∧
    ((∀ x ∈ c.reqs, smallRequest x = false) → c.bulkWaits = true → heldSmall c q = q.drop (c.reqs.length / 15)) := by
  refine ⟨fun h => ?_, fun hs h => ?_, fun hs h => ?_⟩
  · unfold heldSmall
    rw [h]
    rfl
  · have h1 : c.reqs.filter smallRequest = c.reqs := List.filter_eq_self.mpr hs
    have h2 : c.reqs.filter (fun r => !smallRequest r) = [] := List.filter_eq_nil_iff.mpr (fun x hx => by rw [hs x hx]; decide)
    unfold heldSmall
    rw [h, if_pos rfl, h1, h2]
    rfl
  · have h1 : c.reqs.filter smallRequest = [] := List.filter_eq_nil_iff.mpr (fun x hx => by rw [hs x hx]; decide)
    have h2 : c.reqs.filter (fun r => !smallRequest r) = c.reqs := List.filter_eq_self.mpr (fun x hx => by rw [hs x hx]; rfl)
    unfold heldSmall
    rw [h, if_pos rfl, h1, h2, List.map_nil, List.append_nil]

/-! #### The busiest pseudo-channel (R227) -/

theorem busiest_from {counts : List Nat} {i : Nat} (hmax : ∀ j, j < 64 → counts.getD j 0 ≤ counts.getD i 0) (hfirst : ∀ j, j < i → counts.getD j 0 < counts.getD i 0)
    (n : Nat) (hn : n ≤ 64) :
    let b := (List.range n).foldl (fun (b : Nat × Nat) j => if b.2 < counts.getD j 0 then (j, counts.getD j 0) else b) (0, counts.getD 0 0)
    (i < n ∨ i = 0 → b = (i, counts.getD i 0)) ∧ (n ≤ i → i ≠ 0 → b.2 < counts.getD i 0) := by
  induction n with
  | zero =>
    refine ⟨fun h => ?_, fun _ h0 => hfirst 0 (by omega)⟩
    rw [h.resolve_left (by omega)]
    rfl
  | succ n ih =>
    obtain ⟨ih1, ih2⟩ := ih (by omega)
    rw [List.range_succ, List.foldl_append, List.foldl_cons, List.foldl_nil]
    generalize (List.range n).foldl (fun (b : Nat × Nat) j => if b.2 < counts.getD j 0 then (j, counts.getD j 0) else b) (0, counts.getD 0 0) = b at ih1 ih2
    intro b'
    have hb' : b' = if b.2 < counts.getD n 0 then (n, counts.getD n 0) else b := rfl
    refine ⟨fun h => ?_, fun hle h0 => ?_⟩
    · by_cases hin : i < n ∨ i = 0
      · rw [hb', ih1 hin, if_neg (Nat.not_lt.mpr (hmax n (by omega)))]
      · have he : i = n := by omega
        rw [hb', if_pos (by rw [← he]; exact ih2 (by omega) (by omega)), he]
    · rw [hb']
      split
      · exact hfirst n (by omega)
      · exact ih2 (by omega) h0

theorem busiest_first {counts : List Nat} {i : Nat} (hi : i < 64) (hmax : ∀ j, j < 64 → counts.getD j 0 ≤ counts.getD i 0)
    (hfirst : ∀ j, j < i → counts.getD j 0 < counts.getD i 0) : busiest counts = (i, counts.getD i 0) := (busiest_from hmax hfirst 64 (le_refl _)).1 (.inl hi)

theorem doImbalanceWindow_counts {counts : List Nat} {i : Nat} (hs : s.data.inService = true) (hi : i < 64) (h0 : 0 < counts.getD i 0) : doImbalanceWindow counts s =
    s.onData (fun d => { d with imbal := imbalWord counts, imbalPk := if d.imbalPk.setWidth 16 < (imbalWord counts).setWidth 16 then imbalWord counts else d.imbalPk }) := by
  have hall : ((List.range 64).all (fun i => counts.getD i 0 == 0)) = false := by
    rw [List.all_eq_false]
    exact ⟨i, List.mem_range.mpr hi, by rw [beq_iff_eq]; omega⟩
  unfold doImbalanceWindow
  rw [hs, Bool.not_true, if_neg Bool.false_ne_true]
  dsimp only
  rw [hall, if_neg Bool.false_ne_true, if_neg Bool.false_ne_true]

theorem doImbalanceWindow_none {counts : List Nat} (hs : s.data.inService = true) (h : ∀ j, j < 64 → counts.getD j 0 = 0) : doImbalanceWindow counts s =
    s.useFree.onData (fun d => { d with
      imbal := s.freeVal &&& 0x003FFFFF, imbalPk := if d.imbalPk.setWidth 16 < (s.freeVal &&& 0x003FFFFF).setWidth 16 then s.freeVal &&& 0x003FFFFF else d.imbalPk }) := by
  have hall : ((List.range 64).all (fun i => counts.getD i 0 == 0)) = true := by
    rw [List.all_eq_true]
    exact fun i hi => beq_iff_eq.mpr (h i (List.mem_range.mp hi))
  unfold doImbalanceWindow
  rw [hs, Bool.not_true, if_neg Bool.false_ne_true]
  dsimp only
  rw [hall, if_pos rfl, if_pos rfl]

end

/-- Settles O55. -/
theorem stagingAndMovers : Obligations.StagingAndMovers := by
  unfold Obligations.StagingAndMovers
  refine ⟨fun m ch d rest s hf hret ht hrun hs hn hq => ?_, fun m s hrun => congrArg Host.Outcome.next (doMoverDescriptorComplete_idle hrun), fun m ch d landed s hrun => ?_,
    fun g e r b s hs hg => ?_, fun c0 c1 s hs => ?_, fun c q => heldSmall_cases c q, fun site e r b s => ?_, fun site s => ?_,
    fun counts i s hs hi hmax hfirst h0 => ?_, fun counts s hs h => ?_⟩
  · intro c off granules began host a n
    have hr : moverReady s m ch d rest := ⟨hf, hret, ht, hrun, hs, hn, hq⟩
    have hbegun : began (s.moverTaken m ch d rest) := hr.begun
    refine ⟨fun hk => ?_, fun hk hp => ⟨_, congrArg Host.Outcome.next (doMoverDescriptorBegin_sound hr hk hp), hbegun, rfl, rfl, rfl⟩, fun hk => ?_,
      fun hk hp => congrArg Host.Outcome.next (doMoverDescriptorBegin_unwritten hr hk hp)⟩
    · refine ⟨_, congrArg Host.Outcome.next ((doMoverDescriptorBegin_eq hr .good).trans (if_pos hk)), ?_, State.sendRead_prog _ _ _ _ _ _, State.sendRead_ports _ _ _ _ _ _,
        fun htag => ⟨State.sendRead_open (s := s.moverTaken m ch d rest) _ _ _ _ htag, fun hlen ha hm hp => ?_⟩⟩
      · exact (State.mover_congr (State.sendRead_data _ _ _ _ _ _) m).trans hbegun
      · obtain ⟨hpos, hrange⟩ := outputRead_range (sc := d.sc) hlen ha
        exact State.sendRead_one_out (s := s.moverTaken m ch d rest) hrange hpos hm hp htag
    · obtain ⟨hrd, hprog⟩ := State.eccEvent_poison (s := s.moverTaken m ch d rest) (s.descSite d)
      refine ⟨_, congrArg Host.Outcome.next (doMoverDescriptorBegin_poison hr hk), ?_, hrd, hprog⟩
      have hdata : ((s.moverTaken m ch d rest).eccEvent (s.descSite d) .poison).data =
          { (s.moverTaken m ch d rest).data with poisRd := satInc (s.moverTaken m ch d rest).data.poisRd } :=
        State.logFault_data ((s.moverTaken m ch d rest).onData (fun d => { d with poisRd := satInc d.poisRd })) 2 _ whoNone 0
      refine Eq.trans ?_ hbegun
      rw [State.mover, hdata]
      rfl
  · intro spoilt
    have hdo := doMoverDescriptorComplete_running hrun
    have hbegin := doMoverDescriptorBegin_busy (s := s) (m := m) (by rw [hrun]; rfl) .good
    refine ⟨congrArg Host.Outcome.next hbegin, fun hk hl => ?_, fun hk hl => ?_, fun hk hsp hmore hal => ?_, fun hk hsp hmore => ?_, fun hk hsp => ?_⟩
    · exact congrArg Host.Outcome.next (hdo.trans ((if_pos hk).trans (if_pos hl)))
    · exact congrArg Host.Outcome.next (hdo.trans ((if_pos hk).trans (if_neg (by rw [hl]; exact Bool.false_ne_true))))
    · have hne : ¬ ((s.progX? d.sc d.xfer).map (fun p => p.spoilt && !d.head.isEmpty)).getD false = true := Bool.eq_false_iff.mp hsp
      rw [if_neg hk, if_neg hne, hmore, hal, Bool.not_false, Bool.true_and, if_pos rfl] at hdo
      exact ⟨_, congrArg Host.Outcome.next hdo, rfl, rfl, rfl, rfl⟩
    · have hne : ¬ ((s.progX? d.sc d.xfer).map (fun p => p.spoilt && !d.head.isEmpty)).getD false = true := Bool.eq_false_iff.mp hsp
      rw [if_neg hk, if_neg hne, hmore, Bool.not_true, Bool.false_and, if_neg Bool.false_ne_true] at hdo
      exact congrArg Host.Outcome.next hdo
    · exact congrArg Host.Outcome.next (hdo.trans ((if_neg hk).trans (if_pos hsp)))
  · intro next
    obtain ⟨hce, hue, hgran⟩ := scrubNext_keeps g s.data
    refine ⟨fun h => congrArg Host.Outcome.next (doScrubGranule_done e h), fun h => ?_, fun l k => mem_insertNat _ l k⟩
    have hdo := doScrubGranule_read hs hg h
    refine ⟨congrArg Host.Outcome.next (hdo .good), congrArg Host.Outcome.next (hdo .poison), ⟨_, congrArg Host.Outcome.next (hdo (.corrected r b)), ?_⟩,
      ⟨_, congrArg Host.Outcome.next (hdo (.uncorrectable r b)), ?_⟩⟩
    · obtain ⟨hdata, hprog⟩ := State.eccEvent_corrected (s := s.onData (scrubNext g)) ((s.onData (scrubNext g)).granuleSite g.toNat) r b
      exact ⟨hdata.trans (congrArg (fun x => { scrubNext g s.data with ceCnt := satInc x }) hce), hprog⟩
    · obtain ⟨hdata, hprog⟩ := State.eccEvent_uncorrectable
        (s := (s.onData (scrubNext g)).onData (fun d => { d with granules := tmod {} d.granules g.toNat (fun x => { x with poison := true }) }))
        ((s.onData (scrubNext g)).granuleSite g.toNat) r b
      have hgr := congrArg DataPath.granules hdata
      refine ⟨(congrArg DataPath.ueCnt hdata).trans (congrArg satInc hue), ⟨{ tget {} s.data.granules g.toNat with poison := true }, ?_, rfl⟩, fun k hk => ?_, hprog⟩
      · rw [hgr]
        refine (tfind_tset_same _ _ _).trans ?_
        exact congrArg (fun t => some ({ tget {} t g.toNat with poison := true } : Granule)) hgran
      · rw [hgr]
        exact (tfind_tset_ne _ _ _ _ hk).trans (congrArg (fun t => tfind t k) hgran)
  · intro h0 h1
    refine congrArg Host.Outcome.next ?_
    have hcond : (h0.isEmpty && h1.isEmpty) = decide (h0 = [] ∧ h1 = []) := by
      rw [Bool.eq_iff_iff, Bool.and_eq_true, List.isEmpty_iff, List.isEmpty_iff, decide_eq_true_iff]
    unfold doSmallBudgetWindow
    rw [hs, Bool.not_true, if_neg Bool.false_ne_true]
    show s.onData (fun d => { d with smallQ := tset (tset d.smallQ 0 h0) 1 h1, smallHeld := if (h0.isEmpty && h1.isEmpty) = true then d.smallHeld else satInc d.smallHeld }) = _
    have hheld : (if (h0.isEmpty && h1.isEmpty) = true then s.data.smallHeld else satInc s.data.smallHeld) =
        if h0 = [] ∧ h1 = [] then s.data.smallHeld else satInc s.data.smallHeld :=
      if_congr (by rw [hcond, decide_eq_true_iff]) rfl rfl
    exact congrArg (fun x => { s with data := { s.data with smallQ := tset (tset s.data.smallQ 0 h0) 1 h1, smallHeld := x } }) hheld
  · refine ⟨fun h => congrArg Host.Outcome.next (if_pos (by rw [h]; rfl)), ?_, fun hpat hs hacts => ⟨⟨_, congrArg Host.Outcome.next (doSramPatrol_corrected s site r b hpat), ?_⟩, ?_⟩⟩
    · refine congrArg Host.Outcome.next ?_
      unfold doSramPatrol
      split <;> rfl
    · have hdata : (s.countEcc site).data = s.data := by
        unfold State.countEcc
        split <;> rfl
      have hprog : (s.countEcc site).prog = s.prog := by
        unfold State.countEcc
        split <;> rfl
      refine ⟨?_, (State.logFault_data _ _ _ _ _).trans hdata, (State.logFault_prog _ _ _ _ _).trans hprog, fun c hc => ?_, fun hc => ?_⟩
      · rw [State.logFault_next _ _ _ _ _ (by rw [hdata]; exact hs) (by rw [State.countEcc_faults]; exact hacts), State.countEcc_faults]
      · refine Eq.trans ?_ (State.countEcc_pair s site hc)
        rw [State.pair, State.logFault_cores]
        rfl
      · refine (State.logFault_cores _ _ _ _ _).trans ?_
        rw [State.countEcc, hc]
    · exact ⟨_, congrArg Host.Outcome.next (doSramPatrol_uncorrectable s site r b hpat), State.logFault_next _ _ _ _ _ hs hacts, State.logFault_data _ _ _ _ _,
        State.logFault_prog _ _ _ _ _, State.logFault_cores _ _ _ _ _⟩
  · refine ⟨fun h => ?_, fun c h hr => ?_, fun c h hr => ?_⟩
    · rw [State.memoryFailure, h]
    · rw [State.memoryFailure, h]
      exact if_pos hr
    · rw [State.memoryFailure, h]
      exact if_neg (by rw [hr]; exact Bool.false_ne_true)
  · intro sum word
    have hword : imbalWord counts = word := by
      rw [imbalWord, busiest_first hi hmax hfirst]
    refine congrArg Host.Outcome.next ((doImbalanceWindow_counts hs hi h0).trans ?_)
    rw [hword]
    rfl
  · refine ⟨_, congrArg Host.Outcome.next (doImbalanceWindow_none hs h), rfl, ?_⟩
    show (s.freeVal &&& 0x003FFFFF).toNat < 2 ^ 22
    rw [BitVec.toNat_and]
    exact Nat.and_lt_two_pow _ (by decide)

end Sys2Proof.Machine

namespace Sys2Proof.Machine
open Sys2Proof

/-! ### What follows every command (R413, R414) -/

/-- The reset state with an account of the queue spill that holds 5 granules which nothing holds. -/
def unbookedSpill : State := State.reset.onFaults (fun f => { f with accts := [(acctKey 3 97, ⟨0, 5⟩)] })

theorem unbookedSpill_spill (d : DPort) : unbookedSpill.spill d = 0 := by
  show (0 - Config.onDieItems) + (0 - Config.onDieItems) + 0 = 0
  rw [Nat.zero_sub]

/-- Nothing is left to be done there but the account (R100, R274, R282, R371, R375, R421). -/
theorem unbookedSpill_calm : calm unbookedSpill := by
  refine ⟨fun d => .inl ?_, fun d => .inl rfl, fun d => ⟨(unbookedSpill_spill d).symm, fun h => ?_, fun _ => ?_⟩, rfl, rfl, fun p => ⟨rfl, rfl, fun st b => ?_⟩⟩
  · show ({} : Port).link ≠ 5
    decide
  · exact absurd h (show ¬ ({} : Port).stall = true by decide)
  · rw [unbookedSpill_spill]
    show 0 < Config.spillStall
    decide
  · show (none : Option OrderSlot) ≠ _
    exact fun h => nomatch h

/-- Settling moves the account to what the spill holds. -/
theorem unbookedSpill_settled : (unbookedSpill.settle.acct 3 97).credit = 0 := by decide

/-- Refutes O60: settling books account 0x03 of the queue spill to what the spill holds, which a calm state does not say it already is. -/
theorem not_whatFollows : ¬ Obligations.WhatFollows := by
  unfold Obligations.WhatFollows
  intro h
  obtain ⟨hrest, -, -, -⟩ := h unbookedSpill unbookedSpill_calm
  have hfaults : unbookedSpill.settle.faults = unbookedSpill.faults := (congrArg State.faults hrest :)
  have hacct : (unbookedSpill.settle.acct 3 97).credit = 5 := by
    rw [State.acct, hfaults]
    rfl
  rw [unbookedSpill_settled] at hacct
  exact absurd hacct (by decide)

end Sys2Proof.Machine

namespace Sys2Proof.Machine
open Sys2Proof

/-! ### Cages (R103, R259, R281, R284-R286, R464, R465, R513) -/

section
variable {s : State} {c : CageNum} {d : DPort}

/-! #### Changes of port records alone -/

/-- Only records of device ports changed. -/
def portRecs (s t : State) : Prop := { t with ports := s.ports } = s ∧ t.ports.cages = s.ports.cages

theorem portRecs.refl (s : State) : portRecs s s := ⟨rfl, rfl⟩

theorem portRecs.trans {u v : State} (h : portRecs s u) (h' : portRecs u v) : portRecs s v := by
  obtain ⟨hrest, hcages⟩ := h
  obtain ⟨hrest', hcages'⟩ := h'
  exact ⟨(congrArg (fun v : State => { v with ports := s.ports }) hrest' :).trans hrest, hcages'.trans hcages⟩

theorem portRecs_modPort (f : Port → Port) : portRecs s (s.modPort d f) := ⟨rfl, rfl⟩

theorem portRecs_foldl {α : Type} {f : State → α → State} (hf : ∀ s a, portRecs s (f s a)) (l : List α) (s : State) : portRecs s (l.foldl f s) := by
  induction l generalizing s with
  | nil => exact portRecs.refl s
  | cons a l ih => exact (hf s a).trans (ih _)

theorem portRecs.cage {t : State} (h : portRecs s t) (c : CageNum) : t.cage c = s.cage c := by rw [State.cage, h.2]; rfl

/-- What a fold over ports establishes of each port it meets. -/
theorem foldPorts_mem {f : State → DPort → State} {P : Port → Prop} (hset : ∀ s d, P ((f s d).port d)) (hkeep : ∀ s d e, e ≠ d → (f s d).port e = s.port e)
    (l : List DPort) (s : State) (h : d ∈ l) : P ((l.foldl f s).port d) := by
  induction l using List.reverseRecOn with
  | nil => exact absurd h List.not_mem_nil
  | append_singleton l e ih =>
    rw [List.foldl_append, List.foldl_cons, List.foldl_nil]
    by_cases he : d = e
    · rw [he]
      exact hset _ _
    · rw [hkeep _ _ _ he]
      exact ih ((List.mem_append.mp h).resolve_right (fun hm => he (List.mem_singleton.mp hm)))

/-! #### Fences of a cage (R281) -/

theorem State.liftFence_port (f : FenceCause) : (s.liftFence d f).port d = { s.port d with fences := (s.port d).fences.filter (fun x => x != f) } := s.port_modPort d _

theorem State.liftFence_port_ne {e : DPort} (f : FenceCause) (h : e ≠ d) : (s.liftFence d f).port e = s.port e := s.port_modPort_ne d e _ h

theorem not_mem_lifted (l : List FenceCause) (f : FenceCause) : f ∉ l.filter (fun x => x != f) := by
  intro h
  have := (List.mem_filter.mp h).2
  rw [bne_self_eq_false] at this
  exact Bool.false_ne_true this

/-- None of the fences of a cage's module is raised. -/
def noCageFence (q : Port) : Prop := FenceCause.cageAbsent ∉ q.fences ∧ FenceCause.cageType ∉ q.fences ∧ FenceCause.cagePower ∉ q.fences

theorem State.liftCage_recs : portRecs s (s.liftCage c) := by
  unfold State.liftCage
  split
  · exact portRecs.refl s
  · exact portRecs_foldl (fun s d => ((portRecs_modPort _).trans (portRecs_modPort _)).trans (portRecs_modPort _)) _ s

theorem State.liftCage_lifted (ht : (s.cage c).tripped = false) (hr : (s.cage c).retired = false) (hd : d ∈ cagePorts c) : noCageFence ((s.liftCage c).port d) := by
  unfold State.liftCage
  rw [ht, hr, if_neg (by decide)]
  refine foldPorts_mem (P := noCageFence) (fun s d => ?_) (fun s d e he => ?_) _ s hd
  · rw [State.liftFence_port, State.liftFence_port, State.liftFence_port]
    exact ⟨fun h => not_mem_lifted _ _ (List.mem_filter.mp (List.mem_filter.mp h).1).1, fun h => not_mem_lifted _ _ (List.mem_filter.mp h).1, not_mem_lifted _ _⟩
  · rw [State.liftFence_port_ne _ he, State.liftFence_port_ne _ he, State.liftFence_port_ne _ he]

theorem State.cageEvent_ports : (s.cageEvent c).ports = s.ports := by
  have fold : ∀ (l : List Tenant) (s : State), (l.foldl (fun s t => s.vector (.vf t) 9) s).ports = s.ports := by
    intro l
    induction l with
    | nil => exact fun _ => rfl
    | cons t l ih => exact fun s => (ih _).trans (State.vector_ports _ _ _)
  exact (fold _ _).trans (State.pfVector_ports _ _)

theorem State.firePort_ports (e : Nat) : (s.firePort d e).ports = s.ports := State.fire_ports _ _ _

theorem State.port_congr {t u : State} (h : t.ports = u.ports) (d : DPort) : t.port d = u.port d := by rw [State.port, h]; rfl

theorem State.fenceCage_raised (f : FenceCause) (hd : d ∈ cagePorts c) : f ∈ ((s.fenceCage c f).port d).fences := by
  unfold State.fenceCage
  split
  · next h => exact List.contains_iff_mem.mp (List.all_eq_true.mp h d hd)
  · rw [State.port_congr State.cageEvent_ports]
    refine foldPorts_mem (P := fun q => f ∈ q.fences) (fun s d => ?_) (fun s d e he => ?_) _ s hd
    · rw [State.port_congr (State.firePort_ports 1)]
      exact State.addFence_mem s d f
    · rw [State.port_congr (State.firePort_ports 1)]
      exact s.port_modPort_ne d e _ he

theorem State.fenceCage_cages (f : FenceCause) : (s.fenceCage c f).ports.cages = s.ports.cages := by
  have fold : ∀ (l : List DPort) (s : State), (l.foldl (fun s d => (s.addFence d f).firePort d 1) s).ports.cages = s.ports.cages := by
    intro l
    induction l with
    | nil => exact fun _ => rfl
    | cons d l ih => exact fun s => (ih _).trans (congrArg (fun p => p.cages) (State.firePort_ports 1))
  unfold State.fenceCage
  split
  · rfl
  · exact (congrArg (fun p => p.cages) State.cageEvent_ports).trans (fold _ _)

theorem State.awaitModule_recs (d : DPort) : portRecs s (s.awaitModule d) := by
  unfold State.awaitModule
  split
  · exact portRecs_modPort _
  · exact portRecs.refl s

/-! #### Power (R286, R513) -/

theorem State.logCage_ports (r : Option W16) : (s.logCage c r).ports = s.ports := by
  unfold State.logCage
  dsimp only
  split <;> exact State.logFault_ports _ _ _ _ _

theorem State.cage_congr {t u : State} (h : t.ports.cages = u.ports.cages) (c : CageNum) : t.cage c = u.cage c := by rw [State.cage, h]; rfl

theorem cageReadyTicks_eq : Config.cageReadyTicks = 46875000 := rfl

theorem poweredTicks_eq (n : Nat) : n + Config.ms100Ticks + Config.cageReadyTicks = n + 62500000 := by
  have h : Config.ms100Ticks + Config.cageReadyTicks = 62500000 := by decide
  rw [Nat.add_assoc, h]

theorem State.powerCage_cage (hr : (s.cage c).retired = false) (ht : (s.cage c).tripped = false) (hp : (s.cage c).powered = false) :
    (s.powerCage c).cage c = { s.cage c with powered := true, checked := false, ready := false, failed := false, readyBy := some (s.clk.now + 62500000) } := by
  unfold State.powerCage
  rw [hr, ht, hp, if_neg (by decide), poweredTicks_eq]
  dsimp only
  generalize hv : s.modCage c _ = v
  have hcage : v.cage c = { s.cage c with powered := true, checked := false, ready := false, failed := false, readyBy := some (s.clk.now + 62500000) } := by
    rw [← hv]
    exact s.cage_modCage c _
  rw [(portRecs_foldl (fun s d => State.awaitModule_recs d) _ _).cage c, ← hcage]
  split
  · exact State.liftCage_recs.cage c
  · exact State.cage_congr ((congrArg (fun p => p.cages) (State.logCage_ports none)).trans (State.fenceCage_cages _)) c

/-- The domains of a cage asked on at its wave (R464). -/
def State.askCage (s : State) (c : CageNum) : State :=
  [0, 1, 2, 3].foldl (fun (s : State) (i : Nat) => if tget false s.therm.dieWithdrawn (1 + (4 * c.val + i) / 12) then s else s.requestOn (4 * c.val + i)) s

theorem State.requestOn_keeps (n k : Nat) : ((s.requestOn n).dom k).on = (s.dom k).on ∧
    ((s.dom k).on = false → (s.dom k).switching = some true → ((s.requestOn n).dom k).switching = some true) := by
  have hv : (if n < 48 then (s.lcsOf n).foldl State.askOn s else s) = (if n < 48 then s.lcsOf n else []).foldl State.askOn s := by split <;> rfl
  obtain ⟨-, hd⟩ := State.askAll_facts (if n < 48 then s.lcsOf n else []) s
  rw [State.requestOn_eq, hv]
  generalize (if n < 48 then s.lcsOf n else []).foldl State.askOn s = v at hd
  obtain ⟨hon, hask⟩ := hd k
  obtain ⟨hon', hkeep⟩ := v.askOn_keeps n k
  exact ⟨hon'.trans hon, fun h hs => hkeep (hon.trans h) (hask h (.inr hs))⟩

theorem State.askCage_fold (l : List Nat) (s : State) :
    let t := l.foldl (fun (s : State) (i : Nat) => if tget false s.therm.dieWithdrawn (1 + (4 * c.val + i) / 12) then s else s.requestOn (4 * c.val + i)) s
    { t with power := s.power } = s ∧ ∀ k, (t.dom k).on = (s.dom k).on ∧ ((s.dom k).on = false → ((s.dom k).switching = some true ∨
      ∃ i ∈ l, k = 4 * c.val + i ∧ tget false s.therm.dieWithdrawn (1 + (4 * c.val + i) / 12) = false) → (t.dom k).switching = some true) := by
  induction l generalizing s with
  | nil => exact ⟨rfl, fun k => ⟨rfl, fun _ h => h.resolve_right (fun ⟨i, hi, _⟩ => List.not_mem_nil hi)⟩⟩
  | cons i l ih =>
    intro t
    generalize hv : (if tget false s.therm.dieWithdrawn (1 + (4 * c.val + i) / 12) then s else s.requestOn (4 * c.val + i)) = v
    have ht : t = l.foldl (fun (s : State) (i : Nat) => if tget false s.therm.dieWithdrawn (1 + (4 * c.val + i) / 12) then s else s.requestOn (4 * c.val + i)) v := by
      rw [← hv]
      rfl
    obtain ⟨hf, hd⟩ := ih v
    rw [← ht] at hf hd
    have hfv : { v with power := s.power } = s := by
      rw [← hv]
      split
      · rfl
      · exact (s.requestOn_facts _).1
    have htherm : v.therm = s.therm := (congrArg State.therm hfv :)
    refine ⟨(congrArg (fun x : State => { x with power := s.power }) hf :).trans hfv, fun k => ?_⟩
    obtain ⟨hon, hask⟩ := hd k
    have hv1 : (v.dom k).on = (s.dom k).on ∧ ((s.dom k).on = false → (s.dom k).switching = some true → (v.dom k).switching = some true) := by
      rw [← hv]
      split
      · exact ⟨rfl, fun _ h => h⟩
      · exact State.requestOn_keeps _ k
    refine ⟨hon.trans hv1.1, fun hoff h => hask (hv1.1.trans hoff) ?_⟩
    rcases h with h | ⟨j, hj, hk, hw⟩
    · exact .inl (hv1.2 hoff h)
    · rcases List.mem_cons.mp hj with rfl | hj
      · left
        rw [← hv, hw, if_neg Bool.false_ne_true, hk]
        exact (s.requestOn_facts _).2.2.1 (by rw [← hk]; exact hoff)
      · exact .inr ⟨j, hj, hk, by rw [htherm]; exact hw⟩

/-! #### The wave of a cage (R464) -/

/-- The wave of a cage is taken from those set down. -/
def State.waveTaken (s : State) (c : CageNum) : State := s.onList (fun l => { l with waves := l.waves.filter (fun w => w.1 != c) })

theorem doCageWaveStart_due {t : Nat} (hf : s.foggy = false) (hw : (c, t) ∈ s.list.waves) (ht : t ≤ s.clk.now) : doCageWaveStart c s =
    (if (s.cageEntry c).state = 1 then
      let v := if s.hbmOn then (s.waveTaken c).askCage c else s.waveTaken c
      let u := if [0, 1, 2, 3].any (fun i => v.domOn (4 * c.val + i) || ((v.dom (4 * c.val + i)).switching == some true && !v.onDarkDie (4 * c.val + i)))
        then v.powerCage c else v
      (if (u.cage c).ready then (cagePorts c).foldl (fun v d => v.light d) u else u).settle
    else s.waveTaken c) := by
  have hdue : (!s.foggy && s.list.waves.any (fun w => w.1 == c && decide (w.2 ≤ s.clk.now))) = true := by
    rw [hf, Bool.not_false, Bool.true_and, List.any_eq_true]
    exact ⟨_, hw, by rw [beq_self_eq_true, decide_eq_true ht]; rfl⟩
  unfold doCageWaveStart
  exact if_pos hdue

theorem State.waveAsked_facts : let v := if s.hbmOn then (s.waveTaken c).askCage c else s.waveTaken c
    v.list = { s.list with waves := s.list.waves.filter (fun w => w.1 != c) } ∧ v.ports = s.ports ∧ v.out = s.out ∧
    (s.hbmOn = true → ∀ i, i < 4 → tget false s.therm.dieWithdrawn (1 + (4 * c.val + i) / 12) = false → s.domOn (4 * c.val + i) = false →
      (v.dom (4 * c.val + i)).switching = some true) := by
  obtain ⟨hf, hd⟩ := State.askCage_fold (c := c) [0, 1, 2, 3] (s.waveTaken c)
  rw [show [0, 1, 2, 3].foldl (fun (s : State) (i : Nat) => if tget false s.therm.dieWithdrawn (1 + (4 * c.val + i) / 12) then s else s.requestOn (4 * c.val + i)) (s.waveTaken c) =
    (s.waveTaken c).askCage c from rfl] at hf hd
  intro v
  by_cases hh : s.hbmOn = true
  · have hv : v = (s.waveTaken c).askCage c := if_pos hh
    rw [hv]
    refine ⟨(congrArg State.list hf :), (congrArg State.ports hf :), (congrArg State.out hf :), fun _ i hi hw hon => (hd _).2 hon (.inr ⟨i, ?_, rfl, hw⟩)⟩
    have : i = 0 ∨ i = 1 ∨ i = 2 ∨ i = 3 := by omega
    simpa using this
  · have hv : v = s.waveTaken c := if_neg hh
    rw [hv]
    exact ⟨rfl, rfl, rfl, fun h => absurd h hh⟩

end
end Sys2Proof.Machine

namespace Sys2Proof.Machine
open Sys2Proof

section
variable {s : State} {c : CageNum} {d : DPort}

/-! #### A pin that shows a level leaves the ports and what is sent -/

theorem State.sampleLine_frame (n : Nat) : { s.sampleLine n with evus := s.evus, power := s.power } = s := by
  have relevel : ∀ v : State, { v.relevel 0 n with evus := v.evus } = v := by
    intro v
    unfold State.relevel
    dsimp only
    split <;> rfl
  unfold State.sampleLine
  dsimp only
  split
  · exact (congrArg (fun v : State => { v with evus := s.evus, power := s.power }) (relevel (s.modEvu 0 _)) :)
  · split
    · split <;> rfl
    · split
      · unfold State.lineChange
        dsimp only
        split
        · exact (congrArg (fun v : State => { v with evus := s.evus, power := s.power }) (State.fire_frame (s.modEvu 0 _) 0 n) :)
        · exact (congrArg (fun v : State => { v with evus := s.evus, power := s.power }) (relevel (s.modEvu 0 _)) :)
      · rfl

theorem State.pinShows_frame (n : Nat) (level : Bool) : { s.pinShows n level with side := s.side, evus := s.evus, power := s.power } = s := by
  rw [State.pinShows_eq]
  split
  · exact (congrArg (fun v : State => { v with side := s.side }) (State.sampleLine_frame (s := s.pinned n level) n) :)
  · rfl

theorem State.pinShows_line (n : Nat) (level : Bool) (h : n ≠ 167) : (s.pinShows n level).line n = level := by
  have hline : (s.pinned n level).line n = level := by
    rw [State.pinned_line, if_pos rfl, bne_iff_ne.mpr h, Bool.true_or, Bool.and_true]
  rw [State.pinShows_eq]
  split
  · have hf := State.sampleLine_frame (s := s.pinned n level) n
    exact (congrArg (fun v : State => v.line n) hf :).trans hline
  · exact hline

/-! #### A module answers (R103, R259, R284) -/

/-- What the module is that a cage's entry does not expect (R103). -/
def otherModule (e : CageEntry) (ident media : Byte) : Prop := ident ≠ e.ident ∨ (e.media ≠ 0xFF ∧ media ≠ e.media)

theorem otherModule_iff (e : CageEntry) (ident media : Byte) : (ident != e.ident || (e.media != 0xFF && media != e.media)) = true ↔ otherModule e ident media := by
  rw [Bool.or_eq_true, Bool.and_eq_true, bne_iff_ne, bne_iff_ne, bne_iff_ne]
  rfl

/-- The fences of a wrong module lift while the next one is checked. -/
def State.typeLifted (s : State) (c : CageNum) : State := (cagePorts c).foldl (fun s d => (s.liftFence d .cageType).liftFence d .cagePower) s

theorem State.typeLifted_recs : portRecs s (s.typeLifted c) := portRecs_foldl (fun _ _ => (portRecs_modPort _).trans (portRecs_modPort _)) _ s

/-- The equalisers of a cage's lanes set from the media type (R250). -/
def State.equalised (s : State) (c : CageNum) (media : Byte) : State :=
  (cagePorts c).foldl (fun s d => s.modPort d (fun p => { p with equaliser := some (Config.equaliser media) })) s

theorem State.equalised_recs (media : Byte) : portRecs s (s.equalised c media) := portRecs_foldl (fun _ _ => portRecs_modPort _) _ s

theorem State.equalised_port (media : Byte) (hd : d ∈ cagePorts c) : ((s.equalised c media).port d).equaliser = some (Config.equaliser media) :=
  foldPorts_mem (P := fun q => q.equaliser = some (Config.equaliser media)) (fun s d => congrArg Port.equaliser (s.port_modPort d _))
    (fun s d e he => s.port_modPort_ne d e _ he) _ s hd

theorem doModuleInLowPowerMode_checked (hp : (s.cage c).powered = true) (hpr : (s.cage c).present = true) (hch : (s.cage c).checked = false) (ident media power : Byte) :
    doModuleInLowPowerMode c ident media power s =
      (if (ident != (s.cageEntry c).ident || ((s.cageEntry c).media != 0xFF && media != (s.cageEntry c).media)) then
        (((s.typeLifted c).modCage c (fun g => { g with failed := true, readyBy := none })).fenceCage c .cageType).logCage c none
      else if min (s.cageEntry c).pmax.toNat 32 < power.toNat then
        (((s.typeLifted c).modCage c (fun g => { g with failed := true, readyBy := none })).fenceCage c .cagePower).logCage c (some (power.setWidth 16))
      else (((s.typeLifted c).equalised c media).modCage c (fun g => { g with
        checked := true, failed := false, readyBy := some (((s.typeLifted c).equalised c media).clk.now + Config.cageReadyTicks) })).emit (.cageHighPower c)).settle := by
  unfold doModuleInLowPowerMode
  dsimp only
  rw [hp, hpr, hch, if_pos (by rfl)]
  rfl

theorem State.port_modCage (f : Cage → Cage) : (s.modCage c f).port d = s.port d := rfl

theorem State.modCage_frame (f : Cage → Cage) : { s.modCage c f with ports := s.ports } = s := rfl

/-- What checking a module leaves of the cage before it is fenced. -/
theorem State.failedModule_facts : let v := (s.typeLifted c).modCage c (fun g => { g with failed := true, readyBy := none })
    v.cage c = { s.cage c with failed := true, readyBy := none } ∧ v.out = s.out ∧ v.prog = s.prog := by
  obtain ⟨hrest, -⟩ := id (State.typeLifted_recs (s := s) (c := c))
  intro v
  refine ⟨((s.typeLifted c).cage_modCage c _).trans ?_, (congrArg State.out hrest :), (congrArg State.prog hrest :)⟩
  rw [State.typeLifted_recs.cage c]

theorem State.passedModule_facts (media : Byte) : let u := (((s.typeLifted c).equalised c media).modCage c (fun g => { g with
        checked := true, failed := false, readyBy := some (((s.typeLifted c).equalised c media).clk.now + Config.cageReadyTicks) })).emit (.cageHighPower c)
    u.cage c = { s.cage c with checked := true, failed := false, readyBy := some (s.clk.now + 46875000) } ∧ u.out = .cageHighPower c :: s.out ∧
      (∀ d ∈ cagePorts c, (u.port d).equaliser = some (Config.equaliser media)) ∧ u.prog = s.prog ∧ u.queues = s.queues := by
  have hrecs := (State.typeLifted_recs (s := s) (c := c)).trans (State.equalised_recs (c := c) media)
  obtain ⟨hrest, -⟩ := id hrecs
  have heq : ∀ d ∈ cagePorts c, (((s.typeLifted c).equalised c media).port d).equaliser = some (Config.equaliser media) := fun d hd => State.equalised_port media hd
  generalize (s.typeLifted c).equalised c media = w at hrecs hrest heq
  have hclk : w.clk = s.clk := (congrArg State.clk hrest :)
  have hout : w.out = s.out := (congrArg State.out hrest :)
  refine ⟨(w.cage_modCage c _).trans ?_, congrArg (Out.cageHighPower c :: ·) hout, heq, (congrArg State.prog hrest :), (congrArg State.queues hrest :)⟩
  rw [hrecs.cage c, hclk, cageReadyTicks_eq]

theorem doModuleReady_ready (hp : (s.cage c).powered = true) (hpr : (s.cage c).present = true) (hch : (s.cage c).checked = true) (hr : (s.cage c).ready = false) :
    doModuleReady c s = ((cagePorts c).foldl (fun s d => s.light d) ((s.modCage c (fun g => { g with ready := true, readyBy := none, recheckAt := none })).liftCage c)).settle := by
  unfold doModuleReady
  dsimp only
  rw [hp, hpr, hch, hr]
  exact if_pos rfl

theorem State.light_lit (hm : s.mayLight d = true) (ht : (s.port d).txOn = false) :
    s.light d = s.modPort d (fun p => { p with txOn := true, link := 2, fec := (tget {} s.list.cages (portCage d).val).fec.getLsbD (d.val % 8) }) :=
  if_pos (by rw [hm, ht]; rfl)

/-! #### Modules in and out (R285, R513) -/

theorem State.cageEntry_congr {t u : State} (h : t.list = u.list) (c : CageNum) : t.cageEntry c = u.cageEntry c := by rw [State.cageEntry, h]; rfl

/-- A module seen in its cage. -/
def State.moduleSeen (s : State) (c : CageNum) : State := (s.pinShows (184 + c.val) false).modCage c (fun g => { g with present := true, reported := false })

theorem State.moduleSeen_frame : { s.moduleSeen c with ports := s.ports, side := s.side, evus := s.evus, power := s.power } = s :=
  (congrArg (fun v : State => { v with ports := s.ports }) (State.pinShows_frame (s := s) (184 + c.val) false) :)

theorem State.pinShows_ports (n : Nat) (level : Bool) : (s.pinShows n level).ports = s.ports := (congrArg State.ports (State.pinShows_frame (s := s) n level) :)

theorem State.moduleSeen_cage : (s.moduleSeen c).cage c = { s.cage c with present := true, reported := false } := by
  refine ((s.pinShows (184 + c.val) false).cage_modCage c _).trans ?_
  rw [State.cage_congr (congrArg (fun p => p.cages) (State.pinShows_ports (184 + c.val) false))]

theorem State.moduleSeen_ports : (s.moduleSeen c).ports.ports = s.ports.ports := congrArg (fun p => p.ports) (State.pinShows_ports (184 + c.val) false)

/-- A module where none is named is reported (R103). -/
def State.moduleReported (s : State) (c : CageNum) : State := (s.moduleSeen c).modCage c (fun g => { g with reported := true })

/-- A module put in again clears the trip of its cage (R513). -/
def State.moduleUntripped (s : State) (c : CageNum) : State := (s.moduleSeen c).modCage c (fun g => { g with tripped := false })

/-- A module put into a powered cage is waited for (R285). -/
def State.moduleAwaited (s : State) (c : CageNum) : State := ((s.moduleSeen c).liftCage c).modCage c (fun g => { g with
        checked := false, ready := false, failed := false, recheckAt := none
        readyBy := some ((s.moduleSeen c).clk.now + Config.ms100Ticks + Config.cageReadyTicks) })

theorem State.moduleSeen_list : (s.moduleSeen c).list = s.list := (congrArg State.list (State.moduleSeen_frame (s := s) (c := c)) :)

theorem State.moduleSeen_out : (s.moduleSeen c).out = s.out := (congrArg State.out (State.moduleSeen_frame (s := s) (c := c)) :)

theorem State.moduleSeen_clk : (s.moduleSeen c).clk = s.clk := (congrArg State.clk (State.moduleSeen_frame (s := s) (c := c)) :)

section
variable (hp : (s.cage c).present = false)
include hp

theorem doModuleInserted_unnamed (hst : (s.cageEntry c).state ≠ 1) (hl : s.list.loaded = true) :
    doModuleInserted c s = ((s.moduleReported c).logCage c none).settle := by
  have hentry : ((s.moduleSeen c).cageEntry c).state ≠ 1 := by
    rw [State.cageEntry_congr State.moduleSeen_list]
    exact hst
  have hload : (s.moduleSeen c).list.loaded = true := by rw [State.moduleSeen_list]; exact hl
  unfold doModuleInserted
  refine (if_neg (by rw [hp]; decide)).trans ?_
  refine (if_pos (bne_iff_ne.mpr hentry)).trans ?_
  exact if_pos hload

theorem doModuleInserted_tripped (hst : (s.cageEntry c).state = 1) (htr : (s.cage c).tripped = true) : doModuleInserted c s =
    (if [0, 1, 2, 3].any (fun i => (s.moduleUntripped c).domOn (4 * c.val + i)) then (s.moduleUntripped c).powerCage c else s.moduleUntripped c).settle := by
  have hentry : ((s.moduleSeen c).cageEntry c).state = 1 := by
    rw [State.cageEntry_congr State.moduleSeen_list]
    exact hst
  unfold doModuleInserted
  refine (if_neg (by rw [hp]; decide)).trans ?_
  refine (if_neg (fun h => bne_iff_ne.mp h hentry)).trans ?_
  exact if_pos htr

theorem doModuleInserted_powered (hst : (s.cageEntry c).state = 1) (htr : (s.cage c).tripped = false) (hpw : (s.cage c).powered = true) :
    doModuleInserted c s = (s.moduleAwaited c).settle := by
  have hentry : ((s.moduleSeen c).cageEntry c).state = 1 := by
    rw [State.cageEntry_congr State.moduleSeen_list]
    exact hst
  unfold doModuleInserted State.moduleAwaited
  dsimp only
  rw [show (s.pinShows (184 + c.val) false).modCage c (fun g => { g with present := true, reported := false }) = s.moduleSeen c from rfl]
  generalize s.moduleSeen c = v at hentry
  rw [hp, if_neg Bool.false_ne_true, hentry, if_neg (by decide), htr, if_neg Bool.false_ne_true, hpw, if_pos rfl]

end

theorem State.moduleReported_cage : (s.moduleReported c).cage c = { s.cage c with present := true, reported := true } := by
  refine ((s.moduleSeen c).cage_modCage c _).trans ?_
  rw [State.moduleSeen_cage]

theorem State.moduleUntripped_cage : (s.moduleUntripped c).cage c = { s.cage c with present := true, reported := false, tripped := false } := by
  refine ((s.moduleSeen c).cage_modCage c _).trans ?_
  rw [State.moduleSeen_cage]

theorem State.moduleAwaited_cage : (s.moduleAwaited c).cage c = { s.cage c with
    present := true, reported := false, checked := false, ready := false, failed := false, recheckAt := none, readyBy := some (s.clk.now + 62500000) } := by
  refine (((s.moduleSeen c).liftCage c).cage_modCage c _).trans ?_
  rw [State.liftCage_recs.cage c, State.moduleSeen_cage, State.moduleSeen_clk, poweredTicks_eq]

theorem State.moduleAwaited_lifted (htr : (s.cage c).tripped = false) (hr : (s.cage c).retired = false) (hd : d ∈ cagePorts c) :
    noCageFence ((s.moduleAwaited c).port d) := by
  have hcage := State.moduleSeen_cage (s := s) (c := c)
  exact State.liftCage_lifted (s := s.moduleSeen c) (by rw [hcage]; exact htr) (by rw [hcage]; exact hr) hd

theorem State.moduleAwaited_out : (s.moduleAwaited c).out = s.out :=
  (congrArg State.out (State.liftCage_recs (s := s.moduleSeen c) (c := c)).1 :).trans State.moduleSeen_out

/-- A module gone from its cage. -/
def State.moduleGone (s : State) (c : CageNum) : State := (s.pinShows (184 + c.val) true).modCage c (fun g => { g with
      present := false, checked := false, ready := false, failed := false, readyBy := none, recheckAt := none, reported := true })

theorem State.moduleGone_frame : { s.moduleGone c with ports := s.ports, side := s.side, evus := s.evus, power := s.power } = s :=
  (congrArg (fun v : State => { v with ports := s.ports }) (State.pinShows_frame (s := s) (184 + c.val) true) :)

theorem State.moduleGone_cage : (s.moduleGone c).cage c =
    { s.cage c with present := false, checked := false, ready := false, failed := false, readyBy := none, recheckAt := none, reported := true } := by
  refine ((s.pinShows (184 + c.val) true).cage_modCage c _).trans ?_
  rw [State.cage_congr (congrArg (fun p => p.cages) (State.pinShows_ports (184 + c.val) true))]

theorem State.moduleGone_ports : (s.moduleGone c).ports.ports = s.ports.ports := congrArg (fun p => p.ports) (State.pinShows_ports (184 + c.val) true)

theorem State.moduleGone_line : (s.moduleGone c).line (184 + c.val) = true := State.pinShows_line (s := s) (184 + c.val) true (by omega)

section
variable (hp : (s.cage c).present = true)
include hp

omit hp in
theorem moduleGone_entry : ((s.moduleGone c).cageEntry c).state = (s.cageEntry c).state := by
  have hlist : (s.moduleGone c).list = s.list := (congrArg State.list (State.moduleGone_frame (s := s) (c := c)) :)
  rw [State.cageEntry_congr hlist]

theorem doModuleRemoved_unnamed (hpw : (s.cage c).powered = false) (hst : (s.cageEntry c).state ≠ 1) : doModuleRemoved c s = s.moduleGone c := by
  have hst' : ((s.moduleGone c).cageEntry c).state ≠ 1 := by rw [moduleGone_entry]; exact hst
  unfold doModuleRemoved
  refine (if_neg (by rw [hp]; decide)).trans ?_
  exact if_neg (by rw [hpw, Bool.false_or]; exact fun h => hst' (of_decide_eq_true h))

theorem doModuleRemoved_unpowered (hpw : (s.cage c).powered = false) (hst : (s.cageEntry c).state = 1) : doModuleRemoved c s =
    ((((cagePorts c).foldl (fun v d => (if (v.port d).txOn then v.retrain d else v).darken d) (s.moduleGone c)).fenceCage c .cageAbsent).logCage c none).settle := by
  have hst' : ((s.moduleGone c).cageEntry c).state = 1 := by rw [moduleGone_entry]; exact hst
  unfold doModuleRemoved
  refine (if_neg (by rw [hp]; decide)).trans ?_
  rw [hpw]
  exact if_pos (by rw [Bool.false_or]; exact decide_eq_true hst')

theorem doModuleRemoved_powered (hpw : (s.cage c).powered = true) : doModuleRemoved c s =
    ((((cagePorts c).foldl (fun v d => ((if (v.port d).txOn then v.retrain d else v).darken d).awaitModule d) (s.moduleGone c)).fenceCage c .cageAbsent).logCage c none).settle := by
  unfold doModuleRemoved
  refine (if_neg (by rw [hp]; decide)).trans ?_
  rw [hpw]
  exact if_pos rfl

end

theorem State.logCage_reading (r : W16) (hd : s.data.inService = true) : (s.logCage c (some r)).faults.next = s.faults.next + 1 ∧
    (s.logCage c (some r)).prog = s.prog := ⟨State.logFault_uncounted_next _ _ rfl hd, State.logFault_prog _ _ _ _ _⟩

end

end Sys2Proof.Machine

namespace Sys2Proof.Machine
open Sys2Proof

section
variable {s : State} {c : CageNum} {d : DPort}

theorem fiveSecTicks_eq : Config.fiveSecTicks = 781250000 := rfl

theorem doCageReadyTimeout_over {t : Nat} (hr : (s.cage c).readyBy = some t) (ht : t ≤ s.clk.now) (hn : (s.cage c).ready = false) :
    doCageReadyTimeout c s =
      (((s.modCage c (fun g => { g with readyBy := none, recheckAt := some (s.clk.now + 781250000) })).fenceCage c .cageAbsent).logCage c none).settle := by
  unfold doCageReadyTimeout
  rw [hr, fiveSecTicks_eq]
  exact if_pos (by rw [hn, decide_eq_true ht]; rfl)

theorem doCageRecheck_over {t : Nat} (hr : (s.cage c).recheckAt = some t) (ht : t ≤ s.clk.now) :
    doCageRecheck c s = s.modCage c (fun g => { g with recheckAt := none, checked := false, readyBy := some (s.clk.now + 46875000) }) := by
  unfold doCageRecheck
  rw [hr, cageReadyTicks_eq]
  exact if_pos ht

theorem doCageRecheck_early {t : Nat} (hr : (s.cage c).recheckAt = some t) (ht : s.clk.now < t) : doCageRecheck c s = s := by
  unfold doCageRecheck
  rw [hr]
  exact if_neg (Nat.not_le.mpr ht)

theorem State.cage_modCage_ne {e : CageNum} (f : Cage → Cage) (h : e ≠ c) : (s.modCage c f).cage e = s.cage e :=
  tget_tmod_ne _ _ _ _ _ (fun hk => h (Fin.ext hk))

end

/-- Settles O56: each command by what its due case leaves before what follows every command. -/
theorem cages : Obligations.Cages := by
  unfold Obligations.Cages
  refine ⟨?_, ?_, ?_, ?_, ?_, ?_, ?_, ?_⟩
  · intro c t s hf hw ht
    have hdue := doCageWaveStart_due hf hw ht
    refine ⟨fun hst => ?_, fun hst => ⟨if s.hbmOn then (s.waveTaken c).askCage c else s.waveTaken c, ?_, ?_⟩⟩
    · rw [if_neg hst] at hdue
      exact congrArg Host.Outcome.next hdue
    · rw [if_pos hst] at hdue
      exact congrArg Host.Outcome.next hdue
    · exact State.waveAsked_facts
  · exact fun c s hr ht hp => State.powerCage_cage hr ht hp
  · exact fun c f s d hd => State.fenceCage_raised f hd
  · intro c ident media power s hp hpr hch
    have hcheck := doModuleInLowPowerMode_checked hp hpr hch ident media power
    have hother := otherModule_iff (s.cageEntry c) ident media
    refine ⟨fun ho hpow => ?_, fun ho => ?_, fun ho hpow => ?_⟩
    · rw [if_neg (fun h => ho (hother.mp h)), if_neg (Nat.not_lt.mpr hpow)] at hcheck
      exact ⟨_, congrArg Host.Outcome.next hcheck, State.passedModule_facts media⟩
    · rw [if_pos (hother.mpr ho)] at hcheck
      exact ⟨_, congrArg Host.Outcome.next hcheck, State.failedModule_facts⟩
    · rw [if_neg (fun h => ho (hother.mp h)), if_pos hpow] at hcheck
      exact ⟨_, congrArg Host.Outcome.next hcheck, State.failedModule_facts⟩
  · intro c s hp hpr hch hr
    have hcage := s.cage_modCage c (fun g => { g with ready := true, readyBy := none, recheckAt := none })
    have hlift : ∀ v : State, (v.cage c).tripped = false → (v.cage c).retired = false → ∀ d ∈ cagePorts c, noCageFence ((v.liftCage c).port d) :=
      fun v htr hre d hd => State.liftCage_lifted htr hre hd
    refine ⟨_, congrArg Host.Outcome.next (doModuleReady_ready hp hpr hch hr), (State.liftCage_recs.cage c).trans hcage,
      fun htr hre => hlift _ (by rw [hcage]; exact htr) (by rw [hcage]; exact hre), (congrArg State.out State.liftCage_recs.1 :),
      (congrArg State.prog State.liftCage_recs.1 :)⟩
  · intro c d s hm ht hc
    rw [State.light_lit hm ht]
    refine ⟨(s.port_modPort d _).trans ?_, fun x hx => s.port_modPort_ne d x _ hx⟩
    rw [← hc]
    rfl
  · refine fun c t s => ⟨fun hr ht hn => ?_, fun hr ht => ?_, fun hr ht => ?_⟩
    · exact ⟨_, congrArg Host.Outcome.next (doCageReadyTimeout_over hr ht hn), s.cage_modCage c _, rfl, rfl⟩
    · exact ⟨_, congrArg Host.Outcome.next (doCageRecheck_over hr ht), s.cage_modCage c _, fun x hx => State.cage_modCage_ne _ hx, rfl, rfl⟩
    · exact congrArg Host.Outcome.next (doCageRecheck_early hr ht)
  · intro c reading temp rx s
    refine ⟨fun hp hst htr hpw => ?_, fun hp hst htr => ?_, fun hp hst hl => ?_, fun hp => ?_, fun hp hpw hst => ?_, fun hp hpw hst => ?_, fun hp hpw => ?_,
      fun hpw hp hd => ?_, fun hpw => ?_, fun hpw => ?_⟩
    · exact ⟨_, congrArg Host.Outcome.next (doModuleInserted_powered hp hst htr hpw), State.moduleAwaited_cage,
        fun hr d hd => (State.moduleAwaited_lifted htr hr hd).1, State.moduleAwaited_out⟩
    · exact ⟨s.moduleUntripped c, congrArg Host.Outcome.next (doModuleInserted_tripped hp hst htr), State.moduleUntripped_cage, State.moduleSeen_ports,
        State.moduleSeen_out⟩
    · exact ⟨s.moduleReported c, congrArg Host.Outcome.next (doModuleInserted_unnamed hp hst hl), State.moduleReported_cage, State.moduleSeen_ports,
        State.moduleSeen_out⟩
    · exact congrArg Host.Outcome.next (if_pos hp)
    · exact ⟨_, congrArg Host.Outcome.next (doModuleRemoved_unnamed hp hpw hst), State.moduleGone_cage, State.moduleGone_frame, State.moduleGone_ports,
        State.moduleGone_line⟩
    · exact ⟨s.moduleGone c, congrArg Host.Outcome.next (doModuleRemoved_unpowered hp hpw hst), State.moduleGone_cage, State.moduleGone_ports,
        (congrArg State.out State.moduleGone_frame :)⟩
    · exact ⟨s.moduleGone c, congrArg Host.Outcome.next (doModuleRemoved_powered hp hpw), State.moduleGone_cage, State.moduleGone_ports,
        (congrArg State.out State.moduleGone_frame :)⟩
    · have hon : ((s.cage c).powered && (s.cage c).present) = true := by rw [hpw, hp]; rfl
      obtain ⟨hnext, hprog⟩ := State.logCage_reading (c := c) reading hd
      exact ⟨⟨_, congrArg Host.Outcome.next (if_pos hon), hnext, State.logCage_ports _, hprog⟩,
        ⟨_, congrArg Host.Outcome.next (if_pos hon), s.cage_modCage c _, rfl, rfl⟩⟩
    · exact congrArg Host.Outcome.next (if_pos hpw)
    · exact congrArg Host.Outcome.next (if_neg (by rw [hpw]; decide))

end Sys2Proof.Machine

namespace Sys2Proof.Machine
open Sys2Proof

/-! ### Block lock of a port whose HELLO was refused (R258, R331, R393) -/

/-- A module in Idle whose port 0 is lit and waits out a refused HELLO, with the event unit of its channel die on. -/
def idleRefused : State :=
  (State.reset.modPort 0 (fun p => { p with txOn := true, refusedAt := some 1 })).onPower (fun p => { p with
    mode := .idle, domains := tset p.domains 48 { on := true } })

/-- The link event of the block lock is a piece of work: the module leaves Idle. -/
theorem idleRefused_works : (doBlockLock 0 idleRefused).power.mode = .run := by decide

/-- Refutes O57: block lock of a port that waits out a refused HELLO fires the port's link source, and a source that fires ends Idle, so the power part does
not stay as before. -/
theorem not_linkBringUp : ¬ Obligations.LinkBringUp := by
  unfold Obligations.LinkBringUp
  intro h
  obtain ⟨-, hrefused, -⟩ := h.1 0 0 idleRefused
  obtain ⟨u, hu, -, -, hrest⟩ := hrefused (by decide) (by decide) (by decide)
  have hpower : u.power = idleRefused.power := (congrArg State.power hrest :)
  have hworks : u.power.mode = .run := by
    rw [← Host.Outcome.next.inj hu]
    exact idleRefused_works
  rw [hpower] at hworks
  exact absurd hworks (by decide)

end Sys2Proof.Machine

namespace Sys2Proof.Machine
open Sys2Proof

/-! ### The exchanges of a port (R268, R269, R274) -/

section
variable {s : State} {d : DPort} {g : Tag} {e : Exch}

/-! #### Changes of one port, and of what its frames held -/

theorem onlyPort.refl (s : State) : onlyPort d s s := ⟨fun _ _ => rfl, rfl, rfl⟩

theorem onlyPort.trans {u v : State} (h : onlyPort d s u) (h' : onlyPort d u v) : onlyPort d s v := by
  obtain ⟨hne, hcages, hrest⟩ := h
  obtain ⟨hne', hcages', hrest'⟩ := h'
  exact ⟨fun x hx => (hne' x hx).trans (hne x hx), hcages'.trans hcages,
    (congrArg (fun v : State => { v with ports := s.ports, power := s.power }) hrest' :).trans hrest⟩

theorem onlyPort_modPort (f : Port → Port) : onlyPort d s (s.modPort d f) := ⟨fun x hx => s.port_modPort_ne d x f hx, rfl, rfl⟩

theorem onlyPort_work : onlyPort d s s.work := ⟨fun _ _ => rfl, rfl, rfl⟩

/-- Every part of the state is as before but port `d`, the power mode, the event units, and the buffers and accounts of what the port's frames held. -/
def onlyLink (d : DPort) (s t : State) : Prop :=
  (∀ x, x ≠ d → t.port x = s.port x) ∧ t.ports.cages = s.ports.cages ∧
    { t with ports := s.ports, power := s.power, evus := s.evus, data := s.data, faults := s.faults } = s

theorem onlyLink.trans {u v : State} (h : onlyLink d s u) (h' : onlyLink d u v) : onlyLink d s v := by
  obtain ⟨hne, hcages, hrest⟩ := h
  obtain ⟨hne', hcages', hrest'⟩ := h'
  exact ⟨fun x hx => (hne' x hx).trans (hne x hx), hcages'.trans hcages,
    (congrArg (fun v : State => { v with ports := s.ports, power := s.power, evus := s.evus, data := s.data, faults := s.faults }) hrest' :).trans hrest⟩

theorem onlyPort.link {t : State} (h : onlyPort d s t) : onlyLink d s t := by
  obtain ⟨hne, hcages, hrest⟩ := h
  exact ⟨hne, hcages, (congrArg (fun v : State => { v with evus := s.evus, data := s.data, faults := s.faults }) hrest :)⟩

theorem onlyLink_modPort (f : Port → Port) : onlyLink d s (s.modPort d f) := (onlyPort_modPort f).link

theorem onlyLink_of_frame {t : State} (h : { t with power := s.power, evus := s.evus, data := s.data, faults := s.faults } = s) : onlyLink d s t := by
  have hports : t.ports = s.ports := (congrArg State.ports h :)
  exact ⟨fun x _ => State.port_congr hports x, congrArg (fun p => p.cages) hports, (congrArg (fun v : State => { v with ports := s.ports }) h :)⟩

theorem onlyLink_firePort (n : Nat) : onlyLink d s (s.firePort d n) :=
  onlyLink_of_frame (congrArg (fun v : State => { v with data := s.data, faults := s.faults }) (State.fire_frame s _ _) :)

theorem onlyLink.prog {t : State} (h : onlyLink d s t) : t.prog = s.prog := (congrArg State.prog h.2.2 :)
theorem onlyLink.out {t : State} (h : onlyLink d s t) : t.out = s.out := (congrArg State.out h.2.2 :)
theorem onlyLink.clk {t : State} (h : onlyLink d s t) : t.clk = s.clk := (congrArg State.clk h.2.2 :)

/-! #### Frames that leave the queues -/

theorem State.dropRuns_frame (l : List Run) (s : State) : { s.dropRuns l with data := s.data, faults := s.faults } = s := by
  induction l generalizing s with
  | nil => rfl
  | cons x l ih =>
    rw [State.dropRuns, List.foldl_cons]
    exact (congrArg (fun v : State => { v with data := s.data, faults := s.faults }) (ih (s.dropRef x.buf))).trans (State.dropRef_frame _)

theorem State.dropRunsOf_frame {α : Type} (f : α → List Run) (l : List α) (s : State) :
    { l.foldl (fun s x => s.dropRuns (f x)) s with data := s.data, faults := s.faults } = s := by
  induction l generalizing s with
  | nil => rfl
  | cons x l ih => exact (congrArg (fun v : State => { v with data := s.data, faults := s.faults }) (ih (s.dropRuns (f x)))).trans (State.dropRuns_frame _ s)

/-- The queues of a port without the frames of a tag. -/
def Port.without (p : Port) (g : Tag) : Port :=
  let keep := fun (l : List TxItem) => l.filter (fun x => !(x.tag == some g))
  { p with ctrlQ := keep p.ctrlQ, dataQ := keep p.dataQ, resends := keep p.resends, controls := keep p.controls }

theorem State.unqueue_frame : { s.unqueue d g with data := s.data, faults := s.faults } = s.modPort d (fun p => p.without g) :=
  State.dropRunsOf_frame (fun x : TxItem => x.srcs) _ (s.modPort d (fun p => p.without g))

theorem onlyLink_of_dropped {u : State} (h : { u with data := s.data, faults := s.faults } = s) : onlyLink d s u :=
  onlyLink_of_frame (congrArg (fun v : State => { v with power := s.power, evus := s.evus }) h :)

theorem State.unqueue_port : (s.unqueue d g).port d = (s.port d).without g :=
  (State.port_congr (congrArg State.ports State.unqueue_frame :) d).trans (s.port_modPort d _)

theorem State.unqueue_link : onlyLink d s (s.unqueue d g) :=
  (onlyLink_modPort (fun p => p.without g)).trans (onlyLink_of_dropped (congrArg (fun v : State => v) State.unqueue_frame :))

theorem State.dropKept_frame (e : Exch) : { s.dropKept e with data := s.data, faults := s.faults } = s := State.dropRunsOf_frame (fun k : Nat × Frame × List Run => k.2.2) _ s

theorem State.freeTag_port : (s.freeTag d g).port d = { s.port d with freed := (s.port d).freed ++ [g.toNat] } := by
  have hf := State.dropAcct_frame ((s.modPort d (fun p => { p with freed := p.freed ++ [g.toNat] })).book 4 d.val (-1)) 9 (4096 * d.val + g.toNat)
  exact (State.port_congr (congrArg State.ports hf :) d).trans (s.port_modPort d _)

theorem State.freeTag_link : onlyLink d s (s.freeTag d g) := by
  have hf := State.dropAcct_frame ((s.modPort d (fun p => { p with freed := p.freed ++ [g.toNat] })).book 4 d.val (-1)) 9 (4096 * d.val + g.toNat)
  refine (onlyLink_modPort (fun p => { p with freed := p.freed ++ [g.toNat] })).trans (onlyLink_of_dropped (s := s.modPort d _) ?_)
  exact (congrArg (fun v : State => { v with data := s.data, faults := s.faults }) hf :)

/-! #### Exchanges closed and aborted -/

theorem State.closeExch_open (he : tfind (s.port d).exch g.toNat = some e) : (s.closeExch d g).port d = { (s.port d).without g with
    exch := tdel (s.port d).exch g.toNat, owed := (s.port d).owed ++ e.kept.map (fun k => (k.1, k.2.2)), freed := (s.port d).freed ++ [g.toNat] } := by
  unfold State.closeExch
  rw [he]
  dsimp only
  rw [State.freeTag_port, State.port_modPort, State.unqueue_port]
  rfl

theorem State.closeExch_link : onlyLink d s (s.closeExch d g) := by
  unfold State.closeExch
  split
  · exact (onlyPort.refl s).link
  · exact (State.unqueue_link.trans (onlyLink_modPort _)).trans State.freeTag_link

/-- A port that ends an exchange with an ABORT: its tag is in quarantine (R274). -/
def Port.aborting (p : Port) (g : Tag) (e : Exch) (reason : Byte) : Port := { p.without g with
    exch := tdel p.exch g.toNat
    quar := tset p.quar g.toNat ⟨e.gen, e.cuaddr, e.devaddr, reason, 0, none, false, false⟩
    controls := (p.without g).controls ++ [⟨exchFrame { control 3 with body := padTo 12 [reason] } g e, some g, []⟩] }

theorem State.abortExch_sent (he : tfind (s.port d).exch g.toNat = some e) (hs : e.sent = true) (hw : s.statusWaits d g e = false) (reason : Byte) :
    (s.abortExch d g reason).port d = (s.port d).aborting g e reason ∧ onlyLink d s (s.abortExch d g reason) := by
  have hk := State.dropKept_frame (s := s.unqueue d g) e
  have hport : ((s.unqueue d g).dropKept e).port d = (s.port d).without g := (State.port_congr (congrArg State.ports hk :) d).trans State.unqueue_port
  have hlink : onlyLink d s ((s.unqueue d g).dropKept e) := State.unqueue_link.trans (onlyLink_of_dropped hk)
  unfold State.abortExch
  rw [he]
  dsimp only
  rw [hs, hw, Bool.not_true, if_neg Bool.false_ne_true, if_neg Bool.false_ne_true]
  generalize (s.unqueue d g).dropKept e = u at hport hlink
  generalize hv : u.modPort d _ = v
  have hf := State.dropAcct_frame v 9 (4096 * d.val + g.toNat)
  refine ⟨(State.port_congr (congrArg State.ports hf :) d).trans ?_, (hlink.trans ?_).trans (onlyLink_of_dropped (congrArg (fun x : State => { x with data := v.data }) hf :))⟩
  · rw [← hv, State.port_modPort, hport]
    rfl
  · rw [← hv]
    exact onlyLink_modPort _

theorem State.abortExch_early (he : tfind (s.port d).exch g.toNat = some e) (hs : e.sent = true) (hw : s.statusWaits d g e = true) (reason : Byte) :
    s.abortExch d g reason = (s.closeExch d g).modPort d (fun p => { p with early := p.early ++ [(g.toNat, e.gen)] }) := by
  unfold State.abortExch
  rw [he]
  dsimp only
  rw [hs, hw, Bool.not_true, if_neg Bool.false_ne_true, if_pos rfl]

end
end Sys2Proof.Machine

namespace Sys2Proof.Machine
open Sys2Proof

/-! ### Exchange timers (R273, R274) -/

section
variable {s : State} {d : DPort} {g : Tag} {e : Exch} {t : Nat}

theorem State.isPast_due (h : t ≤ s.clk.now) : s.isPast (some t) = true := decide_eq_true h
theorem State.isPast_early (h : s.clk.now < t) : s.isPast (some t) = false := decide_eq_false (Nat.not_le.mpr h)

/-- An exchange of a program whose timer has run out is ended before its program meets the failure. -/
def State.timedOutExch (s : State) (d : DPort) (g : Tag) : State := (s.abortExch d g 3).firePort d 2

theorem State.exchTimeout_prog {sc : SC} (ho : e.owner = .prog sc) : s.exchTimeout d g e = (s.timedOutExch d g).exchFailed sc e.accepted true := by
  unfold State.exchTimeout
  rw [ho]
  rfl

theorem State.timedOutExch_quar (he : tfind (s.port d).exch g.toNat = some e) (hs : e.sent = true) (hw : s.statusWaits d g e = false) :
    tfind ((s.timedOutExch d g).port d).exch g.toNat = none ∧
    tfind ((s.timedOutExch d g).port d).quar g.toNat = some ⟨e.gen, e.cuaddr, e.devaddr, 3, 0, none, false, false⟩ ∧
    (⟨exchFrame { control 3 with body := padTo 12 [3] } g e, some g, []⟩ : TxItem) ∈ ((s.timedOutExch d g).port d).controls ∧
    (s.timedOutExch d g).prog = s.prog ∧ (s.timedOutExch d g).out = s.out := by
  obtain ⟨hport, hlink⟩ := State.abortExch_sent he hs hw 3
  have hlink' := hlink.trans (onlyLink_firePort 2)
  rw [State.timedOutExch, State.port_congr (State.firePort_ports 2), hport]
  exact ⟨tfind_tdel_same _ _, tfind_tset_same _ _ _, List.mem_append_right _ (List.mem_singleton.mpr rfl), hlink'.prog, hlink'.out⟩

theorem State.timedOutExch_early (he : tfind (s.port d).exch g.toNat = some e) (hs : e.sent = true) (hw : s.statusWaits d g e = true) :
    tfind ((s.timedOutExch d g).port d).exch g.toNat = none ∧ ((s.timedOutExch d g).port d).early = (s.port d).early ++ [(g.toNat, e.gen)] ∧
    ((s.timedOutExch d g).port d).quar = (s.port d).quar ∧ (s.timedOutExch d g).prog = s.prog ∧ (s.timedOutExch d g).out = s.out := by
  have hab := State.abortExch_early he hs hw 3
  have hlink : onlyLink d s (s.timedOutExch d g) := by
    rw [State.timedOutExch, hab]
    exact (State.closeExch_link.trans (onlyLink_modPort _)).trans (onlyLink_firePort 2)
  rw [hlink.prog, hlink.out, State.timedOutExch, State.port_congr (State.firePort_ports 2), hab, State.port_modPort, State.closeExch_open he]
  exact ⟨tfind_tdel_same _ _, rfl, rfl, rfl, rfl⟩

/-! #### The command timer -/

theorem doCommandTimeout_over (he : tfind (s.port d).exch g.toNat = some e) (hc : e.cmdAt = some t) (ht : t ≤ s.clk.now) (ha : e.accepted = false)
    (hw : s.acceptWaits d g e = false) : doCommandTimeout d g s = (s.exchTimeout d g e).settle := by
  unfold doCommandTimeout
  rw [he]
  exact if_pos (by rw [hc, State.isPast_due ht, ha, hw]; rfl)

theorem doCommandTimeout_not (he : tfind (s.port d).exch g.toNat = some e) (h : s.isPast e.cmdAt = false ∨ s.acceptWaits d g e = true) : doCommandTimeout d g s = s := by
  unfold doCommandTimeout
  rw [he]
  refine if_neg ?_
  rcases h with h | h <;> rw [h] <;> simp

/-! #### The inactivity timer -/

theorem statusWaits_of_frameWaits (h : s.frameWaits d g e = false) : s.statusWaits d g e = false := by
  rw [State.statusWaits, List.any_eq_false]
  intro f hf hx
  rw [State.frameWaits, List.any_eq_false] at h
  refine h f hf ?_
  rw [Bool.and_eq_true, Bool.and_eq_true] at hx
  obtain ⟨⟨hn, ht⟩, -⟩ := hx
  rw [hn, ht, Bool.true_and, Bool.or_true, Bool.true_or]

theorem doInactivityTimeout_over (he : tfind (s.port d).exch g.toNat = some e) (hc : e.inactAt = some t) (ht : t ≤ s.clk.now) (ha : e.accepted = true)
    (ho : s.owes d g e = false) (hw : s.frameWaits d g e = false) : doInactivityTimeout d g s = (s.exchTimeout d g e).settle := by
  unfold doInactivityTimeout
  rw [he]
  exact if_pos (by rw [hc, State.isPast_due ht, ha, ho, hw]; rfl)

theorem doInactivityTimeout_not (he : tfind (s.port d).exch g.toNat = some e) (h : s.owes d g e = true ∨ s.frameWaits d g e = true) :
    doInactivityTimeout d g s = s := by
  unfold doInactivityTimeout
  rw [he]
  refine if_neg ?_
  rcases h with h | h <;> rw [h] <;> simp

/-! #### The missing-data timer -/

/-- An exchange that asks again for data (R270). -/
def resendItem (g : Tag) (e : Exch) : TxItem := ⟨exchFrame { control 6 with seq := BitVec.ofNat 16 e.rxSeq } g e, some g, []⟩

theorem State.queueResend_port : (s.queueResend d g e).port d = { s.port d with
    resends := (s.port d).resends ++ [resendItem g e], resendTx := satInc (s.port d).resendTx } := s.port_modPort d _

theorem State.queueResend_only : onlyPort d s (s.queueResend d g e) := onlyPort_modPort _

theorem State.modExch_port (f : Exch → Exch) (he : tfind (s.port d).exch g.toNat = some e) :
    (s.modExch d g f).port d = { s.port d with exch := tset (s.port d).exch g.toNat (f e) } := by
  refine (s.port_modPort d _).trans ?_
  rw [tupd, he]

theorem msTicks_eq : Config.msTicks = 156250 := rfl
theorem commandTicks_eq : Config.commandTicks = 781250 := rfl

theorem doMissingDataTimeout_over (he : tfind (s.port d).exch g.toNat = some e) (hc : e.missAt = some t) (ht : t ≤ s.clk.now) (hi : e.input = true) :
    doMissingDataTimeout d g s = (s.modExch d g (fun e => { e with missAt := some (s.clk.now + 156250) })).queueResend d g e := by
  unfold doMissingDataTimeout
  rw [he, ← msTicks_eq]
  exact if_pos (by rw [hc, State.isPast_due ht, hi]; rfl)

theorem doMissingDataTimeout_early (he : tfind (s.port d).exch g.toNat = some e) (hc : e.missAt = some t) (ht : s.clk.now < t) : doMissingDataTimeout d g s = s := by
  unfold doMissingDataTimeout
  rw [he]
  exact if_neg (by rw [hc, State.isPast_early ht]; exact Bool.false_ne_true)

/-! #### The abort timer -/

variable {q : Quar}

/-- ABORT goes again. -/
def State.abortAgain (s : State) (d : DPort) (g : Tag) (q : Quar) : State :=
  (s.firePort d 2).modPort d (fun p => { p with
    quar := tset p.quar g.toNat { q with tries := q.tries + 1, expires := none }
    controls := p.controls ++
      [⟨{ control 3 with tag := g, gen := q.gen, cuaddr := q.cuaddr, devaddr := q.devaddr, body := padTo 12 [q.reason] }, some g, []⟩] })

/-- The tag is retired until the next HELLO. -/
def State.abortGiven (s : State) (d : DPort) (g : Tag) (q : Quar) : State :=
  (s.firePort d 2).modPort d (fun p => { p with quar := tset p.quar g.toNat { q with expires := none, retired := true } })

theorem doAbortTimeout_over (hq : tfind (s.port d).quar g.toNat = some q) (hs : q.sent = true) (hx : q.expires = some t) (ht : t ≤ s.clk.now) :
    doAbortTimeout d g s = (if q.tries < 3 then s.abortAgain d g q else s.abortGiven d g q).settle := by
  unfold doAbortTimeout
  rw [hq]
  exact if_pos (by rw [hx, State.isPast_due ht, hs]; rfl)

theorem doAbortTimeout_early (hq : tfind (s.port d).quar g.toNat = some q) (hx : q.expires = some t) (ht : s.clk.now < t) : doAbortTimeout d g s = s := by
  unfold doAbortTimeout
  rw [hq]
  exact if_neg (by rw [hx, State.isPast_early ht]; exact Bool.false_ne_true)

theorem State.fired_modPort (n : Nat) (f : Port → Port) : ((s.firePort d n).modPort d f).port d = f (s.port d) ∧
    ((s.firePort d n).modPort d f).prog = s.prog ∧ ((s.firePort d n).modPort d f).out = s.out := by
  have hlink := (onlyLink_firePort (s := s) (d := d) n).trans (onlyLink_modPort (d := d) f)
  exact ⟨((s.firePort d n).port_modPort d f).trans (congrArg f (State.port_congr (State.firePort_ports n) d)), hlink.prog, hlink.out⟩

end
end Sys2Proof.Machine

namespace Sys2Proof.Machine
open Sys2Proof

/-! ### The transmitter (R265, R267, R283) -/

section
variable {s : State} {d : DPort} {f : Frame}

theorem State.sendFrame_port : (s.sendFrame d f).port d = { s.port d with lastTx := s.clk.now, echoDue := false } := s.port_modPort d _
theorem State.sendFrame_port_ne {x : DPort} (h : x ≠ d) : (s.sendFrame d f).port x = s.port x := s.port_modPort_ne d x _ h
theorem State.sendFrame_out : (s.sendFrame d f).out = .frame d (sealFrame f) :: s.out := rfl

/-- The frame `f` is sent, the port's record becomes `q`, and nothing else changes. -/
def sendsFrame (d : DPort) (f : Frame) (q : Port) (s u : State) : Prop :=
  u.out = .frame d (sealFrame f) :: s.out ∧ u.port d = q ∧ (∀ x, x ≠ d → u.port x = s.port x) ∧ { u with ports := s.ports, out := s.out } = s

theorem sendsFrame_modPort (h : Port → Port) : sendsFrame d f { h (s.port d) with lastTx := s.clk.now, echoDue := false } s ((s.modPort d h).sendFrame d f) := by
  refine ⟨rfl, ?_, fun x hx => ?_, rfl⟩
  · rw [State.sendFrame_port, State.port_modPort]
    rfl
  · exact (State.sendFrame_port_ne hx).trans (s.port_modPort_ne d x h hx)

theorem sendsFrame_sendFrame : sendsFrame d f { s.port d with lastTx := s.clk.now, echoDue := false } s (s.sendFrame d f) :=
  ⟨rfl, State.sendFrame_port, fun _ hx => State.sendFrame_port_ne hx, rfl⟩

theorem State.creditsWaiting_none (h : s.waitingFrames d = []) : s.creditsWaiting d = s := by
  rw [State.creditsWaiting, h]
  rfl

/-! #### The choice at a frame boundary (R283) -/

/-- What a port on which HELLO has been exchanged sends next. -/
def State.chooseFrame (s : State) (d : DPort) (e : Ecc) : State :=
  let p := s.port d
  match p.resends, decide (0 < p.cHand) with
  | i :: rest, true => ((s.spendCtrl d).modPort d (fun p => { p with resends := rest })).sendFrame d i.frame
  | resends, _ =>
    if p.creditDue && resends.isEmpty then (s.grantCredits d).1.sendFrame d (s.grantCredits d).2
    else if p.helloDue then (s.modPort d (fun p => { p with helloDue := false })).sendFrame d (helloFrame p.fec)
    else
      match p.controls, decide (0 < p.cHand) with
      | i :: _, true => (s.sendControl d i).settle
      | _, _ =>
        if p.echoDue then s.sendFrame d (control 2)
        else
          match s.ctrlReady d, s.dataReady d with
          | some c, some x => (if p.lastCtrl then s.sendData d x e else s.sendCommand d c).settle
          | some c, none => (s.sendCommand d c).settle
          | none, some x => (s.sendData d x e).settle
          | none, none => s

/-- A lit and locked port whose pins are its own. -/
structure transmits (s : State) (d : DPort) : Prop where
  lit : (s.port d).txOn = true
  lock : (s.port d).locked = true
  open_ : (s.port d).refusedAt = none
  pins : s.side.pinsTaken = false
  waits : s.waitingFrames d = []

theorem doTransmitFrameBoundary_on (h : transmits s d) (e : Ecc) : doTransmitFrameBoundary d e s =
    (if !(s.port d).helloSeen then
      (if (s.port d).helloDue then (s.modPort d (fun p => { p with helloDue := false })).sendFrame d (helloFrame (s.port d).fec) else s)
    else s.chooseFrame d e) := by
  unfold doTransmitFrameBoundary
  rw [State.creditsWaiting_none h.waits]
  refine if_neg ?_
  rw [h.lit, h.lock, h.open_, h.pins]
  decide

theorem State.chooseFrame_resend {i : TxItem} {rest : List TxItem} (e : Ecc) (hr : (s.port d).resends = i :: rest) (hc : 0 < (s.port d).cHand) :
    s.chooseFrame d e = ((s.spendCtrl d).modPort d (fun p => { p with resends := rest })).sendFrame d i.frame := by
  unfold State.chooseFrame
  dsimp only
  rw [hr, decide_eq_true hc]

theorem State.chooseFrame_credit (e : Ecc) (hr : (s.port d).resends = []) (hc : (s.port d).creditDue = true) :
    s.chooseFrame d e = (s.grantCredits d).1.sendFrame d (s.grantCredits d).2 := by
  unfold State.chooseFrame
  dsimp only
  rw [hr, hc]
  exact if_pos rfl

section
variable (hr : (s.port d).resends = []) (hc : (s.port d).creditDue = false)
include hr hc

theorem State.chooseFrame_hello (e : Ecc) (hh : (s.port d).helloDue = true) :
    s.chooseFrame d e = (s.modPort d (fun p => { p with helloDue := false })).sendFrame d (helloFrame (s.port d).fec) := by
  unfold State.chooseFrame
  dsimp only
  rw [hr, hc]
  exact (if_neg (by decide)).trans (if_pos hh)

theorem State.chooseFrame_control {i : TxItem} {rest : List TxItem} (e : Ecc) (hh : (s.port d).helloDue = false) (hk : (s.port d).controls = i :: rest)
    (hn : 0 < (s.port d).cHand) : s.chooseFrame d e = (s.sendControl d i).settle := by
  unfold State.chooseFrame
  dsimp only
  rw [hr, hc]
  refine ((if_neg (by decide)).trans (if_neg (by rw [hh]; decide))).trans ?_
  rw [hk, decide_eq_true hn]

theorem State.chooseFrame_echo (e : Ecc) (hh : (s.port d).helloDue = false) (hk : (s.port d).controls = []) (he : (s.port d).echoDue = true) :
    s.chooseFrame d e = s.sendFrame d (control 2) := by
  unfold State.chooseFrame
  dsimp only
  rw [hr, hc]
  refine ((if_neg (by decide)).trans (if_neg (by rw [hh]; decide))).trans ?_
  rw [hk]
  exact if_pos he

theorem State.chooseFrame_queues (e : Ecc) (hh : (s.port d).helloDue = false) (hk : (s.port d).controls = []) (he : (s.port d).echoDue = false) :
    s.chooseFrame d e = (match s.ctrlReady d, s.dataReady d with
      | some c, some x => (if (s.port d).lastCtrl then s.sendData d x e else s.sendCommand d c).settle
      | some c, none => (s.sendCommand d c).settle
      | none, some x => (s.sendData d x e).settle
      | none, none => s) := by
  unfold State.chooseFrame
  dsimp only
  rw [hr, hc]
  refine ((if_neg (by decide)).trans (if_neg (by rw [hh]; decide))).trans ?_
  rw [hk]
  exact if_neg (by rw [he]; decide)

end

/-! #### CREDIT (R262, R263) -/

theorem creditFrame_congr {p q : Port} (hd : p.dcumTx = q.dcumTx) (hc : p.ccumTx = q.ccumTx) : creditFrame p = creditFrame q := by
  rw [creditFrame, hd, hc]
  rfl

theorem State.grantCredits_port : (s.grantCredits d).1.port d = { s.port d with
    dcumTx := (s.port d).dcumTx + BitVec.ofNat 32 (s.grantable d), ccumTx := (s.port d).ccumTx + BitVec.ofNat 32 (s.port d).cWait
    dWait := (s.port d).dWait - s.grantable d, cWait := 0, creditDue := false
    lastGrant := if 0 < s.grantable d then s.clk.now else (s.port d).lastGrant
    waitSince := if s.grantable d < (s.port d).dWait then some s.clk.now else none } := s.port_modPort d _

theorem State.grantCredits_frame : (s.grantCredits d).2 = creditFrame ((s.grantCredits d).1.port d) := rfl

theorem State.grantCredits_port_ne {x : DPort} (h : x ≠ d) : (s.grantCredits d).1.port x = s.port x := s.port_modPort_ne d x _ h

theorem State.grantCredits_out : (s.grantCredits d).1.out = s.out := rfl

/-! #### ABORT and the other control frames -/

theorem State.sendControl_facts (i : TxItem) : (s.sendControl d i).out = .frame d (sealFrame i.frame) :: s.out ∧
    ((s.sendControl d i).port d).controls = (s.port d).controls.drop 1 ∧ ((s.sendControl d i).port d).cUsed = (s.port d).cUsed + 1 ∧
    (∀ g, i.tag = some g → i.frame.sub = 3 → tfind ((s.sendControl d i).port d).quar g.toNat =
      (tfind (s.port d).quar g.toNat).map (fun q => { q with sent := true, expires := some (s.clk.now + 156250) })) := by
  generalize hv : ((s.spendCtrl d).modPort d (fun p => { p with controls := p.controls.drop 1 })).sendFrame d i.frame = v
  have hport : v.port d = { s.port d with cUsed := (s.port d).cUsed + 1, controls := (s.port d).controls.drop 1, lastTx := s.clk.now, echoDue := false } := by
    rw [← hv, State.sendFrame_port, State.port_modPort, State.spendCtrl, State.port_modPort]
    rfl
  have hout : v.out = .frame d (sealFrame i.frame) :: s.out := by rw [← hv]; rfl
  have hclk : v.clk = s.clk := by rw [← hv]; rfl
  have hdef : s.sendControl d i = (match i.tag with
      | some g => if i.frame.sub = 3 then v.modPort d (fun p => { p with
          quar := tupd p.quar g.toNat (fun q => { q with sent := true, expires := some (v.clk.now + Config.msTicks) }) }) else v
      | none => v) := by
    rw [State.sendControl, hv] <;> rfl
  rw [hdef]
  cases hg : i.tag with
  | none => exact ⟨hout, by rw [hport], by rw [hport], fun g h => nomatch h⟩
  | some g =>
    dsimp only
    by_cases hs : i.frame.sub = 3
    · rw [if_pos hs, State.port_modPort, hport, hclk, msTicks_eq]
      refine ⟨hout, rfl, rfl, fun g' hg' _ => ?_⟩
      rw [← Option.some.inj hg']
      exact tfind_tupd_same _ _ _
    · rw [if_neg hs]
      exact ⟨hout, by rw [hport], by rw [hport], fun g' _ h => absurd h hs⟩

end
end Sys2Proof.Machine

namespace Sys2Proof.Machine
open Sys2Proof

section
variable {s : State} {d : DPort} {g : Tag} {e : Exch} {sc : SC} {r : Prog} {i : TxItem}

theorem State.ctrlReady_head {rest : List TxItem} (hq : (s.port d).ctrlQ = i :: rest) (hn : 0 < (s.port d).cHand) (hm : (s.port d).muted = false)
    (hf : s.foggy = false) : s.ctrlReady d = some i := by
  rw [State.ctrlReady, hm, hf, decide_eq_true hn, hq]
  rfl

theorem State.ctrlReady_empty (hq : (s.port d).ctrlQ = []) : s.ctrlReady d = none := by
  rw [State.ctrlReady, hq]
  exact ite_self _

theorem State.dataReady_head {rest : List TxItem} (hq : (s.port d).dataQ = i :: rest) (hn : 0 < (s.port d).dHand) (hm : (s.port d).muted = false)
    (hf : s.foggy = false) (ht : (s.port d).throttle = false) : s.dataReady d = some i := by
  rw [State.dataReady, hm, hf, decide_eq_true hn, hq, ht]
  rfl

theorem State.dataReady_empty (hq : (s.port d).dataQ = []) : s.dataReady d = none := by
  rw [State.dataReady, hq]
  exact ite_self _

/-! #### COMMAND (R208, R273) -/

/-- An exchange whose COMMAND leaves. -/
def Exch.commanded (e : Exch) (now : Nat) : Exch := { e with
  sent := true, cmdAt := some (now + 781250), missAt := if e.input then some (now + 156250) else none }

/-- A program whose COMMAND leaves. -/
def Prog.commanded (p : Prog) : Prog := { p with
  tried := match p.path with
    | some x => if p.tried.contains x then p.tried else p.tried ++ [x]
    | none => p.tried
  chain := p.chain.map (fun c => { c with cmdSent := true }) }

theorem Prog.commanded_tried (p : Prog) (x : Path) (h : p.path = some x) : x ∈ p.commanded.tried := by
  unfold Prog.commanded
  rw [h]
  dsimp only
  split
  · next hc => exact List.contains_iff_mem.mp hc
  · exact List.mem_append_right _ (List.mem_singleton.mpr rfl)

/-- A port whose COMMAND leaves. -/
def Port.commanded (p : Port) (g : Tag) (e : Exch) (now : Nat) : Port := { p with
  cUsed := p.cUsed + 1, ctrlQ := p.ctrlQ.drop 1, lastCtrl := true, lastTx := now, echoDue := false, exch := tset p.exch g.toNat (e.commanded now) }

theorem State.sendCommand_prog (hi : i.tag = some g) (he : tfind (s.port d).exch g.toNat = some e) (ho : e.owner = .prog sc) (hr : s.prog? sc = some r) :
    (s.sendCommand d i).out = .frame d (sealFrame i.frame) :: s.out ∧ (s.sendCommand d i).port d = (s.port d).commanded g e s.clk.now ∧
    (s.sendCommand d i).prog? sc = some r.commanded := by
  generalize hv : ((s.spendCtrl d).modPort d (fun p => { p with ctrlQ := p.ctrlQ.drop 1, lastCtrl := true })).sendFrame d i.frame = v
  have hport : v.port d = { s.port d with
      cUsed := (s.port d).cUsed + 1, ctrlQ := (s.port d).ctrlQ.drop 1, lastCtrl := true, lastTx := s.clk.now, echoDue := false } := by
    rw [← hv, State.sendFrame_port, State.port_modPort, State.spendCtrl, State.port_modPort]
    rfl
  have hfacts : v.out = .frame d (sealFrame i.frame) :: s.out ∧ v.clk = s.clk ∧ v.prog = s.prog := by rw [← hv]; exact ⟨rfl, rfl, rfl⟩
  obtain ⟨hout, hclk, hprog⟩ := hfacts
  generalize hw : v.modExch d g (fun e => { e with
      sent := true, cmdAt := some (v.clk.now + Config.commandTicks), missAt := if e.input then some (v.clk.now + Config.msTicks) else none }) = w
  have hwport : w.port d = (s.port d).commanded g e s.clk.now := by
    rw [← hw, State.modExch_port (e := e) _ (by rw [hport]; exact he), hport, hclk, commandTicks_eq, msTicks_eq]
    rfl
  have hwprog : w.prog? sc = some r := by
    rw [← hw]
    exact (State.prog?_congr (u := v.modExch d g _) hprog sc).trans hr
  have hown : (tfind (w.port d).exch g.toNat).map (fun (e : Exch) => e.owner) = some (.prog sc) := by
    rw [hwport, Port.commanded, tfind_tset_same, Option.map_some, ← ho]
    rfl
  have hdef : s.sendCommand d i = w.modProg sc Prog.commanded := by
    rw [State.sendCommand, hi]
    dsimp only
    rw [hv, hw, hown]
    rfl
  rw [hdef]
  refine ⟨?_, hwport, State.prog?_modProg_some _ hwprog⟩
  rw [← hout, ← hw]
  rfl

/-! #### DATA (R202, R229, R265) -/

/-- An exchange whose next DATA frame leaves. -/
def Exch.sending (e : Exch) (n : Nat) (i : TxItem) (now : Nat) : Exch := { e with
  kept := e.kept ++ [(n, i.frame, i.srcs)], txSent := e.txSent + 1, inactAt := if e.accepted then some (now + 156250000) else none }

/-- A port whose next DATA frame leaves. -/
def Port.sending (p : Port) (g : Tag) (e : Exch) (i : TxItem) (now : Nat) : Port := { p with
  dUsed := p.dUsed + 1, lastCtrl := false, lastDataTx := now, dataQ := p.dataQ.drop 1, lastTx := now, echoDue := false
  exch := tset p.exch g.toNat (e.sending (p.dUsed.toNat + 1) i now) }

/-- A program whose next DATA frame leaves. -/
def sendingProg (p : Prog) (b : Bytes) : Prog := { p with
  digest := digest p.digest b, chain := p.chain.map (fun c => { c with sent := c.sent + b.length, egress := digest c.egress b }) }

/-- DATA leaves. -/
def State.dataGone (s : State) (d : DPort) (g : Tag) (i : TxItem) : State :=
  (s.modPort d (fun p => { p with
        dUsed := p.dUsed + 1, lastCtrl := false, lastDataTx := s.clk.now, dataQ := p.dataQ.drop 1
        exch := tupd p.exch g.toNat (fun e => { e with
          kept := e.kept ++ [((s.port d).dUsed.toNat + 1, i.frame, i.srcs)], txSent := e.txSent + 1
          inactAt := if e.accepted then some (s.clk.now + Config.secondTicks) else none }) })).sendFrame d i.frame

/-- DATA of a program has left, before the program goes on. -/
def State.dataSent (s : State) (d : DPort) (g : Tag) (sc : SC) (i : TxItem) : State :=
  ((s.dataGone d g i).modProg sc (fun p => sendingProg p i.frame.payload)).book 9 (4096 * d.val + g.toNat) i.frame.payload.length

theorem State.dataGone_port (he : tfind (s.port d).exch g.toNat = some e) : (s.dataGone d g i).port d = (s.port d).sending g e i s.clk.now := by
  rw [State.dataGone, State.sendFrame_port, State.port_modPort, tupd, he, secondTicks_eq]
  rfl

theorem State.dataSent_facts (he : tfind (s.port d).exch g.toNat = some e) (hr : s.prog? sc = some r) :
    (s.dataSent d g sc i).out = .frame d (sealFrame i.frame) :: s.out ∧ (s.dataSent d g sc i).port d = (s.port d).sending g e i s.clk.now ∧
    (s.dataSent d g sc i).prog? sc = some (sendingProg r i.frame.payload) :=
  ⟨rfl, State.dataGone_port he, State.prog?_modProg_some (s := s.dataGone d g i) _ hr⟩

theorem State.sendData_good (hi : i.tag = some g) (hp : i.srcs.any s.runPoison = false) (he : tfind (s.port d).exch g.toNat = some e)
    (ho : e.owner = .prog sc) (hs : e.txSent % 65536 = i.frame.seq.toNat) :
    s.sendData d i .good = ((s.dataSent d g sc i).pushOutput sc).chainOn sc := by
  have hfirst : ((some e).map (fun (e : Exch) => e.txSent % 65536 == i.frame.seq.toNat)).getD false = true := by
    rw [Option.map_some, Option.getD_some, hs, beq_self_eq_true]
  have hown : (tfind ((s.dataGone d g i).port d).exch g.toNat).map (fun (e : Exch) => e.owner) = some (.prog sc) := by
    rw [State.dataGone_port he, Port.sending, tfind_tset_same, Option.map_some, ← ho]
    rfl
  unfold State.sendData
  rw [hi]
  dsimp only
  rw [hp]
  refine (if_neg (show ¬ eccBad (withPoison .good false) = true by decide)).trans ?_
  simp only [show ∀ site, s.eccEvent site (withPoison .good false) = s from fun _ => rfl]
  rw [he]
  simp only [hfirst, if_true]
  unfold State.dataSent State.dataGone at *
  rw [hown] <;> rfl

end
end Sys2Proof.Machine

namespace Sys2Proof.Machine
open Sys2Proof

section
variable {s : State} {d : DPort}

theorem execTransmit_good (h : transmits s d) (hh : (s.port d).helloSeen = true) : exec (.transmitFrameBoundary d .good) s = .next (s.chooseFrame d .good) := by
  refine congrArg Host.Outcome.next ((doTransmitFrameBoundary_on h .good).trans (if_neg ?_))
  rw [hh]
  decide

theorem execTransmit_silent (h : transmits s d) (hh : (s.port d).helloSeen = false) : exec (.transmitFrameBoundary d .good) s =
    .next (if (s.port d).helloDue then (s.modPort d (fun p => { p with helloDue := false })).sendFrame d (helloFrame (s.port d).fec) else s) := by
  refine congrArg Host.Outcome.next ((doTransmitFrameBoundary_on h .good).trans (if_pos ?_))
  rw [hh]
  rfl

end

/-- Settles O59: each timer and each choice of the transmitter by the lemma of its branch. -/
theorem timersAndTransmitter : Obligations.TimersAndTransmitter := by
  unfold Obligations.TimersAndTransmitter
  refine ⟨?_, ?_, ?_⟩
  · intro d g e t s he
    refine ⟨fun sc hc ht ha hs ho hw => ?_, fun hw => ?_, fun hc ht => ?_, fun sc hc ht ha hs ho hno hw => ?_, fun h => ?_, fun hc ht hi => ?_, fun hc ht => ?_⟩
    · have hrun : exec (.commandTimeout d g) s = .next ((s.timedOutExch d g).exchFailed sc e.accepted true).settle := by
        rw [← State.exchTimeout_prog ho]
        exact congrArg Host.Outcome.next (doCommandTimeout_over he hc ht ha hw)
      exact ⟨fun hq => ⟨_, hrun, State.timedOutExch_quar he hs hq⟩, fun hq => ⟨_, hrun, State.timedOutExch_early he hs hq⟩⟩
    · exact congrArg Host.Outcome.next (doCommandTimeout_not he (.inr hw))
    · exact congrArg Host.Outcome.next (doCommandTimeout_not he (.inl (by rw [hc]; exact State.isPast_early ht)))
    · have hrun : exec (.inactivityTimeout d g) s = .next ((s.timedOutExch d g).exchFailed sc e.accepted true).settle := by
        rw [← State.exchTimeout_prog ho]
        exact congrArg Host.Outcome.next (doInactivityTimeout_over he hc ht ha hno hw)
      exact ⟨_, hrun, State.timedOutExch_quar he hs (statusWaits_of_frameWaits hw)⟩
    · exact congrArg Host.Outcome.next (doInactivityTimeout_not he h)
    · refine ⟨_, congrArg Host.Outcome.next (doMissingDataTimeout_over he hc ht hi), (onlyPort_modPort _).trans State.queueResend_only, ?_⟩
      rw [State.queueResend_port, State.modExch_port _ he]
      exact ⟨tfind_tset_same _ _ _, rfl⟩
    · exact congrArg Host.Outcome.next (doMissingDataTimeout_early he hc ht)
  · intro d g q t s hq hs hx
    refine ⟨fun ht => congrArg Host.Outcome.next (doAbortTimeout_early hq hx ht), fun ht hn => ?_, fun ht hn => ?_⟩
    · have hrun := doAbortTimeout_over hq hs hx ht
      rw [if_pos hn] at hrun
      refine ⟨_, congrArg Host.Outcome.next hrun, ?_⟩
      obtain ⟨hport, hprog, hout⟩ := s.fired_modPort (d := d) 2 (fun p => { p with
        quar := tset p.quar g.toNat { q with tries := q.tries + 1, expires := none }
        controls := p.controls ++
          [⟨{ control 3 with tag := g, gen := q.gen, cuaddr := q.cuaddr, devaddr := q.devaddr, body := padTo 12 [q.reason] }, some g, []⟩] })
      rw [State.abortAgain, hport]
      exact ⟨tfind_tset_same _ _ _, rfl, hprog, hout⟩
    · have hrun := doAbortTimeout_over hq hs hx ht
      rw [if_neg (Nat.not_lt.mpr hn)] at hrun
      refine ⟨_, congrArg Host.Outcome.next hrun, ?_⟩
      obtain ⟨hport, -, hout⟩ := s.fired_modPort (d := d) 2 (fun p => { p with quar := tset p.quar g.toNat { q with expires := none, retired := true } })
      rw [State.abortGiven, hport]
      exact ⟨tfind_tset_same _ _ _, rfl, hout⟩
  · intro d s htx hlk hrf hpin hwt
    have hon : transmits s d := ⟨htx, hlk, hrf, hpin, hwt⟩
    refine ⟨fun hseen hdue => ?_, fun hseen hdue => ?_, fun hseen => ?_⟩
    · have hrun := execTransmit_silent hon hseen
      rw [hdue, if_pos rfl] at hrun
      exact ⟨_, hrun, sendsFrame_modPort _⟩
    · have hrun := execTransmit_silent hon hseen
      rw [hdue, if_neg Bool.false_ne_true] at hrun
      exact hrun
    · have hrun := execTransmit_good hon hseen
      refine ⟨fun i rest hr hc => ?_, fun hr hc => ?_, fun hr hc => ⟨fun hh => ?_, fun hh => ⟨fun i rest hk hn => ?_, fun hk he => ?_, fun hk he hm hf => ⟨?_, ?_, ?_⟩⟩⟩⟩
      · rw [State.chooseFrame_resend .good hr hc] at hrun
        refine ⟨_, hrun, rfl, ?_, fun x hx => ?_, rfl⟩
        · rw [State.sendFrame_port, State.port_modPort, State.spendCtrl, State.port_modPort]
          rfl
        · exact (State.sendFrame_port_ne hx).trans ((State.port_modPort_ne _ d x _ hx).trans (s.port_modPort_ne d x _ hx))
      · rw [State.chooseFrame_credit .good hr hc] at hrun
        refine ⟨_, hrun, ?_⟩
        rw [State.sendFrame_out, State.grantCredits_out, State.grantCredits_frame, State.sendFrame_port]
        have hframe : ∀ (p : Port) (n : Nat), creditFrame { p with lastTx := n, echoDue := false } = creditFrame p := fun _ _ => creditFrame_congr rfl rfl
        rw [hframe, State.grantCredits_port]
        exact ⟨rfl, rfl, rfl, rfl, rfl, rfl, fun x hx => (State.sendFrame_port_ne hx).trans (State.grantCredits_port_ne hx)⟩
      · rw [State.chooseFrame_hello hr hc .good hh] at hrun
        exact ⟨_, hrun, sendsFrame_modPort _⟩
      · rw [State.chooseFrame_control hr hc .good hh hk hn] at hrun
        obtain ⟨hout, hctrl, hused, hquar⟩ := State.sendControl_facts (s := s) (d := d) i
        rw [hk] at hctrl
        exact ⟨_, hrun, hout, hctrl, hused, fun g x hg hs hx => (hquar g hg hs).trans (congrArg (Option.map _) hx)⟩
      · rw [State.chooseFrame_echo hr hc .good hh hk he] at hrun
        exact ⟨_, hrun, sendsFrame_sendFrame⟩
      · intro i rest g e sc r hq hn hd hi hx ho hr'
        rw [State.chooseFrame_queues hr hc .good hh hk he, State.ctrlReady_head hq hn hm hf] at hrun
        have hcmd : exec (.transmitFrameBoundary d .good) s = .next (s.sendCommand d i).settle := by
          refine hrun.trans (congrArg Host.Outcome.next ?_)
          rcases hd with hd | hd
          · rw [State.dataReady_empty hd]
          · cases s.dataReady d with
            | none => rfl
            | some x => exact congrArg State.settle (if_neg (by rw [hd]; decide))
        obtain ⟨hout, hport, hprog⟩ := State.sendCommand_prog hi hx ho hr'
        refine ⟨_, hcmd, hout, ?_⟩
        rw [hport, hprog]
        exact ⟨congrArg (List.drop 1) hq, rfl, rfl, tfind_tset_same _ _ _, _, rfl, r.commanded_tried, rfl⟩
      · intro i rest g e sc r hq hn hth hd hi hp hx ho hr' hs
        rw [State.chooseFrame_queues hr hc .good hh hk he, State.dataReady_head hq hn hm hf hth] at hrun
        have hdata : exec (.transmitFrameBoundary d .good) s = .next (s.sendData d i .good).settle := by
          refine hrun.trans (congrArg Host.Outcome.next ?_)
          rcases hd with hd | hd
          · rw [State.ctrlReady_empty hd]
          · cases s.ctrlReady d with
            | none => rfl
            | some x => exact congrArg State.settle (if_pos hd)
        rw [State.sendData_good hi hp hx ho hs] at hdata
        obtain ⟨hout, hport, hprog⟩ := State.dataSent_facts (i := i) hx hr'
        refine ⟨_, hdata, hout, ?_, ?_, ?_, hprog⟩
        · rw [hport]
          exact congrArg (List.drop 1) hq
        · rw [hport]
          rfl
        · rw [hport]
          exact tfind_tset_same _ _ _
      · intro hq hd
        rw [State.chooseFrame_queues hr hc .good hh hk he, State.ctrlReady_empty hq, State.dataReady_empty hd] at hrun
        exact hrun

end Sys2Proof.Machine

namespace Sys2Proof.Machine
open Sys2Proof
-- The automated proofs below are checked one after another: side by side they need too much memory.
set_option Elab.async false

/-! ### Properties that last through what a command sets off

Ending programs, losing exchanges and settling are built from a few kinds of writes. A property kept by each kind is kept by all that is built from them. -/

/-- What a host port keeps while requests and journal records come and go. -/
def hostCore (h : HostPort) : HostPort := { h with l1 := .l0, txIdle := 0, reads := [], readQ := [], held := [], heldStop := false }

/-- What a tenant keeps while its journal grows. -/
def tenantCore (x : TenantSt) : TenantSt := { x with jseq := 0, prev := [], restart := false }

/-- A port neither comes to wait for a retrain nor loses the count of those it had. -/
def portKeeps (p q : Port) : Prop := (q.retrainDue = true → p.retrainDue = true) ∧ (p.retrains ≠ 0 → q.retrains ≠ 0)

/-- A property that lasts while programs and exchanges end. -/
structure Lasting where
  holds : State → Prop
  onOut {s : State} (h : holds s) (f) : holds (s.onOut f)
  onPower {s : State} (h : holds s) (f) : holds (s.onPower f)
  onVfs {s : State} (h : holds s) (f) : holds (s.onVfs f)
  onList {s : State} (h : holds s) (f) : holds (s.onList f)
  onProg {s : State} (h : holds s) (f) : holds (s.onProg f)
  onData {s : State} (h : holds s) (f) : holds (s.onData f)
  onFaults {s : State} (h : holds s) (f) : holds (s.onFaults f)
  onQueues {s : State} (h : holds s) (f : Queues → Queues) (hf : (f s.queues).tenants = s.queues.tenants) : holds (s.onQueues f)
  modTenant {s : State} (h : holds s) (t : Tenant) (f : TenantSt → TenantSt) (hf : tenantCore (f (s.tenant t)) = tenantCore (s.tenant t)) : holds (s.modTenant t f)
  modHost {s : State} (h : holds s) (p : HPort) (f : HostPort → HostPort) (hf : hostCore (f (s.host p)) = hostCore (s.host p)) : holds (s.modHost p f)
  vector {s : State} (h : holds s) (fn : Fn) (v : Nat) : holds (s.vector fn v)
  modPort {s : State} (h : holds s) (d : DPort) (f : Port → Port) (hf : portKeeps (s.port d) (f (s.port d))) : holds (s.modPort d f)
  modCage {s : State} (h : holds s) (c : CageNum) (f) : holds (s.modCage c f)
  pend {s : State} (h : holds s) (u : EvUnit) (n : Nat) : holds (s.modEvu u (fun e => { e with pend := tset e.pend n true }))
  onCores {s : State} (h : holds s) (f : Cores → Cores) (hf : (f s.cores).pairs = s.cores.pairs) : holds (s.onCores f)
  modPair {s : State} (h : holds s) (c : PairNum) (f : Pair → Pair) (hf : (s.pair c).retired = true → (f (s.pair c)).retired = true) : holds (s.modPair c f)
  logBoot {s : State} (h : holds s) (e : FaultEntry) (he : e.kind ≠ 6) : holds (s.onFw (fun f => { f with bootFaults := f.bootFaults ++ [e] }))

section
variable {K : Lasting} {s : State}

theorem Lasting.ite {t : State} {p : Prop} [Decidable p] (hs : p → K.holds s) (ht : ¬p → K.holds t) : K.holds (if p then s else t) := by
  split
  · exact hs ‹_›
  · exact ht ‹_›

theorem Lasting.foldl {α : Type} {f : State → α → State} (h : K.holds s) (l : List α) (hf : ∀ s a, K.holds s → K.holds (f s a)) :
    K.holds (l.foldl f s) := by
  induction l generalizing s with
  | nil => exact h
  | cons a l ih => exact ih (hf s a h)

/-- The same for a fold that carries something beside the state. -/
theorem Lasting.foldl_fst {α β : Type} {f : State × β → α → State × β} (h : K.holds s) (l : List α) (b : β)
    (hf : ∀ r a, K.holds r.1 → K.holds (f r a).1) : K.holds (l.foldl f (s, b)).1 := by
  suffices hr : ∀ r : State × β, K.holds r.1 → K.holds (l.foldl f r).1 from hr (s, b) h
  induction l with
  | nil => exact fun _ hr => hr
  | cons a l ih => exact fun r hr => ih _ (hf r a hr)

theorem Lasting.modSq (h : K.holds s) (t) (q) (f) : K.holds (s.modSq t q f) := by grind [State.modSq, Lasting.onQueues]

theorem Lasting.modCq (h : K.holds s) (t) (q) (f) : K.holds (s.modCq t q f) := by grind [State.modCq, Lasting.onQueues]

theorem Lasting.modSub (h : K.holds s) (sc) (f) : K.holds (s.modSub sc f) := by grind [State.modSub, Lasting.onProg]

theorem Lasting.modProg (h : K.holds s) (sc) (f) : K.holds (s.modProg sc f) := by grind [State.modProg, Lasting.modSub]

theorem Lasting.modToken (h : K.holds s) (n) (f) : K.holds (s.modToken n f) := by grind [State.modToken, Lasting.onProg]

theorem Lasting.modMover (h : K.holds s) (m) (f) : K.holds (s.modMover m f) := by grind [State.modMover, Lasting.onData]

theorem Lasting.modPool (h : K.holds s) (d) (f) : K.holds (s.modPool d f) := by grind [State.modPool, Lasting.onData]

theorem Lasting.emit (h : K.holds s) (o) : K.holds (s.emit o) := by grind [State.emit, Lasting.onOut]

theorem Lasting.exitL1 (h : K.holds s) (p) : K.holds (s.exitL1 p) := by grind [hostCore, State.exitL1, Lasting.modHost]

theorem Lasting.sendWrite (h : K.holds s) (p) (pasid) (addr) (b) : K.holds (s.sendWrite p pasid addr b) := by
  grind [State.sendWrite, Lasting.exitL1, Lasting.emit]

theorem Lasting.issueRead (h : K.holds s) (p) (pasid) (ranges) (key) : K.holds (s.issueRead p pasid ranges key) := by
  grind [hostCore, State.issueRead, Lasting.exitL1, Lasting.modHost, Lasting.onOut]

theorem Lasting.sendReads (h : K.holds s) (p) (pasid) (ranges) (key) : K.holds (s.sendReads p pasid ranges key) := by
  grind [hostCore, State.sendReads, Lasting.issueRead, Lasting.modHost]

theorem Lasting.sendRead (h : K.holds s) (p) (pasid) (addr) (len) (key) : K.holds (s.sendRead p pasid addr len key) := by
  grind [State.sendRead, Lasting.sendReads]

theorem Lasting.dropKeys (h : K.holds s) (p) (f) : K.holds (s.dropKeys p f) := by grind [hostCore, State.dropKeys, Lasting.modHost]

theorem Lasting.work (h : K.holds s) : K.holds s.work := by grind [State.work, Lasting.onPower]

theorem Lasting.sendVector (h : K.holds s) (fn) (v) : K.holds (s.sendVector fn v) := by
  grind [State.sendVector, Lasting.exitL1, Lasting.emit]

theorem Lasting.pfVector (h : K.holds s) (v) : K.holds (s.pfVector v) := by grind [State.pfVector, Lasting.vector]

theorem Lasting.fire (h : K.holds s) (u) (n) : K.holds (s.fire u n) := by
  unfold State.fire
  split
  · exact K.work (K.pend h u n)
  · exact h

theorem Lasting.firePort (h : K.holds s) (d) (e) : K.holds (s.firePort d e) := by grind [State.firePort, Lasting.fire]

theorem Lasting.countEvent (h : K.holds s) (site) : K.holds (s.countEvent site).1 := by grind [State.countEvent, Lasting.onFaults]

theorem Lasting.fireReport (h : K.holds s) (site) : K.holds (s.fireReport site) := by grind [State.fireReport, Lasting.fire]

theorem Lasting.countOnly (h : K.holds s) (site) : K.holds (s.countOnly site) := by
  grind [State.countOnly, Lasting.countEvent, Lasting.onFaults]

theorem Lasting.logAction (h : K.holds s) (k) (u) : K.holds (s.logAction k u) := by grind [State.logAction, Lasting.onCores]

theorem Lasting.takeAction (h : K.holds s) (k) : K.holds (s.takeAction k) := by grind [State.takeAction, Lasting.onCores]

theorem Lasting.book (h : K.holds s) (a) (i) (n) : K.holds (s.book a i n) := by grind [State.book, Lasting.onFaults]

theorem Lasting.dropAcct (h : K.holds s) (a) (i) : K.holds (s.dropAcct a i) := by grind [State.dropAcct, Lasting.onFaults]

theorem Lasting.journal (h : K.holds s) (t) (typ) (body) (ref) (step) : K.holds (s.journal t typ body ref step) := by
  grind [hostCore, tenantCore, State.journal, Lasting.modTenant, Lasting.sendWrite, Lasting.modHost]

theorem Lasting.signal (h : K.holds s) (t) (q) : K.holds (s.signal t q) := by grind [State.signal, Lasting.modCq, Lasting.vector]

theorem Lasting.moderate (h : K.holds s) (t) (q) (code) : K.holds (s.moderate t q code) := by
  grind [State.moderate, Lasting.signal, Lasting.modCq]

theorem Lasting.writeCpl (h : K.holds s) (t) (q) (c) (ref) (step) : K.holds (s.writeCpl t q c ref step) := by
  grind [State.writeCpl, Lasting.journal, Lasting.sendWrite, Lasting.modCq, Lasting.moderate]

theorem Lasting.entriesEnd (h : K.holds s) (t) (q) (n) : K.holds (s.entriesEnd t q n) := by
  grind [State.entriesEnd, Lasting.modSq, Lasting.book]

theorem Lasting.unreserve (h : K.holds s) (t) (q) (n) : K.holds (s.unreserve t q n) := by grind [State.unreserve, Lasting.modCq]

theorem Lasting.deferCpl (h : K.holds s) (t) (cq) (w) : K.holds (s.deferCpl t cq w) := by grind [State.deferCpl, Lasting.modCq]

theorem Lasting.writeInto (h : K.holds s) (t) (cq) (w) : K.holds (s.writeInto t cq w) := by
  grind [State.writeInto, Lasting.unreserve, Lasting.book, Lasting.writeCpl, Lasting.entriesEnd]

theorem Lasting.writeReserved (h : K.holds s) (t) (cq) (n) (w) : K.holds (s.writeReserved t cq n w) := by
  grind [State.writeReserved, Lasting.writeInto, Lasting.deferCpl]

theorem Lasting.writeFinal (h : K.holds s) (t) (cq) (c) (ref) (step) : K.holds (s.writeFinal t cq c ref step) := by
  grind [State.writeFinal, Lasting.writeReserved]

theorem Lasting.writeWaiting (h : K.holds s) (t) (cq) (w) : K.holds (s.writeWaiting t cq w) := by
  grind [State.writeWaiting, Lasting.writeInto, Lasting.deferCpl]

theorem Lasting.modBatch (h : K.holds s) (t) (q) (id) (f) : K.holds (s.modBatch t q id f) := by grind [State.modBatch, Lasting.modSq]

theorem Lasting.closeBatch (h : K.holds s) (t) (q) (id) : K.holds (s.closeBatch t q id) := by
  grind [State.closeBatch, Lasting.modSq, Lasting.writeWaiting, Lasting.writeReserved]

theorem Lasting.endEntry (h : K.holds s) (t) (q) (batch) (c) (ref) (step) : K.holds (s.endEntry t q batch c ref step) := by
  grind [State.endEntry, Lasting.writeFinal, Lasting.journal, Lasting.modBatch, Lasting.closeBatch]

theorem Lasting.writeReport (h : K.holds s) (t) (cq) (c) (ref) (step) : K.holds (s.writeReport t cq c ref step).1 := by
  grind [State.writeReport, Lasting.book, Lasting.writeCpl]

theorem Lasting.dropRef (h : K.holds s) (b) : K.holds (s.dropRef b) := by
  grind [State.dropRef, Lasting.onData, Lasting.book, Lasting.foldl]

theorem Lasting.dropRuns (h : K.holds s) (l) : K.holds (s.dropRuns l) := by grind [State.dropRuns, Lasting.dropRef, Lasting.foldl]

theorem Lasting.dropPieces (h : K.holds s) (l) : K.holds (s.dropPieces l) := by grind [State.dropPieces, Lasting.dropRef, Lasting.foldl]

theorem Lasting.addRef (h : K.holds s) (b) : K.holds (s.addRef b) := by grind [State.addRef, Lasting.onData]

theorem Lasting.cutRef (h : K.holds s) (c) : K.holds (s.cutRef c) := by
  unfold State.cutRef
  split <;> grind [Lasting.addRef]

theorem Lasting.putDesc (h : K.holds s) (at1) (d) : K.holds (s.putDesc at1 d) := by grind [State.putDesc, Lasting.onData, Lasting.book]

theorem Lasting.admitDesc (h : K.holds s) (d) : K.holds (s.admitDesc d) := by grind [State.admitDesc, Lasting.onData, Lasting.putDesc]

theorem Lasting.admitDescs (h : K.holds s) : K.holds s.admitDescs := by
  grind [State.admitDescs, Lasting.admitDesc, Lasting.onData, Lasting.foldl]

theorem Lasting.queueDesc (h : K.holds s) (d) : K.holds (s.queueDesc d) := by grind [State.queueDesc, Lasting.onData, Lasting.admitDescs]

theorem Lasting.dropReads (h : K.holds s) (x) : K.holds (s.dropReads x) := by
  grind [State.dropReads, Lasting.onData, Lasting.book, Lasting.foldl]

theorem Lasting.addFence (h : K.holds s) (d) (c) : K.holds (s.addFence d c) := by grind [portKeeps, State.addFence, Lasting.modPort]

theorem Lasting.portEvent (h : K.holds s) (d) : K.holds (s.portEvent d) := by
  grind [State.portEvent, Lasting.vector, Lasting.pfVector, Lasting.foldl]

theorem Lasting.modPath (h : K.holds s) (d) (addr) (f) : K.holds (s.modPath d addr f) := by grind [State.modPath, Lasting.onList]

theorem Lasting.openExch (h : K.holds s) (d) (owner) (cuaddr) (devaddr) (input) (output) (ident) (op) : K.holds (s.openExch d owner cuaddr devaddr input output ident op).1 := by
  grind [portKeeps, State.openExch, Lasting.modPort, Lasting.book, Lasting.work]

theorem Lasting.unqueue (h : K.holds s) (d) (g) : K.holds (s.unqueue d g) := by
  grind [portKeeps, State.unqueue, Lasting.modPort, Lasting.dropRuns, Lasting.foldl]

theorem Lasting.freeTag (h : K.holds s) (d) (g) : K.holds (s.freeTag d g) := by
  grind [portKeeps, State.freeTag, Lasting.modPort, Lasting.book, Lasting.dropAcct]

theorem Lasting.dropKept (h : K.holds s) (e) : K.holds (s.dropKept e) := by grind [State.dropKept, Lasting.dropRuns, Lasting.foldl]

theorem Lasting.closeExch (h : K.holds s) (d) (g) : K.holds (s.closeExch d g) := by
  grind [portKeeps, State.closeExch, Lasting.unqueue, Lasting.modPort, Lasting.freeTag]

theorem Lasting.dropOwed (h : K.holds s) (d) : K.holds (s.dropOwed d) := by
  grind [portKeeps, State.dropOwed, Lasting.dropRuns, Lasting.modPort, Lasting.foldl]

theorem Lasting.abortExch (h : K.holds s) (d) (g) (reason) : K.holds (s.abortExch d g reason) := by
  grind [portKeeps, State.abortExch, Lasting.closeExch, Lasting.modPort, Lasting.unqueue, Lasting.dropKept, Lasting.dropAcct]

theorem Port.spillNew_keeps (p : Port) : p.spillNew.retrainDue = p.retrainDue ∧ p.spillNew.retrains = p.retrains := ⟨rfl, rfl⟩

theorem Port.spillPut_keeps (f : Nat) (p : Port) (n : Nat) :
    (Port.spillPut f p n).retrainDue = p.retrainDue ∧ (Port.spillPut f p n).retrains = p.retrains := by
  induction f generalizing p n with
  | zero => exact ⟨rfl, rfl⟩
  | succ f ih => grind [Port.spillPut, Port.spillNew_keeps]

theorem Port.spillTake_keeps (f : Nat) (p : Port) (n : Nat) :
    (Port.spillTake f p n).retrainDue = p.retrainDue ∧ (Port.spillTake f p n).retrains = p.retrains := by
  induction f generalizing p n with
  | zero => exact ⟨rfl, rfl⟩
  | succ f ih => grind [Port.spillTake]

theorem Lasting.stallCheck (h : K.holds s) (d) : K.holds (s.stallCheck d) := by
  refine K.modPort h d _ ?_
  obtain ⟨hput, hput'⟩ := Port.spillPut_keeps (2 * s.spill d + 2) (s.port d) (s.spill d - (s.port d).spillHeld)
  obtain ⟨htake, htake'⟩ := Port.spillTake_keeps ((s.port d).spillBufs.length + 1) (s.port d) ((s.port d).spillHeld - s.spill d)
  unfold portKeeps
  dsimp only
  (repeat' split) <;> simp_all

theorem Lasting.modXfer (h : K.holds s) (sc) (x) (f) : K.holds (s.modXfer sc x f) := by grind [State.modXfer, Lasting.modSub]

theorem Lasting.modChain (h : K.holds s) (sc) (f) : K.holds (s.modChain sc f) := by grind [State.modChain, Lasting.modProg]

theorem Lasting.emptySlice (h : K.holds s) (sc) : K.holds (s.emptySlice sc) := by
  grind [State.emptySlice, Lasting.modProg, Lasting.onData, Lasting.foldl]

theorem Lasting.queueWrite (h : K.holds s) (sc) (p) (addr) (l) : K.holds (s.queueWrite sc p addr l) := by
  grind [State.queueWrite, Lasting.modXfer, Lasting.queueDesc, Lasting.foldl]

theorem Lasting.writeOwn (h : K.holds s) (n) (sc) (x) (addr) (b) (frees) : K.holds (State.writeOwn n s sc x addr b frees) := by
  induction n generalizing s addr b with
  | zero => exact h
  | succ n ih => grind [State.writeOwn, Lasting.queueWrite]

theorem Lasting.emitChunk (h : K.holds s) (sc) (x) (st) (k) (col) : K.holds (s.emitChunk sc x st k col).1 := by
  grind [State.emitChunk, Lasting.cutRef, Lasting.queueWrite]

theorem Lasting.emitChunks (h : K.holds s) (n) (sc) (x) (mps) (st) (col) (all) :
    K.holds (State.emitChunks n s sc x mps st col all).1 := by
  induction n generalizing s st with
  | zero => exact h
  | succ n ih => grind [State.emitChunks, Lasting.emitChunk]

theorem Lasting.markLast (h : K.holds s) (x) : K.holds (s.markLast x).1 := by grind [State.markLast, Lasting.onData]

theorem Lasting.releaseEngine (h : K.holds s) (sc) : K.holds (s.releaseEngine sc) := by grind [State.releaseEngine, Lasting.onData]

theorem Lasting.freeEngine (h : K.holds s) (e) : K.holds (s.freeEngine e) := by
  unfold State.freeEngine
  split <;> grind [Lasting.onData]

theorem Lasting.keepEngine (h : K.holds s) (sc) : K.holds (s.keepEngine sc).1 := by grind [State.keepEngine, Lasting.onData]

theorem Lasting.claimEngine (h : K.holds s) (sc) (d) : K.holds (s.claimEngine sc d).1 := by
  grind [State.claimEngine, Lasting.releaseEngine, Lasting.modPool, Lasting.modChain]

theorem Lasting.compareInput (h : K.holds s) (sc) (p) : K.holds (s.compareInput sc p).1 := by
  grind [State.compareInput, Lasting.markLast, Lasting.modXfer]

theorem Lasting.finishWrites (h : K.holds s) (sc) (trusted) : K.holds (s.finishWrites sc trusted).1 := by
  unfold State.finishWrites
  split
  · exact h
  split
  · exact h
  have hdrop : ∀ l, K.holds (s.dropPieces l) := Lasting.dropPieces h
  dsimp only
  split
  · split
    · exact Lasting.compareInput (Lasting.modChain (Lasting.emitChunks (hdrop _) _ _ _ _ _ _ _) _ _) _ _
    · exact Lasting.modChain (Lasting.emitChunks (hdrop _) _ _ _ _ _ _ _) _ _
  · split
    · refine Lasting.writeOwn (Lasting.keepEngine (Lasting.modChain (Lasting.foldl_fst (hdrop _) _ _ ?_) _ _) _) _ _ _ _ _ _
      exact fun r st hr => Lasting.emitChunks hr _ _ _ _ _ _ _
    · refine Lasting.releaseEngine (Lasting.modChain (Lasting.foldl_fst (hdrop _) _ _ ?_) _ _) _
      exact fun r st hr => Lasting.emitChunks hr _ _ _ _ _ _ _

theorem Lasting.dropAhead (h : K.holds s) (l) : K.holds (s.dropAhead l) := by grind [State.dropAhead, Lasting.dropPieces]

theorem Lasting.planAhead (h : K.holds s) (sc) : K.holds (s.planAhead sc) := by grind [State.planAhead, Lasting.dropAhead, Lasting.modProg]

theorem Lasting.noteRead (h : K.holds s) (sc) (d) : K.holds (s.noteRead sc d) := by grind [State.noteRead, Lasting.modProg]

theorem Lasting.readOutput (h : K.holds s) (n) (sc) : K.holds (State.readOutput n s sc) := by
  induction n generalizing s with
  | zero => exact h
  | succ n ih => grind [State.readOutput, Lasting.noteRead, Lasting.queueDesc]

theorem Lasting.redoOutput (h : K.holds s) (sc) : K.holds (s.redoOutput sc) := by
  grind [State.redoOutput, Lasting.queueDesc, Lasting.modChain, Lasting.foldl]

theorem Lasting.feed (h : K.holds s) (n) (sc) : K.holds (State.feed n s sc) := by
  induction n generalizing s with
  | zero => exact h
  | succ n ih =>
    have hcut : ∀ (b : Bool) i f, K.holds ((if b then s.addRef i else s).modChain sc f) := fun b i f =>
      Lasting.modChain (Lasting.ite (fun _ => Lasting.addRef h i) fun _ => h) sc f
    unfold State.feed
    repeat' split
    all_goals first | exact h | exact ih (K.modPort (hcut _ _ _) _ _ ⟨id, id⟩)

theorem Lasting.rbIssue (h : K.holds s) (sc) (p) : K.holds (s.rbIssue sc p) := by grind [State.rbIssue, Lasting.modXfer, Lasting.sendRead]

theorem Lasting.rbKick (h : K.holds s) (sc) : K.holds (s.rbKick sc) := by grind [State.rbKick, Lasting.rbIssue, Lasting.foldl]

theorem Lasting.pushOutput (h : K.holds s) (sc) : K.holds (s.pushOutput sc) := by
  have hr := Lasting.rbKick (Lasting.readOutput (Lasting.redoOutput (Lasting.planAhead h sc) sc) 1024 sc) sc
  unfold State.pushOutput
  dsimp only
  split
  · exact Lasting.feed hr _ sc
  · exact hr

theorem Lasting.postReports (h : K.holds s) (n) (sc) (x) : K.holds (State.postReports n s sc x) := by
  induction n generalizing s with
  | zero => exact h
  | succ n ih =>
    unfold State.postReports
    split
    · exact h
    split
    · exact h
    split
    · split
      · exact h
      · exact ih (Lasting.modXfer (Lasting.writeReport h _ _ _ _ _) _ _ _)
    · exact h

theorem Lasting.finish (h : K.holds s) (sc) (p) (e) : K.holds (s.finish sc p e) := by grind [State.finish, Lasting.endEntry]

theorem Lasting.postOldest (h : K.holds s) (sc) : K.holds (s.postOldest sc) := by grind [State.postOldest, Lasting.postReports]

theorem Lasting.tryFinish (h : K.holds s) (n) (sc) : K.holds (State.tryFinish n s sc) := by
  induction n generalizing s with
  | zero => exact h
  | succ n ih =>
    have hp := Lasting.postOldest h sc
    unfold State.tryFinish
    dsimp only
    split
    · exact hp
    split
    · exact ih (Lasting.modSub hp _ _)
    split
    · exact hp
    split
    · exact hp
    split
    · exact ih (Lasting.modSub (Lasting.finish hp _ _ _) _ _)
    · exact hp

theorem Lasting.closeKick (h : K.holds s) (sc) : K.holds (s.closeKick sc) := by grind [State.closeKick, Lasting.tryFinish, Lasting.rbKick]

theorem Lasting.fireProg (h : K.holds s) (sc) (e) : K.holds (s.fireProg sc e) := by grind [State.fireProg, Lasting.firePort]

theorem Lasting.giveUnit (h : K.holds s) (n) : K.holds (s.giveUnit n) := by
  grind [State.giveUnit, Lasting.modToken, Lasting.modProg, Lasting.fireProg]

theorem Lasting.unwait (h : K.holds s) (sc) (p) : K.holds (s.unwait sc p) := by
  grind [State.unwait, Lasting.modToken, Lasting.fireProg, Lasting.giveUnit]

theorem Lasting.askGroup (h : K.holds s) (sc) (p) (k) (arrived) : K.holds (s.askGroup sc p k arrived) := by
  grind [State.askGroup, Lasting.modProg, Lasting.sendRead]

theorem Lasting.lookahead (h : K.holds s) (sc) : K.holds (s.lookahead sc) := by grind [State.lookahead, Lasting.askGroup, Lasting.foldl]

theorem Lasting.allExch (h : K.holds s) (d) (f : State → Tag → State) (hf : ∀ s g, K.holds s → K.holds (f s g)) :
    K.holds (s.allExch d f) :=
  Lasting.foldl h _ fun s _ hs => hf s _ hs

theorem Lasting.identDrop (h : K.holds s) (d) (a) : K.holds (s.identDrop d a) := by grind [State.identDrop, Lasting.modPath]

theorem Lasting.cageEvent (h : K.holds s) (c) : K.holds (s.cageEvent c) := by
  grind [State.cageEvent, Lasting.vector, Lasting.pfVector, Lasting.foldl]

theorem Lasting.fenceCage (h : K.holds s) (c) (f) : K.holds (s.fenceCage c f) := by
  grind [State.fenceCage, Lasting.addFence, Lasting.firePort, Lasting.cageEvent, Lasting.foldl]

theorem Lasting.dropDescs (h : K.holds s) (x) : K.holds (s.dropDescs x) := by
  grind [State.dropDescs, Lasting.book, Lasting.onData, Lasting.dropRuns, Lasting.freeEngine, Lasting.foldl]

theorem Lasting.retireMover (h : K.holds s) (m) : K.holds (s.retireMover m) := by
  grind [State.retireMover, Lasting.modMover, Lasting.book, Lasting.onData, Lasting.admitDescs]

theorem Lasting.takeStarts (h : K.holds s) (f) : K.holds (s.takeStarts f).1 := by grind [State.takeStarts, Lasting.onProg]

theorem Lasting.withholdRow (h : K.holds s) (site) (row) : K.holds (s.withholdRow site row) := by
  grind [State.withholdRow, Lasting.onData, Lasting.foldl]

theorem Lasting.joinBatch (h : K.holds s) (t) (q) (closes) (index) (sc) (ref) : K.holds (s.joinBatch t q closes index sc ref).1 := by
  grind [State.joinBatch, Lasting.modBatch, Lasting.modSq]

theorem Lasting.reserveSlot (h : K.holds s) (t) (cq) : K.holds (s.reserveSlot t cq) := by
  grind [State.reserveSlot, Lasting.modCq, Lasting.book]

theorem Lasting.preRead (h : K.holds s) (sc) (x) : K.holds (s.preRead sc x).1 := by grind [State.preRead, Lasting.sendRead]

theorem Lasting.handOn (h : K.holds s) (t) (q) (b) (wait) (bad) : K.holds (s.handOn t q b wait bad) := by
  grind [State.handOn, Lasting.modSq, Lasting.reserveSlot, Lasting.joinBatch, Lasting.endEntry, Lasting.preRead, Lasting.modSub]

theorem Lasting.issueEntryRead (h : K.holds s) (t) (q) (n) : K.holds (s.issueEntryRead t q n) := by
  grind [State.issueEntryRead, Lasting.modSq, Lasting.sendReads]

theorem Lasting.rebuildAcct (h : K.holds s) (a) (i) (n) (site) : K.holds (s.rebuildAcct a i n site) := by
  grind [State.rebuildAcct, Lasting.onFaults, Lasting.countOnly]

theorem Lasting.dueCage (h : K.holds s) (c) : K.holds (s.dueCage c) := by grind [State.dueCage, Lasting.onList]

theorem Lasting.startWaves (h : K.holds s) (first) (due) : K.holds (s.startWaves first due) := by
  grind [State.startWaves, Lasting.onList, Lasting.dueCage, Lasting.foldl]

theorem Lasting.stallPorts (h : K.holds s) : K.holds s.stallPorts := by grind [State.stallPorts, Lasting.stallCheck, Lasting.foldl]

theorem Lasting.bookTo (h : K.holds s) (i) (n) : K.holds (s.bookTo i n) := by grind [State.bookTo, Lasting.book]

theorem Lasting.bookSpill (h : K.holds s) : K.holds s.bookSpill := by grind [State.bookSpill, Lasting.bookTo, Lasting.foldl]

theorem Lasting.fireFunction (h : K.holds s) (p) : K.holds (s.fireFunction p) := by grind [State.fireFunction, Lasting.fire]

theorem Lasting.logEntry (h : K.holds s) (kind) (hk : kind ≠ 6) (cls) (wcount) (site) (who) (detail) : K.holds (s.logEntry kind cls wcount site who detail) := by
  unfold State.logEntry
  split
  · exact K.logBoot h ⟨0, kind, cls, wcount, site, who, detail, s.clk.hub⟩ hk
  · exact K.pfVector (K.onFaults h _) 4

theorem Lasting.logFault (h : K.holds s) (kind) (hk : kind ≠ 6) (site) (who) (detail) : K.holds (s.logFault kind site who detail) := by
  grind [State.logFault, Lasting.fireReport, Lasting.countEvent, Lasting.logEntry, Lasting.onFaults]

theorem Lasting.findEarly (h : K.holds s) (c) : K.holds (s.findEarly c) := by
  grind [State.findEarly, Lasting.modPair, Lasting.logFault]

theorem Lasting.lampAction (h : K.holds s) (k) (u) : K.holds (s.lampAction k u) := by
  grind [State.lampAction, Lasting.logAction, Lasting.takeAction, Lasting.findEarly]

theorem Lasting.eccEvent (h : K.holds s) (site) (e) : K.holds (s.eccEvent site e) := by
  unfold State.eccEvent
  split <;> grind [Lasting.onData, Lasting.logFault]

theorem Lasting.logIntegrity (h : K.holds s) (sc) (p) (reason) (site) : K.holds (s.logIntegrity sc p reason site) := by
  grind [State.logIntegrity, Lasting.logFault]

theorem Lasting.endProgram (h : K.holds s) (sc) (e) (reason) : K.holds (s.endProgram sc e reason) := by
  unfold State.endProgram
  split
  · exact h
  next p hp =>
  have hw := Lasting.finishWrites (Lasting.unwait h sc p) sc (!integrityCode (p.endsWith e).code)
  dsimp only
  generalize (s.unwait sc p).finishWrites sc (!integrityCode (p.endsWith e).code) = r at hw ⊢
  have hi : K.holds (if r.2 || integrityCode (p.endsWith e).code then r.1 else r.1.logIntegrity sc p 1 (seqSite ((p.path.map (·.port)).getD 0))) :=
    Lasting.ite (fun _ => hw) (fun _ => Lasting.logIntegrity hw _ _ _ _)
  generalize (if r.2 || integrityCode (p.endsWith e).code then r.1 else r.1.logIntegrity sc p 1 (seqSite ((p.path.map (·.port)).getD 0))) = v at hi ⊢
  refine Lasting.closeKick (Lasting.modSub (Lasting.emptySlice (Lasting.releaseEngine (Lasting.dropReads (Lasting.dropAhead ?_ _) _) _) _) _ _) _
  cases p.chain with
  | none => exact hi
  | some c =>
    refine Lasting.dropPieces ?_ _
    cases p.path with
    | none => exact hi
    | some x =>
      dsimp only
      cases c.tag with
      | none => exact hi
      | some g => exact Lasting.abortExch hi _ _ _

theorem Lasting.lampServe (h : K.holds s) (sc) (u) : K.holds (s.lampServe sc u) := by
  grind [State.lampServe, Lasting.endProgram, Lasting.lampAction]

theorem Lasting.seqException (h : K.holds s) (sc) : K.holds (s.seqException sc) := by
  grind [State.seqException, Lasting.firePort, Lasting.lampServe]

theorem Lasting.stepCheck (h : K.holds s) (sc) (step) (n) : K.holds (s.stepCheck sc step n) := by
  grind [State.stepCheck, Lasting.seqException, Lasting.endProgram]

theorem Lasting.addressCheck (h : K.holds s) (sc) (step) (n) : K.holds (s.addressCheck sc step n) := by
  grind [State.addressCheck, Lasting.seqException, Lasting.endProgram]

theorem Lasting.needStep (h : K.holds s) (sc) (a) : K.holds (s.needStep sc a).1 := by
  grind [State.needStep, Lasting.addressCheck, Lasting.stepCheck, Lasting.askGroup]

theorem Lasting.arrive (h : K.holds s) (sc) : K.holds (s.arrive sc) := by
  grind [State.arrive, Lasting.needStep, Lasting.lookahead, Lasting.pushOutput]

theorem Lasting.stopAt (h : K.holds s) (sc) (e) (step) : K.holds (s.stopAt sc e step) := by grind [State.stopAt, Lasting.endProgram]

theorem Lasting.pathEnd (h : K.holds s) (sc) : K.holds (s.pathEnd sc) := by grind [State.pathEnd, Lasting.endProgram]

theorem Lasting.openChainAs (h : K.holds s) (sc) (turn) : K.holds (s.openChainAs sc turn) := by
  unfold State.openChainAs
  split
  · exact h
  split
  swap
  · exact h
  split
  · exact h
  split
  · exact Lasting.endProgram h _ _ _
  next c x _ _ _ _ =>
  have hc : K.holds (if c.col.isSome then s.claimEngine sc (portDie x.port) else (s, true)).1 := by
    split
    · exact Lasting.claimEngine h _ _
    · exact h
  dsimp only
  generalize (if c.col.isSome then s.claimEngine sc (portDie x.port) else (s, true)) = r at hc ⊢
  have ho := Lasting.openExch hc x.port (.prog sc) x.addr (r.1.sub sc).devaddr c.input c.output false c.op
  split
  · exact hc
  split
  · exact Lasting.modProg hc _ _
  split
  · exact Lasting.modProg ho _ _
  · exact Lasting.pushOutput (Lasting.modProg ho _ _) _

theorem Lasting.takePath (h : K.holds s) (sc) (x) : K.holds (s.takePath sc x) := by
  grind [State.takePath, Lasting.modProg, Lasting.openChainAs, Lasting.arrive]

theorem Lasting.choose (h : K.holds s) (sc) (avoid) : K.holds (s.choose sc avoid) := by
  grind [State.choose, Lasting.takePath, Lasting.modProg, Lasting.pathEnd]

theorem Lasting.retry (h : K.holds s) (sc) (timedOut) : K.holds (s.retry sc timedOut) := by
  grind [State.retry, Lasting.modProg, Lasting.stopAt, Lasting.endProgram, Lasting.choose]

theorem Lasting.exchFailed (h : K.holds s) (sc) (accepted) (timedOut) : K.holds (s.exchFailed sc accepted timedOut) := by
  grind [State.exchFailed, Lasting.lampServe, Lasting.retry, Lasting.modProg, Lasting.endProgram]

theorem Lasting.loseExch (h : K.holds s) (d) (g) : K.holds (s.loseExch d g) := by
  unfold State.loseExch
  split
  · exact h
  next e he =>
  have hd := Lasting.dropAcct (K.modPort (Lasting.dropKept (Lasting.unqueue h d g) e) d (fun p => { p with
      exch := tdel p.exch g.toNat
      quar := tset p.quar g.toNat ⟨e.gen, e.cuaddr, e.devaddr, 3, 0, none, true, true⟩ }) ⟨id, id⟩) 9 (4096 * d.val + g.toNat)
  dsimp only
  split
  · exact Lasting.exchFailed hd _ _ _
  · exact Lasting.identDrop hd _ _

theorem Lasting.abortEnd (h : K.holds s) (d) (reason) (code) (detail) (g) : K.holds (s.abortEnd d reason code detail g) := by
  grind [State.abortEnd, Lasting.endProgram, Lasting.abortExch, Lasting.identDrop]

theorem Lasting.darken (h : K.holds s) (d) : K.holds (s.darken d) := by
  grind [portKeeps, State.darken, Lasting.modPort, Lasting.allExch, Lasting.loseExch, Lasting.dropOwed, Lasting.firePort]

theorem Lasting.unpowerCage (h : K.holds s) (c) : K.holds (s.unpowerCage c) := by
  grind [State.unpowerCage, Lasting.darken, Lasting.modCage, Lasting.emit, Lasting.foldl]

theorem Lasting.stopProg (h : K.holds s) (sc) (e) : K.holds (s.stopProg sc e) := by
  grind [State.stopProg, Lasting.modProg, Lasting.endProgram]

theorem Lasting.enterSafe (h : K.holds s) (cause) (site) : K.holds (s.enterSafe cause site) := by
  grind [State.enterSafe, Lasting.onFaults, Lasting.emit, Lasting.allExch, Lasting.abortEnd, Lasting.logFault,
    Lasting.pfVector, Lasting.foldl]

theorem Lasting.retirePort (h : K.holds s) (d) : K.holds (s.retirePort d) := by
  grind [portKeeps, State.retirePort, Lasting.modPort, Lasting.darken, Lasting.portEvent]

theorem Lasting.recordSite (h : K.holds s) (site) (action) (by1) : K.holds (s.recordSite site action by1) := by
  grind [State.recordSite, Lasting.onFaults, Lasting.logEntry]

theorem Lasting.readSpill (h : K.holds s) (t) (q) (i) (e) : K.holds (s.readSpill t q i e).1 := by grind [State.readSpill, Lasting.eccEvent]

theorem Lasting.handCopies (h : K.holds s) (n) (t) (q) : K.holds (State.handCopies n s t q).1 := by
  induction n generalizing s with
  | zero => exact h
  | succ n ih => grind [State.handCopies, Lasting.readSpill, Lasting.handOn]

theorem Lasting.grant (h : K.holds s) (t) (q) : K.holds (s.grant t q) := by
  unfold State.grant
  split
  · exact h
  next k0 hk0 =>
  have hc := Lasting.handCopies (K.onQueues h (fun k => { k with arb := { k.arb with
      lastTenant := tset k.arb.lastTenant k0.cls.toNat t.toNat, lastQueue := tset k.arb.lastQueue (8 * t.toNat + k0.cls.toNat) q.val } }) rfl) 8 t q
  dsimp only
  split
  · exact hc
  · exact Lasting.ite (fun _ => K.onQueues (Lasting.issueEntryRead hc _ _ _) _ rfl) (fun _ => hc)

theorem Lasting.deleteQueues (h : K.holds s) (t) : K.holds (s.deleteQueues t) := by
  grind [State.deleteQueues, Lasting.rebuildAcct, Lasting.book, Lasting.dropAcct, Lasting.onQueues, Lasting.grant,
    Lasting.dropKeys, Lasting.foldl]

theorem Lasting.dimPorts (h : K.holds s) : K.holds s.dimPorts := by grind [State.dimPorts, Lasting.darken, Lasting.foldl]

end
end Sys2Proof.Machine

namespace Sys2Proof.Machine
open Sys2Proof
-- The automated proofs below are checked one after another: side by side they need too much memory.
set_option Elab.async false

/-! ### Properties that last through what follows every command (R421) -/

/-- A property that lasts through settling, retrains and the retirement of pairs among it. -/
structure Settling extends Lasting where
  queues {s : State} (h : holds s) (f) : holds (s.onQueues f)
  modOq {s : State} (h : holds s) (p : HPort) (f) : holds (s.modOq p f)
  onOrders {s : State} (h : holds s) (f) : holds (s.onOrders f)
  onFw {s : State} (h : holds s) (f : Firmware → Firmware) (hf : (f s.fw).bootFaults = s.fw.bootFaults) : holds (s.onFw f)
  retrainBy {s : State} (h : holds s) (d : DPort) (beyond : Bool) : holds (s.retrainBy d beyond)
  retirePair {s : State} (h : holds s) (c : PairNum) : holds (s.retirePair c)

section
variable {K : Settling} {s : State}

theorem Settling.anyTenant (h : K.holds s) (t) (f) : K.holds (s.modTenant t f) := K.queues h _

theorem Settling.requiet (h : K.holds s) : K.holds s.requiet := K.queues h _

theorem Settling.retrain (h : K.holds s) (d) : K.holds (s.retrain d) := by grind [State.retrain, Settling.retrainBy]

theorem Settling.quarCheck (h : K.holds s) : K.holds s.quarCheck := by grind [State.quarCheck, Settling.retrain, Lasting.foldl]

theorem Settling.retireUnit (h : K.holds s) (site) (row) (u) : K.holds (s.retireUnit site row u).1 := by
  unfold State.retireUnit
  split <;> grind [Lasting.withholdRow, Settling.retirePair, Lasting.onCores, Lasting.retirePort, Lasting.retireMover,
    Lasting.modPool, Lasting.modCage, Lasting.unpowerCage, Lasting.fenceCage, Settling.onFw, Lasting.enterSafe]

theorem Settling.actSite (h : K.holds s) (site) (row) (by1) : K.holds (s.actSite site row by1).1 := by
  grind [State.actSite, Lasting.onFaults, Settling.retireUnit, Lasting.recordSite]

theorem Settling.actSites (h : K.holds s) (n) : K.holds (State.actSites n s) := by
  induction n generalizing s with
  | zero => exact h
  | succ n ih => grind [State.actSites, Settling.actSite, Lasting.onFaults]

theorem Settling.fetchOrders (h : K.holds s) (p) : K.holds (s.fetchOrders p) := by grind [State.fetchOrders, Settling.modOq, Lasting.sendRead]

theorem Settling.beginOrder (h : K.holds s) (p) (b) : K.holds (s.beginOrder p b) := by
  grind [State.beginOrder, Settling.modOq, Settling.onOrders, Lasting.work]

theorem Settling.setStage (h : K.holds s) (p) (g) : K.holds (s.setStage p g) := by grind [State.setStage, Settling.modOq]

theorem Settling.effected (h : K.holds s) (p) : K.holds (s.effected p) := by grind [State.effected, Settling.modOq]

theorem Settling.bindTenant (h : K.holds s) (t) (x) : K.holds (s.bindTenant t x) := by
  grind [State.bindTenant, Settling.anyTenant, Lasting.journal]

theorem Settling.afterReply (h : K.holds s) (x) : K.holds (s.afterReply x) := by
  unfold State.afterReply
  split <;> grind [Lasting.startWaves, Settling.bindTenant]

theorem Settling.putReply (h : K.holds s) (p) (time) (status0) (result0) : K.holds (s.putReply p time status0 result0) := by
  grind [State.putReply, Settling.modOq, Settling.afterReply, Settling.setStage, Lasting.sendWrite, Lasting.vector,
    Settling.fetchOrders]

theorem Settling.done (h : K.holds s) (p) (result) : K.holds (s.done p result) := by grind [State.done, Settling.putReply]

theorem Settling.unbindFinish (h : K.holds s) (p) (t) (mode) (aborted) : K.holds (s.unbindFinish p t mode aborted) :=
  Settling.done (Settling.effected (Settling.anyTenant (Lasting.deleteQueues (Lasting.journal h _ _ _ _ _) _) _ _) _) _ _

theorem Settling.settleOrder (h : K.holds s) (p) : K.holds (s.settleOrder p) := by
  have hd : ∀ r, K.holds (s.done p r) := Settling.done h p
  unfold State.settleOrder
  split
  · exact h
  split
  · exact h
  split
  case h_4 =>
    split
    · split
      · exact Settling.done (Lasting.modSq (Lasting.ite (fun _ => Lasting.rebuildAcct h _ _ _ _) (fun _ => h)) _ _ _) _ _
      · exact h
    · exact hd _
  all_goals grind [Settling.putReply, Lasting.sendRead, Settling.unbindFinish]

theorem Settling.answerFailed (h : K.holds s) (p) : K.holds (s.answerFailed p) := by
  grind [State.answerFailed, Settling.beginOrder, Settling.putReply]

theorem Settling.noteWait (h : K.holds s) (p) : K.holds (s.noteWait p) := by grind [State.noteWait, Settling.modOq]

theorem Settling.settleOrders (h : K.holds s) (n) : K.holds (State.settleOrders n s) := by
  induction n generalizing s with
  | zero => exact h
  | succ n ih =>
    have hs := Settling.settleOrder (Settling.settleOrder h 0) 1
    have ha := Settling.answerFailed (Settling.answerFailed hs 0) 1
    have hn := Settling.noteWait (Settling.noteWait ha 0) 1
    unfold State.settleOrders
    exact Lasting.ite (fun _ => hn) (fun _ => ih hn)

theorem Settling.settle (h : K.holds s) : K.holds s.settle :=
  Settling.settleOrders (Settling.requiet (Settling.actSites
    (Lasting.bookSpill (Lasting.stallPorts (Lasting.dimPorts (Settling.quarCheck h)))) _)) _

end
end Sys2Proof.Machine

namespace Sys2Proof.Machine
open Sys2Proof

/-! ### Two properties of a port that last (R260, R275) -/

section
variable {s : State} {d : DPort}

theorem satInc_ne_zero (x : W32) : satInc x ≠ 0 := by
  unfold satInc
  split
  · next h => rw [h]; decide
  · next h =>
    rw [show BitVec.allOnes 32 = 0xFFFFFFFF#32 by decide] at h
    bv_omega

/-- A property of the ports alone lasts when every change of a port that keeps the retrains keeps it. -/
def Lasting.ofPorts (Q : Ports → Prop) (hport : ∀ (s : State) (d : DPort) (f : Port → Port), portKeeps (s.port d) (f (s.port d)) → Q s.ports → Q (s.modPort d f).ports)
    (hcage : ∀ (s : State) (c : CageNum) (f : Cage → Cage), Q s.ports → Q (s.modCage c f).ports) : Lasting where
  holds s := Q s.ports
  onOut h _ := h
  onPower h _ := h
  onVfs h _ := h
  onList h _ := h
  onProg h _ := h
  onData h _ := h
  onFaults h _ := h
  onQueues h _ _ := h
  modTenant h _ _ _ := h
  modHost h _ _ _ := h
  vector {s} h fn v := by rw [State.vector_ports]; exact h
  modPort h d f hf := hport _ d f hf h
  modCage h c f := hcage _ c f h
  pend h _ _ := h
  onCores h _ _ := h
  modPair h _ _ _ := h
  logBoot h _ _ := h

/-- The record of a port in the table of ports. -/
def portIn (t : Ports) (d : DPort) : Port := tget {} t.ports d.val

theorem portIn_modPort_same (f : Port → Port) : portIn (s.modPort d f).ports d = f (portIn s.ports d) := s.port_modPort d f

theorem portIn_modPort_ne {e : DPort} (f : Port → Port) (h : d ≠ e) : portIn (s.modPort e f).ports d = portIn s.ports d := s.port_modPort_ne e d f h

/-- A property of the record of one port lasts when every change that keeps the retrains keeps it. -/
abbrev Lasting.ofPort (d : DPort) (Q : Port → Prop) (hQ : ∀ p q, portKeeps p q → Q p → Q q) : Lasting :=
  Lasting.ofPorts (fun t => Q (portIn t d))
    (fun s e f hf h => by
      by_cases he : d = e
      · subst he
        rw [portIn_modPort_same]
        exact hQ _ _ hf h
      · rw [portIn_modPort_ne f he]
        exact h)
    (fun _ _ _ h => h)

/-- A port had a retrain since its count was cleared. -/
def Lasting.retrained (d : DPort) : Lasting := Lasting.ofPort d (fun p => p.retrains ≠ 0) (fun _ _ hk => hk.2)

theorem portKeeps.notDue {p q : Port} (hk : portKeeps p q) (h : p.retrainDue = false) : q.retrainDue = false := by
  cases hq : q.retrainDue with
  | false => rfl
  | true => rw [← hk.1 hq, h]

theorem State.logLink_ports (field addr : Nat) (fwrev : W32) : (s.logLink d field addr fwrev).ports = s.ports := State.logFault_ports _ _ _ _ _

/-! #### Retrains and pairs retired keep what is of the ports alone -/

variable {Q : Ports → Prop} {hport : ∀ (s : State) (d : DPort) (f : Port → Port), portKeeps (s.port d) (f (s.port d)) → Q s.ports → Q (s.modPort d f).ports}
  {hcage : ∀ (s : State) (c : CageNum) (f : Cage → Cage), Q s.ports → Q (s.modCage c f).ports}

theorem portKeeps_retrain (p : Port) (was : Bool) : portKeeps p { p with
    retrainDue := false, retrains := if was then satInc p.retrains else p.retrains } := by
  refine ⟨fun h => absurd h Bool.false_ne_true, fun h => ?_⟩
  cases was with
  | true => exact satInc_ne_zero _
  | false => exact h

theorem Lasting.ofPorts_logLink (h : (Lasting.ofPorts Q hport hcage).holds s) (d) (field) (addr) (fwrev) :
    (Lasting.ofPorts Q hport hcage).holds (s.logLink d field addr fwrev) := by
  show Q (s.logLink d field addr fwrev).ports
  rw [State.logLink_ports]
  exact h

theorem Lasting.ofPorts_retrainBy (h : (Lasting.ofPorts Q hport hcage).holds s) (d) (beyond) : (Lasting.ofPorts Q hport hcage).holds (s.retrainBy d beyond) := by
  have hfold : ∀ f, portKeeps (s.port d) (f (s.port d)) → (Lasting.ofPorts Q hport hcage).holds
      ((((s.modPort d f).allExch d (fun s g => s.loseExch d g)).dropOwed d).firePort d 1) := fun f hf =>
    Lasting.firePort (Lasting.dropOwed (Lasting.allExch ((Lasting.ofPorts Q hport hcage).modPort h d f hf) d _ (fun s g hs => Lasting.loseExch hs d g)) d) d 1
  have hkeep := portKeeps_retrain (s.port d) (decide ((s.port d).link = 5) || beyond)
  unfold State.retrainBy
  exact Lasting.ite (fun _ => Lasting.portEvent (Lasting.ofPorts_logLink (hfold _ hkeep) _ _ _ _) _) (fun _ => hfold _ hkeep)

theorem Lasting.ofPorts_noPairPorts (h : (Lasting.ofPorts Q hport hcage).holds s) (k) : (Lasting.ofPorts Q hport hcage).holds (s.noPairPorts k) :=
  Lasting.foldl h _ fun s d hs => Lasting.ite (fun _ => hs)
    (fun _ => Lasting.portEvent (Lasting.ofPorts_logLink (Lasting.addFence hs d .noPair) _ _ _ _) d)

theorem Lasting.ofPorts_takeover (h : (Lasting.ofPorts Q hport hcage).holds s) (c) : (Lasting.ofPorts Q hport hcage).holds (s.takeover c) := by
  unfold State.takeover
  split
  · exact h
  next k hk =>
  split
  · refine Lasting.takeAction (s := s.handOver c _) ?_ k
    unfold State.handOver
    split <;> exact h
  · exact Lasting.ofPorts_noPairPorts (s := s.modPair c _) h k

theorem Lasting.ofPorts_retirePair (h : (Lasting.ofPorts Q hport hcage).holds s) (c) : (Lasting.ofPorts Q hport hcage).holds (s.retirePair c) :=
  Lasting.ofPorts_takeover h c

/-- A property of the record of one port lasts through settling. -/
def Settling.ofPort (d : DPort) (P : Port → Prop) (hP : ∀ p q, portKeeps p q → P p → P q) : Settling where
  toLasting := Lasting.ofPort d P hP
  queues h _ := h
  modOq h _ _ := h
  onOrders h _ := h
  onFw h _ _ := h
  retrainBy := Lasting.ofPorts_retrainBy
  retirePair := Lasting.ofPorts_retirePair

theorem State.settle_retrainDue (h : (s.port d).retrainDue = false) : (s.settle.port d).retrainDue = false :=
  Settling.settle (K := Settling.ofPort d (fun p => p.retrainDue = false) (fun _ _ hk => hk.notDue)) (s := s) h

end
end Sys2Proof.Machine

namespace Sys2Proof.Machine
open Sys2Proof
-- The automated proofs below are checked one after another: side by side they need too much memory.
set_option Elab.async false

/-! ### Properties that last through what a received frame sets off -/

section
variable {K : Lasting} {s : State}

theorem Lasting.modExch (h : K.holds s) (d) (g) (f) : K.holds (s.modExch d g f) := by grind [portKeeps, State.modExch, Lasting.modPort]

theorem Lasting.allocBuf (h : K.holds s) (p) (b) : K.holds (s.allocBuf p b).1 := by grind [State.allocBuf, Lasting.onData, Lasting.book]

theorem Lasting.quarFree (h : K.holds s) (d) (g) : K.holds (s.quarFree d g) := by grind [portKeeps, State.quarFree, Lasting.modPort, Lasting.freeTag]

theorem Lasting.colTake (h : K.holds s) (n) (sc) (x) (c) (l) : K.holds (State.colTake n s sc x c l).1 := by
  induction n generalizing s c l with
  | zero => exact Lasting.dropPieces h l
  | succ n ih => grind [State.colTake, Lasting.dropPieces, Lasting.cutRef, Lasting.emitChunks, Lasting.modXfer]

theorem Lasting.route (h : K.holds s) (n) (sc) : K.holds (State.route n s sc) := by
  induction n generalizing s with
  | zero => exact h
  | succ n ih =>
    have htaken : ∀ b f, K.holds ((s.cutRef b).modChain sc f) := fun b f => Lasting.modChain (Lasting.cutRef h b) sc f
    unfold State.route
    split
    · exact h
    split
    · exact h
    dsimp only
    split
    · exact h
    split
    · exact h
    split
    · exact ih (Lasting.dropPieces (htaken _ _) _)
    split
    · exact ih (Lasting.modChain (Lasting.colTake (htaken _ _) _ _ _ _ _) _ _)
    · exact ih (Lasting.modChain (Lasting.modProg (Lasting.emitChunks (htaken _ _) _ _ _ _ _ _ _) _ _) _ _)

theorem Lasting.stageInput (h : K.holds s) (sc) (d) (b) : K.holds (s.stageInput sc d b) := by
  grind [State.stageInput, Lasting.allocBuf, Lasting.dropRef, Lasting.modChain, Lasting.route]

theorem Lasting.endIntegrity (h : K.holds s) (sc) (reason) (step) (site) : K.holds (s.endIntegrity sc reason step site) := by
  grind [State.endIntegrity, Lasting.logIntegrity, Lasting.endProgram]

theorem Lasting.goTo (h : K.holds s) (sc) (a) : K.holds (s.goTo sc a) := by
  grind [State.goTo, Lasting.stopAt, Lasting.modProg, Lasting.arrive]

theorem Lasting.report (h : K.holds s) (sc) (step) : K.holds (s.report sc step) := by
  grind [State.report, Lasting.modProg, Lasting.closeKick]

theorem Lasting.goOn (h : K.holds s) (sc) (a) (step) (post) : K.holds (s.goOn sc a step post) := by
  grind [State.goOn, Lasting.report, Lasting.goTo]

theorem Lasting.endOk (h : K.holds s) (sc) (step) : K.holds (s.endOk sc step) := by grind [State.endOk, Lasting.endProgram]

theorem Lasting.unguarded (h : K.holds s) (sc) (g) (chain) (from1) : K.holds (s.unguarded sc g chain from1) := by
  grind [State.unguarded, Lasting.endProgram, Lasting.goOn]

theorem Lasting.deviceEnd (h : K.holds s) (sc) (c) (st) (g) : K.holds (s.deviceEnd sc c st g) := by
  grind [State.deviceEnd, Lasting.modProg, Lasting.goOn, Lasting.endOk, Lasting.seqException, Lasting.goTo, Lasting.unguarded]

theorem Lasting.judge (h : K.holds s) (sc) : K.holds (s.judge sc) := by
  unfold State.judge
  split
  · exact h
  next p hp =>
  split
  · exact h
  next c hc =>
  split
  · exact h
  next st hst =>
  have hf := Lasting.finishWrites h sc true
  dsimp only
  split
  · exact Lasting.needStep h _ _
  split
  · exact Lasting.endIntegrity hf _ _ _ _
  · exact Lasting.deviceEnd (Lasting.dropPieces hf _) _ _ _ _

theorem Lasting.openChain (h : K.holds s) (sc) : K.holds (s.openChain sc) := by grind [State.openChain, Lasting.openChainAs]

theorem Lasting.moveAway (h : K.holds s) (sc) (d) : K.holds (s.moveAway sc d) := by
  grind [State.moveAway, Lasting.takePath, Lasting.onPower, Lasting.endProgram]

theorem Lasting.sendChain (h : K.holds s) (sc) : K.holds (s.sendChain sc) := by
  grind [State.sendChain, Lasting.openChain, Lasting.moveAway, Lasting.retry]

theorem Lasting.overrun (h : K.holds s) (sc) : K.holds (s.overrun sc) := by
  unfold State.overrun
  split
  · exact h
  split
  swap
  · exact h
  split
  · exact h
  split
  · exact h
  split
  · exact h
  split
  · exact Lasting.modChain (K.modPort h _ _ ⟨id, id⟩) _ _
  · exact Lasting.ite (fun _ => Lasting.modChain (Lasting.abortExch h _ _ _) _ _) (fun _ => h)

theorem Lasting.chainOn (h : K.holds s) (sc) : K.holds (s.chainOn sc) := by
  have ho := Lasting.overrun (Lasting.lookahead h sc) sc
  unfold State.chainOn
  dsimp only
  split
  · exact ho
  split
  · exact ho
  split
  · exact Lasting.ite (fun _ => Lasting.stopAt ho _ _ _) (fun _ => Lasting.judge ho _)
  · exact Lasting.judge (Lasting.ite (fun _ => Lasting.needStep ho _ _) (fun _ => ho)) _

theorem Lasting.fireAcct (h : K.holds s) (a) (i) : K.holds (s.fireAcct a i) := by grind [State.fireAcct, Lasting.fire]

theorem Lasting.logBalance (h : K.holds s) (a) (i) (x) (site) : K.holds (s.logBalance a i x site) := by
  grind [State.logBalance, Lasting.fire, Lasting.fireAcct, Lasting.logFault]

theorem Lasting.kickIdents (h : K.holds s) (d) : K.holds (s.kickIdents d) := by grind [State.kickIdents, Lasting.openExch, Lasting.foldl]

theorem Lasting.upIfDone (h : K.holds s) (d) : K.holds (s.upIfDone d) := by grind [portKeeps, State.upIfDone, Lasting.modPort, Lasting.firePort]

theorem Lasting.noteFwrev (h : K.holds s) (cu) (fwrev) : K.holds (s.noteFwrev cu fwrev) := by grind [State.noteFwrev, Lasting.onProg]

theorem Lasting.takeData (h : K.holds s) (d) (g) (e) (b) : K.holds (s.takeData d g e b) := by
  grind [portKeeps, State.takeData, Lasting.modExch, Lasting.book, Lasting.modPath, Lasting.modPort, Lasting.stageInput,
    Lasting.chainOn]

theorem Lasting.busyAnswer (h : K.holds s) (sc) : K.holds (s.busyAnswer sc) := by
  have hl := Lasting.lampServe (Lasting.fireProg h sc 3) sc .link
  unfold State.busyAnswer
  dsimp only
  split
  · exact hl
  split
  · exact hl
  have hm := fun f => Lasting.modProg hl sc f
  split
  · exact Lasting.endProgram (hm _) _ _ _
  · exact Lasting.ite (fun _ => Lasting.endProgram (hm _) _ _ _) (fun _ => hm _)

theorem Lasting.breakChain (h : K.holds s) (d) (g) (sc) : K.holds (s.breakChain d g sc) := by
  grind [State.breakChain, Lasting.logBalance, Lasting.onFaults, Lasting.modChain, Lasting.endProgram]

end

/-- A property that lasts through the entries of the Sector Link in the fault log as well. -/
structure Linking extends Lasting where
  logLink {s : State} (h : holds s) (d : DPort) (field addr : Nat) (fwrev : W32) : holds (s.logLink d field addr fwrev)

section
variable {K : Linking} {s : State}

theorem Linking.fence (h : K.holds s) (d) (c) (addr) (fwrev) : K.holds (s.fence d c addr fwrev) := by
  grind [State.fence, Lasting.addFence, Linking.logLink, Lasting.portEvent, Lasting.firePort]

theorem Linking.identityFence (h : K.holds s) (d) (a) (fwrev) : K.holds (s.identityFence d a fwrev) := by
  grind [portKeeps, State.identityFence, Lasting.modPath, Lasting.modPort, Linking.fence, Lasting.allExch, Lasting.abortEnd]

theorem Linking.identResult (h : K.holds s) (d) (a) (id) : K.holds (s.identResult d a id) := by
  have hf := Lasting.firePort (K.modPort (Lasting.modPath h d a (fun x => { x with probing := false })) d
    (fun p => { p with idLeft := p.idLeft.filter (· != a) }) ⟨fun h => h, fun h => h⟩) d 4
  unfold State.identResult
  dsimp only
  refine Lasting.upIfDone ?_ d
  split
  · exact K.onList hf _
  · have hn := fun cu rev => Lasting.noteFwrev hf cu rev
    exact Lasting.ite (fun _ => K.logLink (Lasting.modPath (hn _ _) _ _ _) _ _ _ _) (fun _ => Linking.identityFence (hn _ _) _ _ _)
  · exact K.logLink (Lasting.modPath hf _ _ _) _ _ _ _

theorem Linking.noteUnnamed (h : K.holds s) (d) (a) : K.holds (s.noteUnnamed d a) := by
  grind [portKeeps, State.noteUnnamed, Lasting.modPort, Linking.logLink]

theorem Linking.statusEnd (h : K.holds s) (d) (g) (e) (f) : K.holds (s.statusEnd d g e f) := by
  grind [State.statusEnd, Lasting.closeExch, Linking.identResult, Lasting.busyAnswer, Lasting.breakChain,
    Lasting.dropReads, Lasting.modChain, Lasting.chainOn]

end
end Sys2Proof.Machine

namespace Sys2Proof.Machine
open Sys2Proof

/-! ### Frames received (R263, R264, R271) -/

section
variable {s t : State} {d : DPort} {f : Frame} {e : Exch}

/-- No retrain waits for a frame at port `d`. -/
def Linking.neverDue (d : DPort) : Linking where
  toLasting := Lasting.ofPort d (fun p => p.retrainDue = false) (fun _ _ hk => hk.notDue)
  logLink h d field addr fwrev := Lasting.ofPorts_logLink h d field addr fwrev

theorem Linking.neverDue_iff : (Linking.neverDue d).holds s ↔ (s.port d).retrainDue = false := Iff.rfl

/-! #### What a good frame does before its own effect -/

/-- A frame that passes its checks has used its credit (R263). -/
def State.taken (s : State) (d : DPort) (f : Frame) : State :=
  match frameClass f with
  | none => (s.modPort d (fun p => { p with lastRx := s.clk.now })).work
  | some isData => (s.modPort d (fun p => { p with lastRx := s.clk.now })).work.useCredit d isData

theorem State.useCredit_only (isData : Bool) : onlyPort d s (s.useCredit d isData) := onlyPort_modPort _

theorem State.taken_only : onlyPort d s (s.taken d f) := by
  have hw : onlyPort d s (s.modPort d (fun p => { p with lastRx := s.clk.now })).work := (onlyPort_modPort _).trans onlyPort_work
  unfold State.taken
  split
  · exact hw
  · exact hw.trans (State.useCredit_only _)

theorem State.taken_port : (s.taken d f).port d = takesFrame s.clk.now f (s.port d) := by
  have hw : (s.modPort d (fun p => { p with lastRx := s.clk.now })).work.port d = { s.port d with lastRx := s.clk.now } := s.port_modPort d _
  unfold State.taken takesFrame
  cases frameClass f with
  | none => exact hw
  | some isData =>
    refine (State.port_modPort _ d _).trans ?_
    rw [hw]
    cases isData <;> rfl

theorem takesFrame_exch (now : Nat) (p : Port) : (takesFrame now f p).exch = p.exch ∧ (takesFrame now f p).quar = p.quar ∧ (takesFrame now f p).early = p.early ∧
    (takesFrame now f p).resends = p.resends ∧ (takesFrame now f p).dataQ = p.dataQ ∧ (takesFrame now f p).freed = p.freed ∧
    (takesFrame now f p).resendTx = p.resendTx ∧ (takesFrame now f p).resendRx = p.resendRx ∧ (takesFrame now f p).retrainDue = p.retrainDue := by
  unfold takesFrame
  split
  · exact ⟨rfl, rfl, rfl, rfl, rfl, rfl, rfl, rfl, rfl⟩
  · next isData _ => cases isData <;> exact ⟨rfl, rfl, rfl, rfl, rfl, rfl, rfl, rfl, rfl⟩

theorem State.takeFrame_arrives (h : arrives s d f) (act : State → State) : s.takeFrame d f act = (act (s.taken d f)).settle := by
  obtain ⟨htx, hlk, hrf, hseen, hbad, -, hcredit⟩ := h
  unfold State.takeFrame State.taken
  dsimp only
  rw [htx, hlk, hrf, hseen, hbad]
  refine (if_neg (by decide)).trans ((if_neg (by decide)).trans ((if_neg (by decide)).trans ((if_neg (by decide)).trans ?_)))
  cases hc : frameClass f with
  | none => rfl
  | some isData => exact if_neg (hcredit isData hc)

theorem State.dueRetrain_not (h : (s.port d).retrainDue = false) : s.dueRetrain d = s := if_neg (by rw [h]; exact Bool.false_ne_true)

theorem State.receive_arrives (h : arrives s d f) {act : State → State} (ha : (Linking.neverDue d).holds (act (s.taken d f))) :
    s.receive d f act = (act (s.taken d f)).settle := by
  rw [State.receive, State.takeFrame_arrives h]
  exact State.dueRetrain_not (State.settle_retrainDue ha)

theorem arrives.taken_due (h : arrives s d f) : (Linking.neverDue d).holds (s.taken d f) := by
  obtain ⟨-, -, -, -, -, hdue, -⟩ := h
  rw [Linking.neverDue_iff, State.taken_port]
  exact (takesFrame_exch _ _).2.2.2.2.2.2.2.2.trans hdue

/-! #### The exchange that a frame names (checks 5 to 8 of R271) -/

theorem State.addrKnown_of_exch {g : Nat} {a : Byte} (he : tfind (s.port d).exch g = some e) (ha : e.cuaddr = a) : s.addrKnown d a = true := by
  have : (s.port d).exch.any (fun e => e.2.cuaddr == a) = true := List.any_eq_true.mpr ⟨_, mem_of_tfind he, beq_iff_eq.mpr ha⟩
  rw [State.addrKnown, this, Bool.or_true, Bool.true_or]

theorem State.addrKnown_of_quar {g : Nat} {a : Byte} {q : Quar} (hq : tfind (s.port d).quar g = some q) (ha : q.cuaddr = a) : s.addrKnown d a = true := by
  have : (s.port d).quar.any (fun q => q.2.cuaddr == a) = true := List.any_eq_true.mpr ⟨_, mem_of_tfind hq, beq_iff_eq.mpr ha⟩
  rw [State.addrKnown, this, Bool.or_true]

theorem State.onExch_names (h : namesExch s d f e) (forbidden : Exch → Bool) (act : State → Exch → State) :
    s.onExch d f forbidden act = if forbidden e then s.modPort d (fun p => { p with frmerr := satInc p.frmerr }) else act s e := by
  obtain ⟨he, hg, hs, hc, hd⟩ := h
  unfold State.onExch
  dsimp only
  rw [State.addrKnown_of_exch he hc, he]
  dsimp only
  rw [hg, hs, hc, hd]
  simp

theorem State.onExch_stale (he : tfind (s.port d).exch f.tag.toNat = some e) (hc : e.cuaddr = f.cuaddr) (hg : e.gen ≠ f.gen) (forbidden : Exch → Bool)
    (act : State → Exch → State) : s.onExch d f forbidden act = s.modPort d (fun p => { p with stale := satInc p.stale }) := by
  unfold State.onExch
  dsimp only
  rw [State.addrKnown_of_exch he hc, he]
  dsimp only
  refine (if_neg (by decide)).trans (if_pos ?_)
  rw [bne_iff_ne.mpr hg]
  rfl

theorem State.onExch_quar {q : Quar} (he : tfind (s.port d).exch f.tag.toNat = none) (hq : tfind (s.port d).quar f.tag.toNat = some q) (hg : q.gen = f.gen)
    (hs : q.sent = true) (hr : q.retired = false) (hc : q.cuaddr = f.cuaddr) (hd : q.devaddr = f.devaddr) (forbidden : Exch → Bool) (act : State → Exch → State) :
    s.onExch d f forbidden act = s.quarFree d f.tag := by
  unfold State.onExch
  dsimp only
  rw [State.addrKnown_of_quar hq hc, he, hq]
  dsimp only
  rw [hg, hs, hr, hc, hd]
  simp

theorem State.taken_names (h : namesExch s d f e) : namesExch (s.taken d f) d f e := by
  obtain ⟨he, hrest⟩ := h
  refine ⟨?_, hrest⟩
  rw [State.taken_port, (takesFrame_exch _ _).1]
  exact he

theorem State.taken_clk : (s.taken d f).clk = s.clk := (congrArg State.clk State.taken_only.2.2 :)

/-! #### The timers of an exchange start anew (R273) -/

theorem State.touchExch_port {g : Tag} (he : tfind (s.port d).exch g.toNat = some e) (accepts : Bool) :
    (s.touchExch d g accepts).port d = { s.port d with exch := tset (s.port d).exch g.toNat (touched s.clk.now accepts e) } := by
  rw [State.touchExch, State.modExch_port _ he, secondTicks_eq, msTicks_eq]
  rfl

theorem State.touchExch_only {g : Tag} (accepts : Bool) : onlyPort d s (s.touchExch d g accepts) := onlyPort_modPort _

/-- The frame `f` of the exchange `e` has been taken and has started its timers anew. -/
def State.touchedBy (s : State) (d : DPort) (f : Frame) (accepts : Bool) : State := (s.taken d f).touchExch d f.tag accepts

theorem State.touchedBy_only (accepts : Bool) : onlyPort d s (s.touchedBy d f accepts) := State.taken_only.trans (State.touchExch_only accepts)

theorem State.touchedBy_port (he : tfind (s.port d).exch f.tag.toNat = some e) (accepts : Bool) : (s.touchedBy d f accepts).port d =
    { takesFrame s.clk.now f (s.port d) with exch := tset (s.port d).exch f.tag.toNat (touched s.clk.now accepts e) } := by
  have hx : (takesFrame s.clk.now f (s.port d)).exch = (s.port d).exch := (takesFrame_exch _ _).1
  rw [State.touchedBy, State.touchExch_port (e := e) (by rw [State.taken_port, hx]; exact he), State.taken_port, hx, State.taken_clk]

theorem State.touchedBy_due (h : arrives s d f) (accepts : Bool) : (Linking.neverDue d).holds (s.touchedBy d f accepts) :=
  Lasting.modExch h.taken_due d f.tag _

end
end Sys2Proof.Machine

namespace Sys2Proof.Machine
open Sys2Proof

section
variable {K : Linking} {s : State} {d : DPort} {f : Frame} {e : Exch}

/-! #### What lasts through a frame's own effect -/

theorem Linking.resendLimit (h : K.holds s) (d) (g) (e) : K.holds (s.resendLimit d g e) := by
  have ha := Lasting.abortExch h d g 4
  unfold State.resendLimit
  dsimp only
  split
  · exact Linking.identResult ha _ _ _
  split
  · exact ha
  · exact Lasting.endProgram (Lasting.logIntegrity ha _ _ _ _) _ _ _

theorem Lasting.queueResend {K : Lasting} (h : K.holds s) (d) (g) (e) : K.holds (s.queueResend d g e) := K.modPort h d _ ⟨id, id⟩

theorem Linking.askAgain (h : K.holds s) (d) (g) (e) : K.holds (s.askAgain d g e) := by
  unfold State.askAgain
  exact Lasting.ite (fun _ => Linking.resendLimit h d g e) (fun _ => Lasting.queueResend (Lasting.modExch h d g _) d g e)

theorem State.retrainBy_due (beyond : Bool) : ((s.retrainBy d beyond).port d).retrainDue = false := by
  have hfold : ∀ f, (f (s.port d)).retrainDue = false → (Linking.neverDue d).holds
      ((((s.modPort d f).allExch d (fun s g => s.loseExch d g)).dropOwed d).firePort d 1) := by
    intro f hf
    have hm : (Linking.neverDue d).holds (s.modPort d f) := by
      rw [Linking.neverDue_iff, State.port_modPort]
      exact hf
    exact Lasting.firePort (Lasting.dropOwed (Lasting.allExch hm d _ (fun s g hs => Lasting.loseExch hs d g)) d) d 1
  show (Linking.neverDue d).holds _
  unfold State.retrainBy
  exact Lasting.ite (fun _ => Lasting.portEvent ((Linking.neverDue d).logLink (hfold _ rfl) _ _ _ _) _) (fun _ => hfold _ rfl)

/-! #### Frames that name an open exchange -/

/-- What a frame of the exchange `e` leaves before settling. -/
def State.named (s : State) (d : DPort) (f : Frame) (forbidden : Exch → Bool) (act : State → Exch → State) (e : Exch) : State :=
  if forbidden e then (s.taken d f).modPort d (fun p => { p with frmerr := satInc p.frmerr }) else act (s.taken d f) e

theorem State.counted_due (h : arrives s d f) : (Linking.neverDue d).holds ((s.taken d f).modPort d (fun p => { p with frmerr := satInc p.frmerr })) :=
  (Linking.neverDue d).modPort h.taken_due d _ ⟨id, id⟩

theorem State.receive_names (h : arrives s d f) (hn : namesExch s d f e) (forbidden : Exch → Bool) (act : State → Exch → State)
    (ha : (Linking.neverDue d).holds (act (s.taken d f) e)) :
    s.receive d f (fun s => s.onExch d f forbidden act) = (s.named d f forbidden act e).settle := by
  have hx := State.onExch_names (State.taken_names hn) forbidden act
  rw [State.receive_arrives h, hx]
  · rfl
  · rw [hx]
    exact Lasting.ite (fun _ => State.counted_due h) (fun _ => ha)

/-! #### DATA (R269-R271, R276) -/

/-- The effect of a DATA frame of the exchange `e` that no REFUSE ends. -/
def State.dataEffect (s : State) (d : DPort) (f : Frame) (e : Exch) : State :=
  if f.pcrc != payloadCrc f.payload then
    let s := s.modPort d (fun p => { p with pcrc := satInc p.pcrc })
    if !e.gap || seqPlace f.seq e.rxSeq = .next then s.askAgain d f.tag e else s
  else
    match seqPlace f.seq e.rxSeq with
    | .next => s.takeData d f.tag e f.payload
    | .after => if e.gap then s else s.askAgain d f.tag e
    | .before => s

theorem Linking.dataEffect (h : K.holds s) (d) (f) (e) : K.holds (s.dataEffect d f e) := by
  have hp := K.modPort h d (fun p => { p with pcrc := satInc p.pcrc }) ⟨id, id⟩
  unfold State.dataEffect
  refine Lasting.ite (fun _ => Lasting.ite (fun _ => Linking.askAgain hp d _ e) (fun _ => hp)) (fun _ => ?_)
  split
  · exact Lasting.takeData h _ _ _ _
  · exact Lasting.ite (fun _ => h) (fun _ => Linking.askAgain h _ _ _)
  · exact h

theorem doData_input (h : arrives s d f) (hn : namesExch s d f e) (ht : f.typ = 2) (hi : e.input = true) (hr : e.refuse = none) :
    doData d f s = ((s.touchedBy d f true).dataEffect d f e).settle := by
  unfold doData
  refine (if_neg (by rw [ht]; decide)).trans ?_
  have hd := Linking.dataEffect (State.touchedBy_due h true) d f e
  refine (State.receive_names h hn _ _ ?_).trans (congrArg State.settle ?_)
  · dsimp only
    rw [hr]
    exact hd
  · refine (if_neg (show ¬ (!e.input) = true by rw [hi]; decide)).trans ?_
    dsimp only
    rw [hr] <;> rfl

theorem doData_output (h : arrives s d f) (hn : namesExch s d f e) (ht : f.typ = 2) (hi : e.input = false) :
    doData d f s = ((s.taken d f).modPort d (fun p => { p with frmerr := satInc p.frmerr })).settle := by
  have hx := State.onExch_names (State.taken_names hn) (fun e => !e.input)
  unfold doData
  refine (if_neg (by rw [ht]; decide)).trans ?_
  rw [State.receive_arrives h, hx, hi]
  · rfl
  · rw [hx, hi]
    exact State.counted_due h

theorem seqPlace_next {q : W16} {n : Nat} (h : q = BitVec.ofNat 16 n) : seqPlace q n = .next := by
  rw [seqPlace, h, BitVec.sub_self]
  rfl

theorem State.dataEffect_next (hp : f.pcrc = payloadCrc f.payload) (hq : f.seq = BitVec.ofNat 16 e.rxSeq) :
    s.dataEffect d f e = s.takeData d f.tag e f.payload := by
  unfold State.dataEffect
  rw [seqPlace_next hq]
  exact if_neg (by rw [hp, bne_self_eq_false]; exact Bool.false_ne_true)

theorem State.dataEffect_before (hp : f.pcrc = payloadCrc f.payload) (hq : seqPlace f.seq e.rxSeq = .before) : s.dataEffect d f e = s := by
  unfold State.dataEffect
  rw [hq]
  exact if_neg (by rw [hp, bne_self_eq_false]; exact Bool.false_ne_true)

theorem State.dataEffect_asks (hg : e.gap = false) (h : f.pcrc ≠ payloadCrc f.payload ∨ seqPlace f.seq e.rxSeq = .after) :
    s.dataEffect d f e = s.askAgain d f.tag e ∨ s.dataEffect d f e = (s.modPort d (fun p => { p with pcrc := satInc p.pcrc })).askAgain d f.tag e := by
  unfold State.dataEffect
  by_cases hp : f.pcrc = payloadCrc f.payload
  · left
    rw [h.resolve_left (fun hne => hne hp), hg]
    exact (if_neg (by rw [hp, bne_self_eq_false]; exact Bool.false_ne_true)).trans (if_neg Bool.false_ne_true)
  · right
    rw [hg]
    exact (if_pos (bne_iff_ne.mpr hp)).trans (if_pos rfl)

/-! #### RESEND asked for (R270) -/

theorem State.askAgain_asks {x : Exch} {g : Tag} (hx : tfind (s.port d).exch g.toNat = some x) (hn : tget 0 e.named e.rxSeq < 3) :
    (s.askAgain d g e).port d = { s.port d with
      exch := tset (s.port d).exch g.toNat { x with named := tset x.named x.rxSeq (tget 0 e.named e.rxSeq + 1), gap := true }
      resends := (s.port d).resends ++ [resendItem g e], resendTx := satInc (s.port d).resendTx } ∧ onlyPort d s (s.askAgain d g e) := by
  have hd : s.askAgain d g e = (s.modExch d g (fun x => { x with
      named := tset x.named x.rxSeq (tget 0 e.named e.rxSeq + 1), gap := true })).queueResend d g e := by
    unfold State.askAgain
    exact if_neg (Nat.not_le.mpr hn)
  rw [hd, State.queueResend_port, State.modExch_port _ hx]
  exact ⟨rfl, (onlyPort_modPort _).trans State.queueResend_only⟩

end
end Sys2Proof.Machine

namespace Sys2Proof.Machine
open Sys2Proof

section
variable {K : Linking} {s : State} {d : DPort} {f : Frame} {e : Exch} {sc : SC}

/-! #### DATA-REQ (R269) -/

/-- DATA-REQ raises what the unit wants. -/
def State.wants (s : State) (d : DPort) (f : Frame) (sc : SC) : State :=
  (s.touchedBy d f true).modChain sc (fun c => { c with wanted := max c.wanted (f.offset.toNat + (u32 f.body 0).toNat) })

theorem doDataReq_output (h : arrives s d f) (hn : namesExch s d f e) (ht : f.typ = 3) (ho : e.output = true) (hw : e.owner = .prog sc) :
    doDataReq d f s = (((s.wants d f sc).pushOutput sc).chainOn sc).settle := by
  unfold doDataReq
  refine (if_neg (by rw [ht]; decide)).trans ((State.receive_names h hn _ _ ?_).trans (congrArg State.settle ?_))
  · dsimp only
    rw [hw]
    exact Lasting.chainOn (Lasting.pushOutput (Lasting.modChain (State.touchedBy_due h true) _ _) _) _
  · refine (if_neg (show ¬ (!e.output) = true by rw [ho]; decide)).trans ?_
    dsimp only
    rw [hw] <;> rfl

theorem State.wants_facts {p : Prog} {c : Chain} (he : tfind (s.port d).exch f.tag.toNat = some e) (hp : s.prog? sc = some p) (hc : p.chain = some c) :
    tfind ((s.wants d f sc).port d).exch f.tag.toNat = some (touched s.clk.now true e) ∧
    (s.wants d f sc).prog? sc = some { p with chain := some { c with wanted := max c.wanted (f.offset.toNat + (u32 f.body 0).toNat) } } ∧
    (s.wants d f sc).out = s.out := by
  have honly := (State.touchedBy_only (s := s) (d := d) (f := f) true).link
  have hport : (s.wants d f sc).port d = (s.touchedBy d f true).port d := rfl
  refine ⟨?_, ?_, honly.out⟩
  · rw [hport, State.touchedBy_port he]
    exact tfind_tset_same _ _ _
  · refine (State.prog?_modProg_some _ ((State.prog?_congr honly.prog sc).trans hp)).trans ?_
    rw [hc]
    rfl

/-! #### STATUS (R269-R271) -/

/-- A STATUS of the exchange `e`. -/
def State.statusEffect (s : State) (d : DPort) (f : Frame) (e : Exch) : State :=
  if statusInOrder e f then (s.statusEnd d f.tag e f).kickIdents d
  else if e.gap then s
  else s.askAgain d f.tag e

theorem Linking.statusEffect (h : K.holds s) (d) (f) (e) : K.holds (s.statusEffect d f e) :=
  Lasting.ite (fun _ => Lasting.kickIdents (Linking.statusEnd h _ _ _ _) _) (fun _ => Lasting.ite (fun _ => h) (fun _ => Linking.askAgain h _ _ _))

theorem State.taken_early : ((s.taken d f).port d).early = (s.port d).early := by
  rw [State.taken_port]
  exact (takesFrame_exch _ _).2.2.1

theorem doStatus_open (h : arrives s d f) (hn : namesExch s d f e) (ht : f.typ = 4) (he : (f.tag.toNat, f.gen) ∉ (s.port d).early) :
    doStatus d f s = ((s.touchedBy d f (!f.flags.getLsbD 0)).statusEffect d f e).settle := by
  have hx := State.onExch_names (State.taken_names hn) (fun _ => false) (fun s e => (s.touchExch d f.tag (!f.flags.getLsbD 0)).statusEffect d f e)
  have hc : ¬ ((s.taken d f).port d).early.contains (f.tag.toNat, f.gen) = true := by
    rw [State.taken_early, List.contains_iff_mem]
    exact he
  have hd := Linking.statusEffect (State.touchedBy_due h (!f.flags.getLsbD 0)) d f e
  unfold doStatus
  refine (if_neg (by rw [ht]; decide)).trans ?_
  rw [State.receive_arrives h]
  · exact congrArg State.settle ((if_neg hc).trans hx)
  · rw [if_neg hc]
    exact hx ▸ hd

/-- A STATUS of an exchange that one of its own cycle has closed is taken off the list. -/
def State.earlyTaken (s : State) (d : DPort) (f : Frame) : State :=
  (s.taken d f).modPort d (fun p => { p with early := p.early.filter (fun x => x != (f.tag.toNat, f.gen)) })

theorem doStatus_early (h : arrives s d f) (ht : f.typ = 4) (he : (f.tag.toNat, f.gen) ∈ (s.port d).early) :
    doStatus d f s = ((s.earlyTaken d f).kickIdents d).settle := by
  have hc : ((s.taken d f).port d).early.contains (f.tag.toNat, f.gen) = true := by
    rw [State.taken_early, List.contains_iff_mem]
    exact he
  unfold doStatus
  refine (if_neg (by rw [ht]; decide)).trans ?_
  rw [State.receive_arrives h]
  · exact congrArg State.settle (if_pos hc)
  · rw [if_pos hc]
    exact Lasting.kickIdents ((Linking.neverDue d).modPort h.taken_due d _ ⟨id, id⟩) _

/-! #### RESEND received (R265, R270) -/

/-- A RESEND of the exchange `e` is counted. -/
def State.resendCounted (s : State) (d : DPort) (f : Frame) : State :=
  (s.touchedBy d f false).modPort d (fun p => { p with resendRx := satInc p.resendRx })

/-- The kept frames from the named one on go again. -/
def State.resent (s : State) (d : DPort) (f : Frame) (e : Exch) : State :=
  (s.resendCounted d f).modPort d (fun p => { p with
    dataQ := (e.kept.filter (fun k => seqPlace k.2.1.seq f.seq.toNat != .before)).map (fun k => (⟨k.2.1, some f.tag, k.2.2⟩ : TxItem)) ++ p.dataQ
    exch := tupd p.exch f.tag.toNat (fun x => { x with
      unitNamed := tset x.unitNamed f.seq.toNat (tget 0 e.unitNamed f.seq.toNat + 1)
      kept := x.kept.filter (fun k => seqPlace k.2.1.seq f.seq.toNat == .before) }) })

theorem State.resendCounted_dataQ : ((s.resendCounted d f).port d).dataQ = (s.port d).dataQ := by
  have ht : ((s.touchedBy d f false).port d).dataQ = ((s.taken d f).port d).dataQ :=
    (congrArg Port.dataQ ((s.taken d f).port_modPort d (fun p => { p with exch := tupd p.exch f.tag.toNat _ })) :)
  rw [State.resendCounted, State.port_modPort]
  refine ht.trans ?_
  rw [State.taken_port]
  exact (takesFrame_exch _ _).2.2.2.2.1

theorem doResend_kept (h : arrives s d f) (hn : namesExch s d f e) (ht : f.typ = 6) (hs : f.sub = 6)
    (hk : (∃ k ∈ e.kept, k.2.1.seq = f.seq) ∨ ((∃ i ∈ (s.port d).dataQ, i.tag = some f.tag ∧ i.frame.seq = f.seq) ∧ seqPlace f.seq e.txSent = .before))
    (hm : tget 0 e.unitNamed f.seq.toNat < 3) : doResend d f s = (s.resent d f e).settle := by
  have hany : (e.kept.any (fun k => k.2.1.seq == f.seq) ||
      ((s.resendCounted d f).port d).dataQ.any (fun i => i.tag == some f.tag && i.frame.seq == f.seq) && seqPlace f.seq e.txSent == .before) = true := by
    rw [State.resendCounted_dataQ, Bool.or_eq_true, Bool.and_eq_true, List.any_eq_true, List.any_eq_true, beq_iff_eq]
    refine hk.imp (fun ⟨k, hk, hq⟩ => ⟨k, hk, beq_iff_eq.mpr hq⟩) (fun ⟨⟨i, hi, htag, hq⟩, hb⟩ => ⟨⟨i, hi, ?_⟩, hb⟩)
    rw [htag, hq, beq_self_eq_true, beq_self_eq_true]
    rfl
  have hd : (Linking.neverDue d).holds (s.resent d f e) :=
    (Linking.neverDue d).modPort ((Linking.neverDue d).modPort (State.touchedBy_due h false) d _ ⟨id, id⟩) d _ ⟨id, id⟩
  have hx := State.onExch_names (State.taken_names hn) (fun _ => false)
  unfold doResend
  refine (if_neg (by rw [ht, hs]; decide)).trans ?_
  have hact : ∀ b n (r u v : State), b = true → n < 3 → (if !b then r else if 3 ≤ n then u else v) = v := by
    intro b n r u v hb hn
    rw [hb, Bool.not_true, if_neg Bool.false_ne_true, if_neg (Nat.not_le.mpr hn)]
  rw [State.receive_arrives h, hx]
  · exact congrArg State.settle (hact _ _ _ _ _ hany hm)
  · rw [hx]
    exact (hact _ _ _ _ _ hany hm).symm ▸ hd

/-! #### The frames of no data -/

theorem doEcho_arrives (h : arrives s d f) (ht : f.typ = 6) (hs : f.sub = 2) : doEcho d f s = (s.taken d f).settle := by
  unfold doEcho
  exact (if_neg (by rw [ht, hs]; decide)).trans (State.receive_arrives (act := id) h h.taken_due)

theorem doWorking_named (h : arrives s d f) (hn : namesExch s d f e) (ht : f.typ = 6) (hs : f.sub = 7) : doWorking d f s = (s.touchedBy d f false).settle := by
  unfold doWorking
  exact (if_neg (by rw [ht, hs]; decide)).trans (State.receive_names h hn _ _ (State.touchedBy_due h false))

theorem doAbortAck_act (h : arrives s d f) (ht : f.typ = 6) (hs : f.sub = 4) {u : State} (hu : (s.taken d f).onExch d f (fun _ => true) (fun s _ => s) = u)
    (hd : (Linking.neverDue d).holds u) : doAbortAck d f s = (u.kickIdents d).settle := by
  unfold doAbortAck
  refine (if_neg (by rw [ht, hs]; decide)).trans ((State.receive_arrives h ?_).trans ?_)
  · rw [hu]
    exact Lasting.kickIdents hd d
  · rw [hu]

theorem State.quarFree_port {g : Tag} : (s.quarFree d g).port d = { s.port d with
    quar := tdel (s.port d).quar g.toNat, controls := (s.port d).controls.filter (fun x => x.tag != some g), freed := (s.port d).freed ++ [g.toNat] } := by
  rw [State.quarFree, State.freeTag_port, State.port_modPort]

/-! #### FREE (R277) -/

/-- The programs that waited on a busy answer of the device send their commands again. -/
def State.freeBusy (s : State) (d : DPort) (cu : Byte) (dev : W16) : State :=
  (s.busyOn d cu dev).foldl (fun v sc =>
    (v.modProg sc (fun p => { p with busy := p.busy.map (fun (b : Busy) => { b with waiting := false }) })).sendChain sc) s

theorem State.taken_named : (s.taken d f).namedAddrs d = s.namedAddrs d :=
  (congrArg (fun v : State => v.namedAddrs d) (State.taken_only (s := s) (d := d) (f := f)).2.2 :)

theorem doFree_named (h : arrives s d f) (ht : f.typ = 6) (hs : f.sub = 8) (hm : f.cuaddr ∈ s.namedAddrs d) :
    doFree d f s = (((s.taken d f).firePort d 3).freeBusy d f.cuaddr f.devaddr).settle := by
  have hbusy : (s.taken d f).busyOn d f.cuaddr f.devaddr = ((s.taken d f).firePort d 3).busyOn d f.cuaddr f.devaddr := by
    rw [State.busyOn, State.busyOn, (onlyLink_firePort (s := s.taken d f) (d := d) 3).prog]
  have hc : ¬ (!((s.taken d f).namedAddrs d).contains f.cuaddr) = true := by
    rw [State.taken_named, List.contains_iff_mem.mpr hm]
    decide
  have hd : (Linking.neverDue d).holds (((s.taken d f).firePort d 3).freeBusy d f.cuaddr f.devaddr) :=
    Lasting.foldl (Lasting.firePort h.taken_due d 3) _ fun v sc hv => Lasting.sendChain (Lasting.modProg hv sc _) sc
  unfold doFree
  refine (if_neg (by rw [ht, hs]; decide)).trans ?_
  rw [State.receive_arrives h]
  · refine congrArg State.settle ((if_neg hc).trans ?_)
    rw [hbusy]
    rfl
  · rw [if_neg hc, hbusy]
    exact hd

theorem doFree_unnamed (h : arrives s d f) (ht : f.typ = 6) (hs : f.sub = 8) (hm : f.cuaddr ∉ s.namedAddrs d) :
    doFree d f s = ((s.taken d f).noteUnnamed d f.cuaddr).settle := by
  have hc : (!((s.taken d f).namedAddrs d).contains f.cuaddr) = true := by
    rw [State.taken_named, Bool.not_eq_true', ← Bool.not_eq_true, List.contains_iff_mem]
    exact hm
  unfold doFree
  refine (if_neg (by rw [ht, hs]; decide)).trans ?_
  rw [State.receive_arrives h]
  · exact congrArg State.settle (if_pos hc)
  · rw [if_pos hc]
    exact Linking.noteUnnamed h.taken_due _ _

theorem State.noteUnnamed_port (a : Byte) : (s.noteUnnamed d a).port d = { s.port d with unnamed := satInc (s.port d).unnamed } :=
  (State.port_congr (State.logLink_ports _ _ _) d).trans (s.port_modPort d _)

end
end Sys2Proof.Machine

namespace Sys2Proof.Machine
open Sys2Proof

section
variable {s : State} {d : DPort} {f : Frame} {e : Exch}

/-- A frame leaves port `d` as `q` makes it of the port that has taken it, and changes nothing else. -/
def goneAs (d : DPort) (f : Frame) (q : Port → Port) (s u : State) : Prop := u.port d = q (takesFrame s.clk.now f (s.port d)) ∧ onlyPort d s u

theorem State.taken_gone : goneAs d f id s (s.taken d f) := ⟨State.taken_port, State.taken_only⟩

theorem goneAs_modPort (q : Port → Port) : goneAs d f q s ((s.taken d f).modPort d q) :=
  ⟨(State.port_modPort _ d q).trans (congrArg q State.taken_port), State.taken_only.trans (onlyPort_modPort q)⟩

theorem goneAs_touchedBy (he : tfind (s.port d).exch f.tag.toNat = some e) (accepts : Bool) :
    goneAs d f (fun p => { p with exch := tset (s.port d).exch f.tag.toNat (touched s.clk.now accepts e) }) s (s.touchedBy d f accepts) :=
  ⟨State.touchedBy_port he accepts, State.touchedBy_only accepts⟩

/-- RESEND of the exchange's next frame after a frame of it. -/
theorem State.askAgain_touched {t : State} {accepts : Bool} (ht : onlyPort d s t)
    (hx : (t.port d).exch = tset (s.port d).exch f.tag.toNat (touched s.clk.now accepts e)) (hr : (t.port d).resends = (s.port d).resends)
    (hc : (t.port d).resendTx = (s.port d).resendTx) (hn : tget 0 e.named e.rxSeq < 3) :
    tfind ((t.askAgain d f.tag e).port d).exch f.tag.toNat =
      some { touched s.clk.now accepts e with named := tset e.named e.rxSeq (tget 0 e.named e.rxSeq + 1), gap := true } ∧
    ((t.askAgain d f.tag e).port d).resends = (s.port d).resends ++ [resendItem f.tag e] ∧
    ((t.askAgain d f.tag e).port d).resendTx = satInc (s.port d).resendTx ∧ onlyPort d s (t.askAgain d f.tag e) := by
  obtain ⟨hport, honly⟩ := State.askAgain_asks (s := t) (d := d) (e := e) (g := f.tag) (x := touched s.clk.now accepts e)
    (by rw [hx]; exact tfind_tset_same _ _ _) hn
  rw [hport, hr, hc]
  exact ⟨tfind_tset_same _ _ _, rfl, rfl, ht.trans honly⟩

theorem State.touchedBy_fields (he : tfind (s.port d).exch f.tag.toNat = some e) (accepts : Bool) :
    ((s.touchedBy d f accepts).port d).exch = tset (s.port d).exch f.tag.toNat (touched s.clk.now accepts e) ∧
    ((s.touchedBy d f accepts).port d).resends = (s.port d).resends ∧ ((s.touchedBy d f accepts).port d).resendTx = (s.port d).resendTx ∧
    ((s.touchedBy d f accepts).port d).resendRx = (s.port d).resendRx ∧ ((s.touchedBy d f accepts).port d).dataQ = (s.port d).dataQ := by
  obtain ⟨-, -, -, hres, hdat, -, htx, hrx, -⟩ := takesFrame_exch (f := f) s.clk.now (s.port d)
  rw [State.touchedBy_port he]
  exact ⟨rfl, hres, htx, hrx, hdat⟩

theorem State.dataEffect_resend (he : tfind (s.port d).exch f.tag.toNat = some e) (hg : e.gap = false)
    (h : f.pcrc ≠ payloadCrc f.payload ∨ seqPlace f.seq e.rxSeq = .after) (hn : tget 0 e.named e.rxSeq < 3) :
    let u := (s.touchedBy d f true).dataEffect d f e
    tfind (u.port d).exch f.tag.toNat =
      some { touched s.clk.now true e with named := tset e.named e.rxSeq (tget 0 e.named e.rxSeq + 1), gap := true } ∧
    (u.port d).resends = (s.port d).resends ++ [resendItem f.tag e] ∧ (u.port d).resendTx = satInc (s.port d).resendTx ∧ onlyPort d s u := by
  obtain ⟨hx, hr, hc, -, -⟩ := State.touchedBy_fields he true
  intro u
  rcases State.dataEffect_asks (s := s.touchedBy d f true) (d := d) hg h with hu | hu
  · rw [show u = _ from hu]
    exact State.askAgain_touched (State.touchedBy_only true) hx hr hc hn
  · rw [show u = _ from hu]
    have hp := (s.touchedBy d f true).port_modPort d (fun p => { p with pcrc := satInc p.pcrc })
    exact State.askAgain_touched ((State.touchedBy_only true).trans (onlyPort_modPort _)) (by rw [hp]; exact hx) (by rw [hp]; exact hr) (by rw [hp]; exact hc) hn

theorem State.resent_facts (he : tfind (s.port d).exch f.tag.toNat = some e) :
    ((s.resent d f e).port d).resendRx = satInc (s.port d).resendRx ∧
    ((s.resent d f e).port d).dataQ = (e.kept.filter (fun k => seqPlace k.2.1.seq f.seq.toNat != .before)).map (fun k => (⟨k.2.1, some f.tag, k.2.2⟩ : TxItem)) ++
      (s.port d).dataQ ∧
    tfind ((s.resent d f e).port d).exch f.tag.toNat = some { touched s.clk.now false e with
      unitNamed := tset e.unitNamed f.seq.toNat (tget 0 e.unitNamed f.seq.toNat + 1)
      kept := e.kept.filter (fun k => seqPlace k.2.1.seq f.seq.toNat == .before) } ∧ onlyPort d s (s.resent d f e) := by
  obtain ⟨hx, -, -, hrx, hdat⟩ := State.touchedBy_fields he false
  rw [State.resent, State.port_modPort, State.resendCounted, State.port_modPort, hx, hrx, hdat]
  refine ⟨rfl, rfl, ?_, ((State.touchedBy_only false).trans (onlyPort_modPort _)).trans (onlyPort_modPort _)⟩
  refine (tfind_tupd_same _ _ _).trans ?_
  rw [tfind_tset_same]
  rfl

theorem State.statusEffect_ends (h : statusInOrder e f = true) : s.statusEffect d f e = (s.statusEnd d f.tag e f).kickIdents d := if_pos h

theorem State.statusEffect_asks (h : statusInOrder e f = false) (hg : e.gap = false) : s.statusEffect d f e = s.askAgain d f.tag e :=
  (if_neg (by rw [h]; exact Bool.false_ne_true)).trans (if_neg (by rw [hg]; exact Bool.false_ne_true))

theorem State.onExch_forbidden (hn : namesExch s d f e) : (s.taken d f).onExch d f (fun _ => true) (fun s _ => s) =
    (s.taken d f).modPort d (fun p => { p with frmerr := satInc p.frmerr }) :=
  (State.onExch_names (State.taken_names hn) _ _).trans (if_pos rfl)

theorem State.onExch_freed {q : Quar} (he : tfind (s.port d).exch f.tag.toNat = none) (hq : tfind (s.port d).quar f.tag.toNat = some q) (hg : q.gen = f.gen)
    (hs : q.sent = true) (hr : q.retired = false) (hc : q.cuaddr = f.cuaddr) (hd : q.devaddr = f.devaddr) :
    (s.taken d f).onExch d f (fun _ => true) (fun s _ => s) = (s.taken d f).quarFree d f.tag := by
  obtain ⟨hx, hqr, -⟩ := takesFrame_exch (f := f) s.clk.now (s.port d)
  refine State.onExch_quar (q := q) ?_ ?_ hg hs hr hc hd _ _
  · rw [State.taken_port, hx]
    exact he
  · rw [State.taken_port, hqr]
    exact hq

theorem State.quarFree_due (h : arrives s d f) : (Linking.neverDue d).holds ((s.taken d f).quarFree d f.tag) := by
  rw [Linking.neverDue_iff, State.quarFree_port]
  exact Linking.neverDue_iff.mp h.taken_due

theorem doData_stale (h : arrives s d f) (ht : f.typ = 2) (he : tfind (s.port d).exch f.tag.toNat = some e) (hc : e.cuaddr = f.cuaddr) (hg : e.gen ≠ f.gen) :
    doData d f s = ((s.taken d f).modPort d (fun p => { p with stale := satInc p.stale })).settle := by
  have hx := fun forb act => State.onExch_stale (s := s.taken d f) (d := d) (e := e)
    (by rw [State.taken_port, (takesFrame_exch _ _).1]; exact he) hc hg forb act
  unfold doData
  refine (if_neg (by rw [ht]; decide)).trans ((State.receive_arrives h ?_).trans ?_)
  · rw [hx]
    exact (Linking.neverDue d).modPort h.taken_due d _ ⟨id, id⟩
  · rw [hx]

/-! #### Frames that are not taken (R258, R264, R271) -/

theorem doData_beyond (htx : (s.port d).txOn = true) (hlk : (s.port d).locked = true) (hrf : (s.port d).refusedAt = none) (hseen : (s.port d).helloSeen = true)
    (hbad : frameBad f = false) (ht : f.typ = 2) (ho : (s.port d).dOut = 0) :
    doData d f s = ((s.modPort d (fun p => { p with lastRx := s.clk.now })).work.retrainBy d true).settle := by
  have htake : ∀ act, s.takeFrame d f act = ((s.modPort d (fun p => { p with lastRx := s.clk.now })).work.retrainBy d true).settle := by
    intro act
    have hcl : frameClass f = some true := if_pos ht
    unfold State.takeFrame
    dsimp only
    rw [htx, hlk, hrf, hseen, hbad, hcl]
    refine (if_neg (by decide)).trans ((if_neg (by decide)).trans ((if_neg (by decide)).trans ((if_neg (by decide)).trans ?_)))
    exact if_pos ho
  unfold doData
  refine (if_neg (by rw [ht]; decide)).trans ?_
  rw [State.receive, htake]
  exact State.dueRetrain_not (State.settle_retrainDue (State.retrainBy_due true))

theorem doData_refused (htx : (s.port d).txOn = true) (hlk : (s.port d).locked = true) (hrf : (s.port d).refusedAt ≠ none) (hdue : (s.port d).retrainDue = false)
    (ht : f.typ = 2) : doData d f s = s.countFrame d := by
  have htake : ∀ act, s.takeFrame d f act = s.countFrame d := by
    intro act
    unfold State.takeFrame
    dsimp only
    rw [htx, hlk]
    exact (if_neg (by decide)).trans (if_pos (Option.isSome_iff_ne_none.mpr hrf))
  unfold doData
  refine (if_neg (by rw [ht]; decide)).trans ?_
  rw [State.receive, htake]
  refine State.dueRetrain_not ?_
  rw [State.countFrame, State.port_modPort]
  exact hdue

end
end Sys2Proof.Machine

namespace Sys2Proof.Machine
open Sys2Proof

section
variable {s : State} {d : DPort} {f : Frame} {e : Exch}

theorem State.useCredit_port (isData : Bool) : ((s.useCredit d isData).port d).dRecv = (if isData then (s.port d).dRecv + 1 else (s.port d).dRecv) ∧
    ((s.useCredit d isData).port d).cRecv = (if isData then (s.port d).cRecv else (s.port d).cRecv + 1) ∧
    ((s.useCredit d isData).port d).frmerr = (s.port d).frmerr ∧ ((s.useCredit d isData).port d).lastRx = (s.port d).lastRx ∧
    ((s.useCredit d isData).port d).retrainDue = (s.port d).retrainDue := by
  rw [State.useCredit, State.port_modPort]
  cases isData <;> exact ⟨rfl, rfl, rfl, rfl, rfl⟩

/-- A discarded frame is counted and uses the credit of its class where one is outstanding (R263). -/
theorem State.badFrame_facts (isData isCtrl : Bool) : onlyPort d s (s.badFrame d isData isCtrl) ∧ ((s.badFrame d isData isCtrl).port d).frmerr = satInc (s.port d).frmerr ∧
    ((s.badFrame d isData isCtrl).port d).lastRx = s.clk.now ∧ ((s.badFrame d isData isCtrl).port d).retrainDue = (s.port d).retrainDue ∧
    ((s.badFrame d isData isCtrl).port d).dRecv =
      (if (s.port d).helloSeen = true ∧ isData = true ∧ 0 < (s.port d).dOut then (s.port d).dRecv + 1 else (s.port d).dRecv) ∧
    ((s.badFrame d isData isCtrl).port d).cRecv =
      (if (s.port d).helloSeen = true ∧ isData = false ∧ isCtrl = true ∧ 0 < (s.port d).cOut then (s.port d).cRecv + 1 else (s.port d).cRecv) := by
  generalize hv : s.modPort d (fun p => { p with frmerr := satInc p.frmerr, lastRx := s.clk.now }) = v
  have hport : v.port d = { s.port d with frmerr := satInc (s.port d).frmerr, lastRx := s.clk.now } := by
    rw [← hv]
    exact s.port_modPort d _
  have honly : onlyPort d s v := by
    rw [← hv]
    exact onlyPort_modPort _
  have hdef : s.badFrame d isData isCtrl = (if !(s.port d).helloSeen then v
      else if isData then (if 0 < (s.port d).dOut then v.useCredit d true else v)
      else if isCtrl && 0 < (s.port d).cOut then v.useCredit d false else v) := by
    unfold State.badFrame
    dsimp only
    rw [hv, hport]
    rfl
  obtain ⟨hd, hc, hf, hl, hr⟩ := State.useCredit_port (s := v) (d := d) true
  obtain ⟨hd', hc', hf', hl', hr'⟩ := State.useCredit_port (s := v) (d := d) false
  rw [hport] at hd hc hf hl hr hd' hc' hf' hl' hr'
  have hplain : (v.port d).frmerr = satInc (s.port d).frmerr ∧ (v.port d).lastRx = s.clk.now ∧ (v.port d).retrainDue = (s.port d).retrainDue ∧
      (v.port d).dRecv = (s.port d).dRecv ∧ (v.port d).cRecv = (s.port d).cRecv := by
    rw [hport]
    exact ⟨rfl, rfl, rfl, rfl, rfl⟩
  obtain ⟨hpf, hpl, hpr, hpd, hpc⟩ := hplain
  rw [hdef]
  cases hseen : (s.port d).helloSeen with
  | false => exact ⟨honly, hpf, hpl, hpr, hpd.trans (if_neg (fun h => Bool.false_ne_true h.1)).symm, hpc.trans (if_neg (fun h => Bool.false_ne_true h.1)).symm⟩
  | true =>
    rw [Bool.not_true, if_neg Bool.false_ne_true]
    cases isData with
    | true =>
      rw [if_pos rfl]
      by_cases ho : 0 < (s.port d).dOut
      · rw [if_pos ho, if_pos ⟨rfl, rfl, ho⟩, if_neg (fun h => Bool.false_ne_true h.2.1.symm)]
        exact ⟨honly.trans (State.useCredit_only true), hf, hl, hr, hd, hc⟩
      · rw [if_neg ho, if_neg (fun h => ho h.2.2), if_neg (fun h => Bool.false_ne_true h.2.1.symm)]
        exact ⟨honly, hpf, hpl, hpr, hpd, hpc⟩
    | false =>
      rw [if_neg Bool.false_ne_true]
      have hno : (s.port d).dRecv = (if true = true ∧ false = true ∧ 0 < (s.port d).dOut then (s.port d).dRecv + 1 else (s.port d).dRecv) :=
        (if_neg (fun h => Bool.false_ne_true h.2.1)).symm
      by_cases ho : isCtrl = true ∧ 0 < (s.port d).cOut
      · obtain ⟨hct, hco⟩ := ho
        rw [hct, if_pos (c := (true && decide (0 < (s.port d).cOut)) = true) (by rw [decide_eq_true hco]; rfl)]
        exact ⟨honly.trans (State.useCredit_only false), hf', hl', hr', (hd'.trans (if_neg Bool.false_ne_true)).trans hno, (hc'.trans (if_neg Bool.false_ne_true)).trans (if_pos ⟨rfl, rfl, rfl, hco⟩).symm⟩
      · have hoff : ¬ (isCtrl && decide (0 < (s.port d).cOut)) = true := fun h =>
          ho ⟨(Bool.and_eq_true _ _ ▸ h).1, of_decide_eq_true (Bool.and_eq_true _ _ ▸ h).2⟩
        rw [if_neg hoff]
        exact ⟨honly, hpf, hpl, hpr, hpd.trans hno, hpc.trans (if_neg (fun h => ho h.2.2)).symm⟩

theorem doFrameDiscarded_lit (htx : (s.port d).txOn = true) (hlk : (s.port d).locked = true) (hdue : (s.port d).retrainDue = false) (x : Discarded) :
    doFrameDiscarded d x s = (s.badFrame d (decide (64 < x.wireCost)) x.ctrl).settle := by
  obtain ⟨-, -, -, hr, -⟩ := State.badFrame_facts (s := s) (d := d) (decide (64 < x.wireCost)) x.ctrl
  unfold doFrameDiscarded
  refine (if_pos (by rw [htx, hlk]; rfl)).trans ?_
  exact State.dueRetrain_not (State.settle_retrainDue (hr.trans hdue))

end

/-- Settles O58: a frame that arrives by its class's credit, the exchange it names and its own effect; no retrain comes to wait while the effect settles. -/
theorem framesReceived : Obligations.FramesReceived := by
  unfold Obligations.FramesReceived
  refine ⟨?_, ?_, ?_, ?_, ?_⟩
  · intro d f s h
    refine ⟨fun ht hs => ?_, fun e hn => ?_, fun q ht hs he hq hg hsent hr hc hd => ?_, fun ht hs hm => ?_, fun ht hs hm => ?_, fun ht he => ?_, fun e ht he hc hg => ?_⟩
    · exact ⟨_, congrArg Host.Outcome.next (doEcho_arrives h ht hs), State.taken_gone⟩
    · obtain ⟨he, -⟩ := id hn
      refine ⟨fun ht hs => ?_, fun ht hs => ?_, fun ht hi => ?_, fun ht hi hr => ?_, fun sc p c ht ho hw hp hc => ?_, fun ht hel ho => ?_, fun ht hel ho hg hnm => ?_,
        fun ht hs hk hm => ?_⟩
      · exact ⟨_, congrArg Host.Outcome.next (doWorking_named h hn ht hs), goneAs_touchedBy he false⟩
      · have hx := State.onExch_forbidden hn
        exact ⟨_, congrArg Host.Outcome.next (doAbortAck_act h ht hs hx (State.counted_due h)), goneAs_modPort _⟩
      · exact ⟨_, congrArg Host.Outcome.next (doData_output h hn ht hi), goneAs_modPort _⟩
      · have hrun : exec (.data d f) s = .next _ := congrArg Host.Outcome.next (doData_input h hn ht hi hr)
        refine ⟨fun hp hq => ?_, fun hbad hg hnm => ?_, fun hp hq => ?_⟩
        · rw [State.dataEffect_next hp hq] at hrun
          exact ⟨_, hrun, goneAs_touchedBy he true⟩
        · exact ⟨_, hrun, State.dataEffect_resend he hg hbad hnm⟩
        · rw [State.dataEffect_before hp hq] at hrun
          exact ⟨_, hrun, goneAs_touchedBy he true⟩
      · exact ⟨_, congrArg Host.Outcome.next (doDataReq_output h hn ht ho hw), State.wants_facts he hp hc⟩
      · have hrun : exec (.status d f) s = .next _ := congrArg Host.Outcome.next (doStatus_open h hn ht hel)
        rw [State.statusEffect_ends ho] at hrun
        exact ⟨_, hrun, goneAs_touchedBy he _⟩
      · have hrun : exec (.status d f) s = .next _ := congrArg Host.Outcome.next (doStatus_open h hn ht hel)
        rw [State.statusEffect_asks ho hg] at hrun
        obtain ⟨hx, hr, hc, -, -⟩ := State.touchedBy_fields he (!f.flags.getLsbD 0)
        obtain ⟨-, -, htx, honly⟩ := State.askAgain_touched (State.touchedBy_only _) hx hr hc hnm
        exact ⟨_, hrun, htx, honly⟩
      · exact ⟨_, congrArg Host.Outcome.next (doResend_kept h hn ht hs hk hm), State.resent_facts he⟩
    · refine ⟨_, congrArg Host.Outcome.next (doAbortAck_act h ht hs (State.onExch_freed he hq hg hsent hr hc hd) (State.quarFree_due h)), State.taken_gone, ?_, ?_⟩
      · rw [State.quarFree_port, State.taken_port, (takesFrame_exch _ _).2.2.2.2.2.1]
      · rw [State.quarFree_port]
        exact tfind_tdel_same _ _
    · have hfire := (onlyLink_firePort (s := s.taken d f) (d := d) 3)
      refine ⟨_, congrArg Host.Outcome.next (doFree_named h ht hs hm), ?_, ?_⟩
      · exact (State.port_congr (State.firePort_ports 3) d).trans State.taken_port
      · exact (congrArg (fun v : State => { v with ports := s.ports, power := s.power, evus := s.evus }) (State.fire_frame (s.taken d f) _ _) :).trans
          (congrArg (fun v : State => { v with evus := s.evus }) (State.taken_only (s := s) (d := d) (f := f)).2.2 :)
    · refine ⟨_, congrArg Host.Outcome.next (doFree_unnamed h ht hs hm), State.taken_gone, State.noteUnnamed_port _, fun hin => ?_⟩
      have hrest := (State.taken_only (s := s) (d := d) (f := f)).2.2
      have hdata : (s.taken d f).data = s.data := (congrArg State.data hrest :)
      have hfaults : (s.taken d f).faults = s.faults := (congrArg State.faults hrest :)
      have hlog : ((s.taken d f).noteUnnamed d f.cuaddr).faults.next = (s.taken d f).faults.next + 1 :=
        State.logFault_uncounted_next _ _ rfl (hdata ▸ hin)
      rw [hlog, hfaults]
    · exact ⟨_, congrArg Host.Outcome.next (doStatus_early h ht he), goneAs_modPort _⟩
    · exact ⟨_, congrArg Host.Outcome.next (doData_stale h ht he hc hg), goneAs_modPort _⟩
  · intro d f s htx hlk hrf hseen hbad ht ho
    exact ⟨_, congrArg Host.Outcome.next (doData_beyond htx hlk hrf hseen hbad ht ho), s.port_modPort d _, (onlyPort_modPort _).trans onlyPort_work⟩
  · intro d f s htx hlk hrf hdue ht
    exact ⟨_, congrArg Host.Outcome.next (doData_refused htx hlk hrf hdue ht), s.port_modPort d _, onlyPort_modPort _⟩
  · intro d cost ctrl s htx hlk hdue
    obtain ⟨honly, hf, hl, -, hd, hc⟩ := State.badFrame_facts (s := s) (d := d) (decide (64 < cost)) ctrl
    refine ⟨_, congrArg Host.Outcome.next (doFrameDiscarded_lit htx hlk hdue ⟨cost, ctrl⟩), honly, hf, hl, ?_, ?_⟩
    · simpa only [decide_eq_true_eq] using hd
    · simpa only [decide_eq_false_iff_not, Nat.not_lt] using hc
  · intro d g e s he
    rw [State.closeExch_open he]
    exact ⟨tfind_tdel_same _ _, rfl, fun x hx => State.closeExch_link.1 x hx⟩

end Sys2Proof.Machine

namespace Sys2Proof.Machine
open Sys2Proof

/-! ### Function Level Reset and PERST# (R51, R52, R456) -/

/-! #### What of a tenant, and of a host port, lasts while what a reset ends is taken back -/

/-- All of a tenant but its journal's numbers. -/
def Lasting.ofTenant (t : Tenant) (c : TenantSt) : Lasting where
  holds s := tenantCore (s.tenant t) = c
  onOut h _ := h
  onPower h _ := h
  onVfs h _ := h
  onList h _ := h
  onProg h _ := h
  onData h _ := h
  onFaults h _ := h
  onQueues {s} h f hf := by
    rw [show (s.onQueues f).tenant t = s.tenant t from congrArg (fun l => tget ({} : TenantSt) l t.toNat) hf]
    exact h
  modTenant {s} h x f hf := by
    by_cases hx : t = x
    · subst hx
      rw [State.tenant_modTenant, hf]
      exact h
    · rw [s.tenant_modTenant_ne f hx]
      exact h
  modHost h _ _ _ := h
  vector {s} h fn v := by
    rw [show (s.vector fn v).tenant t = s.tenant t from congrArg (fun k : Queues => tget ({} : TenantSt) k.tenants t.toNat) (State.vector_queues (s := s) fn v)]
    exact h
  modPort h _ _ _ := h
  modCage h _ _ := h
  pend h _ _ := h
  onCores h _ _ := h
  modPair h _ _ _ := h
  logBoot h _ _ := h

/-- What a reset gives a host port: all but its link's activity, its requests, and the PF's pending vectors. -/
def resetCore (h : HostPort) : HostPort := { hostCore h with pf := { h.pf with pba := 0 } }

theorem resetCore_d3 {h c : HostPort} (he : resetCore h = c) : h.pf.d3 = c.pf.d3 := he ▸ rfl

/-- A vector of a PF in D0 is at most left pending. -/
theorem State.vector_resetCore (s : State) (fn : Fn) (v : Nat) {p : HPort} (hd : (s.host p).pf.d3 = false) :
    resetCore ((s.vector fn v).host p) = resetCore (s.host p) := by
  have hexit : ∀ (x : State) (q : HPort), resetCore ((x.exitL1 q).host p) = resetCore (x.host p) := fun x q => x.exitL1_keeps p q resetCore (fun _ _ _ => rfl)
  have hpend : resetCore ((s.modFn fn (fun f => { f with pba := f.pba ||| (1#64 <<< v) })).host p) = resetCore (s.host p) := by
    cases fn with
    | vf t => rfl
    | pf q => exact s.modHost_keeps p q resetCore (fun _ => rfl)
  unfold State.vector
  dsimp only
  split
  · rfl
  · split
    · exact hexit s _
    · split
      next hpme =>
        cases fn with
        | vf t => exact hexit (s.modFn (.vf t) _) (hostOf t)
        | pf q =>
          have hq : p ≠ q := fun e => by
            subst e
            rw [show (s.fn (.pf p)).d3 = false from hd] at hpme
            exact Bool.false_ne_true hpme
          have hpme : ∀ x : State, (x.modFn (.pf q) (fun f => { f with pmeStatus := true })).host p = x.host p := fun x => x.host_modHost_ne q p _ hq
          exact (congrArg resetCore (hpme _)).trans ((hexit _ q).trans hpend)
      next => exact hpend

def Lasting.ofHost (p : HPort) (c : HostPort) (hd : c.pf.d3 = false) : Lasting where
  holds s := resetCore (s.host p) = c
  onOut h _ := h
  onPower h _ := h
  onVfs h _ := h
  onList h _ := h
  onProg h _ := h
  onData h _ := h
  onFaults h _ := h
  onQueues h _ _ := h
  modTenant h _ _ _ := h
  modHost {s} h q f hf := by
    by_cases hq : p = q
    · subst hq
      have hcore : ∀ x y : HostPort, hostCore x = hostCore y → resetCore x = resetCore y := fun x y e =>
        (congrArg (fun z : HostPort => { z with pf := { z.pf with pba := 0 } }) e :)
      rw [State.host_modHost, hcore _ _ hf]
      exact h
    · rw [s.host_modHost_ne q p f hq]
      exact h
  vector {s} h fn v := (s.vector_resetCore fn v ((resetCore_d3 h).trans hd)).trans h
  modPort h _ _ _ := h
  modCage h _ _ := h
  pend h _ _ := h
  onCores h _ _ := h
  modPair h _ _ _ := h
  logBoot h _ _ := h

/-! #### An FLR begun and ended -/

section
variable {s : State} {t : Tenant} {p : HPort}

/-- The tenant stops and its 2 ms begin; its waiting completions are dropped. -/
def State.flrStopped (s : State) (t : Tenant) : State :=
  (s.modTenant t (fun x => { x with stopped := true, flrDrain := some (s.clk.now + Config.drainTicks), flrAt := s.clk.hub })).onQueues (fun k => { k with
    cqs := k.cqs.map (fun c => if c.1 / 8 == t.toNat then (c.1, { c.2 with waiting := [], unsignalled := 0, expiry := none }) else c) })

/-- A program of the tenant reports no more. -/
def hushed (t : Tenant) (p : Prog) : Prog := if p.start.tenant == t then { p with silent := true, reports := [] } else p

/-- The tenant's starts are taken away and its programs report no more. -/
def State.flrHushed (s : State) (t : Tenant) : State :=
  ((s.flrStopped t).takeStarts (fun x => x.tenant == t)).1.onProg (fun k => { k with subs := k.subs.map (fun b =>
    (b.1, { b.2 with prog := b.2.prog.map (hushed t), closing := b.2.closing.map (hushed t) })) })

/-- An FLR received, before it is seen whether anything is in flight. -/
def State.flrOpened (s : State) (t : Tenant) : State :=
  let v := s.flrHushed t
  let w := v.prog.subs.foldl (fun s b => if b.2.closing.any (fun p => p.silent) then s.closeKick (BitVec.ofNat 18 b.1) else s) v
  ((w.progsOf (fun x => x.tenant == t)).foldl (fun s sc => s.stopProg sc { code := cAbortedReset }) w).fireFunction (hostOf t)

theorem State.flrBegin_opens (h : (s.tenant t).flrDrain = none) :
    s.flrBegin t = if (s.flrOpened t).inFlight t then s.flrOpened t else (s.flrOpened t).flrFinish t := by
  unfold State.flrBegin
  refine (if_neg (by rw [h]; exact Bool.false_ne_true)).trans ?_
  rfl

theorem Lasting.flrOpened {K : Lasting} (h : K.holds (s.flrStopped t)) : K.holds (s.flrOpened t) := by
  have hh : K.holds (s.flrHushed t) := K.onProg (Lasting.takeStarts h _) _
  exact Lasting.fireFunction (Lasting.foldl (Lasting.foldl hh _ fun _ b hs => Lasting.ite (fun _ => Lasting.closeKick hs _) (fun _ => hs)) _
    fun _ sc hs => Lasting.stopProg hs sc _) _

theorem Lasting.flrFinish {K : Lasting} (hten : ∀ s t f, K.holds s → K.holds (s.modTenant t f)) (h : K.holds s) : K.holds (s.flrFinish t) := by
  refine hten _ _ _ (K.onVfs (Lasting.deleteQueues (Lasting.foldl (Lasting.journal (Lasting.foldl (K.onPower h _) _ fun _ sc hs => ?_) _ _ _ _ _) _ fun _ d hs => ?_) _) _)
  · exact Lasting.endProgram hs sc _ _
  · exact Lasting.dropDescs hs _

theorem Lasting.flrBegin {K : Lasting} (hten : ∀ s t f, K.holds s → K.holds (s.modTenant t f)) (h : K.holds s) : K.holds (s.flrBegin t) := by
  cases hd : (s.tenant t).flrDrain with
  | some d =>
    unfold State.flrBegin
    rw [if_pos (by rw [hd]; rfl)]
    exact h
  | none =>
    have ho : K.holds (s.flrOpened t) := Lasting.flrOpened (K.onQueues (hten _ _ _ h) _ rfl)
    rw [State.flrBegin_opens hd]
    exact Lasting.ite (fun _ => ho) (fun _ => Lasting.flrFinish hten ho)

/-- A tenant whose FLR has begun is stopped and drains for 2 ms. -/
theorem State.flrOpened_tenant : ((s.flrOpened t).tenant t).stopped = true ∧ ((s.flrOpened t).tenant t).flrDrain = some (s.clk.now + 312500) ∧
    ((s.flrOpened t).tenant t).flrAt = s.clk.hub := by
  have hk : tenantCore ((s.flrOpened t).tenant t) = tenantCore { s.tenant t with
      stopped := true, flrDrain := some (s.clk.now + Config.drainTicks), flrAt := s.clk.hub } :=
    Lasting.flrOpened (K := Lasting.ofTenant t _) (congrArg tenantCore (s.tenant_modTenant t (fun x => { x with
      stopped := true, flrDrain := some (s.clk.now + Config.drainTicks), flrAt := s.clk.hub })) :)
  exact ⟨(congrArg TenantSt.stopped hk :), (congrArg TenantSt.flrDrain hk :), (congrArg TenantSt.flrAt hk :)⟩

/-- At the end of an FLR the drain is over, the registers are reset and the queues are gone. -/
theorem State.flrFinish_facts : ((s.flrFinish t).tenant t).flrDrain = none ∧ (s.flrFinish t).fn (.vf t) = {} ∧
    ∀ q, (s.flrFinish t).sq? t q = none ∧ (s.flrFinish t).cq? t q = none := by
  unfold State.flrFinish
  dsimp only
  generalize List.foldl _ _ _ = v
  refine ⟨congrArg TenantSt.flrDrain (State.tenant_modTenant _ t _), tget_tdel_same _ _ _, fun q => ?_⟩
  exact v.deleteQueues_none t q

end

/-! #### A host port reset -/

section
variable {s : State} {p : HPort} {cut : Bool}

/-- What a reset leaves of a host port's record. -/
def resetPort (cut : Bool) (h : HostPort) : HostPort := { h with
  link := h.link && !cut, numVfs := 0, vfEn := false, vfBar := 0, ari := false, mps := 128, mrrs := 512, cto := Config.ctoTicks
  aspmL1 := false, aspmL11 := false, l1 := .l0, oq := dropOrders cut h.oq, txbuf := [], pf := {} }

theorem State.resetHost_core : resetCore ((s.resetHost p cut).host p) = resetCore (resetPort cut (s.host p)) := by
  unfold State.resetHost
  dsimp only
  have hmaster : ∀ l : List Tenant, (l.foldl (fun s t => s.modTenant t (fun x => { x with flrMaster := !cut && s.vfMaster t })) s).host p = s.host p := fun l =>
    List.foldlRecOn l _ (motive := fun v : State => v.host p = s.host p) rfl fun _ hv _ _ => hv
  have hreset : ∀ v : State, v.host p = s.host p → resetCore (((v.dropKeys p (readGivenUp cut)).modHost p (resetPort cut)).host p) =
      resetCore (resetPort cut (s.host p)) := by
    intro v hv
    rw [State.host_modHost, State.dropKeys, State.host_modHost, hv]
    rfl
  exact Lasting.fireFunction (K := Lasting.ofHost p (resetCore (resetPort cut (s.host p))) rfl)
    (Lasting.foldl (hreset _ (hmaster _)) _ fun _ t hs => Lasting.flrBegin (fun _ _ _ h => h) hs) p

/-- A host port reset has no VFs, PCIe's reset values, an order ring that is off, empty buffers and the PF's reset registers, and its event fires. -/
theorem State.resetHost_facts : ((s.resetHost p cut).host p).vfEn = false ∧ ((s.resetHost p cut).host p).numVfs = 0 ∧
    ((s.resetHost p cut).host p).mps = 128 ∧ ((s.resetHost p cut).host p).mrrs = 512 ∧ { (s.resetHost p cut).fn (.pf p) with pba := 0 } = ({} : FnState) ∧
    ((s.resetHost p cut).oq p).en = false ∧ ((s.resetHost p cut).oq p).slots = [] ∧ ((s.resetHost p cut).host p).txbuf = [] ∧
    ((s.resetHost p cut).evu 0).isPend (163 + p.val) = true := by
  have h : resetCore ((s.resetHost p cut).host p) = resetCore (resetPort cut (s.host p)) := State.resetHost_core
  exact ⟨(congrArg HostPort.vfEn h :), (congrArg HostPort.numVfs h :), (congrArg HostPort.mps h :), (congrArg HostPort.mrrs h :), (congrArg HostPort.pf h :),
    (congrArg (fun c : HostPort => c.oq.en) h :), (congrArg (fun c : HostPort => c.oq.slots) h :), (congrArg HostPort.txbuf h :), State.fireFunction_pends _ p⟩

end

/-! #### PERST# released -/

section
variable {s : State} {p : HPort}

/-- PERST# is released; during a sleep order its edge is latched. -/
def State.perstOff (s : State) (p : HPort) : State :=
  let v := s.modHost p (fun h => { h with perst := false })
  if s.orders.sleeping then v.onKeeper (fun k => { k with perstEdge := k.perstEdge ||| (1#2 <<< p.val) }) else v

/-- A powered port answers with Request Retry Status. -/
def State.retries (s : State) (p : HPort) : State := if s.domOn (58 + p.val) then s.emit (.retryStatus p) else s

theorem State.retries_hosts : (s.retries p).hosts = s.hosts := by
  unfold State.retries
  split <;> rfl

theorem State.retries_keeper : (s.retries p).keeper = s.keeper := by
  unfold State.retries
  split <;> rfl

theorem State.perstOff_facts : ((s.perstOff p).host p = { s.host p with perst := false }) ∧ (∀ q, q ≠ p → (s.perstOff p).host q = s.host q) ∧
    ((s.perstOff p).retries p).out = (if s.domOn (58 + p.val) then .retryStatus p :: s.out else s.out) ∧
    (((s.perstOff p).retries p).keeper.perstEdge.getLsbD p.val = true ∨ s.orders.sleeping = false) := by
  have hlatch : ∀ x : BitVec 2, (x ||| (1#2 <<< p.val)).getLsbD p.val = true := by
    revert p
    decide
  rw [State.retries_keeper]
  unfold State.perstOff State.retries
  have hsame := s.host_modHost p (fun h => { h with perst := false })
  have hother := fun q (hq : q ≠ p) => s.host_modHost_ne p q (fun h => { h with perst := false }) hq
  cases hsl : s.orders.sleeping with
  | true =>
    rw [if_pos rfl]
    exact ⟨hsame, hother, apply_ite State.out _ _ _, .inl (hlatch _)⟩
  | false =>
    rw [if_neg Bool.false_ne_true]
    exact ⟨hsame, hother, apply_ite State.out _ _ _, .inr rfl⟩

end

/-- Settles O30: what a reset sets lasts while what it ends is taken back. -/
theorem functionResets : Obligations.FunctionResets := by
  unfold Obligations.FunctionResets
  intro t p s
  refine ⟨fun hl hd => ?_, fun d hd hdue => ?_, ⟨fun hl => ?_, fun hp => ?_⟩, fun hp => ?_⟩
  · obtain ⟨hstop, hdrain, hat⟩ := State.flrOpened_tenant (s := s) (t := t)
    have hrun : exec (.vfFlr t) s = .next (if (s.flrOpened t).inFlight t then s.flrOpened t else (s.flrOpened t).flrFinish t).settle := by
      refine congrArg Host.Outcome.next ((if_pos hl).trans ?_)
      rw [State.flrBegin_opens hd]
    exact ⟨_, hrun, hstop, hdrain, hat, State.fireFunction_pends _ _⟩
  · obtain ⟨hnone, hfn, hq⟩ := State.flrFinish_facts (s := s) (t := t)
    have hrun : exec (.flrDrainExpiry t) s = .next (s.flrFinish t).settle := by
      refine congrArg Host.Outcome.next ?_
      unfold doFlrDrainExpiry
      rw [hd]
      exact if_pos hdue
    exact ⟨_, hrun, hnone, hfn, hq⟩
  · have hrun : exec (.pfFlr p) s = .next (s.resetHost p false).repace.settle := congrArg Host.Outcome.next (if_pos hl)
    exact ⟨_, hrun, State.resetHost_facts⟩
  · have hrun : exec (.perstAssert p) s = .next ((s.modHost p (fun h => { h with perst := true })).resetHost p true).repace.settle := by
      refine congrArg Host.Outcome.next (congrArg State.settle (if_neg ?_))
      rw [hp]
      exact Bool.false_ne_true
    have h := State.resetHost_core (s := s.modHost p (fun h => { h with perst := true })) (p := p) (cut := true)
    rw [State.host_modHost] at h
    refine ⟨_, hrun, State.resetHost_facts, (congrArg HostPort.perst h :), (congrArg HostPort.link h :).trans ?_⟩
    exact Bool.and_false _
  · have hrun : exec (.perstRelease p) s = .next ((s.perstOff p).retries p) := congrArg Host.Outcome.next (if_pos hp)
    obtain ⟨hhost, hne, hout, hedge⟩ := State.perstOff_facts (s := s) (p := p)
    exact ⟨_, hrun, (congrArg (fun l => tget ({} : HostPort) l p.val) State.retries_hosts).trans hhost,
      fun q hq => (congrArg (fun l => tget ({} : HostPort) l q.val) State.retries_hosts).trans (hne q hq), hout, hedge⟩

end Sys2Proof.Machine

namespace Sys2Proof.Machine
open Sys2Proof

/-! ### Bring-up: slots left unserved when the module is ready for orders (R281, R301, R460-R462, R467) -/

/-- No fault of a link waits to be logged, unless a port was retrained or a pair retired. -/
def linksUnlogged (s : State) : Prop :=
  (∀ e ∈ s.fw.bootFaults, e.kind ≠ 6) ∨ (∃ d, (s.port d).retrains ≠ 0) ∨ ∃ c, (s.pair c).retired = true

theorem linksUnlogged.lasts {s t : State} (h : linksUnlogged s) (hf : t.fw.bootFaults = s.fw.bootFaults) (hp : ∀ d, (s.port d).retrains ≠ 0 → (t.port d).retrains ≠ 0)
    (hc : ∀ c, (s.pair c).retired = true → (t.pair c).retired = true) : linksUnlogged t := by
  obtain h | ⟨d, h⟩ | ⟨c, h⟩ := h
  · exact .inl (hf ▸ h)
  · exact .inr (.inl ⟨d, hp d h⟩)
  · exact .inr (.inr ⟨c, hc c h⟩)

def Lasting.linksUnlogged : Lasting where
  holds := Machine.linksUnlogged
  onOut h _ := h
  onPower h _ := h
  onVfs h _ := h
  onList h _ := h
  onProg h _ := h
  onData h _ := h
  onFaults h _ := h
  onQueues h _ _ := h
  modTenant h _ _ _ := h
  modHost h _ _ _ := h
  vector {s} h fn v := h.lasts (by rw [State.vector_fw]) (fun d hd => by rw [State.port_congr (State.vector_ports (s := s) fn v) d]; exact hd)
    (fun c hc => by rw [State.pair, State.vector_cores]; exact hc)
  modPort {s} h d f hf := h.lasts rfl (fun e he => by
    by_cases hd : e = d
    · subst hd
      rw [State.port_modPort]
      exact hf.2 he
    · rw [s.port_modPort_ne d e f hd]
      exact he) (fun _ hc => hc)
  modCage h _ _ := h
  pend h _ _ := h
  onCores {s} h f hf := h.lasts rfl (fun _ hd => hd) (fun c hc => by
    show (tget ({} : Pair) (f s.cores).pairs c.val).retired = true
    rw [hf]
    exact hc)
  modPair {s} h c f hf := h.lasts rfl (fun _ hd => hd) (fun x hx => by
    by_cases hc : x = c
    · subst hc
      rw [State.pair_modPair]
      exact hf hx
    · rw [s.pair_modPair_ne c x f hc]
      exact hx)
  logBoot {s} h e he := by
    obtain h | ⟨d, h⟩ | ⟨c, h⟩ := h
    · exact .inl (fun x hx => (List.mem_append.mp hx).elim (h x) (fun hx => List.mem_singleton.mp hx ▸ he))
    · exact .inr (.inl ⟨d, h⟩)
    · exact .inr (.inr ⟨c, h⟩)

/-- A port in UP that retrains counts it; of another nothing is logged. -/
theorem linksUnlogged_retrainBy {s : State} (h : linksUnlogged s) (d : DPort) (beyond : Bool) : linksUnlogged (s.retrainBy d beyond) := by
  have hkeep := portKeeps_retrain (s.port d) (decide ((s.port d).link = 5) || beyond)
  have hfold : ∀ (K : Lasting) f, K.holds (s.modPort d f) → K.holds ((((s.modPort d f).allExch d (fun s g => s.loseExch d g)).dropOwed d).firePort d 1) :=
    fun K f hf => Lasting.firePort (Lasting.dropOwed (Lasting.allExch hf d _ (fun s g hs => Lasting.loseExch hs d g)) d) d 1
  unfold State.retrainBy
  refine Lasting.ite (K := Lasting.linksUnlogged) (fun hup => .inr (.inl ⟨d, ?_⟩)) (fun _ => hfold Lasting.linksUnlogged _ (Lasting.linksUnlogged.modPort h d _ hkeep))
  refine Lasting.portEvent (K := Lasting.ofPort d (fun p => p.retrains ≠ 0) (fun _ _ hk => hk.2)) (Lasting.ofPorts_logLink (hfold _ _ ?_) _ _ _ _) _
  show (portIn (s.modPort d _).ports d).retrains ≠ 0
  rw [portIn_modPort_same]
  dsimp only
  rw [if_pos (c := (decide ((s.port d).link = 5) || beyond) = true) (by rw [decide_eq_true hup]; rfl)]
  exact satInc_ne_zero _

/-- What a retrain or the retirement of a pair logs of a link, it logs beside its mark. -/
def Settling.linksUnlogged : Settling where
  toLasting := Lasting.linksUnlogged
  queues h _ := h
  modOq h _ _ := h
  onOrders h _ := h
  onFw h f hf := h.lasts hf (fun _ hd => hd) (fun _ hc => hc)
  retrainBy h d beyond := linksUnlogged_retrainBy h d beyond
  retirePair {s} h c := .inr (.inr ⟨c, congrArg Pair.retired (State.pair_modPair _ c _)⟩)

/-- The Tender is up and the carrier links are settled; no pair serves the ports of slot 0, and the fault log's memory is out of service. -/
def unserved : State :=
  { State.reset with
    fw := { State.reset.fw with hbm := true, dark := [1, 2, 3], links := [(0, true), (1, true), (2, true), (3, true)] }
    cores := { State.reset.cores with tenderUp := true, pairs := [(1, { running := true, slot := some 1 }), (2, { running := true, slot := some 2 }),
      (3, { running := true, slot := some 3 }), (4, { running := true, slot := some 4 }), (5, { running := true, slot := some 5 }),
      (6, { running := true, slot := some 6 }), (7, { running := true, slot := some 7 })] } }

/-- Its first round of slots fences the ports of slot 0 and keeps the log entries of their links for later; none was retrained, no pair retired. -/
theorem unserved_logs : (doModuleReadyForOrders unserved).fw.bootFaults.any (fun e => e.kind == 6) = true := by decide +kernel

theorem unserved_retrains : ∀ d : DPort, ((doModuleReadyForOrders unserved).port d).retrains = 0 := by decide +kernel

theorem unserved_retired : ∀ c : PairNum, ((doModuleReadyForOrders unserved).pair c).retired = false := by decide +kernel

/-- Refutes O45: the ports of a slot that no pair can serve are fenced and logged on MODULE_READY_FOR_ORDERS; with the fault log's memory out of service those
entries join the firmware part, which then differs by more than the module being ready. -/
theorem not_bringUp : ¬ Obligations.BringUp := by
  unfold Obligations.BringUp
  intro h
  obtain ⟨-, -, -, -, -, -, -, hready⟩ := h
  obtain ⟨u, hu, hfw, -⟩ := hready unserved (by decide) (by decide) (by decide) (by decide) (by decide)
  have hstart : linksUnlogged u := .inl (by
    rw [hfw]
    exact fun e he => absurd he List.not_mem_nil)
  have hend : linksUnlogged (doModuleReadyForOrders unserved) := by
    rw [Host.Outcome.next.inj hu]
    exact Settling.settle (K := Settling.linksUnlogged) hstart
  obtain hnone | ⟨d, hd⟩ | ⟨c, hc⟩ := hend
  · obtain ⟨e, he, hk⟩ := List.any_eq_true.mp unserved_logs
    exact hnone e he (eq_of_beq hk)
  · exact hd (unserved_retrains d)
  · exact Bool.false_ne_true ((unserved_retired c).symm.trans hc)

end Sys2Proof.Machine
